-- ==== Sys2Proof/Word.lean ====
section
/-! DEFINITION. The word types of the P9160 (R6 to R10): registers are 32 bits, Tally and program words 64 bits. -/
namespace Sys2Proof

/-- A byte (R6). -/
abbrev Byte := BitVec 8

/-- A 32-bit register, descriptor or data-memory word (R6). -/
abbrev Word := BitVec 32

/-- A 64-bit word: a Tally (R39) or a CLE program word (R103). -/
abbrev DWord := BitVec 64

end Sys2Proof
end

