-- ==== Sys2Proof/Syntax.lean ====
section
/-! DEFINITION. The commands of the P9160: one constructor of `Instr` per row of spec/opcode_table.json, with the
operands the spec gives each row. Operands that the spec does not bound by their own width are numbers, and
WellFormed.lean states their ranges. -/
namespace Sys2Proof

/-- The two lanes (R246). -/
inductive LaneId where
  | a | b
deriving DecidableEq, Repr

/-- The lane or lanes in which a lane event happens: both lanes run alike (R20), and a faulty lane alone may differ. -/
inductive LaneSel where
  | a | b | both
deriving DecidableEq, Repr

/-- The two CLE datapaths of a lane (R98). -/
inductive Dp where
  | dp0 | dp1
deriving DecidableEq, Repr

/-- The five ports of R434. -/
inductive Port where
  | host | farmA | farmB | service | debug
deriving DecidableEq, Repr

/-- The Ethernet ports (R437). -/
inductive NetPort where
  | farmA | farmB | service
deriving DecidableEq, Repr

/-- Who makes a register access: host software, the cores of a lane, or the DEBUG port (R44, R470). -/
inductive Requester where
  | host | coreA | coreB | debug
deriving DecidableEq, Repr

/-- The writers of registers are the requesters of R44. -/
abbrev Writer := Requester

/-- A delivery target of the EIC: an MSI-X vector, or a core pair of a lane (R359). -/
inductive Target where
  | vec (v : Nat)
  | pair (l : LaneId) (p : Nat)
deriving DecidableEq, Repr

/-- How the read of a command's data buffer ended (R340). -/
inductive DataRead where
  | none | ok | error | timeout
deriving DecidableEq, Repr

/-- The common descriptor header (R336). `sq` is 0–15 for the HOST queues, 16 FARM-A, 17 FARM-B, 18 SERVICE (R437).
`rsvd` says that some reserved bit of the header or the body is set. -/
structure Hdr where
  sq : Nat
  cmdId : BitVec 16
  group : Bool
  last : Bool
  commitId : Word
  dataAddr : DWord
  rsvd : Bool
  data : DataRead
deriving DecidableEq, Repr

/-- The segment body of TRAJ_SEGMENT (R165). -/
structure SegBody where
  unit : BitVec 2
  axmask : BitVec 6
  rel : Bool
  grp : Bool
  tag : BitVec 16
  blend : BitVec 16
  rateScale : BitVec 16
  tMin : Word
  targets : List Word
deriving DecidableEq, Repr

/-- The INJECT_START body (R387). -/
structure InjBody where
  node : Nat
  kind : Nat
  order : Nat
  hold : Nat
  amp : Word
  frames : Word
  f0 : Word
  f1 : Word
  log : Bool
  trace : Bool
  thrMask : BitVec 8
deriving DecidableEq, Repr

/-- Words 0 to 2 of a schedule entry (R60). -/
structure EntryWords where
  w0 : Word
  w1 : Word
  w2 : Word
deriving DecidableEq, Repr

/-- A LOAD_PROGRAM image as read from its buffer (R117): program words, context descriptors of eight words, binding
words and data words, each with its index. `readable` is false where the image's own lengths disagree; `library` tells that the
image is built from the templates of the law library (R131, R132). -/
structure Image where
  imgLen : Nat
  readable : Bool
  prog : List (Nat × DWord)
  descs : List (Nat × List Word)
  binds : List (Nat × Word)
  data : List (Nat × Word)
  library : Bool
deriving DecidableEq, Repr

/-- What a package carries, read from its payload (R422, R433, R220, R274, R427). -/
inductive PkgContent where
  | sluiceConfig
  | firmware (irolo : Byte)
  | library (apiMaj apiMin : Byte)
  | config (threads : BitVec 8) (img : Image)
  | envelope (dt pulse edge inner : Nat) (clamp : Bool) (bsOn bsOff corrMax : Nat)
  | safety (regs : List (Nat × Word))
  | otpMin (dt pulse edge inner : Nat)
  | debugToken (nonce : DWord) (scope : BitVec 4) (minutes : Nat)
  | scrap
deriving DecidableEq, Repr

/-- A signed package (R422). The results of the two signature verifications and of the payload hash are facts about
its bytes and stand as fields. -/
structure Package where
  layoutOk : Bool
  type : Nat
  verMaj : BitVec 4
  verMin : BitVec 4
  svn : Nat
  device : BitVec 128
  len : Nat
  hash : BitVec 512
  keyIdx : Nat
  keyUsage : BitVec 16
  rootOk : Bool
  keySigOk : Bool
  pkgSigOk : Bool
  hashOk : Bool
  content : PkgContent
deriving DecidableEq, Repr

/-- The 26 host commands with their bodies (R339, R340), and an opcode outside 0x01–0x1A. SET_SETPOINT lists its used pairs
as (place n, index, value). -/
inductive HostCmd where
  | nop
  | setSetpoint (pairs : List (Nat × Nat × Word))
  | trajSegment (b : SegBody)
  | trajStop (units : BitVec 4)
  | setMode (thr : BitVec 8) (mode : BitVec 16)
  | arm (thr : BitVec 8)
  | disarm (thr : BitVec 8)
  | writeRegs (buffered : Bool) (pairs : List (Nat × Word))
  | readSnapshot (set mode bufLen : Nat)
  | loadCoeff (ctx bank offset : Nat) (words : List Word)
  | swapBank (ctxs : List Nat) (bumpless : Bool)
  | loadProgram (img : Image)
  | schedWrite (first : Nat) (entries : List EntryWords)
  | recArm
  | recStop
  | rakeStart (frames : Word)
  | injectStart (b : InjBody)
  | journalRead (firstSeq : Word) (count bufLen : Nat)
  | ioWrite (mask val : BitVec 16)
  | clearFault (thr : BitVec 8) (aux : BitVec 4) (module : Bool)
  | attest (nonce : List Byte) (mode bufLen : Nat)
  | timeAdjust (mode : Nat) (sec : BitVec 64) (nsec : Word)
  | groupStart (units : BitVec 4) (tStart : BitVec 64)
  | laneControl (lane : LaneId) (action : Nat)
  | fwStage (type action : Nat) (pkg : Package)
  | lockoutReset (tag : Word)
  | bad (opcode : Byte)
deriving DecidableEq, Repr

/-- What the data buffer of a command holds (R339): words, a LOAD_PROGRAM image or a package. -/
inductive DataBuf where
  | words (ws : List Word)
  | image (img : Image)
  | package (pkg : Package)
deriving DecidableEq, Repr

/-- A descriptor read from a submission queue: its 64 bytes with what its data buffer holds, or a failed read (R332, R333). -/
inductive Descriptor where
  | read (bytes : List Byte) (buf : DataBuf)
  | failed
deriving DecidableEq, Repr

/-- A stream buffer posted by host software (R349). -/
structure PostedBuf where
  addr : DWord
  len : Nat
deriving DecidableEq, Repr

/-- The three kinds of rings (R332, R349). -/
inductive QueueKind where
  | sq | cq | str
deriving DecidableEq, Repr

/-- The target words of a time compare (R409). -/
inductive CmpPart where
  | sLo | sHi | ns
deriving DecidableEq, Repr

/-- How the per-frame copy of the ending frame stands at a boundary (R260). `len` is in units of 256 bytes. -/
inductive CopyResult where
  | none
  | complete (len : Byte)
  | crcBad
  | incomplete
deriving DecidableEq, Repr

/-- The two field supplies (R305). -/
inductive Supply where
  | vf1 | vf2
deriving DecidableEq, Repr

/-- An edge of a modulator clock, rising or falling, and the bit on the data pin at it (R76). -/
structure SdEdge where
  rising : Bool
  bit : Bool
deriving DecidableEq, Repr

/-- A frame received on a gate link: the link and whether its CRC and length are good (R204). -/
structure GlRx where
  link : Nat
  crcOk : Bool
deriving DecidableEq, Repr

/-- An edge on an encoder input, with the level after it (R279). -/
inductive EncEdge where
  | a (level : Bool)
  | b (level : Bool)
deriving DecidableEq, Repr

/-- The payload of an ANNOUNCE frame (R412's bus table, R414). Versions are group protocol majors. -/
structure Announce where
  id : Nat
  leaderEn : Bool
  verLo : Nat
  verHi : Nat
  n : Nat
  frameSrc : Nat
  tally : DWord
  atLocal : Bool
deriving DecidableEq, Repr

/-- A descriptor frame on a network port: the 64 bytes of its descriptor, whose bytes 8 to 15 hold the data length, and what its
data fragments carry (R437). -/
structure NetFrame where
  port : NetPort
  etype : BitVec 16
  verMaj : Byte
  verMin : Byte
  xid : Word
  src : Nat
  bytes : List Byte
  buf : DataBuf
deriving DecidableEq, Repr

/-- The operand fields of a CLE program word (R103). -/
structure CleWord where
  dst : BitVec 5
  sa : BitVec 5
  sb : BitVec 5
  acc : BitVec 2
  shift : BitVec 6
  sat : Bool
  mod : BitVec 2
  imm : Word
deriving DecidableEq, Repr

/-- The commands, one constructor per row of the table, in its order. -/
inductive Instr where
  /-- NOP (R341). -/
  | nop (h : Hdr)
  /-- SET_SETPOINT (R341). -/
  | setSetpoint (h : Hdr) (pairs : List (Nat × Nat × Word))
  /-- TRAJ_SEGMENT (R166). -/
  | trajSegment (h : Hdr) (b : SegBody)
  /-- TRAJ_STOP (R173). -/
  | trajStop (h : Hdr) (units : BitVec 4)
  /-- SET_MODE (R138). -/
  | setMode (h : Hdr) (thr : BitVec 8) (mode : BitVec 16)
  /-- ARM (R32). -/
  | arm (h : Hdr) (thr : BitVec 8)
  /-- DISARM (R32). -/
  | disarm (h : Hdr) (thr : BitVec 8)
  /-- WRITE_REGS (R341). -/
  | writeRegs (h : Hdr) (buffered : Bool) (pairs : List (Nat × Word))
  /-- READ_SNAPSHOT (R348). -/
  | readSnapshot (h : Hdr) (set mode : Nat) (bufLen : Nat)
  /-- LOAD_COEFF (R128). -/
  | loadCoeff (h : Hdr) (ctx bank offset : Nat) (words : List Word)
  /-- SWAP_BANK (R129). -/
  | swapBank (h : Hdr) (ctxs : List Nat) (bumpless : Bool)
  /-- LOAD_PROGRAM (R117). -/
  | loadProgram (h : Hdr) (img : Image)
  /-- SCHED_WRITE (R62). -/
  | schedWrite (h : Hdr) (first : Nat) (entries : List EntryWords)
  /-- REC_ARM (R379). -/
  | recArm (h : Hdr)
  /-- REC_STOP (R380). -/
  | recStop (h : Hdr)
  /-- RAKE_START (R386). -/
  | rakeStart (h : Hdr) (frames : Word)
  /-- INJECT_START (R387). -/
  | injectStart (h : Hdr) (b : InjBody)
  /-- JOURNAL_READ (R391). -/
  | journalRead (h : Hdr) (firstSeq : Word) (count bufLen : Nat)
  /-- IO_WRITE (R320). -/
  | ioWrite (h : Hdr) (mask val : BitVec 16)
  /-- CLEAR_FAULT (R242). -/
  | clearFault (h : Hdr) (thr : BitVec 8) (aux : BitVec 4) (module : Bool)
  /-- ATTEST (R430). -/
  | attest (h : Hdr) (nonce : List Byte) (mode bufLen : Nat)
  /-- TIME_ADJUST (R407). -/
  | timeAdjust (h : Hdr) (mode : Nat) (sec : BitVec 64) (nsec : Word)
  /-- GROUP_START (R172). -/
  | groupStart (h : Hdr) (units : BitVec 4) (tStart : BitVec 64)
  /-- LANE_CONTROL (R266). -/
  | laneControl (h : Hdr) (lane : LaneId) (action : Nat)
  /-- FW_STAGE (R426). -/
  | fwStage (h : Hdr) (type action : Nat) (pkg : Package)
  /-- LOCKOUT_RESET (R244). -/
  | lockoutReset (h : Hdr) (tag : Word)
  /-- SQ_TAIL (R333). -/
  | sqTail (q : Nat) (v : Nat)
  /-- CQ_HEAD (R333). -/
  | cqHead (q : Nat) (v : Nat)
  /-- STR_TAIL (R349). -/
  | strTail (r : Nat) (v : Nat) (posted : List PostedBuf)
  /-- PRE_SLEEP (R372). -/
  | preSleep
  /-- DESCRIPTOR_FETCH (R334). -/
  | descriptorFetch (sq : Nat) (d : Descriptor)
  /-- STAGING_DONE (R342). -/
  | stagingDone (tag : Nat) (data : DataRead)
  /-- COMMIT_GROUP_TIMEOUT (R344). -/
  | commitGroupTimeout (sq : Nat)
  /-- QUEUE_ENABLE (R332). -/
  | queueEnable (kind : QueueKind) (q : Nat) (v : Word)
  /-- IF_EN (R353). -/
  | ifEn (v : Word)
  /-- STREAM_RECORD_WRITE (R350). -/
  | streamRecordWrite (r : Nat)
  /-- STREAM_FLUSH (R350). -/
  | streamFlush (r : Nat)
  /-- MAINT_REQ (R36). -/
  | maintReq (p : Port) (v : Word)
  /-- TALLY_LO_READ (R44). -/
  | tallyLoRead (who : Requester)
  /-- STEP (R49). -/
  | angStep (who : Writer) (src : Nat) (v : Word)
  /-- LOAD (R49). -/
  | angLoad (who : Writer) (src : Nat) (v : Word)
  /-- FIR_DATA_WRITE (R85). -/
  | firDataWrite (who : Writer) (v : Word)
  /-- FIR_DATA_READ (R85). -/
  | firDataRead (who : Requester)
  /-- PRESET (R176). -/
  | preset (who : Writer) (sel : Word)
  /-- LEG_DIS (R195). -/
  | legDis (who : Writer) (upper : Bool) (v : Word)
  /-- DIS_ALL (R195). -/
  | disAll (who : Writer) (v : Word)
  /-- GL_RENEG (R201). -/
  | glReneg (who : Writer) (v : Word)
  /-- RUN (R212). -/
  | auxRun (who : Writer) (ch : Nat) (v : Word)
  /-- ENVELOPE_LOCK (R219). -/
  | envelopeLock (who : Writer) (v : Word)
  /-- SO_REQ (R294). -/
  | soReq (who : Writer) (n : Nat) (v : Word)
  /-- DO_OUT (R314). -/
  | doOut (who : Writer) (v : Word)
  /-- DO_REARM (R323). -/
  | doRearm (who : Writer) (v : Word)
  /-- TS_NS_READ (R318). -/
  | tsNsRead
  /-- TS_S_READ (R318). -/
  | tsSRead
  /-- PTP_STAMP_READ (R411). -/
  | ptpStampRead (p : Nat)
  /-- CLAIM (R363). -/
  | claim (t : Target)
  /-- COMPLETE (R364). -/
  | complete (t : Target) (id : Nat)
  /-- PEND_WRITE (R366). -/
  | pendWrite (j : Nat) (v : Word)
  /-- VEC_IDLE (R361). -/
  | vecIdle (v : Nat) (w : Word)
  /-- TIMER_WRITE (R369). -/
  | timerWrite (v : Word)
  /-- MSIX_UNMASK (R362). -/
  | msixUnmask (v : Nat)
  /-- TIME_INC_NS (R404). -/
  | timeIncNs (who : Writer) (v : Word)
  /-- TIME_NOW_NS_READ (R405). -/
  | timeNowNsRead (who : Requester)
  /-- CMP_ARM (R410). -/
  | cmpArm (who : Writer) (c : Nat) (v : Word)
  /-- CMP_TARGET_WRITE (R410). -/
  | cmpTargetWrite (who : Writer) (c : Nat) (part : CmpPart) (v : Word)
  /-- SYNC_WRITE (R408). -/
  | syncWrite (who : Writer) (v : Word)
  /-- CLK_NDIV (R398). -/
  | clkNdiv (who : Writer) (v : Word)
  /-- CLK_DITHER (R399). -/
  | clkDither (who : Writer) (v : Word)
  /-- RESTART (R414). -/
  | grpRestart (who : Writer) (v : Word)
  /-- SOFT_RESET (R451). -/
  | softReset (who : Writer) (v : Word)
  /-- WDT_SERVICE (R453). -/
  | wdtService (lane : LaneId)
  /-- JRNL_FW_CODE (R392). -/
  | jrnlFwCode (lane : LaneId) (code : BitVec 16)
  /-- LANE_VIEW_WRITE (R470). -/
  | laneViewWrite (who : Writer) (lane : LaneId) (off : Nat) (v : Word)
  /-- REG_WRITE (R329). -/
  | regWrite (who : Writer) (off size : Nat) (v : BitVec 64)
  /-- FRAME_BOUNDARY (R67). -/
  | frameBoundary (copy : CopyResult)
  /-- ENTRY_CROSSING (R51). -/
  | entryCrossing (ln : LaneSel) (src idx : Nat)
  /-- ENTRY_DISPATCH (R64). -/
  | entryDispatch (ln : LaneSel)
  /-- SYNC_PULSE_END (R61). -/
  | syncPulseEnd (ln : LaneSel) (line : Nat)
  /-- CONVERSION_DONE (R70). -/
  | conversionDone (ln : LaneSel) (core : Nat) (raw : BitVec 16)
  /-- GRID_CONVERSION (R79). -/
  | gridConversion (ln : LaneSel) (k : Nat)
  /-- FILTER_OUTPUT (R80). -/
  | filterOutput (ln : LaneSel) (k : Nat)
  /-- CONV_TRIGGER (R192). -/
  | convTrigger (ln : LaneSel) (cg t : Nat)
  /-- FAST_CMP (R93). -/
  | fastCmp (ln : LaneSel) (input : Nat) (microvolts : Int)
  /-- CLE_NOP (R107). -/
  | cleNop (ln : LaneSel) (dp : Dp) (w : CleWord)
  /-- END (R107). -/
  | cleEnd (ln : LaneSel) (dp : Dp) (w : CleWord)
  /-- LDI (R107). -/
  | cleLdi (ln : LaneSel) (dp : Dp) (w : CleWord)
  /-- MOV (R107). -/
  | cleMov (ln : LaneSel) (dp : Dp) (w : CleWord)
  /-- ADD (R107). -/
  | cleAdd (ln : LaneSel) (dp : Dp) (w : CleWord)
  /-- SUB (R107). -/
  | cleSub (ln : LaneSel) (dp : Dp) (w : CleWord)
  /-- ADDI (R107). -/
  | cleAddi (ln : LaneSel) (dp : Dp) (w : CleWord)
  /-- NEG (R107). -/
  | cleNeg (ln : LaneSel) (dp : Dp) (w : CleWord)
  /-- ABS (R107). -/
  | cleAbs (ln : LaneSel) (dp : Dp) (w : CleWord)
  /-- SHL (R107). -/
  | cleShl (ln : LaneSel) (dp : Dp) (w : CleWord)
  /-- SHR (R107). -/
  | cleShr (ln : LaneSel) (dp : Dp) (w : CleWord)
  /-- AND (R107). -/
  | cleAnd (ln : LaneSel) (dp : Dp) (w : CleWord)
  /-- OR (R107). -/
  | cleOr (ln : LaneSel) (dp : Dp) (w : CleWord)
  /-- XOR (R107). -/
  | cleXor (ln : LaneSel) (dp : Dp) (w : CleWord)
  /-- MUL (R107). -/
  | cleMul (ln : LaneSel) (dp : Dp) (w : CleWord)
  /-- MULI (R107). -/
  | cleMuli (ln : LaneSel) (dp : Dp) (w : CleWord)
  /-- MAC (R107). -/
  | cleMac (ln : LaneSel) (dp : Dp) (w : CleWord)
  /-- MSU (R107). -/
  | cleMsu (ln : LaneSel) (dp : Dp) (w : CleWord)
  /-- LDA (R107). -/
  | cleLda (ln : LaneSel) (dp : Dp) (w : CleWord)
  /-- CLRA (R107). -/
  | cleClra (ln : LaneSel) (dp : Dp) (w : CleWord)
  /-- EXA (R107). -/
  | cleExa (ln : LaneSel) (dp : Dp) (w : CleWord)
  /-- SAT (R107). -/
  | cleSat (ln : LaneSel) (dp : Dp) (w : CleWord)
  /-- MIN (R107). -/
  | cleMin (ln : LaneSel) (dp : Dp) (w : CleWord)
  /-- MAX (R107). -/
  | cleMax (ln : LaneSel) (dp : Dp) (w : CleWord)
  /-- CMP (R107). -/
  | cleCmp (ln : LaneSel) (dp : Dp) (w : CleWord)
  /-- SEL (R107). -/
  | cleSel (ln : LaneSel) (dp : Dp) (w : CleWord)
  /-- INTEG (R109). -/
  | cleInteg (ln : LaneSel) (dp : Dp) (w : CleWord)
  /-- LPF1 (R107). -/
  | cleLpf1 (ln : LaneSel) (dp : Dp) (w : CleWord)
  /-- CLARKE (R108). -/
  | cleClarke (ln : LaneSel) (dp : Dp) (w : CleWord)
  /-- ICLARKE (R108). -/
  | cleIclarke (ln : LaneSel) (dp : Dp) (w : CleWord)
  /-- PARK (R108). -/
  | clePark (ln : LaneSel) (dp : Dp) (w : CleWord)
  /-- IPARK (R108). -/
  | cleIpark (ln : LaneSel) (dp : Dp) (w : CleWord)
  /-- SINCOS (R108). -/
  | cleSincos (ln : LaneSel) (dp : Dp) (w : CleWord)
  /-- SQRT (R111). -/
  | cleSqrt (ln : LaneSel) (dp : Dp) (w : CleWord)
  /-- DIV (R111). -/
  | cleDiv (ln : LaneSel) (dp : Dp) (w : CleWord)
  /-- LUT (R110). -/
  | cleLut (ln : LaneSel) (dp : Dp) (w : CleWord)
  /-- LD (R112). -/
  | cleLd (ln : LaneSel) (dp : Dp) (w : CleWord)
  /-- ST (R112). -/
  | cleSt (ln : LaneSel) (dp : Dp) (w : CleWord)
  /-- IN (R115). -/
  | cleIn (ln : LaneSel) (dp : Dp) (w : CleWord)
  /-- OUT (R116). -/
  | cleOut (ln : LaneSel) (dp : Dp) (w : CleWord)
  /-- ANG (R107). -/
  | cleAng (ln : LaneSel) (dp : Dp) (w : CleWord)
  /-- GROUP_DEADLINE (R125). -/
  | groupDeadline (ln : LaneSel) (g : Nat)
  /-- BUDGET_STOP (R127). -/
  | budgetStop (ln : LaneSel) (dp : Dp)
  /-- EDGE_CUT (R20). -/
  | edgeCut
  /-- SET_COMPARE (R249). -/
  | setCompare (arrivedA arrivedB : Bool)
  /-- CORR_WINDOW_ROLL (R223). -/
  | corrWindowRoll
  /-- SELF_CHECK_VERDICT (R253). -/
  | selfCheckVerdict (lane : LaneId) (sig0 sig1 : BitVec 64)
  /-- WDT_EXPIRY (R264). -/
  | wdtExpiry (lane : LaneId)
  /-- LANE_ERROR_REPORT (R263). -/
  | laneErrorReport (lane : LaneId) (ecc : Bool)
  /-- BULK_COPY_DONE (R267). -/
  | bulkCopyDone (lane : LaneId) (micros : Nat)
  /-- RESYNC_TIMEOUT (R268). -/
  | resyncTimeout (lane : LaneId)
  /-- IROLO_HANDSHAKE (R19). -/
  | iroloHandshake (verA verB : BitVec 8)
  /-- NEGOTIATION_IDLE_END (R199). -/
  | negotiationIdleEnd (n : Nat)
  /-- HELLO_REQ_RESEND (R199). -/
  | helloReqResend (n : Nat)
  /-- HELLO (R199). -/
  | glHello (rx : GlRx) (hi lo : BitVec 16) (sw : Nat) (type : BitVec 16)
  /-- HELLO_TIMEOUT (R199). -/
  | helloTimeout (n : Nat)
  /-- ECHO (R202). -/
  | glEcho (n : Nat) (roundTrip : Nat)
  /-- DELAY_MEASURED (R203). -/
  | delayMeasured (n : Nat)
  /-- PING_PERIODIC (R202). -/
  | pingPeriodic (n : Nat) (roundTrip : Nat)
  /-- GL_SYNC_SEND (R205). -/
  | glSyncSend (n : Nat)
  /-- TLM (R208). -/
  | glTlm (n : Nat) (crcOk : Bool) (bytes : List Byte)
  /-- TLM_TIMEOUT (R208). -/
  | tlmTimeout (n : Nat)
  /-- ALIGNMENT_LOSS (R208). -/
  | alignmentLoss (n : Nat)
  /-- CHARACTERS_RETURN (R208). -/
  | charactersReturn (n : Nat)
  /-- FAULT (R209). -/
  | glFault (n : Nat) (d compl : Byte) (inFrame : Bool)
  /-- GL1_FAULT (R211). -/
  | gl1Fault (n : Nat) (low : Bool)
  /-- HALL_CHANGE (R213). -/
  | hallChange (ch : Nat) (code : BitVec 3)
  /-- AUX_SHUNT_TRIP (R215). -/
  | auxShuntTrip (ch : Nat) (microvolts : Nat)
  /-- AUX_STALL (R216). -/
  | auxStall (ch : Nat)
  /-- AUX_PRECHARGE_END (R214). -/
  | auxPrechargeEnd (ch : Nat)
  /-- TRIP_INPUT (R238). -/
  | tripInput (n : Nat) (level : Bool)
  /-- CAUSE_GONE (R242). -/
  | causeGone
  /-- ACK_LOW (R244). -/
  | ackLow
  /-- SAFETY_CYCLE (R271). -/
  | safetyCycle (ln : LaneSel)
  /-- SMON_FAULT (R273). -/
  | smonFault
  /-- SI_SAMPLE (R290). -/
  | siSample (a b : BitVec 8)
  /-- SI_DISC (R292). -/
  | siDisc (ln : LaneSel) (pair : Nat)
  /-- SPD_DISC (R283). -/
  | spdDisc (ln : LaneSel)
  /-- SLT_MOT (R285). -/
  | sltMot (ln : LaneSel)
  /-- SSI_READ_START (R279). -/
  | ssiReadStart (n : Nat)
  /-- SSI_READ_DONE (R279). -/
  | ssiReadDone (ln : LaneSel) (n : Nat) (raw : Word) (endHigh : Bool)
  /-- SSI_READ_TIMEOUT (R279). -/
  | ssiReadTimeout (ln : LaneSel) (n : Nat)
  /-- ENC_INDEX (R280). -/
  | encIndex (ln : LaneSel) (n : Nat)
  /-- DEGRADED_MINUTE (R287). -/
  | degradedMinute
  /-- DEGRADED_END (R288). -/
  | degradedEnd
  /-- TEST_PULSE (R289). -/
  | testPulse (n : Nat)
  /-- SO_TEST_START (R295). -/
  | soTestStart (n : Nat)
  /-- SO_TEST_END (R296). -/
  | soTestEnd (n : Nat) (allLow : Bool)
  /-- SO_TEST_RECHECK (R296). -/
  | soTestRecheck (n : Nat) (high : Bool)
  /-- SO_READBACK (R298). -/
  | soReadback (n : Nat) (high : Bool)
  /-- SO_OVERLOAD (R298). -/
  | soOverload (n : Nat)
  /-- PSF_CMD (R301). -/
  | psfCmd (ln : LaneSel) (frame : List Byte)
  /-- PSF_LOCKOUT_RESET (R302). -/
  | psfLockoutReset (ln : LaneSel) (frame : List Byte)
  /-- PSF_MATCH_WIN (R300). -/
  | psfMatchWin (ln : LaneSel)
  /-- PSF_TIMEOUT (R300). -/
  | psfTimeout (ln : LaneSel)
  /-- FIELD_FRAME_S (R321). -/
  | fieldFrameS (crcOk : Bool)
  /-- FIELD_FRAME_LANE (R310). -/
  | fieldFrameLane (lane : LaneId) (crcOk : Bool)
  /-- LANE_CHANNEL_SILENCE (R310). -/
  | laneChannelSilence (lane : LaneId)
  /-- S_SILENCE (R310). -/
  | sSilence
  /-- FIO_WDOG (R310). -/
  | fioWdog
  /-- FD_DOWN (R310). -/
  | fdDown
  /-- FIELD_CHAN (R311). -/
  | fieldChan (lane : LaneId)
  /-- SHUTDOWN (R313). -/
  | fdShutdown
  /-- SUPPLY_MEASURE (R306). -/
  | supplyMeasure (sup : Supply) (deciVolts : Int)
  /-- SUPPLY_RECOVERY (R307). -/
  | supplyRecovery (sup : Supply) (deciVolts : Int)
  /-- DI_SAMPLE (R316). -/
  | diSample (n : Nat) (raw : Bool)
  /-- OPEN (R319). -/
  | diOpen (n : Nat)
  /-- SUP_OVL (R319). -/
  | supOvl (j : Nat)
  /-- DISUP_RETRY (R319). -/
  | disupRetry (j : Nat)
  /-- DI_OT (R319). -/
  | diOt (n : Nat)
  /-- OVERLOAD (R323). -/
  | doOverload (n : Nat)
  /-- OT (R323). -/
  | doOt (n : Nat) (present : Bool)
  /-- BACKFEED (R323). -/
  | doBackfeed (n : Nat) (present : Bool)
  /-- DO_OPEN (R323). -/
  | doOpen (n : Nat)
  /-- MODERATION_TIMER (R360). -/
  | moderationTimer (t : Target)
  /-- TIMER (R369). -/
  | eicTimer
  /-- WAKE (R368). -/
  | wake (kind index : Nat)
  /-- D0_RETURN (R371). -/
  | d0Return
  /-- TRIGGER_UNIT_FIRE (R376). -/
  | triggerUnitFire (ln : LaneSel) (u : Nat) (frac : Nat)
  /-- REC_PRE_DONE (R379). -/
  | recPreDone (ln : LaneSel)
  /-- REC_POST_DONE (R379). -/
  | recPostDone (ln : LaneSel)
  /-- REC_DRAINED (R379). -/
  | recDrained (ln : LaneSel)
  /-- WAIT_SPACE (R381). -/
  | waitSpace (ln : LaneSel)
  /-- RAKE_FRAMES_DONE (R386). -/
  | rakeFramesDone (ln : LaneSel)
  /-- INJECTION_END (R389). -/
  | injectionEnd (ln : LaneSel) (n : Nat)
  /-- JOURNAL_COMMIT (R390). -/
  | journalCommit
  /-- PLL_LOSS (R400). -/
  | pllLoss
  /-- PLL_RELOCK (R402). -/
  | pllRelock (count : Nat)
  /-- RELOCK_FAIL (R402). -/
  | relockFail
  /-- REF_LOSS (R403). -/
  | refLoss
  /-- REF_RETURN (R403). -/
  | refReturn
  /-- NDIV_APPLY (R398). -/
  | ndivApply
  /-- FLL_UPDATE (R418). -/
  | fllUpdate (v : Word) (inLock : Bool)
  /-- FLL_LOCK_TIMEOUT (R414). -/
  | fllLockTimeout
  /-- TIME_CMP (R409). -/
  | timeCmp (c : Nat)
  /-- PTP_EVENT_STAMP (R411). -/
  | ptpEventStamp (p : Nat) (tx : Bool) (msg : BitVec 2) (seqId : BitVec 16)
  /-- ANNOUNCE (R414). -/
  | announce (a : Announce)
  /-- GROUP_WAIT_EXPIRY (R415). -/
  | groupWaitExpiry
  /-- PING (R416). -/
  | grpPing (sender : Nat)
  /-- GRP_ECHO (R416). -/
  | grpEcho (k : Nat) (roundTrip : Nat)
  /-- DELAYS (R416). -/
  | grpDelays (sender : Nat) (dly : List Nat)
  /-- TALLY (R43). -/
  | grpTally (common : BitVec 64) (startBoundary : BitVec 64)
  /-- BOUNDARY (R419). -/
  | grpBoundary (tallyLow : Byte) (angle inc : Word)
  /-- START (R172). -/
  | grpStart (units : BitVec 4) (tStart : BitVec 64)
  /-- TRIG (R384). -/
  | grpTrig (sender : Nat)
  /-- GRP_CLK_ABSENT (R420). -/
  | grpClkAbsent
  /-- BOUNDARY_MISSING (R420). -/
  | boundaryMissing
  /-- MEMBER_LOST (R420). -/
  | memberLost (k : Nat)
  /-- PACKAGE_CHECK_DONE (R423). -/
  | packageCheckDone
  /-- SIGNING_DONE (R431). -/
  | signingDone (rounds late : Nat)
  /-- DEBUG_TOKEN_EXPIRY (R433). -/
  | debugTokenExpiry
  /-- NET_DESCRIPTOR (R437). -/
  | netDescriptor (f : NetFrame)
  /-- NET_DATA_FRAGMENT (R437). -/
  | netDataFragment (p : NetPort) (xid : Word) (offset len : Nat) (last : Bool)
  /-- NET_DATA_TIMEOUT (R437). -/
  | netDataTimeout (p : NetPort) (xid : Word)
  /-- POR (R450). -/
  | por
  /-- BOOT_ATTEMPT_TIMEOUT (R425). -/
  | bootAttemptTimeout
  /-- LANE_IMAGES_LOADED (R34). -/
  | laneImagesLoaded
  /-- LANE_SELF_TEST_DONE (R35). -/
  | laneSelfTestDone (lane : LaneId) (ok : Bool)
  /-- START_UP_DONE (R34). -/
  | startUpDone
  /-- PGOOD_FALL (R445). -/
  | pgoodFall
  /-- VHOLD_LOW (R445). -/
  | vholdLow
  /-- BOD_WARN (R447). -/
  | bodWarn (millivolts : Nat)
  /-- BOD (R448). -/
  | bod
  /-- BOR (R449). -/
  | bor
  /-- PIN (R454). -/
  | pinReset
  /-- RST_N_RELEASE (R454). -/
  | rstNRelease
  /-- STUCK_RESET (R455). -/
  | stuckReset
  /-- RST_N_REARM (R455). -/
  | rstNRearm
  /-- PERST (R354). -/
  | perst
  /-- FLR (R354). -/
  | flr
  /-- POWER_STATE_EXIT_DONE (R459). -/
  | powerStateExitDone
  /-- SHELVED_EXIT (R460). -/
  | shelvedExit
  /-- ENC_EDGE (R279). -/
  | encEdge (ln : LaneSel) (n : Nat) (e : EncEdge)
  /-- SDCLK_EDGE (R76). -/
  | sdclkEdge (ln : LaneSel) (k : Nat) (e : SdEdge)
  /-- CHOPPING_PERIOD (R214). -/
  | choppingPeriod (ch : Nat)
  /-- BOD_RECOVERY (R448). -/
  | bodRecovery
  /-- BOR_RELEASE (R449). -/
  | borRelease
  /-- VBAT_LOW (R442). -/
  | vbatLow
  /-- D3HOT_ENTRY (R371). -/
  | d3hotEntry (pmeEn : Bool)
  /-- PCIE_LINK_CHANGE (R356). -/
  | pcieLinkChange (st : BitVec 16)
  /-- DI_COOLED (R319). -/
  | diCooled (n : Nat)
  /-- LOCKOUT_ACK_N_EDGE (R244). -/
  | lockoutAckNEdge (level : Bool)
deriving DecidableEq, Repr

end Sys2Proof
end

