-- ==== Sys2Proof/Decode.lean ====
section
/-! DEFINITION. The command a word spells. The opcode table gives no row any bits, so no word spells a command: commands
reach the part as accesses, frames and events, and they enter the queue with their operands (log 3). -/
namespace Sys2Proof

/-- The command that a word of the opcode table spells; the table gives bits to no row, so there is none. -/
def decodeTableWord (_nbits _w : Nat) : Option Instr := none

end Sys2Proof
end

