-- ==== Sys2Proof/Config.lean ====
section
/-! DEFINITION. What one part or one environment fixes and the spec leaves open. Every constant here is opaque: it has
no body, so nothing can be proved about its value (assumption log 2 and the entries named beside each). -/
namespace Sys2Proof.Config

/-- A fresh open value: applied to the counter State.free (log 2). -/
opaque freeWord : Nat → BitVec 32

/-- The device's fixed identity words SEC_DEV_IDj (R429, R472: as the device; log 4). -/
opaque deviceId : Nat → BitVec 32

/-- The choice a geometric CLE op makes within its error bound: a fixed function of op, result and operands (R108; log 12). -/
opaque geoChoice : Nat → Nat → BitVec 32 → BitVec 32 → BitVec 32 → Nat

/-- The rounding of a CHIRP (2) or MULTISINE (3) injection in frame k, which the spec does not fix (R388; log 13): the list holds
the kind with AMP, F0, F1, FRAMES and LOG of a chirp, or with the period and the lines in use of a multisine. -/
opaque injectRound : List Nat → Nat → Nat

/-- How far the frequency of an exponential CHIRP has run from the lower of F0 and F1 in frame k, by F0, F1 and FRAMES (R388; log
13). -/
opaque chirpStep : Nat → Nat → Nat → Nat → Nat

/-- The 64-bit expected signature of the stepping (R122; log 14). -/
opaque expectedSignature : Nat → BitVec 64

/-- The certificate bytes a part holds (R429; log 4). -/
opaque certificate : List (BitVec 8)

/-- SHAKE256 with 64 bytes of output (R421; log 15). -/
opaque shake256 : List (BitVec 8) → List (BitVec 8)

/-- The signature bytes of the signing engine over a message, in hedged mode (R421; log 15). -/
opaque signature : List (BitVec 8) → Nat → List (BitVec 8)

/-- The digest of OTP other than the identity key, in OTP order, from the words that show its contents: lifecycle,
revocation, counters and minima (R421, R430; log 15). -/
opaque otpDigest : List (BitVec 32) → List (BitVec 8)

/-- The first debug nonce, random at reset (R472; log 4). -/
opaque firstNonce : Nat → BitVec 32

/-- The phase of an OUT_FIXED modulator clock in ticks: the tick of a rising edge modulo DIV (R76; log 50). -/
opaque sdclkPhase : Nat → Nat

/-- The factor in Q3.29 by which the library's template scales the measurement of an input binding of a context to per-unit
(R135; log 47). -/
opaque libScale : Nat → Nat → BitVec 32

/-- The raw increment of θr at which the rotor of a thread's machine turns at its rated speed (R135, R159; log 47). -/
opaque libRotor : Nat → Nat

/-- The compare that the template's modulation of a three-level leg, or of a machine-side leg, gives from its voltage reference:
leg, switch, 0 SET or 1 CLR, and the reference in Q3.29 (R151, R159; log 47). -/
opaque libCompare : Nat → Nat → Nat → BitVec 32 → BitVec 16

end Sys2Proof.Config
end

