-- ==== Sys2Proof/Machine/Regs.lean ====
section
/-! DEFINITION. The registers of the part, from the register index (R474, R475) and the field tables of the chapters:
each register's BAR0 offset, each field's bits, and one descriptor per register family with its reset word, its access
masks (R12) and its survival class (R13). -/
namespace Sys2Proof.Machine

/-- A field of a register: the register's BAR0 offset and the field's highest and lowest bit (R6). -/
structure Fld where
  off : Nat
  hi : Nat
  lo : Nat
deriving DecidableEq, Repr

/-- SYS_ID. -/
abbrev SYS_ID : Nat := 0x0
abbrev SYS_ID_PART : Fld := ⟨SYS_ID, 31, 16⟩
abbrev SYS_ID_STEPPING : Fld := ⟨SYS_ID, 15, 8⟩
abbrev SYS_ID_GRADE : Fld := ⟨SYS_ID, 7, 0⟩
/-- SYS_STATE. -/
abbrev SYS_STATE : Nat := 0x10
abbrev SYS_STATE_CHECK_FAIL : Fld := ⟨SYS_STATE, 17, 17⟩
abbrev SYS_STATE_SINGLE_LANE : Fld := ⟨SYS_STATE, 16, 16⟩
abbrev SYS_STATE_ACTIVE_LANE : Fld := ⟨SYS_STATE, 8, 8⟩
abbrev SYS_STATE_PREV_STATE : Fld := ⟨SYS_STATE, 7, 4⟩
abbrev SYS_STATE_STATE : Fld := ⟨SYS_STATE, 3, 0⟩
/-- SYS_THREAD_STATE. -/
abbrev SYS_THREAD_STATE : Nat := 0x14
/-- SYS_CTRL. -/
abbrev SYS_CTRL : Nat := 0x20
abbrev SYS_CTRL_MAINT_REQ : Fld := ⟨SYS_CTRL, 0, 0⟩
/-- SYS_CFG. -/
abbrev SYS_CFG : Nat := 0x24
abbrev SYS_CFG_SINGLE_LANE_ARM : Fld := ⟨SYS_CFG, 0, 0⟩
/-- SYS_TALLY_LO. -/
abbrev SYS_TALLY_LO : Nat := 0x18
abbrev SYS_TALLY_LO_TALLY_LO : Fld := ⟨SYS_TALLY_LO, 31, 0⟩
/-- SYS_TALLY_HI. -/
abbrev SYS_TALLY_HI : Nat := 0x1c
abbrev SYS_TALLY_HI_TALLY_HI : Fld := ⟨SYS_TALLY_HI, 31, 0⟩
/-- HQ_CFG. -/
abbrev HQ_CFG : Nat := 0x2000
abbrev HQ_CFG_IF_EN : Fld := ⟨HQ_CFG, 31, 31⟩
abbrev HQ_CFG_GROUP_TIMEOUT : Fld := ⟨HQ_CFG, 15, 0⟩
/-- HQ_STAT. -/
abbrev HQ_STAT : Nat := 0x2004
abbrev HQ_STAT_READY : Fld := ⟨HQ_STAT, 31, 31⟩
abbrev HQ_STAT_TAG_HWM : Fld := ⟨HQ_STAT, 15, 8⟩
abbrev HQ_STAT_TAGS : Fld := ⟨HQ_STAT, 7, 0⟩
/-- HQ_IF_HOST. -/
abbrev HQ_IF_HOST : Nat := 0x2008
abbrev HQ_IF_HOST_HI_MAJ : Fld := ⟨HQ_IF_HOST, 31, 24⟩
abbrev HQ_IF_HOST_HI_MIN : Fld := ⟨HQ_IF_HOST, 23, 16⟩
abbrev HQ_IF_HOST_LO_MAJ : Fld := ⟨HQ_IF_HOST, 15, 8⟩
abbrev HQ_IF_HOST_LO_MIN : Fld := ⟨HQ_IF_HOST, 7, 0⟩
/-- HQ_IF_STAT. -/
abbrev HQ_IF_STAT : Nat := 0x200c
abbrev HQ_IF_STAT_MAJ : Fld := ⟨HQ_IF_STAT, 31, 24⟩
abbrev HQ_IF_STAT_MIN : Fld := ⟨HQ_IF_STAT, 23, 16⟩
abbrev HQ_IF_STAT_FEAT_OFF : Fld := ⟨HQ_IF_STAT, 15, 8⟩
abbrev HQ_IF_STAT_NO_COMMON : Fld := ⟨HQ_IF_STAT, 0, 0⟩
/-- HQ_LAST_ERR0. -/
abbrev HQ_LAST_ERR0 : Nat := 0x2010
abbrev HQ_LAST_ERR0_CMD_ID : Fld := ⟨HQ_LAST_ERR0, 31, 16⟩
abbrev HQ_LAST_ERR0_STATUS : Fld := ⟨HQ_LAST_ERR0, 15, 8⟩
abbrev HQ_LAST_ERR0_OPCODE : Fld := ⟨HQ_LAST_ERR0, 7, 0⟩
/-- HQ_LAST_ERR1. -/
abbrev HQ_LAST_ERR1 : Nat := 0x2014
abbrev HQ_LAST_ERR1_SQ : Fld := ⟨HQ_LAST_ERR1, 31, 28⟩
abbrev HQ_LAST_ERR1_INDEX : Fld := ⟨HQ_LAST_ERR1, 12, 0⟩
/-- HQ_MMIO_ERR. -/
abbrev HQ_MMIO_ERR : Nat := 0x2018
abbrev HQ_MMIO_ERR_STATUS : Fld := ⟨HQ_MMIO_ERR, 31, 24⟩
abbrev HQ_MMIO_ERR_OFFSET : Fld := ⟨HQ_MMIO_ERR, 19, 0⟩
/-- HQ_SQ_BASE_LO, by instance number. -/
abbrev HQ_SQ_BASE_LO (n : Nat) : Nat := 0x2100 + 32 * n
abbrev HQ_SQ_BASE_LO_BASE_LO (n : Nat) : Fld := ⟨HQ_SQ_BASE_LO n, 31, 12⟩
/-- HQ_SQ_BASE_HI, by instance number. -/
abbrev HQ_SQ_BASE_HI (n : Nat) : Nat := 0x2104 + 32 * n
abbrev HQ_SQ_BASE_HI_BASE_HI (n : Nat) : Fld := ⟨HQ_SQ_BASE_HI n, 31, 0⟩
/-- HQ_SQ_CFG, by instance number. -/
abbrev HQ_SQ_CFG (n : Nat) : Nat := 0x2108 + 32 * n
abbrev HQ_SQ_CFG_EN (n : Nat) : Fld := ⟨HQ_SQ_CFG n, 31, 31⟩
abbrev HQ_SQ_CFG_CQ (n : Nat) : Fld := ⟨HQ_SQ_CFG n, 27, 24⟩
abbrev HQ_SQ_CFG_WEIGHT (n : Nat) : Fld := ⟨HQ_SQ_CFG n, 23, 20⟩
abbrev HQ_SQ_CFG_TAG_MAX (n : Nat) : Fld := ⟨HQ_SQ_CFG n, 19, 14⟩
abbrev HQ_SQ_CFG_DEPTH (n : Nat) : Fld := ⟨HQ_SQ_CFG n, 3, 0⟩
/-- HQ_SQ_STAT, by instance number. -/
abbrev HQ_SQ_STAT (n : Nat) : Nat := 0x210c + 32 * n
abbrev HQ_SQ_STAT_FAULT (n : Nat) : Fld := ⟨HQ_SQ_STAT n, 31, 31⟩
abbrev HQ_SQ_STAT_CAUSE (n : Nat) : Fld := ⟨HQ_SQ_STAT n, 30, 28⟩
abbrev HQ_SQ_STAT_HEAD (n : Nat) : Fld := ⟨HQ_SQ_STAT n, 27, 16⟩
abbrev HQ_SQ_STAT_INFLIGHT (n : Nat) : Fld := ⟨HQ_SQ_STAT n, 6, 0⟩
/-- HQ_CQ_BASE_LO, by instance number. -/
abbrev HQ_CQ_BASE_LO (n : Nat) : Nat := 0x2300 + 32 * n
abbrev HQ_CQ_BASE_LO_BASE_LO (n : Nat) : Fld := ⟨HQ_CQ_BASE_LO n, 31, 12⟩
/-- HQ_CQ_BASE_HI, by instance number. -/
abbrev HQ_CQ_BASE_HI (n : Nat) : Nat := 0x2304 + 32 * n
abbrev HQ_CQ_BASE_HI_BASE_HI (n : Nat) : Fld := ⟨HQ_CQ_BASE_HI n, 31, 0⟩
/-- HQ_CQ_CFG, by instance number. -/
abbrev HQ_CQ_CFG (n : Nat) : Nat := 0x2308 + 32 * n
abbrev HQ_CQ_CFG_EN (n : Nat) : Fld := ⟨HQ_CQ_CFG n, 31, 31⟩
abbrev HQ_CQ_CFG_VEC (n : Nat) : Fld := ⟨HQ_CQ_CFG n, 20, 16⟩
abbrev HQ_CQ_CFG_DEPTH (n : Nat) : Fld := ⟨HQ_CQ_CFG n, 3, 0⟩
/-- HQ_CQ_STAT, by instance number. -/
abbrev HQ_CQ_STAT (n : Nat) : Nat := 0x230c + 32 * n
abbrev HQ_CQ_STAT_FAULT (n : Nat) : Fld := ⟨HQ_CQ_STAT n, 31, 31⟩
abbrev HQ_CQ_STAT_CAUSE (n : Nat) : Fld := ⟨HQ_CQ_STAT n, 30, 28⟩
abbrev HQ_CQ_STAT_TAIL (n : Nat) : Fld := ⟨HQ_CQ_STAT n, 27, 16⟩
abbrev HQ_CQ_STAT_RESERVED_CNT (n : Nat) : Fld := ⟨HQ_CQ_STAT n, 12, 1⟩
abbrev HQ_CQ_STAT_PHASE (n : Nat) : Fld := ⟨HQ_CQ_STAT n, 0, 0⟩
/-- HQ_STR_BASE_LO, by instance number. -/
abbrev HQ_STR_BASE_LO (n : Nat) : Nat := 0x2500 + 32 * n
abbrev HQ_STR_BASE_LO_BASE_LO (n : Nat) : Fld := ⟨HQ_STR_BASE_LO n, 31, 12⟩
/-- HQ_STR_BASE_HI, by instance number. -/
abbrev HQ_STR_BASE_HI (n : Nat) : Nat := 0x2504 + 32 * n
abbrev HQ_STR_BASE_HI_BASE_HI (n : Nat) : Fld := ⟨HQ_STR_BASE_HI n, 31, 0⟩
/-- HQ_STR_CFG, by instance number. -/
abbrev HQ_STR_CFG (n : Nat) : Nat := 0x2508 + 32 * n
abbrev HQ_STR_CFG_EN (n : Nat) : Fld := ⟨HQ_STR_CFG n, 31, 31⟩
abbrev HQ_STR_CFG_VEC (n : Nat) : Fld := ⟨HQ_STR_CFG n, 20, 16⟩
abbrev HQ_STR_CFG_FLUSH (n : Nat) : Fld := ⟨HQ_STR_CFG n, 15, 8⟩
abbrev HQ_STR_CFG_DEPTH (n : Nat) : Fld := ⟨HQ_STR_CFG n, 3, 0⟩
/-- HQ_STR_STAT, by instance number. -/
abbrev HQ_STR_STAT (n : Nat) : Nat := 0x250c + 32 * n
abbrev HQ_STR_STAT_GAPS (n : Nat) : Fld := ⟨HQ_STR_STAT n, 31, 16⟩
abbrev HQ_STR_STAT_HEAD (n : Nat) : Fld := ⟨HQ_STR_STAT n, 15, 4⟩
abbrev HQ_STR_STAT_PHASE (n : Nat) : Fld := ⟨HQ_STR_STAT n, 0, 0⟩
/-- HQ_SNAP_CFG, by instance number. -/
abbrev HQ_SNAP_CFG (n : Nat) : Nat := 0x2600 + 4 * n
abbrev HQ_SNAP_CFG_STREAM (n : Nat) : Fld := ⟨HQ_SNAP_CFG n, 31, 31⟩
abbrev HQ_SNAP_CFG_LEN (n : Nat) : Fld := ⟨HQ_SNAP_CFG n, 12, 0⟩
/-- HQ_SNAP_ITEM, by instance number. -/
abbrev HQ_SNAP_ITEM (n m : Nat) : Nat := 0x2800 + 256 * n + 4 * m
abbrev HQ_SNAP_ITEM_KIND (n m : Nat) : Fld := ⟨HQ_SNAP_ITEM n m, 31, 28⟩
abbrev HQ_SNAP_ITEM_COUNT_M1 (n m : Nat) : Fld := ⟨HQ_SNAP_ITEM n m, 27, 20⟩
abbrev HQ_SNAP_ITEM_ADDR (n m : Nat) : Fld := ⟨HQ_SNAP_ITEM n m, 19, 0⟩
/-- EIC_STAT. -/
abbrev EIC_STAT : Nat := 0x4000
abbrev EIC_STAT_BAD_COMPLETE : Fld := ⟨EIC_STAT, 15, 8⟩
/-- EIC_TIMER. -/
abbrev EIC_TIMER : Nat := 0x4004
abbrev EIC_TIMER_EN : Fld := ⟨EIC_TIMER, 31, 31⟩
abbrev EIC_TIMER_PERIODIC : Fld := ⟨EIC_TIMER, 30, 30⟩
abbrev EIC_TIMER_PERIOD : Fld := ⟨EIC_TIMER, 15, 0⟩
/-- EIC_WAKE_STAT. -/
abbrev EIC_WAKE_STAT : Nat := 0x4008
abbrev EIC_WAKE_STAT_HIT : Fld := ⟨EIC_WAKE_STAT, 31, 16⟩
abbrev EIC_WAKE_STAT_VALID : Fld := ⟨EIC_WAKE_STAT, 4, 4⟩
abbrev EIC_WAKE_STAT_FIRST : Fld := ⟨EIC_WAKE_STAT, 3, 0⟩
/-- EIC_PEND, by instance number. -/
abbrev EIC_PEND (n : Nat) : Nat := 0x4010 + 4 * n
abbrev EIC_PEND_PEND (n : Nat) : Fld := ⟨EIC_PEND n, 31, 0⟩
/-- EIC_HMASK, by instance number. -/
abbrev EIC_HMASK (n : Nat) : Nat := 0x4020 + 4 * n
abbrev EIC_HMASK_MASK (n : Nat) : Fld := ⟨EIC_HMASK n, 31, 0⟩
/-- EIC_INSVC, by instance number. -/
abbrev EIC_INSVC (n : Nat) : Nat := 0x4030 + 4 * n
abbrev EIC_INSVC_INSVC (n : Nat) : Fld := ⟨EIC_INSVC n, 31, 0⟩
/-- EIC_LEVEL, by instance number. -/
abbrev EIC_LEVEL (n : Nat) : Nat := 0x4040 + 4 * n
abbrev EIC_LEVEL_LIVE (n : Nat) : Fld := ⟨EIC_LEVEL n, 31, 0⟩
/-- EIC_ROUTE, by instance number. -/
abbrev EIC_ROUTE (n : Nat) : Nat := 0x4100 + 4 * n
/-- EIC_VEC_CFG, by instance number. -/
abbrev EIC_VEC_CFG (n : Nat) : Nat := 0x4200 + 8 * n
abbrev EIC_VEC_CFG_MODE (n : Nat) : Fld := ⟨EIC_VEC_CFG n, 31, 31⟩
abbrev EIC_VEC_CFG_VEC_IDLE (n : Nat) : Fld := ⟨EIC_VEC_CFG n, 30, 30⟩
abbrev EIC_VEC_CFG_CNT (n : Nat) : Fld := ⟨EIC_VEC_CFG n, 23, 16⟩
abbrev EIC_VEC_CFG_TIME (n : Nat) : Fld := ⟨EIC_VEC_CFG n, 15, 0⟩
/-- EIC_VEC_CLAIM, by instance number. -/
abbrev EIC_VEC_CLAIM (n : Nat) : Nat := 0x4204 + 8 * n
abbrev EIC_VEC_CLAIM_ID (n : Nat) : Fld := ⟨EIC_VEC_CLAIM n, 6, 0⟩
/-- EIC_PAIR_CFG, by instance number. -/
abbrev EIC_PAIR_CFG (n : Nat) : Nat := 0x4300 + 32 * n
abbrev EIC_PAIR_CFG_MODE (n : Nat) : Fld := ⟨EIC_PAIR_CFG n, 31, 31⟩
abbrev EIC_PAIR_CFG_CNT (n : Nat) : Fld := ⟨EIC_PAIR_CFG n, 23, 16⟩
abbrev EIC_PAIR_CFG_TIME (n : Nat) : Fld := ⟨EIC_PAIR_CFG n, 15, 0⟩
/-- EIC_PAIR_CLAIM, by instance number. -/
abbrev EIC_PAIR_CLAIM (n : Nat) : Nat := 0x4304 + 32 * n
abbrev EIC_PAIR_CLAIM_ID (n : Nat) : Fld := ⟨EIC_PAIR_CLAIM n, 6, 0⟩
/-- EIC_PAIR_MASK, by instance number. -/
abbrev EIC_PAIR_MASK (n m : Nat) : Nat := 0x4308 + 32 * n + 4 * m
abbrev EIC_PAIR_MASK_MASK (n m : Nat) : Fld := ⟨EIC_PAIR_MASK n m, 31, 0⟩
/-- EIC_SRC_LOG, by instance number. -/
abbrev EIC_SRC_LOG (n : Nat) : Nat := 0x4400 + 4 * n
abbrev EIC_SRC_LOG_CNT (n : Nat) : Fld := ⟨EIC_SRC_LOG n, 31, 16⟩
abbrev EIC_SRC_LOG_DATA (n : Nat) : Fld := ⟨EIC_SRC_LOG n, 15, 0⟩
/-- EIC_WAKE_SEL, by instance number. -/
abbrev EIC_WAKE_SEL (n : Nat) : Nat := 0x4600 + 4 * n
abbrev EIC_WAKE_SEL_KIND (n : Nat) : Fld := ⟨EIC_WAKE_SEL n, 31, 29⟩
abbrev EIC_WAKE_SEL_INDEX (n : Nat) : Fld := ⟨EIC_WAKE_SEL n, 4, 0⟩
/-- PWR_CFG. -/
abbrev PWR_CFG : Nat := 0x6000
abbrev PWR_CFG_STUCK_POLICY : Fld := ⟨PWR_CFG, 31, 31⟩
abbrev PWR_CFG_SHELF_EN : Fld := ⟨PWR_CFG, 30, 30⟩
abbrev PWR_CFG_HOLD_MIN : Fld := ⟨PWR_CFG, 15, 8⟩
abbrev PWR_CFG_WDT_MS : Fld := ⟨PWR_CFG, 7, 0⟩
/-- PWR_LAT_TOL. -/
abbrev PWR_LAT_TOL : Nat := 0x6004
abbrev PWR_LAT_TOL_LAT_TOL : Fld := ⟨PWR_LAT_TOL, 31, 0⟩
/-- PWR_STAT. -/
abbrev PWR_STAT : Nat := 0x6008
abbrev PWR_STAT_DENY : Fld := ⟨PWR_STAT, 23, 16⟩
abbrev PWR_STAT_TARGET : Fld := ⟨PWR_STAT, 10, 8⟩
abbrev PWR_STAT_EXITING : Fld := ⟨PWR_STAT, 3, 3⟩
abbrev PWR_STAT_STATE : Fld := ⟨PWR_STAT, 2, 0⟩
/-- PWR_DOZE_CH. -/
abbrev PWR_DOZE_CH : Nat := 0x600c
/-- PWR_RST. -/
abbrev PWR_RST : Nat := 0x6010
abbrev PWR_RST_CAUSE : Fld := ⟨PWR_RST, 31, 28⟩
abbrev PWR_RST_STUCK : Fld := ⟨PWR_RST, 24, 24⟩
abbrev PWR_RST_LANE_A_CNT : Fld := ⟨PWR_RST, 23, 16⟩
abbrev PWR_RST_LANE_B_CNT : Fld := ⟨PWR_RST, 15, 8⟩
/-- PWR_RESET. -/
abbrev PWR_RESET : Nat := 0x6014
abbrev PWR_RESET_KEY : Fld := ⟨PWR_RESET, 31, 16⟩
abbrev PWR_RESET_SOFT : Fld := ⟨PWR_RESET, 0, 0⟩
/-- PWR_BOD. -/
abbrev PWR_BOD : Nat := 0x6018
abbrev PWR_BOD_WARN_CNT : Fld := ⟨PWR_BOD, 31, 16⟩
abbrev PWR_BOD_WARN_LIVE : Fld := ⟨PWR_BOD, 1, 1⟩
abbrev PWR_BOD_SEEN : Fld := ⟨PWR_BOD, 0, 0⟩
/-- PWR_VHOLD. -/
abbrev PWR_VHOLD : Nat := 0x601c
abbrev PWR_VHOLD_HOLD_OK : Fld := ⟨PWR_VHOLD, 31, 31⟩
abbrev PWR_VHOLD_VHOLD : Fld := ⟨PWR_VHOLD, 15, 0⟩
/-- PWR_BOOT. -/
abbrev PWR_BOOT : Nat := 0x6020
abbrev PWR_BOOT_READY_MS : Fld := ⟨PWR_BOOT, 31, 16⟩
abbrev PWR_BOOT_LONG_STEP : Fld := ⟨PWR_BOOT, 3, 0⟩
/-- PWR_WDT_SVC. -/
abbrev PWR_WDT_SVC : Nat := 0x6028
abbrev PWR_WDT_SVC_SVC : Fld := ⟨PWR_WDT_SVC, 31, 0⟩
/-- CLK_CFG. -/
abbrev CLK_CFG : Nat := 0x8000
abbrev CLK_CFG_SRC : Fld := ⟨CLK_CFG, 0, 0⟩
/-- CLK_NDIV. -/
abbrev CLK_NDIV : Nat := 0x8004
abbrev CLK_NDIV_NINT : Fld := ⟨CLK_NDIV, 31, 24⟩
abbrev CLK_NDIV_FRAC : Fld := ⟨CLK_NDIV, 23, 0⟩
/-- CLK_DITHER. -/
abbrev CLK_DITHER : Nat := 0x8008
abbrev CLK_DITHER_EN : Fld := ⟨CLK_DITHER, 31, 31⟩
abbrev CLK_DITHER_SEED : Fld := ⟨CLK_DITHER, 22, 0⟩
/-- CLK_STAT. -/
abbrev CLK_STAT : Nat := 0x800c
abbrev CLK_STAT_FLL_LOCK : Fld := ⟨CLK_STAT, 3, 3⟩
abbrev CLK_STAT_REF_LOSS : Fld := ⟨CLK_STAT, 2, 2⟩
abbrev CLK_STAT_ON_REF : Fld := ⟨CLK_STAT, 1, 1⟩
abbrev CLK_STAT_LOCK : Fld := ⟨CLK_STAT, 0, 0⟩
/-- CLK_CNT. -/
abbrev CLK_CNT : Nat := 0x8010
abbrev CLK_CNT_LOSS : Fld := ⟨CLK_CNT, 31, 16⟩
abbrev CLK_CNT_RELOCK_FAIL : Fld := ⟨CLK_CNT, 15, 0⟩
/-- CLK_FREQ. -/
abbrev CLK_FREQ : Nat := 0x8014
abbrev CLK_FREQ_COUNT : Fld := ⟨CLK_FREQ, 10, 0⟩
/-- TIME_CTRL. -/
abbrev TIME_CTRL : Nat := 0x9000
abbrev TIME_CTRL_SYNC : Fld := ⟨TIME_CTRL, 0, 0⟩
/-- TIME_INC_NS. -/
abbrev TIME_INC_NS : Nat := 0x9004
abbrev TIME_INC_NS_INC_NS : Fld := ⟨TIME_INC_NS, 3, 0⟩
/-- TIME_INC_FRAC. -/
abbrev TIME_INC_FRAC : Nat := 0x9008
abbrev TIME_INC_FRAC_INC_FRAC : Fld := ⟨TIME_INC_FRAC, 31, 0⟩
/-- TIME_NOW_SUB. -/
abbrev TIME_NOW_SUB : Nat := 0x900c
abbrev TIME_NOW_SUB_SUB : Fld := ⟨TIME_NOW_SUB, 15, 0⟩
/-- TIME_NOW_NS. -/
abbrev TIME_NOW_NS : Nat := 0x9010
abbrev TIME_NOW_NS_NS : Fld := ⟨TIME_NOW_NS, 29, 0⟩
/-- TIME_NOW_S_LO. -/
abbrev TIME_NOW_S_LO : Nat := 0x9014
abbrev TIME_NOW_S_LO_S_LO : Fld := ⟨TIME_NOW_S_LO, 31, 0⟩
/-- TIME_NOW_S_HI. -/
abbrev TIME_NOW_S_HI : Nat := 0x9018
abbrev TIME_NOW_S_HI_S_HI : Fld := ⟨TIME_NOW_S_HI, 15, 0⟩
/-- TIME_CMP_CTRL, by instance number. -/
abbrev TIME_CMP_CTRL (n : Nat) : Nat := 0x9040 + 32 * n
abbrev TIME_CMP_CTRL_ARM (n : Nat) : Fld := ⟨TIME_CMP_CTRL n, 31, 31⟩
abbrev TIME_CMP_CTRL_PERIODIC (n : Nat) : Fld := ⟨TIME_CMP_CTRL n, 30, 30⟩
abbrev TIME_CMP_CTRL_PERIOD (n : Nat) : Fld := ⟨TIME_CMP_CTRL n, 29, 0⟩
/-- TIME_CMP_S_LO, by instance number. -/
abbrev TIME_CMP_S_LO (n : Nat) : Nat := 0x9044 + 32 * n
abbrev TIME_CMP_S_LO_S_LO (n : Nat) : Fld := ⟨TIME_CMP_S_LO n, 31, 0⟩
/-- TIME_CMP_S_HI, by instance number. -/
abbrev TIME_CMP_S_HI (n : Nat) : Nat := 0x9048 + 32 * n
abbrev TIME_CMP_S_HI_S_HI (n : Nat) : Fld := ⟨TIME_CMP_S_HI n, 15, 0⟩
/-- TIME_CMP_NS, by instance number. -/
abbrev TIME_CMP_NS (n : Nat) : Nat := 0x904c + 32 * n
abbrev TIME_CMP_NS_NS (n : Nat) : Fld := ⟨TIME_CMP_NS n, 29, 0⟩
/-- TIME_CMP_TALLY, by instance number. -/
abbrev TIME_CMP_TALLY (n : Nat) : Nat := 0x9050 + 32 * n
abbrev TIME_CMP_TALLY_TALLY (n : Nat) : Fld := ⟨TIME_CMP_TALLY n, 31, 0⟩
/-- TIME_TS_CFG, by instance number. -/
abbrev TIME_TS_CFG (n : Nat) : Nat := 0x9100 + 32 * n
abbrev TIME_TS_CFG_EN (n : Nat) : Fld := ⟨TIME_TS_CFG n, 31, 31⟩
abbrev TIME_TS_CFG_DROP (n : Nat) : Fld := ⟨TIME_TS_CFG n, 30, 24⟩
abbrev TIME_TS_CFG_RX_LAT (n : Nat) : Fld := ⟨TIME_TS_CFG n, 15, 8⟩
abbrev TIME_TS_CFG_TX_LAT (n : Nat) : Fld := ⟨TIME_TS_CFG n, 7, 0⟩
/-- TIME_TS_INFO, by instance number. -/
abbrev TIME_TS_INFO (n : Nat) : Nat := 0x9104 + 32 * n
abbrev TIME_TS_INFO_VALID (n : Nat) : Fld := ⟨TIME_TS_INFO n, 31, 31⟩
abbrev TIME_TS_INFO_DIR (n : Nat) : Fld := ⟨TIME_TS_INFO n, 30, 30⟩
abbrev TIME_TS_INFO_SEQ_ID (n : Nat) : Fld := ⟨TIME_TS_INFO n, 15, 0⟩
/-- TIME_TS_NS, by instance number. -/
abbrev TIME_TS_NS (n : Nat) : Nat := 0x9108 + 32 * n
abbrev TIME_TS_NS_MSG (n : Nat) : Fld := ⟨TIME_TS_NS n, 31, 30⟩
abbrev TIME_TS_NS_NS (n : Nat) : Fld := ⟨TIME_TS_NS n, 29, 0⟩
/-- TIME_TS_S, by instance number. -/
abbrev TIME_TS_S (n : Nat) : Nat := 0x910c + 32 * n
abbrev TIME_TS_S_S (n : Nat) : Fld := ⟨TIME_TS_S n, 31, 0⟩
/-- GRP_CFG. -/
abbrev GRP_CFG : Nat := 0xa000
abbrev GRP_CFG_LEADER_EN : Fld := ⟨GRP_CFG, 31, 31⟩
abbrev GRP_CFG_GRP_EN : Fld := ⟨GRP_CFG, 30, 30⟩
abbrev GRP_CFG_MEMBERS : Fld := ⟨GRP_CFG, 23, 16⟩
abbrev GRP_CFG_WAIT : Fld := ⟨GRP_CFG, 15, 0⟩
/-- GRP_STAT. -/
abbrev GRP_STAT : Nat := 0xa004
abbrev GRP_STAT_ROLE : Fld := ⟨GRP_STAT, 31, 30⟩
abbrev GRP_STAT_ID : Fld := ⟨GRP_STAT, 26, 24⟩
abbrev GRP_STAT_LEADER_ID : Fld := ⟨GRP_STAT, 22, 20⟩
abbrev GRP_STAT_CAUSE : Fld := ⟨GRP_STAT, 19, 16⟩
abbrev GRP_STAT_ACTIVE : Fld := ⟨GRP_STAT, 15, 8⟩
abbrev GRP_STAT_VER : Fld := ⟨GRP_STAT, 7, 0⟩
/-- GRP_CTRL. -/
abbrev GRP_CTRL : Nat := 0xa008
abbrev GRP_CTRL_RESTART : Fld := ⟨GRP_CTRL, 0, 0⟩
/-- GRP_ALIGN. -/
abbrev GRP_ALIGN : Nat := 0xa00c
abbrev GRP_ALIGN_ADJ_CNT : Fld := ⟨GRP_ALIGN, 31, 16⟩
abbrev GRP_ALIGN_RELOAD_CNT : Fld := ⟨GRP_ALIGN, 15, 8⟩
abbrev GRP_ALIGN_LAST_ADJ : Fld := ⟨GRP_ALIGN, 7, 0⟩
/-- GRP_DLY, by instance number. -/
abbrev GRP_DLY (n : Nat) : Nat := 0xa020 + 4 * n
abbrev GRP_DLY_VALID (n : Nat) : Fld := ⟨GRP_DLY n, 31, 31⟩
abbrev GRP_DLY_DLY (n : Nat) : Fld := ⟨GRP_DLY n, 15, 0⟩
/-- SEC_LIFECYCLE. -/
abbrev SEC_LIFECYCLE : Nat := 0xb000
abbrev SEC_LIFECYCLE_DEBUG_MIN : Fld := ⟨SEC_LIFECYCLE, 31, 16⟩
abbrev SEC_LIFECYCLE_DEBUG_SCOPE : Fld := ⟨SEC_LIFECYCLE, 11, 8⟩
abbrev SEC_LIFECYCLE_DEBUG_OPEN : Fld := ⟨SEC_LIFECYCLE, 7, 7⟩
abbrev SEC_LIFECYCLE_ENG : Fld := ⟨SEC_LIFECYCLE, 6, 6⟩
abbrev SEC_LIFECYCLE_STATE : Fld := ⟨SEC_LIFECYCLE, 1, 0⟩
/-- SEC_DEV_ID, by instance number. -/
abbrev SEC_DEV_ID (n : Nat) : Nat := 0xb004 + 4 * n
abbrev SEC_DEV_ID_ID (n : Nat) : Fld := ⟨SEC_DEV_ID n, 31, 0⟩
/-- SEC_SLOT, by instance number. -/
abbrev SEC_SLOT (n : Nat) : Nat := 0xb020 + 4 * n
abbrev SEC_SLOT_VER (n : Nat) : Fld := ⟨SEC_SLOT n, 31, 24⟩
abbrev SEC_SLOT_SVN (n : Nat) : Fld := ⟨SEC_SLOT n, 23, 16⟩
abbrev SEC_SLOT_FAIL_CNT (n : Nat) : Fld := ⟨SEC_SLOT n, 13, 12⟩
abbrev SEC_SLOT_PREFERRED (n : Nat) : Fld := ⟨SEC_SLOT n, 9, 9⟩
abbrev SEC_SLOT_IN_FORCE (n : Nat) : Fld := ⟨SEC_SLOT n, 8, 8⟩
abbrev SEC_SLOT_B_STATE (n : Nat) : Fld := ⟨SEC_SLOT n, 5, 4⟩
abbrev SEC_SLOT_A_STATE (n : Nat) : Fld := ⟨SEC_SLOT n, 1, 0⟩
/-- SEC_ARB0. -/
abbrev SEC_ARB0 : Nat := 0xb030
abbrev SEC_ARB0_C3_C0 : Fld := ⟨SEC_ARB0, 31, 0⟩
/-- SEC_ARB1. -/
abbrev SEC_ARB1 : Nat := 0xb034
abbrev SEC_ARB1_C7_C4 : Fld := ⟨SEC_ARB1, 31, 0⟩
/-- SEC_REVOKE. -/
abbrev SEC_REVOKE : Nat := 0xb038
abbrev SEC_REVOKE_KEY : Fld := ⟨SEC_REVOKE, 15, 0⟩
/-- SEC_LAST. -/
abbrev SEC_LAST : Nat := 0xb03c
abbrev SEC_LAST_STATUS : Fld := ⟨SEC_LAST, 31, 24⟩
abbrev SEC_LAST_TYPE : Fld := ⟨SEC_LAST, 23, 16⟩
abbrev SEC_LAST_STEP : Fld := ⟨SEC_LAST, 15, 8⟩
abbrev SEC_LAST_ROUNDS : Fld := ⟨SEC_LAST, 7, 0⟩
/-- SEC_DEBUG_NONCE0. -/
abbrev SEC_DEBUG_NONCE0 : Nat := 0xb040
abbrev SEC_DEBUG_NONCE0_NONCE : Fld := ⟨SEC_DEBUG_NONCE0, 31, 0⟩
/-- SEC_DEBUG_NONCE1. -/
abbrev SEC_DEBUG_NONCE1 : Nat := 0xb044
abbrev SEC_DEBUG_NONCE1_NONCE : Fld := ⟨SEC_DEBUG_NONCE1, 31, 0⟩
/-- SEC_NET_CFG. -/
abbrev SEC_NET_CFG : Nat := 0xb050
abbrev SEC_NET_CFG_PORT_EN : Fld := ⟨SEC_NET_CFG, 18, 16⟩
abbrev SEC_NET_CFG_ETYPE : Fld := ⟨SEC_NET_CFG, 15, 0⟩
/-- SEC_IF_CFG. -/
abbrev SEC_IF_CFG : Nat := 0xb054
abbrev SEC_IF_CFG_PSF_VER : Fld := ⟨SEC_IF_CFG, 1, 0⟩
/-- SEC_VER_STAT. -/
abbrev SEC_VER_STAT : Nat := 0xb058
abbrev SEC_VER_STAT_LIB_MAJ : Fld := ⟨SEC_VER_STAT, 31, 24⟩
abbrev SEC_VER_STAT_LIB_MIN : Fld := ⟨SEC_VER_STAT, 23, 16⟩
abbrev SEC_VER_STAT_PSF : Fld := ⟨SEC_VER_STAT, 1, 0⟩
/-- SEC_ATT_STAT. -/
abbrev SEC_ATT_STAT : Nat := 0xb05c
abbrev SEC_ATT_STAT_QUEUED : Fld := ⟨SEC_ATT_STAT, 31, 29⟩
abbrev SEC_ATT_STAT_MAX_MS : Fld := ⟨SEC_ATT_STAT, 15, 8⟩
abbrev SEC_ATT_STAT_LAST_MS : Fld := ⟨SEC_ATT_STAT, 7, 0⟩
/-- SLC_ENV_DT. -/
abbrev SLC_ENV_DT : Nat := 0xc000
abbrev SLC_ENV_DT_ENV_DT : Fld := ⟨SLC_ENV_DT, 15, 0⟩
/-- SLC_ENV_PULSE. -/
abbrev SLC_ENV_PULSE : Nat := 0xc004
abbrev SLC_ENV_PULSE_ENV_EDGE : Fld := ⟨SLC_ENV_PULSE, 31, 16⟩
abbrev SLC_ENV_PULSE_ENV_PULSE : Fld := ⟨SLC_ENV_PULSE, 15, 0⟩
/-- SLC_ENV_INNER. -/
abbrev SLC_ENV_INNER : Nat := 0xc008
abbrev SLC_ENV_INNER_ANPC_CLAMP : Fld := ⟨SLC_ENV_INNER, 16, 16⟩
abbrev SLC_ENV_INNER_INNER_DELAY : Fld := ⟨SLC_ENV_INNER, 15, 0⟩
/-- SLC_ENV_BS. -/
abbrev SLC_ENV_BS : Nat := 0xc00c
abbrev SLC_ENV_BS_ENV_BS_ON : Fld := ⟨SLC_ENV_BS, 31, 16⟩
abbrev SLC_ENV_BS_ENV_BS_OFF : Fld := ⟨SLC_ENV_BS, 15, 0⟩
/-- SLC_ENV_CORR. -/
abbrev SLC_ENV_CORR : Nat := 0xc010
abbrev SLC_ENV_CORR_ENV_CORR_MAX : Fld := ⟨SLC_ENV_CORR, 15, 0⟩
/-- SLC_ENV_LOCK. -/
abbrev SLC_ENV_LOCK : Nat := 0xc014
abbrev SLC_ENV_LOCK_PKG_VER : Fld := ⟨SLC_ENV_LOCK, 15, 8⟩
abbrev SLC_ENV_LOCK_ENVELOPE_LOCK : Fld := ⟨SLC_ENV_LOCK, 0, 0⟩
/-- SLC_ENV_OTP. -/
abbrev SLC_ENV_OTP : Nat := 0xc018
abbrev SLC_ENV_OTP_DT_MIN : Fld := ⟨SLC_ENV_OTP, 31, 24⟩
abbrev SLC_ENV_OTP_PULSE_MIN : Fld := ⟨SLC_ENV_OTP, 23, 16⟩
abbrev SLC_ENV_OTP_EDGE_MIN : Fld := ⟨SLC_ENV_OTP, 15, 8⟩
abbrev SLC_ENV_OTP_INNER_MIN : Fld := ⟨SLC_ENV_OTP, 7, 0⟩
/-- SLC_FAULT_MOD. -/
abbrev SLC_FAULT_MOD : Nat := 0xc020
abbrev SLC_FAULT_MOD_B_ACTIVE : Fld := ⟨SLC_FAULT_MOD, 31, 31⟩
abbrev SLC_FAULT_MOD_CAUSE_ACTIVE : Fld := ⟨SLC_FAULT_MOD, 30, 30⟩
abbrev SLC_FAULT_MOD_CAUSE_GONE : Fld := ⟨SLC_FAULT_MOD, 29, 29⟩
abbrev SLC_FAULT_MOD_CAUSE : Fld := ⟨SLC_FAULT_MOD, 7, 0⟩
/-- SLC_LOCKOUT_STAT. -/
abbrev SLC_LOCKOUT_STAT : Nat := 0xc024
abbrev SLC_LOCKOUT_STAT_ACTIVE : Fld := ⟨SLC_LOCKOUT_STAT, 31, 31⟩
abbrev SLC_LOCKOUT_STAT_CAUSE_ACTIVE : Fld := ⟨SLC_LOCKOUT_STAT, 30, 30⟩
abbrev SLC_LOCKOUT_STAT_ACK_LOW : Fld := ⟨SLC_LOCKOUT_STAT, 29, 29⟩
abbrev SLC_LOCKOUT_STAT_CAUSE : Fld := ⟨SLC_LOCKOUT_STAT, 23, 16⟩
abbrev SLC_LOCKOUT_STAT_RESETS : Fld := ⟨SLC_LOCKOUT_STAT, 15, 0⟩
/-- SLC_LOCKOUT_CFG. -/
abbrev SLC_LOCKOUT_CFG : Nat := 0xc028
abbrev SLC_LOCKOUT_CFG_ACK_EN : Fld := ⟨SLC_LOCKOUT_CFG, 0, 0⟩
/-- SLC_CLEAR_RES. -/
abbrev SLC_CLEAR_RES : Nat := 0xc02c
abbrev SLC_CLEAR_RES_THR_CLEARED : Fld := ⟨SLC_CLEAR_RES, 31, 24⟩
abbrev SLC_CLEAR_RES_THR_REFUSED : Fld := ⟨SLC_CLEAR_RES, 23, 16⟩
abbrev SLC_CLEAR_RES_AUX_CLEARED : Fld := ⟨SLC_CLEAR_RES, 15, 12⟩
abbrev SLC_CLEAR_RES_AUX_REFUSED : Fld := ⟨SLC_CLEAR_RES, 11, 8⟩
abbrev SLC_CLEAR_RES_MOD_REFUSED : Fld := ⟨SLC_CLEAR_RES, 1, 1⟩
abbrev SLC_CLEAR_RES_MOD_CLEARED : Fld := ⟨SLC_CLEAR_RES, 0, 0⟩
/-- SLC_MEAS_TRIP. -/
abbrev SLC_MEAS_TRIP : Nat := 0xc060
abbrev SLC_MEAS_TRIP_THR_MASK : Fld := ⟨SLC_MEAS_TRIP, 31, 24⟩
abbrev SLC_MEAS_TRIP_CLASS : Fld := ⟨SLC_MEAS_TRIP, 23, 22⟩
/-- SLC_TRIP_STAT. -/
abbrev SLC_TRIP_STAT : Nat := 0xc064
abbrev SLC_TRIP_STAT_LIVE : Fld := ⟨SLC_TRIP_STAT, 15, 8⟩
abbrev SLC_TRIP_STAT_SEEN : Fld := ⟨SLC_TRIP_STAT, 7, 0⟩
/-- SLC_TRIP_CFG, by instance number. -/
abbrev SLC_TRIP_CFG (n : Nat) : Nat := 0xc040 + 4 * n
abbrev SLC_TRIP_CFG_THR_MASK (n : Nat) : Fld := ⟨SLC_TRIP_CFG n, 31, 24⟩
abbrev SLC_TRIP_CFG_CLASS (n : Nat) : Fld := ⟨SLC_TRIP_CFG n, 23, 22⟩
abbrev SLC_TRIP_CFG_POL (n : Nat) : Fld := ⟨SLC_TRIP_CFG n, 21, 21⟩
abbrev SLC_TRIP_CFG_EN (n : Nat) : Fld := ⟨SLC_TRIP_CFG n, 20, 20⟩
abbrev SLC_TRIP_CFG_FILT (n : Nat) : Fld := ⟨SLC_TRIP_CFG n, 5, 0⟩
/-- SLC_THR_CNT_A, by instance number. -/
abbrev SLC_THR_CNT_A (n : Nat) : Nat := 0xc100 + 16 * n
abbrev SLC_THR_CNT_A_DT_CNT (n : Nat) : Fld := ⟨SLC_THR_CNT_A n, 31, 16⟩
abbrev SLC_THR_CNT_A_PULSE_CNT (n : Nat) : Fld := ⟨SLC_THR_CNT_A n, 15, 0⟩
/-- SLC_THR_CNT_B, by instance number. -/
abbrev SLC_THR_CNT_B (n : Nat) : Nat := 0xc104 + 16 * n
abbrev SLC_THR_CNT_B_EDGE_CNT (n : Nat) : Fld := ⟨SLC_THR_CNT_B n, 31, 16⟩
abbrev SLC_THR_CNT_B_INNER_CNT (n : Nat) : Fld := ⟨SLC_THR_CNT_B n, 15, 8⟩
abbrev SLC_THR_CNT_B_BS_CNT (n : Nat) : Fld := ⟨SLC_THR_CNT_B n, 7, 0⟩
/-- SLC_THR_WIN, by instance number. -/
abbrev SLC_THR_WIN (n : Nat) : Nat := 0xc108 + 16 * n
abbrev SLC_THR_WIN_SUM (n : Nat) : Fld := ⟨SLC_THR_WIN n, 15, 0⟩
/-- SLC_THR_FAULT, by instance number. -/
abbrev SLC_THR_FAULT (n : Nat) : Nat := 0xc10c + 16 * n
abbrev SLC_THR_FAULT_B_ACTIVE (n : Nat) : Fld := ⟨SLC_THR_FAULT n, 31, 31⟩
abbrev SLC_THR_FAULT_CAUSE_ACTIVE (n : Nat) : Fld := ⟨SLC_THR_FAULT n, 30, 30⟩
abbrev SLC_THR_FAULT_CAUSE_GONE (n : Nat) : Fld := ⟨SLC_THR_FAULT n, 29, 29⟩
abbrev SLC_THR_FAULT_CAUSE (n : Nat) : Fld := ⟨SLC_THR_FAULT n, 23, 16⟩
abbrev SLC_THR_FAULT_LEG (n : Nat) : Fld := ⟨SLC_THR_FAULT n, 13, 8⟩
/-- LANE_CFG. -/
abbrev LANE_CFG : Nat := 0xe000
abbrev LANE_CFG_AUTO_RESYNC : Fld := ⟨LANE_CFG, 16, 16⟩
abbrev LANE_CFG_COMPARE_TOL : Fld := ⟨LANE_CFG, 7, 0⟩
/-- LANE_STAT. -/
abbrev LANE_STAT : Nat := 0xe004
abbrev LANE_STAT_MATCH_CNT : Fld := ⟨LANE_STAT, 31, 22⟩
abbrev LANE_STAT_HOLD : Fld := ⟨LANE_STAT, 21, 21⟩
abbrev LANE_STAT_VERDICT_PEND : Fld := ⟨LANE_STAT, 20, 20⟩
abbrev LANE_STAT_RET_CAUSE_B : Fld := ⟨LANE_STAT, 19, 16⟩
abbrev LANE_STAT_RET_CAUSE_A : Fld := ⟨LANE_STAT, 15, 12⟩
abbrev LANE_STAT_ACTIVE : Fld := ⟨LANE_STAT, 8, 8⟩
abbrev LANE_STAT_STATE_B : Fld := ⟨LANE_STAT, 7, 4⟩
abbrev LANE_STAT_STATE_A : Fld := ⟨LANE_STAT, 3, 0⟩
/-- LANE_VERDICT. -/
abbrev LANE_VERDICT : Nat := 0xe008
abbrev LANE_VERDICT_OUTCOME : Fld := ⟨LANE_VERDICT, 23, 20⟩
abbrev LANE_VERDICT_B_FAIL : Fld := ⟨LANE_VERDICT, 11, 8⟩
abbrev LANE_VERDICT_A_FAIL : Fld := ⟨LANE_VERDICT, 3, 0⟩
/-- LANE_MISMATCH0. -/
abbrev LANE_MISMATCH0 : Nat := 0xe00c
abbrev LANE_MISMATCH0_TALLY_LO : Fld := ⟨LANE_MISMATCH0, 31, 0⟩
/-- LANE_MISMATCH1. -/
abbrev LANE_MISMATCH1 : Nat := 0xe010
abbrev LANE_MISMATCH1_LEG : Fld := ⟨LANE_MISMATCH1, 31, 26⟩
abbrev LANE_MISMATCH1_SW : Fld := ⟨LANE_MISMATCH1, 25, 23⟩
abbrev LANE_MISMATCH1_KIND : Fld := ⟨LANE_MISMATCH1, 22, 20⟩
abbrev LANE_MISMATCH1_DELTA : Fld := ⟨LANE_MISMATCH1, 19, 0⟩
/-- LANE_CNT. -/
abbrev LANE_CNT : Nat := 0xe014
abbrev LANE_CNT_MISMATCHES : Fld := ⟨LANE_CNT, 31, 16⟩
abbrev LANE_CNT_HOLDS : Fld := ⟨LANE_CNT, 15, 0⟩
/-- LANE_REPEAT. -/
abbrev LANE_REPEAT : Nat := 0xe018
abbrev LANE_REPEAT_TOTAL : Fld := ⟨LANE_REPEAT, 31, 16⟩
abbrev LANE_REPEAT_HOUR_CNT : Fld := ⟨LANE_REPEAT, 1, 0⟩
/-- LANE_IROLO. -/
abbrev LANE_IROLO : Nat := 0xe01c
abbrev LANE_IROLO_VER : Fld := ⟨LANE_IROLO, 31, 24⟩
abbrev LANE_IROLO_CRC_ERR : Fld := ⟨LANE_IROLO, 23, 16⟩
abbrev LANE_IROLO_SKIP : Fld := ⟨LANE_IROLO, 15, 8⟩
abbrev LANE_IROLO_LAST_LEN : Fld := ⟨LANE_IROLO, 7, 0⟩
/-- LANE_RESYNC. -/
abbrev LANE_RESYNC : Nat := 0xe020
abbrev LANE_RESYNC_TIME_US : Fld := ⟨LANE_RESYNC, 31, 16⟩
abbrev LANE_RESYNC_RESTARTS : Fld := ⟨LANE_RESYNC, 15, 8⟩
abbrev LANE_RESYNC_PROGRESS : Fld := ⟨LANE_RESYNC, 7, 0⟩
/-- ASC_FRAME_CFG. -/
abbrev ASC_FRAME_CFG : Nat := 0x10000
abbrev ASC_FRAME_CFG_N : Fld := ⟨ASC_FRAME_CFG, 26, 16⟩
abbrev ASC_FRAME_CFG_FRAME_SRC : Fld := ⟨ASC_FRAME_CFG, 1, 0⟩
/-- ASC_FRAME_STAT. -/
abbrev ASC_FRAME_STAT : Nat := 0x10004
abbrev ASC_FRAME_STAT_CLAMP_CNT : Fld := ⟨ASC_FRAME_STAT, 31, 16⟩
abbrev ASC_FRAME_STAT_STRETCH : Fld := ⟨ASC_FRAME_STAT, 7, 7⟩
abbrev ASC_FRAME_STAT_SRC_IN_FORCE : Fld := ⟨ASC_FRAME_STAT, 1, 0⟩
/-- ASC_FRAME_LEN. -/
abbrev ASC_FRAME_LEN : Nat := 0x10008
abbrev ASC_FRAME_LEN_LAST_LEN : Fld := ⟨ASC_FRAME_LEN, 19, 0⟩
/-- ASC_SCHED_STAT. -/
abbrev ASC_SCHED_STAT : Nat := 0x1000c
abbrev ASC_SCHED_STAT_Q_HWM : Fld := ⟨ASC_SCHED_STAT, 23, 16⟩
abbrev ASC_SCHED_STAT_OVF_CNT : Fld := ⟨ASC_SCHED_STAT, 15, 0⟩
/-- ASC_S_ANGLE, by instance number. -/
abbrev ASC_S_ANGLE (n : Nat) : Nat := 0x10100 + 64 * n
abbrev ASC_S_ANGLE_ANGLE (n : Nat) : Fld := ⟨ASC_S_ANGLE n, 31, 0⟩
/-- ASC_S_FRONT, by instance number. -/
abbrev ASC_S_FRONT (n : Nat) : Nat := 0x10104 + 64 * n
abbrev ASC_S_FRONT_FRONT (n : Nat) : Fld := ⟨ASC_S_FRONT n, 31, 0⟩
/-- ASC_S_INC, by instance number. -/
abbrev ASC_S_INC (n : Nat) : Nat := 0x10108 + 64 * n
abbrev ASC_S_INC_INC (n : Nat) : Fld := ⟨ASC_S_INC n, 31, 0⟩
/-- ASC_S_STEP, by instance number. -/
abbrev ASC_S_STEP (n : Nat) : Nat := 0x1010c + 64 * n
abbrev ASC_S_STEP_STEP (n : Nat) : Fld := ⟨ASC_S_STEP n, 31, 0⟩
/-- ASC_S_LOAD_VAL, by instance number. -/
abbrev ASC_S_LOAD_VAL (n : Nat) : Nat := 0x10110 + 64 * n
abbrev ASC_S_LOAD_VAL_LOAD_VAL (n : Nat) : Fld := ⟨ASC_S_LOAD_VAL n, 31, 0⟩
/-- ASC_S_LOAD_CTRL, by instance number. -/
abbrev ASC_S_LOAD_CTRL (n : Nat) : Nat := 0x10114 + 64 * n
abbrev ASC_S_LOAD_CTRL_REQ (n : Nat) : Fld := ⟨ASC_S_LOAD_CTRL n, 31, 31⟩
abbrev ASC_S_LOAD_CTRL_COPY_INC (n : Nat) : Fld := ⟨ASC_S_LOAD_CTRL n, 3, 3⟩
abbrev ASC_S_LOAD_CTRL_COPY (n : Nat) : Fld := ⟨ASC_S_LOAD_CTRL n, 2, 2⟩
abbrev ASC_S_LOAD_CTRL_COPY_SRC (n : Nat) : Fld := ⟨ASC_S_LOAD_CTRL n, 1, 0⟩
/-- ASC_S_CFG, by instance number. -/
abbrev ASC_S_CFG (n : Nat) : Nat := 0x10118 + 64 * n
abbrev ASC_S_CFG_ENC_SEL (n : Nat) : Fld := ⟨ASC_S_CFG n, 4, 4⟩
abbrev ASC_S_CFG_MODE (n : Nat) : Fld := ⟨ASC_S_CFG n, 1, 0⟩
/-- ASC_S_JUMP_BT, by instance number. -/
abbrev ASC_S_JUMP_BT (n : Nat) : Nat := 0x1011c + 64 * n
abbrev ASC_S_JUMP_BT_JUMP_BT (n : Nat) : Fld := ⟨ASC_S_JUMP_BT n, 31, 0⟩
/-- ASC_S_ENC_GAIN, by instance number. -/
abbrev ASC_S_ENC_GAIN (n : Nat) : Nat := 0x10120 + 64 * n
abbrev ASC_S_ENC_GAIN_ENC_GAIN (n : Nat) : Fld := ⟨ASC_S_ENC_GAIN n, 31, 0⟩
/-- ASC_S_ENC_OFFSET, by instance number. -/
abbrev ASC_S_ENC_OFFSET (n : Nat) : Nat := 0x10124 + 64 * n
abbrev ASC_S_ENC_OFFSET_ENC_OFFSET (n : Nat) : Fld := ⟨ASC_S_ENC_OFFSET n, 31, 0⟩
/-- ASC_S_CNT_LATE, by instance number. -/
abbrev ASC_S_CNT_LATE (n : Nat) : Nat := 0x10128 + 64 * n
abbrev ASC_S_CNT_LATE_CNT_LATE (n : Nat) : Fld := ⟨ASC_S_CNT_LATE n, 31, 0⟩
/-- ASC_S_CNT_SKIP, by instance number. -/
abbrev ASC_S_CNT_SKIP (n : Nat) : Nat := 0x1012c + 64 * n
abbrev ASC_S_CNT_SKIP_CNT_SKIP (n : Nat) : Fld := ⟨ASC_S_CNT_SKIP n, 31, 0⟩
/-- ASC_S_CNT_RESYNC, by instance number. -/
abbrev ASC_S_CNT_RESYNC (n : Nat) : Nat := 0x10130 + 64 * n
abbrev ASC_S_CNT_RESYNC_CNT_RESYNC (n : Nat) : Fld := ⟨ASC_S_CNT_RESYNC n, 31, 0⟩
/-- SCHED_W0, by instance number. -/
abbrev SCHED_W0 (n : Nat) : Nat := 0x14000 + 16 * n
abbrev SCHED_W0_ANGLE (n : Nat) : Fld := ⟨SCHED_W0 n, 31, 0⟩
/-- SCHED_W1, by instance number. -/
abbrev SCHED_W1 (n : Nat) : Nat := 0x14004 + 16 * n
abbrev SCHED_W1_EN (n : Nat) : Fld := ⟨SCHED_W1 n, 31, 31⟩
abbrev SCHED_W1_FREL (n : Nat) : Fld := ⟨SCHED_W1 n, 30, 30⟩
abbrev SCHED_W1_SRC (n : Nat) : Fld := ⟨SCHED_W1 n, 29, 28⟩
abbrev SCHED_W1_RPT (n : Nat) : Fld := ⟨SCHED_W1 n, 27, 24⟩
abbrev SCHED_W1_ACTION (n : Nat) : Fld := ⟨SCHED_W1 n, 23, 20⟩
abbrev SCHED_W1_TARGET (n : Nat) : Fld := ⟨SCHED_W1 n, 15, 0⟩
/-- SCHED_W2, by instance number. -/
abbrev SCHED_W2 (n : Nat) : Nat := 0x14008 + 16 * n
abbrev SCHED_W2_ARG (n : Nat) : Fld := ⟨SCHED_W2 n, 31, 0⟩
/-- SCHED_W3, by instance number. -/
abbrev SCHED_W3 (n : Nat) : Nat := 0x1400c + 16 * n
abbrev SCHED_W3_OUT_RANGE (n : Nat) : Fld := ⟨SCHED_W3 n, 31, 31⟩
abbrev SCHED_W3_LATE_LAST (n : Nat) : Fld := ⟨SCHED_W3 n, 30, 30⟩
abbrev SCHED_W3_FIRE_CNT (n : Nat) : Fld := ⟨SCHED_W3 n, 15, 0⟩
/-- MEAS_CTRL. -/
abbrev MEAS_CTRL : Nat := 0x24000
abbrev MEAS_CTRL_LP_MASK : Fld := ⟨MEAS_CTRL, 31, 16⟩
/-- MEAS_STAT. -/
abbrev MEAS_STAT : Nat := 0x24004
abbrev MEAS_STAT_CONV_DROP : Fld := ⟨MEAS_STAT, 31, 16⟩
abbrev MEAS_STAT_SDCLK_SLOW : Fld := ⟨MEAS_STAT, 2, 2⟩
abbrev MEAS_STAT_SDCLK_OVER : Fld := ⟨MEAS_STAT, 1, 1⟩
abbrev MEAS_STAT_RATE_OVER : Fld := ⟨MEAS_STAT, 0, 0⟩
/-- MEAS_THR_STAT, by instance number. -/
abbrev MEAS_THR_STAT (n : Nat) : Nat := 0x24008 + 4 * n
abbrev MEAS_THR_STAT_THR (n : Nat) : Fld := ⟨MEAS_THR_STAT n, 31, 0⟩
/-- MEAS_FIR_ADDR. -/
abbrev MEAS_FIR_ADDR : Nat := 0x2401c
abbrev MEAS_FIR_ADDR_SET : Fld := ⟨MEAS_FIR_ADDR, 6, 6⟩
abbrev MEAS_FIR_ADDR_TAP : Fld := ⟨MEAS_FIR_ADDR, 5, 0⟩
/-- MEAS_FIR_DATA. -/
abbrev MEAS_FIR_DATA : Nat := 0x24020
abbrev MEAS_FIR_DATA_COEF : Fld := ⟨MEAS_FIR_DATA, 15, 0⟩
/-- MEAS_SDCLK_CFG, by instance number. -/
abbrev MEAS_SDCLK_CFG (n : Nat) : Nat := 0x24030 + 4 * n
abbrev MEAS_SDCLK_CFG_MODE (n : Nat) : Fld := ⟨MEAS_SDCLK_CFG n, 31, 30⟩
abbrev MEAS_SDCLK_CFG_BITS_PER_FRAME (n : Nat) : Fld := ⟨MEAS_SDCLK_CFG n, 29, 16⟩
abbrev MEAS_SDCLK_CFG_DIV (n : Nat) : Fld := ⟨MEAS_SDCLK_CFG n, 6, 0⟩
/-- MEAS_FC, by instance number. -/
abbrev MEAS_FC (n : Nat) : Nat := 0x24100 + 4 * n
abbrev MEAS_FC_EN (n : Nat) : Fld := ⟨MEAS_FC n, 31, 31⟩
abbrev MEAS_FC_HI (n : Nat) : Fld := ⟨MEAS_FC n, 30, 21⟩
abbrev MEAS_FC_LO (n : Nat) : Fld := ⟨MEAS_FC n, 20, 11⟩
abbrev MEAS_FC_LEG (n : Nat) : Fld := ⟨MEAS_FC n, 10, 5⟩
abbrev MEAS_FC_BLANK (n : Nat) : Fld := ⟨MEAS_FC n, 4, 0⟩
/-- MEAS_CH_CFG, by instance number. -/
abbrev MEAS_CH_CFG (n : Nat) : Nat := 0x24400 + 16 * n
abbrev MEAS_CH_CFG_MODE (n : Nat) : Fld := ⟨MEAS_CH_CFG n, 31, 30⟩
abbrev MEAS_CH_CFG_SRC (n : Nat) : Fld := ⟨MEAS_CH_CFG n, 29, 26⟩
abbrev MEAS_CH_CFG_PAIR (n : Nat) : Fld := ⟨MEAS_CH_CFG n, 25, 25⟩
abbrev MEAS_CH_CFG_EDGE (n : Nat) : Fld := ⟨MEAS_CH_CFG n, 24, 24⟩
abbrev MEAS_CH_CFG_CGRP (n : Nat) : Fld := ⟨MEAS_CH_CFG n, 23, 18⟩
abbrev MEAS_CH_CFG_LGRP (n : Nat) : Fld := ⟨MEAS_CH_CFG n, 17, 14⟩
abbrev MEAS_CH_CFG_ORDER (n : Nat) : Fld := ⟨MEAS_CH_CFG n, 13, 11⟩
abbrev MEAS_CH_CFG_KSEL (n : Nat) : Fld := ⟨MEAS_CH_CFG n, 10, 9⟩
abbrev MEAS_CH_CFG_SCS (n : Nat) : Fld := ⟨MEAS_CH_CFG n, 8, 8⟩
abbrev MEAS_CH_CFG_FIR (n : Nat) : Fld := ⟨MEAS_CH_CFG n, 7, 6⟩
abbrev MEAS_CH_CFG_TRIP_HI (n : Nat) : Fld := ⟨MEAS_CH_CFG n, 5, 5⟩
abbrev MEAS_CH_CFG_TRIP_LO (n : Nat) : Fld := ⟨MEAS_CH_CFG n, 4, 4⟩
/-- MEAS_CH_DEC, by instance number. -/
abbrev MEAS_CH_DEC (n : Nat) : Nat := 0x24404 + 16 * n
abbrev MEAS_CH_DEC_GAIN (n : Nat) : Fld := ⟨MEAS_CH_DEC n, 31, 10⟩
abbrev MEAS_CH_DEC_DEC_M1 (n : Nat) : Fld := ⟨MEAS_CH_DEC n, 9, 0⟩
/-- MEAS_CH_SHIFT, by instance number. -/
abbrev MEAS_CH_SHIFT (n : Nat) : Nat := 0x24408 + 16 * n
abbrev MEAS_CH_SHIFT_HYST (n : Nat) : Fld := ⟨MEAS_CH_SHIFT n, 31, 25⟩
abbrev MEAS_CH_SHIFT_SH1 (n : Nat) : Fld := ⟨MEAS_CH_SHIFT n, 24, 20⟩
abbrev MEAS_CH_SHIFT_SH2 (n : Nat) : Fld := ⟨MEAS_CH_SHIFT n, 19, 15⟩
abbrev MEAS_CH_SHIFT_SH3 (n : Nat) : Fld := ⟨MEAS_CH_SHIFT n, 14, 10⟩
abbrev MEAS_CH_SHIFT_SH4 (n : Nat) : Fld := ⟨MEAS_CH_SHIFT n, 9, 5⟩
abbrev MEAS_CH_SHIFT_SH5 (n : Nat) : Fld := ⟨MEAS_CH_SHIFT n, 4, 0⟩
/-- MEAS_CH_THR, by instance number. -/
abbrev MEAS_CH_THR (n : Nat) : Nat := 0x2440c + 16 * n
abbrev MEAS_CH_THR_HI (n : Nat) : Fld := ⟨MEAS_CH_THR n, 31, 16⟩
abbrev MEAS_CH_THR_LO (n : Nat) : Fld := ⟨MEAS_CH_THR n, 15, 0⟩
/-- MEAS_CORE_TRIM0, by instance number. -/
abbrev MEAS_CORE_TRIM0 (n : Nat) : Nat := 0x24c00 + 8 * n
abbrev MEAS_CORE_TRIM0_OFFSET_TRIM (n : Nat) : Fld := ⟨MEAS_CORE_TRIM0 n, 31, 16⟩
abbrev MEAS_CORE_TRIM0_GAIN_TRIM (n : Nat) : Fld := ⟨MEAS_CORE_TRIM0 n, 15, 0⟩
/-- MEAS_CORE_TRIM1, by instance number. -/
abbrev MEAS_CORE_TRIM1 (n : Nat) : Nat := 0x24c04 + 8 * n
abbrev MEAS_CORE_TRIM1_TIME_TRIM (n : Nat) : Fld := ⟨MEAS_CORE_TRIM1 n, 4, 0⟩
/-- CLE_STAT. -/
abbrev CLE_STAT : Nat := 0x28000
abbrev CLE_STAT_DP_BUSY : Fld := ⟨CLE_STAT, 17, 16⟩
abbrev CLE_STAT_GRP_RUN : Fld := ⟨CLE_STAT, 15, 0⟩
/-- CLE_LOAD_STAT. -/
abbrev CLE_LOAD_STAT : Nat := 0x28004
abbrev CLE_LOAD_STAT_CTX : Fld := ⟨CLE_LOAD_STAT, 23, 16⟩
abbrev CLE_LOAD_STAT_CAUSE : Fld := ⟨CLE_LOAD_STAT, 7, 0⟩
/-- CLE_STATE_WORDS. -/
abbrev CLE_STATE_WORDS : Nat := 0x28008
abbrev CLE_STATE_WORDS_WORDS : Fld := ⟨CLE_STATE_WORDS, 15, 0⟩
/-- CLE_BANK, by instance number. -/
abbrev CLE_BANK (n : Nat) : Nat := 0x28010 + 4 * n
abbrev CLE_BANK_BANK (n : Nat) : Fld := ⟨CLE_BANK n, 31, 0⟩
/-- CLE_GRP_CFG, by instance number. -/
abbrev CLE_GRP_CFG (n : Nat) : Nat := 0x28100 + 8 * n
abbrev CLE_GRP_CFG_THR_MASK (n : Nat) : Fld := ⟨CLE_GRP_CFG n, 31, 24⟩
abbrev CLE_GRP_CFG_DEADLINE (n : Nat) : Fld := ⟨CLE_GRP_CFG n, 16, 0⟩
/-- CLE_CTX_CFG, by instance number. -/
abbrev CLE_CTX_CFG (n : Nat) : Nat := 0x28400 + 8 * n
abbrev CLE_CTX_CFG_EN (n : Nat) : Fld := ⟨CLE_CTX_CFG n, 31, 31⟩
abbrev CLE_CTX_CFG_GROUP (n : Nat) : Fld := ⟨CLE_CTX_CFG n, 23, 20⟩
abbrev CLE_CTX_CFG_DP (n : Nat) : Fld := ⟨CLE_CTX_CFG n, 19, 19⟩
abbrev CLE_CTX_CFG_CLASS (n : Nat) : Fld := ⟨CLE_CTX_CFG n, 18, 16⟩
abbrev CLE_CTX_CFG_PHASE (n : Nat) : Fld := ⟨CLE_CTX_CFG n, 12, 8⟩
/-- CLE_GRP_STAT, by instance number. -/
abbrev CLE_GRP_STAT (n : Nat) : Nat := 0x28104 + 8 * n
abbrev CLE_GRP_STAT_OVR_CNT (n : Nat) : Fld := ⟨CLE_GRP_STAT n, 31, 16⟩
abbrev CLE_GRP_STAT_CONSEC (n : Nat) : Fld := ⟨CLE_GRP_STAT n, 15, 14⟩
abbrev CLE_GRP_STAT_SKIP_CNT (n : Nat) : Fld := ⟨CLE_GRP_STAT n, 7, 0⟩
/-- CLE_CTX_STAT, by instance number. -/
abbrev CLE_CTX_STAT (n : Nat) : Nat := 0x28404 + 8 * n
abbrev CLE_CTX_STAT_WRAP_CNT (n : Nat) : Fld := ⟨CLE_CTX_STAT n, 31, 16⟩
abbrev CLE_CTX_STAT_REBASE_PEND (n : Nat) : Fld := ⟨CLE_CTX_STAT n, 7, 7⟩
abbrev CLE_CTX_STAT_BANK (n : Nat) : Fld := ⟨CLE_CTX_STAT n, 6, 6⟩
abbrev CLE_CTX_STAT_BUDGET (n : Nat) : Fld := ⟨CLE_CTX_STAT n, 5, 5⟩
abbrev CLE_CTX_STAT_DIVZ (n : Nat) : Fld := ⟨CLE_CTX_STAT n, 4, 4⟩
abbrev CLE_CTX_STAT_SATF (n : Nat) : Fld := ⟨CLE_CTX_STAT n, 3, 3⟩
abbrev CLE_CTX_STAT_WRAP (n : Nat) : Fld := ⟨CLE_CTX_STAT n, 2, 2⟩
/-- TRAJ_PRESET_SEL. -/
abbrev TRAJ_PRESET_SEL : Nat := 0x2c000
abbrev TRAJ_PRESET_SEL_REQ : Fld := ⟨TRAJ_PRESET_SEL, 31, 31⟩
abbrev TRAJ_PRESET_SEL_UNIT : Fld := ⟨TRAJ_PRESET_SEL, 4, 3⟩
abbrev TRAJ_PRESET_SEL_AXIS : Fld := ⟨TRAJ_PRESET_SEL, 2, 0⟩
/-- TRAJ_PRESET_VAL. -/
abbrev TRAJ_PRESET_VAL : Nat := 0x2c004
abbrev TRAJ_PRESET_VAL_VAL : Fld := ⟨TRAJ_PRESET_VAL, 31, 0⟩
/-- TRAJ_U_CFG, by instance number. -/
abbrev TRAJ_U_CFG (n : Nat) : Nat := 0x2c100 + 256 * n
abbrev TRAJ_U_CFG_THR_MASK (n : Nat) : Fld := ⟨TRAJ_U_CFG n, 31, 24⟩
/-- TRAJ_U_STAT, by instance number. -/
abbrev TRAJ_U_STAT (n : Nat) : Nat := 0x2c104 + 256 * n
abbrev TRAJ_U_STAT_HEAD_TAG (n : Nat) : Fld := ⟨TRAJ_U_STAT n, 31, 16⟩
abbrev TRAJ_U_STAT_QCNT (n : Nat) : Fld := ⟨TRAJ_U_STAT n, 15, 10⟩
abbrev TRAJ_U_STAT_BLEND_OVER (n : Nat) : Fld := ⟨TRAJ_U_STAT n, 9, 9⟩
abbrev TRAJ_U_STAT_CLAMP (n : Nat) : Fld := ⟨TRAJ_U_STAT n, 8, 8⟩
abbrev TRAJ_U_STAT_GS_MISS (n : Nat) : Fld := ⟨TRAJ_U_STAT n, 7, 7⟩
abbrev TRAJ_U_STAT_STOPPED (n : Nat) : Fld := ⟨TRAJ_U_STAT n, 6, 6⟩
abbrev TRAJ_U_STAT_STATE (n : Nat) : Fld := ⟨TRAJ_U_STAT n, 2, 0⟩
/-- TRAJ_U_CNT, by instance number. -/
abbrev TRAJ_U_CNT (n : Nat) : Nat := 0x2c108 + 256 * n
abbrev TRAJ_U_CNT_DONE (n : Nat) : Fld := ⟨TRAJ_U_CNT n, 31, 16⟩
abbrev TRAJ_U_CNT_FLUSHED (n : Nat) : Fld := ⟨TRAJ_U_CNT n, 15, 0⟩
/-- TRAJ_U_AX_LIM0, by instance number. -/
abbrev TRAJ_U_AX_LIM0 (n m : Nat) : Nat := 0x2c120 + 256 * n + 16 * m
abbrev TRAJ_U_AX_LIM0_VMAX (n m : Nat) : Fld := ⟨TRAJ_U_AX_LIM0 n m, 31, 16⟩
abbrev TRAJ_U_AX_LIM0_JMAX (n m : Nat) : Fld := ⟨TRAJ_U_AX_LIM0 n m, 15, 0⟩
/-- TRAJ_U_AX_LIM1, by instance number. -/
abbrev TRAJ_U_AX_LIM1 (n m : Nat) : Nat := 0x2c124 + 256 * n + 16 * m
abbrev TRAJ_U_AX_LIM1_AMAX (n m : Nat) : Fld := ⟨TRAJ_U_AX_LIM1 n m, 31, 16⟩
abbrev TRAJ_U_AX_LIM1_DMAX (n m : Nat) : Fld := ⟨TRAJ_U_AX_LIM1 n m, 15, 0⟩
/-- TRAJ_U_AX_RANGE, by instance number. -/
abbrev TRAJ_U_AX_RANGE (n m : Nat) : Nat := 0x2c128 + 256 * n + 16 * m
abbrev TRAJ_U_AX_RANGE_MAX (n m : Nat) : Fld := ⟨TRAJ_U_AX_RANGE n m, 31, 16⟩
abbrev TRAJ_U_AX_RANGE_MIN (n m : Nat) : Fld := ⟨TRAJ_U_AX_RANGE n m, 15, 0⟩
/-- PWM_CTRL. -/
abbrev PWM_CTRL : Nat := 0x2e000
abbrev PWM_CTRL_DIS_ALL : Fld := ⟨PWM_CTRL, 0, 0⟩
/-- PWM_LEG_DIS0. -/
abbrev PWM_LEG_DIS0 : Nat := 0x2e004
abbrev PWM_LEG_DIS0_DIS : Fld := ⟨PWM_LEG_DIS0, 31, 0⟩
/-- PWM_LEG_DIS1. -/
abbrev PWM_LEG_DIS1 : Nat := 0x2e008
abbrev PWM_LEG_DIS1_DIS : Fld := ⟨PWM_LEG_DIS1, 15, 0⟩
/-- PWM_STAT. -/
abbrev PWM_STAT : Nat := 0x2e00c
abbrev PWM_STAT_PER_OVF : Fld := ⟨PWM_STAT, 1, 1⟩
abbrev PWM_STAT_PATTERN : Fld := ⟨PWM_STAT, 0, 0⟩
/-- PWM_CG_CFG, by instance number. -/
abbrev PWM_CG_CFG (n : Nat) : Nat := 0x2e100 + 32 * n
abbrev PWM_CG_CFG_EN (n : Nat) : Fld := ⟨PWM_CG_CFG n, 31, 31⟩
abbrev PWM_CG_CFG_SRC (n : Nat) : Fld := ⟨PWM_CG_CFG n, 29, 28⟩
/-- PWM_CG_PERIOD, by instance number. -/
abbrev PWM_CG_PERIOD (n : Nat) : Nat := 0x2e104 + 32 * n
abbrev PWM_CG_PERIOD_PER_FRAC (n : Nat) : Fld := ⟨PWM_CG_PERIOD n, 31, 0⟩
/-- PWM_CG_PERREM, by instance number. -/
abbrev PWM_CG_PERREM (n : Nat) : Nat := 0x2e108 + 32 * n
abbrev PWM_CG_PERREM_DEN (n : Nat) : Fld := ⟨PWM_CG_PERREM n, 31, 16⟩
abbrev PWM_CG_PERREM_REM (n : Nat) : Fld := ⟨PWM_CG_PERREM n, 15, 0⟩
/-- PWM_CG_PHASE, by instance number. -/
abbrev PWM_CG_PHASE (n : Nat) : Nat := 0x2e10c + 32 * n
abbrev PWM_CG_PHASE_PHASE (n : Nat) : Fld := ⟨PWM_CG_PHASE n, 31, 0⟩
/-- PWM_CG_TRIG, by instance number. -/
abbrev PWM_CG_TRIG (n : Nat) : Nat := 0x2e110 + 32 * n
abbrev PWM_CG_TRIG_EN3 (n : Nat) : Fld := ⟨PWM_CG_TRIG n, 31, 31⟩
abbrev PWM_CG_TRIG_CGRP3 (n : Nat) : Fld := ⟨PWM_CG_TRIG n, 29, 24⟩
abbrev PWM_CG_TRIG_EN2 (n : Nat) : Fld := ⟨PWM_CG_TRIG n, 23, 23⟩
abbrev PWM_CG_TRIG_CGRP2 (n : Nat) : Fld := ⟨PWM_CG_TRIG n, 21, 16⟩
abbrev PWM_CG_TRIG_EN1 (n : Nat) : Fld := ⟨PWM_CG_TRIG n, 15, 15⟩
abbrev PWM_CG_TRIG_CGRP1 (n : Nat) : Fld := ⟨PWM_CG_TRIG n, 13, 8⟩
abbrev PWM_CG_TRIG_EN0 (n : Nat) : Fld := ⟨PWM_CG_TRIG n, 7, 7⟩
abbrev PWM_CG_TRIG_CGRP0 (n : Nat) : Fld := ⟨PWM_CG_TRIG n, 5, 0⟩
/-- PWM_CG_STAT, by instance number. -/
abbrev PWM_CG_STAT (n : Nat) : Nat := 0x2e114 + 32 * n
abbrev PWM_CG_STAT_PER_CNT (n : Nat) : Fld := ⟨PWM_CG_STAT n, 31, 16⟩
abbrev PWM_CG_STAT_PER_OVF (n : Nat) : Fld := ⟨PWM_CG_STAT n, 2, 2⟩
abbrev PWM_CG_STAT_HELD (n : Nat) : Fld := ⟨PWM_CG_STAT n, 1, 1⟩
abbrev PWM_CG_STAT_JUMPED (n : Nat) : Fld := ⟨PWM_CG_STAT n, 0, 0⟩
/-- PWM_LEG_CFG, by instance number. -/
abbrev PWM_LEG_CFG (n : Nat) : Nat := 0x2e400 + 32 * n
abbrev PWM_LEG_CFG_TYPE (n : Nat) : Fld := ⟨PWM_LEG_CFG n, 30, 28⟩
abbrev PWM_LEG_CFG_CG (n : Nat) : Fld := ⟨PWM_LEG_CFG n, 27, 24⟩
abbrev PWM_LEG_CFG_BOOTSTRAP (n : Nat) : Fld := ⟨PWM_LEG_CFG n, 23, 23⟩
/-- PWM_LEG_TIME, by instance number. -/
abbrev PWM_LEG_TIME (n : Nat) : Nat := 0x2e404 + 32 * n
abbrev PWM_LEG_TIME_DT (n : Nat) : Fld := ⟨PWM_LEG_TIME n, 31, 16⟩
abbrev PWM_LEG_TIME_MIN_PULSE (n : Nat) : Fld := ⟨PWM_LEG_TIME n, 15, 0⟩
/-- PWM_LEG_BRIDGE, by instance number. -/
abbrev PWM_LEG_BRIDGE (n : Nat) : Nat := 0x2e408 + 32 * n
abbrev PWM_LEG_BRIDGE_BRIDGE (n : Nat) : Fld := ⟨PWM_LEG_BRIDGE n, 15, 0⟩
/-- PWM_LEG_BS, by instance number. -/
abbrev PWM_LEG_BS (n : Nat) : Nat := 0x2e40c + 32 * n
abbrev PWM_LEG_BS_BS_MAX_ON (n : Nat) : Fld := ⟨PWM_LEG_BS n, 31, 16⟩
abbrev PWM_LEG_BS_BS_REFRESH (n : Nat) : Fld := ⟨PWM_LEG_BS n, 15, 0⟩
/-- PWM_LEG_CNT0, by instance number. -/
abbrev PWM_LEG_CNT0 (n : Nat) : Nat := 0x2e410 + 32 * n
abbrev PWM_LEG_CNT0_DROPPED (n : Nat) : Fld := ⟨PWM_LEG_CNT0 n, 31, 16⟩
abbrev PWM_LEG_CNT0_MERGED (n : Nat) : Fld := ⟨PWM_LEG_CNT0 n, 15, 0⟩
/-- PWM_LEG_CNT1, by instance number. -/
abbrev PWM_LEG_CNT1 (n : Nat) : Nat := 0x2e414 + 32 * n
abbrev PWM_LEG_CNT1_BRIDGED (n : Nat) : Fld := ⟨PWM_LEG_CNT1 n, 31, 16⟩
abbrev PWM_LEG_CNT1_STRETCHED (n : Nat) : Fld := ⟨PWM_LEG_CNT1 n, 15, 0⟩
/-- PWM_LEG_STAT, by instance number. -/
abbrev PWM_LEG_STAT (n : Nat) : Nat := 0x2e418 + 32 * n
abbrev PWM_LEG_STAT_BS_CNT (n : Nat) : Fld := ⟨PWM_LEG_STAT n, 31, 16⟩
abbrev PWM_LEG_STAT_PATTERN (n : Nat) : Fld := ⟨PWM_LEG_STAT n, 4, 4⟩
abbrev PWM_LEG_STAT_STATE (n : Nat) : Fld := ⟨PWM_LEG_STAT n, 3, 0⟩
/-- GL_RENEG. -/
abbrev GL_RENEG : Nat := 0x32004
abbrev GL_RENEG_THR : Fld := ⟨GL_RENEG, 7, 0⟩
/-- GL_ALIGN. -/
abbrev GL_ALIGN : Nat := 0x32008
abbrev GL_ALIGN_LAT : Fld := ⟨GL_ALIGN, 15, 0⟩
/-- GL_LINK_CFG, by instance number. -/
abbrev GL_LINK_CFG (n : Nat) : Nat := 0x32100 + 32 * n
abbrev GL_LINK_CFG_ALLOW_GL1 (n : Nat) : Fld := ⟨GL_LINK_CFG n, 31, 31⟩
abbrev GL_LINK_CFG_GL1_DELAY (n : Nat) : Fld := ⟨GL_LINK_CFG n, 15, 0⟩
/-- GL_LINK_STAT, by instance number. -/
abbrev GL_LINK_STAT (n : Nat) : Nat := 0x32104 + 32 * n
abbrev GL_LINK_STAT_VER (n : Nat) : Fld := ⟨GL_LINK_STAT n, 31, 24⟩
abbrev GL_LINK_STAT_SW_CNT (n : Nat) : Fld := ⟨GL_LINK_STAT n, 23, 20⟩
abbrev GL_LINK_STAT_DRIFT (n : Nat) : Fld := ⟨GL_LINK_STAT n, 16, 16⟩
abbrev GL_LINK_STAT_FAIL_CAUSE (n : Nat) : Fld := ⟨GL_LINK_STAT n, 7, 4⟩
abbrev GL_LINK_STAT_STATE (n : Nat) : Fld := ⟨GL_LINK_STAT n, 3, 0⟩
/-- GL_LINK_DELAY, by instance number. -/
abbrev GL_LINK_DELAY (n : Nat) : Nat := 0x32108 + 32 * n
abbrev GL_LINK_DELAY_D_USED (n : Nat) : Fld := ⟨GL_LINK_DELAY n, 31, 16⟩
abbrev GL_LINK_DELAY_D_NOW (n : Nat) : Fld := ⟨GL_LINK_DELAY n, 15, 0⟩
/-- GL_LINK_ERR, by instance number. -/
abbrev GL_LINK_ERR (n : Nat) : Nat := 0x32114 + 32 * n
abbrev GL_LINK_ERR_CRC_ERR (n : Nat) : Fld := ⟨GL_LINK_ERR n, 31, 16⟩
abbrev GL_LINK_ERR_ABORT (n : Nat) : Fld := ⟨GL_LINK_ERR n, 15, 0⟩
/-- GL_LINK_TLM0, by instance number. -/
abbrev GL_LINK_TLM0 (n : Nat) : Nat := 0x3210c + 32 * n
abbrev GL_LINK_TLM0_TLM0 (n : Nat) : Fld := ⟨GL_LINK_TLM0 n, 31, 0⟩
/-- GL_LINK_TLM1, by instance number. -/
abbrev GL_LINK_TLM1 (n : Nat) : Nat := 0x32110 + 32 * n
abbrev GL_LINK_TLM1_VCC_MIN (n : Nat) : Fld := ⟨GL_LINK_TLM1 n, 31, 24⟩
abbrev GL_LINK_TLM1_VEE_MIN (n : Nat) : Fld := ⟨GL_LINK_TLM1 n, 23, 16⟩
abbrev GL_LINK_TLM1_LATE_CNT (n : Nat) : Fld := ⟨GL_LINK_TLM1 n, 15, 0⟩
/-- AUX_CH_CFG, by instance number. -/
abbrev AUX_CH_CFG (n : Nat) : Nat := 0x34000 + 32 * n
abbrev AUX_CH_CFG_MODE (n : Nat) : Fld := ⟨AUX_CH_CFG n, 31, 31⟩
abbrev AUX_CH_CFG_DIR (n : Nat) : Fld := ⟨AUX_CH_CFG n, 30, 30⟩
abbrev AUX_CH_CFG_HINV (n : Nat) : Fld := ⟨AUX_CH_CFG n, 29, 29⟩
abbrev AUX_CH_CFG_HSHIFT (n : Nat) : Fld := ⟨AUX_CH_CFG n, 28, 26⟩
abbrev AUX_CH_CFG_BLANK (n : Nat) : Fld := ⟨AUX_CH_CFG n, 25, 21⟩
abbrev AUX_CH_CFG_AUX_DT (n : Nat) : Fld := ⟨AUX_CH_CFG n, 7, 0⟩
/-- AUX_CH_PWM, by instance number. -/
abbrev AUX_CH_PWM (n : Nat) : Nat := 0x34004 + 32 * n
abbrev AUX_CH_PWM_PER (n : Nat) : Fld := ⟨AUX_CH_PWM n, 31, 16⟩
abbrev AUX_CH_PWM_DUTY (n : Nat) : Fld := ⟨AUX_CH_PWM n, 15, 0⟩
/-- AUX_CH_ISNS, by instance number. -/
abbrev AUX_CH_ISNS (n : Nat) : Nat := 0x34008 + 32 * n
abbrev AUX_CH_ISNS_HARD (n : Nat) : Fld := ⟨AUX_CH_ISNS n, 15, 8⟩
abbrev AUX_CH_ISNS_LO (n : Nat) : Fld := ⟨AUX_CH_ISNS n, 7, 0⟩
/-- AUX_CH_TIME, by instance number. -/
abbrev AUX_CH_TIME (n : Nat) : Nat := 0x3400c + 32 * n
abbrev AUX_CH_TIME_STALL_T (n : Nat) : Fld := ⟨AUX_CH_TIME n, 31, 16⟩
abbrev AUX_CH_TIME_PRECHG (n : Nat) : Fld := ⟨AUX_CH_TIME n, 15, 0⟩
/-- AUX_CH_CTRL, by instance number. -/
abbrev AUX_CH_CTRL (n : Nat) : Nat := 0x34010 + 32 * n
abbrev AUX_CH_CTRL_RUN (n : Nat) : Fld := ⟨AUX_CH_CTRL n, 0, 0⟩
/-- AUX_CH_STAT, by instance number. -/
abbrev AUX_CH_STAT (n : Nat) : Nat := 0x34014 + 32 * n
abbrev AUX_CH_STAT_TRIPS (n : Nat) : Fld := ⟨AUX_CH_STAT n, 31, 16⟩
abbrev AUX_CH_STAT_TRIP_CONSEC (n : Nat) : Fld := ⟨AUX_CH_STAT n, 15, 12⟩
abbrev AUX_CH_STAT_SUPPLY (n : Nat) : Fld := ⟨AUX_CH_STAT n, 11, 11⟩
abbrev AUX_CH_STAT_OC (n : Nat) : Fld := ⟨AUX_CH_STAT n, 10, 10⟩
abbrev AUX_CH_STAT_STALL (n : Nat) : Fld := ⟨AUX_CH_STAT n, 9, 9⟩
abbrev AUX_CH_STAT_HALL_ERR (n : Nat) : Fld := ⟨AUX_CH_STAT n, 8, 8⟩
abbrev AUX_CH_STAT_HALL (n : Nat) : Fld := ⟨AUX_CH_STAT n, 2, 0⟩
/-- SAFE_CFG. -/
abbrev SAFE_CFG : Nat := 0x36000
abbrev SAFE_CFG_EN : Fld := ⟨SAFE_CFG, 31, 31⟩
abbrev SAFE_CFG_STOP_T : Fld := ⟨SAFE_CFG, 23, 16⟩
abbrev SAFE_CFG_DEG_MAX : Fld := ⟨SAFE_CFG, 15, 0⟩
/-- SAFE_STAT. -/
abbrev SAFE_STAT : Nat := 0x36004
abbrev SAFE_STAT_STO : Fld := ⟨SAFE_STAT, 31, 31⟩
abbrev SAFE_STAT_DEGRADED : Fld := ⟨SAFE_STAT, 30, 30⟩
abbrev SAFE_STAT_TAKEOVER_A : Fld := ⟨SAFE_STAT, 29, 29⟩
abbrev SAFE_STAT_TAKEOVER_B : Fld := ⟨SAFE_STAT, 28, 28⟩
abbrev SAFE_STAT_SLS_OK : Fld := ⟨SAFE_STAT, 27, 27⟩
abbrev SAFE_STAT_LOCK_PERMIT : Fld := ⟨SAFE_STAT, 26, 26⟩
abbrev SAFE_STAT_LIM_SEL : Fld := ⟨SAFE_STAT, 25, 25⟩
abbrev SAFE_STAT_CAUSE : Fld := ⟨SAFE_STAT, 7, 0⟩
/-- SAFE_DEGRADED. -/
abbrev SAFE_DEGRADED : Nat := 0x36008
abbrev SAFE_DEGRADED_REMAIN : Fld := ⟨SAFE_DEGRADED, 15, 0⟩
/-- SAFE_PARAM_CRC. -/
abbrev SAFE_PARAM_CRC : Nat := 0x3600c
abbrev SAFE_PARAM_CRC_CRC : Fld := ⟨SAFE_PARAM_CRC, 31, 0⟩
/-- SAFE_TP_CFG. -/
abbrev SAFE_TP_CFG : Nat := 0x36010
abbrev SAFE_TP_CFG_TP_PER : Fld := ⟨SAFE_TP_CFG, 31, 16⟩
abbrev SAFE_TP_CFG_TP_W : Fld := ⟨SAFE_TP_CFG, 15, 0⟩
/-- SAFE_SI_CFG, by instance number. -/
abbrev SAFE_SI_CFG (n : Nat) : Nat := 0x36020 + 4 * n
abbrev SAFE_SI_CFG_FUNC (n : Nat) : Fld := ⟨SAFE_SI_CFG n, 31, 30⟩
abbrev SAFE_SI_CFG_MODE (n : Nat) : Fld := ⟨SAFE_SI_CFG n, 29, 28⟩
abbrev SAFE_SI_CFG_EN (n : Nat) : Fld := ⟨SAFE_SI_CFG n, 27, 27⟩
abbrev SAFE_SI_CFG_SRC_A (n : Nat) : Fld := ⟨SAFE_SI_CFG n, 26, 24⟩
abbrev SAFE_SI_CFG_SRC_B (n : Nat) : Fld := ⟨SAFE_SI_CFG n, 22, 20⟩
abbrev SAFE_SI_CFG_FILT (n : Nat) : Fld := ⟨SAFE_SI_CFG n, 15, 8⟩
abbrev SAFE_SI_CFG_DISC_T (n : Nat) : Fld := ⟨SAFE_SI_CFG n, 7, 0⟩
/-- SAFE_SI_STAT. -/
abbrev SAFE_SI_STAT : Nat := 0x36040
abbrev SAFE_SI_STAT_DEMAND : Fld := ⟨SAFE_SI_STAT, 31, 24⟩
abbrev SAFE_SI_STAT_LVL_A : Fld := ⟨SAFE_SI_STAT, 23, 16⟩
abbrev SAFE_SI_STAT_LVL_B : Fld := ⟨SAFE_SI_STAT, 15, 8⟩
abbrev SAFE_SI_STAT_FAULT : Fld := ⟨SAFE_SI_STAT, 7, 0⟩
/-- SAFE_SO_CFG, by instance number. -/
abbrev SAFE_SO_CFG (n : Nat) : Nat := 0x36050 + 4 * n
abbrev SAFE_SO_CFG_FUNC (n : Nat) : Fld := ⟨SAFE_SO_CFG n, 31, 29⟩
abbrev SAFE_SO_CFG_STO_OFF (n : Nat) : Fld := ⟨SAFE_SO_CFG n, 28, 28⟩
abbrev SAFE_SO_CFG_RESTART (n : Nat) : Fld := ⟨SAFE_SO_CFG n, 27, 27⟩
abbrev SAFE_SO_CFG_TPW (n : Nat) : Fld := ⟨SAFE_SO_CFG n, 25, 16⟩
abbrev SAFE_SO_CFG_TPER (n : Nat) : Fld := ⟨SAFE_SO_CFG n, 8, 0⟩
/-- SAFE_SO_CTRL, by instance number. -/
abbrev SAFE_SO_CTRL (n : Nat) : Nat := 0x36060 + 4 * n
abbrev SAFE_SO_CTRL_HOST_ON (n : Nat) : Fld := ⟨SAFE_SO_CTRL n, 1, 1⟩
abbrev SAFE_SO_CTRL_REQ (n : Nat) : Fld := ⟨SAFE_SO_CTRL n, 0, 0⟩
/-- SAFE_SO_STAT. -/
abbrev SAFE_SO_STAT : Nat := 0x36070
/-- SAFE_ENC_CFG, by instance number. -/
abbrev SAFE_ENC_CFG (n : Nat) : Nat := 0x36080 + 16 * n
abbrev SAFE_ENC_CFG_MODE (n : Nat) : Fld := ⟨SAFE_ENC_CFG n, 31, 30⟩
abbrev SAFE_ENC_CFG_GRAY (n : Nat) : Fld := ⟨SAFE_ENC_CFG n, 29, 29⟩
abbrev SAFE_ENC_CFG_SSI_BITS (n : Nat) : Fld := ⟨SAFE_ENC_CFG n, 28, 24⟩
abbrev SAFE_ENC_CFG_SSI_DIV (n : Nat) : Fld := ⟨SAFE_ENC_CFG n, 23, 16⟩
abbrev SAFE_ENC_CFG_SSI_PER (n : Nat) : Fld := ⟨SAFE_ENC_CFG n, 15, 8⟩
/-- SAFE_ENC_CPR, by instance number. -/
abbrev SAFE_ENC_CPR (n : Nat) : Nat := 0x36084 + 16 * n
abbrev SAFE_ENC_CPR_CPR (n : Nat) : Fld := ⟨SAFE_ENC_CPR n, 31, 0⟩
/-- SAFE_ENC_RATIO, by instance number. -/
abbrev SAFE_ENC_RATIO (n : Nat) : Nat := 0x36088 + 16 * n
abbrev SAFE_ENC_RATIO_RATIO (n : Nat) : Fld := ⟨SAFE_ENC_RATIO n, 31, 0⟩
/-- SAFE_ENC_COUNT, by instance number. -/
abbrev SAFE_ENC_COUNT (n : Nat) : Nat := 0x3608c + 16 * n
abbrev SAFE_ENC_COUNT_COUNT (n : Nat) : Fld := ⟨SAFE_ENC_COUNT n, 31, 0⟩
/-- SAFE_ENC_REF, by instance number. -/
abbrev SAFE_ENC_REF (n : Nat) : Nat := 0x360a0 + 16 * n
abbrev SAFE_ENC_REF_REF (n : Nat) : Fld := ⟨SAFE_ENC_REF n, 31, 0⟩
/-- SAFE_ENC_ZLATCH, by instance number. -/
abbrev SAFE_ENC_ZLATCH (n : Nat) : Nat := 0x360a4 + 16 * n
abbrev SAFE_ENC_ZLATCH_ZLATCH (n : Nat) : Fld := ⟨SAFE_ENC_ZLATCH n, 31, 0⟩
/-- SAFE_SPD, by instance number. -/
abbrev SAFE_SPD (n : Nat) : Nat := 0x360a8 + 16 * n
abbrev SAFE_SPD_SPD (n : Nat) : Fld := ⟨SAFE_SPD n, 31, 0⟩
/-- SAFE_SLS_CFG. -/
abbrev SAFE_SLS_CFG : Nat := 0x360c0
abbrev SAFE_SLS_CFG_CH1 : Fld := ⟨SAFE_SLS_CFG, 31, 31⟩
abbrev SAFE_SLS_CFG_PULSE_PAIR : Fld := ⟨SAFE_SLS_CFG, 30, 28⟩
abbrev SAFE_SLS_CFG_SPD_WIN : Fld := ⟨SAFE_SLS_CFG, 27, 24⟩
abbrev SAFE_SLS_CFG_DISC_T : Fld := ⟨SAFE_SLS_CFG, 23, 16⟩
abbrev SAFE_SLS_CFG_DISC_REL : Fld := ⟨SAFE_SLS_CFG, 15, 8⟩
abbrev SAFE_SLS_CFG_DISC_ABS : Fld := ⟨SAFE_SLS_CFG, 7, 0⟩
/-- SAFE_SLS_LIM. -/
abbrev SAFE_SLS_LIM : Nat := 0x360c4
abbrev SAFE_SLS_LIM_LIM1 : Fld := ⟨SAFE_SLS_LIM, 31, 16⟩
abbrev SAFE_SLS_LIM_LIM0 : Fld := ⟨SAFE_SLS_LIM, 15, 0⟩
/-- SAFE_LOCK_WIN. -/
abbrev SAFE_LOCK_WIN : Nat := 0x360c8
abbrev SAFE_LOCK_WIN_LOCK_HI : Fld := ⟨SAFE_LOCK_WIN, 31, 16⟩
abbrev SAFE_LOCK_WIN_LOCK_LO : Fld := ⟨SAFE_LOCK_WIN, 15, 0⟩
/-- SAFE_LOCK_CFG. -/
abbrev SAFE_LOCK_CFG : Nat := 0x360cc
abbrev SAFE_LOCK_CFG_LOCK_SPD : Fld := ⟨SAFE_LOCK_CFG, 31, 16⟩
abbrev SAFE_LOCK_CFG_POS_DISC : Fld := ⟨SAFE_LOCK_CFG, 15, 0⟩
/-- SAFE_SLT_CFG. -/
abbrev SAFE_SLT_CFG : Nat := 0x360d0
abbrev SAFE_SLT_CFG_KT_SIGN : Fld := ⟨SAFE_SLT_CFG, 31, 30⟩
abbrev SAFE_SLT_CFG_CH_A : Fld := ⟨SAFE_SLT_CFG, 29, 25⟩
abbrev SAFE_SLT_CFG_CH_B : Fld := ⟨SAFE_SLT_CFG, 24, 20⟩
abbrev SAFE_SLT_CFG_CH_C : Fld := ⟨SAFE_SLT_CFG, 19, 15⟩
abbrev SAFE_SLT_CFG_MOT_T : Fld := ⟨SAFE_SLT_CFG, 14, 8⟩
abbrev SAFE_SLT_CFG_MOT_LIM : Fld := ⟨SAFE_SLT_CFG, 7, 0⟩
/-- SAFE_SLS_STAT. -/
abbrev SAFE_SLS_STAT : Nat := 0x360d4
abbrev SAFE_SLS_STAT_REF_OK1 : Fld := ⟨SAFE_SLS_STAT, 1, 1⟩
abbrev SAFE_SLS_STAT_REF_OK0 : Fld := ⟨SAFE_SLS_STAT, 0, 0⟩
/-- SAFE_PSF_CFG. -/
abbrev SAFE_PSF_CFG : Nat := 0x360e0
abbrev SAFE_PSF_CFG_PSF_WDOG : Fld := ⟨SAFE_PSF_CFG, 31, 22⟩
abbrev SAFE_PSF_CFG_PSF_AGE : Fld := ⟨SAFE_PSF_CFG, 21, 13⟩
abbrev SAFE_PSF_CFG_MATCH_WIN : Fld := ⟨SAFE_PSF_CFG, 12, 7⟩
abbrev SAFE_PSF_CFG_PSF_EN : Fld := ⟨SAFE_PSF_CFG, 0, 0⟩
/-- SAFE_PSF_CONN. -/
abbrev SAFE_PSF_CONN : Nat := 0x360e4
abbrev SAFE_PSF_CONN_CONN : Fld := ⟨SAFE_PSF_CONN, 31, 16⟩
abbrev SAFE_PSF_CONN_SEED : Fld := ⟨SAFE_PSF_CONN, 15, 0⟩
/-- SAFE_PSF_STAT. -/
abbrev SAFE_PSF_STAT : Nat := 0x360e8
abbrev SAFE_PSF_STAT_NOTIME : Fld := ⟨SAFE_PSF_STAT, 31, 31⟩
abbrev SAFE_PSF_STAT_SINGLE : Fld := ⟨SAFE_PSF_STAT, 30, 16⟩
abbrev SAFE_PSF_STAT_DISCARD : Fld := ⟨SAFE_PSF_STAT, 15, 0⟩
/-- SAFE_PSF_ETYPE. -/
abbrev SAFE_PSF_ETYPE : Nat := 0x360ec
abbrev SAFE_PSF_ETYPE_ETYPE : Fld := ⟨SAFE_PSF_ETYPE, 15, 0⟩
/-- FIO_CTRL. -/
abbrev FIO_CTRL : Nat := 0x38000
abbrev FIO_CTRL_DO_RESTORE : Fld := ⟨FIO_CTRL, 31, 31⟩
abbrev FIO_CTRL_WDOG : Fld := ⟨FIO_CTRL, 15, 0⟩
/-- FIO_STAT. -/
abbrev FIO_STAT : Nat := 0x38004
abbrev FIO_STAT_CHS_ERR : Fld := ⟨FIO_STAT, 31, 16⟩
abbrev FIO_STAT_FD_DOWN : Fld := ⟨FIO_STAT, 5, 5⟩
abbrev FIO_STAT_SHUTDOWN : Fld := ⟨FIO_STAT, 4, 4⟩
abbrev FIO_STAT_VF2_ST : Fld := ⟨FIO_STAT, 3, 2⟩
abbrev FIO_STAT_VF1_ST : Fld := ⟨FIO_STAT, 1, 0⟩
/-- FIO_VF. -/
abbrev FIO_VF : Nat := 0x38008
abbrev FIO_VF_VF2 : Fld := ⟨FIO_VF, 31, 16⟩
abbrev FIO_VF_VF1 : Fld := ⟨FIO_VF, 15, 0⟩
/-- FIO_DI_LVL. -/
abbrev FIO_DI_LVL : Nat := 0x3800c
abbrev FIO_DI_LVL_LVL : Fld := ⟨FIO_DI_LVL, 31, 0⟩
/-- FIO_DI_EDGE. -/
abbrev FIO_DI_EDGE : Nat := 0x38010
abbrev FIO_DI_EDGE_EDGE : Fld := ⟨FIO_DI_EDGE, 31, 0⟩
/-- FIO_DO_OUT. -/
abbrev FIO_DO_OUT : Nat := 0x38014
abbrev FIO_DO_OUT_OUT : Fld := ⟨FIO_DO_OUT, 15, 0⟩
/-- FIO_DO_REARM. -/
abbrev FIO_DO_REARM : Nat := 0x3801c
abbrev FIO_DO_REARM_REARM : Fld := ⟨FIO_DO_REARM, 15, 0⟩
/-- FIO_DO_STATE. -/
abbrev FIO_DO_STATE : Nat := 0x38018
abbrev FIO_DO_STATE_RB : Fld := ⟨FIO_DO_STATE, 31, 16⟩
abbrev FIO_DO_STATE_ON : Fld := ⟨FIO_DO_STATE, 15, 0⟩
/-- FIO_DISUP_STAT. -/
abbrev FIO_DISUP_STAT : Nat := 0x38020
abbrev FIO_DISUP_STAT_OVL : Fld := ⟨FIO_DISUP_STAT, 7, 4⟩
abbrev FIO_DISUP_STAT_ON : Fld := ⟨FIO_DISUP_STAT, 3, 0⟩
/-- FIO_TS_SEL. -/
abbrev FIO_TS_SEL : Nat := 0x38024
abbrev FIO_TS_SEL_CH : Fld := ⟨FIO_TS_SEL, 4, 0⟩
/-- FIO_TS_NS. -/
abbrev FIO_TS_NS : Nat := 0x38028
abbrev FIO_TS_NS_VALID : Fld := ⟨FIO_TS_NS, 31, 31⟩
abbrev FIO_TS_NS_LEVEL : Fld := ⟨FIO_TS_NS, 30, 30⟩
abbrev FIO_TS_NS_NOTIME : Fld := ⟨FIO_TS_NS, 29, 29⟩
abbrev FIO_TS_NS_NS : Fld := ⟨FIO_TS_NS, 28, 0⟩
/-- FIO_TS_S. -/
abbrev FIO_TS_S : Nat := 0x3802c
abbrev FIO_TS_S_NS29 : Fld := ⟨FIO_TS_S, 31, 31⟩
abbrev FIO_TS_S_S : Fld := ⟨FIO_TS_S, 30, 0⟩
/-- FIO_DI_CFG, by instance number. -/
abbrev FIO_DI_CFG (n : Nat) : Nat := 0x38100 + 16 * n
abbrev FIO_DI_CFG_EN (n : Nat) : Fld := ⟨FIO_DI_CFG n, 31, 31⟩
abbrev FIO_DI_CFG_TYPE (n : Nat) : Fld := ⟨FIO_DI_CFG n, 30, 30⟩
abbrev FIO_DI_CFG_OW_EN (n : Nat) : Fld := ⟨FIO_DI_CFG n, 29, 29⟩
abbrev FIO_DI_CFG_EDGE (n : Nat) : Fld := ⟨FIO_DI_CFG n, 28, 27⟩
abbrev FIO_DI_CFG_TS_COMP (n : Nat) : Fld := ⟨FIO_DI_CFG n, 26, 26⟩
abbrev FIO_DI_CFG_THRESH (n : Nat) : Fld := ⟨FIO_DI_CFG n, 23, 16⟩
abbrev FIO_DI_CFG_SAMP (n : Nat) : Fld := ⟨FIO_DI_CFG n, 9, 0⟩
/-- FIO_DI_STAT, by instance number. -/
abbrev FIO_DI_STAT (n : Nat) : Nat := 0x38104 + 16 * n
abbrev FIO_DI_STAT_LEVEL (n : Nat) : Fld := ⟨FIO_DI_STAT n, 31, 31⟩
abbrev FIO_DI_STAT_RAW (n : Nat) : Fld := ⟨FIO_DI_STAT n, 30, 30⟩
abbrev FIO_DI_STAT_TS_CNT (n : Nat) : Fld := ⟨FIO_DI_STAT n, 20, 16⟩
abbrev FIO_DI_STAT_DROP (n : Nat) : Fld := ⟨FIO_DI_STAT n, 15, 8⟩
abbrev FIO_DI_STAT_OVF (n : Nat) : Fld := ⟨FIO_DI_STAT n, 7, 7⟩
abbrev FIO_DI_STAT_VF_LOW (n : Nat) : Fld := ⟨FIO_DI_STAT n, 4, 4⟩
abbrev FIO_DI_STAT_OT (n : Nat) : Fld := ⟨FIO_DI_STAT n, 3, 3⟩
abbrev FIO_DI_STAT_SUP_OVL (n : Nat) : Fld := ⟨FIO_DI_STAT n, 2, 2⟩
abbrev FIO_DI_STAT_OPEN (n : Nat) : Fld := ⟨FIO_DI_STAT n, 1, 1⟩
/-- FIO_DI_CNT, by instance number. -/
abbrev FIO_DI_CNT (n : Nat) : Nat := 0x38108 + 16 * n
abbrev FIO_DI_CNT_RISE (n : Nat) : Fld := ⟨FIO_DI_CNT n, 31, 16⟩
abbrev FIO_DI_CNT_FALL (n : Nat) : Fld := ⟨FIO_DI_CNT n, 15, 0⟩
/-- FIO_DO_CFG, by instance number. -/
abbrev FIO_DO_CFG (n : Nat) : Nat := 0x38300 + 8 * n
abbrev FIO_DO_CFG_EN (n : Nat) : Fld := ⟨FIO_DO_CFG n, 31, 31⟩
abbrev FIO_DO_CFG_CLASS_S (n : Nat) : Fld := ⟨FIO_DO_CFG n, 30, 30⟩
abbrev FIO_DO_CFG_SAFE (n : Nat) : Fld := ⟨FIO_DO_CFG n, 29, 28⟩
abbrev FIO_DO_CFG_OL_EN (n : Nat) : Fld := ⟨FIO_DO_CFG n, 27, 27⟩
/-- FIO_DO_STAT, by instance number. -/
abbrev FIO_DO_STAT (n : Nat) : Nat := 0x38304 + 8 * n
abbrev FIO_DO_STAT_ON (n : Nat) : Fld := ⟨FIO_DO_STAT n, 31, 31⟩
abbrev FIO_DO_STAT_READBACK (n : Nat) : Fld := ⟨FIO_DO_STAT n, 30, 30⟩
abbrev FIO_DO_STAT_CMD (n : Nat) : Fld := ⟨FIO_DO_STAT n, 29, 29⟩
abbrev FIO_DO_STAT_FAULTS (n : Nat) : Fld := ⟨FIO_DO_STAT n, 15, 8⟩
abbrev FIO_DO_STAT_SAG_OFF (n : Nat) : Fld := ⟨FIO_DO_STAT n, 5, 5⟩
abbrev FIO_DO_STAT_BACKFEED (n : Nat) : Fld := ⟨FIO_DO_STAT n, 4, 4⟩
abbrev FIO_DO_STAT_OVERLOAD (n : Nat) : Fld := ⟨FIO_DO_STAT n, 3, 3⟩
abbrev FIO_DO_STAT_OT (n : Nat) : Fld := ⟨FIO_DO_STAT n, 2, 2⟩
abbrev FIO_DO_STAT_OPEN (n : Nat) : Fld := ⟨FIO_DO_STAT n, 1, 1⟩
abbrev FIO_DO_STAT_SILENT (n : Nat) : Fld := ⟨FIO_DO_STAT n, 0, 0⟩
/-- REC_CFG. -/
abbrev REC_CFG : Nat := 0x3a000
abbrev REC_CFG_MODE : Fld := ⟨REC_CFG, 31, 31⟩
abbrev REC_CFG_REPEAT : Fld := ⟨REC_CFG, 30, 30⟩
abbrev REC_CFG_GRP_OUT : Fld := ⟨REC_CFG, 29, 29⟩
abbrev REC_CFG_GRP_IN : Fld := ⟨REC_CFG, 28, 28⟩
abbrev REC_CFG_TRIG_MASK : Fld := ⟨REC_CFG, 15, 0⟩
/-- REC_WIN. -/
abbrev REC_WIN : Nat := 0x3a004
abbrev REC_WIN_PRE : Fld := ⟨REC_WIN, 31, 16⟩
abbrev REC_WIN_POST : Fld := ⟨REC_WIN, 15, 0⟩
/-- REC_STAT. -/
abbrev REC_STAT : Nat := 0x3a008
abbrev REC_STAT_CAPTURES : Fld := ⟨REC_STAT, 31, 16⟩
abbrev REC_STAT_GRP_IGNORED : Fld := ⟨REC_STAT, 15, 8⟩
abbrev REC_STAT_STATE : Fld := ⟨REC_STAT, 2, 0⟩
/-- REC_SLOT_CFG, by instance number. -/
abbrev REC_SLOT_CFG (n : Nat) : Nat := 0x3a100 + 4 * n
abbrev REC_SLOT_CFG_EN (n : Nat) : Fld := ⟨REC_SLOT_CFG n, 31, 31⟩
abbrev REC_SLOT_CFG_KIND (n : Nat) : Fld := ⟨REC_SLOT_CFG n, 27, 24⟩
abbrev REC_SLOT_CFG_INDEX (n : Nat) : Fld := ⟨REC_SLOT_CFG n, 6, 0⟩
/-- REC_TRIG_CFG, by instance number. -/
abbrev REC_TRIG_CFG (n : Nat) : Nat := 0x3a200 + 32 * n
abbrev REC_TRIG_CFG_TYPE (n : Nat) : Fld := ⟨REC_TRIG_CFG n, 31, 28⟩
abbrev REC_TRIG_CFG_DIR (n : Nat) : Fld := ⟨REC_TRIG_CFG n, 27, 27⟩
abbrev REC_TRIG_CFG_ANG_EN (n : Nat) : Fld := ⟨REC_TRIG_CFG n, 26, 26⟩
abbrev REC_TRIG_CFG_ANG_SRC (n : Nat) : Fld := ⟨REC_TRIG_CFG n, 25, 24⟩
abbrev REC_TRIG_CFG_SRC_KIND (n : Nat) : Fld := ⟨REC_TRIG_CFG n, 23, 20⟩
abbrev REC_TRIG_CFG_T2 (n : Nat) : Fld := ⟨REC_TRIG_CFG n, 15, 8⟩
abbrev REC_TRIG_CFG_INDEX (n : Nat) : Fld := ⟨REC_TRIG_CFG n, 6, 0⟩
/-- REC_TRIG_LVL, by instance number. -/
abbrev REC_TRIG_LVL (n : Nat) : Nat := 0x3a204 + 32 * n
abbrev REC_TRIG_LVL_HI (n : Nat) : Fld := ⟨REC_TRIG_LVL n, 31, 16⟩
abbrev REC_TRIG_LVL_LO (n : Nat) : Fld := ⟨REC_TRIG_LVL n, 15, 0⟩
/-- REC_TRIG_T1, by instance number. -/
abbrev REC_TRIG_T1 (n : Nat) : Nat := 0x3a208 + 32 * n
abbrev REC_TRIG_T1_T1 (n : Nat) : Fld := ⟨REC_TRIG_T1 n, 23, 0⟩
/-- REC_TRIG_ANG, by instance number. -/
abbrev REC_TRIG_ANG (n : Nat) : Nat := 0x3a20c + 32 * n
abbrev REC_TRIG_ANG_A_HI (n : Nat) : Fld := ⟨REC_TRIG_ANG n, 31, 16⟩
abbrev REC_TRIG_ANG_A_LO (n : Nat) : Fld := ⟨REC_TRIG_ANG n, 15, 0⟩
/-- REC_TRIG_STAT, by instance number. -/
abbrev REC_TRIG_STAT (n : Nat) : Nat := 0x3a210 + 32 * n
abbrev REC_TRIG_STAT_FIRED (n : Nat) : Fld := ⟨REC_TRIG_STAT n, 31, 16⟩
abbrev REC_TRIG_STAT_IGNORED (n : Nat) : Fld := ⟨REC_TRIG_STAT n, 15, 0⟩
/-- RAKE_CFG. -/
abbrev RAKE_CFG : Nat := 0x3c000
abbrev RAKE_CFG_DEC : Fld := ⟨RAKE_CFG, 7, 0⟩
/-- RAKE_MASK0. -/
abbrev RAKE_MASK0 : Nat := 0x3c004
abbrev RAKE_MASK0_MASK : Fld := ⟨RAKE_MASK0, 31, 0⟩
/-- RAKE_MASK1. -/
abbrev RAKE_MASK1 : Nat := 0x3c008
abbrev RAKE_MASK1_MASK : Fld := ⟨RAKE_MASK1, 31, 0⟩
/-- RAKE_STAT. -/
abbrev RAKE_STAT : Nat := 0x3c00c
abbrev RAKE_STAT_RUN : Fld := ⟨RAKE_STAT, 31, 31⟩
abbrev RAKE_STAT_INJ : Fld := ⟨RAKE_STAT, 15, 0⟩
/-- RAKE_INJ_LIM, by instance number. -/
abbrev RAKE_INJ_LIM (n : Nat) : Nat := 0x3c040 + 4 * n
abbrev RAKE_INJ_LIM_LIM (n : Nat) : Fld := ⟨RAKE_INJ_LIM n, 31, 0⟩
/-- RAKE_MS_CFG. -/
abbrev RAKE_MS_CFG : Nat := 0x3c080
abbrev RAKE_MS_CFG_CLIP : Fld := ⟨RAKE_MS_CFG, 31, 16⟩
abbrev RAKE_MS_CFG_PERIOD : Fld := ⟨RAKE_MS_CFG, 15, 0⟩
/-- RAKE_MS_LINE0, by instance number. -/
abbrev RAKE_MS_LINE0 (n : Nat) : Nat := 0x3c100 + 8 * n
abbrev RAKE_MS_LINE0_A (n : Nat) : Fld := ⟨RAKE_MS_LINE0 n, 31, 0⟩
/-- RAKE_MS_LINE1, by instance number. -/
abbrev RAKE_MS_LINE1 (n : Nat) : Nat := 0x3c104 + 8 * n
abbrev RAKE_MS_LINE1_H (n : Nat) : Fld := ⟨RAKE_MS_LINE1 n, 31, 16⟩
abbrev RAKE_MS_LINE1_PH (n : Nat) : Fld := ⟨RAKE_MS_LINE1 n, 15, 0⟩
/-- JRNL_CFG. -/
abbrev JRNL_CFG : Nat := 0x3e000
abbrev JRNL_CFG_STREAM : Fld := ⟨JRNL_CFG, 31, 31⟩
abbrev JRNL_CFG_SHADOW_FW : Fld := ⟨JRNL_CFG, 30, 30⟩
abbrev JRNL_CFG_EV_CNT : Fld := ⟨JRNL_CFG, 7, 0⟩
/-- JRNL_STAT. -/
abbrev JRNL_STAT : Nat := 0x3e004
abbrev JRNL_STAT_CRUST_LOST : Fld := ⟨JRNL_STAT, 31, 31⟩
abbrev JRNL_STAT_RESTORED : Fld := ⟨JRNL_STAT, 23, 16⟩
abbrev JRNL_STAT_LOST : Fld := ⟨JRNL_STAT, 15, 8⟩
abbrev JRNL_STAT_PEND : Fld := ⟨JRNL_STAT, 6, 0⟩
/-- JRNL_OLDEST. -/
abbrev JRNL_OLDEST : Nat := 0x3e008
abbrev JRNL_OLDEST_SEQ : Fld := ⟨JRNL_OLDEST, 31, 0⟩
/-- JRNL_NEWEST. -/
abbrev JRNL_NEWEST : Nat := 0x3e00c
abbrev JRNL_NEWEST_SEQ : Fld := ⟨JRNL_NEWEST, 31, 0⟩
/-- JRNL_CRUST. -/
abbrev JRNL_CRUST : Nat := 0x3e010
abbrev JRNL_CRUST_FLAGS : Fld := ⟨JRNL_CRUST, 7, 0⟩
/-- JRNL_FW_DATA, by instance number. -/
abbrev JRNL_FW_DATA (n : Nat) : Nat := 0x3e100 + 4 * n
abbrev JRNL_FW_DATA_DATA (n : Nat) : Fld := ⟨JRNL_FW_DATA n, 31, 0⟩
/-- JRNL_FW_CODE. -/
abbrev JRNL_FW_CODE : Nat := 0x3e120
abbrev JRNL_FW_CODE_CODE : Fld := ⟨JRNL_FW_CODE, 15, 0⟩
abbrev SYS_THREAD_STATE_T (t : Nat) : Fld := ⟨SYS_THREAD_STATE, 4 * t + 3, 4 * t⟩
abbrev EIC_ROUTE_PRIO (src : Nat) : Fld := ⟨EIC_ROUTE (src / 4), 8 * (src % 4) + 7, 8 * (src % 4) + 6⟩
abbrev EIC_ROUTE_TARGET (src : Nat) : Fld := ⟨EIC_ROUTE (src / 4), 8 * (src % 4) + 5, 8 * (src % 4)⟩
abbrev SAFE_SO_STAT_B (n : Nat) : Fld := ⟨SAFE_SO_STAT, 8 * n + 7, 8 * n⟩
abbrev PWR_DOZE_CH_EN (n : Nat) : Fld := ⟨PWR_DOZE_CH, 8 * n + 7, 8 * n + 7⟩
abbrev PWR_DOZE_CH_CH (n : Nat) : Fld := ⟨PWR_DOZE_CH, 8 * n + 4, 8 * n⟩
abbrev SEC_ARB_C (k : Nat) : Fld := ⟨SEC_ARB0 + 4 * (k / 4), 8 * (k % 4) + 7, 8 * (k % 4)⟩
abbrev FIO_STAT_VF_ST (f : Nat) : Fld := ⟨FIO_STAT, 2 * f + 1, 2 * f⟩

/-- A register family: its first offset, the counts and strides of its instances, its reset word, the bits of each
access code (R12), the bits of class P and S (R13), and whether it lies in the lane views only (R468). -/
structure RegDesc where
  base : Nat
  n1 : Nat
  s1 : Nat
  n2 : Nat
  s2 : Nat
  reset : Nat
  rw : Nat
  rws : Nat
  rwl : Nat
  w1c : Nat
  wo : Nat
  clsP : Nat
  clsS : Nat
  view : Bool
deriving DecidableEq, Repr

def regTable0 : List RegDesc := [
  ⟨0, 1, 0, 1, 0, 0x9160a149, 0, 0, 0, 0, 0, 0, 0, false⟩,
  ⟨0x10, 1, 0, 1, 0, 0, 0, 0, 0, 0, 0, 0, 0, false⟩,
  ⟨0x14, 1, 0, 1, 0, 0xffffffff, 0, 0, 0, 0, 0, 0, 0, false⟩,
  ⟨0x18, 1, 0, 1, 0, 0, 0, 0, 0, 0, 0, 0xffffffff, 0, false⟩,
  ⟨0x1c, 1, 0, 1, 0, 1, 0, 0, 0, 0, 0, 0xffffffff, 0, false⟩,
  ⟨0x20, 1, 0, 1, 0, 0, 0, 1, 0, 0, 0, 0, 0, false⟩,
  ⟨0x24, 1, 0, 1, 0, 0, 0, 1, 0, 0, 0, 1, 0, false⟩,
  ⟨0x2000, 1, 0, 1, 0, 0x400, 0x8000ffff, 0, 0, 0, 0, 0, 0, false⟩,
  ⟨0x2004, 1, 0, 1, 0, 0, 0, 0, 0, 0, 0, 0, 0, false⟩,
  ⟨0x2008, 1, 0, 1, 0, 0, 0xffffffff, 0, 0, 0, 0, 0, 0, false⟩,
  ⟨0x200c, 1, 0, 1, 0, 0, 0, 0, 0, 0, 0, 0, 0, false⟩,
  ⟨0x2010, 1, 0, 1, 0, 0, 0, 0, 0, 0, 0, 0, 0, false⟩,
  ⟨0x2014, 1, 0, 1, 0, 0, 0, 0, 0, 0, 0, 0, 0, false⟩,
  ⟨0x2018, 1, 0, 1, 0, 0, 0, 0, 0, 0, 0, 0, 0, false⟩,
  ⟨0x2100, 0x10, 0x20, 1, 0, 0, 0xfffff000, 0, 0, 0, 0, 0, 0, false⟩,
  ⟨0x2104, 0x10, 0x20, 1, 0, 0, 0xffffffff, 0, 0, 0, 0, 0, 0, false⟩,
  ⟨0x2108, 0x10, 0x20, 1, 0, 0x3c004, 0x8fffc00f, 0, 0, 0, 0, 0, 0, false⟩,
  ⟨0x210c, 0x10, 0x20, 1, 0, 0, 0, 0, 0, 0, 0, 0, 0, false⟩,
  ⟨0x2300, 0x10, 0x20, 1, 0, 0, 0xfffff000, 0, 0, 0, 0, 0, 0, false⟩,
  ⟨0x2304, 0x10, 0x20, 1, 0, 0, 0xffffffff, 0, 0, 0, 0, 0, 0, false⟩,
  ⟨0x2308, 0x10, 0x20, 1, 0, 4, 0x801f000f, 0, 0, 0, 0, 0, 0, false⟩,
  ⟨0x230c, 0x10, 0x20, 1, 0, 1, 0, 0, 0, 0, 0, 0, 0, false⟩,
  ⟨0x2500, 4, 0x20, 1, 0, 0, 0xfffff000, 0, 0, 0, 0, 0, 0, false⟩,
  ⟨0x2504, 4, 0x20, 1, 0, 0, 0xffffffff, 0, 0, 0, 0, 0, 0, false⟩,
  ⟨0x2508, 4, 0x20, 1, 0, 0xa04, 0x801fff0f, 0, 0, 0, 0, 0, 0, false⟩,
  ⟨0x250c, 4, 0x20, 1, 0, 1, 0, 0, 0, 0, 0, 0, 0, false⟩,
  ⟨0x2600, 8, 4, 1, 0, 0x20, 0, 0x80000000, 0, 0, 0, 0x80001fff, 0, false⟩,
  ⟨0x2800, 8, 0x100, 0x40, 4, 0, 0, 0xffffffff, 0, 0, 0, 0xffffffff, 0, false⟩,
  ⟨0x4000, 1, 0, 1, 0, 0, 0, 0, 0, 0, 0, 0, 0, false⟩,
  ⟨0x4004, 1, 0, 1, 0, 0x3e8, 0xc000ffff, 0, 0, 0, 0, 0, 0, false⟩]

def regTable1 : List RegDesc := [
  ⟨0x4008, 1, 0, 1, 0, 0, 0, 0, 0, 0xffff0010, 0, 0, 0, false⟩,
  ⟨0x4010, 3, 4, 1, 0, 0, 0xffffffff, 0, 0, 0, 0, 0, 0, false⟩,
  ⟨0x4020, 3, 4, 1, 0, 0xffffffff, 0xffffffff, 0, 0, 0, 0, 0, 0, false⟩,
  ⟨0x4030, 3, 4, 1, 0, 0, 0, 0, 0, 0, 0, 0, 0, false⟩,
  ⟨0x4040, 3, 4, 1, 0, 0, 0, 0, 0, 0, 0, 0, 0, false⟩,
  ⟨0x4100, 0x18, 4, 1, 0, 0x3f3f3f3f, 0xffffffff, 0, 0, 0, 0, 0xffffffff, 0, false⟩,
  ⟨0x4200, 0x20, 8, 1, 0, 0x10064, 0xc0ffffff, 0, 0, 0, 0, 0, 0, false⟩,
  ⟨0x4204, 0x20, 8, 1, 0, 0, 0x7f, 0, 0, 0, 0, 0, 0, false⟩,
  ⟨0x4300, 2, 0x20, 1, 0, 0x10064, 0x80ffffff, 0, 0, 0, 0, 0, 0, true⟩,
  ⟨0x4304, 2, 0x20, 1, 0, 0, 0x7f, 0, 0, 0, 0, 0, 0, true⟩,
  ⟨0x4308, 2, 0x20, 3, 4, 0xffffffff, 0xffffffff, 0, 0, 0, 0, 0, 0, true⟩,
  ⟨0x4400, 0x60, 4, 1, 0, 0, 0, 0, 0, 0, 0, 0, 0, false⟩,
  ⟨0x4600, 0x10, 4, 1, 0, 0, 0xe000001f, 0, 0, 0, 0, 0xe000001f, 0, false⟩,
  ⟨0x6000, 1, 0, 1, 0, 0x6464, 0, 0xc000ffff, 0, 0, 0, 0xc000ffff, 0, false⟩,
  ⟨0x6004, 1, 0, 1, 0, 0, 0xffffffff, 0, 0, 0, 0, 0, 0, false⟩,
  ⟨0x6008, 1, 0, 1, 0, 0, 0, 0, 0, 0, 0, 0, 0, false⟩,
  ⟨0x600c, 1, 0, 1, 0, 0, 0, 0x9f9f9f9f, 0, 0, 0, 0x9f9f9f9f, 0, false⟩,
  ⟨0x6010, 1, 0, 1, 0, 0x10000000, 0, 0, 0, 0x1000000, 0, 0, 0, false⟩,
  ⟨0x6014, 1, 0, 1, 0, 0, 0, 0, 0, 0, 0xffff0001, 0, 0, false⟩,
  ⟨0x6018, 1, 0, 1, 0, 0, 0, 0, 0, 1, 0, 0, 0, false⟩,
  ⟨0x601c, 1, 0, 1, 0, 0, 0, 0, 0, 0, 0, 0, 0, false⟩,
  ⟨0x6020, 1, 0, 1, 0, 0, 0, 0, 0, 0, 0, 0, 0, false⟩,
  ⟨0x6028, 1, 0, 1, 0, 0, 0, 0, 0, 0, 0xffffffff, 0, 0, true⟩,
  ⟨0x8000, 1, 0, 1, 0, 0, 1, 0, 0, 0, 0, 1, 0, false⟩,
  ⟨0x8004, 1, 0, 1, 0, 0x80000000, 0, 0xffffffff, 0, 0, 0, 0, 0, false⟩,
  ⟨0x8008, 1, 0, 1, 0, 0x805a5a5a, 0, 0x807fffff, 0, 0, 0, 0x807fffff, 0, false⟩,
  ⟨0x800c, 1, 0, 1, 0, 2, 0, 0, 0, 0, 0, 0, 0, false⟩,
  ⟨0x8010, 1, 0, 1, 0, 0, 0, 0, 0, 0, 0, 0, 0, false⟩,
  ⟨0x8014, 1, 0, 1, 0, 0, 0, 0, 0, 0, 0, 0, 0, false⟩,
  ⟨0x9000, 1, 0, 1, 0, 0, 1, 0, 0, 0, 0, 0, 1, false⟩]

def regTable2 : List RegDesc := [
  ⟨0x9004, 1, 0, 1, 0, 2, 0xf, 0, 0, 0, 0, 0, 0xf, false⟩,
  ⟨0x9008, 1, 0, 1, 0, 0x80000000, 0xffffffff, 0, 0, 0, 0, 0, 0xffffffff, false⟩,
  ⟨0x900c, 1, 0, 1, 0, 0, 0, 0, 0, 0, 0, 0, 0xffff, false⟩,
  ⟨0x9010, 1, 0, 1, 0, 0, 0, 0, 0, 0, 0, 0, 0x3fffffff, false⟩,
  ⟨0x9014, 1, 0, 1, 0, 0, 0, 0, 0, 0, 0, 0, 0xffffffff, false⟩,
  ⟨0x9018, 1, 0, 1, 0, 0, 0, 0, 0, 0, 0, 0, 0xffff, false⟩,
  ⟨0x9040, 4, 0x20, 1, 0, 0x989680, 0xffffffff, 0, 0, 0, 0, 0, 0, false⟩,
  ⟨0x9044, 4, 0x20, 1, 0, 0, 0xffffffff, 0, 0, 0, 0, 0, 0, false⟩,
  ⟨0x9048, 4, 0x20, 1, 0, 0, 0xffff, 0, 0, 0, 0, 0, 0, false⟩,
  ⟨0x904c, 4, 0x20, 1, 0, 0, 0x3fffffff, 0, 0, 0, 0, 0, 0, false⟩,
  ⟨0x9050, 4, 0x20, 1, 0, 0, 0, 0, 0, 0, 0, 0, 0, false⟩,
  ⟨0x9100, 3, 0x20, 1, 0, 0, 0x8000ffff, 0, 0, 0, 0, 0x8000ffff, 0, false⟩,
  ⟨0x9104, 3, 0x20, 1, 0, 0, 0, 0, 0, 0, 0, 0, 0, false⟩,
  ⟨0x9108, 3, 0x20, 1, 0, 0, 0, 0, 0, 0, 0, 0, 0, false⟩,
  ⟨0x910c, 3, 0x20, 1, 0, 0, 0, 0, 0, 0, 0, 0, 0, false⟩,
  ⟨0xa000, 1, 0, 1, 0, 0x7d0, 0xc0ffffff, 0, 0, 0, 0, 0xc0ffffff, 0, false⟩,
  ⟨0xa004, 1, 0, 1, 0, 0, 0, 0, 0, 0, 0, 0, 0, false⟩,
  ⟨0xa008, 1, 0, 1, 0, 0, 0, 1, 0, 0, 0, 0, 0, false⟩,
  ⟨0xa00c, 1, 0, 1, 0, 0, 0, 0, 0, 0, 0, 0, 0, false⟩,
  ⟨0xa020, 8, 4, 1, 0, 0, 0, 0, 0, 0, 0, 0, 0, false⟩,
  ⟨0xb000, 1, 0, 1, 0, 2, 0, 0, 0, 0, 0, 0, 0, false⟩,
  ⟨0xb004, 4, 4, 1, 0, 0, 0, 0, 0, 0, 0, 0, 0, false⟩,
  ⟨0xb020, 4, 4, 1, 0, 0, 0, 0, 0, 0, 0, 0xffff3333, 0, false⟩,
  ⟨0xb030, 1, 0, 1, 0, 0, 0, 0, 0, 0, 0, 0xffffffff, 0, false⟩,
  ⟨0xb034, 1, 0, 1, 0, 0, 0, 0, 0, 0, 0, 0xffffffff, 0, false⟩,
  ⟨0xb038, 1, 0, 1, 0, 0, 0, 0, 0, 0, 0, 0xffff, 0, false⟩,
  ⟨0xb03c, 1, 0, 1, 0, 0, 0, 0, 0, 0, 0, 0, 0, false⟩,
  ⟨0xb040, 1, 0, 1, 0, 0, 0, 0, 0, 0, 0, 0, 0, false⟩,
  ⟨0xb044, 1, 0, 1, 0, 0, 0, 0, 0, 0, 0, 0, 0, false⟩,
  ⟨0xb050, 1, 0, 1, 0, 0x488b6, 0, 0x7ffff, 0, 0, 0, 0x7ffff, 0, false⟩]

def regTable3 : List RegDesc := [
  ⟨0xb054, 1, 0, 1, 0, 1, 0, 0, 3, 0, 0, 3, 0, false⟩,
  ⟨0xb058, 1, 0, 1, 0, 1, 0, 0, 0, 0, 0, 0, 0, false⟩,
  ⟨0xb05c, 1, 0, 1, 0, 0, 0, 0, 0, 0, 0, 0, 0, false⟩,
  ⟨0xc000, 1, 0, 1, 0, 0x50, 0, 0, 0xffff, 0, 0, 0xffff, 0, false⟩,
  ⟨0xc004, 1, 0, 1, 0, 0x500050, 0, 0, 0xffffffff, 0, 0, 0xffffffff, 0, false⟩,
  ⟨0xc008, 1, 0, 1, 0, 0x320, 0, 0, 0x1ffff, 0, 0, 0x1ffff, 0, false⟩,
  ⟨0xc00c, 1, 0, 1, 0, 0x3e80190, 0, 0, 0xffffffff, 0, 0, 0xffffffff, 0, false⟩,
  ⟨0xc010, 1, 0, 1, 0, 0x64, 0, 0, 0xffff, 0, 0, 0xffff, 0, false⟩,
  ⟨0xc014, 1, 0, 1, 0, 0, 0, 0, 1, 0, 0, 0xff01, 0, false⟩,
  ⟨0xc018, 1, 0, 1, 0, 0xa0a0a14, 0, 0, 0, 0, 0, 0, 0, false⟩,
  ⟨0xc020, 1, 0, 1, 0, 0, 0, 0, 0, 0, 0, 0, 0, false⟩,
  ⟨0xc024, 1, 0, 1, 0, 0, 0, 0, 0, 0, 0, 0xe0ffffff, 0, false⟩,
  ⟨0xc028, 1, 0, 1, 0, 0, 0, 0, 1, 0, 0, 1, 0, false⟩,
  ⟨0xc02c, 1, 0, 1, 0, 0, 0, 0, 0, 0, 0, 0, 0, false⟩,
  ⟨0xc040, 8, 4, 1, 0, 0x400002, 0, 0, 0xfff0003f, 0, 0, 0xfff0003f, 0, false⟩,
  ⟨0xc060, 1, 0, 1, 0, 0x400000, 0, 0, 0xffc00000, 0, 0, 0xffc00000, 0, false⟩,
  ⟨0xc064, 1, 0, 1, 0, 0, 0, 0, 0, 0xff, 0, 0, 0, false⟩,
  ⟨0xc100, 8, 0x10, 1, 0, 0, 0, 0, 0, 0, 0, 0, 0, false⟩,
  ⟨0xc104, 8, 0x10, 1, 0, 0, 0, 0, 0, 0, 0, 0, 0, false⟩,
  ⟨0xc108, 8, 0x10, 1, 0, 0, 0, 0, 0, 0, 0, 0, 0, false⟩,
  ⟨0xc10c, 8, 0x10, 1, 0, 0x3f00, 0, 0, 0, 0, 0, 0, 0, false⟩,
  ⟨0xe000, 1, 0, 1, 0, 4, 0, 0x100ff, 0, 0, 0, 0x100ff, 0, false⟩,
  ⟨0xe004, 1, 0, 1, 0, 0, 0, 0, 0, 0, 0, 0, 0, false⟩,
  ⟨0xe008, 1, 0, 1, 0, 0, 0, 0, 0, 0, 0, 0, 0, false⟩,
  ⟨0xe00c, 1, 0, 1, 0, 0, 0, 0, 0, 0, 0, 0, 0, false⟩,
  ⟨0xe010, 1, 0, 1, 0, 0xfc000000, 0, 0, 0, 0, 0, 0, 0, false⟩,
  ⟨0xe014, 1, 0, 1, 0, 0, 0, 0, 0, 0, 0, 0, 0, false⟩,
  ⟨0xe018, 1, 0, 1, 0, 0, 0, 0, 0, 0, 0, 0xffff0003, 0, false⟩,
  ⟨0xe01c, 1, 0, 1, 0, 0, 0, 0, 0, 0, 0, 0, 0, false⟩,
  ⟨0xe020, 1, 0, 1, 0, 0, 0, 0, 0, 0, 0, 0, 0, false⟩]

def regTable4 : List RegDesc := [
  ⟨0x10000, 1, 0, 1, 0, 0x2000000, 0, 0x7ff0003, 0, 0, 0, 0x7ff0003, 0, false⟩,
  ⟨0x10004, 1, 0, 1, 0, 3, 0, 0, 0, 0, 0, 0, 0, false⟩,
  ⟨0x10008, 1, 0, 1, 0, 0, 0, 0, 0, 0, 0, 0, 0, false⟩,
  ⟨0x1000c, 1, 0, 1, 0, 0, 0, 0, 0, 0, 0, 0, 0, false⟩,
  ⟨0x10100, 4, 0x40, 1, 0, 0, 0, 0, 0, 0, 0, 0, 0, false⟩,
  ⟨0x10104, 4, 0x40, 1, 0, 0, 0, 0, 0, 0, 0, 0, 0, false⟩,
  ⟨0x10108, 4, 0x40, 1, 0, 0, 0, 0xffffffff, 0, 0, 0, 0, 0, false⟩,
  ⟨0x1010c, 4, 0x40, 1, 0, 0, 0, 0xffffffff, 0, 0, 0, 0, 0, false⟩,
  ⟨0x10110, 4, 0x40, 1, 0, 0, 0, 0xffffffff, 0, 0, 0, 0, 0, false⟩,
  ⟨0x10114, 4, 0x40, 1, 0, 0, 0, 0x8000000f, 0, 0, 0, 0, 0, false⟩,
  ⟨0x10118, 4, 0x40, 1, 0, 0, 0, 0x13, 0, 0, 0, 0x13, 0, false⟩,
  ⟨0x1011c, 4, 0x40, 1, 0, 0x8000, 0, 0xffffffff, 0, 0, 0, 0xffffffff, 0, false⟩,
  ⟨0x10120, 4, 0x40, 1, 0, 0, 0, 0xffffffff, 0, 0, 0, 0xffffffff, 0, false⟩,
  ⟨0x10124, 4, 0x40, 1, 0, 0, 0, 0xffffffff, 0, 0, 0, 0xffffffff, 0, false⟩,
  ⟨0x10128, 4, 0x40, 1, 0, 0, 0, 0, 0, 0, 0, 0, 0, false⟩,
  ⟨0x1012c, 4, 0x40, 1, 0, 0, 0, 0, 0, 0, 0, 0, 0, false⟩,
  ⟨0x10130, 4, 0x40, 1, 0, 0, 0, 0, 0, 0, 0, 0, 0, false⟩,
  ⟨0x14000, 0x1000, 0x10, 1, 0, 0, 0, 0xffffffff, 0, 0, 0, 0xffffffff, 0, false⟩,
  ⟨0x14004, 0x1000, 0x10, 1, 0, 0, 0, 0xfff0ffff, 0, 0, 0, 0xfff0ffff, 0, false⟩,
  ⟨0x14008, 0x1000, 0x10, 1, 0, 0, 0, 0xffffffff, 0, 0, 0, 0xffffffff, 0, false⟩,
  ⟨0x1400c, 0x1000, 0x10, 1, 0, 0, 0, 0, 0, 0, 0, 0, 0, false⟩,
  ⟨0x24000, 1, 0, 1, 0, 0, 0, 0xffff0000, 0, 0, 0, 0xffff0000, 0, false⟩,
  ⟨0x24004, 1, 0, 1, 0, 0, 0, 0, 0, 7, 0, 0, 0, false⟩,
  ⟨0x24008, 5, 4, 1, 0, 0, 0, 0, 0, 0xffffffff, 0, 0, 0, false⟩,
  ⟨0x2401c, 1, 0, 1, 0, 0, 0x7f, 0, 0, 0, 0, 0x7f, 0, false⟩,
  ⟨0x24020, 1, 0, 1, 0, 0, 0, 0xffff, 0, 0, 0, 0xffff, 0, false⟩,
  ⟨0x24030, 4, 4, 1, 0, 0x10, 0, 0xffff007f, 0, 0, 0, 0xffff007f, 0, false⟩,
  ⟨0x24100, 0x20, 4, 1, 0, 0x7fe007e0, 0, 0xffffffff, 0, 0, 0, 0xffffffff, 0, false⟩,
  ⟨0x24400, 0x50, 0x10, 1, 0, 0x800, 0, 0xfffffff0, 0, 0, 0, 0xfffffff0, 0, false⟩,
  ⟨0x24404, 0x50, 0x10, 1, 0, 0x100000f, 0, 0xffffffff, 0, 0, 0, 0xffffffff, 0, false⟩]

def regTable5 : List RegDesc := [
  ⟨0x24408, 0x50, 0x10, 1, 0, 0, 0, 0xffffffff, 0, 0, 0, 0xffffffff, 0, false⟩,
  ⟨0x2440c, 0x50, 0x10, 1, 0, 0x7fff8000, 0, 0xffffffff, 0, 0, 0, 0xffffffff, 0, false⟩,
  ⟨0x24c00, 0x10, 8, 1, 0, 0x8000, 0xffffffff, 0, 0, 0, 0, 0xffffffff, 0, true⟩,
  ⟨0x24c04, 0x10, 8, 1, 0, 0, 0x1f, 0, 0, 0, 0, 0x1f, 0, true⟩,
  ⟨0x28000, 1, 0, 1, 0, 0, 0, 0, 0, 0, 0, 0, 0, false⟩,
  ⟨0x28004, 1, 0, 1, 0, 0, 0, 0, 0, 0, 0, 0, 0, false⟩,
  ⟨0x28008, 1, 0, 1, 0, 0, 0, 0, 0, 0, 0, 0, 0, false⟩,
  ⟨0x28010, 5, 4, 1, 0, 0, 0, 0, 0, 0, 0, 0, 0, false⟩,
  ⟨0x28100, 0x10, 8, 1, 0, 0x30d4, 0, 0xff01ffff, 0, 0, 0, 0xff01ffff, 0, false⟩,
  ⟨0x28104, 0x10, 8, 1, 0, 0, 0, 0, 0, 0, 0, 0, 0, false⟩,
  ⟨0x28400, 0xa0, 8, 1, 0, 0, 0, 0x80ff1f00, 0, 0, 0, 0x80ff1f00, 0, false⟩,
  ⟨0x28404, 0xa0, 8, 1, 0, 0, 0, 0, 0, 0x3c, 0, 0, 0, false⟩,
  ⟨0x2c000, 1, 0, 1, 0, 0, 0, 0x8000001f, 0, 0, 0, 0, 0, false⟩,
  ⟨0x2c004, 1, 0, 1, 0, 0, 0, 0xffffffff, 0, 0, 0, 0, 0, false⟩,
  ⟨0x2c100, 4, 0x100, 1, 0, 0, 0, 0xff000000, 0, 0, 0, 0xff000000, 0, false⟩,
  ⟨0x2c104, 4, 0x100, 1, 0, 0, 0, 0, 0, 0x380, 0, 0, 0, false⟩,
  ⟨0x2c108, 4, 0x100, 1, 0, 0, 0, 0, 0, 0, 0, 0, 0, false⟩,
  ⟨0x2c120, 4, 0x100, 6, 0x10, 0x4000200, 0, 0xffffffff, 0, 0, 0, 0xffffffff, 0, false⟩,
  ⟨0x2c124, 4, 0x100, 6, 0x10, 0x2000200, 0, 0xffffffff, 0, 0, 0, 0xffffffff, 0, false⟩,
  ⟨0x2c128, 4, 0x100, 6, 0x10, 0x7fff8000, 0, 0xffffffff, 0, 0, 0, 0xffffffff, 0, false⟩,
  ⟨0x2e000, 1, 0, 1, 0, 0, 0, 1, 0, 0, 0, 0, 0, false⟩,
  ⟨0x2e004, 1, 0, 1, 0, 0, 0, 0xffffffff, 0, 0, 0, 0, 0, false⟩,
  ⟨0x2e008, 1, 0, 1, 0, 0, 0, 0xffff, 0, 0, 0, 0, 0, false⟩,
  ⟨0x2e00c, 1, 0, 1, 0, 0, 0, 0, 0, 3, 0, 0, 0, false⟩,
  ⟨0x2e100, 0x10, 0x20, 1, 0, 0, 0, 0xb0000000, 0, 0, 0, 0xb0000000, 0, false⟩,
  ⟨0x2e104, 0x10, 0x20, 1, 0, 0x800000, 0, 0xffffffff, 0, 0, 0, 0xffffffff, 0, false⟩,
  ⟨0x2e108, 0x10, 0x20, 1, 0, 0x2000000, 0, 0xffffffff, 0, 0, 0, 0xffffffff, 0, false⟩,
  ⟨0x2e10c, 0x10, 0x20, 1, 0, 0, 0, 0xffffffff, 0, 0, 0, 0xffffffff, 0, false⟩,
  ⟨0x2e110, 0x10, 0x20, 1, 0, 0, 0, 0xbfbfbfbf, 0, 0, 0, 0xbfbfbfbf, 0, false⟩,
  ⟨0x2e114, 0x10, 0x20, 1, 0, 0, 0, 0, 0, 5, 0, 0, 0, false⟩]

def regTable6 : List RegDesc := [
  ⟨0x2e400, 0x30, 0x20, 1, 0, 0, 0, 0x7f800000, 0, 0, 0, 0x7f800000, 0, false⟩,
  ⟨0x2e404, 0x30, 0x20, 1, 0, 0x3200190, 0, 0xffffffff, 0, 0, 0, 0xffffffff, 0, false⟩,
  ⟨0x2e408, 0x30, 0x20, 1, 0, 0xfa0, 0, 0xffff, 0, 0, 0, 0xffff, 0, false⟩,
  ⟨0x2e40c, 0x30, 0x20, 1, 0, 0x3e807d0, 0, 0xffffffff, 0, 0, 0, 0xffffffff, 0, false⟩,
  ⟨0x2e410, 0x30, 0x20, 1, 0, 0, 0, 0, 0, 0, 0, 0, 0, false⟩,
  ⟨0x2e414, 0x30, 0x20, 1, 0, 0, 0, 0, 0, 0, 0, 0, 0, false⟩,
  ⟨0x2e418, 0x30, 0x20, 1, 0, 0, 0, 0, 0, 0x10, 0, 0, 0, false⟩,
  ⟨0x32004, 1, 0, 1, 0, 0, 0, 0xff, 0, 0, 0, 0, 0, false⟩,
  ⟨0x32008, 1, 0, 1, 0, 0xc8, 0, 0, 0, 0, 0, 0, 0, false⟩,
  ⟨0x32100, 0x30, 0x20, 1, 0, 0, 0, 0x8000ffff, 0, 0, 0, 0x8000ffff, 0, false⟩,
  ⟨0x32104, 0x30, 0x20, 1, 0, 0, 0, 0, 0, 0x10000, 0, 0, 0, false⟩,
  ⟨0x32108, 0x30, 0x20, 1, 0, 0, 0, 0, 0, 0, 0, 0, 0, false⟩,
  ⟨0x3210c, 0x30, 0x20, 1, 0, 0, 0, 0, 0, 0, 0, 0, 0, false⟩,
  ⟨0x32110, 0x30, 0x20, 1, 0, 0, 0, 0, 0, 0, 0, 0, 0, false⟩,
  ⟨0x32114, 0x30, 0x20, 1, 0, 0, 0, 0, 0, 0, 0, 0, 0, false⟩,
  ⟨0x34000, 4, 0x20, 1, 0, 0xa00050, 0, 0xffe000ff, 0, 0, 0, 0xffe000ff, 0, false⟩,
  ⟨0x34004, 4, 0x20, 1, 0, 0x4e200000, 0, 0xffffffff, 0, 0, 0, 0xffffffff, 0, false⟩,
  ⟨0x34008, 4, 0x20, 1, 0, 0xff80, 0, 0xffff, 0, 0, 0, 0xffff, 0, false⟩,
  ⟨0x3400c, 4, 0x20, 1, 0, 0x1f40064, 0, 0xffffffff, 0, 0, 0, 0xffffffff, 0, false⟩,
  ⟨0x34010, 4, 0x20, 1, 0, 0, 0, 1, 0, 0, 0, 0, 0, false⟩,
  ⟨0x34014, 4, 0x20, 1, 0, 0, 0, 0, 0, 0x300, 0, 0, 0, false⟩,
  ⟨0x36000, 1, 0, 1, 0, 0xa05a0, 0, 0, 0x80ffffff, 0, 0, 0x80ffffff, 0, false⟩,
  ⟨0x36004, 1, 0, 1, 0, 0, 0, 0, 0, 0, 0, 0, 0, false⟩,
  ⟨0x36008, 1, 0, 1, 0, 0x5a0, 0, 0, 0, 0, 0, 0xffff, 0, false⟩,
  ⟨0x3600c, 1, 0, 1, 0, 0, 0, 0, 0, 0, 0, 0, 0, false⟩,
  ⟨0x36010, 1, 0, 1, 0, 0x140190, 0, 0, 0xffffffff, 0, 0, 0xffffffff, 0, false⟩,
  ⟨0x36020, 8, 4, 1, 0, 0x7701e32, 0, 0, 0xff70ffff, 0, 0, 0xff70ffff, 0, false⟩,
  ⟨0x36040, 1, 0, 1, 0, 0, 0, 0, 0, 0xff, 0, 0, 0, false⟩,
  ⟨0x36050, 4, 4, 1, 0, 0x112c000a, 0, 0, 0xfbff01ff, 0, 0, 0xfbff01ff, 0, false⟩,
  ⟨0x36060, 4, 4, 1, 0, 0, 0, 3, 0, 0, 0, 0, 0, false⟩]

def regTable7 : List RegDesc := [
  ⟨0x36070, 1, 0, 1, 0, 0, 0, 0, 0, 0, 0, 0, 0, false⟩,
  ⟨0x36080, 2, 0x10, 1, 0, 0xd183200, 0, 0, 0xffffff00, 0, 0, 0xffffff00, 0, false⟩,
  ⟨0x36084, 2, 0x10, 1, 0, 0x4000, 0, 0, 0xffffffff, 0, 0, 0xffffffff, 0, false⟩,
  ⟨0x36088, 2, 0x10, 1, 0, 0x1000000, 0, 0, 0xffffffff, 0, 0, 0xffffffff, 0, false⟩,
  ⟨0x3608c, 2, 0x10, 1, 0, 0, 0, 0, 0, 0, 0, 0, 0, false⟩,
  ⟨0x360a0, 2, 0x10, 1, 0, 0, 0, 0, 0xffffffff, 0, 0, 0xffffffff, 0, false⟩,
  ⟨0x360a4, 2, 0x10, 1, 0, 0, 0, 0, 0, 0, 0, 0, 0, false⟩,
  ⟨0x360a8, 2, 0x10, 1, 0, 0, 0, 0, 0, 0, 0, 0, 0, false⟩,
  ⟨0x360c0, 1, 0, 1, 0, 0x414050a, 0, 0, 0xffffffff, 0, 0, 0xffffffff, 0, false⟩,
  ⟨0x360c4, 1, 0, 1, 0, 0, 0, 0, 0xffffffff, 0, 0, 0xffffffff, 0, false⟩,
  ⟨0x360c8, 1, 0, 1, 0, 0, 0, 0, 0xffffffff, 0, 0, 0xffffffff, 0, false⟩,
  ⟨0x360cc, 1, 0, 1, 0, 0x100100, 0, 0, 0xffffffff, 0, 0, 0xffffffff, 0, false⟩,
  ⟨0x360d0, 1, 0, 1, 0, 0x1410, 0, 0, 0xffffffff, 0, 0, 0xffffffff, 0, false⟩,
  ⟨0x360d4, 1, 0, 1, 0, 0, 0, 0, 0, 0, 0, 0, 0, false⟩,
  ⟨0x360e0, 1, 0, 1, 0, 0x19064500, 0, 0, 0xffffff81, 0, 0, 0xffffff81, 0, false⟩,
  ⟨0x360e4, 1, 0, 1, 0, 0xffff, 0, 0, 0xffffffff, 0, 0, 0xffffffff, 0, false⟩,
  ⟨0x360e8, 1, 0, 1, 0, 0, 0, 0, 0, 0, 0, 0, 0, false⟩,
  ⟨0x360ec, 1, 0, 1, 0, 0x88b5, 0, 0, 0xffff, 0, 0, 0xffff, 0, false⟩,
  ⟨0x38000, 1, 0, 1, 0, 0x64, 0, 0x8000ffff, 0, 0, 0, 0x8000ffff, 0, false⟩,
  ⟨0x38004, 1, 0, 1, 0, 0, 0, 0, 0, 0, 0, 0, 0, false⟩,
  ⟨0x38008, 1, 0, 1, 0, 0, 0, 0, 0, 0, 0, 0, 0, false⟩,
  ⟨0x3800c, 1, 0, 1, 0, 0, 0, 0, 0, 0, 0, 0, 0, false⟩,
  ⟨0x38010, 1, 0, 1, 0, 0, 0, 0, 0, 0xffffffff, 0, 0, 0, false⟩,
  ⟨0x38014, 1, 0, 1, 0, 0, 0, 0xffff, 0, 0, 0, 0, 0, false⟩,
  ⟨0x38018, 1, 0, 1, 0, 0, 0, 0, 0, 0, 0, 0, 0, false⟩,
  ⟨0x3801c, 1, 0, 1, 0, 0, 0, 0xffff, 0, 0, 0, 0, 0, false⟩,
  ⟨0x38020, 1, 0, 1, 0, 0, 0, 0, 0, 0xf0, 0, 0, 0, false⟩,
  ⟨0x38024, 1, 0, 1, 0, 0, 0x1f, 0, 0, 0, 0, 0, 0, false⟩,
  ⟨0x38028, 1, 0, 1, 0, 0, 0, 0, 0, 0, 0, 0, 0, false⟩,
  ⟨0x3802c, 1, 0, 1, 0, 0, 0, 0, 0, 0, 0, 0, 0, false⟩]

def regTable8 : List RegDesc := [
  ⟨0x38100, 0x20, 0x10, 1, 0, 0x3000a, 0, 0xfcff03ff, 0, 0, 0, 0xfcff03ff, 0, false⟩,
  ⟨0x38104, 0x20, 0x10, 1, 0, 0, 0, 0, 0, 0x8e, 0, 0, 0, false⟩,
  ⟨0x38108, 0x20, 0x10, 1, 0, 0, 0, 0, 0, 0, 0, 0, 0, false⟩,
  ⟨0x38300, 0x10, 8, 1, 0, 0, 0, 0xf8000000, 0, 0, 0, 0xf8000000, 0, false⟩,
  ⟨0x38304, 0x10, 8, 1, 0, 0, 0, 0, 0, 2, 0, 0, 0, false⟩,
  ⟨0x3a000, 1, 0, 1, 0, 0, 0, 0xf000ffff, 0, 0, 0, 0xf000ffff, 0, false⟩,
  ⟨0x3a004, 1, 0, 1, 0, 0x640064, 0, 0xffffffff, 0, 0, 0, 0xffffffff, 0, false⟩,
  ⟨0x3a008, 1, 0, 1, 0, 0, 0, 0, 0, 0, 0, 0, 0, false⟩,
  ⟨0x3a100, 0x20, 4, 1, 0, 0, 0, 0x8f00007f, 0, 0, 0, 0x8f00007f, 0, false⟩,
  ⟨0x3a200, 0x10, 0x20, 1, 0, 0, 0, 0xfff0ff7f, 0, 0, 0, 0xfff0ff7f, 0, false⟩,
  ⟨0x3a204, 0x10, 0x20, 1, 0, 0x7fff8000, 0, 0xffffffff, 0, 0, 0, 0xffffffff, 0, false⟩,
  ⟨0x3a208, 0x10, 0x20, 1, 0, 1, 0, 0xffffff, 0, 0, 0, 0xffffff, 0, false⟩,
  ⟨0x3a20c, 0x10, 0x20, 1, 0, 0xffff0000, 0, 0xffffffff, 0, 0, 0, 0xffffffff, 0, false⟩,
  ⟨0x3a210, 0x10, 0x20, 1, 0, 0, 0, 0, 0, 0, 0, 0, 0, false⟩,
  ⟨0x3c000, 1, 0, 1, 0, 0, 0, 0xff, 0, 0, 0, 0xff, 0, false⟩,
  ⟨0x3c004, 1, 0, 1, 0, 0, 0, 0xffffffff, 0, 0, 0, 0xffffffff, 0, false⟩,
  ⟨0x3c008, 1, 0, 1, 0, 0, 0, 0xffffffff, 0, 0, 0, 0xffffffff, 0, false⟩,
  ⟨0x3c00c, 1, 0, 1, 0, 0, 0, 0, 0, 0, 0, 0, 0, false⟩,
  ⟨0x3c040, 0x10, 4, 1, 0, 0, 0, 0xffffffff, 0, 0, 0, 0xffffffff, 0, false⟩,
  ⟨0x3c080, 1, 0, 1, 0, 0x200, 0, 0xffff, 0, 0, 0, 0xffff, 0, false⟩,
  ⟨0x3c100, 0x40, 8, 1, 0, 0, 0, 0xffffffff, 0, 0, 0, 0xffffffff, 0, false⟩,
  ⟨0x3c104, 0x40, 8, 1, 0, 0, 0, 0xffffffff, 0, 0, 0, 0xffffffff, 0, false⟩,
  ⟨0x3e000, 1, 0, 1, 0, 1, 0, 0xc00000ff, 0, 0, 0, 0xc00000ff, 0, false⟩,
  ⟨0x3e004, 1, 0, 1, 0, 0, 0, 0, 0, 0, 0, 0, 0, false⟩,
  ⟨0x3e008, 1, 0, 1, 0, 0, 0, 0, 0, 0, 0, 0xffffffff, 0, false⟩,
  ⟨0x3e00c, 1, 0, 1, 0, 0, 0, 0, 0, 0, 0, 0xffffffff, 0, false⟩,
  ⟨0x3e010, 1, 0, 1, 0, 0, 0, 0, 0, 0, 0, 0, 0, false⟩,
  ⟨0x3e100, 8, 4, 1, 0, 0, 0xffffffff, 0, 0, 0, 0, 0, 0, true⟩,
  ⟨0x3e120, 1, 0, 1, 0, 0, 0, 0, 0, 0, 0xffff, 0, 0, true⟩]

/-- Every register family, by rising base (R474). -/
def regTable : List RegDesc :=
  regTable0 ++ regTable1 ++ regTable2 ++ regTable3 ++ regTable4 ++ regTable5 ++ regTable6 ++ regTable7 ++ regTable8

/-- The offset names an instance of the family (R475). -/
def RegDesc.covers (d : RegDesc) (off : Nat) : Bool :=
  if off < d.base then false
  else
    let k := off - d.base
    if d.n1 = 1 then
      if d.n2 = 1 then k = 0 else k % d.s2 = 0 && k / d.s2 < d.n2
    else
      let i := k / d.s1
      let j := k % d.s1
      i < d.n1 && (if d.n2 = 1 then j = 0 else j % d.s2 = 0 && j / d.s2 < d.n2)

def findDesc : List RegDesc → Nat → Option RegDesc
  | [], _ => none
  | d :: t, off => if d.covers off then some d else findDesc t off

/-- The family of the register at an offset, where the index names one (R469). -/
def regDesc (off : Nat) : Option RegDesc := findDesc regTable off

end Sys2Proof.Machine
end

