-- ==== Sys2Proof/Machine/State.lean ====
section
/-! DEFINITION. The state of the part as plain data: the queue of waiting commands, the register files (every bit a
register shows), and one structure for each piece of state that is no register. INVENTORY.md lists them with the rules
that name them. Times are counts of ticks (R7) in `State.now`, unless a field says otherwise. -/
namespace Sys2Proof.Machine

/-- A register file: the words that differ from their reset word, by rising BAR0 offset (R472, R474). -/
abbrev RegFile := List (Nat × Word)

/-- An addressed memory of 32-bit words, in one canonical form: rising addresses, no entry that is 0. An unlisted
address reads 0 (log 6). -/
abbrev WordMem := List (Nat × Word)

/-! ### Angle scheduler (02) -/

/-- One angle source of a lane (R46, R47, R50). `acc` is the angle with its 16-bit fraction below bit 0; `written` is the
increment last written, before any clamp, `none` until the first boundary. The increment in force is ASC_Sn_INC; steps and
loads wait in their registers. `frontAtTick` is the front at the start of the present tick, and `counted` tells whether a
resynchronisation of this tick has taken effect. -/
structure AngleSrc where
  acc : BitVec 48
  front : Word
  frontAtTick : Word
  written : Option Word
  counted : Bool
deriving DecidableEq, Repr

/-- An entry waiting in the dispatch queue with the copy of its words taken at its crossing (R64). -/
structure QEntry where
  idx : Nat
  words : EntryWords
  late : Bool
  src : Nat
  at_ : Nat
deriving DecidableEq, Repr

/-- An internal sync line and the end of its running pulse (R61). -/
structure SyncLine where
  level : Bool
  until_ : Option Nat
deriving DecidableEq, Repr

/-- The angle scheduler of a lane. `frameStart` and `frameEnd` are angles of the frame source in force (R56, R57),
`prevStart` that of the frame before; `frameTick` is the tick of the last boundary and `prevTick` that of the one before; `grpLatch` holds (angle, increment) per
source for each group launch (R66); `rewritten` lists the entries committed at the last boundary (R62); `prevSrc`, `prevEnd`
and `prevFront` are the source and the end of the frame before, and that source's front after the advance of the boundary
tick alone (R63, R67); `crossed` lists the entries taken in the tick `crossedAt`. -/
structure Asc where
  srcs : List AngleSrc
  frameStart : Word
  prevStart : Word
  frameEnd : Word
  frameTick : Nat
  prevTick : Nat
  nInForce : Nat
  queue : List QEntry
  lastDisp : Option Nat
  grpLatch : List (List (Word × Word))
  sync : List SyncLine
  rewritten : List Nat
  prevSrc : Nat
  prevEnd : Word
  prevFront : Word
  crossedAt : Nat
  crossed : List Nat
deriving DecidableEq, Repr

/-! ### Measurement chain (03) -/

/-- A sample of a channel: its sampling instant as a tick, its value, and whether a LATE entry started its conversion (R79,
R90). -/
structure ChanSample where
  at_ : Nat
  val : Int
  late : Bool
deriving DecidableEq, Repr

/-- A window to close: it holds the samples from before `cut`, its output is ready at `ready`, and `out` tells whether it
gives a channel output, or only an output of the CIC ahead of the FIR (R79, R80, R85). -/
structure Window where
  cut : Nat
  ready : Nat
  out : Bool
deriving DecidableEq, Repr

/-- An integrator and comb filter channel with its latest output and latch (R83 to R91). `samples` are those not yet taken in,
oldest first, and `taken` the last one taken in; `due` lists the windows that wait for their slot; `fill` counts the samples
of a FREE window, `winIdx` and `gridIdx` the windows and grid instants of the running frame, `starts` holds the conversions
of the ended frame that still start, and `gridAt` is the start of the grid in force (R78 to R82). `flags` are NEW, SETTLING,
LATE, SAT from bit 0; `raw` is the last corrected code, `prevBit` and `edgeAt` the last sampled bit and its tick; the Old
fields hold what stood before the outputs of `lastTick`, and before the latching of `latchAt`. -/
structure Chan where
  integ : List Int
  comb : List Int
  samples : List ChanSample
  taken : Option ChanSample
  due : List Window
  fill : Nat
  winIdx : Nat
  gridIdx : Nat
  starts : List Nat
  gridAt : Nat
  pairTurn : Bool
  fir : List Int
  firCount : Nat
  settle : Nat
  out : Word
  flags : BitVec 4
  fresh : Bool
  latch : Word
  latchFlags : BitVec 4
  latchAt : Nat
  latchOld : Word
  latchFlagsOld : BitVec 4
  hi : Bool
  lo : Bool
  prevBit : Bool
  edgeAt : Nat
  lateMark : Bool
  pendLate : Option Bool
  raw : BitVec 16
  lastTick : Nat
  outOld : Word
  flagsOld : BitVec 4
  freshOld : Bool
deriving DecidableEq, Repr

/-- A SAR core: the channel it converts or will convert next, the tick at which that conversion starts or the last one did,
and the instant at which the input is sampled, in fine steps (R70, R71, R74). -/
structure SarCore where
  chan : Option Nat
  late : Bool
  startAt : Option Nat
  sampledAt : Int
deriving DecidableEq, Repr

/-- The comparators of an analog input: its voltage in µV, above the HI level, below the LO level, and the two hard
comparators (R93, R94). -/
structure FastCmp where
  input : Int
  above : Bool
  below : Bool
  hardHi : Bool
  hardLo : Bool
deriving DecidableEq, Repr

structure Meas where
  chans : List Chan
  cores : List SarCore
  cmps : List FastCmp
  fir : WordMem
deriving DecidableEq, Repr

/-! ### Control law engine (04) -/

/-- The context run of a datapath (R99, R100, R129, R130). -/
structure CtxRun where
  ctx : Nat
  group : Nat
  pc : Nat
  since : Nat
  cycles : Nat
  rebase : Bool
  bank : Bool
  ops : Nat
deriving DecidableEq, Repr

/-- A datapath: D0–D31, ACC0–ACC3, CF, the run and the run queue of (context, group), whether a signature run waits for the
END of the run, the end of the last signature run, and the tick from which a context is taken up (R98, R120, R122). -/
structure DpState where
  d : List Word
  acc : List (BitVec 48)
  cf : Bool
  run : Option CtxRun
  queue : List (Nat × Nat)
  sigPend : Bool
  sigUntil : Nat
  freeAt : Nat
deriving DecidableEq, Repr

/-- An OUT value held for publication: context, order within the run, binding word and value (R124). -/
structure Held where
  ctx : Nat
  seq : Nat
  bind : Word
  val : Word
deriving DecidableEq, Repr

/-- A context group between its launch and its completion (R121, R123), and what it published in the tick of its last
completion (R124). -/
structure GroupRun where
  running : Bool
  launchTally : DWord
  deadline : Nat
  left : List Nat
  held : List Held
  missed : Bool
  doneAt : Option Nat
  done : List Held
deriving DecidableEq, Repr

/-- A mailbox word (key 8 × context + slot) with the tick of its last publication, and the word and tick before it:
an IN op sees what was published before its own tick (R115). -/
structure Mail where
  key : Nat
  val : Word
  at_ : Nat
  old : Word
  oldAt : Option Nat
deriving DecidableEq, Repr

/-- What the previous IN op of a context on a binding saw (R115). -/
structure InHist where
  ctx : Nat
  n : Nat
  at_ : Nat
  code : Nat
deriving DecidableEq, Repr

/-- A thread of the law library (R141 to R161). Per-unit values are Q3.29 numbers. Law state and trip cause; whether the thread
was SWITCHING in the last run of its outer law; phase currents; currents in the θv frame, filtered power, DC-link voltages,
and the positive-sequence magnitude of the capacitor voltages; the unsaturated current reference; layers 1 and 2 engaged; the
DC-link PI; ID_BASE; the integrators of the current loop; NEW misses in a row, failed frames in a row, and a failure of this
frame; the frames that the shutdown pattern has run; the ramp of i_q; the rotor angle last seen, rotor speed, speed PI,
DC-link PI, torque and available power of the machine law, and whether it holds the DC link; the integrators of the machine
current loop; the corrections of the sharing law; and whether a setpoint of its own is clamped. -/
structure ThrLaw where
  st : Nat
  trip : Nat
  sw : Bool
  ia : Int
  ib : Int
  ic : Int
  mD : Int
  mQ : Int
  p : Int
  q : Int
  vdc : Int
  vhp : Int
  vhn : Int
  vcap : Int
  refD : Int
  refQ : Int
  lim1 : Bool
  lim2 : Bool
  dcInt : Int
  dcOut : Int
  base : Int
  xd : Int
  xq : Int
  miss : Nat
  bad : Nat
  failed : Bool
  pat : Option Nat
  iqRamp : Option Int
  rotor : Option Word
  wr : Int
  spd : Int
  drive : Int
  torque : Int
  avail : Int
  holdsDc : Bool
  mxd : Int
  mxq : Int
  corrD : Int
  corrQ : Int
  cm : Int
  cmOut : Int
  clamped : Bool
deriving DecidableEq, Repr

/-- The law library of a lane (R134 to R163): T_f in 2^-16 tick; law state, trip cause, mode word in force and FRT_STATE of the
module; whether θv was loaded from θt; ω, pj_corr as an increment, x_v, e and the last increment published; ω_g, the PLL's
integrator and the DSOGI; the PCC voltage in the θv frame and its sequence magnitudes; δ, a jump in the last run, PJ_CORR; the
sums and the count of the running turn, whether the last turn was full, VRMS_MIN and VRMS_MAX; FRT_TIME and the timers of
R154 to R157 in 2^-16 tick; RoCoF, ISL_SUSPECT and the shift of R157 in bt; the setpoints in force; P0 as ramped, and whether
it ramps; module p, q and mean virtual power; the frames of a transfer and the mode it goes to; whether the segment of V0 has
run; the reserve, H_EFF, ID_EXTRA_MAX, rotor speed and event code of R162 and R163; SP_CLAMP and FREQ_CLAMP; and the
threads. -/
structure Law where
  tf : Nat
  st : Nat
  trip : Nat
  mode : Nat
  frt : Nat
  loaded : Bool
  w : Int
  pj : Int
  xv : Int
  e : Int
  inc : Option Int
  wg : Int
  pll : Int
  sogi : List Int
  vd : Int
  vq : Int
  vp : Int
  vn : Int
  delta : Int
  jumped : Bool
  pjOn : Bool
  sums : List Nat
  count : Nat
  full : Bool
  rmin : Int
  rmax : Int
  frtT : Nat
  band : Nat
  freqT : Nat
  rocofT : Nat
  islT : Nat
  deadT : Nat
  limT : Nat
  setT : Nat
  rocof : Int
  suspect : Bool
  afs : Int
  p0 : Int
  q0 : Int
  v0 : Int
  f0 : Int
  zv : Int
  il : Int
  p0r : Int
  ramp : Bool
  pf : Int
  qf : Int
  pv : Int
  xfer : Nat
  want : Nat
  seg : Bool
  r : Int
  rAvail : Int
  hEff : Int
  idMax : Option Int
  wr : Int
  hCode : Nat
  spClamp : Bool
  wClamp : Bool
  thr : List ThrLaw
deriving DecidableEq, Repr

/-- The Control Law Engine of a lane. `lib` lists the contexts whose program is the law library's, and `law` is its state (05).
`wrote` holds the data words written in the last tick that wrote any, as they were
before (R102); `before` the inputs that a boundary changes, as they read before the last boundary: 32 trajectory axes by
unit and axis, then 16 injection nodes (R115); `sigTally` is the last frame that held a signature run (R126). -/
structure Cle where
  prog : List (Nat × DWord)
  data : WordMem
  descs : WordMem
  binds : WordMem
  dp0 : DpState
  dp1 : DpState
  groups : List GroupRun
  mail : List Mail
  hist : List InHist
  nodes : WordMem
  probes : WordMem
  probeFresh : List Nat
  sigTally : Option DWord
  wrote : List (Nat × Nat × Word)
  before : List (Word × BitVec 4)
  lib : List Nat
  law : Law
deriving DecidableEq, Repr

/-! ### Trajectory units (06) -/

/-- A queued segment with the end values of its axes (R165, R166). -/
structure Seg where
  body : SegBody
  x0 : List Int
  target : List Int
  queuedAt : DWord
deriving DecidableEq, Repr

/-- V_s, A_s, D_s and J_s of a path, in units of 2^-200 per tick, per tick² and per tick³ (R167). -/
structure PathLim where
  v : Int
  a : Int
  d : Int
  j : Int
deriving DecidableEq, Repr

/-- A running path: position, rate, acceleration and jerk of the parameter s in units of 2^-200 and per tick (R167,
R168), the limits it is planned with, the rate limit by which T_MIN lengthens it, and the ticks it has run. -/
structure Path where
  seg : Seg
  s : Int
  rate : Int
  acc : Int
  jerk : Int
  lim : PathLim
  cap : Option Int
  ran : Nat
deriving DecidableEq, Repr

/-- A trajectory unit: the queued segments, the running paths, the axis values that rest and those published, the Tallies of
the group starts that name it, a committed stop, and the presets of the next boundary (R164 to R177). -/
structure TrajUnit where
  queue : List Seg
  paths : List Path
  base : List Int
  axes : List Int
  groupStart : List DWord
  stopReq : Option DWord
  taps : List (Nat × Word)
  hostPreset : Option (Nat × Word)
deriving DecidableEq, Repr

/-! ### PWM (07) -/

/-- An edge of a set: leg (0x30 to 0x33 for the SDCLKs), switch, level, and its instant in fine steps from the start
of the set's frame (R193, R249). -/
structure Edge where
  leg : Nat
  sw : Nat
  on : Bool
  t : Int
deriving DecidableEq, Repr

/-- A carrier group (R179 to R181): the predicted front at the start of the last built frame with 16 fraction bits, the
carrier's place there in its M turns from PHASE in units of 2^-16 bt, the distance the source lags behind the carrier
there, the predicted increment, whether the group has been anchored since, the moves backward of that frame (tick, front and
place after it), and whether the period in progress was left unbuilt (R193). -/
structure Carrier where
  at_ : BitVec 48
  pos : Nat
  lag : Int
  inc : Int
  anchored : Bool
  moves : List (Nat × BitVec 48 × Nat)
  unbuilt : Bool
deriving DecidableEq, Repr

/-- A change of a leg in the last built frame: its instant in fine steps from the start of that frame, the state before
and the state after, and whether it ends a bridge or was moved (R185 to R187). -/
structure LegChange where
  t : Int
  old : Nat
  new : Nat
  fixed : Bool
deriving DecidableEq, Repr

/-- A leg of the PWM (R185 to R191). Times are fine steps from the start of the last built frame. `levels` are the
commanded levels at that start and after each event of the frame; `state`, `since`, `onTime` and `inL` are the state at
that start, the instant it was entered, and the count of R191 with the start of the present dwell in L; `changes` and
`ons` are the changes of the frame and the turn-ons (switch, change, instant) that follow from them; `next` is a change
decided for after the frame's end (a bridge's, or a moved one), `removed` a dwell that a prediction removed (R188),
`refresh` the start and the end of a refresh dwell that reaches beyond the frame. -/
structure PwmLeg where
  levels : List (Int × List Bool × Nat)
  state : Nat
  since : Int
  onTime : Int
  inL : Option Int
  changes : List LegChange
  ons : List (Nat × Int × Int)
  next : Option (Nat × Int)
  removed : Option (Nat × Int)
  refresh : Option (Int × Int)
deriving DecidableEq, Repr

/-- The PWM of a lane. Compares are keyed 12 × leg + 2 × switch + (0 SET, 1 CLR), trigger compares 4 × group + compare;
`latched` are those of the periods in progress (R183). `len` is the predicted length in ticks of the last built frame;
`trigNext` and `trigs` are the trigger instants (group, compare, tick) of the frame built and of the running frame,
`sdSkipNext` and `sdSkips` the clock edges (clock, tick) left out of the frame built and of the running one (R77). -/
structure Pwm where
  shadow : WordMem
  active : WordMem
  latched : WordMem
  trigShadow : WordMem
  trigActive : WordMem
  trigLatched : WordMem
  carriers : List Carrier
  legs : List PwmLeg
  len : Nat
  set : Option (List Edge)
  trigNext : List (Nat × Nat × Nat)
  trigs : List (Nat × Nat × Nat)
  sdclkAt : List Int
  sdSkips : List (Nat × Nat)
  sdSkipNext : List (Nat × Nat)
deriving DecidableEq, Repr

/-! ### Safety monitor of a lane (11) -/

/-- An encoder interface: input levels, the ticks of the last edges of A and B, the start of a running SSI read, the start
of the last read, and the last valid reading (R279, R280). -/
structure Enc where
  a : Bool
  b : Bool
  tickA : Option Nat
  tickB : Option Nat
  ssi : Option Nat
  readAt : Nat
  lastRaw : Option Nat
deriving DecidableEq, Repr

/-- One channel of a safety input pair (R290, R291): filtered level, samples that differ from it, the last two samples in
the window of its own source and whether the last sample lay there, consecutive high samples, and the observation of
another source's window (0 none, 1 low throughout so far, 2 over, 3 not low) with the high samples after it. -/
structure SiChan where
  level : Bool
  count : Nat
  last2 : List Bool
  inOwn : Bool
  highRun : Nat
  cross : Nat
  after : Nat
deriving DecidableEq, Repr

/-- An accepted safe frame: its bytes, its arrival, and whether its second copy came (R300). -/
structure PsfLast where
  seq : Word
  bytes : List Byte
  at_ : Nat
  matched : Bool
deriving DecidableEq, Repr

/-- The Safety Monitor of a lane: what R271 to R302 need beyond the SAFE registers. `hist0` and `hist1` hold the counts of
the two speed channels at the last cycles, newest first; the Since fields the start of a condition; `demands` the codes of
the causes demanded; `cmdBits` STO_REQ, SLS_SEL and LOCK_REQ of the last CMD frame; `lockReset` the LOCK_TAG of an
accepted LOCKOUT_RESET frame; `soCmd` the commanded state of the safety outputs; `pulses` the count of the pulse input. -/
structure Smon where
  encs : List Enc
  hist0 : List Int
  hist1 : List Int
  si : List SiChan
  discSince : List (Option Nat)
  spdDiscSince : Option Nat
  posDiscSince : Option Nat
  motSince : Option Nat
  demands : List Nat
  safeSpeed : Nat
  paramCrc : Word
  last : Option PsfLast
  unsetSince : Nat
  psfTimeout : Bool
  cmdBits : BitVec 3
  lockReset : Option Word
  soCmd : BitVec 4
  pulses : Nat
  cycleAt : Nat
deriving DecidableEq, Repr

/-! ### Recorder, Rake and injection of a lane (15) -/

/-- A stored sample: its tick, the Tally of its frame, ticks after that frame's boundary, the value, and whether it came
from a LATE conversion (R374, R382). -/
structure Sample where
  tick : Nat
  tally : DWord
  off : Nat
  val : Word
  late : Bool
deriving DecidableEq, Repr

/-- A trigger point: its fraction, its tick, rounded down, whether it lies after that tick's start, its frame, and the ticks
after the frame's boundary (R377, R382). -/
structure TrigPoint where
  frac : Nat
  tick : Nat
  past : Bool
  tally : DWord
  off : Nat
deriving DecidableEq, Repr

/-- A trigger unit (R376): the previous sample with its tick and place in its frame, the samples of the running pulse or of
the time on one side, whether a passage or pulse has begun, earlier samples, newest first, and a firing that the samples
show. -/
structure TrigUnit where
  prev : Option Int
  prevAt : Nat
  prevOff : Nat
  run : Nat
  armed : Bool
  hist : List Int
  due : Option TrigPoint
deriving DecidableEq, Repr

/-- A capture being taken (R379, R382); unit 16 is the group trigger. -/
structure Capture where
  seq : Nat
  unit : Nat
  point : TrigPoint
  sent : Bool
deriving DecidableEq, Repr

/-- An injection running on a node (R387, R388): the register of a PRBS, the phase of an exponential CHIRP in 2^-32 turns, the
present value, and, once it has ended, why: 2 ended, 3 stopped by a fault or a state (R389). -/
structure Inject where
  body : InjBody
  start : DWord
  lfsr : Nat
  phase : Nat
  value : Word
  over_ : Option Nat
deriving DecidableEq, Repr

/-- The recorder and Rake of a lane beyond their registers: the tick of the arming, the last CAP_SEQ, the capture that is
being taken, the closed captures still in the store (CAP_SEQ, Tally of the trigger, bytes), whether REC_STOP came, the
samples of each slot, newest first, with the samples already streamed in CONT, the trigger units; Rake's FRAMES, start, mask,
DEC and the rows of the record being filled; and the injections. -/
structure Rec where
  armedAt : Nat
  capSeq : Nat
  cap : Option Capture
  stored : List (Nat × DWord × Nat)
  stopping : Bool
  slots : List (List Sample)
  contIdx : List Nat
  units : List TrigUnit
  rakeFrames : Word
  rakeStart : DWord
  rakeMask : DWord
  rakeDec : Nat
  rakeRows : List (DWord × List Word)
  inject : List (Option Inject)
deriving DecidableEq, Repr

/-! ### A lane -/

/-- A core pair as target of the lane's share of the EIC (R358 to R361). -/
structure PairSt where
  count : Nat
  since : Option Nat
  irq : Bool
  idle : Bool
deriving DecidableEq, Repr

/-- All state of one lane die. `lockstep` and `ecc` stand since the lane's last verdict (R253); `fwAt` is the start of its
firmware, `wdtAt` the last watchdog service, `fwRec` the last firmware record (R392), and `seen` the latest tick in which events
counted at its core pairs, with their sources (R360). -/
structure Lane where
  regs : RegFile
  asc : Asc
  meas : Meas
  cle : Cle
  traj : List TrajUnit
  pwm : Pwm
  smon : Smon
  rec_ : Rec
  pend : List Nat
  insvc : List (Nat × Nat)
  pairs : List PairSt
  seen : Nat × List Nat
  wdtAt : Nat
  lockstep : Bool
  ecc : Bool
  fwAt : Option Nat
  fwRec : Option Nat
deriving DecidableEq, Repr

/-! ### Module (01) -/

/-- The last commit of a setpoint word: its number, Tally and tick, and the word before that tick (R115). -/
structure SetAt where
  key : Nat
  tally : DWord
  at_ : Nat
  old : Word
deriving DecidableEq, Repr

/-- Where start-up stands (R34, R463). -/
inductive Phase where
  | boot | check | run
deriving DecidableEq, Repr

/-- What the module holds beyond its registers: Tally and the Tally of MRAM (R39, R40), the read latches of R44, the
start-up phase, the lanes' start-up results (R35), whether the Angle Schedulers have started (R40), the threads of the
configuration package in force (R30), the setpoint words with their last commits (R115, R139), the tick of each thread's last change of state with the code
before it (R115), the threads whose
law stops (R142), whether the boot attempt has failed (R425), the ends of start-up steps in ms (R466), and the tick of the last change of the
module state with the SEQ of its record (R37, R38). -/
structure ModState where
  tally : DWord
  recorded : DWord
  latch : List (Requester × Word)
  phase : Phase
  selfTest : List (Option Bool)
  irolo : List (Option Bool)
  started : Bool
  maint : Bool
  configured : BitVec 8
  bootAt : Nat
  setpoints : WordMem
  setpointAt : List SetAt
  thrOld : List (Nat × Nat)
  stopPend : List Nat
  bootFailed : Bool
  steps : List (Nat × Nat)
  change : Option (Nat × Word)
deriving DecidableEq, Repr

/-! ### Host interface (13) -/

/-- The outcome of a command: status code, DETAIL and failing index (R338). -/
structure Result where
  status : Nat
  detail : Nat
  index : Nat
deriving DecidableEq, Repr

/-- A fetched command: its tag (128 and above for none), the fetch head of its SQ after it, whether staging has finished,
its place in staging order, a refusal found at staging, and the Tally and tick of its fetch (R334, R337, R342, R344); for a
transaction of a network port its XID, source address, version and data received (R437). -/
structure Cmd where
  tag : Nat
  head : Nat
  hdr : Hdr
  cmd : HostCmd
  staged : Bool
  order : Nat
  refusal : Option Result
  fetched : DWord
  at_ : Nat
  xid : Word
  netSrc : Nat
  netMinor : Nat
  netMajor : Nat
  got : Nat
deriving DecidableEq, Repr

/-- A completion as written to a CQ, or as sent in a completion frame (R337, R437). -/
structure Completion where
  sq : Nat
  cq : Nat
  entry : Nat
  tally : DWord
  cmdId : BitVec 16
  status : Nat
  opcode : Nat
  sqHead : Nat
  phase : Bool
  detail : Nat
deriving DecidableEq, Repr

/-- A write the device made to host memory (R337, R340, R349). -/
structure HostWrite where
  addr : DWord
  bytes : List Byte
deriving DecidableEq, Repr

/-- A direct register write staged for the next boundary (R329). -/
structure StagedWrite where
  order : Nat
  off : Nat
  val : Word
deriving DecidableEq, Repr

/-- A snapshot (R347). `holes` lists the words of running contexts, which are read at the run's END: place, context and
data-memory word (R346). -/
structure Snapshot where
  set : Nat
  tally : DWord
  sec : Nat
  ns : Nat
  flags : Nat
  items : Nat
  seq : Nat
  words : List Word
  holes : List (Nat × Nat × Nat)
deriving DecidableEq, Repr

/-- A snapshot not yet delivered, the lane it is taken in, and the READ_SNAPSHOT it belongs to where one asked for it
(R346, R348). -/
structure SnapWait where
  snap : Snapshot
  lane : LaneId
  cmd : Option Cmd
deriving DecidableEq, Repr

/-- A stream record of a source, waiting in the source's own store (R350, R351). -/
structure StrRec where
  type : Nat
  source : Nat
  tally : DWord
  payload : List Byte
deriving DecidableEq, Repr

/-- The buffer a ring is filling (R349, R350). -/
structure OpenBuf where
  buf : PostedBuf
  used : Nat
  recs : Nat
  since : Nat
  gap : Bool
deriving DecidableEq, Repr

/-- A stream entry written back (R349). -/
structure StrEntry where
  ring : Nat
  entry : Nat
  used : Nat
  recs : Nat
  gap : Bool
  flushed : Bool
  bad : Bool
  phase : Bool
deriving DecidableEq, Repr

/-- What a ring has lost since its last GAP record (R351). -/
structure Lost where
  first : DWord
  last : DWord
  recs : Nat
  bytes : Nat
deriving DecidableEq, Repr

structure StrRing where
  tail : Nat
  posted : List PostedBuf
  open_ : Option OpenBuf
  store : List StrRec
  lost : Option Lost
deriving DecidableEq, Repr

/-- The host interface beyond the HQ registers. `swapped` lists the contexts whose bank was swapped at the last boundary, each
with its REBASE_PEND before the swap (R129), `stopAhead` and `segAhead` the trajectory units that the commits of a boundary
stop and queue a segment for (R177), and `ioBits` the outputs an IO_WRITE named there (R321). `turn`
and `served` are the SQ in turn of the round robin and the descriptors fetched from it in its turn (R335). -/
structure HostIf where
  sqTail : List Nat
  cqHead : List Nat
  rings : List StrRing
  cmds : List Cmd
  order : Nat
  completions : List Completion
  writes : List HostWrite
  staged : List StagedWrite
  snaps : List (Option Snapshot)
  snapSeq : List Nat
  snapWait : List SnapWait
  entries : List StrEntry
  swapped : List (Nat × Bool)
  stopAhead : List Nat
  segAhead : List Nat
  ioBits : BitVec 16
  turn : Nat
  served : Nat
deriving DecidableEq, Repr

/-! ### Events and interrupts (14) -/

/-- Moderation of a vector: counted events and the tick of the first since the last message (R360). -/
structure VecSt where
  count : Nat
  since : Option Nat
deriving DecidableEq, Repr

/-- The host-side EIC beyond its registers: `msixMask` and `pba` are the mask and pending bits of the MSI-X structures (R331, R362); `msgs` lists the vectors of the messages sent, newest first;
`claimed` the sources in service with their vectors (R363); `timerAt` the start of the timer's running period; `seen` the
latest tick in which events counted, with their sources (R360). -/
structure Eic where
  vecs : List VecSt
  msixMask : Word
  msixEn : Bool
  busMaster : Bool
  pba : Word
  msgs : List Nat
  pmes : Nat
  d3hot : Bool
  pmeEn : Bool
  pmeSent : Bool
  claimed : List (Nat × Nat)
  timerAt : Option Nat
  linkState : BitVec 16
  seen : Nat × List Nat
deriving DecidableEq, Repr

/-! ### Journal (15) -/

/-- A journal record (R390). -/
structure JRec where
  seq : Word
  tally : DWord
  sec : Nat
  ns : Nat
  notime : Bool
  source : Byte
  flags : Byte
  code : BitVec 16
  data : List Byte
deriving DecidableEq, Repr

/-- The Crust store (R393): its flags byte, the Tally and PTP time of its header, and its valid slots. -/
structure Crust where
  valid : Bool
  flags : Byte
  tally : DWord
  sec : Nat
  ns : Nat
  slots : List JRec
deriving DecidableEq, Repr

/-- The journal: the committed store of MRAM, oldest first, the queue of uncommitted records, oldest first, and the
number of records created (R390). -/
structure Journal where
  store : List JRec
  queue : List JRec
  created : Word
  evCount : Nat
  crust : Crust
deriving DecidableEq, Repr

/-! ### Trips and the envelope (09) -/

/-- The scope of a fault (R232). -/
inductive Scope where
  | thread (t : Nat)
  | module
  | aux (n : Nat)
  | link (n : Nat)
deriving DecidableEq, Repr

/-- A recorded cause of a fault in force: `key` tells apart the origins of one code (a trip input, a leg, a group). -/
structure Cause where
  code : Nat
  cls : Nat
  scope : Scope
  key : Nat
  leg : Option Nat
  active : Bool
  lastActive : Nat
deriving DecidableEq, Repr

/-- A block sequence of a leg: t1, the switches with the instants at which they go off at the driver, in fine steps, and the
tick of the last instant (R226). -/
structure Block where
  leg : Nat
  t1 : Nat
  offs : List (Nat × Int)
  tEnd : Nat
deriving DecidableEq, Repr

/-- The class and scope with which an input's assertion arose (R238). -/
structure TripIn where
  live : Bool
  cls : Nat
  mask : BitVec 8
deriving DecidableEq, Repr

/-- The envelope's history of a leg (R217, R221, R222): switch levels, last turn-on and turn-off in fine steps of `now`,
the edges carried into the next set with the kind of the check that moved them, the accumulated on-time of switch 0,
the earliest instant of its next turn-on after a bootstrap turn-off, and the aligned instants at the drivers of its latest
edges (R94). -/
structure EnvLeg where
  on : List Bool
  lastOn : List (Option Int)
  lastOff : List (Option Int)
  carried : List (Edge × Nat)
  onAcc : Int
  bsUntil : Option Int
  edges : List Int
deriving DecidableEq, Repr

/-- Faults, block sequences and the envelope's history. `pulseBlock` marks the legs that have been taken off and not ARMED
since; such a leg is in pulse block once no sequence runs on it (R226). `shoots` holds, for each thread, leg and tick of the
DESAT and FAST_CMP causes of the last 10 µs (R236). `win` holds the corrections of each thread, the running 1 ms window
first, and `winAt` when that window began (R223); `risen` lists the scopes on which a class B or class L fault has become
active since the last boundary (R174); `firstAt` holds the ticks of the first causes of the threads, of the module (place 8)
and of class L (place 9) (R233). -/
structure Faults where
  causes : List Cause
  blocks : List Block
  pulseBlock : List Bool
  shoots : List (List (Nat × Nat))
  trips : List TripIn
  tripPin : BitVec 8
  measTrip : TripIn
  win : List (List Nat)
  winAt : Nat
  env : List EnvLeg
  ackLowSince : Option Nat
  ackLevel : Bool
  lockTag : Word
  sto : Bool
  classL : Bool
  risen : List Scope
  firstAt : List Nat
deriving DecidableEq, Repr

/-! ### Lanes and switchover (10) -/

/-- An output of a lane withheld during HOLD (R259). -/
inductive Withheld where
  | event (src : Nat) (data : BitVec 16)
  | snapshot (s : Snapshot)
  | record (ring : Nat) (r : StrRec)
  | fwRecord (code : BitVec 16) (data : List Byte)
deriving DecidableEq, Repr

/-- A restart of a lane: its commit boundary, whether the bulk copy has ended, and whether the final copy has started
(R267, R268). -/
structure Restart where
  lane : LaneId
  since : Nat
  bulkDone : Bool
  final : Bool
deriving DecidableEq, Repr

/-- The comparator and switchover logic beyond the LANE registers (R249 to R269): the verdicts of Lane A and Lane B and the
EDGE_CUTs since they were asked for, the last accepted set, the sets of the coming and the present frame, whether the
outputs are held, the tick of an EDGE_CUT whose compare is due, the Tally of the last frame cut, withheld outputs, role
changes for the next EDGE_CUT (lane, 2 RETIRE or 3 SWAP), the state copy with the contexts it leaves out, a lane being
restarted, whether the last compare matched, and the ticks of the outcomes that R255 counts. -/
structure Duplex where
  verdicts : List (Option Nat)
  cuts : Nat
  lastSet : List Edge
  nextSet : List Edge
  playing : List Edge
  held : Bool
  compareDue : Option Nat
  cutTally : Option DWord
  withheld : List (LaneId × Withheld)
  request : List (LaneId × Nat)
  badCopies : Nat
  copying : Bool
  copySkip : List Nat
  restart : Option Restart
  matched : Bool
  repeats : List Nat
deriving DecidableEq, Repr

/-! ### Gate links and auxiliary drives (08) -/

/-- A driver's HELLO (R204); of the highest and lowest version the high byte is the major. -/
structure Hello where
  hi : BitVec 16
  lo : BitVec 16
  sw : Nat
  type : BitVec 16
deriving DecidableEq, Repr

/-- What the transmit line of a GL/1 link carries: high in H, low in L, and the 125 MHz toggle pattern in OFF (R210). -/
inductive Gl1Line where
  | high | low | toggle
deriving DecidableEq, Repr

/-- A gate link beyond its registers: the start of its negotiation step, the step (0 idle, 1 HELLO_REQ, 2 delay, 3 waiting
for valid characters), HELLO_REQs sent, whether it retrains, the driver's HELLO, the last 64 pings in fine steps, the tick
of the last valid TLM, SEQ of the next frame down, the causes that the last TLM reports (R199, R202, R208, R232), and the
transitions of a GL/1 transmit line with their launch instants in fine steps, in time order: the one in force and those
that follow (R210). -/
structure Link where
  since : Nat
  phase : Nat
  reqs : Nat
  retrain : Bool
  hello : Option Hello
  pings : List Nat
  tlmAt : Nat
  seqDown : Nat
  faultActive : List Nat
  line : List (Int × Gl1Line)
deriving DecidableEq, Repr

/-- A frame sent on a gate link: link, TYPE, SEQ, payload and CRC (R204). -/
structure GlFrame where
  link : Nat
  type : Byte
  seq : Byte
  payload : List Byte
  crc : BitVec 16
deriving DecidableEq, Repr

structure Gl where
  links : List Link
  sent : List GlFrame
deriving DecidableEq, Repr

/-- An auxiliary drive channel beyond its registers (R212 to R216): pins in the order UH UL VH VL WH WL, the high and the low
pin of the pattern driven, the ticks at which pins that entered it may go high, whether the high pin is chopped, the start
of the chopping period and the end of its on-part, the end of the precharge, the ticks of the last Hall edge, trip and pin
edge, whether it waits for a Hall edge after a trip, whether no trip fell in the present step, and whether it is stalled. -/
structure Aux where
  pins : List Bool
  pattern : Option (Nat × Nat)
  enter : List (Option Nat)
  chop : Bool
  perAt : Option Nat
  chopEnd : Option Nat
  precharge : Option Nat
  hallAt : Nat
  tripAt : Option Nat
  tripped : Bool
  cleanStep : Bool
  stalled : Bool
  edgeAt : Nat
deriving DecidableEq, Repr

/-! ### Safety outputs and the Field die (11, 12) -/

/-- A safety output at the Field die (R294 to R298): its series switches, the tick of its last switch-on, a running test
(tested lane and start), the tick at which the next test is due, the end of the last test and whether its recheck is due,
whether it passed and which lane it tested, readback, the
tick of the last switch-off, and whether the output awaits its return after an off that its
function did not order, by REQ in every case after a LOCKOUT_RESET. -/
structure So where
  swA : Bool
  swB : Bool
  onAt : Nat
  test : Option (LaneId × Nat)
  testDue : Nat
  endedAt : Nat
  recheck : Bool
  passed : Bool
  lastLane : LaneId
  rb : Bool
  offAt : Nat
  manual : Bool
  forced : Bool
deriving DecidableEq, Repr

/-- A digital input at the Field die with its FIFO of (level, NOTIME, seconds, nanoseconds) (R316, R317). -/
structure Di where
  count : Nat
  level : Bool
  fifo : List (Bool × Bool × Nat × Nat)
  ot : Bool
deriving DecidableEq, Repr

/-- The Field die with its own copies (R312), and what the Sluice sees of the field channels (R310). `doPresent` tells the
outputs whose OT (low half) or BACKFEED (high half) condition is present; `tpBase` a start of the
test pulse pattern and `tpAt` the starts of the last test pulses;
`sampleAt` the last safety input sample; `vfOkSince` since when a supply is at 16 V or more; `supAt` the last
measurement of each supply and `cls` their classes at the Field die; `volts` the last measured
supplies in 0.1 V. `takeBack`, `release` and `rearm` wait for the next frame on channel S: whether FIO_DO_OUT was written
since the channel became valid, the outputs whose command was written again, and the outputs to rearm. -/
structure FieldDie where
  dis : List Di
  doCmd : BitVec 16
  doOn : BitVec 16
  doHold : BitVec 16
  doPresent : BitVec 32
  doOffAt : List Nat
  silentS : Bool
  shutdown : Bool
  wdogCopy : Nat
  doCfg : List Word
  diCfg : List Word
  lastS : Nat
  lastLane : List Nat
  laneSilent : List Bool
  sos : List So
  tpBase : Option Nat
  tpAt : List (Option Nat)
  sampleAt : Nat
  supOff : List (Option Nat)
  diSampleAt : List Nat
  vfOkSince : List (Option Nat)
  supAt : List Nat
  cls : List Nat
  volts : List Int
  takeBack : Bool
  release : BitVec 16
  rearm : BitVec 16
deriving DecidableEq, Repr

/-- The Sluice's side of the safety functions (R273, R286 to R288, R301, R302): takeover of each lane's switches, since when
the lanes' reports differ, the start of the running degraded minute, the tick at which REMAIN reached 0 and whether the stop that
follows is still to commit, a LOCKOUT_RESET
by safe frames for the next boundary, its last status, and the STATUS frames sent, newest first. -/
structure Safe where
  takeoverA : Bool
  takeoverB : Bool
  diffSince : Option Nat
  degradedAt : Nat
  stopAt : Option Nat
  stopDue : Bool
  lockPend : Option Word
  lockStatus : Nat
  statusSeq : Nat
  statusSent : List (List Byte)
deriving DecidableEq, Repr

/-! ### Clocks, time and groups (16) -/

/-- A PTP stamp: transmit, messageType, sequenceId, seconds and nanoseconds (R411). -/
structure Stamp where
  tx : Bool
  msg : BitVec 2
  seqId : BitVec 16
  sec : Nat
  ns : Nat
deriving DecidableEq, Repr

/-- The synthesiser and the PTP clock (R397 to R411): N in force and waiting, in units of 2^-24, with the tick of the last
change; the seed of the dither register with the tick of its load; the read latches of R405; the stamps of the three ports;
and the tick at which each compare was armed with its target already reached. -/
structure Clock where
  nInForce : Nat
  nWait : Option Nat
  nAt : Nat
  seed : BitVec 23
  seedAt : Nat
  refPresent : Bool
  sec : BitVec 48
  ns : Nat
  frac : Word
  incNs : BitVec 4
  incFrac : Word
  latch : List (Requester × Nat × Word)
  stamps : List (List Stamp)
  lateArm : List (Option (Nat × Bool))
deriving DecidableEq, Repr

/-- The frames of the group bus that this module sends (the bus table of R412). -/
inductive GrpFrame where
  | announce (id n src : Nat) (tally : DWord)
  | ping (id : Nat)
  | echo (id : Nat)
  | delays (id : Nat) (d : List Nat)
  | tally (common start : DWord)
  | boundary (low : Nat) (angle inc : Word)
  | start (units : BitVec 4) (at_ : DWord)
  | trig (id : Nat)
deriving DecidableEq, Repr

/-- The group bus side (R413 to R420): whether a group is being formed and since when the roles stand, the other members
announced, the ticks of their last ANNOUNCE by ID, echoes collected (member, delay in half fine steps), the shared delay
table, the Tally of the last BOUNDARY, the common Tally that waits for its start boundary and whether it was adopted, the
leader's increment, an adjustment in ticks or a load that waits for the next boundary, and the frames sent, newest first. -/
structure Grp where
  forming : Bool
  announced : Bool
  left : Bool
  since : Nat
  members : List Announce
  annAt : List Nat
  pings : List (Nat × Int)
  table : List (List Nat)
  lastBoundary : DWord
  startAt : Option (DWord × DWord)
  adopted : Bool
  leaderInc : Option Word
  adjust : Option Int
  load : Option Word
  sent : List GrpFrame
deriving DecidableEq, Repr

/-! ### Security (17) -/

/-- An operation of the one engine: a package check, or a signing with bytes 0–543 of its quote, with the command it belongs
to (R428, R430, R431). -/
inductive EngOp where
  | check (c : Cmd) (type action : Nat) (pkg : Package)
  | sign (c : Cmd) (body : List Byte)
deriving DecidableEq, Repr

/-- A refusal window of R436. -/
structure RefWin where
  port : Port
  opcode : Nat
  since : Nat
  count : Nat
deriving DecidableEq, Repr

/-- The write of a checked package to a slot of a type, under way until a tick, and the command that waits for it (R428). -/
structure SlotWrite where
  cmd : Option Cmd
  type : Nat
  pkg : Package
  until_ : Nat
deriving DecidableEq, Repr

/-- Security beyond the SEC registers: the packages in the slots of types 0x01 to 0x04, the engine's operations in staging
order, package applications that wait for the next boundary (R220, R274, R426, R432), refusal windows (R436), the end of the
debug token in force, whether the identity key stands, the signatures made, and the completions and the data returned on network
ports (SQ, source address of the descriptor frame, XID). -/
structure Sec where
  slotA : List (Option Package)
  slotB : List (Option Package)
  queue : List EngOp
  engineAt : Nat
  writing : List SlotWrite
  waiting : List (Cmd × Package)
  wins : List RefWin
  tokenEnd : Option Nat
  identity : Bool
  nonces : Nat
  netDone : List (Nat × Nat × Word × Completion)
  netData : List (Nat × Nat × Word × List Byte)
deriving DecidableEq, Repr

/-! ### Power (18) -/

/-- Power and resets beyond the PWR registers: the filtered PGOOD; t0 of a running power-loss shutdown, its cause (0 PGOOD,
1 VDD33), and a reset held until its end (2 BOR, 3 PIN, coded as PWR_RST.CAUSE; R445); whether the Sluice is in reset, the
cause of the boot that ends it, and whether a SOFT reset waits for the end of its boundary; since when VDD33 is below the
warning level, the tick of the last BOD_WARN record, the dips and the lowest VDD33 in mV since (R447); brown-out reset; since
when RST_N is low, whether it is ignored, and whether it was stuck (R455); the start of a running exit and the first wake
slot (R459); Shelved. -/
structure Power where
  pgood : Bool
  shutdown : Option Nat
  shutCause : Nat
  heldReset : Option Nat
  inReset : Bool
  nextCause : Nat
  softPend : Bool
  warnSince : Option Nat
  warnRecAt : Option Nat
  dips : Nat
  lowest : Nat
  bor : Bool
  rstLowAt : Option Nat
  rstIgnore : Bool
  exiting : Option Nat
  wakeSlot : Option Nat
  shelved : Bool
  stuck : Bool
deriving DecidableEq, Repr

/-! ### The state -/

/-- The whole part. `pending` is the queue of waiting commands; `now` counts ticks; `free` counts the open values taken
(logs 1 and 2, the model's own); `readData` holds what the last read returned. -/
structure State where
  pending : List Instr
  now : Nat
  free : Nat
  readData : List Word
  regs : RegFile
  mirror : RegFile
  laneA : Lane
  laneB : Lane
  mod : ModState
  host : HostIf
  eic : Eic
  journal : Journal
  faults : Faults
  duplex : Duplex
  gl : Gl
  aux : List Aux
  field : FieldDie
  safe : Safe
  clock : Clock
  grp : Grp
  sec : Sec
  power : Power
deriving DecidableEq, Repr

/-- Why the machine stops with a fault. No meaning of this model faults: the spec gives every command an effect. -/
inductive Fault where
  /-- Raised by no meaning; it stands so that a stop would have a name. Safe. -/
  | stuck
deriving DecidableEq, Repr

/-- Why a command is refused. -/
inductive Refusal where
  /-- The command has no meaning in the model yet; raised by the dispatch only. Safe. -/
  | notModelled (mnemonic : String)
deriving DecidableEq, Repr

/-! ### Reset -/

def AngleSrc.reset : AngleSrc := { acc := 0, front := 0, frontAtTick := 0, written := none, counted := false }

def Asc.reset : Asc :=
  { srcs := List.replicate 4 .reset, frameStart := 0, prevStart := 0, frameEnd := 0x00800000, frameTick := 0, prevTick := 0,
    nInForce := 512, queue := [], lastDisp := none, grpLatch := List.replicate 16 (List.replicate 4 (0, 0)),
    sync := List.replicate 8 { level := false, until_ := none }, rewritten := [], prevSrc := 3, prevEnd := 0,
    prevFront := 0, crossedAt := 0, crossed := [] }

def Chan.reset : Chan :=
  { integ := List.replicate 5 0, comb := List.replicate 5 0, samples := [], taken := none, due := [], fill := 0, winIdx := 0,
    gridIdx := 0, starts := [], gridAt := 0, pairTurn := false, fir := List.replicate 32 0, firCount := 0,
    settle := 0, out := 0, flags := 0, fresh := false, latch := 0, latchFlags := 0, latchAt := 0, latchOld := 0,
    latchFlagsOld := 0, hi := false, lo := false, prevBit := false, edgeAt := 0, lateMark := false, pendLate := none, raw := 0, lastTick := 0, outOld := 0, flagsOld := 0,
    freshOld := false }

def SarCore.reset : SarCore := { chan := none, late := false, startAt := none, sampledAt := 0 }

def FastCmp.reset : FastCmp := { input := 0, above := false, below := false, hardHi := false, hardLo := false }

def Meas.reset : Meas :=
  { chans := List.replicate 80 .reset, cores := List.replicate 16 .reset, cmps := List.replicate 32 .reset, fir := [] }

def DpState.reset : DpState :=
  { d := List.replicate 32 0, acc := List.replicate 4 0, cf := false, run := none, queue := [], sigPend := false,
    sigUntil := 0, freeAt := 0 }

def GroupRun.reset : GroupRun :=
  { running := false, launchTally := 0, deadline := 0, left := [], held := [], missed := false, doneAt := none,
    done := [] }

def ThrLaw.reset : ThrLaw :=
  { st := 0, trip := 0, sw := false, ia := 0, ib := 0, ic := 0, mD := 0, mQ := 0, p := 0, q := 0, vdc := 0, vhp := 0, vhn := 0,
    vcap := 0, refD := 0, refQ := 0, lim1 := false, lim2 := false, dcInt := 0, dcOut := 0, base := 0, xd := 0, xq := 0,
    miss := 0, bad := 0, failed := false, pat := none, iqRamp := none, rotor := none, wr := 0, spd := 0, drive := 0, torque := 0,
    avail := 0, holdsDc := false, mxd := 0, mxq := 0, corrD := 0, corrQ := 0, cm := 0, cmOut := 0, clamped := false }

def Law.reset : Law :=
  { tf := 0, st := 0, trip := 0, mode := 0, frt := 0, loaded := false, w := 0, pj := 0, xv := 0, e := 0, inc := none, wg := 2 ^ 29,
    pll := 0, sogi := [0, 0, 0, 0], vd := 0, vq := 0, vp := 0, vn := 0, delta := 0, jumped := false, pjOn := false,
    sums := [0, 0, 0], count := 0, full := false, rmin := 0, rmax := 0, frtT := 0, band := 0, freqT := 0, rocofT := 0, islT := 0,
    deadT := 0, limT := 0, setT := 0, rocof := 0, suspect := false, afs := 0, p0 := 0, q0 := 0, v0 := 0, f0 := 0, zv := 0, il := 0,
    p0r := 0, ramp := false, pf := 0, qf := 0, pv := 0, xfer := 0, want := 0, seg := false, r := 0, rAvail := 0, hEff := 0,
    idMax := none, wr := 0, hCode := 0, spClamp := false, wClamp := false, thr := List.replicate 8 .reset }

def Cle.reset : Cle :=
  { prog := [], data := [], descs := [], binds := [], dp0 := .reset, dp1 := .reset,
    groups := List.replicate 16 .reset, mail := [], hist := [], nodes := [], probes := [], probeFresh := [],
    sigTally := none, wrote := [], before := [], lib := [], law := .reset }

def TrajUnit.reset : TrajUnit :=
  { queue := [], paths := [], base := List.replicate 6 0, axes := List.replicate 6 0, groupStart := [],
    stopReq := none, taps := [], hostPreset := none }

def PwmLeg.reset : PwmLeg :=
  { levels := [], state := 0, since := -100000000, onTime := 0, inL := none, changes := [], ons := [], next := none,
    removed := none, refresh := none }

def Pwm.reset : Pwm :=
  { shadow := [], active := [], latched := [], trigShadow := [], trigActive := [], trigLatched := [],
    carriers := List.replicate 16 { at_ := 0, pos := 0, lag := 0, inc := 0, anchored := true, moves := [], unbuilt := false }, legs := List.replicate 48 .reset, len := 0,
    set := none, trigNext := [], trigs := [], sdclkAt := [0, 0, 0, 0], sdSkips := [], sdSkipNext := [] }

def Enc.reset : Enc :=
  { a := false, b := false, tickA := none, tickB := none, ssi := none, readAt := 0, lastRaw := none }

def SiChan.reset : SiChan :=
  { level := false, count := 0, last2 := [], inOwn := false, highRun := 0, cross := 0, after := 0 }

def Smon.reset : Smon :=
  { encs := [.reset, .reset], hist0 := [], hist1 := [], si := List.replicate 16 .reset,
    discSince := List.replicate 8 none, spdDiscSince := none, posDiscSince := none, motSince := none, demands := [],
    safeSpeed := 0, paramCrc := 0, last := none, unsetSince := 0, psfTimeout := false, cmdBits := 0,
    lockReset := none, soCmd := 0, pulses := 0, cycleAt := 0 }

def TrigUnit.reset : TrigUnit :=
  { prev := none, prevAt := 0, prevOff := 0, run := 0, armed := false, hist := [], due := none }

def Rec.reset : Rec :=
  { armedAt := 0, capSeq := 0, cap := none, stored := [], stopping := false, slots := List.replicate 32 [],
    contIdx := List.replicate 32 0, units := List.replicate 16 .reset, rakeFrames := 0, rakeStart := 0, rakeMask := 0,
    rakeDec := 1, rakeRows := [], inject := List.replicate 16 none }

def PairSt.reset : PairSt := { count := 0, since := none, irq := false, idle := true }

def Lane.reset : Lane :=
  { regs := [], asc := .reset, meas := .reset, cle := .reset, traj := List.replicate 4 .reset, pwm := .reset,
    smon := .reset, rec_ := .reset, pend := [], insvc := [], pairs := [.reset, .reset], seen := (0, []), wdtAt := 0,
    lockstep := false, ecc := false, fwAt := none, fwRec := none }

def ModState.reset : ModState :=
  { tally := 0x100000000, recorded := 0, latch := [], phase := .boot, selfTest := [none, none], irolo := [none, none],
    started := false, maint := false, configured := 0, bootAt := 0, setpoints := [], setpointAt := [],
    thrOld := List.replicate 8 (0, 0), stopPend := [],
    bootFailed := false, steps := [], change := none }

def StrRing.reset : StrRing := { tail := 0, posted := [], open_ := none, store := [], lost := none }

def HostIf.reset : HostIf :=
  { sqTail := List.replicate 16 0, cqHead := List.replicate 16 0, rings := List.replicate 4 .reset, cmds := [],
    order := 0, completions := [], writes := [], staged := [], snaps := List.replicate 8 none,
    snapSeq := List.replicate 8 0, snapWait := [], entries := [], swapped := [], stopAhead := [], segAhead := [], ioBits := 0,
    turn := 0, served := 0 }

def Eic.reset : Eic :=
  { vecs := List.replicate 32 { count := 0, since := none }, msixMask := 0xFFFFFFFF, msixEn := false,
    busMaster := false, pba := 0, msgs := [], pmes := 0, d3hot := false, pmeEn := false, pmeSent := false,
    claimed := [], timerAt := none, linkState := 0, seen := (0, []) }

def Crust.reset : Crust := { valid := true, flags := 0, tally := 0, sec := 0, ns := 0, slots := [] }

def Journal.reset : Journal := { store := [], queue := [], created := 0, evCount := 0, crust := .reset }

def TripIn.reset : TripIn := { live := false, cls := 1, mask := 0 }

def EnvLeg.reset : EnvLeg :=
  { on := List.replicate 6 false, lastOn := List.replicate 6 none, lastOff := List.replicate 6 none, carried := [],
    onAcc := 0, bsUntil := none, edges := [] }

def Faults.reset : Faults :=
  { causes := [], blocks := [], pulseBlock := List.replicate 48 true, shoots := List.replicate 8 [],
    trips := List.replicate 8 .reset, tripPin := 0, measTrip := .reset, win := List.replicate 8 [0], winAt := 0,
    env := List.replicate 48 .reset, ackLowSince := none, ackLevel := true, lockTag := 0, sto := false,
    classL := false, risen := [], firstAt := List.replicate 10 0 }

def Duplex.reset : Duplex :=
  { verdicts := [none, none], cuts := 0, lastSet := [], nextSet := [], playing := [],
    held := false, compareDue := none, cutTally := none, withheld := [], request := [],
    badCopies := 0, copying := false, copySkip := [], restart := none, matched := false, repeats := [] }

def Link.reset : Link :=
  { since := 0, phase := 0, reqs := 0, retrain := false, hello := none, pings := [], tlmAt := 0, seqDown := 0,
    faultActive := [], line := [] }

def Gl.reset : Gl := { links := List.replicate 48 .reset, sent := [] }

def Aux.reset : Aux :=
  { pins := List.replicate 6 false, pattern := none, enter := List.replicate 6 none, chop := false, perAt := none,
    chopEnd := none, precharge := none, hallAt := 0, tripAt := none, tripped := false, cleanStep := false, stalled := false,
    edgeAt := 0 }

def So.reset : So :=
  { swA := false, swB := false, onAt := 0, test := none, testDue := 0, endedAt := 0, recheck := false, passed := false,
    lastLane := .b, rb := false, offAt := 0, manual := true, forced := false }

def Di.reset : Di := { count := 0, level := false, fifo := [], ot := false }

def FieldDie.reset : FieldDie :=
  { dis := List.replicate 32 .reset, doCmd := 0, doOn := 0, doHold := 0, doPresent := 0,
    doOffAt := List.replicate 16 0, silentS := true, shutdown := false, wdogCopy := 100,
    doCfg := List.replicate 16 0, diCfg := List.replicate 32 0x0003000A, lastS := 0, lastLane := [0, 0],
    laneSilent := [true, true], sos := List.replicate 4 .reset, tpBase := none, tpAt := List.replicate 4 none, sampleAt := 0,
    supOff := List.replicate 4 none, diSampleAt := List.replicate 32 0, vfOkSince := [none, none], supAt := [0, 0], cls := [0, 0],
    volts := [240, 240], takeBack := false, release := 0, rearm := 0 }

def Safe.reset : Safe :=
  { takeoverA := false, takeoverB := false, diffSince := none, degradedAt := 0, stopAt := none, stopDue := false, lockPend := none,
    lockStatus := 0, statusSeq := 0, statusSent := [] }

def Clock.reset : Clock :=
  { nInForce := 0x80000000, nWait := none, nAt := 0, seed := 0x5A5A5A, seedAt := 0, refPresent := true, sec := 0, ns := 0,
    frac := 0, incNs := 2, incFrac := 0x80000000, latch := [], stamps := List.replicate 3 [],
    lateArm := List.replicate 4 none }

def Grp.reset : Grp :=
  { forming := false, announced := false, left := false, since := 0, members := [], annAt := List.replicate 8 0, pings := [],
    table := List.replicate 8 [], lastBoundary := 0, startAt := none, adopted := false, leaderInc := none,
    adjust := none, load := none, sent := [] }

def Sec.reset : Sec :=
  { slotA := List.replicate 4 none, slotB := List.replicate 4 none, queue := [], engineAt := 0, writing := [], waiting := [], wins := [],
    tokenEnd := none, identity := true, nonces := 0, netDone := [], netData := [] }

def Power.reset : Power :=
  { pgood := true, shutdown := none, shutCause := 0, heldReset := none, inReset := false, nextCause := 1,
    softPend := false, warnSince := none, warnRecAt := none, dips := 0, lowest := 3300, bor := false, rstLowAt := none,
    rstIgnore := false, exiting := none, wakeSlot := none, shelved := false, stuck := false }

/-- The part right after power-on reset, in BOOT: every register at its reset value, every engine idle (R34, R462). -/
def State.reset : State :=
  { pending := [], now := 0, free := 0, readData := [], regs := [], mirror := [], laneA := .reset, laneB := .reset,
    mod := .reset, host := .reset, eic := .reset, journal := .reset, faults := .reset, duplex := .reset, gl := .reset,
    aux := List.replicate 4 .reset, field := .reset, safe := .reset, clock := .reset, grp := .reset, sec := .reset,
    power := .reset }

end Sys2Proof.Machine
end

