-- ==== Sys2Proof/Machine/Ops.lean ====
section
/-! DEFINITION. The named operations over the state that the meanings share: bits and register files, the lanes, events
(R356 to R362), the journal (R390, R394), thread and module states (R31 to R38), fault causes and block sequences
(R226 to R236). -/
namespace Sys2Proof.Machine

/-! ### Bits -/

/-- The bits hi..lo of a word set, all others clear (R6). -/
def maskOf (hi lo : Nat) : Word := (BitVec.allOnes 32 >>> (31 - hi)) &&& (BitVec.allOnes 32 <<< lo)

/-- Bits [hi:lo] of a word as a number (R6). -/
def bitsOf (w : Word) (hi lo : Nat) : Nat := (w.toNat / 2 ^ lo) % 2 ^ (hi + 1 - lo)

/-- The word with its bits [hi:lo] replaced by the low bits of a number (R6). -/
def withBits (w : Word) (hi lo v : Nat) : Word :=
  (w &&& ~~~(maskOf hi lo)) ||| ((BitVec.ofNat 32 v <<< lo) &&& maskOf hi lo)

/-- The signed value of the low n bits of a number, two's complement (R9). -/
def signed (n v : Nat) : Int := if v % 2 ^ n < 2 ^ (n - 1) then (v % 2 ^ n : Nat) else ((v % 2 ^ n : Nat) : Int) - (2 ^ n : Nat)

/-- A truth value as a field value. -/
def b2n (b : Bool) : Nat := if b then 1 else 0

/-- A counter that stops at its limit. -/
def satInc (v lim : Nat) : Nat := if v < lim then v + 1 else lim

/-- A number held within two bounds. -/
def clampI (x lo hi : Int) : Int := if x < lo then lo else if hi < x then hi else x

/-- The element of a list at a place replaced by a function of it. -/
def updAt {α : Type} : List α → Nat → (α → α) → List α
  | [], _, _ => []
  | a :: t, 0, f => f a :: t
  | a :: t, i + 1, f => a :: updAt t i f

/-- The numbers below n at which a test holds. -/
def numsWhere (n : Nat) (p : Nat → Bool) : List Nat := (List.range n).filter p

/-- A word as four bytes, little-endian (R6). -/
def bytesOf (w : Word) : List Byte :=
  [w.extractLsb' 0 8, w.extractLsb' 8 8, w.extractLsb' 16 8, w.extractLsb' 24 8]

/-- A number as n bytes, little-endian (R6). -/
def leBytes : Nat → Nat → List Byte
  | 0, _ => []
  | n + 1, v => BitVec.ofNat 8 v :: leBytes n (v / 256)

/-- The number that bytes spell, little-endian (R6). -/
def ofLe : List Byte → Nat
  | [] => 0
  | b :: t => b.toNat + 256 * ofLe t

/-- A list padded with a value, or cut, to n elements. -/
def padTo {α : Type} (n : Nat) (d : α) (l : List α) : List α := (l ++ List.replicate n d).take n

/-- A list that continues in step k of n: the k-th bit of a number. -/
def bitAt (v k : Nat) : Bool := v / 2 ^ k % 2 = 1

/-! ### Check codes (R495) -/

def crcStep (poly : BitVec 32) : Nat → BitVec 32 → BitVec 32
  | 0, c => c
  | n + 1, c => crcStep poly n (if c.getLsbD 0 then (c >>> 1) ^^^ poly else c >>> 1)

/-- The reflected CRC register after a byte string, from its initial value; poly is the reflected polynomial (R495). -/
def crcRun (poly : BitVec 32) : BitVec 32 → List Byte → BitVec 32
  | c, [] => c
  | c, b :: t => crcRun poly (crcStep poly 8 (c ^^^ b.zeroExtend 32)) t

/-- CRC-32C with a given initial value (R495, R299). -/
def crc32c (init : Word) (l : List Byte) : Word := crcRun 0x82F63B78 init l ^^^ 0xFFFFFFFF

/-- CRC-32 (R495). -/
def crc32 (l : List Byte) : Word := crcRun 0xEDB88320 0xFFFFFFFF l ^^^ 0xFFFFFFFF

def crc16Step : Nat → BitVec 16 → BitVec 16
  | 0, c => c
  | n + 1, c => crc16Step n (if c.getLsbD 15 then (c <<< 1) ^^^ 0x1021 else c <<< 1)

/-- The CRC-16 of a gate link's frames: polynomial 0x1021, initial value 0xFFFF (R204). -/
def crc16 (l : List Byte) : BitVec 16 := l.foldl (fun c b => crc16Step 8 (c ^^^ ((b.setWidth 16 : BitVec 16) <<< (8 : Nat)))) 0xFFFF

/-! ### Sparse memories and register files -/

/-- The entry at an address of a sparse list. -/
def memFind {α : Type} : List (Nat × α) → Nat → Option α
  | [], _ => none
  | (a, w) :: t, x => if a = x then some w else memFind t x

/-- A sparse list with an entry placed in rising order, replacing an entry at its address. -/
def memPut {α : Type} : List (Nat × α) → Nat → α → List (Nat × α)
  | [], x, w => [(x, w)]
  | (a, v) :: t, x, w =>
    if x < a then (x, w) :: (a, v) :: t
    else if x = a then (x, w) :: t
    else (a, v) :: memPut t x w

/-- A sparse list without the entry at an address. -/
def memDrop {α : Type} : List (Nat × α) → Nat → List (Nat × α)
  | [], _ => []
  | (a, v) :: t, x => if a = x then memDrop t x else (a, v) :: memDrop t x

/-- A word of an addressed memory; an unlisted address reads 0. -/
def memRd (m : WordMem) (x : Nat) : Word := (memFind m x).getD 0

/-- A word written to an addressed memory, in canonical form. -/
def memWr (m : WordMem) (x : Nat) (w : Word) : WordMem := if w = 0 then memDrop m x else memPut m x w

/-- The word a register holds after reset (R472): the table's, but for θt's increment (R47), and for the identity and
nonce words, which are the device's own (R429, R433). -/
def resetWord (off : Nat) : Word :=
  if off = ASC_S_INC 3 then 0x0218DEF4
  else if off = SEC_DEV_ID 0 then Config.deviceId 0
  else if off = SEC_DEV_ID 1 then Config.deviceId 1
  else if off = SEC_DEV_ID 2 then Config.deviceId 2
  else if off = SEC_DEV_ID 3 then Config.deviceId 3
  else if off = SEC_DEBUG_NONCE0 then Config.firstNonce 0
  else if off = SEC_DEBUG_NONCE1 then Config.firstNonce 1
  else match regDesc off with
    | some d => BitVec.ofNat 32 d.reset
    | none => 0

/-- The word a register file holds at an offset. -/
def RegFile.get (f : RegFile) (off : Nat) : Word :=
  match memFind f off with
  | some w => w
  | none => resetWord off

/-- A register file with a word written, in canonical form: no entry equals its reset word. -/
def RegFile.set (f : RegFile) (off : Nat) (w : Word) : RegFile :=
  if w = resetWord off then memDrop f off else memPut f off w

/-- Addresses that rise strictly. -/
def risingKeys : List (Nat × Word) → Bool
  | [] => true
  | [_] => true
  | x :: y :: t => decide (x.1 < y.1) && risingKeys (y :: t)

/-- The canonical form of an addressed memory: rising addresses, and no entry that an unlisted address would read as. -/
def Memory.wf (m : WordMem) : Bool := risingKeys m && m.all fun x => x.2 != 0

/-- The canonical form of a register file: rising offsets, and no entry that equals its reset word. -/
def RegFile.wf (f : RegFile) : Bool := risingKeys f && f.all fun x => x.2 != resetWord x.1

/-- A field of a register file. -/
def RegFile.rd (f : RegFile) (x : Fld) : Nat := bitsOf (f.get x.off) x.hi x.lo

/-- A register file with a field written. -/
def RegFile.wr (f : RegFile) (x : Fld) (v : Nat) : RegFile := f.set x.off (withBits (f.get x.off) x.hi x.lo v)

/-- A field of the Sluice's registers. -/
def State.rd (s : State) (x : Fld) : Nat := s.regs.rd x
/-- A field of the Sluice's registers written. -/
def State.wr (s : State) (x : Fld) (v : Nat) : State := { s with regs := s.regs.wr x v }
/-- A field of a lane's registers. -/
def Lane.rd (l : Lane) (x : Fld) : Nat := l.regs.rd x
/-- A field of a lane's registers written. -/
def Lane.wr (l : Lane) (x : Fld) (v : Nat) : Lane := { l with regs := l.regs.wr x v }

/-- The field is 1. -/
def State.on (s : State) (x : Fld) : Bool := s.rd x = 1
/-- The field is 1. -/
def Lane.on (l : Lane) (x : Fld) : Bool := l.rd x = 1

/-- A counter field that wraps at its width, increased. -/
def State.bump (s : State) (x : Fld) : State := s.wr x (s.rd x + 1)
/-- A counter field that wraps at its width, increased. -/
def Lane.bump (l : Lane) (x : Fld) : Lane := l.wr x (l.rd x + 1)
/-- A counter field that saturates at its width, increased. -/
def State.bumpSat (s : State) (x : Fld) : State := s.wr x (satInc (s.rd x) (2 ^ (x.hi + 1 - x.lo) - 1))
/-- A counter field that saturates at its width, increased. -/
def Lane.bumpSat (l : Lane) (x : Fld) : Lane := l.wr x (satInc (l.rd x) (2 ^ (x.hi + 1 - x.lo) - 1))

/-! ### Updates of the parts of the state -/

def State.modMod (s : State) (f : ModState → ModState) : State := { s with mod := f s.mod }
def State.modHost (s : State) (f : HostIf → HostIf) : State := { s with host := f s.host }
def State.modEic (s : State) (f : Eic → Eic) : State := { s with eic := f s.eic }
def State.modJournal (s : State) (f : Journal → Journal) : State := { s with journal := f s.journal }
def State.modFaults (s : State) (f : Faults → Faults) : State := { s with faults := f s.faults }
def State.modDuplex (s : State) (f : Duplex → Duplex) : State := { s with duplex := f s.duplex }
def State.modGl (s : State) (f : Gl → Gl) : State := { s with gl := f s.gl }
def State.modField (s : State) (f : FieldDie → FieldDie) : State := { s with field := f s.field }
def State.modSafe (s : State) (f : Safe → Safe) : State := { s with safe := f s.safe }
def State.modClock (s : State) (f : Clock → Clock) : State := { s with clock := f s.clock }
def State.modGrp (s : State) (f : Grp → Grp) : State := { s with grp := f s.grp }
def State.modSec (s : State) (f : Sec → Sec) : State := { s with sec := f s.sec }
def State.modPower (s : State) (f : Power → Power) : State := { s with power := f s.power }

/-! ### Lanes -/

/-- The named lane. -/
def State.lane (s : State) : LaneId → Lane
  | .a => s.laneA
  | .b => s.laneB

/-- The state with the named lane replaced. -/
def State.setLane (s : State) : LaneId → Lane → State
  | .a, l => { s with laneA := l }
  | .b, l => { s with laneB := l }

/-- The state with a function applied to the named lane. -/
def State.modLane (s : State) (i : LaneId) (f : Lane → Lane) : State := s.setLane i (f (s.lane i))

/-- The state with a function applied to both lanes: what is mirrored acts in both at once (R12, R20). -/
def State.bothLanes (s : State) (f : Lane → Lane) : State := { s with laneA := f s.laneA, laneB := f s.laneB }

def Lane.modMeas (l : Lane) (f : Meas → Meas) : Lane := { l with meas := f l.meas }
def Lane.modPwm (l : Lane) (f : Pwm → Pwm) : Lane := { l with pwm := f l.pwm }
def Lane.modSmon (l : Lane) (f : Smon → Smon) : Lane := { l with smon := f l.smon }
def Lane.modRec (l : Lane) (f : Rec → Rec) : Lane := { l with rec_ := f l.rec_ }
def Lane.modUnit (l : Lane) (u : Nat) (f : TrajUnit → TrajUnit) : Lane := { l with traj := updAt l.traj u f }

/-- The other lane. -/
def LaneId.other : LaneId → LaneId
  | .a => .b
  | .b => .a

/-- 0 for Lane A, 1 for Lane B. -/
def LaneId.num : LaneId → Nat
  | .a => 0
  | .b => 1

/-- A lane event runs in the lane or lanes it names, Lane A first. -/
def State.onLanes (s : State) (ln : LaneSel) (f : State → LaneId → State) : State :=
  match ln with
  | .a => f s .a
  | .b => f s .b
  | .both => f (f s .a) .b

/-- The active lane (R246). -/
def State.active (s : State) : LaneId := if s.on LANE_STAT_ACTIVE then .b else .a

/-- The code of a lane's state (R246): 0 OFF, 1 ACTIVE, 2 SHADOW, 3 RESYNC, 4 RETIRED. -/
def State.laneState (s : State) : LaneId → Nat
  | .a => s.rd LANE_STAT_STATE_A
  | .b => s.rd LANE_STAT_STATE_B

/-- The module is in HOLD (R251). -/
def State.hold (s : State) : Bool := s.on LANE_STAT_HOLD

/-- A thread is configured (R30). -/
def State.present (s : State) (t : Nat) : Bool := s.mod.configured.getLsbD t

/-- The code of a thread's state: 0 OFF, 1 ARMED, 2 SWITCHING, 3 BLOCKED, 4 LOCKOUT, 15 absent (R31). -/
def State.thread (s : State) (t : Nat) : Nat := s.rd (SYS_THREAD_STATE_T t)

/-- Some configured thread is in the state named. -/
def State.anyThread (s : State) (code : Nat) : Bool := (List.range 8).any fun t => s.present t && s.thread t = code

/-- Every configured thread is in the state named. -/
def State.allThreads (s : State) (code : Nat) : Bool := (List.range 8).all fun t => !s.present t || s.thread t = code

/-- The threads a mask names, all configured threads where it is 0 (R126, R174). -/
def State.maskOrAll (s : State) (m : Nat) : List Nat :=
  if m = 0 then numsWhere 8 s.present else numsWhere 8 fun t => bitAt m t && s.present t

/-- The PTP clock is not synchronised (R408). -/
def State.noTime (s : State) : Bool := s.rd TIME_CTRL_SYNC = 0

/-- A fresh open value (log 2). -/
def State.fresh (s : State) : Word × State := (Config.freeWord s.free, { s with free := s.free + 1 })

/-- A source of a lane is the frame source of a group follower, which takes no writes but its leader's (R419). -/
def State.followsSrc (s : State) (i : LaneId) (n : Nat) : Bool :=
  (s.rd GRP_STAT_ROLE = 2 || s.grp.left) && (s.lane i).rd ASC_FRAME_STAT_SRC_IN_FORCE = n

/-- The ticks that a number of cycles of the lane domains takes: 16 times as many on the reference (R401). -/
def State.laneTicks (s : State) (n : Nat) : Nat := if s.on CLK_STAT_ON_REF then 16 * n else n

/-! ### Events (R356 to R362) -/

/-- The source is a level source (R356). -/
def isLevel (n : Nat) : Bool := n < 16 || n = 63 || (66 ≤ n && n ≤ 81)

def srcBit (base : Nat → Nat) (n : Nat) : Fld := ⟨base (n / 32), n % 32, n % 32⟩
/-- The pending bit of a source (R357). -/
def pendBit (n : Nat) : Fld := srcBit EIC_PEND n
/-- The mask bit of a source for vector targets (R359). -/
def hmaskBit (n : Nat) : Fld := srcBit EIC_HMASK n
/-- The in-service bit of a source at a vector target (R363). -/
def insvcBit (n : Nat) : Fld := srcBit EIC_INSVC n
/-- The live level of a source (R357). -/
def levelBit (n : Nat) : Fld := srcBit EIC_LEVEL n

/-- The vector is masked in the MSI-X table, or the function's MSI-X is not enabled (R362, R371). -/
def State.vecMasked (s : State) (v : Nat) : Bool :=
  s.eic.msixMask.getLsbD v || !s.eic.msixEn || !s.eic.busMaster

def State.vec (s : State) (v : Nat) : VecSt := s.eic.vecs.getD v { count := 0, since := none }
def State.setVec (s : State) (v : Nat) (x : VecSt) : State :=
  s.modEic fun e => { e with vecs := e.vecs.set v x }

/-- A vector sends its message (R360 to R362, R371): in D3hot one PME per stay stands in its place and the events stay
counted; a masked vector sets its pending bit; otherwise the message goes out and VEC_IDLE clears. -/
def State.sendVec (s : State) (v : Nat) : State :=
  if s.eic.d3hot then
    if s.eic.pmeEn && !s.eic.pmeSent && !s.eic.msixMask.getLsbD v then
      s.modEic fun e => { e with pmes := e.pmes + 1, pmeSent := true }
    else s
  else
    let s := s.setVec v { count := 0, since := none }
    if s.vecMasked v then s.modEic fun e => { e with pba := e.pba ||| (1 <<< v) }
    else
      let s := s.wr (EIC_VEC_CFG_VEC_IDLE v) 0
      s.modEic fun e => { e with msgs := v :: e.msgs }

/-- The sources that have contributed an event in the tick, as counted so far in the tick `at_` (R360). -/
def seenNow (seen : Nat × List Nat) (now : Nat) : List Nat := if seen.1 = now then seen.2 else []

/-- One event of a source counts at a vector; a source contributes at most one in a tick (R360, R361). -/
def State.countVec (s : State) (v n : Nat) : State :=
  let seen := seenNow s.eic.seen s.now
  if seen.contains n then s else
  let s := s.modEic fun e => { e with seen := (s.now, n :: seen) }
  let x := s.vec v
  let s := s.setVec v { count := x.count + 1, since := some (x.since.getD s.now) }
  if (s.on (EIC_VEC_CFG_MODE v) && s.on (EIC_VEC_CFG_VEC_IDLE v)) || s.rd (EIC_VEC_CFG_CNT v) ≤ x.count + 1
  then s.sendVec v else s

/-- An event of a source reaches its vector where the source is unmasked and routed to one (R359, R360). -/
def State.vecEvent (s : State) (src : Nat) : State :=
  let tgt := s.rd (EIC_ROUTE_TARGET src)
  if tgt < 32 && s.rd (hmaskBit src) = 0 then s.countVec tgt src else s

/-- One event of a source counts at a core pair, at most one in a tick; the pair's interrupt comes when counted events reach CNT,
or when the pair is idle in DIRECT mode (R360, R361). -/
def Lane.countPair (l : Lane) (now p src : Nat) : Lane :=
  let seen := seenNow l.seen now
  if seen.contains src then l else
  let l := { l with seen := (now, src :: seen) }
  let x := l.pairs.getD p PairSt.reset
  let n := x.count + 1
  if (l.on (EIC_PAIR_CFG_MODE p) && x.idle) || l.rd (EIC_PAIR_CFG_CNT p) ≤ n then
    { l with pairs := l.pairs.set p { count := 0, since := none, irq := true, idle := false } }
  else { l with pairs := l.pairs.set p { x with count := n, since := some (x.since.getD now) } }

/-- The mask bit of a source at a core pair (R373). -/
def pairMaskBit (p n : Nat) : Fld := ⟨EIC_PAIR_MASK p (n / 32), n % 32, n % 32⟩

/-- An occurrence in a lane's share of the EIC: it pends there and counts at the core pair it is routed to (R358). -/
def Lane.occur (l : Lane) (now tgt src : Nat) : Lane :=
  if tgt = 32 || tgt = 33 then
    let l := if l.pend.contains src then l else { l with pend := src :: l.pend }
    if l.rd (pairMaskBit (tgt - 32) src) = 0 then l.countPair now (tgt - 32) src else l
  else l

/-- An occurrence at the host-side EIC (R356, R357): CNT, DATA, the pending bit of an edge source, and the event. -/
def State.occurHost (s : State) (src data : Nat) : State :=
  let s := s.bump (EIC_SRC_LOG_CNT src)
  let s := s.wr (EIC_SRC_LOG_DATA src) data
  let s := if isLevel src then s else s.wr (pendBit src) 1
  s.vecEvent src

/-- An occurrence of a source of the Sluice or the Field die: at the host-side EIC and in both lanes' shares. -/
def State.raise (s : State) (src data : Nat) : State :=
  let tgt := s.rd (EIC_ROUTE_TARGET src)
  (s.bothLanes fun l => l.occur s.now tgt src).occurHost src data

/-- An occurrence that arises in a lane: its own share takes it; the host-side EIC takes it from the active lane only,
and HOLD withholds it (R358, R259). -/
def State.raiseFrom (s : State) (i : LaneId) (src data : Nat) : State :=
  let tgt := s.rd (EIC_ROUTE_TARGET src)
  let s := s.modLane i fun l => l.occur s.now tgt src
  if s.hold then
    s.modDuplex fun d => { d with withheld := d.withheld ++ [(i, .event src (BitVec.ofNat 16 data))] }
  else if s.active = i then s.occurHost src data
  else s

/-- HQ_MMIO_ERR records a refused access, without an event (R327, R330, R469). -/
def State.mmioRecord (s : State) (off status : Nat) : State :=
  (s.wr HQ_MMIO_ERR_STATUS status).wr HQ_MMIO_ERR_OFFSET off

/-- A refused direct write: HQ_MMIO_ERR and HQ_MMIO_REJECT (R329). -/
def State.mmioRefuse (s : State) (off status : Nat) : State := (s.mmioRecord off status).raise 24 status

/-! ### The debug token and its nonce (R433) -/

/-- The nonce is renewed (R433). -/
def State.renewNonce (s : State) : State :=
  let a := s.fresh
  let b := a.2.fresh
  { b.2 with regs := (b.2.regs.set SEC_DEBUG_NONCE0 a.1).set SEC_DEBUG_NONCE1 b.1 }

/-- A token in force ends (R433). -/
def State.endToken (s : State) : State :=
  let s := s.modSec fun x => { x with tokenEnd := none }
  ((s.wr SEC_LIFECYCLE_DEBUG_MIN 0).wr SEC_LIFECYCLE_DEBUG_SCOPE 0).wr SEC_LIFECYCLE_DEBUG_OPEN
    (b2n (s.rd SEC_LIFECYCLE_STATE ≠ 2))

/-- A reset of any kind ends the token in force and renews the nonce (R433, R450). -/
def State.resetToken (s : State) : State :=
  let s := s.renewNonce
  if s.sec.tokenEnd.isSome then s.endToken else s

/-! ### Accesses of the windows (R326, R435, R470) -/

/-- The words that a read returned. -/
def State.returned (s : State) (ws : List Word) : State := { s with readData := ws }

/-- A write before the end of BOOT is discarded; later it gives `t` (R326). -/
def State.afterBoot (s t : State) : State := if s.mod.phase = .boot then s else t

/-- A read before the end of BOOT returns ones; later it gives `t` (R326). -/
def State.readAfterBoot (s t : State) : State := if s.mod.phase = .boot then s.returned [0xFFFFFFFF] else t

/-- The lane whose cores make a write. -/
def coreLane : Writer → Option LaneId
  | .coreA => some .a
  | .coreB => some .b
  | _ => none

/-- The register needs OPERATE or MAINTAIN authority, which a lane's cores do not have (R435, R470). -/
def needsMore (off : Nat) : Bool :=
  off = SYS_CTRL || off = FIO_DO_OUT || off = FIO_DO_REARM || off = TRAJ_PRESET_SEL || off = TRAJ_PRESET_VAL ||
    (0x36060 ≤ off && off < 0x36070)

/-- A write of a register of the coherent window by a writer who is heard gives `t`: host software, and the cores of the
active lane where the register needs no more than CONFIGURE. Others are refused with AUTH_PORT, a core of the other lane is
discarded, and so is every write before the end of BOOT (R326, R435, R470). -/
def State.heardWrite (s : State) (who : Writer) (off : Nat) (t : State) : State :=
  s.afterBoot (match coreLane who with
    | some i => if i ≠ s.active then s else if needsMore off then s.mmioRefuse off 0x03 else t
    | none => if who = .debug then s.mmioRefuse off 0x03 else t)

/-- An occurrence whose DATA the spec does not state: an open value (log 2). -/
def State.raiseOpen (s : State) (src : Nat) : State := s.fresh.2.raise src (bitsOf s.fresh.1 15 0)

/-- An occurrence of a lane whose DATA the spec does not state. -/
def State.raiseFromOpen (s : State) (i : LaneId) (src : Nat) : State := s.fresh.2.raiseFrom i src (bitsOf s.fresh.1 15 0)

/-- A level source becomes active: its level and pending bit, and one occurrence (R356, R357, R360). -/
def State.levelOn (s : State) (src data : Nat) : State :=
  if s.on (levelBit src) then s
  else ((s.wr (levelBit src) 1).wr (pendBit src) 1).raise src data

/-- A level source becomes inactive: its pending bit equals the level (R357). -/
def State.levelOff (s : State) (src : Nat) : State :=
  ((s.bothLanes fun l => { l with pend := l.pend.filter fun n => n ≠ src }).wr (levelBit src) 0).wr (pendBit src) 0

/-! ### Journal (R390, R394) -/

/-- A journal record is created: SEQ, Tally, PTP time, and its place at the end of the queue; a full queue loses its
newest record. Crust holds the 8 newest uncommitted records. -/
def State.journalAdd (s : State) (source : Nat) (code : Nat) (flags : Nat) (data : List Byte) : State :=
  let seq := s.journal.created + 1
  let r : JRec := { seq := seq, tally := s.mod.tally, sec := s.clock.sec.toNat, ns := s.clock.ns, notime := s.noTime,
                    source := BitVec.ofNat 8 source, flags := BitVec.ofNat 8 flags, code := BitVec.ofNat 16 code,
                    data := padTo 32 0 data }
  let full := 64 ≤ s.journal.queue.length
  let q := (if full then s.journal.queue.dropLast else s.journal.queue) ++ [r]
  let s := if full then s.bumpSat JRNL_STAT_LOST else s
  let s := s.modJournal fun j =>
    { j with created := seq, queue := q, crust := { j.crust with slots := q.drop (q.length - 8) } }
  s.wr JRNL_STAT_PEND q.length

/-! ### Thread and module states (R31 to R38) -/

/-- A thread's state changes; an absent thread stays absent (R30, R31). -/
def State.setThread (s : State) (t code : Nat) : State :=
  if s.present t then
    (s.modMod fun m => { m with thrOld := updAt m.thrOld t fun x => if x.1 = s.now then x else (s.now, s.thread t) }).wr
      (SYS_THREAD_STATE_T t) code
  else s

/-- The code of a thread's state before the present tick (R115). -/
def State.threadBefore (s : State) (t : Nat) : Nat :=
  let x := s.mod.thrOld.getD t (0, 0)
  if x.1 = s.now then x.2 else s.thread t

def State.setThreads (s : State) (ts : List Nat) (code : Nat) : State := ts.foldl (fun s t => s.setThread t code) s

/-! ### SAFE_STAT (R277, R286, R287) -/

/-- SAFE_STAT [31:25] of the active lane. -/
def State.safeBits (s : State) : Nat := bitsOf ((s.lane s.active).regs.get SAFE_STAT) 31 25

/-- A changed bit of SAFE_STAT [31:25] raises the event SAFE with the new bits (R356). -/
def State.safeEvent (s : State) (old : Nat) : State := if s.safeBits = old then s else s.raise 64 s.safeBits

/-- A field of SAFE_STAT written in both lanes, with the event. -/
def State.setSafe (s : State) (x : Fld) (v : Nat) : State :=
  (s.bothLanes fun l => l.wr x v).safeEvent s.safeBits

/-- The safety functions are enabled. -/
def State.safeEn (s : State) : Bool := (s.lane s.active).on SAFE_CFG_EN

/-- Degraded operation: safety enabled, a lane neither ACTIVE nor SHADOW, and a thread ARMED or SWITCHING (R287). -/
def State.degradedNow (s : State) : Bool :=
  let ok := fun (i : LaneId) => s.laneState i = 1 || s.laneState i = 2
  s.safeEn && !(ok .a && ok .b) && (s.anyThread 1 || s.anyThread 2)

/-- DEGRADED follows R287; its minutes count from its start. -/
def State.updDegraded (s : State) : State :=
  if s.degradedNow = (s.lane s.active).on SAFE_STAT_DEGRADED then s
  else
    let s := if s.degradedNow then s.modSafe fun x => { x with degradedAt := s.now } else s
    s.setSafe SAFE_STAT_DEGRADED (b2n s.degradedNow)

/-- The module state the list of R33 gives: 0 BOOT, 1 CHECK, 2 READY, 3 ARMED, 4 SWITCHING, 5 HOLD, 6 BLOCKED,
7 LOCKOUT, 8 MAINT. With no thread configured "every configured thread is BLOCKED" does not apply (DESIGN CHOICE, log 49). -/
def State.moduleStateOf (s : State) : Nat :=
  match s.mod.phase with
  | .boot => 0
  | .check => 1
  | .run =>
    if s.faults.classL then 7
    else if s.hold then 5
    else if s.on SLC_FAULT_MOD_B_ACTIVE || (s.mod.configured != 0 && s.allThreads 3) then 6
    else if s.mod.maint then 8
    else if s.anyThread 2 then 4
    else if s.anyThread 1 then 3
    else 2

/-- The place of a module state in the list of R33: the lower, the higher its rank. -/
def stateRank (st : Nat) : Nat := [0, 1, 8, 7, 6, 3, 4, 2, 5].getD st 9

/-- A change of the module state is recorded: the event MODULE_STATE, and a journal record with the old state, the new state
and the cause (R38). The code of the cause is that of the fault; 0 stands for a command or start-up, 0x80 for HOLD, 0x81 for
a verdict (DESIGN CHOICE, log 34). -/
def State.noteModule (s : State) (old new cause : Nat) : State :=
  let s := ((s.wr SYS_STATE_PREV_STATE old).wr SYS_STATE_STATE new).raise 20 (old * 16 + new)
  let s := s.journalAdd 0x01 new 0 [BitVec.ofNat 8 old, BitVec.ofNat 8 new, BitVec.ofNat 8 cause]
  s.modMod fun m => { m with change := some (s.now, s.journal.created) }

/-- A state of higher rank takes the place of one entered in the same tick: the change, its event's DATA and its record lead
to it (R37). -/
def State.raiseModule (s : State) (seq : Word) (new cause : Nat) : State :=
  let first := s.rd SYS_STATE_PREV_STATE
  let put := fun (r : JRec) =>
    if r.seq = seq then { r with code := BitVec.ofNat 16 new,
                                 data := padTo 32 0 [BitVec.ofNat 8 first, BitVec.ofNat 8 new, BitVec.ofNat 8 cause] } else r
  ((s.wr SYS_STATE_STATE new).wr (EIC_SRC_LOG_DATA 20) (first * 16 + new)).modJournal fun j =>
    { j with queue := j.queue.map put, crust := { j.crust with slots := j.crust.slots.map put } }

/-- The module state follows R33; a change is recorded (R38). Where causes coincide in one tick, the state of highest rank is
the one entered (R37). DEGRADED follows as well (R287). -/
def State.updModule (s : State) (cause : Nat) : State :=
  let s := s.updDegraded
  let old := s.rd SYS_STATE_STATE
  let new := s.moduleStateOf
  if new = old then s
  else match s.mod.change with
    | some (t, seq) =>
      if t = s.now && cause != 0 && stateRank new < stateRank old && new != s.rd SYS_STATE_PREV_STATE &&
          s.journal.queue.any (fun r => r.seq = seq) then s.raiseModule seq new cause
      else s.noteModule old new cause
    | none => s.noteModule old new cause

/-! ### Block sequences (R226 to R230) -/

/-- The type of a leg: 0 two-level, 1 NPC, 2 T-type, 3 ANPC. -/
def State.legType (s : State) (leg : Nat) : Nat := (s.lane s.active).rd (PWM_LEG_CFG_TYPE leg)

/-- The steps of the block sequence of a leg type: the switches turned off at T_o, T_o + INNER_DELAY and
T_o + 2 × INNER_DELAY (R226). -/
def blockSteps (type clamp : Nat) : List (List Nat) :=
  if type = 0 then [[0, 3]]
  else if type = 3 then (if clamp = 1 then [[0, 3], [1, 2], [4, 5]] else [[0, 3], [1, 2, 4, 5]])
  else [[0, 3], [1, 2]]

/-- T_o of a leg in fine steps, counted from t1 (R227, R229). -/
def State.outerDelay (s : State) (leg : Nat) : Nat :=
  if s.rd (GL_LINK_STAT_STATE leg) = 2 then 16 * 32 + s.rd (GL_LINK_CFG_GL1_DELAY leg)
  else 312 * 32 + s.rd (GL_LINK_DELAY_D_USED leg)

/-- A frame goes out on a gate link: TYPE, SEQ and payload, with their CRC (R204). -/
def State.glSend (s : State) (n type : Nat) (payload : List Byte) : State :=
  s.modGl fun g =>
    let ty := BitVec.ofNat 8 type
    let seq := BitVec.ofNat 8 ((g.links.getD n Link.reset).seqDown)
    { g with links := updAt g.links n (fun l => { l with seqDown := (l.seqDown + 1) % 256 }),
             sent := { link := n, type := ty, seq := seq, payload := payload, crc := crc16 (ty :: seq :: payload) } :: g.sent }

/-- An edge record of a GL/2 EDGE frame (R204): switch, level, and its execution instant in fine steps as tick and fine
step. -/
def edgeRecord (sw : Nat) (on : Bool) (at_ : Int) : Nat :=
  sw * 2 ^ 28 + b2n on * 2 ^ 27 + ((at_ / 32) % (2 ^ 22 : Nat)).toNat * 32 + (at_ % 32).toNat

/-- The payload of an EDGE frame: the count of records, and the records (R204). -/
def edgePayload (records : List Nat) : List Byte := BitVec.ofNat 8 records.length :: records.flatMap (leBytes 4)

/-- The line of a GL/1 link changes at an instant of launch; what was to be launched from then on is void, and of what lies
in the past the last stays (R210, R226). -/
def Link.launch (l : Link) (now : Nat) (moves : List (Int × Gl1Line)) : Link :=
  match moves with
  | [] => l
  | m :: _ =>
    let kept := l.line.filter fun x => decide (x.1 < m.1)
    let past := (kept.filter fun x => decide (x.1 ≤ 32 * (now : Int))).length
    { l with line := kept.drop (past - 1) ++ moves }

/-- What the transmit line of a GL/1 link carries at an instant in fine steps; before any transition the toggle of OFF
(R210). -/
def Link.lineAt (l : Link) (t : Int) : Gl1Line :=
  ((l.line.filter fun x => decide (x.1 ≤ t)).getLast?.map fun x => x.2).getD .toggle

/-- A block sequence is running on the leg (R230). -/
def State.blocking (s : State) (leg : Nat) : Bool := s.faults.blocks.any fun b => b.leg = leg && s.now < b.tEnd

/-- A leg is in pulse block: it has been taken off, and the last instant of its sequence has passed (R207, R226). -/
def State.inPulseBlock (s : State) (leg : Nat) : Bool := s.faults.pulseBlock.getD leg true && !s.blocking leg

/-- The switches of a leg with the instants, in fine steps, at which a sequence that starts now turns them off: step k at
T_o + k × INNER_DELAY (R226). Without lock every delay is rounded up to whole periods of 20 ns (R400). -/
def State.blockOffs (s : State) (leg : Nat) : List (Nat × Int) :=
  let whole := fun (x : Nat) => if s.on CLK_STAT_ON_REF then (x + 255) / 256 * 256 else x
  let outer := 32 * s.now + whole (s.outerDelay leg)
  let inner := whole (32 * s.rd SLC_ENV_INNER_INNER_DELAY)
  ((blockSteps (s.legType leg) (s.rd SLC_ENV_INNER_ANPC_CLAMP)).zipIdx).flatMap fun (x : List Nat × Nat) =>
    x.1.map fun k => (k, ((outer + x.2 * inner : Nat) : Int))

/-- What a link sends for a block sequence: on GL/2 an EDGE frame with the turn-offs of switches 0 and 3 and one with those
of the remaining switches (R227); on GL/1 the OFF pattern from t1 + 40 ns (R229). A link that is not up sends no frame
(R207). -/
def State.sendBlock (s : State) (leg : Nat) (offs : List (Nat × Int)) : State :=
  let st := s.rd (GL_LINK_STAT_STATE leg)
  if st = 2 then
    s.modGl fun g => { g with links := updAt g.links leg fun l => l.launch s.now [(32 * (s.now : Int) + 512, .toggle)] }
  else if st = 3 then
    let frame := fun (s : State) (l : List (Nat × Int)) =>
      if l.isEmpty then s else s.glSend leg 0x11 (edgePayload (l.map fun x => edgeRecord x.1 false x.2))
    frame (frame s (offs.take 2)) (offs.drop 2)
  else s

/-- The block sequence of a leg starts now (R226): no edge of the leg is forwarded any more, and the switches go off at
their instants, which are edges of the leg at its driver (R94). A running sequence is never restarted (R230). -/
def State.blockLeg (s : State) (leg : Nat) : State :=
  if s.blocking leg then s
  else
    let offs := s.blockOffs leg
    let tEnd := ((offs.foldl (fun (a : Int) x => max a x.2) 0).toNat + 31) / 32
    let b : Block := { leg := leg, t1 := s.now, offs := offs, tEnd := tEnd }
    let cut := fun (e : EnvLeg) =>
      { e with carried := [],
               edges := e.edges ++ (offs.filter fun x => e.on.getD x.1 false).map fun x => x.2 }
    let s := s.modFaults fun f =>
      { f with blocks := b :: f.blocks.filter (fun x => x.leg ≠ leg),
               pulseBlock := f.pulseBlock.set leg true, env := updAt f.env leg cut }
    let s := s.modDuplex fun d =>
      { d with nextSet := d.nextSet.filter (fun e => e.leg ≠ leg),
               playing := d.playing.filter (fun e => e.leg ≠ leg) }
    s.sendBlock leg offs

def State.blockLegs (s : State) (legs : List Nat) : State := legs.foldl State.blockLeg s

/-- The legs of a thread (R11). -/
def legsOf (t : Nat) : List Nat := (List.range 6).map fun g => 6 * t + g

def State.blockThread (s : State) (t : Nat) : State := s.blockLegs (legsOf t)

/-- Every leg of every configured thread. -/
def State.blockAll (s : State) : State := (numsWhere 8 s.present).foldl State.blockThread s

/-! ### Fault causes (R231 to R236) -/

/-- All pins of an auxiliary channel low, at a tick (R212); pins that fall are edges (R215). -/
def Aux.pinsLow (now : Nat) (a : Aux) : Aux :=
  { a with pins := List.replicate 6 false, pattern := none, enter := List.replicate 6 none, perAt := none, chopEnd := none,
           precharge := none, edgeAt := if a.pins.any id then now else a.edgeAt }

/-- A pin of the pattern driven may be high at a tick: the low pin, and the high pin where it is not chopped or within its
on-part (R214). -/
def Aux.wants (a : Aux) (now k : Nat) : Bool :=
  a.pattern.any fun p => k = p.2 || (k = p.1 && (!a.chop || a.chopEnd.any fun t => decide (now < t)))

/-- The pins of a pattern as they are at a tick, once the waits of entering pins that have ended are struck out (R214). -/
def Aux.driven (now : Nat) (a : Aux) : Aux :=
  let enter := a.enter.map fun x => x.filter fun t => decide (now < t)
  let pins := (List.range 6).map fun k => (enter.getD k none).isNone && a.wants now k
  { a with enter := enter, pins := pins }

/-- The pins as they stand at a tick: entering pins go high at their tick, and the high pin of CHOP_H goes low at the end of
its on-part (R214). -/
def Aux.settle (now : Nat) (a : Aux) : Aux :=
  if a.pattern.isNone then a
  else
    let past := fun (x : Option Nat) => x.filter fun t => decide (t ≤ now)
    let last := (past a.chopEnd :: a.enter.map past).foldl (fun m x => max m (x.getD 0)) a.edgeAt
    let b := a.driven now
    { b with chopEnd := a.chopEnd.filter (fun t => decide (now < t)), edgeAt := if b.pins = a.pins then a.edgeAt else last }

def State.modAux (s : State) (n : Nat) (f : Aux → Aux) : State := { s with aux := updAt s.aux n f }

/-- The bytes of a scope in a journal record: 0 thread, 1 module, 2 auxiliary channel, 3 link, and its number. -/
def Scope.bytes : Scope → List Byte
  | .thread t => [0, BitVec.ofNat 8 t]
  | .module => [1, 0]
  | .aux n => [2, BitVec.ofNat 8 n]
  | .link n => [3, BitVec.ofNat 8 n]

/-- The byte of SAFE_SO_STAT for an output: commanded on, readback, switches A and B, test running, last test passed, last
tested lane, awaiting REQ (R294 to R296). -/
def State.soByte (s : State) (n : Nat) (o : So) : Nat :=
  let l := s.lane s.active
  b2n (l.smon.soCmd.getLsbD n) + 2 * b2n o.rb + 4 * b2n o.swA + 8 * b2n o.swB + 16 * b2n o.test.isSome +
    32 * b2n o.passed + 64 * LaneId.num o.lastLane + 128 * b2n (o.manual && (o.forced || !l.on (SAFE_SO_CFG_RESTART n)))

/-- SAFE_SO_STAT follows the outputs. -/
def State.updSo (s : State) : State :=
  (List.range 4).foldl (fun s n =>
    match s.field.sos[n]? with
    | some o => s.bothLanes fun l => l.wr (SAFE_SO_STAT_B n) (s.soByte n o)
    | none => s) s

/-- Both series switches of an output open: a running test is cancelled there (R297), and the exclusion of the readback runs
from the opening (R298). -/
def So.off (o : So) (now : Nat) : So :=
  { o with
    swA := false, swB := false, test := none, recheck := false, rb := false,
    endedAt := if o.test.isSome then now else o.endedAt, offAt := if o.swA || o.swB then now else o.offAt }

/-- Safety outputs off with both switches open, by something other than their own function, and a test cancelled (R294,
R297). `keep` names the outputs left alone. -/
def State.sosOff (s : State) (keep : Nat → Bool) : State :=
  (s.modField fun f =>
    { f with sos := f.sos.mapIdx (fun n o =>
        if keep n then o else { o.off s.now with manual := true }) }).updSo

/-- The STO conditions of R277 taken up: outputs with STO_OFF held off. -/
def State.stoOn (s : State) : State :=
  let s := (s.modFaults fun f => { f with sto := true }).setSafe SAFE_STAT_STO 1
  s.sosOff fun n => (s.lane s.active).rd (SAFE_SO_CFG_STO_OFF n) = 0

/-- STO is in force while a safety cause of class B or L is in force (R277). -/
def State.updSto (s : State) : State :=
  let on := s.faults.causes.any fun c => 0x20 ≤ c.code && c.code ≤ 0x2F
  if on then s
  else
    let s := (s.modFaults fun f => { f with sto := false }).setSafe SAFE_STAT_STO 0
    s.bothLanes fun l => l.wr SAFE_STAT_CAUSE 0

/-- The tick of a first cause is noted. -/
def State.noteFirst (s : State) (k : Nat) : State := s.modFaults fun f => { f with firstAt := f.firstAt.set k s.now }

/-- Whether a cause is recorded as first one: none stands, or one of the same tick with a higher code does (R233). -/
def State.takesFirst (s : State) (k : Nat) (stands : Bool) (had code : Nat) : Bool :=
  !stands || (s.faults.firstAt.getD k 0 = s.now && code < had)

/-- The first cause of a scope is recorded; of those of one tick the one of the lowest code (R233). -/
def State.firstCause (s : State) (code : Nat) (scope : Scope) (leg : Option Nat) : State :=
  match scope with
  | .thread t =>
    if s.takesFirst t (s.on (SLC_THR_FAULT_B_ACTIVE t)) (s.rd (SLC_THR_FAULT_CAUSE t)) code then
      (((s.wr (SLC_THR_FAULT_B_ACTIVE t) 1).wr (SLC_THR_FAULT_CAUSE t) code).wr (SLC_THR_FAULT_LEG t) (leg.getD 0x3F)).noteFirst t
    else s
  | .module =>
    if s.takesFirst 8 (s.on SLC_FAULT_MOD_B_ACTIVE) (s.rd SLC_FAULT_MOD_CAUSE) code then
      ((s.wr SLC_FAULT_MOD_B_ACTIVE 1).wr SLC_FAULT_MOD_CAUSE code).noteFirst 8
    else s
  | _ => s

/-- CAUSE_ACTIVE and CAUSE_GONE of a scope from its recorded causes (R242): 10 ms are 4,000,000 ticks. -/
def State.causeBits (s : State) (scope : Scope) : Nat × Nat :=
  let cs := s.faults.causes.filter fun c => c.scope = scope && c.cls = 1
  (b2n (cs.any (·.active)), b2n (!cs.isEmpty && cs.all fun c => !c.active && c.lastActive + 4000000 ≤ s.now))

/-- The status bits of every recorded scope brought up to date. -/
def State.updCauseBits (s : State) : State :=
  let m := s.causeBits .module
  let s := (s.wr SLC_FAULT_MOD_CAUSE_ACTIVE m.1).wr SLC_FAULT_MOD_CAUSE_GONE m.2
  let s := (List.range 8).foldl (fun s t =>
    let m := s.causeBits (.thread t)
    (s.wr (SLC_THR_FAULT_CAUSE_ACTIVE t) m.1).wr (SLC_THR_FAULT_CAUSE_GONE t) m.2) s
  let ls := s.faults.causes.filter fun c => c.cls = 2
  s.wr SLC_LOCKOUT_STAT_CAUSE_ACTIVE (b2n (ls.any fun c => c.active || s.now < c.lastActive + 4000000))

/-- HOLD ends where a class L fault, a module-wide class B fault, or class B on every configured thread stands (R37). -/
def State.endHoldByFault (s : State) : State :=
  if s.hold && (s.faults.classL || s.on SLC_FAULT_MOD_B_ACTIVE || (s.mod.configured != 0 && s.allThreads 3)) then
    let s := s.wr LANE_STAT_HOLD 0
    s.modDuplex fun d => { d with held := false }
  else s

/-- What a class B fault does to its scope: the block sequence, and BLOCKED or the channel's pins low (R231). -/
def State.applyB (s : State) (scope : Scope) : State :=
  match scope with
  | .thread t => (s.blockThread t).setThreads (if s.thread t = 4 then [] else [t]) 3
  | .module => s.blockAll.setThreads (numsWhere 8 fun t => s.thread t != 4) 3
  | .aux n => s.modAux n (Aux.pinsLow s.now)
  | .link _ => s

/-- What class L does: the block sequence on every leg, auxiliary pins low, safety outputs off, every configured thread
in LOCKOUT, and the record in MRAM with the tag in force (R231, R244, R301). -/
def State.applyL (s : State) (code : Nat) : State :=
  let s := s.blockAll.setThreads (numsWhere 8 s.present) 4
  let s := { s with aux := s.aux.map (Aux.pinsLow s.now) }
  let s := s.sosOff fun _ => false
  if s.faults.classL then
    (if s.takesFirst 9 true (s.rd SLC_LOCKOUT_STAT_CAUSE) code then s.wr SLC_LOCKOUT_STAT_CAUSE code else s)
  else
    let s := s.modFaults fun f => { f with classL := true, lockTag := s.mod.tally.setWidth 32 }
    ((s.wr SLC_LOCKOUT_STAT_ACTIVE 1).wr SLC_LOCKOUT_STAT_CAUSE code).noteFirst 9

/-- The safety causes of R276. -/
def safetyCode (code : Nat) : Bool := 0x20 ≤ code && code ≤ 0x2F

/-- The power state: 0 Full, 1 Trim, 2 Slack, 3 Doze. -/
def State.pwrState (s : State) : Nat := s.rd PWR_STAT_STATE

/-- An exit from Slack or Doze starts; from Doze the returning lane has yet to report its Irolo version (R19, R458, R459). -/
def State.startExit (s : State) (slot : Option Nat) : State :=
  if s.pwrState < 2 || s.power.exiting.isSome then s
  else
    let s := if s.pwrState = 3 then
        s.modMod fun m => { m with irolo := m.irolo.set (LaneId.num (LaneId.other s.active)) none }
      else s
    (s.wr PWR_STAT_EXITING 1).modPower fun p => { p with exiting := some s.now, wakeSlot := slot }

/-- A fault cause arises (R233, R234): journal record, event FAULT, and by its class (0 E, 1 B, 2 L, 3 W) the recording
of the cause, its first cause and its effect; class B and L end Slack and Doze (R458). `active` is false for a cause that is an instant. -/
def State.cause (s : State) (code cls : Nat) (scope : Scope) (key : Nat) (leg : Option Nat) (active : Bool) : State :=
  let s := s.journalAdd 0x02 code 0
    ([BitVec.ofNat 8 code, BitVec.ofNat 8 cls] ++ scope.bytes ++ [BitVec.ofNat 8 (leg.getD 0x3F)])
  let s := s.raise 21 (code + 256 * cls)
  if cls = 1 || cls = 2 then
    let c : Cause := { code := code, cls := cls, scope := scope, key := key, leg := leg, active := active,
                       lastActive := s.now }
    let s := s.modFaults fun f =>
      { f with causes := f.causes.filter (fun x =>
          !(x.code = code && x.scope = scope && x.key = key && x.cls = cls)) ++ [c],
               risen := (if cls = 2 then .module else scope) :: f.risen }
    let s := if cls = 1 then (s.firstCause code scope leg).applyB scope else s.applyL code
    let s := if safetyCode code then
        let s := if (s.lane s.active).rd SAFE_STAT_CAUSE = 0 then s.bothLanes (fun l => l.wr SAFE_STAT_CAUSE code) else s
        s.stoOn
      else s
    ((s.updCauseBits.endHoldByFault).updModule code).startExit none
  else s

/-- A cause's condition ends: it is inactive from now on (R232). -/
def State.causeEnd (s : State) (code key : Nat) : State :=
  let s := s.modFaults fun f => { f with causes := f.causes.map (fun c =>
      if c.code = code && c.key = key && c.active then { c with active := false, lastActive := s.now } else c) }
  s.updCauseBits

/-- The cause is recorded and active. -/
def State.causeActive (s : State) (code key : Nat) : Bool :=
  s.faults.causes.any fun c => c.code = code && c.key = key && c.active

/-! ### Setpoint words (R115, R138, R139) -/

/-- The last commit of a setpoint word. -/
def ModState.setAt (m : ModState) (k : Nat) : Option SetAt := m.setpointAt.find? fun p => p.key = k

/-- A setpoint word written at a commit boundary, with its Tally (R115, R139). -/
def State.writeSetpoint (s : State) (k : Nat) (v : Word) : State :=
  let old := match s.mod.setAt k with
    | some p => if p.at_ = s.now then p.old else memRd s.mod.setpoints k
    | none => memRd s.mod.setpoints k
  s.modMod fun m =>
    { m with setpoints := memWr m.setpoints k v,
             setpointAt := { key := k, tally := m.tally, at_ := s.now, old := old } :: m.setpointAt.filter (fun p => p.key ≠ k) }

/-- The mode word of a thread: its setpoint word 15 (R138). -/
def modeKey (t : Nat) : Nat := 47 + 16 * t

/-- The mode word with GRID = STOP goes into a thread, whose law then stops (R138, R142, R288). -/
def State.stopThread (s : State) (t : Nat) : State :=
  let s := s.writeSetpoint (modeKey t) (withBits (memRd s.mod.setpoints (modeKey t)) 3 0 0)
  if s.mod.stopPend.contains t then s else s.modMod fun m => { m with stopPend := t :: m.stopPend }

end Sys2Proof.Machine
end

