-- ==== Sys2Proof/Machine/Operands.lean ====
section
/-! DEFINITION. The operands of the CLE ops: registers of a datapath, the words of a context descriptor (R114), memory
operands (R112) and input bindings (R115). -/
namespace Sys2Proof.Machine

/-! ### Datapath registers (R98) -/

/-- Register Dn. -/
def DpState.reg (d : DpState) (n : Nat) : Word := d.d.getD n 0
/-- Register Dn as a signed number (R104). -/
def DpState.sreg (d : DpState) (n : Nat) : Int := (d.reg n).toInt
/-- Register Dn written; there is none beyond D31. -/
def DpState.setReg (d : DpState) (n : Nat) (w : Word) : DpState := { d with d := d.d.set n w }
/-- Accumulator ACCn as a signed number. -/
def DpState.sacc (d : DpState) (n : Nat) : Int := (d.acc.getD n 0).toInt
/-- Accumulator ACCn written. -/
def DpState.setAcc (d : DpState) (n : Nat) (w : BitVec 48) : DpState := { d with acc := d.acc.set n w }

/-- Operand a, signed. -/
def DpState.opA (d : DpState) (w : CleWord) : Int := d.sreg w.sa.toNat
/-- The register one above a, signed. -/
def DpState.opA1 (d : DpState) (w : CleWord) : Int := d.sreg (w.sa.toNat + 1)
/-- Operand b, signed. -/
def DpState.opB (d : DpState) (w : CleWord) : Int := d.sreg w.sb.toNat
/-- The third register c, named by IMM[4:0], signed (R103). -/
def DpState.opC (d : DpState) (w : CleWord) : Int := d.sreg (bitsOf w.imm 4 0)
/-- The immediate, signed. -/
def immI (w : CleWord) : Int := w.imm.toInt
/-- The shift count as a number. -/
def shOf (w : CleWord) : Nat := w.shift.toNat

/-- A datapath of a lane. -/
def Lane.dp (l : Lane) : Dp → DpState
  | .dp0 => l.cle.dp0
  | .dp1 => l.cle.dp1
/-- A datapath of a lane changed. -/
def Lane.modDp (l : Lane) (dp : Dp) (f : DpState → DpState) : Lane :=
  match dp with
  | .dp0 => { l with cle := { l.cle with dp0 := f l.cle.dp0 } }
  | .dp1 => { l with cle := { l.cle with dp1 := f l.cle.dp1 } }

/-! ### Program words (R103) -/

/-- A program word from an op code and its operand fields. -/
def wordOf (op : Nat) (w : CleWord) : DWord :=
  ((((((((BitVec.ofNat 6 op ++ w.dst) ++ w.sa) ++ w.sb) ++ w.acc) ++ w.shift) ++ BitVec.ofBool w.sat) ++ w.mod) ++ w.imm)

/-- The fields of a program word: its op code and its operand word. -/
def opOf (x : DWord) : Nat × CleWord :=
  ((x.extractLsb' 58 6).toNat,
    { dst := x.extractLsb' 53 5, sa := x.extractLsb' 48 5, sb := x.extractLsb' 43 5, acc := x.extractLsb' 41 2,
      shift := x.extractLsb' 35 6, sat := x.getLsbD 34, mod := x.extractLsb' 32 2, imm := x.extractLsb' 0 32 })

/-- The program word at an index; what no image has written is 0 (log 6). -/
def Cle.progWord (c : Cle) (pc : Nat) : DWord := (memFind c.prog pc).getD 0

/-- The run of a datapath, where its program's next word is the given op (R98, R103, R114). The ops of the law library are its
own: its contexts run as a whole (log 47). -/
def Lane.issues (l : Lane) (dp : Dp) (op : Nat) (w : CleWord) : Option CtxRun :=
  (l.dp dp).run.filter fun r => !l.cle.lib.contains r.ctx && l.cle.progWord r.pc = wordOf op w

/-- The run of a datapath, where it is one of a library context (R132). -/
def Lane.lawContext (l : Lane) (dp : Dp) : Option CtxRun := (l.dp dp).run.filter fun r => l.cle.lib.contains r.ctx

/-! ### Context descriptors (R114) -/

/-- Word k of the descriptor of a context. -/
def Cle.desc (c : Cle) (ctx k : Nat) : Word := memRd c.descs (8 * ctx + k)
def Cle.rebEn (c : Cle) (ctx : Nat) : Bool := bitsOf (c.desc ctx 0) 31 31 = 1
def Cle.rebase (c : Cle) (ctx : Nat) : Nat := bitsOf (c.desc ctx 0) 29 16
def Cle.entry (c : Cle) (ctx : Nat) : Nat := bitsOf (c.desc ctx 0) 13 0
def Cle.budget (c : Cle) (ctx : Nat) : Nat := bitsOf (c.desc ctx 1) 16 0
def Cle.stateLen (c : Cle) (ctx : Nat) : Nat := bitsOf (c.desc ctx 2) 30 16
def Cle.stateBase (c : Cle) (ctx : Nat) : Nat := bitsOf (c.desc ctx 2) 14 0
def Cle.coefLen (c : Cle) (ctx : Nat) : Nat := bitsOf (c.desc ctx 3) 30 16
def Cle.coefBase (c : Cle) (ctx : Nat) (bankB : Bool) : Nat :=
  if bankB then bitsOf (c.desc ctx 4) 14 0 else bitsOf (c.desc ctx 3) 14 0
def Cle.inCnt (c : Cle) (ctx : Nat) : Nat := bitsOf (c.desc ctx 5) 21 16
def Cle.inBase (c : Cle) (ctx : Nat) : Nat := bitsOf (c.desc ctx 5) 11 0
def Cle.outCnt (c : Cle) (ctx : Nat) : Nat := bitsOf (c.desc ctx 6) 21 16
def Cle.wcetOf (c : Cle) (ctx : Nat) : Nat := bitsOf (c.desc ctx 7) 16 0
def Cle.outBase (c : Cle) (ctx : Nat) : Nat := bitsOf (c.desc ctx 6) 11 0

/-! ### Memory operands (R112) -/

/-- The data-memory word that MOD and IMM address in a run: the state region, the bank the run began with, the other
bank, or another context's state region (R112, R129, R130). -/
def Cle.opAddr (c : Cle) (r : CtxRun) (w : CleWord) : Nat :=
  let o := bitsOf w.imm 14 0
  match w.mod.toNat with
  | 0 => c.stateBase r.ctx + o
  | 1 => c.coefBase r.ctx r.bank + o
  | 2 => c.coefBase r.ctx (!r.bank) + o
  | _ => c.stateBase (bitsOf w.imm 23 16) + o

/-- The state word that [S+o] addresses (R112). -/
def Cle.stateAddr (c : Cle) (r : CtxRun) (w : CleWord) : Nat := c.stateBase r.ctx + bitsOf w.imm 14 0

/-- A data-memory word written by an op in a tick; what it held before the tick stays readable in it (R102). -/
def Lane.setData (l : Lane) (now x : Nat) (v : Word) : Lane :=
  { l with cle := { l.cle with
      data := memWr l.cle.data x v
      wrote := (now, x, memRd l.cle.data x) :: l.cle.wrote.filter fun p => p.1 = now } }

/-- A data-memory word as an op reads it: what it held before any write of the op's tick (R102). -/
def Cle.readData (c : Cle) (now x : Nat) : Word :=
  match c.wrote.find? fun p => p.1 = now && p.2.1 = x with
  | some p => p.2.2
  | none => memRd c.data x

/-! ### Input bindings (R115) -/

/-- The input binding word n of a context. -/
def Cle.inBind (c : Cle) (ctx n : Nat) : Word := memRd c.binds (c.inBase ctx + n)
/-- The output binding word n of a context. -/
def Cle.outBind (c : Cle) (ctx n : Nat) : Word := memRd c.binds (c.outBase ctx + n)

/-- What the previous IN op of a context on a binding saw. -/
def Cle.prevIn (c : Cle) (ctx n : Nat) : Option InHist := c.hist.find? fun h => h.ctx = ctx && h.n = n

/-- The word a mailbox slot holds before a tick, and the tick of that word's publication (R115). -/
def Cle.mailAt (c : Cle) (key now : Nat) : Word × Option Nat :=
  match c.mail.find? (fun m => m.key = key) with
  | none => (0, none)
  | some m => if m.at_ = now then (m.old, m.oldAt) else (m.val, some m.at_)

/-- A trajectory axis with its unit's flags, segment running and stopping, as they stand (R115). -/
def Lane.axisNow (l : Lane) (u k : Nat) : Word × BitVec 4 :=
  let st := l.rd (TRAJ_U_STAT_STATE u)
  (BitVec.ofInt 32 ((l.traj.getD u TrajUnit.reset).axes.getD k 0), (if st = 1 || st = 2 then 1 else 0) ||| (if st = 4 then 2 else 0))

/-- An injection node with its flag as it stands (R115). -/
def Lane.injNow (l : Lane) (n : Nat) : Word × BitVec 4 :=
  match l.rec_.inject.getD n none with
  | some j => if j.over_.isSome then (0, 0) else (j.value, 1)
  | none => (0, 0)

/-- An input that a boundary changes, as it read before the present tick (R115). -/
def Lane.atBoundary (l : Lane) (now k : Nat) (live : Word × BitVec 4) : Word × BitVec 4 :=
  if now = l.asc.frameTick then l.cle.before.getD k live else live

/-- The inputs that a boundary changes are noted ahead of it (R115). -/
def Lane.noteBefore (l : Lane) : Lane :=
  { l with cle := { l.cle with
      before := (List.range 32).map (fun k => l.axisNow (k / 8) (k % 8)) ++ (List.range 16).map l.injNow } }

/-- The value and the four flag bits of an input binding before the present tick, as an IN op of a context reads them
(R115). -/
def State.binding (s : State) (i : LaneId) (ctx n : Nat) : Word × BitVec 4 :=
  let l := s.lane i
  let b := l.cle.inBind ctx n
  match bitsOf b 31 28 with
  | 1 =>
    let c := l.meas.chans.getD (bitsOf b 6 0) Chan.reset
    if c.latchAt = s.now then (c.latchOld, c.latchFlagsOld) else (c.latch, c.latchFlags)
  | 2 =>
    let m := l.cle.mailAt (8 * bitsOf b 14 7 + bitsOf b 2 0) s.now
    let new := match l.cle.prevIn ctx n, m.2 with
      | _, none => false
      | none, some _ => true
      | some h, some t => h.at_ ≤ t
    (m.1, if new then 1 else 0)
  | 3 => l.atBoundary s.now (bitsOf b 4 0) (l.axisNow (bitsOf b 4 3) (bitsOf b 2 0))
  | 4 => l.atBoundary s.now (32 + bitsOf b 3 0) (l.injNow (bitsOf b 3 0))
  | 5 =>
    let k := bitsOf b 7 0
    match s.mod.setAt k with
    | some p => if p.at_ = s.now then (p.old, 0) else (memRd s.mod.setpoints k, if p.tally = s.mod.tally then 1 else 0)
    | none => (memRd s.mod.setpoints k, 0)
  | 6 =>
    let st := s.threadBefore (bitsOf b 2 0)
    let new := match l.cle.prevIn ctx n with
      | none => true
      | some h => h.code ≠ st
    (BitVec.ofNat 32 st, if new then 1 else 0)
  | _ => (0, 0)

/-- The history of a binding after an IN op: its tick and the thread state code read (R115). -/
def Lane.noteIn (l : Lane) (ctx n now code : Nat) : Lane :=
  { l with cle := { l.cle with hist :=
      { ctx := ctx, n := n, at_ := now, code := code } :: l.cle.hist.filter (fun h => !(h.ctx = ctx && h.n = n)) } }

end Sys2Proof.Machine
end

