-- ==== Sys2Proof/Machine/Flags.lean ====
section
/-! DEFINITION. The result stage of the CLE (R105), the sticky flags of a context (R105, R109, R111), and the results of
the geometric ops within their error bounds (R108). -/
namespace Sys2Proof.Machine

/-! ### Result stage (R105) -/

/-- A number clamped to n bits, two's complement. -/
def clampBits (n : Nat) (x : Int) : Int := clampI x (-(2 ^ (n - 1) : Nat)) ((2 ^ (n - 1) : Nat) - 1)

/-- res(x): clamped with SAT, else the low 32 bits. -/
def res (sat : Bool) (x : Int) : Word := BitVec.ofInt 32 (if sat then clampBits 32 x else x)

/-- res(x) clamps: SATF is set. -/
def resSat (sat : Bool) (x : Int) : Bool := sat && clampBits 32 x ≠ x

/-- acc(x): the same rule at 48 bits. -/
def accRes (sat : Bool) (x : Int) : BitVec 48 := BitVec.ofInt 48 (if sat then clampBits 48 x else x)

/-- acc(x) clamps: SATF is set. -/
def accSat (sat : Bool) (x : Int) : Bool := sat && clampBits 48 x ≠ x

/-- A right shift: arithmetic, toward minus infinity (R104). -/
def shr (x : Int) (n : Nat) : Int := x / (2 ^ n : Nat)

/-- A division that truncates toward zero (R107, DIV). -/
def truncDiv (x y : Int) : Int := Int.tdiv x y

/-! ### Sticky flags -/

/-- A W1C flag of the context set where a condition holds. -/
def Lane.stick (l : Lane) (x : Fld) (c : Bool) : Lane := if c then l.wr x 1 else l

/-- SATF of a context (R105). -/
def Lane.satf (l : Lane) (ctx : Nat) (c : Bool) : Lane := l.stick (CLE_CTX_STAT_SATF ctx) c

/-- WRAP and WRAP_CNT of a context (R109). -/
def Lane.wrapf (l : Lane) (ctx : Nat) (c : Bool) : Lane :=
  if c then (l.wr (CLE_CTX_STAT_WRAP ctx) 1).bumpSat (CLE_CTX_STAT_WRAP_CNT ctx) else l

/-- The relation of CMP by MOD (R107). -/
def cmpRel (m : BitVec 2) (a b : Int) : Bool :=
  match m.toNat with
  | 0 => b < a
  | 1 => b ≤ a
  | 2 => a = b
  | _ => a ≠ b

/-! ### Geometric ops (R108) -/

def isqrtGo : Nat → Nat → Nat → Nat
  | 0, _, r => r
  | k + 1, n, r => isqrtGo k n (if (r + 2 ^ k) * (r + 2 ^ k) ≤ n then r + 2 ^ k else r)

/-- floor(√n) for n below 2^512. -/
def isqrt (n : Nat) : Nat := isqrtGo 256 n 0

/-- floor(y × √3): exact, since y√3 is no integer but for y = 0. -/
def mulRoot3 (y : Int) : Int :=
  if 0 ≤ y then isqrt (3 * y.toNat * y.toNat) else -(isqrt (3 * y.natAbs * y.natAbs) : Int) - 1

/-- floor(y / √3). -/
def divRoot3 (y : Int) : Int :=
  if 0 ≤ y then isqrt (y.toNat * y.toNat / 3) else -(isqrt (y.natAbs * y.natAbs / 3) : Int) - 1

/-- The integers within e of x: x = f where `exact`, else x lies strictly between f and f + 1. -/
def within (f : Int) (exact : Bool) (e : Nat) : Int × Int := if exact then (f - e, f + e) else (f - e + 1, f + e)

/-- The integers within e of n / 3. -/
def withinThird (n : Int) (e : Nat) : Int × Int := (-((3 * e - n) / 3), (n + 3 * e) / 3)

/-- Integers within e of x / 2^n, with 2^-16 to spare for the error of x itself. -/
def withinScaled (x : Int) (n e : Nat) : Int × Int :=
  let m : Int := e * (2 ^ n : Nat) - (2 ^ (n - 16) : Nat)
  (-((m - x) / (2 ^ n : Nat)), (x + m) / (2 ^ n : Nat))

/-- The value an op returns within its bounds: a fixed function of its operands (R108; log 12). -/
def geoPick (op k : Nat) (a b c : Word) (r : Int × Int) : Int :=
  r.1 + (Config.geoChoice op k a b c % (r.2 - r.1 + 1).toNat : Nat)

/-- The alternating series of sine or cosine: term, its index, the square of the angle, the sum, in units of 2^-60. -/
def trigSeries : Nat → Nat → Int → Int → Int → Int
  | 0, _, _, _, acc => acc
  | fuel + 1, k, t2, term, acc =>
    trigSeries fuel (k + 2) t2 (-(term * t2 / (2 ^ 60 : Nat)) / ((k + 1) * (k + 2) : Nat)) (acc + term)

/-- The angle within its quadrant in units of 2^-60 rad: 2^30 bt are π/2. -/
def quadRad (w : Word) : Int := ((w.toNat % 2 ^ 30) * 1811004864519280711 / 2 ^ 30 : Nat)

def sinQ (t : Int) : Int := trigSeries 16 1 (t * t / (2 ^ 60 : Nat)) t 0
def cosQ (t : Int) : Int := trigSeries 16 0 (t * t / (2 ^ 60 : Nat)) (2 ^ 60 : Nat) 0

/-- sin of an angle in bt (R8), in units of 2^-60, to within 2^-54. -/
def sinBt (w : Word) : Int :=
  match w.toNat / 2 ^ 30 with
  | 0 => sinQ (quadRad w)
  | 1 => cosQ (quadRad w)
  | 2 => -sinQ (quadRad w)
  | _ => -cosQ (quadRad w)

/-- cos of an angle in bt, in units of 2^-60, to within 2^-54. -/
def cosBt (w : Word) : Int :=
  match w.toNat / 2 ^ 30 with
  | 0 => cosQ (quadRad w)
  | 1 => -sinQ (quadRad w)
  | 2 => -cosQ (quadRad w)
  | _ => sinQ (quadRad w)

end Sys2Proof.Machine
end

