-- ==== Sys2Proof/Machine/Time.lean ====
section
/-! DEFINITION. The passing of time: angle sources and fronts advance tick by tick (R46 to R50), and so does the PTP clock
(R404). An event whose instant the state determines lets the ticks up to it pass first (log 5). -/
namespace Sys2Proof.Machine

/-- The four movements of R50. -/
inductive Move where
  | held | ordinary | jump | resync
deriving DecidableEq, Repr

/-- The classification of a movement by the signed difference of source and front (R50). -/
def classify (jumpBt : Nat) (d : Int) : Move :=
  if d < -0x40000000 || 0x40000000 < d then .resync
  else if d ≤ 0 then .held
  else if d ≤ jumpBt then .ordinary
  else .jump

/-- The visible 32 bits of an angle (R46). -/
def AngleSrc.pos (a : AngleSrc) : Word := a.acc.extractLsb' 16 32

/-- An angle and a zero fraction as an accumulator. -/
def accOf (w : Word) : BitVec 48 := w.setWidth 48 <<< 16

/-- The signed difference of two angles (R8). -/
def angDiff (a b : Word) : Int := (a - b).toInt

/-- A source of a lane. -/
def Lane.src (l : Lane) (n : Nat) : AngleSrc := l.asc.srcs.getD n AngleSrc.reset
/-- A source of a lane changed. -/
def Lane.modSrc (l : Lane) (n : Nat) (f : AngleSrc → AngleSrc) : Lane :=
  { l with asc := { l.asc with srcs := updAt l.asc.srcs n f } }
/-- The scheduler of a lane changed. -/
def Lane.modAsc (l : Lane) (f : Asc → Asc) : Lane := { l with asc := f l.asc }

/-- The increment in force of a source, signed Q16.16 bt per tick (R46). -/
def Lane.incOf (l : Lane) (n : Nat) : Int := (l.regs.get (ASC_S_INC n)).toInt

/-- JUMP_BT of a source; a smaller written value is raised (R54). -/
def Lane.jumpBt (l : Lane) (n : Nat) : Nat := max 0x8000 (l.rd (ASC_S_JUMP_BT_JUMP_BT n))

/-- The mode of a source: 0 INC, 1 ENC, 2 ENCI; sources other than θr run in INC mode (R48). -/
def Lane.srcMode (l : Lane) (n : Nat) : Nat := if n = 2 then l.rd (ASC_S_CFG_MODE 2) else 0

/-- The angle of the present encoder count: ENC_OFFSET + count × ENC_GAIN (R48). -/
def Lane.encAngle (l : Lane) : Word :=
  l.regs.get (ASC_S_ENC_OFFSET 2) +
    l.regs.get (SAFE_ENC_COUNT (l.rd (ASC_S_CFG_ENC_SEL 2))) * l.regs.get (ASC_S_ENC_GAIN 2)

/-- The movement of a source in k ticks in units of 2^-16 bt, not wrapped (R46, R48): an angle from the encoder is the
present count's from the first tick on, and an interpolated one does not move further than ENC_GAIN − 1 bt from it in the
direction of the increment. -/
def Lane.travel (l : Lane) (n k : Nat) : Int :=
  let a := l.src n
  let free := l.incOf n * k
  match l.srcMode n with
  | 1 => (accOf l.encAngle - a.acc).toInt
  | 2 =>
    let lim : Int := (l.rd (ASC_S_ENC_GAIN_ENC_GAIN 2) - 1 : Nat) * 65536
    let off := (a.acc - accOf l.encAngle).toInt
    if free < 0 then (if off ≤ -lim then 0 else max free (-lim - off)) else (if lim ≤ off then 0 else min free (lim - off))
  | _ => free

/-- The classification of a source's movement in the present tick, measured from its front at the start of the tick (R50). -/
def Lane.moveNow (l : Lane) (n : Nat) : Move := classify (l.jumpBt n) (angDiff (l.src n).pos (l.src n).frontAtTick)

/-- A source at a new angle `d` bt, not wrapped, ahead of the front at the start of the tick: the front holds or is set to
the source (R50). -/
def AngleSrc.place (a : AngleSrc) (acc : BitVec 48) (d : Int) : AngleSrc :=
  { a with acc := acc,
           front := if -0x40000000 ≤ d && d ≤ 0 then a.frontAtTick else acc.extractLsb' 16 32 }

/-- A source set to an angle within the present tick. -/
def AngleSrc.set (a : AngleSrc) (acc : BitVec 48) : AngleSrc :=
  a.place acc (angDiff (acc.extractLsb' 16 32) a.frontAtTick)

/-- A source moved by k ticks, in which it resynchronises in the last one at most. -/
def Lane.moveSrc (l : Lane) (n k : Nat) : Lane :=
  let x := l.travel n k
  l.modSrc n fun a =>
    a.place (a.acc + BitVec.ofInt 48 x)
      (angDiff a.pos a.frontAtTick + ((a.acc.toNat % 65536 : Nat) + x) / 65536)

/-- A tick begins: the fronts as they stand are those that its movements are measured from (R50). -/
def Lane.noteFronts (l : Lane) : Lane :=
  l.modAsc fun a => { a with srcs := a.srcs.map fun x => { x with frontAtTick := x.front, counted := false } }

/-- All sources of a lane moved by k ticks. -/
def Lane.moveAll (l : Lane) (k : Nat) : Lane := (List.range 4).foldl (fun l n => l.moveSrc n k) l

/-- The sources of a lane k ticks on, with the fronts that stood at the start of the last tick. -/
def Lane.advance (l : Lane) (k : Nat) : Lane :=
  match k with
  | 0 => l
  | 1 => l.noteFronts.moveAll 1
  | k + 1 => (l.noteFronts.moveAll k).noteFronts.moveAll 1

/-- A resynchronisation: LATE entries of the source leave the queue and count as skipped, CNT_RESYNC, the event, and the
journal record, which is taken from the active lane (R53; log 7). -/
def State.resync (s : State) (i : LaneId) (n : Nat) (before : Word) : State :=
  let l := s.lane i
  let gone := (l.asc.queue.filter fun e => e.late && e.src = n).length
  let l := l.modAsc fun a => { a with queue := a.queue.filter fun e => !(e.late && e.src = n) }
  let l := (l.wr (ASC_S_CNT_SKIP_CNT_SKIP n) (l.rd (ASC_S_CNT_SKIP_CNT_SKIP n) + gone)).bump
    (ASC_S_CNT_RESYNC_CNT_RESYNC n)
  let s := (s.setLane i l).raiseFrom i 26 n
  if s.active = i then
    s.journalAdd 0x04 n 0 (BitVec.ofNat 8 n :: bytesOf before ++ bytesOf (l.src n).pos)
  else s

/-- The movement of a source in the present tick stands: where it is a resynchronisation, it takes effect, once (R53). -/
def State.settleSrc (s : State) (i : LaneId) (n : Nat) : State :=
  let l := s.lane i
  if l.moveNow n = .resync && !(l.src n).counted then
    (s.setLane i (l.modSrc n fun a => { a with counted := true })).resync i n (l.src n).frontAtTick
  else s

/-- The movements of the present tick stand, in both lanes. A boundary settles its tick itself, with the loads and steps
that fall on it (R67). -/
def State.settle (s : State) : State :=
  (List.range 4).foldl (fun s n => (s.settleSrc .a n).settleSrc .b n) s

/-- The ticks up to and with the first in which a source resynchronises on its way backward; one tick where its angle follows
the encoder (R50). None where it does neither. -/
def Lane.quietSrc (l : Lane) (n : Nat) : Option Nat :=
  let a := l.src n
  let room : Int := (a.acc.toNat % 65536 : Nat) + (0x40000000 + angDiff a.pos a.front) * 65536
  let inc := l.incOf n
  if l.srcMode n = 1 then (if l.travel n 1 = 0 then none else some 1)
  else if 0 ≤ inc || room < 0 then none
  else
    let k := (room / (-inc)).toNat + 1
    if room < -(l.travel n k) then some k else none

/-- The ticks in which no source moves but by an ordinary advance or backward, with the one that ends them. -/
def State.quiet (s : State) (k : Nat) : Nat :=
  (List.range 4).foldl (fun k n =>
    min (min k ((s.laneA.quietSrc n).getD k)) ((s.laneB.quietSrc n).getD k)) k

/-! ### The running frame (R21, R56, R78) -/

/-- The place of the frame source in the running frame, from its start, in units of 2^-16 bt. -/
def Lane.framePos (l : Lane) : Int :=
  let a := l.src (l.rd ASC_FRAME_STAT_SRC_IN_FORCE)
  angDiff a.pos l.asc.frameStart * 65536 + (a.acc.toNat % 65536 : Nat)

/-- The increment in force of the frame source. -/
def Lane.frameInc (l : Lane) : Int := l.incOf (l.rd ASC_FRAME_STAT_SRC_IN_FORCE)

/-- The angular length of the running frame in bt, and whether it is an ordinary one of F bt (R57). -/
def Lane.frameLen (l : Lane) : Nat := (l.asc.frameEnd - l.asc.frameStart).toNat
def Lane.ordinary (l : Lane) : Bool := l.rd ASC_FRAME_STAT_STRETCH = 0

/-- The tick in which the frame source reaches a distance in bt from the start of the running frame; in a frame the increment
stays, so this holds ahead of the present tick and behind it (R47). -/
def Lane.tickAt (l : Lane) (now d : Nat) : Nat :=
  let need : Int := (d : Int) * 65536 - l.framePos
  if l.frameInc ≤ 0 then now else max l.asc.frameTick ((now : Int) + (need + l.frameInc - 1) / l.frameInc).toNat

/-- Of `per` points in F, the distance of the i-th from the start of the frame (R78). -/
def Lane.pointAt (l : Lane) (per i : Nat) : Nat := (i * 2 ^ 32 + per * l.asc.nInForce - 1) / (per * l.asc.nInForce)

/-- The first of `per` points in F that the frame source does not reach before a tick. -/
def Lane.firstPoint (l : Lane) (now per at_ : Nat) : Nat :=
  let w := (l.framePos + l.frameInc * ((at_ : Int) - now - 1)) / 65536
  if w < 0 then 0 else w.toNat * (per * l.asc.nInForce) / 2 ^ 32 + 1

/-- The ticks until the frame source's front reaches the end of the frame, by its increment in force (R21, R56). -/
def Lane.ticksToEnd (l : Lane) : Nat :=
  let f := l.rd ASC_FRAME_STAT_SRC_IN_FORCE
  let a := l.src f
  let left := angDiff l.asc.frameEnd a.front
  if left ≤ 0 then 0
  else
    let need : Int := (angDiff l.asc.frameEnd a.pos) * 65536 - (a.acc.toNat % 65536 : Nat)
    if l.incOf f ≤ 0 then 0 else ((need + l.incOf f - 1) / l.incOf f).toNat

/-- The lane whose frames the Sluice follows: the active lane, or the SHADOW lane once a watchdog has retired the active
one (R264). -/
def State.lead (s : State) : LaneId :=
  if s.laneState s.active = 4 && s.laneState (LaneId.other s.active) = 2 then LaneId.other s.active else s.active

/-! ### The passing of ticks -/

/-- The PTP clock k ticks on (R404). -/
def Clock.adv (c : Clock) (k : Nat) : Clock :=
  let t := c.ns * 2 ^ 32 + c.frac.toNat + k * (c.incNs.toNat * 2 ^ 32 + c.incFrac.toNat)
  let ns := t / 2 ^ 32
  { c with sec := c.sec + BitVec.ofNat 48 (ns / 1000000000), ns := ns % 1000000000, frac := BitVec.ofNat 32 t }

/-- k ticks pass, of which no source resynchronises before the last; the pins of the auxiliary drives follow (R214). The
angle sources advance once the Angle Schedulers have started (R40). -/
def State.advance (s : State) (k : Nat) : State :=
  if k = 0 then s
  else
    let t := s.now + k
    let s := if s.mod.started then s.settle else s
    let s := { s with now := t, clock := s.clock.adv k, aux := s.aux.map (Aux.settle t) }
    if s.mod.started then s.bothLanes fun l => l.advance k else s

/-- k ticks pass, each resynchronisation at its own tick; `fuel` bounds their number. -/
def State.passBy : Nat → Nat → State → State
  | 0, k, s => s.advance k
  | fuel + 1, k, s =>
    let j := if s.mod.started then s.quiet k else k
    if k ≤ j then s.advance k else State.passBy fuel (k - j) (s.advance j)

/-- k ticks pass (R7). Of one source a resynchronisation backward takes 2^15 ticks at least, since no increment moves it by
more than 2^15 bt in one tick (R54). -/
def State.pass (s : State) (k : Nat) : State := State.passBy (17 + 8 * (k / 32768)) k s

/-- The ticks up to an instant pass, where it lies ahead (log 5). -/
def State.passTo (s : State) (t : Nat) : State := s.pass (t - s.now)

end Sys2Proof.Machine
end

