-- ==== Sys2Proof/Machine/Snap.lean ====
section
/-! DEFINITION. Register reads (R328, R468, R471), stream records waiting at their sources (R350, R351), and snapshots
(R345 to R348). -/
namespace Sys2Proof.Machine

/-! ### Reads of the coherent window -/

/-- The block lies in the Sluice's mirror of the active lane (R328). -/
def mirrored (off : Nat) : Bool :=
  (0x10000 ≤ off && off < 0x32000) || (0x36000 ≤ off && off < 0x38000) || (0x3A000 ≤ off && off < 0x3E000)

/-- The FIR tap that MEAS_FIR_ADDR names: 32 × SET + TAP (R85). -/
def State.firKey (s : State) : Nat := 32 * s.rd MEAS_FIR_ADDR_SET + s.rd MEAS_FIR_ADDR_TAP % 32

/-- The words that a register shows live: Tally and PTP time (R39, R404), MEAS_FIR_ADDR, which the Sluice keeps, and the
tap it names (R85). -/
def State.liveWord (s : State) (off : Nat) : Option Word :=
  if off = SYS_TALLY_LO then some (s.mod.tally.setWidth 32)
  else if off = SYS_TALLY_HI then some ((s.mod.tally >>> 32).setWidth 32)
  else if off = TIME_NOW_SUB then some (BitVec.ofNat 32 (bitsOf s.clock.frac 31 16))
  else if off = TIME_NOW_NS then some (BitVec.ofNat 32 s.clock.ns)
  else if off = TIME_NOW_S_LO then some (s.clock.sec.setWidth 32)
  else if off = TIME_NOW_S_HI then some ((s.clock.sec >>> 32).setWidth 32)
  else if off = MEAS_FIR_ADDR then some (s.regs.get MEAS_FIR_ADDR)
  else if off = MEAS_FIR_DATA then some (memRd (s.lane s.active).meas.fir s.firKey)
  else none

/-- The register is one that only the lane views hold (R373, R392, R97). -/
def viewOnly (off : Nat) : Bool := match regDesc off with | some d => d.view | none => false

/-- A word of the coherent window, without the side effects that a row of its own gives a read (R328, R469). -/
def State.readWord (s : State) (off : Nat) : Word :=
  match s.liveWord off with
  | some w => w
  | none =>
    if viewOnly off || (regDesc off).isNone then 0
    else if mirrored off then s.mirror.get off
    else s.regs.get off

/-! ### Stream sources (R350, R351) -/

/-- The length of a record with its header, a multiple of 8 (R350). -/
def StrRec.bytes (r : StrRec) : Nat := 16 + (r.payload.length + 7) / 8 * 8

/-- The store of a ring's source has no room for a record: 8 MiB for the recorder, 1 MiB for Rake (R375, R385); the depth of
the other sources' stores is the model's. -/
def storeFull (ring : Nat) (store : List StrRec) (r : StrRec) : Bool :=
  let used := store.foldl (fun n x => n + x.bytes) 0
  match ring with
  | 0 => 2 ^ 23 < used + r.bytes
  | 1 => 2 ^ 20 < used + r.bytes
  | _ => 4096 ≤ store.length

/-- A ring's source takes a record, or counts it lost (R351). -/
def StrRing.add (ring : Nat) (r : StrRec) (x : StrRing) : StrRing :=
  if storeFull ring x.store r then
    let l := x.lost.getD { first := r.tally, last := r.tally, recs := 0, bytes := 0 }
    { x with lost := some { l with last := r.tally, recs := l.recs + 1, bytes := l.bytes + r.bytes } }
  else { x with store := x.store ++ [r] }

/-- A record joins its source's store; where the store is full the ring counts it lost (R351). -/
def State.strAdd (s : State) (ring : Nat) (r : StrRec) : State :=
  s.modHost fun h => { h with rings := updAt h.rings ring (StrRing.add ring r) }

/-! ### Snapshots -/

/-- The words of one unit of an item kind (R345). -/
def itemUnit (kind : Nat) : Nat := match kind with | 1 => 1 | 2 => 1 | 3 => 2 | 4 => 2 | 5 => 6 | _ => 0

/-- The item words of a set: kind, count and address, up to the first of kind 0 (R345). -/
def State.snapItems (s : State) (set : Nat) : List (Nat × Nat × Nat) :=
  ((List.range 64).map fun i =>
    (s.rd (HQ_SNAP_ITEM_KIND set i), s.rd (HQ_SNAP_ITEM_COUNT_M1 set i) + 1, s.rd (HQ_SNAP_ITEM_ADDR set i))).takeWhile
    fun x => x.1 ≠ 0

/-- The length of a snapshot of a set in bytes, with its header (R345, R347). -/
def State.snapLen (s : State) (set : Nat) : Nat :=
  (s.snapItems set).foldl (fun n x => n + 4 * x.2.1 * itemUnit x.1) 32

/-- A lane runs a context. -/
def Lane.running (l : Lane) (ctx : Nat) : Bool :=
  (l.cle.dp0.run.any fun r => r.ctx = ctx) || (l.cle.dp1.run.any fun r => r.ctx = ctx)

/-- One unit of an item as its words; a state word of a running context is left open with its context and address
(R345, R346). -/
def State.itemWords (s : State) (l : Lane) (kind addr k : Nat) : List (Word × Option (Nat × Nat)) :=
  match kind with
  | 1 => [(s.readWord (4 * (bitsOf (BitVec.ofNat 32 addr) 15 0 + k)), none)]
  | 2 =>
    let c := addr / 4096 % 256
    let x := bitsOf (memRd l.cle.descs (8 * c + 2)) 14 0 + addr % 4096 + k
    [(memRd l.cle.data x, if l.running c then some (c, x) else none)]
  | 3 =>
    let c := l.meas.chans.getD (addr % 128 + k) Chan.reset
    [(c.latch, none), (c.latchFlags.setWidth 32, none)]
  | 4 => [(l.regs.get (ASC_S_ANGLE ((addr + k) % 4)), none), (l.regs.get (ASC_S_INC ((addr + k) % 4)), none)]
  | 5 => (List.range 6).map fun a => (BitVec.ofInt 32 ((l.traj.getD (addr % 4 + k) TrajUnit.reset).axes.getD a 0), none)
  | _ => []

/-- A snapshot of a set from a lane at the present tick (R346, R347). -/
def State.takeSnap (s : State) (i : LaneId) (set : Nat) (late sched : Bool) : Snapshot × State :=
  let items := s.snapItems set
  let cells := items.flatMap fun x => (List.range x.2.1).flatMap fun k => s.itemWords (s.lane i) x.1 x.2.2 k
  let holes := (cells.mapIdx fun n c => (n, c.2)).filterMap fun p => p.2.map fun x => (p.1, x.1, x.2)
  let n := s.host.snapSeq.getD set 0
  ({ set := set, tally := s.mod.tally, sec := s.clock.sec.toNat % 2 ^ 32, ns := s.clock.ns,
     flags := b2n late + 2 * b2n sched + 4 * LaneId.num i + 8 * b2n s.noTime, items := items.length, seq := n,
     words := cells.map fun c => c.1, holes := holes },
   s.modHost fun h => { h with snapSeq := h.snapSeq.set set ((n + 1) % 2 ^ 32) })

/-- A snapshot as its bytes (R347). -/
def Snapshot.bytes (x : Snapshot) : List Byte :=
  leBytes 8 x.tally.toNat ++ leBytes 4 x.sec ++ leBytes 4 x.ns ++ leBytes 1 x.set ++ leBytes 1 x.flags ++
  leBytes 2 x.items ++ leBytes 4 (32 + 4 * x.words.length) ++ leBytes 4 x.seq ++ leBytes 4 0 ++ x.words.flatMap bytesOf

/-- A scheduled snapshot is complete: the Sluice holds it as the set's latest, and with STREAM it goes to ring 3 (R348). -/
def State.keepSnap (s : State) (x : Snapshot) : State :=
  let s := s.modHost fun h => { h with snaps := h.snaps.set x.set (some x) }
  if s.on (HQ_SNAP_CFG_STREAM x.set) then
    s.strAdd 3 { type := 2, source := x.set, tally := x.tally, payload := x.bytes }
  else s

/-- A scheduled snapshot of a lane is kept, or waits for the words of contexts that run (R346, R348). -/
def State.placeSnap (s : State) (i : LaneId) (x : Snapshot) : State :=
  if x.holes.isEmpty then s.keepSnap x
  else s.modHost fun h => { h with snapWait := h.snapWait ++ [{ snap := x, lane := i, cmd := none }] }

/-- A scheduled snapshot of the active lane; in HOLD each lane's is withheld, and SEQ counts neither yet (R259, R346, R347). -/
def State.schedSnap (s : State) (i : LaneId) (set : Nat) (late : Bool) : State :=
  let r := s.takeSnap i set late true
  if s.hold then s.modDuplex fun d => { d with withheld := d.withheld ++ [(i, .snapshot r.1)] }
  else if s.active ≠ i then s
  else r.2.placeSnap i r.1

/-- A withheld snapshot of the lane that is active is released: it takes its place in the set's SEQ (R259, R347). -/
def State.releaseSnap (s : State) (x : Snapshot) : State :=
  let n := s.host.snapSeq.getD x.set 0
  (s.modHost fun h => { h with snapSeq := h.snapSeq.set x.set ((n + 1) % 2 ^ 32) }).placeSnap s.active { x with seq := n }

/-- The words that wait for a context's END are read (R346). -/
def Snapshot.fill (x : Snapshot) (l : Lane) (ctx : Nat) : Snapshot :=
  let now := x.holes.filter fun h => h.2.1 = ctx
  { x with words := now.foldl (fun w h => w.set h.1 (memRd l.cle.data h.2.2)) x.words,
           holes := x.holes.filter fun h => h.2.1 ≠ ctx }

/-- A withheld snapshot of a lane reads the words that wait for a context's END (R259, R346). -/
def Withheld.fill (w : Withheld) (l : Lane) (ctx : Nat) : Withheld :=
  match w with
  | .snapshot x => .snapshot (x.fill l ctx)
  | _ => w

/-- At the END of a context's run in a lane, waiting snapshots of that lane read its words, withheld ones too; scheduled ones
that are then complete are kept (R259, R346, R348). -/
def State.fillSnaps (s : State) (i : LaneId) (ctx : Nat) : State :=
  let s := s.modDuplex fun d =>
    { d with withheld := d.withheld.map fun w => if w.1 = i then (w.1, w.2.fill (s.lane i) ctx) else w }
  let ws := s.host.snapWait.map fun w => if w.lane = i then { w with snap := w.snap.fill (s.lane i) ctx } else w
  let done := ws.filter fun w => w.snap.holes.isEmpty && w.cmd.isNone
  let s := s.modHost fun h =>
    { h with snapWait := ws.filter fun w => !(w.snap.holes.isEmpty && w.cmd.isNone) }
  done.foldl (fun s w => s.keepSnap w.snap) s

end Sys2Proof.Machine
end

