-- ==== Sys2Proof/Machine/Recorder.lean ====
section
/-! DEFINITION. The disturbance recorder (R374 to R384), Rake (R385, R386), test-signal injection (R387 to R389), and the
journal's commits and firmware records (R390 to R394). Every lane runs its own recorder; the Sluice streams the active
lane's records (R383). -/
namespace Sys2Proof.Machine

/-! ### Streams (R350, R383, R259) -/

/-- A record of a lane goes to its ring from the active lane only, and is withheld in HOLD (R259, R383). -/
def State.recStream (s : State) (i : LaneId) (ring : Nat) (r : StrRec) : State :=
  if s.hold then s.modDuplex fun d => { d with withheld := d.withheld ++ [(i, .record ring r)] }
  else if s.active = i then s.strAdd ring r
  else s

/-- A list cut into pieces of n. -/
def chunksOf {α : Type} (n : Nat) : Nat → List α → List (List α)
  | 0, _ => []
  | _, [] => []
  | fuel + 1, l => l.take n :: chunksOf n fuel (l.drop n)

/-- Bits packed into bytes, the earliest in bit 0. -/
def packBits : List Bool → Nat → Nat → List Byte
  | [], 0, _ => []
  | [], _, acc => [BitVec.ofNat 8 acc]
  | b :: t, 7, acc => BitVec.ofNat 8 (acc + 128 * b2n b) :: packBits t 0 0
  | b :: t, k, acc => packBits t (k + 1) (acc + 2 ^ k * b2n b)

/-- Samples as a data record stores them (R374). -/
def packSamples (kind : Nat) (l : List Sample) : List Byte :=
  match kind with
  | 0 => l.flatMap fun x => leBytes 2 x.val.toNat
  | 2 => packBits (l.map fun x => x.val.getLsbD 0) 0 0
  | _ => l.flatMap fun x => bytesOf x.val

/-- Samples that a data record of 4,064 bytes holds (R382). -/
def recordRoom (kind : Nat) : Nat := match kind with | 0 => 2032 | 2 => 32512 | _ => 1016

/-- A data record of a slot, TYPE 0x0011 or 0x0012; `first` is the index of its first sample (R382). -/
def dataRecord (type seq slot kind : Nat) (first : Int) (l : List Sample) : StrRec :=
  let x := l.headD { tick := 0, tally := 0, off := 0, val := 0, late := false }
  { type := type, source := slot, tally := x.tally,
    payload := leBytes 4 seq ++ [BitVec.ofNat 8 slot, BitVec.ofNat 8 kind] ++ leBytes 2 l.length ++
      bytesOf (BitVec.ofInt 32 first) ++ leBytes 4 x.off ++ packSamples kind l }

/-- The data records of consecutive samples of a slot. -/
def dataRecords (type seq slot kind : Nat) (first : Int) (l : List Sample) : List StrRec :=
  (chunksOf (recordRoom kind) l.length l).mapIdx fun j c => dataRecord type seq slot kind (first + j * recordRoom kind) c

/-! ### Trigger units (R376 to R378) -/

/-- frac of a crossing of a level between two samples, to the nearest, 0–255 (R377). -/
def crossFrac (level x0 x1 : Int) : Nat :=
  min 255 ((512 * (level - x0).natAbs + (x1 - x0).natAbs) / (2 * max 1 (x1 - x0).natAbs))

/-- A unit takes a sample: its new state, and where it fires the crossed level, or none where the sample itself is the
trigger point (R376). -/
def trigStep (type : Nat) (dir : Bool) (hi lo : Int) (t1 t2 : Nat) (u : TrigUnit) (x : Int) : TrigUnit × Option (Option Int) :=
  let inside := fun (y : Int) => if dir then decide (y < lo) else decide (hi < y)
  let level := if dir then lo else hi
  let next := fun (v : TrigUnit) => { v with prev := some x, hist := (x :: v.hist).take 255 }
  match u.prev with
  | none =>
    (next { u with run := 1, armed := type = 2 && (if dir then decide (hi < x) else decide (x < lo)) },
      if type = 6 && t1 = 1 then some none else none)
  | some y =>
    let enter := inside x && !inside y
    let leave := !inside x && inside y
    match type with
    | 1 => (next u, if enter then some (some level) else none)
    | 2 =>
      let far := if dir then decide (hi < x) else decide (x < lo)
      (next { u with armed := far || (u.armed && !enter) }, if enter && u.armed then some (some level) else none)
    | 3 =>
      (next { u with run := (if enter then 1 else u.run + 1), armed := enter || (u.armed && inside x) },
        if leave && u.armed && t1 ≤ u.run && u.run ≤ t2 then some (some level) else none)
    | 4 =>
      let past := inside x && (if enter then t2 = 0 else u.armed && u.run = t2)
      (next { u with run := (if enter then 1 else u.run + 1), armed := (enter || (u.armed && inside x)) && !past },
        if leave && u.armed && u.run < t1 then some (some level) else if past then some none else none)
    | 5 =>
      let start := if dir then decide (hi ≤ y) && decide (x < hi) else decide (y ≤ lo) && decide (lo < x)
      let reach := if dir then decide (x ≤ lo) else decide (hi ≤ x)
      let back := if dir then decide (hi < x) else decide (x < lo)
      (next { u with armed := (start || u.armed) && !reach && !back },
        if u.armed && back then some (some (if dir then hi else lo)) else none)
    | 6 =>
      let cross := decide (level < x) != decide (level < y)
      let run := if cross then 1 else u.run + 1
      (next { u with run := run }, if run = t1 then some none else none)
    | 7 =>
      let far := u.hist[t1 - 1]?.any fun z => hi < ((x - z).natAbs : Int)
      (next u, if 0 < t1 && far then some none else none)
    | _ => (next u, none)

/-- The tick after the last boundary of a lane. -/
def State.frameOff (s : State) (i : LaneId) : Nat := s.now - (s.lane i).asc.frameTick

/-- The trigger point of a firing: at a crossing between the previous sample and this one, else at this one (R377). -/
def State.trigPoint (s : State) (i : LaneId) (u : TrigUnit) (x : Int) (level : Option Int) : TrigPoint :=
  match level, u.prev with
  | some l, some y =>
    let frac := crossFrac l y x
    let d := (s.now - u.prevAt) * frac / 256
    let past := decide ((s.now - u.prevAt) * frac % 256 ≠ 0)
    if s.frameOff i + u.prevAt + d < s.now then
      { frac := frac, tick := u.prevAt + d, past := past, tally := s.mod.tally - 1, off := u.prevOff + d }
    else { frac := frac, tick := u.prevAt + d, past := past, tally := s.mod.tally, off := u.prevAt + d + s.frameOff i - s.now }
  | _, _ => { frac := 0, tick := s.now, past := false, tally := s.mod.tally, off := s.frameOff i }

/-- The angle qualifier of a unit: without ANG_EN always, else while the front of its source lies in the window (R378). -/
def Lane.inWindow (l : Lane) (u : Nat) : Bool :=
  let front := ((l.src (l.rd (REC_TRIG_CFG_ANG_SRC u))).front).toNat
  let lo := l.rd (REC_TRIG_ANG_A_LO u) * 65536
  let hi := l.rd (REC_TRIG_ANG_A_HI u) * 65536
  !l.on (REC_TRIG_CFG_ANG_EN u) || (if hi < lo then lo ≤ front || front ≤ hi else lo ≤ front && front ≤ hi)

/-- The units of a lane that watch a source take a sample of it; a firing within the angle window waits for its row (R376,
R378). -/
def State.watch (s : State) (i : LaneId) (kind index : Nat) (x : Int) : State :=
  let l := s.lane i
  let step (n : Nat) (u : TrigUnit) : TrigUnit :=
    if l.rd (REC_TRIG_CFG_TYPE n) = 0 || l.rd (REC_TRIG_CFG_SRC_KIND n) ≠ kind || l.rd (REC_TRIG_CFG_INDEX n) ≠ index then u
    else
      let y := trigStep (l.rd (REC_TRIG_CFG_TYPE n)) (l.on (REC_TRIG_CFG_DIR n)) (signed 16 (l.rd (REC_TRIG_LVL_HI n)))
        (signed 16 (l.rd (REC_TRIG_LVL_LO n))) (l.rd (REC_TRIG_T1_T1 n)) (l.rd (REC_TRIG_CFG_T2 n)) u x
      let due := match y.2 with
        | some level => if l.inWindow n then some (s.trigPoint i u x level) else u.due
        | none => u.due
      { y.1 with prevAt := s.now, prevOff := s.frameOff i, due := due }
  s.modLane i fun l => l.modRec fun r => { r with units := r.units.mapIdx step }

/-- Sync lines that have changed fire the EDGE units that watch them: DIR 0 on a rise, DIR 1 on a fall (R376). -/
def State.syncWatch (s : State) (i : LaneId) (old : Lane) : State :=
  let lvl := fun (l : Lane) (n : Nat) => (l.asc.sync.getD n { level := false, until_ := none }).level
  let l := s.lane i
  let step (n : Nat) (u : TrigUnit) : TrigUnit :=
    let line := l.rd (REC_TRIG_CFG_INDEX n)
    if l.rd (REC_TRIG_CFG_TYPE n) = 2 && l.rd (REC_TRIG_CFG_SRC_KIND n) = 4 && lvl old line ≠ lvl l line &&
      lvl l line ≠ l.on (REC_TRIG_CFG_DIR n) && l.inWindow n then
      { u with due := some { frac := 0, tick := s.now, past := false, tally := s.mod.tally, off := s.frameOff i } }
    else u
  s.modLane i fun l => l.modRec fun r => { r with units := r.units.mapIdx step }

/-! ### Slots and captures (R374, R375, R379 to R382) -/

/-- The lane's recorder state: 0 IDLE, 1 FILLING, 2 ARMED, 3 POST, 4 DRAINING, 5 WAIT_SPACE. -/
def Lane.recSt (l : Lane) : Nat := l.rd REC_STAT_STATE
/-- The lane's recorder enters a state. -/
def State.setRec (s : State) (i : LaneId) (st : Nat) : State := s.modLane i fun l => l.wr REC_STAT_STATE st

/-- A slot keeps a sample: in CONT a full record streams at once, and before a trigger only PRE is kept (R379, R382). -/
def State.slotSample (s : State) (i : LaneId) (n kind : Nat) (x : Sample) : State :=
  let l := s.lane i
  let old := l.rec_.slots.getD n []
  if l.on REC_CFG_MODE then
    if recordRoom kind ≤ old.length + 1 then
      let first := l.rec_.contIdx.getD n 0
      let s := s.modLane i fun l => l.modRec fun r =>
        { r with slots := r.slots.set n [], contIdx := r.contIdx.set n (first + old.length + 1) }
      s.recStream i 0 (dataRecord 0x12 0 n kind first (x :: old).reverse)
    else s.modLane i fun l => l.modRec fun r => { r with slots := r.slots.set n (x :: old) }
  else
    let keep := if l.recSt = 3 then old else old.takeWhile fun y => s.now ≤ y.tick + 4000 * l.rd REC_WIN_PRE
    s.modLane i fun l => l.modRec fun r => { r with slots := r.slots.set n (x :: keep) }

/-- A sample of a source reaches the trigger units and the slots of a lane that take it (R374, R376). -/
def State.recSample (s : State) (i : LaneId) (kind index : Nat) (val : Word) (late : Bool) : State :=
  let s := if kind = 0 then s.watch i 0 index (signed 16 val.toNat)
    else if kind = 2 then s
    else s.watch i kind index (signed 16 (bitsOf val 31 16))
  let l := s.lane i
  if l.recSt = 1 || l.recSt = 2 || l.recSt = 3 then
    let x : Sample := { tick := s.now, tally := s.mod.tally, off := s.frameOff i, val := val, late := late }
    (numsWhere 32 fun n => l.on (REC_SLOT_CFG_EN n) && l.rd (REC_SLOT_CFG_KIND n) = kind &&
      l.rd (REC_SLOT_CFG_INDEX n) = index).foldl (fun s n => s.slotSample i n kind x) s
  else s

/-- Ticks between the store words of a slot at the highest rate that the configuration permits (R375): conversions at
5 MS/s, 10 MS/s with PAIR; outputs by decimation, with SCS one a frame; modulator bits by their clock; nodes by the frame. -/
def Lane.wordTicks (l : Lane) (n : Nat) : Nat :=
  let k := l.rd (REC_SLOT_CFG_INDEX n)
  let clk := l.rd (MEAS_CH_CFG_SRC k)
  let frame := if l.rd ASC_FRAME_CFG_FRAME_SRC = 3 then 2 ^ 48 / max 1 (l.asc.nInForce * (l.regs.get (ASC_S_INC 3)).toNat)
    else 12500
  let base :=
    if k < 32 then (if bitAt (l.rd MEAS_CTRL_LP_MASK) (l.rd (MEAS_CH_CFG_SRC k)) then 400
      else if l.on (MEAS_CH_CFG_PAIR k) then 40 else 80)
    else match l.rd (MEAS_SDCLK_CFG_MODE clk) with
      | 1 => max 16 (l.rd (MEAS_SDCLK_CFG_DIV clk))
      | 2 => max 16 (frame / max 1 (l.rd (MEAS_SDCLK_CFG_BITS_PER_FRAME clk)))
      | _ => 16
  match l.rd (REC_SLOT_CFG_KIND n) with
  | 0 => 2 * base
  | 1 => if l.on (MEAS_CH_CFG_SCS k) then frame else base * (l.rd (MEAS_CH_DEC_DEC_M1 k) + 1) * (if l.rd (MEAS_CH_CFG_FIR k) = 0 then 1 else 8)
  | 2 => 32 * base
  | _ => frame

/-- The window size in bytes (R375). -/
def Lane.windowSize (l : Lane) : Nat :=
  let ticks := 4000 * (l.rd REC_WIN_PRE + l.rd REC_WIN_POST)
  (numsWhere 32 fun n => l.on (REC_SLOT_CFG_EN n)).foldl (fun a n => a + 4 * (ticks / max 1 (l.wordTicks n))) 0

/-- The store has room for a whole window (R381). -/
def Lane.roomForWindow (l : Lane) : Bool := l.rec_.stored.foldl (fun a x => a + x.2.2) 0 + l.windowSize ≤ 2 ^ 23

/-- The recorder of a lane is armed: FILLING, with its pre-trigger count at 0 (R379). -/
def State.recFill (s : State) (i : LaneId) : State :=
  (s.modLane i fun l => l.modRec fun r =>
    { r with armedAt := s.now, cap := none, stopping := false, slots := List.replicate 32 [],
             contIdx := List.replicate 32 0 }).setRec i 1

/-- A trigger becomes the capture's: CAP_SEQ, POST, the event, and under g2 the pulse on the group bus (R379, R384, R438). -/
def State.recTake (s : State) (i : LaneId) (unit : Nat) (pt : TrigPoint) : State :=
  let l := s.lane i
  let role := s.rd GRP_STAT_ROLE
  let send := l.on REC_CFG_GRP_OUT && unit < 16 && (role = 1 || role = 2) && 0x20 ≤ s.rd GRP_STAT_VER
  let s := s.modLane i fun l => l.modRec fun r =>
    { r with capSeq := r.capSeq + 1, cap := some { seq := r.capSeq + 1, unit := unit, point := pt, sent := send } }
  let s := (s.setRec i 3).raiseFromOpen i 51
  if send && s.active = i then s.modGrp fun g => { g with sent := .trig (s.rd GRP_STAT_ID) :: g.sent } else s

/-- TRIGGER_UNIT_FIRE: a unit fires. Its trigger point is the one its samples show, or else lies here with the fraction
given. With ANG_EN it fires only inside its angle window. The first firing in ARMED of a unit in TRIG_MASK becomes the
capture's trigger; every other is ignored (R376, R378, R379). -/
def execTriggerUnitFire (ln : LaneSel) (u : Nat) (frac : Nat) (s : State) : Host.Outcome State Fault Refusal :=
  .next (s.onLanes ln fun s i =>
    let l := s.lane i
    let due := (l.rec_.units.getD u TrigUnit.reset).due
    let s := s.modLane i fun l => l.modRec fun r => { r with units := updAt r.units u fun x => { x with due := none } }
    if l.rd (REC_TRIG_CFG_TYPE u) = 0 || (due.isNone && !l.inWindow u) then s
    else
      let s := s.modLane i fun l => l.bump (REC_TRIG_STAT_FIRED u)
      if l.recSt = 2 && bitAt (l.rd REC_CFG_TRIG_MASK) u then
        s.recTake i u (due.getD { frac := frac, tick := s.now, past := decide (frac ≠ 0), tally := s.mod.tally, off := s.frameOff i })
      else s.modLane i fun l => l.bump (REC_TRIG_STAT_IGNORED u))

/-- REC_PRE_DONE: PRE has been recorded since the arming (R379). -/
def execRecPreDone (ln : LaneSel) (s : State) : Host.Outcome State Fault Refusal :=
  .next (s.onLanes ln fun s i =>
    let l := s.lane i
    if l.recSt ≠ 1 || l.on REC_CFG_MODE then s
    else (s.passTo (l.rec_.armedAt + 4000 * l.rd REC_WIN_PRE)).setRec i 2)

/-- The records of a closed capture: the head record, then data records in slot order (R382). -/
def Lane.capRecords (l : Lane) (i : LaneId) (c : Capture) (trunc : Bool) : List StrRec :=
  let first := c.point.tick - 4000 * l.rd REC_WIN_PRE
  let last := c.point.tick + 4000 * l.rd REC_WIN_POST
  let on := numsWhere 32 fun n => l.on (REC_SLOT_CFG_EN n)
  let window := fun (n : Nat) => (l.rec_.slots.getD n []).reverse.filter fun x => first ≤ x.tick && x.tick ≤ last
  let late := on.any fun n => (window n).any (·.late)
  let flags := b2n trunc + 2 * b2n late + 4 * LaneId.num i + 8 * b2n c.sent
  let head : StrRec :=
    { type := 0x10, source := 0, tally := c.point.tally,
      payload := leBytes 4 c.seq ++ [BitVec.ofNat 8 c.unit, BitVec.ofNat 8 flags] ++ leBytes 2 c.point.frac ++
        leBytes 8 c.point.tally.toNat ++ leBytes 4 c.point.off ++
        leBytes 4 (on.foldl (fun a n => a + 2 ^ n) 0) ++ leBytes 4 (l.rd REC_WIN_PRE) ++ leBytes 4 (l.rd REC_WIN_POST) ++
        leBytes 16 0 }
  head :: on.flatMap fun n =>
    let w := window n
    dataRecords 0x11 c.seq n (l.rd (REC_SLOT_CFG_KIND n)) (-((w.filter fun x => x.tick < c.point.tick + b2n c.point.past).length : Int)) w

/-- A capture closes: CAPTURES, its records, its place in the store, and DRAINING; with REPEAT the recorder re-arms at once
where a whole window has room, else it waits for space (R379 to R382). -/
def State.recClose (s : State) (i : LaneId) (trunc : Bool) : State :=
  let l := s.lane i
  match l.rec_.cap with
  | none => s
  | some c =>
    let rs := l.capRecords i c trunc
    let s := s.modLane i fun l => (l.bump REC_STAT_CAPTURES).modRec fun r =>
      { r with cap := none, slots := List.replicate 32 [],
               stored := r.stored ++ [(c.seq, c.point.tally, rs.foldl (fun n x => n + x.bytes) 0)] }
    let s := rs.foldl (fun s r => s.recStream i 0 r) s
    if l.on REC_CFG_REPEAT && !trunc then (if (s.lane i).roomForWindow then s.recFill i else s.setRec i 5) else s.setRec i 4

/-- REC_POST_DONE: POST has been recorded since the trigger point (R379). -/
def execRecPostDone (ln : LaneSel) (s : State) : Host.Outcome State Fault Refusal :=
  .next (s.onLanes ln fun s i =>
    match (s.lane i).rec_.cap with
    | none => s
    | some c => (s.passTo (c.point.tick + 4000 * (s.lane i).rd REC_WIN_POST)).recClose i false)

/-- A record belongs to a capture. -/
def StrRec.ofCap (r : StrRec) (seq : Nat) : Bool := (r.type = 0x10 || r.type = 0x11) && ofLe (r.payload.take 4) = seq

/-- The Sluice still holds records of a lane's capture that ring 0 has not taken. -/
def State.capLeft (s : State) (i : LaneId) (seq : Nat) : Bool :=
  (s.host.rings.getD 0 StrRing.reset).store.any (fun r => r.ofCap seq) ||
    s.duplex.withheld.any fun w => w.1 = i && (match w.2 with
      | .record _ r => r.ofCap seq
      | _ => false)

/-- Records of a CONT recording that ring 0 has not taken (R380). -/
def State.contLeft (s : State) (i : LaneId) : Bool :=
  (s.host.rings.getD 0 StrRing.reset).store.any (fun r => r.type = 0x12) ||
    s.duplex.withheld.any fun w => w.1 = i && (match w.2 with
      | .record _ r => r.type = 0x12
      | _ => false)

/-- REC_DRAINED: ring 0 has taken all records of the oldest stored capture; REC_DONE, and IDLE where nothing is left (R379
to R381). -/
def execRecDrained (ln : LaneSel) (s : State) : Host.Outcome State Fault Refusal :=
  .next (s.onLanes ln fun s i =>
    let l := s.lane i
    match l.rec_.stored with
    | [] => if l.recSt = 4 && !s.contLeft i then s.setRec i 0 else s
    | c :: rest =>
      if s.capLeft i c.1 then s
      else
        let s := (s.modLane i fun l => l.modRec fun r => { r with stored := rest }).raiseFromOpen i 52
        if l.recSt = 4 && rest.isEmpty && !s.contLeft i then s.setRec i 0 else s)

/-- WAIT_SPACE: the store has room for a whole window again, and the recorder re-arms (R379, R381). -/
def execWaitSpace (ln : LaneSel) (s : State) : Host.Outcome State Fault Refusal :=
  .next (s.onLanes ln fun s i => if (s.lane i).recSt = 5 && (s.lane i).roomForWindow then s.recFill i else s)

/-- REC_STOP takes effect in a lane (R380). -/
def State.recStop (s : State) (i : LaneId) : State :=
  let l := s.lane i
  let wind := fun (s : State) =>
    (s.modLane i fun l => l.modRec fun r => { r with stopping := true, slots := List.replicate 32 [] }).setRec i
      (if (s.lane i).rec_.stored.isEmpty && !s.contLeft i then 0 else 4)
  match l.recSt with
  | 0 => s
  | 3 => s.recClose i true
  | 1 =>
    if l.on REC_CFG_MODE then
      wind ((List.range 32).foldl (fun s n =>
        let x := (s.lane i).rec_.slots.getD n []
        if x.isEmpty then s
        else s.recStream i 0 (dataRecord 0x12 0 n (l.rd (REC_SLOT_CFG_KIND n)) (l.rec_.contIdx.getD n 0) x.reverse)) s)
    else wind s
  | _ => wind s

/-- The active lane is retired: a capture partly streamed goes on from the survivor where that holds it, else its remaining
records are replaced by one GAP record (R383). -/
def State.recRetire (s : State) (i : LaneId) : State :=
  if s.active ≠ i then s
  else
    let mine := (s.lane i).rec_.stored
    let other := (s.lane (LaneId.other i)).rec_.stored
    let keep := fun (r : StrRec) =>
      let seq := ofLe (r.payload.take 4)
      !r.ofCap seq || other.any fun x => x.1 = seq && mine.all fun y => y.1 ≠ seq || y.2.1 = x.2.1
    s.modHost fun h => { h with rings := updAt h.rings 0 fun x =>
      let gone := x.store.filter fun r => !keep r
      match gone with
      | [] => x
      | r :: _ =>
        let l := x.lost.getD { first := r.tally, last := r.tally, recs := 0, bytes := 0 }
        { x with store := x.store.filter keep,
                 lost := some { l with last := (gone.getLast?.getD r).tally, recs := l.recs + gone.length,
                                       bytes := gone.foldl (fun n r => n + r.bytes) l.bytes } } }

/-- Registers taken from another file at the offsets of a test. -/
def RegFile.take (f src : RegFile) (p : Nat → Bool) : RegFile :=
  (src.filter fun x => p x.1).foldl (fun a x => memPut a x.1 x.2) (f.filter fun x => !p x.1)

/-- A lane that has become SHADOW takes the recorder and Rake of the active lane, with its pre-trigger count at 0: it is not
ARMED before PRE has passed (R379, R383). -/
def State.recAdopt (s : State) (i : LaneId) : State :=
  let act := s.lane s.active
  s.modLane i fun l =>
    let l : Lane := { l with regs := RegFile.take l.regs act.regs fun off => 0x3A000 ≤ off && off < 0x3E000 }
    let l := if act.recSt = 2 then l.wr REC_STAT_STATE 1 else l
    { l with rec_ := { act.rec_ with armedAt := s.now, slots := List.replicate 32 [], units := l.rec_.units } }

/-! ### Rake (R385, R386) -/

/-- The probes of a mask, ascending. -/
def maskBits (m : DWord) : List Nat := numsWhere 64 fun n => m.getLsbD n

/-- The rows taken since the last record go out as one record, TYPE 0x0020 (R385). -/
def State.rakeFlush (s : State) (i : LaneId) : State :=
  let r := (s.lane i).rec_
  match r.rakeRows with
  | [] => s
  | x :: _ =>
    let rec_ : StrRec :=
      { type := 0x20, source := 0, tally := x.1,
        payload := leBytes 8 r.rakeMask.toNat ++ leBytes 2 r.rakeDec ++ leBytes 2 r.rakeRows.length ++ leBytes 4 0 ++
          r.rakeRows.flatMap fun y => y.2.flatMap bytesOf }
    (s.modLane i fun l => l.modRec fun r => { r with rakeRows := [] }).recStream i 1 rec_

/-- Rake starts at a commit boundary with the committed mask and DEC, or stops (R386). -/
def State.rakeStart (s : State) (i : LaneId) (frames : Word) : State :=
  let l := s.lane i
  if frames = 0xFFFFFFFF then
    if l.on RAKE_STAT_RUN then ((s.rakeFlush i).modLane i fun l => l.wr RAKE_STAT_RUN 0).raiseFrom i 53 1 else s
  else
    (s.rakeFlush i).modLane i fun l =>
      (l.wr RAKE_STAT_RUN 1).modRec fun r =>
        { r with rakeFrames := frames, rakeStart := s.mod.tally, rakeDec := l.rd RAKE_CFG_DEC + 1,
                 rakeMask := (l.regs.get RAKE_MASK1 ++ l.regs.get RAKE_MASK0 : BitVec 64) }

/-- Frames of the running trace at the present boundary. -/
def State.rakeCount (s : State) (i : LaneId) : Nat := (s.mod.tally - (s.lane i).rec_.rakeStart).toNat

/-- Rake at a frame boundary: a row in every DEC-th frame, until FRAMES frames have passed (R385, R386). -/
def State.rakeBoundary (s : State) (i : LaneId) : State :=
  let l := s.lane i
  let r := l.rec_
  let k := s.rakeCount i
  if !l.on RAKE_STAT_RUN || k = 0 || k % r.rakeDec ≠ 0 || (r.rakeFrames ≠ 0 && r.rakeFrames.toNat < k) then s
  else
    let probes := maskBits r.rakeMask
    let stale := probes.any fun p => !l.cle.probeFresh.contains p
    let inj := r.inject.any fun x => x.any fun j => j.over_.isNone
    let row := BitVec.ofNat 32 (s.mod.tally.toNat % 65536 + 65536 * b2n inj + 131072 * b2n stale) ::
      probes.map (memRd l.cle.probes)
    let s := if 4096 < 32 + 4 * row.length * (r.rakeRows.length + 1) then s.rakeFlush i else s
    s.modLane i fun l =>
      { (l.modRec fun r => { r with rakeRows := r.rakeRows ++ [(s.mod.tally, row)] }) with
        cle := { l.cle with probeFresh := [] } }

/-- RAKE_FRAMES_DONE: FRAMES frames have passed; the last row goes out and the event RAKE is raised (R386). -/
def execRakeFramesDone (ln : LaneSel) (s : State) : Host.Outcome State Fault Refusal :=
  .next (s.onLanes ln fun s i =>
    let l := s.lane i
    if !l.on RAKE_STAT_RUN || l.rec_.rakeFrames = 0 || s.rakeCount i < l.rec_.rakeFrames.toNat then s
    else ((s.rakeFlush i).modLane i fun l => l.wr RAKE_STAT_RUN 0).raiseFrom i 53 1)

/-! ### Injection (R387 to R389) -/

/-- The feedback taps of a PRBS order (R388). -/
def prbsTaps (order : Nat) : List Nat :=
  match order with
  | 7 => [7, 6] | 8 => [8, 6, 5, 4] | 9 => [9, 5] | 10 => [10, 7] | 11 => [11, 9] | 12 => [12, 11, 10, 4]
  | 13 => [13, 12, 11, 8] | 14 => [14, 13, 12, 2] | 15 => [15, 14] | 16 => [16, 15, 13, 4] | 17 => [17, 14]
  | 18 => [18, 11] | 19 => [19, 18, 17, 14] | 20 => [20, 17] | 21 => [21, 19] | 22 => [22, 21] | 23 => [23, 18]
  | _ => []

/-- One step of the Fibonacci register: stage n is bit n − 1, and the taps' parity enters stage 1 (R388). -/
def prbsStep (order v : Nat) : Nat :=
  let fb := (prbsTaps order).foldl (fun a t => a + b2n (bitAt v (t - 1))) 0 % 2
  (2 * v + fb) % 2 ^ order

/-- The lines of the multisine table in use: A, h and ph of each with A ≠ 0 (R388). -/
def Lane.multisine (l : Lane) : List (Int × Nat × Nat) :=
  ((List.range 64).map fun n =>
    (signed 32 (l.rd (RAKE_MS_LINE0_A n)), l.rd (RAKE_MS_LINE1_H n), l.rd (RAKE_MS_LINE1_PH n))).filter fun x => x.1 ≠ 0

/-- A value given in units of 2^-60 LSB, to within 4 LSB for each sine it sums: the spec does not fix how phase and products are
rounded (log 13). `key` names what the choice may depend on. -/
def roundOpen (key : List Nat) (k n : Nat) (x : Int) : Int :=
  x / (2 ^ 60 : Nat) - 4 * n + (Config.injectRound key k % (8 * n + 2) : Nat)

/-- The phase of a linear CHIRP in frame k, in 2^-32 turns, rounded down: the sum of F0 + (F1 − F0) j / FRAMES over the frames j
before it (R388). -/
def chirpPhase (b : InjBody) (k : Nat) : Int :=
  k * b.f0.toNat + ((b.f1.toNat : Int) - b.f0.toNat) * (k * (k - 1) : Nat) / (2 * b.frames.toNat : Nat)

/-- The frequency of an exponential CHIRP in frame k: F0 in frame 0, and between F0 and F1 after it; its value there needs a root
whose precision the spec does not state (log 13). -/
def chirpFreq (b : InjBody) (k : Nat) : Nat :=
  let lo := min b.f0.toNat b.f1.toNat
  if k = 0 then b.f0.toNat
  else lo + Config.chirpStep b.f0.toNat b.f1.toNat b.frames.toNat k % (max b.f0.toNat b.f1.toNat - lo + 1)

/-- u_k of an injection, and whether it was held to ±AMP (R388). The output bit of a PRBS is its last stage. -/
def Lane.injectVal (l : Lane) (b : InjBody) (lfsr phase k : Nat) : Word × Bool :=
  let amp : Int := b.amp.toNat
  match b.kind with
  | 1 => (BitVec.ofInt 32 (if bitAt lfsr (b.order - 1) then amp else -amp), false)
  | 2 =>
    let ph := if b.log then BitVec.ofNat 32 phase else BitVec.ofInt 32 (chirpPhase b k)
    let v := roundOpen [2, b.amp.toNat, b.f0.toNat, b.f1.toNat, b.frames.toNat, b2n b.log] k 1 (amp * sinBt ph)
    (BitVec.ofInt 32 (clampI v (-amp) amp), false)
  | _ =>
    let ms := l.multisine
    let sine := fun (x : Int × Nat × Nat) => x.1 * sinBt (BitVec.ofNat 32 (x.2.1 * k * 2 ^ 32 / l.rd RAKE_MS_CFG_PERIOD + x.2.2 * 65536))
    let v := roundOpen (3 :: l.rd RAKE_MS_CFG_PERIOD :: ms.flatMap fun x => [x.1.toNat, x.2.1, x.2.2]) k ms.length
      (ms.foldl (fun a x => a + sine x) 0)
    (BitVec.ofInt 32 (clampI v (-amp) amp), decide (clampI v (-amp) amp ≠ v))

/-- The fields of an INJECT_START lie in their ranges (R387). -/
def State.injectOk (s : State) (b : InjBody) : Bool :=
  let l := s.lane s.active
  b.node < 16 && b.kind ≤ 3 && (b.kind = 0 ||
    (0 < b.amp.toNat && b.amp.toNat ≤ l.rd (RAKE_INJ_LIM_LIM b.node) && 0 < b.frames.toNat &&
      (b.kind ≠ 1 || (7 ≤ b.order && b.order ≤ 23)) &&
      (b.kind ≠ 2 || (b.f0.toNat < 2 ^ 31 && b.f1.toNat < 2 ^ 31)) &&
      (List.range 8).all fun t => !b.thrMask.getLsbD t || s.present t))

/-- A node injects. -/
def Lane.injecting (l : Lane) (n : Nat) : Bool := l.on ⟨RAKE_STAT, n, n⟩

/-- An injection of a lane ends with its event (R389). -/
def State.injectEnd (s : State) (i : LaneId) (n code : Nat) : State :=
  (s.modLane i fun l =>
    (l.wr ⟨RAKE_STAT, n, n⟩ 0).modRec fun r => { r with inject := r.inject.set n none }).raiseFrom i 53 (256 * n + code)

/-- An injection of a node that has ended is reported, if it is not yet. -/
def State.injectReport (s : State) (i : LaneId) (n : Nat) : State :=
  match ((s.lane i).rec_.inject.getD n none).bind (·.over_) with
  | some code => s.injectEnd i n code
  | none => s

/-- INJECT_START takes effect in a lane (R387 to R389). -/
def State.injectStart (s : State) (i : LaneId) (b : InjBody) : State :=
  let s := s.injectReport i b.node
  if b.kind = 0 then (if (s.lane i).injecting b.node then s.injectEnd i b.node 2 else s)
  else
    let l := s.lane i
    let lfsr := 2 ^ b.order - 1
    let v := l.injectVal b lfsr 0 0
    let j : Inject := { body := b, start := s.mod.tally, lfsr := lfsr, phase := 0, value := v.1, over_ := none }
    let s := s.modLane i fun l =>
      ((if v.2 then l.bump RAKE_MS_CFG_CLIP else l).wr ⟨RAKE_STAT, b.node, b.node⟩ 1).modRec fun r =>
        { r with inject := r.inject.set b.node (some j) }
    if b.trace then s.rakeStart i b.frames else s

/-- Why an injection ends at the present boundary: 2 its frames have passed, 3 a fault or a thread that left SWITCHING
(R389). -/
def State.injectOver (s : State) (j : Inject) : Option Nat :=
  let ts := s.maskOrAll j.body.thrMask.toNat
  let fault := s.faults.classL || s.on SLC_FAULT_MOD_B_ACTIVE || ts.any fun t => s.on (SLC_THR_FAULT_B_ACTIVE t)
  if fault || ts.any fun t => s.thread t ≠ 2 then some 3
  else if j.body.frames.toNat ≤ (s.mod.tally - j.start).toNat then some 2
  else none

/-- The injections of a lane at a frame boundary: the next value, or none from here on (R388, R389). -/
def State.injectBoundary (s : State) (i : LaneId) : State :=
  (List.range 16).foldl (fun s n =>
    let l := s.lane i
    match l.rec_.inject.getD n none with
    | none => s
    | some j =>
      if j.over_.isSome then s
      else
        let put := fun (l : Lane) (x : Inject) => l.modRec fun r => { r with inject := r.inject.set n (some x) }
        match s.injectOver j with
        | some code => s.setLane i ((put l { j with over_ := some code, value := 0 }).wr ⟨RAKE_STAT, n, n⟩ 0)
        | none =>
          let k := (s.mod.tally - j.start).toNat
          let lfsr := if k % (j.body.hold + 1) = 0 then prbsStep j.body.order j.lfsr else j.lfsr
          let phase := (j.phase + chirpFreq j.body (k - 1)) % 2 ^ 32
          let v := l.injectVal j.body lfsr phase k
          let l := if v.2 then l.bump RAKE_MS_CFG_CLIP else l
          s.setLane i (put l { j with lfsr := lfsr, phase := phase, value := v.1 })) s

/-- INJECTION_END: an injection whose end has come is reported (R389). -/
def execInjectionEnd (ln : LaneSel) (n : Nat) (s : State) : Host.Outcome State Fault Refusal :=
  .next (s.onLanes ln fun s i =>
    match (s.lane i).rec_.inject.getD n none with
    | none => s
    | some j =>
      match j.over_, s.injectOver j with
      | none, some code => s.injectEnd i n code
      | _, _ => s.injectReport i n)

/-! ### The journal (R390 to R394) -/

/-- A journal record as its 64 bytes (R390). -/
def JRec.bytes (r : JRec) : List Byte :=
  let b := bytesOf r.seq ++ leBytes 8 r.tally.toNat ++ leBytes 6 r.sec ++ leBytes 4 (r.ns + 2 ^ 30 * b2n r.notime) ++
    [r.source, r.flags] ++ leBytes 2 r.code.toNat ++ leBytes 2 0 ++ r.data
  b ++ bytesOf (crc32c 0xFFFFFFFF b)

/-- JRNL_OLDEST and JRNL_NEWEST follow the store. -/
def State.updJrnl (s : State) : State :=
  let seqOf := fun (r : Option JRec) => (r.map (·.seq)).getD 0
  { s with regs := (s.regs.set JRNL_OLDEST (seqOf s.journal.store.head?)).set JRNL_NEWEST (seqOf s.journal.store.getLast?) }

/-- The oldest queued record is committed: to the store of 16,384, to ring 2 with STREAM, and after EV_CNT commits with the
event JRNL (R390, R391). -/
def State.commitRecord (s : State) (r : JRec) : State :=
  let s := s.modJournal fun j => { j with store := (j.store ++ [r]).drop (j.store.length + 1 - 16384), evCount := j.evCount + 1 }
  let s := if s.on JRNL_CFG_STREAM then s.strAdd 2 { type := 0x30, source := 0, tally := r.tally, payload := r.bytes } else s
  if s.rd JRNL_CFG_EV_CNT ≤ s.journal.evCount then
    (s.modJournal fun j => { j with evCount := 0 }).raise 54 (bitsOf r.seq 15 0)
  else s

/-- The whole queue is committed in sequence order; the Tally goes to MRAM, the Crust header takes the Tally and the PTP
time, and the Crust slots are freed (R40, R390, R393, R394). -/
def State.commitJournal (s : State) : State :=
  let q := s.journal.queue
  let s := (q.foldl State.commitRecord (s.modJournal fun j => { j with queue := [] })).updJrnl
  let s := s.modJournal fun j =>
    { j with crust := { j.crust with slots := [], tally := s.mod.tally, sec := s.clock.sec.toNat, ns := s.clock.ns } }
  (s.modMod fun m => { m with recorded := m.tally }).wr JRNL_STAT_PEND 0

/-- JRNL_FW_CODE: a lane's firmware submits a record; within 5 µs of its last one the write stalls. The Sluice takes it from
the active lane, and from a shadow lane only with SHADOW_FW. In HOLD the records of each lane are withheld, but for those that
SHADOW_FW lets through (R259, R392; DEDUCED, log 51). -/
def execJrnlFwCode (lane : LaneId) (code : BitVec 16) (s : State) : Host.Outcome State Fault Refusal :=
  let s := match (s.lane lane).fwRec with
    | some t => s.passTo (t + 2000)
    | none => s
  let s := s.modLane lane fun l => { l with fwRec := some s.now }
  let data := (List.range 8).flatMap fun k => bytesOf ((s.lane lane).regs.get (JRNL_FW_DATA k))
  let flags := 2 * LaneId.num lane
  .next (if s.active ≠ lane && s.on JRNL_CFG_SHADOW_FW then s.journalAdd 0x0A code.toNat (flags + 4) data
    else if s.hold then s.modDuplex fun d => { d with withheld := d.withheld ++ [(lane, .fwRecord code data)] }
    else if s.active = lane then s.journalAdd 0x0A code.toNat flags data
    else s)

end Sys2Proof.Machine
end

