-- ==== Sys2Proof/Machine/Angle.lean ====
section
/-! DEFINITION. The Angle Scheduler (02): what a frame boundary does to sources and frames (R47 to R58, R67), the crossing
of entries (R51, R52, R63), the dispatch queue (R64), and the sync lines (R61). -/
namespace Sys2Proof.Machine

/-! ### Boundary points (R56) -/

/-- b_k for N frames per turn. -/
def boundaryPt (n k : Nat) : Word := BitVec.ofNat 32 (k * 2 ^ 32 / n)

/-- The boundary point after a boundary point. -/
def nextPoint (n : Nat) (b : Word) : Word := boundaryPt n ((b.toNat * n + 2 ^ 32 - 1) / 2 ^ 32 + 1)

/-- The first boundary point at least F/2 ahead of an angle (R57). -/
def farPoint (n : Nat) (f : Word) : Word :=
  let x := f.toNat * n + 2 ^ 31
  let k := (x + 2 ^ 32 - 1) / 2 ^ 32
  boundaryPt n (if x ≤ k * 2 ^ 32 / n * n then k else k + 1)

/-- The frame source in force: θt while no thread is SWITCHING, else the configured source (R55). -/
def State.frameSrcNow (s : State) (l : Lane) : Nat :=
  if s.anyThread 2 then l.rd ASC_FRAME_CFG_FRAME_SRC else 3

/-- The clamp of R58 on the increment of a configured frame source. -/
def clampInc (n : Nat) (x : Int) : Int :=
  clampI x ((2 ^ 48 + n * 100000 - 1) / (n * 100000) : Nat) (2 ^ 48 / (n * 12500) : Nat)

/-- Whether a load is due for a source; θr in ENC or ENCI mode takes neither steps nor loads (R49). -/
def Lane.loadDue (l : Lane) (n : Nat) : Bool := l.on (ASC_S_LOAD_CTRL_REQ n) && l.srcMode n = 0

/-- The increment last written to a source; before the first boundary, that of its register (R47). -/
def Lane.lastInc (l : Lane) (n : Nat) : Int :=
  match (l.src n).written with
  | some w => w.toInt
  | none => l.incOf n

/-- The increment coming into force for a source before its own clamp: the last written, or with COPY_INC that of
COPY_SRC, after its clamp where that is the frame source. COPY_INC is ignored for θt (R47, R49). Two sources that load from
each other at one boundary leave R49 no first one: the model gives each its own last increment (DESIGN CHOICE, log 25). -/
def Lane.incIn (l : Lane) (fsrc nn : Nat) : Nat → Nat → Int
  | 0, n => l.lastInc n
  | fuel + 1, n =>
    if l.loadDue n && l.on (ASC_S_LOAD_CTRL_COPY n) && l.on (ASC_S_LOAD_CTRL_COPY_INC n) && n ≠ 3 then
      let c := l.rd (ASC_S_LOAD_CTRL_COPY_SRC n)
      let x := if c = n then l.lastInc n else l.incIn fsrc nn fuel c
      if c = fsrc && fsrc ≠ 3 then clampInc nn x else x
    else l.lastInc n

/-- The accumulator of a source after the load and step of the boundary (R49). -/
def Lane.loadStep (l : Lane) (n : Nat) : BitVec 48 :=
  if l.srcMode n ≠ 0 then (l.src n).acc
  else
    let a := if l.loadDue n then
        (if l.on (ASC_S_LOAD_CTRL_COPY n) then (l.src (l.rd (ASC_S_LOAD_CTRL_COPY_SRC n))).acc
         else accOf (l.regs.get (ASC_S_LOAD_VAL n)))
      else (l.src n).acc
    a + accOf (l.regs.get (ASC_S_STEP n))

/-- A load or a step falls on the source at this boundary. -/
def Lane.moved (l : Lane) (n : Nat) : Bool := l.srcMode n = 0 && (l.loadDue n || l.regs.get (ASC_S_STEP n) ≠ 0)

/-- Steps 2 to 4 of R67 for one source: loads and steps, which together with the tick's advance are one movement from the
front at the start of the tick, and the new increment in force; whether it was clamped. `old` is the lane before the step,
whose accumulators the copies read. With `held`, the source is the one that frames and Tally follow in Slack and Doze: its
increment, steps and loads wait for the exit (R41; log 41). -/
def Lane.boundarySrc (old : Lane) (fsrc nn : Nat) (held : Bool) (n : Nat) (l : Lane) : Lane × Bool :=
  if held then (l, false)
  else
    let x := old.incIn fsrc nn 4 n
    let y := if n = fsrc && fsrc ≠ 3 then clampInc nn x else x
    let l := l.modSrc n fun a => { a.set (old.loadStep n) with written := some (BitVec.ofInt 32 x) }
    let l := { l with regs := ((l.regs.set (ASC_S_INC n) (BitVec.ofInt 32 y)).set (ASC_S_STEP n) 0) }
    ({ l with regs := l.regs.wr (ASC_S_LOAD_CTRL_REQ n) 0 }, n = fsrc && fsrc ≠ 3 && x ≠ y)

/-- The schedule entries that a lane's registers hold with some bit of word 1 set. -/
def Lane.entries (l : Lane) : List Nat :=
  l.regs.filterMap fun p =>
    if 0x14000 ≤ p.1 && p.1 < 0x24000 && p.1 % 16 = 4 then some ((p.1 - 0x14000) / 16) else none

/-- OUT_RANGE of a frame-relative entry against N: its offset is not less than floor(2^32/N) (R59). -/
def Lane.outRange (l : Lane) (nn i : Nat) : Lane :=
  l.wr (SCHED_W3_OUT_RANGE i)
    (b2n (l.on (SCHED_W1_FREL i) && 2 ^ 32 / nn ≤ l.rd (SCHED_W0_ANGLE i)))

/-- The enabled frame-relative entries that a short frame of the given length did not fire (R63). -/
def Lane.shortSkips (l : Lane) (len : Nat) : Nat :=
  (l.entries.filter fun i => l.on (SCHED_W1_EN i) && l.on (SCHED_W1_FREL i) && l.rd (SCHED_W3_OUT_RANGE i) = 0 &&
    len ≤ l.rd (SCHED_W0_ANGLE i)).length

/-- The frame that ends, ahead of the boundary's commits, loads and steps: its source, its end, that source's front, and the
entries that a frame shorter than F left out (R63, R67). -/
def Lane.endFrame (l : Lane) : Lane :=
  let f := l.rd ASC_FRAME_STAT_SRC_IN_FORCE
  let len := (l.asc.frameEnd - l.asc.frameStart).toNat
  let l := if len * l.asc.nInForce < 2 ^ 32 then
      l.wr (ASC_S_CNT_SKIP_CNT_SKIP f) (l.rd (ASC_S_CNT_SKIP_CNT_SKIP f) + l.shortSkips len)
    else l
  l.modAsc fun a =>
    { a with prevSrc := f, prevEnd := a.frameEnd, prevStart := a.frameStart, prevTick := a.frameTick,
             prevFront := (l.src f).front }

/-- Steps 2 to 5 of R67 in one lane: loads, steps, increments, movements, and the new frame. `s` is the state after the
commits of the boundary. In Slack and Doze the frames keep the rate of θt in force on entry (R41). -/
def State.boundaryAngles (s : State) (i : LaneId) : State :=
  let old := s.lane i
  let asleep := decide (2 ≤ s.rd PWR_STAT_STATE)
  let nn := if asleep then old.asc.nInForce else old.rd ASC_FRAME_CFG_N
  let fOld := old.rd ASC_FRAME_STAT_SRC_IN_FORCE
  let fNew := s.frameSrcNow old
  let moved := old.moved fNew && !asleep
  let r := (List.range 4).foldl (fun (p : State × Bool) n =>
      let x := Lane.boundarySrc old fNew nn (asleep && n = 3) n (p.1.lane i)
      ((p.1.setLane i x.1).settleSrc i n, p.2 || x.2)) (s, false)
  let irregular := moved || fNew ≠ fOld || nn ≠ old.asc.nInForce || (r.1.lane i).moveNow fNew = .resync
  let s := r.1.modLane i fun l =>
    let start := if irregular then (l.src fNew).front else old.asc.frameEnd
    let ticks := s.now - old.asc.frameTick
    let l := l.modAsc fun a =>
      { a with frameStart := start, frameEnd := if irregular then farPoint nn start else nextPoint nn start,
               frameTick := s.now, nInForce := nn }
    let l := if nn ≠ old.asc.nInForce then l.entries.foldl (fun l i => l.outRange nn i) l else l
    let l := ((l.wr ASC_FRAME_STAT_STRETCH (b2n irregular)).wr ASC_FRAME_STAT_SRC_IN_FORCE fNew).wr
      ASC_FRAME_LEN_LAST_LEN (min ticks 0xFFFFF)
    let l := if r.2 then l.bumpSat ASC_FRAME_STAT_CLAMP_CNT else l
    (List.range 4).foldl (fun l n =>
      { l with regs := (l.regs.set (ASC_S_ANGLE n) (l.src n).pos).set (ASC_S_FRONT n) (l.src n).front }) l
  let ticks := (s.lane i).rd ASC_FRAME_LEN_LAST_LEN
  let s := if r.2 then s.raiseFrom i 27 fNew else s
  if ticks < 12500 || 100000 < ticks then s.raiseFrom i 27 fOld else s

/-- The start of the Angle Schedulers: θt at 0 with the increment of ASC_S3_INC; the first frame begins at b_0 (R40). -/
def State.startAngles (s : State) : State :=
  let s := s.bothLanes fun l =>
    let nn := l.rd ASC_FRAME_CFG_N
    let l := l.modSrc 3 fun a => { a with acc := 0, front := 0, frontAtTick := 0, counted := false }
    l.modAsc fun a => { a with frameStart := 0, prevStart := 0, prevSrc := 3, prevEnd := 0, prevFront := 0,
                               frameEnd := boundaryPt nn 1, frameTick := s.now, prevTick := s.now,
                               nInForce := nn }
  s.modMod fun m => { m with started := true }

/-! ### Crossings (R51, R52, R63) -/

/-- An angle lies in the passage from f0, exclusive, to f1, inclusive (R51). -/
def inPassage (f0 f1 a : Word) : Bool := 0 < (a - f0).toNat && (a - f0).toNat ≤ (f1 - f0).toNat

/-- The crossings of an entry by a source's front in the present tick: one for each mark of an absolute entry that the front
passes (R51, R60), or one for an offset that it reaches. The tick of a boundary belongs to the frame that ends, as far as the
tick's advance goes, and to the one that begins (R63, R67). -/
def Lane.marks (l : Lane) (now n i : Nat) : Nat :=
  let a := l.src n
  let angle := l.regs.get (SCHED_W0 i)
  let begun := decide (l.asc.frameTick = now)
  if !l.on (SCHED_W1_EN i) || (begun && l.asc.rewritten.contains i) then 0
  else if l.on (SCHED_W1_FREL i) then
    let ended := n = l.asc.prevSrc && inPassage a.frontAtTick l.asc.prevFront (l.asc.prevStart + angle) &&
      angle.toNat < (l.asc.prevEnd - l.asc.prevStart).toNat
    let running := decide (n = l.rd ASC_FRAME_STAT_SRC_IN_FORCE) && (if begun then decide (angle.toNat ≤ (a.front - l.asc.frameStart).toNat)
      else inPassage a.frontAtTick a.front (l.asc.frameStart + angle))
    b2n (l.rd (SCHED_W3_OUT_RANGE i) = 0 && (running || begun && ended))
  else if n = l.rd (SCHED_W1_SRC i) then
    let r := l.rd (SCHED_W1_RPT i)
    ((List.range (2 ^ r)).filter fun k => inPassage a.frontAtTick a.front (angle + BitVec.ofNat 32 (k * 2 ^ (32 - r)))).length
  else 0

/-- An entry is crossed by a source's front in the present tick. -/
def Lane.crosses (l : Lane) (now n i : Nat) : Bool := l.marks now n i != 0

/-- Whether an entry of the queue precedes a new one: those of earlier ticks, and those of its tick up to its index (R64). -/
def QEntry.ahead (new e : QEntry) : Bool := e.at_ < new.at_ || e.idx ≤ new.idx

/-- A crossed entry placed in the queue, in table index order among those of its tick (R64). -/
def enqueueAt (new : QEntry) (q : List QEntry) : List QEntry :=
  q.takeWhile new.ahead ++ new :: q.dropWhile new.ahead

/-- A crossed entry enters the dispatch queue with a copy of its words. Of more than 32 entries the last is not fired (R64). -/
def State.enqueue (s : State) (i : LaneId) (n idx : Nat) (late : Bool) : State :=
  let l := s.lane i
  let e : QEntry := { idx := idx, late := late, src := n, at_ := s.now,
                      words := { w0 := l.regs.get (SCHED_W0 idx), w1 := l.regs.get (SCHED_W1 idx),
                                 w2 := l.regs.get (SCHED_W2 idx) } }
  let q := enqueueAt e l.asc.queue
  let l := l.modAsc fun a => { a with queue := q.take 32 }
  let s := s.setLane i (l.wr ASC_SCHED_STAT_Q_HWM (max (l.rd ASC_SCHED_STAT_Q_HWM) l.asc.queue.length))
  (q.drop 32).foldl (fun s x =>
    (s.modLane i fun l => (l.bumpSat ASC_SCHED_STAT_OVF_CNT).bump (ASC_S_CNT_SKIP_CNT_SKIP x.src)).raiseFrom i 25 x.src) s

/-- An entry enters the queue once for each of its crossings. -/
def State.enqueueN (s : State) (i : LaneId) (n idx : Nat) (late : Bool) : Nat → State
  | 0 => s
  | k + 1 => (s.enqueue i n idx late).enqueueN i n idx late k

/-- The entry has been taken in the present tick. -/
def Lane.taken (l : Lane) (now idx : Nat) : Bool := l.asc.crossedAt = now && l.asc.crossed.contains idx

/-- The entry is taken in the present tick, and no second time in it. -/
def Lane.take (l : Lane) (now idx : Nat) : Lane :=
  l.modAsc fun a => { a with crossedAt := now, crossed := idx :: if a.crossedAt = now then a.crossed else [] }

/-- The crossing of an entry in a lane. In a jump the first 8 crossings in index order enter LATE; each further one is
skipped, and the ninth raises the one SCHED_SKIP of the jump (R52). In a resynchronisation none fires (R53). The entries with
ANGLE = 0 of a frame that a load or step begins are crossed by that movement, and take its class (DESIGN CHOICE between R53
and R63, log 26). -/
def State.crossEntry (s : State) (n idx : Nat) (i : LaneId) : State :=
  let l := s.lane i
  let m := l.marks s.now n idx
  if m = 0 || l.taken s.now idx then s
  else
    let s := s.setLane i (l.take s.now idx)
    match l.moveNow n with
    | .jump =>
      let rank := (l.entries.filter (· < idx)).foldl (fun k j => k + l.marks s.now n j) 0
      let late := min m (8 - rank)
      let s := s.enqueueN i n idx true late
      let s := s.modLane i fun l =>
        l.wr (ASC_S_CNT_SKIP_CNT_SKIP n) (l.rd (ASC_S_CNT_SKIP_CNT_SKIP n) + (m - late))
      if rank ≤ 8 && 8 < rank + m then s.raiseFrom i 25 n else s
    | .resync => s
    | _ => s.enqueueN i n idx false m

/-- The ticks until a source's front crosses an enabled entry by its increment in force; 0 where the present tick crosses it
or the running frame does not (R51, R60, R63). -/
def Lane.ticksToCross (l : Lane) (now n i : Nat) : Nat :=
  let a := l.src n
  let angle := l.regs.get (SCHED_W0 i)
  let frel := l.on (SCHED_W1_FREL i)
  let whole := 2 ^ (32 - l.rd (SCHED_W1_RPT i))
  let dist := if frel then (l.asc.frameStart + angle - a.front).toNat
    else (let d := (angle - a.front).toNat % whole
          if d = 0 then whole else d)
  let need : Int := (dist + angDiff a.front a.pos) * 65536 - (a.acc.toNat % 65536 : Nat)
  let k := ((need + l.incOf n - 1) / l.incOf n).toNat
  if l.crosses now n i || !l.on (SCHED_W1_EN i) || l.incOf n ≤ 0 || l.travel n k < need || l.ticksToEnd ≤ k ||
      (if frel then l.rd ASC_FRAME_STAT_SRC_IN_FORCE else l.rd (SCHED_W1_SRC i)) ≠ n then 0
  else k

/-- ENTRY_CROSSING: the front of a source crosses an entry, after the ticks that its increment takes to it (R51; log 5). -/
def execEntryCrossing (ln : LaneSel) (src idx : Nat) (s : State) : Host.Outcome State Fault Refusal :=
  .next (s.onLanes ln fun s i =>
    let k := if s.mod.started then (s.lane i).ticksToCross s.now src idx else 0
    (s.pass k).crossEntry src idx i)

/-! ### Sync lines (R61) -/

/-- A SYNC_OUT action: a pulse of ARG ticks, or a toggle of the line (R61). -/
def Lane.syncOut (l : Lane) (now line width : Nat) : Lane :=
  l.modAsc fun a => { a with sync := updAt a.sync line fun x =>
    if width = 0 then { level := !x.level, until_ := none } else { level := true, until_ := some (now + width) } }

/-- SYNC_PULSE_END: the width has passed and the line falls (R61). -/
def execSyncPulseEnd (ln : LaneSel) (line : Nat) (s : State) : Host.Outcome State Fault Refusal :=
  .next (s.onLanes ln fun s i =>
    match ((s.lane i).asc.sync.getD line { level := false, until_ := none }).until_ with
    | none => s
    | some t =>
      let s := s.passTo t
      (s.modLane i fun l =>
        l.modAsc fun a => { a with sync := updAt a.sync line fun _ => { level := false, until_ := none } }).syncWatch i
          (s.lane i))

end Sys2Proof.Machine
end

