-- ==== Sys2Proof/Machine/AuxDrive.lean ====
section
/-! DEFINITION. The auxiliary drives (R212 to R216). -/
namespace Sys2Proof.Machine

def State.auxCh (s : State) (n : Nat) : Aux := s.aux.getD n Aux.reset

/-- A status bit of a channel set; its change raises the event AUX (R356). -/
def State.auxBit (s : State) (n : Nat) (x : Fld) : State := if s.on x then s else (s.wr x 1).raise 83 n

/-- A channel may run: RUN = 1, no class B of its own and no class L (R212). -/
def State.auxRuns (s : State) (n : Nat) : Bool :=
  s.on (AUX_CH_CTRL_RUN n) && !s.on (AUX_CH_STAT_OC n) && !s.on (AUX_CH_STAT_SUPPLY n) && !s.faults.classL

/-- A channel drives patterns: it runs, and neither the precharge, a trip nor a stall holds it off (R214 to R216). -/
def State.auxDrives (s : State) (n : Nat) : Bool :=
  let a := s.auxCh n
  s.auxRuns n && a.precharge.isNone && !a.tripped && !a.stalled

/-- The step of a Hall code (R213). -/
def hallStep (code : Nat) : Option Nat :=
  match code with | 1 => some 0 | 3 => some 1 | 2 => some 2 | 6 => some 3 | 4 => some 4 | 5 => some 5 | _ => none

/-- The Hall code of a channel as it is used: the last accepted one, inverted with HINV (R213). -/
def State.hallCode (s : State) (n : Nat) : Nat :=
  let h := s.rd (AUX_CH_STAT_HALL n)
  if s.on (AUX_CH_CFG_HINV n) then 7 - h else h

/-- The high pin and the low pin of a step, in the order UH UL VH VL WH WL (R213). -/
def stepPins (k : Nat) : Nat × Nat :=
  match k with | 0 => (0, 3) | 1 => (0, 5) | 2 => (2, 5) | 3 => (2, 1) | 4 => (4, 1) | _ => (4, 3)

/-- The pattern that the present Hall code gives a channel (R213). -/
def State.auxPattern (s : State) (n : Nat) : Option (Nat × Nat) :=
  (hallStep (s.hallCode n)).map fun k =>
    stepPins ((k + s.rd (AUX_CH_CFG_HSHIFT n) + (if s.on (AUX_CH_CFG_DIR n) then 3 else 0)) % 6)

/-- A channel drives the pattern of its Hall code: pins that leave the pattern go low at once, pins that enter it go high
AUX_DT ticks later; in CHOP_H the high pin is on only within an on-part (R214). After the precharge the low pins that were
high count as a pattern. -/
def State.drive (s : State) (n : Nat) : State :=
  match s.auxPattern n with
  | none => s.modAux n (Aux.pinsLow s.now)
  | some p =>
    let dt := s.rd (AUX_CH_CFG_AUX_DT n)
    let chop := s.on (AUX_CH_CFG_MODE n)
    s.modAux n fun a =>
      let old := fun (k : Nat) => match a.pattern with
        | some q => k = q.1 || k = q.2
        | none => a.pins.getD k false
      let wait := fun (k : Nat) =>
        if k = p.1 || k = p.2 then (if old k then a.enter.getD k none else some (s.now + dt)) else none
      let b := ({ a with pattern := some p, chop := chop, enter := (List.range 6).map wait } : Aux).driven s.now
      { b with edgeAt := if b.pins = a.pins then a.edgeAt else s.now }

/-- A channel that may run starts with the precharge: UL, VL and WL are high together for PRECHG µs (R214). A stalled one
stays off until RUN is written 0 and then 1 (R216). -/
def State.precharge (s : State) (n : Nat) : State :=
  if !s.auxRuns n || (s.auxCh n).stalled then s
  else s.modAux n fun a =>
    { a.pinsLow s.now with
      pins := [false, true, false, true, false, true], edgeAt := s.now, hallAt := s.now,
      precharge := some (s.now + 400 * s.rd (AUX_CH_TIME_PRECHG n)), tripped := false, cleanStep := false }

/-- RUN written at its commit: 0 holds all pins low and ends a stall; a change to 1 starts the precharge (R212, R214,
R216). -/
def State.setAuxRun (s : State) (n : Nat) (on : Bool) : State :=
  let was := s.on (AUX_CH_CTRL_RUN n)
  let s := s.wr (AUX_CH_CTRL_RUN n) (b2n on)
  if !on then s.modAux n fun a => { a.pinsLow s.now with stalled := false, tripped := false }
  else if was then s
  else s.precharge n

/-- A cleared channel: TRIP_CONSEC is 0, and with RUN = 1 it restarts with the precharge (R243). -/
def State.clearAux (s : State) (n : Nat) : State :=
  (((s.wr (AUX_CH_STAT_TRIP_CONSEC n) 0).wr (AUX_CH_STAT_OC n) 0).wr (AUX_CH_STAT_SUPPLY n) 0).precharge n

/-- AUX_CHn_CFG has been committed: a channel that drives takes the pattern that DIR, HINV, HSHIFT and MODE now give (R213,
R214). -/
def State.auxConfigured (s : State) (n : Nat) : State := if s.auxDrives n then s.drive n else s

/-- HALL_CHANGE: a Hall code has been stable for 2 µs (R213). An edge ends a trip's pause; a step without a trip sets
TRIP_CONSEC to 0 (R215). Codes 0 and 7 turn the pins low with HALL_ERR. -/
def execHallChange (n : Nat) (code : BitVec 3) (s : State) : Host.Outcome State Fault Refusal :=
  let s := s.wr (AUX_CH_STAT_HALL n) code.toNat
  .next (if (hallStep (s.hallCode n)).isNone then
      ((s.modAux n fun a => { a.pinsLow s.now with precharge := a.precharge }).auxBit n (AUX_CH_STAT_HALL_ERR n)).cause
        0x42 3 (.aux n) n none false
    else
      let s := if (s.auxCh n).cleanStep then s.wr (AUX_CH_STAT_TRIP_CONSEC n) 0 else s
      let s := s.modAux n fun a => { a with hallAt := s.now, tripped := false, cleanStep := true }
      if s.auxDrives n then s.drive n else s)

/-- AUX_PRECHARGE_END: the bootstrap capacitors are charged and the pattern of the present Hall code follows (R214). -/
def execAuxPrechargeEnd (n : Nat) (s : State) : Host.Outcome State Fault Refusal :=
  .next (match (s.auxCh n).precharge with
    | none => s
    | some t =>
      let s := (s.passTo t).modAux n fun a => { a with precharge := none }
      if s.auxDrives n then s.drive n else s)

/-- CHOPPING_PERIOD: in CHOP_H a period starts, PER ticks after the one before, and the high pin is on for DUTY × PER ticks,
or not at all where that is below AUX_DT (R214). -/
def execChoppingPeriod (n : Nat) (s : State) : Host.Outcome State Fault Refusal :=
  let s := match (s.auxCh n).perAt with
    | some t => s.passTo (t + s.rd (AUX_CH_PWM_PER n))
    | none => s
  let on := s.rd (AUX_CH_PWM_DUTY n) * s.rd (AUX_CH_PWM_PER n) / 65536
  .next (if s.auxDrives n && s.on (AUX_CH_CFG_MODE n) then
      s.modAux n fun a =>
        let part := if s.rd (AUX_CH_CFG_AUX_DT n) ≤ on then some (s.now + on) else none
        let b := ({ a with perAt := some s.now, chopEnd := part } : Aux).driven s.now
        { b with edgeAt := if b.pins = a.pins then a.edgeAt else s.now }
    else s)

/-- A channel's class B fault: the status bit, the pins low, and the cause (R215, R216). -/
def State.auxFault (s : State) (n code : Nat) (x : Fld) : State :=
  if s.on x then s else ((s.modAux n (Aux.pinsLow s.now)).auxBit n x).cause code 1 (.aux n) n none false

/-- A class E trip of a channel: its pins go low until the next Hall edge. The eighth consecutive trip latches AUX_OC, and a
trip of another channel within 10 µs AUX_SUPPLY on both (R215, R216). -/
def State.auxTrip (s : State) (n : Nat) : State :=
  let s := s.modAux n fun a => { a.pinsLow s.now with tripped := true, cleanStep := false, tripAt := some s.now }
  let k := min 8 (s.rd (AUX_CH_STAT_TRIP_CONSEC n) + 1)
  let s := (s.bump (AUX_CH_STAT_TRIPS n)).wr (AUX_CH_STAT_TRIP_CONSEC n) k
  let s := if k = 8 then s.auxFault n 0x11 (AUX_CH_STAT_OC n) else s
  let near := numsWhere 4 fun m => m ≠ n && (s.auxCh m).tripAt.any fun t => s.now ≤ t + 4000
  if near.isEmpty then s
  else (n :: near).foldl (fun s m => s.auxFault m 0x12 (AUX_CH_STAT_SUPPLY m)) s

/-- AUX_SHUNT_TRIP: the shunt input rises to a voltage. Above HARD × 4 mV the channel trips, and above LO × 4 mV too, but for
the BLANK × 100 ns after an edge on one of its pins (R215). -/
def execAuxShuntTrip (n : Nat) (microvolts : Nat) (s : State) : Host.Outcome State Fault Refusal :=
  let blank := s.now < (s.auxCh n).edgeAt + 40 * s.rd (AUX_CH_CFG_BLANK n)
  let hard := 4000 * s.rd (AUX_CH_ISNS_HARD n) < microvolts
  let low := 4000 * s.rd (AUX_CH_ISNS_LO n) < microvolts
  .next (if s.auxRuns n && (hard || (low && !blank)) then s.auxTrip n else s)

/-- AUX_STALL: no Hall edge for STALL_T while RUN = 1 (R216). -/
def execAuxStall (n : Nat) (s : State) : Host.Outcome State Fault Refusal :=
  .next (if !s.on (AUX_CH_CTRL_RUN n) || (s.auxCh n).stalled then s
    else
      let s := s.passTo ((s.auxCh n).hallAt + 400000 * s.rd (AUX_CH_TIME_STALL_T n))
      ((s.modAux n fun a => { a.pinsLow s.now with stalled := true }).auxBit n (AUX_CH_STAT_STALL n)).cause
        0x43 3 (.aux n) n none false)

end Sys2Proof.Machine
end

