-- ==== Sys2Proof/Machine/CleOps.lean ====
section
/-! DEFINITION. The ops of the Control Law Engine (R107 to R116), but END. Each op acts on the run of the datapath that its
command names, in the lane or lanes that it names, where the run's program names it next; else no op issues, and nothing changes
(log 16). -/
namespace Sys2Proof.Machine

/-- An op issues on the run of a datapath whose program names it next, in its tick after the 4 start ticks and the cycles before
it: its effect, and its cycles on the run. The fields of the program word are the op's (R98, R99, R103, R107, R114; logs 5 and
16). -/
def State.cleOp (s : State) (ln : LaneSel) (dp : Dp) (op : Nat) (w : CleWord) (cyc : Nat)
    (f : State → LaneId → CtxRun → State) : State :=
  s.onLanes ln fun s i =>
    match (s.lane i).issues dp op w with
    | none => s
    | some r =>
      (f (s.passTo (r.since + s.laneTicks r.cycles)) i r).modLane i fun l => l.modDp dp fun d =>
        { d with run := d.run.map fun r => { r with pc := r.pc + 1, cycles := r.cycles + cyc, ops := r.ops + 1 } }

/-- An op that works on the datapath alone and may set SATF. -/
def State.regOp (s : State) (ln : LaneSel) (dp : Dp) (op : Nat) (w : CleWord) (cyc : Nat) (f : DpState → DpState × Bool) :
    State :=
  s.cleOp ln dp op w cyc fun s i r => s.modLane i fun l =>
    let x := f (l.dp dp)
    (l.modDp dp fun _ => x.1).satf r.ctx x.2

/-- An op whose result x passes res() into d (R105). -/
def State.resOp (s : State) (ln : LaneSel) (dp : Dp) (op : Nat) (w : CleWord) (cyc : Nat) (x : DpState → Int) : State :=
  s.regOp ln dp op w cyc fun d => (d.setReg w.dst.toNat (res w.sat (x d)), resSat w.sat (x d))

/-- An op whose result is a word written to d as it is. -/
def State.wordOp (s : State) (ln : LaneSel) (dp : Dp) (op : Nat) (w : CleWord) (x : DpState → Word) : State :=
  s.regOp ln dp op w 1 fun d => (d.setReg w.dst.toNat (x d), false)

/-- An op whose result x passes acc() into ACCn (R105). -/
def State.accOp (s : State) (ln : LaneSel) (dp : Dp) (op : Nat) (w : CleWord) (x : DpState → Int) : State :=
  s.regOp ln dp op w 1 fun d => (d.setAcc w.acc.toNat (accRes w.sat (x d)), accSat w.sat (x d))

/-- An op with two results that pass res() into d and the register above it. -/
def State.pairOp (s : State) (ln : LaneSel) (dp : Dp) (op : Nat) (w : CleWord) (cyc : Nat) (x : DpState → Int × Int) : State :=
  s.regOp ln dp op w cyc fun d =>
    let p := x d
    ((d.setReg w.dst.toNat (res w.sat p.1)).setReg (w.dst.toNat + 1) (res w.sat p.2),
      resSat w.sat p.1 || resSat w.sat p.2)

def execCleNop (ln : LaneSel) (dp : Dp) (w : CleWord) (s : State) : Host.Outcome State Fault Refusal :=
  .next (s.regOp ln dp 0x00 w 1 fun d => (d, false))

def execCleLdi (ln : LaneSel) (dp : Dp) (w : CleWord) (s : State) : Host.Outcome State Fault Refusal :=
  .next (s.wordOp ln dp 0x02 w fun _ => w.imm)

def execCleMov (ln : LaneSel) (dp : Dp) (w : CleWord) (s : State) : Host.Outcome State Fault Refusal :=
  .next (s.wordOp ln dp 0x03 w fun d => d.reg w.sa.toNat)

def execCleAdd (ln : LaneSel) (dp : Dp) (w : CleWord) (s : State) : Host.Outcome State Fault Refusal :=
  .next (s.resOp ln dp 0x04 w 1 fun d => shr (d.opA w + d.opB w) (shOf w))

def execCleSub (ln : LaneSel) (dp : Dp) (w : CleWord) (s : State) : Host.Outcome State Fault Refusal :=
  .next (s.resOp ln dp 0x05 w 1 fun d => shr (d.opA w - d.opB w) (shOf w))

def execCleAddi (ln : LaneSel) (dp : Dp) (w : CleWord) (s : State) : Host.Outcome State Fault Refusal :=
  .next (s.resOp ln dp 0x06 w 1 fun d => shr (d.opA w + immI w) (shOf w))

def execCleNeg (ln : LaneSel) (dp : Dp) (w : CleWord) (s : State) : Host.Outcome State Fault Refusal :=
  .next (s.resOp ln dp 0x07 w 1 fun d => -d.opA w)

def execCleAbs (ln : LaneSel) (dp : Dp) (w : CleWord) (s : State) : Host.Outcome State Fault Refusal :=
  .next (s.resOp ln dp 0x08 w 1 fun d => (d.opA w).natAbs)

def execCleShl (ln : LaneSel) (dp : Dp) (w : CleWord) (s : State) : Host.Outcome State Fault Refusal :=
  .next (s.resOp ln dp 0x09 w 1 fun d => d.opA w * (2 ^ (shOf w) : Nat))

/-- SHR: d = a >> sh. -/
def execCleShr (ln : LaneSel) (dp : Dp) (w : CleWord) (s : State) : Host.Outcome State Fault Refusal :=
  .next (s.wordOp ln dp 0x0A w fun d => BitVec.ofInt 32 (shr (d.opA w) (shOf w)))

def execCleAnd (ln : LaneSel) (dp : Dp) (w : CleWord) (s : State) : Host.Outcome State Fault Refusal :=
  .next (s.wordOp ln dp 0x0B w fun d => d.reg w.sa.toNat &&& d.reg w.sb.toNat)

def execCleOr (ln : LaneSel) (dp : Dp) (w : CleWord) (s : State) : Host.Outcome State Fault Refusal :=
  .next (s.wordOp ln dp 0x0C w fun d => d.reg w.sa.toNat ||| d.reg w.sb.toNat)

def execCleXor (ln : LaneSel) (dp : Dp) (w : CleWord) (s : State) : Host.Outcome State Fault Refusal :=
  .next (s.wordOp ln dp 0x0D w fun d => d.reg w.sa.toNat ^^^ d.reg w.sb.toNat)

def execCleMul (ln : LaneSel) (dp : Dp) (w : CleWord) (s : State) : Host.Outcome State Fault Refusal :=
  .next (s.resOp ln dp 0x0E w 1 fun d => shr (d.opA w * d.opB w) (shOf w))

def execCleMuli (ln : LaneSel) (dp : Dp) (w : CleWord) (s : State) : Host.Outcome State Fault Refusal :=
  .next (s.resOp ln dp 0x0F w 1 fun d => shr (d.opA w * immI w) (shOf w))

def execCleMac (ln : LaneSel) (dp : Dp) (w : CleWord) (s : State) : Host.Outcome State Fault Refusal :=
  .next (s.accOp ln dp 0x10 w fun d => d.sacc w.acc.toNat + shr (d.opA w * d.opB w) 16)

def execCleMsu (ln : LaneSel) (dp : Dp) (w : CleWord) (s : State) : Host.Outcome State Fault Refusal :=
  .next (s.accOp ln dp 0x11 w fun d => d.sacc w.acc.toNat - shr (d.opA w * d.opB w) 16)

def execCleLda (ln : LaneSel) (dp : Dp) (w : CleWord) (s : State) : Host.Outcome State Fault Refusal :=
  .next (s.accOp ln dp 0x12 w fun d => d.opA w * (2 ^ (shOf w) : Nat))

def execCleClra (ln : LaneSel) (dp : Dp) (w : CleWord) (s : State) : Host.Outcome State Fault Refusal :=
  .next (s.regOp ln dp 0x13 w 1 fun d => (d.setAcc w.acc.toNat 0, false))

def execCleExa (ln : LaneSel) (dp : Dp) (w : CleWord) (s : State) : Host.Outcome State Fault Refusal :=
  .next (s.resOp ln dp 0x14 w 1 fun d => shr (d.sacc w.acc.toNat) (shOf w))

/-- SAT: d = b if a > b; otherwise c if a < c; otherwise a; CF tells that a was replaced. -/
def execCleSat (ln : LaneSel) (dp : Dp) (w : CleWord) (s : State) : Host.Outcome State Fault Refusal :=
  .next (s.regOp ln dp 0x15 w 1 fun d =>
    let hi := d.opB w < d.opA w
    let lo := d.opA w < d.opC w
    let v := if hi then d.reg w.sb.toNat else if lo then d.reg (bitsOf w.imm 4 0) else d.reg w.sa.toNat
    ({ d.setReg w.dst.toNat v with cf := hi || lo }, false))

def execCleMin (ln : LaneSel) (dp : Dp) (w : CleWord) (s : State) : Host.Outcome State Fault Refusal :=
  .next (s.wordOp ln dp 0x16 w fun d => if d.opA w ≤ d.opB w then d.reg w.sa.toNat else d.reg w.sb.toNat)

def execCleMax (ln : LaneSel) (dp : Dp) (w : CleWord) (s : State) : Host.Outcome State Fault Refusal :=
  .next (s.wordOp ln dp 0x17 w fun d => if d.opB w ≤ d.opA w then d.reg w.sa.toNat else d.reg w.sb.toNat)

def execCleCmp (ln : LaneSel) (dp : Dp) (w : CleWord) (s : State) : Host.Outcome State Fault Refusal :=
  .next (s.regOp ln dp 0x18 w 1 fun d => ({ d with cf := cmpRel w.mod (d.opA w) (d.opB w) }, false))

def execCleSel (ln : LaneSel) (dp : Dp) (w : CleWord) (s : State) : Host.Outcome State Fault Refusal :=
  .next (s.wordOp ln dp 0x19 w fun d => if d.cf then d.reg w.sa.toNat else d.reg w.sb.toNat)

/-- INTEG: the sum wraps at 32 bits; an exact sum outside the signed range sets WRAP and counts (R109). -/
def execCleInteg (ln : LaneSel) (dp : Dp) (w : CleWord) (s : State) : Host.Outcome State Fault Refusal :=
  .next (s.cleOp ln dp 0x1A w 2 fun s i r => s.modLane i fun l =>
    let d := l.dp dp
    let x := l.cle.stateAddr r w
    let sum := (l.cle.readData s.now x).toInt + shr (d.opA w * d.opB w) (shOf w)
    let v := BitVec.ofInt 32 sum
    ((l.setData s.now x v).modDp dp fun d => d.setReg w.dst.toNat v).wrapf r.ctx (clampBits 32 sum ≠ sum))

/-- LPF1: m = res(m + (((a − m) × b) >> sh)); d = m. -/
def execCleLpf1 (ln : LaneSel) (dp : Dp) (w : CleWord) (s : State) : Host.Outcome State Fault Refusal :=
  .next (s.cleOp ln dp 0x1B w 2 fun s i r => s.modLane i fun l =>
    let d := l.dp dp
    let x := l.cle.stateAddr r w
    let m := (l.cle.readData s.now x).toInt
    let y := m + shr ((d.opA w - m) * d.opB w) (shOf w)
    ((l.setData s.now x (res w.sat y)).modDp dp fun d => d.setReg w.dst.toNat (res w.sat y)).satf r.ctx (resSat w.sat y))

/-- CLARKE, each result within 1 LSB (R108). -/
def execCleClarke (ln : LaneSel) (dp : Dp) (w : CleWord) (s : State) : Host.Outcome State Fault Refusal :=
  .next (s.pairOp ln dp 0x1C w 2 fun d =>
    let a := d.reg w.sa.toNat
    let b := d.reg w.sb.toNat
    let c := d.reg (bitsOf w.imm 4 0)
    let y := d.opB w - d.opC w
    (geoPick 0x1C 0 a b c (withinThird (2 * d.opA w - d.opB w - d.opC w) 1),
      geoPick 0x1C 1 a b c (within (divRoot3 y) (y = 0) 1)))

/-- ICLARKE: d = a; the two others within 1 LSB (R108). -/
def execCleIclarke (ln : LaneSel) (dp : Dp) (w : CleWord) (s : State) : Host.Outcome State Fault Refusal :=
  .next (s.regOp ln dp 0x1D w 2 fun d =>
    let a := d.reg w.sa.toNat
    let b := d.reg (w.sa.toNat + 1)
    let y := d.opA1 w
    let whole := y = 0 && d.opA w % 2 = 0
    let p := geoPick 0x1D 0 a b 0 (within ((mulRoot3 y - d.opA w) / 2) whole 1)
    let q := geoPick 0x1D 1 a b 0 (within ((mulRoot3 (-y) - d.opA w) / 2) whole 1)
    (((d.setReg w.dst.toNat a).setReg (w.dst.toNat + 1) (res w.sat p)).setReg (w.dst.toNat + 2) (res w.sat q),
      resSat w.sat p || resSat w.sat q))

/-- PARK, each result within 4 LSB (R108). -/
def execClePark (ln : LaneSel) (dp : Dp) (w : CleWord) (s : State) : Host.Outcome State Fault Refusal :=
  .next (s.pairOp ln dp 0x1E w 3 fun d =>
    let a := d.reg w.sa.toNat
    let a1 := d.reg (w.sa.toNat + 1)
    let b := d.reg w.sb.toNat
    (geoPick 0x1E 0 a a1 b (withinScaled (d.opA w * cosBt b + d.opA1 w * sinBt b) 60 4),
      geoPick 0x1E 1 a a1 b (withinScaled (d.opA1 w * cosBt b - d.opA w * sinBt b) 60 4)))

/-- IPARK, each result within 4 LSB (R108). -/
def execCleIpark (ln : LaneSel) (dp : Dp) (w : CleWord) (s : State) : Host.Outcome State Fault Refusal :=
  .next (s.pairOp ln dp 0x1F w 3 fun d =>
    let a := d.reg w.sa.toNat
    let a1 := d.reg (w.sa.toNat + 1)
    let b := d.reg w.sb.toNat
    (geoPick 0x1F 0 a a1 b (withinScaled (d.opA w * cosBt b - d.opA1 w * sinBt b) 60 4),
      geoPick 0x1F 1 a a1 b (withinScaled (d.opA w * sinBt b + d.opA1 w * cosBt b) 60 4)))

/-- SINCOS in Q3.29, each result within 3 LSB (R108). The op table passes its results through no res(). -/
def execCleSincos (ln : LaneSel) (dp : Dp) (w : CleWord) (s : State) : Host.Outcome State Fault Refusal :=
  .next (s.regOp ln dp 0x20 w 2 fun d =>
    let a := d.reg w.sa.toNat
    let p := geoPick 0x20 0 a 0 0 (withinScaled (sinBt a) 31 3)
    let q := geoPick 0x20 1 a 0 0 (withinScaled (cosBt a) 31 3)
    ((d.setReg w.dst.toNat (BitVec.ofInt 32 p)).setReg (w.dst.toNat + 1) (BitVec.ofInt 32 q), false))

/-- SQRT: floor(√(a × 2^sh)); a negative gives 0 and CF = 1 (R111). -/
def execCleSqrt (ln : LaneSel) (dp : Dp) (w : CleWord) (s : State) : Host.Outcome State Fault Refusal :=
  .next (s.regOp ln dp 0x21 w 18 fun d =>
    let neg := d.opA w < 0
    let x : Int := if neg then 0 else isqrt ((d.opA w).toNat * 2 ^ (shOf w))
    ({ d.setReg w.dst.toNat (res w.sat x) with cf := neg }, resSat w.sat x))

/-- DIV: trunc((a × 2^sh) / b); a zero divisor gives the extreme of a's sign, or 0, and sets DIVZ (R111). -/
def execCleDiv (ln : LaneSel) (dp : Dp) (w : CleWord) (s : State) : Host.Outcome State Fault Refusal :=
  .next (s.cleOp ln dp 0x22 w 36 fun s i r => s.modLane i fun l =>
    let d := l.dp dp
    let a := d.opA w
    if d.opB w = 0 then
      let v : Word := if 0 < a then 0x7FFFFFFF else if a < 0 then 0x80000000 else 0
      (l.modDp dp fun d => d.setReg w.dst.toNat v).wr (CLE_CTX_STAT_DIVZ r.ctx) 1
    else
      let x := truncDiv (a * (2 ^ (shOf w) : Nat)) (d.opB w)
      (l.modDp dp fun d => d.setReg w.dst.toNat (res w.sat x)).satf r.ctx (resSat w.sat x))

/-- LUT: interpolation in the 256 words from coefficient offset o; the last interval is flat (R110). -/
def execCleLut (ln : LaneSel) (dp : Dp) (w : CleWord) (s : State) : Host.Outcome State Fault Refusal :=
  .next (s.cleOp ln dp 0x23 w 3 fun s i r => s.modLane i fun l =>
    let p := (l.dp dp).reg w.sa.toNat
    let k := bitsOf p 31 24
    let t := l.cle.coefBase r.ctx r.bank + bitsOf w.imm 14 0
    let x := (l.cle.readData s.now (t + k)).toInt
    let y := (l.cle.readData s.now (t + (if k = 255 then 255 else k + 1))).toInt
    l.modDp dp fun d => d.setReg w.dst.toNat (BitVec.ofInt 32 (x + shr ((y - x) * (bitsOf p 23 0 : Nat)) 24)))

def execCleLd (ln : LaneSel) (dp : Dp) (w : CleWord) (s : State) : Host.Outcome State Fault Refusal :=
  .next (s.cleOp ln dp 0x24 w 1 fun s i r => s.modLane i fun l =>
    l.modDp dp fun d => d.setReg w.dst.toNat (l.cle.readData s.now (l.cle.opAddr r w)))

/-- ST: into the state region only (R107). -/
def execCleSt (ln : LaneSel) (dp : Dp) (w : CleWord) (s : State) : Host.Outcome State Fault Refusal :=
  .next (s.cleOp ln dp 0x25 w 1 fun s i r => s.modLane i fun l =>
    l.setData s.now (l.cle.stateAddr r w) ((l.dp dp).reg w.sa.toNat))

/-- IN: the binding's value, and CF from its flag bit MOD (R115). -/
def execCleIn (ln : LaneSel) (dp : Dp) (w : CleWord) (s : State) : Host.Outcome State Fault Refusal :=
  .next (s.cleOp ln dp 0x26 w 1 fun s i r =>
    let n := w.imm.toNat
    let b := s.binding i r.ctx n
    s.modLane i fun l =>
      (l.modDp dp fun d => { d.setReg w.dst.toNat b.1 with cf := b.2.getLsbD w.mod.toNat }).noteIn r.ctx n s.now
        b.1.toNat)

/-- OUT: the word is held for its group's publication (R116, R124). -/
def execCleOut (ln : LaneSel) (dp : Dp) (w : CleWord) (s : State) : Host.Outcome State Fault Refusal :=
  .next (s.cleOp ln dp 0x27 w 1 fun s i r => s.modLane i fun l =>
    let h : Held := { ctx := r.ctx, seq := r.ops, bind := l.cle.outBind r.ctx w.imm.toNat,
                      val := (l.dp dp).reg w.sa.toNat }
    { l with cle := { l.cle with groups := updAt l.cle.groups r.group (fun g => { g with held := g.held ++ [h] }) } })

/-- ANG: the angle or the increment of a source latched for the run's group (R66, R107). -/
def execCleAng (ln : LaneSel) (dp : Dp) (w : CleWord) (s : State) : Host.Outcome State Fault Refusal :=
  .next (s.cleOp ln dp 0x28 w 1 fun s i r => s.modLane i fun l =>
    let p := (l.asc.grpLatch.getD r.group []).getD (bitsOf w.imm 1 0) (0, 0)
    l.modDp dp fun d => d.setReg w.dst.toNat (if w.mod = 1 then p.2 else p.1))

end Sys2Proof.Machine
end

