-- ==== Sys2Proof/Machine/Library.lean ====
section
/-! DEFINITION. The Jidaora law library (05, R134 to R163): what the run of each of its contexts does. Per-unit values are Q3.29
numbers. Every result is the exact one rounded toward minus infinity; the inputs of a context, its integrators' bounds and what
the templates fix are named in log 47. -/
namespace Sys2Proof.Machine

/-! ### Arithmetic (R135 to R137) -/

/-- A fraction as a Q3.29 number. -/
def puOf (n d : Int) : Int := n * (2 ^ 29 : Nat) / d
/-- Product and quotient of Q3.29 numbers; a quotient by 0 is 0. -/
def mulQ (a b : Int) : Int := a * b / (2 ^ 29 : Nat)
def divQ (a b : Int) : Int := if b = 0 then 0 else a * (2 ^ 29 : Nat) / b
/-- A factor in Q16.16 times a value. -/
def mulK (k x : Int) : Int := k * x / (2 ^ 16 : Nat)
/-- The magnitude of a vector. -/
def magQ (x y : Int) : Int := isqrt (x.natAbs * x.natAbs + y.natAbs * y.natAbs)
/-- 2π in Q3.29. -/
def twoPi : Int := 3373259426

/-- What a rate per second adds over a frame, T_f being in 2^-16 tick. -/
def overFrame (x : Int) (tf : Nat) : Int := x * tf / (2 ^ 16 * 400000000 : Nat)
/-- A first-order filter with a time constant in Q16.16 ms, by one step of forward Euler. -/
def lagMs (tau tf : Nat) (y x : Int) : Int := if tau = 0 then x else y + (x - y) * tf / (tau * 400000 : Nat)
/-- A time in Q16.16 ms, in 2^-16 tick. -/
def msTime (c : Nat) : Nat := c * 400000
/-- A value moved toward a target by at most a step. -/
def toward (x target step : Int) : Int := if x < target then min target (x + step) else max target (x - step)

/-- CLARKE and PARK of three phases at an angle: the d and q components (R136). -/
def clarkeQ (a b c : Int) : Int × Int := ((2 * a - b - c) / 3, divRoot3 (b - c))
def parkQ (v : Int × Int) (th : Word) : Int × Int :=
  ((v.1 * cosBt th + v.2 * sinBt th) / (2 ^ 60 : Nat), (v.2 * cosBt th - v.1 * sinBt th) / (2 ^ 60 : Nat))
/-- IPARK. -/
def iparkQ (v : Int × Int) (th : Word) : Int × Int :=
  ((v.1 * cosBt th - v.2 * sinBt th) / (2 ^ 60 : Nat), (v.1 * sinBt th + v.2 * cosBt th) / (2 ^ 60 : Nat))
/-- ICLARKE. -/
def iclarkeQ (v : Int × Int) : List Int := [v.1, (mulRoot3 v.2 - v.1) / 2, (mulRoot3 (-v.2) - v.1) / 2]

/-- The angle of a vector in bt: the greatest one not past it. -/
def angleOf (x y : Int) : Word :=
  let low : Bool := y < 0 || (y = 0 && x < 0)
  let u := if low then -x else x
  let v := if low then -y else y
  BitVec.ofNat 32 ((List.range 31).foldl (fun (a : Nat) k =>
    let b := a + 2 ^ (30 - k)
    let w : Word := BitVec.ofNat 32 b
    if 0 ≤ cosBt w * v - sinBt w * u then b else a) 0 + if low then 2 ^ 31 else 0)

/-! ### Coefficients, inputs and outputs -/

/-- A coefficient of a context in its active bank; the running context keeps the bank its run began with (R112, R129). -/
def Lane.coef (l : Lane) (r : CtxRun) (ctx o : Nat) : Word :=
  memRd l.cle.data (l.cle.coefBase ctx (if ctx = r.ctx then r.bank else l.on (CLE_CTX_STAT_BANK ctx)) + o)
def Lane.ci (l : Lane) (r : CtxRun) (ctx o : Nat) : Int := (l.coef r ctx o).toInt
def Lane.cn (l : Lane) (r : CtxRun) (ctx o : Nat) : Nat := (l.coef r ctx o).toNat

/-- A measurement in per-unit: the value of an input binding times the template's factor. -/
def State.lawIn (s : State) (i : LaneId) (ctx n : Nat) : Int :=
  (s.binding i ctx n).1.toInt * (Config.libScale ctx n).toInt / (2 ^ 31 : Nat)

/-- An input binding of a context is bound to a latch. -/
def Lane.bound (l : Lane) (ctx n : Nat) : Bool := n < l.cle.inCnt ctx && bitsOf (l.cle.inBind ctx n) 31 28 = 1

/-- The angle of a source latched for a run's group, and its increment (R66). -/
def Lane.latched (l : Lane) (r : CtxRun) (src : Nat) : Word × Word := (l.asc.grpLatch.getD r.group []).getD src (0, 0)

/-- A run of a library context: the law's state after it and the words it publishes, each with its binding word. -/
structure LawRun where
  law : Law
  outs : List (Word × Word)
deriving DecidableEq, Repr

/-- A word published. -/
def LawRun.out (x : LawRun) (bind : Nat) (v : Word) : LawRun := { x with outs := x.outs ++ [(BitVec.ofNat 32 bind, v)] }
/-- A library event: line, thread or 0xF, and code (R144). -/
def LawRun.event (x : LawRun) (line who code : Nat) : LawRun :=
  x.out (0xB0000000 + line) (BitVec.ofNat 32 (0x10000 + who * 256 + code))
/-- The law changed. -/
def LawRun.mod (x : LawRun) (f : Law → Law) : LawRun := { x with law := f x.law }

def Law.t (x : Law) (t : Nat) : ThrLaw := x.thr.getD t ThrLaw.reset
def Law.modThr (x : Law) (t : Nat) (f : ThrLaw → ThrLaw) : Law := { x with thr := updAt x.thr t f }
def LawRun.modThr (x : LawRun) (t : Nat) (f : ThrLaw → ThrLaw) : LawRun := x.mod fun l => l.modThr t f

/-- The law state of the module and of a thread, with LAW_STATE where it changes (R141, R144). -/
def LawRun.setSt (x : LawRun) (code : Nat) : LawRun :=
  if x.law.st = code then x else (x.mod fun l => { l with st := code }).event 0 0xF code
def LawRun.setThr (x : LawRun) (t code : Nat) : LawRun :=
  if (x.law.t t).st = code then x else (x.modThr t fun h => { h with st := code }).event 0 t code

/-- A thread enters TRIPPED: its shutdown pattern starts with the next frame (R143). -/
def LawRun.tripThr (x : LawRun) (cause t : Nat) : LawRun :=
  if (x.law.t t).st = 7 then x
  else ((x.modThr t fun h => { h with trip := cause, pat := some 0 }).event 6 t cause).setThr t 7

/-- The threads that switch, as a law sees them (R115). -/
def State.lawOn (s : State) (t : Nat) : Bool := s.present t && s.threadBefore t = 2
def State.lawSwitching (s : State) : List Nat := numsWhere 8 s.lawOn

/-- A module cause trips the module law and every SWITCHING thread (R143). -/
def LawRun.tripAll (x : LawRun) (on : List Nat) (cause : Nat) : LawRun :=
  if x.law.st = 7 then x
  else
    let x := ((x.mod fun l => { l with trip := cause }).event 6 0xF cause).setSt 7
    on.foldl (fun x t => x.tripThr cause t) x

/-- The grid mode in force, and the machine mode (R138). -/
def Law.grid (x : Law) : Nat := x.mode % 16
def Law.mach (x : Law) : Nat := x.mode / 16

/-- The mean of values, 0 of none. -/
def meanOf (l : List Int) : Int := if l.isEmpty then 0 else l.foldl (· + ·) 0 / (l.length : Int)

/-! ### Setpoints (R139, R140) -/

/-- The ranges of setpoint words 0 to 5. -/
def spRange (j : Nat) : Int × Int :=
  [(-puOf 12 10, puOf 12 10), (-puOf 1 1, puOf 1 1), (0, puOf 12 10), (-puOf 5 100, puOf 5 100), (puOf 1 4, puOf 399 100),
   (0, puOf 1 1)].getD j (0, 0)

/-- Setpoint word j as the module law takes it: the word, or the trajectory axis that SP_SRC names. -/
def State.lawWord (s : State) (i : LaneId) (r : CtxRun) (j : Nat) : Int :=
  let l := s.lane i
  if bitAt (l.cn r 40 46) j then (l.axisNow (l.cn r 40 47 % 4) j).1.toInt else (memRd s.mod.setpoints j).toInt

/-- The setpoints in force, each clamped to its range, with SP_CLAMP (R139, R140). -/
def State.lawSetpoints (s : State) (i : LaneId) (r : CtxRun) (x : Law) : Law :=
  let raw := (List.range 6).map (s.lawWord i r)
  let v := raw.mapIdx fun j y => clampI y (spRange j).1 (spRange j).2
  let on := s.lawSwitching
  let p0 := if (s.lane i).cn r 40 48 = 1 then meanOf (on.map fun t => (x.t t).avail)
    else if x.grid = 1 && x.mach = 0 && !on.isEmpty then meanOf (on.map fun t => (x.t t).dcOut)
    else v.getD 0 0
  { x with p0 := p0, q0 := v.getD 1 0, v0 := v.getD 2 0, f0 := v.getD 3 0, zv := v.getD 4 0,
           il := (if x.st = 4 then (s.lane i).ci r 40 42 else v.getD 5 0), spClamp := decide (raw ≠ v) }

/-! ### Sensing and the PLL (R146, R153) -/

/-- One axis of the DSOGI over an angle of wt rad: in-phase and quadrature outputs (PRESUMED: the usual form; log 47). -/
def sogiStep (k wt v x q : Int) : Int × Int := (x + mulQ wt (mulQ k (v - x) - q), q + mulQ wt x)

/-- The PCC voltages of a frame: in the θv frame, their sequence magnitudes, and the running turn's sums. At a turn boundary the
RMS of each phase over the turn that ended is published, in units of the rated value (R146). -/
def Law.sense (x : Law) (c : Nat → Word) (v : List Int) (thV : Word) (turn : Bool) (nn : Nat) : Law :=
  let ab := clarkeQ (v.getD 0 0) (v.getD 1 0) (v.getD 2 0)
  let dq := parkQ ab thV
  let wt := mulQ x.wg ((c 0).toInt * x.tf * twoPi / (2 ^ 64 : Nat))
  let g := fun k => x.sogi.getD k 0
  let a := sogiStep (c 17).toInt wt ab.1 (g 0) (g 1)
  let b := sogiStep (c 17).toInt wt ab.2 (g 2) (g 3)
  let rms := x.sums.map fun n => if x.count = 0 then 0 else ((isqrt (2 * n / x.count) : Nat) : Int)
  let x := if turn then
      { x with sums := [0, 0, 0], count := 0, full := decide (nn ≤ x.count), rmin := (rms.min?).getD 0, rmax := (rms.max?).getD 0 }
    else x
  { x with vd := dq.1, vq := dq.2, sogi := [a.1, a.2, b.1, b.2], vp := magQ ((a.1 - b.2) / 2) ((b.1 + a.2) / 2),
           vn := magQ ((a.1 + b.2) / 2) ((b.1 - a.2) / 2), sums := x.sums.mapIdx (fun k n => n + (v.getD k 0).natAbs ^ 2),
           count := x.count + 1 }

/-- The PLL: ω_g by a PI on the phase error; an error beyond PJ_TH steps θg by itself (R153). -/
def LawRun.pll (x : LawRun) (c : Nat → Word) (v : List Int) (thG : Word) : LawRun :=
  let l := x.law
  let g := fun k => l.sogi.getD k 0
  let ab := if c 14 = 0 then clarkeQ (v.getD 0 0) (v.getD 1 0) (v.getD 2 0) else ((g 0 - g 3) / 2, (g 2 + g 1) / 2)
  let err : Int := if ab = (0, 0) then 0 else (angleOf ab.1 ab.2 - thG).toInt
  let jump := (c 11).toInt < (err.natAbs : Int)
  let rad := if jump then 0 else err * twoPi / (2 ^ 32 : Nat)
  let i := l.pll + overFrame (mulK (c 16).toInt rad) l.tf
  let w := puOf 1 1 + mulK (c 15).toInt rad + i
  let x := (x.mod fun l => { l with wg := w, pll := i, jumped := jump }).out 0x30000001 (BitVec.ofInt 32 (mulQ w (c 0).toInt))
  if jump then x.out 0x40000001 (BitVec.ofInt 32 err) else x

/-! ### Modes (R134, R141, R156, R158) -/

/-- The module law follows its threads: θv is loaded from θt at the first boundary after the first thread is ARMED; the first
thread that switches sets the module mode; with none switching the law is IDLE (R134, R141). -/
def State.lawMode (s : State) (r : LawRun) (incV incN : Int) : LawRun :=
  let armed := (List.range 8).any fun t => s.present t && (s.threadBefore t = 1 || s.threadBefore t = 2)
  let r := if armed && !r.law.loaded then (r.mod fun x => { x with loaded := true }).out 0x60000000 0x8000000F
    else if armed then r else r.mod fun x => { x with loaded := false }
  match s.lawSwitching with
  | [] => (r.setSt 0).mod fun x => { x with mode := 0, frt := 0, trip := (if x.st = 0 then x.trip else 0), xfer := 0, want := 0,
                                            pj := 0, pjOn := false, suspect := false }
  | t :: _ =>
    if r.law.st ≠ 0 then r
    else
      let m := (memRd s.mod.setpoints (modeKey t)).toNat % 256
      let r := r.mod fun x => { x with mode := m, trip := 0, w := divQ incV incN, xv := 0, e := 0, p0r := x.p0, ramp := false,
                                       frtT := 0, band := 0, freqT := 0, rocofT := 0, islT := 0, deadT := 0, limT := 0,
                                       setT := 0, seg := false }
      r.setSt (if m % 16 = 3 then 4 else 1)

/-- Black start: a live grid within BS_DEAD_T and a limit engaged for BS_ILIM_T trip; with the segment of V0 ended and the voltage
settled the law enters RUN in GFM (R156). -/
def LawRun.blackStart (r : LawRun) (c : Nat → Word) (on : List Nat) (running : Bool) : LawRun :=
  let x := r.law
  if x.st ≠ 4 then r
  else
    let limited := on.any fun t => (x.t t).lim1 || (x.t t).lim2
    let near := decide ((x.vp - x.v0).natAbs ≤ (c 45).toNat)
    let seg := x.seg || running
    let dead := x.deadT + x.tf
    let lim := if limited then x.limT + x.tf else 0
    let set := if seg && !running && near then x.setT + x.tf else 0
    let r := r.mod fun x => { x with deadT := dead, limT := lim, setT := set, seg := seg,
                                     e := (if dead ≤ msTime (c 41).toNat then 0 else x.v0) }
    if dead ≤ msTime (c 41).toNat && (c 40).toInt < x.vp then r.tripAll on 5
    else if msTime (c 43).toNat ≤ lim then r.tripAll on 6
    else if seg && !running && near && msTime (c 44).toNat ≤ set then
      ((r.mod fun x => { x with mode := x.mode / 16 * 16 + 1, p0r := x.pf, xv := 0 }).event 4 0xF 3).setSt 1
    else r

/-- The voltage drop of the virtual impedance on the d axis, the mean of the threads that switch (R150, R158). -/
def Lane.virtualDrop (l : Lane) (r : CtxRun) (x : Law) (on : List Nat) : Int :=
  meanOf (on.map fun t =>
    mulQ (mulQ (l.ci r (8 + t) 0) x.zv) (x.t t).refD - mulQ x.w (mulQ (mulQ (l.ci r (8 + t) 1) x.zv) (x.t t).refQ))

/-- A transfer between GFM and GFL: it begins in RUN, on a request committed at this frame's boundary or after islanding was
detected; held while FRT_STATE is not NORMAL; it is complete with the next frame (R158). -/
def State.lawTransfer (s : State) (r : CtxRun) (l : Lane) (y : LawRun) (on : List Nat) (incV incN : Int) : LawRun :=
  let x := y.law
  let word := (memRd s.mod.setpoints 6).toNat % 256
  let asked := (s.mod.setAt 6).any fun p => p.tally = s.mod.tally
  let want := if x.want ≠ 0 then x.want else if asked && (word % 16 = 1 || word % 16 = 2) then word else 0
  if x.st = 5 then
    (if x.xfer = 1 then ((y.mod fun x => { x with xfer := 0 }).event 4 0xF 2).setSt 1 else y)
  else if x.st ≠ 1 || x.frt ≠ 0 || (x.grid ≠ 1 && x.grid ≠ 2) || want = 0 || want % 16 = x.grid then
    y.mod fun x => { x with want := (if x.frt = 0 then 0 else x.want) }
  else
    let y := y.mod fun x =>
      if want % 16 = 1 then
        let w := divQ incV incN
        let vref := x.v0 + mulQ (l.ci r 40 7) (x.q0 - x.qf)
        { x with w := w, p0r := x.pf, ramp := true, xv := x.vp + l.virtualDrop r { x with w := w } on - vref }
      else x
    (y.mod fun x => { x with mode := want, want := 0, xfer := 1 }).setSt 5

/-! ### Disturbances, trips and islanding (R143, R154, R155, R157) -/

/-- The interpolated word of a table of 256 at a position (R110). -/
def lutAt (w : Nat → Word) (p : Nat) : Int :=
  let k := p / 2 ^ 24 % 256
  let a := (w k).toInt
  a + shr (((w (min 255 (k + 1))).toInt - a) * (p % 2 ^ 24 : Nat)) 24

/-- The position of FRT_TIME in the curve tables; beyond CURVE_SPAN the last entry holds (R155). -/
def curvePos (tf span : Nat) : Nat := if span = 0 then 2 ^ 32 - 1 else min (2 ^ 32 - 1) (tf * 2 ^ 32 / msTime span)

/-- The law state that FRT_STATE gives. -/
def frtSt (frt : Nat) : Nat := if frt = 1 then 2 else if frt = 2 then 3 else 1

/-- The disturbance state machine and the voltage curves (R154, R155). -/
def LawRun.ride (r : LawRun) (c : Nat → Word) (on : List Nat) (turn : Bool) : LawRun :=
  let x := r.law
  if x.st = 0 || x.st = 4 || x.st = 7 then r
  else
    let low : Bool := x.vp < (c 19).toInt
    let high : Bool := (c 20).toInt < x.vp
    let inBand := fun (v : Int) => decide ((c 21).toInt ≤ v) && decide (v ≤ (c 22).toInt)
    let show_ := fun (r : LawRun) => if r.law.st = 5 then r else r.setSt (frtSt r.law.frt)
    if x.frt = 1 then
      let band := if inBand x.vp then x.band + x.tf else 0
      let r := r.mod fun x => { x with frtT := x.frtT + x.tf, band := band }
      let pos := curvePos r.law.frtT (c 25).toNat
      if turn && bitAt (c 26).toNat 0 && x.rmin < lutAt (fun k => c (192 + k)) pos then r.tripAll on 1
      else if turn && bitAt (c 26).toNat 1 && lutAt (fun k => c (448 + k)) pos < x.rmax then r.tripAll on 2
      else if turn && msTime (c 23).toNat ≤ band && inBand x.vp && x.full && inBand x.rmin && inBand x.rmax then
        show_ ((r.mod fun x => { x with frt := 2, p0r := x.pf, ramp := true }).event 1 0xF 3)
      else r
    else if low || high then
      show_ ((r.mod fun x => { x with frt := 1, frtT := 0, band := 0 }).event 1 0xF (if x.frt = 2 then 5 else if low then 1 else 2))
    else if x.frt = 2 && !x.ramp then show_ ((r.mod fun x => { x with frt := 0 }).event 1 0xF 4)
    else r

/-- FREQ: ω_g outside its band for F_TRIP_T (R143). -/
def LawRun.freqTrip (r : LawRun) (c : Nat → Word) (on : List Nat) : LawRun :=
  let x := r.law
  if x.st = 0 || x.st = 7 then r
  else
    let n := if x.wg < (c 27).toInt || (c 28).toInt < x.wg then x.freqT + x.tf else 0
    let r := r.mod fun x => { x with freqT := n }
    if bitAt (c 26).toNat 2 && 0 < n && msTime (c 29).toNat ≤ n then r.tripAll on 8 else r

/-- ω_g in Hz/s as Q16.16 from two frames, and the shift of the references in bt: AFS_BIAS + K_AFS × (f_g − f_n), within ±10°
(R157). f_n follows from INC_N. -/
def rocofRaw (dw incN : Int) (tf : Nat) : Int :=
  if tf = 0 then 0 else dw * incN * (400000000 * 400000000 : Nat) / (2 ^ 45 * tf : Nat)
def afsShift (c : Nat → Word) (wg : Int) : Int :=
  let df := (wg - puOf 1 1) * (c 0).toInt * 400000000 / (2 ^ 61 : Nat)
  let deg := clampI ((c 35).toInt + mulK (c 34).toInt df) (-(10 * 65536)) (10 * 65536)
  deg * (2 ^ 16 : Nat) / 360

/-- Islanding detection in GFL: the RoCoF criterion and the frequency window; each trips, or asks for a transfer to GFM in the
next frame (R157). `wOld` is ω_g of the frame before. -/
def LawRun.island (r : LawRun) (c : Nat → Word) (on : List Nat) (wOld : Int) : LawRun :=
  let x := r.law
  let rocof := lagMs (c 32).toNat x.tf x.rocof (rocofRaw (x.wg - wOld) (c 0).toInt x.tf)
  let r := r.mod fun x => { x with rocof := rocof }
  if x.grid ≠ 2 || x.st ≠ 1 || x.frt ≠ 0 || !bitAt (c 26).toNat 3 then
    r.mod fun x => { x with afs := 0, rocofT := (if x.frt = 0 then 0 else x.rocofT), islT := (if x.frt = 0 then 0 else x.islT),
                            suspect := x.suspect && x.frt ≠ 0 }
  else
    let fast : Bool := (c 31).toInt < (rocof.natAbs : Int)
    let off : Bool := x.wg < (c 36).toInt || (c 37).toInt < x.wg
    let a := if fast then x.rocofT + x.tf else 0
    let b := if off then x.islT + x.tf else 0
    let r := r.mod fun x => { x with afs := afsShift c x.wg, rocofT := a, islT := b, suspect := fast || off }
    let code := if fast && msTime (c 33).toNat ≤ a then 1 else if off && msTime (c 38).toNat ≤ b then 2 else 0
    if code = 0 then r
    else
      let r := r.event 2 0xF code
      if c 39 = 0 then r.tripAll on 4 else r.mod fun x => { x with want := x.mode / 16 * 16 + 1, rocofT := 0, islT := 0 }

/-! ### The virtual synchronous machine (R148, R149, R153, R154) -/

/-- P0 as ramped: frozen in FAULT, moving at P_RAMP after a disturbance or a transfer, else the setpoint (R154, R158). -/
def Law.rampP (x : Law) (c : Nat → Word) : Law :=
  if x.frt = 1 then x
  else if x.ramp then
    let p := toward x.p0r x.p0 (overFrame ((c 24).toInt * (2 ^ 13 : Nat)) x.tf)
    { x with p0r := p, ramp := decide (p ≠ x.p0) }
  else { x with p0r := x.p0 }

/-- A change of θv's increment by the clamp of R58 goes back into ω (R149). -/
def LawRun.readBack (r : LawRun) (incV incN : Int) : LawRun :=
  match r.law.inc with
  | some x =>
    if incV = x || r.law.st = 0 then r
    else (r.mod fun l => { l with w := divQ (incV - l.pj) incN, wClamp := true }).event 7 0xF 3
  | none => r

/-- The correction of a large δ after a jump, as an increment: it begins where |δ| exceeds PJ_DELTA_MAX one frame after the jump
and lasts until it does not (R153). -/
def Law.correct (x : Law) (c : Nat → Word) (jumpBefore : Bool) : Law :=
  let big : Bool := (c 12).toInt < (x.delta.natAbs : Int)
  let on := x.grid = 1 && big && (x.pjOn || jumpBefore)
  let d := mulQ (c 13).toInt (c 0).toInt
  { x with pjOn := on, pj := (if !on then 0 else if 0 < x.delta then -d else d) }

/-- The swing equation, with its clamp (R148). -/
def Law.swing (x : Law) (c : Nat → Word) : Law :=
  let w0 := puOf 1 1 + x.f0
  let pset := x.p0r + mulK (c 3).toInt (w0 - x.w)
  let wd := if c 4 = 0 then w0 else x.wg
  let h := if x.hEff = 0 then (c 1).toInt else x.hEff
  let dw := if h = 0 then 0 else (pset - x.pv - mulK (c 2).toInt (x.w - wd)) * x.tf / (2 * h * 400000000)
  let w := clampI (x.w + dw) (c 5).toInt (c 6).toInt
  { x with w := w, wClamp := decide (w = (c 5).toInt) || decide (w = (c 6).toInt) }

/-- The internal voltage (R148). -/
def Law.voltage (x : Law) (c : Nat → Word) : Law :=
  let vref := x.v0 + mulQ (c 7).toInt (x.q0 - x.qf)
  let xv := clampI (x.xv + overFrame (mulK (c 8).toInt (vref - x.vp)) x.tf) (-(c 9).toInt) (c 9).toInt
  { x with xv := xv, e := vref + xv }

/-- θv driven: by the swing equation in GFM, at ω0 in a black start, as a follower of θg in GFL; its increment is published
(R134, R148, R156). -/
def LawRun.drive (r : LawRun) (c : Nat → Word) (jumpBefore : Bool) : LawRun :=
  let incN := (c 0).toInt
  if r.law.st = 0 || r.law.st = 7 then r.mod fun x => { x with inc := none }
  else
    let r := r.mod fun x =>
      if x.st = 4 then { x with w := puOf 1 1 + x.f0, pj := 0, pjOn := false }
      else if x.grid = 1 then ((x.correct c jumpBefore).swing c).voltage c
      else { x with w := x.wg + divQ (-((c 18).toInt * x.delta) / 400000000) incN, pj := 0, pjOn := false, wClamp := false }
    let inc := mulQ r.law.w incN + r.law.pj
    (r.mod fun x => { x with inc := some inc }).out 0x30000000 (BitVec.ofInt 32 inc)

/-- A run of context 40, the module grid law. -/
def State.lawGrid (s : State) (i : LaneId) (r : CtxRun) : LawRun :=
  let l := s.lane i
  let c := fun o => l.coef r 40 o
  let incN := (c 0).toInt
  let v := [s.lawIn i 40 0, s.lawIn i 40 1, s.lawIn i 40 2]
  let thV := (l.latched r 0).1
  let incV := (l.latched r 0).2.toInt
  let thG := (l.latched r 1).1
  let turn := l.asc.frameStart = 0
  let x := l.cle.law
  let on := s.lawSwitching
  let n := (numsWhere 8 s.present).length
  let total := fun (f : ThrLaw → Int) => if n = 0 then 0 else ((numsWhere 8 s.present).map fun t => f (x.t t)).foldl (· + ·) 0 / (n : Int)
  let x := { x with tf := (if incV ≤ 0 then x.tf else (2 ^ 64 / (l.asc.nInForce * incV)).toNat),
                    pf := total (·.p), qf := total (·.q), wClamp := false }
  let x := (s.lawSetpoints i r x).sense c v thV turn l.asc.nInForce
  let x := { x with delta := (thV - thG).toInt,
                    pv := meanOf (on.map fun t => mulQ x.vd (x.t t).refD + mulQ x.vq (x.t t).refQ) }
  let jumpBefore := x.jumped
  let wOld := x.wg
  let y := ({ law := x, outs := [] } : LawRun).pll c v thG
  let y := (s.lawMode y incV incN).readBack incV incN
  let running := (l.axisNow (l.cn r 40 47 % 4) 2).2.getLsbD 0
  let y := (((y.blackStart c on running).ride c on turn).freqTrip c on).island c on wOld
  let y := (s.lawTransfer r l y on incV incN).mod fun x => x.rampP c
  y.drive c jumpBefore

/-! ### The thread laws (R141 to R143, R150, R154, R158, R160) -/

/-- A DC-link PI: its output and its integrator, held within ±lim (R160; the bound is the model's, log 47). -/
def dcPi (kp ki lim : Int) (tf : Nat) (ref v int : Int) : Int × Int :=
  let err := (mulQ ref ref - mulQ v v) / 2
  let int := clampI (int + overFrame (mulK ki err) tf) (-lim) lim
  (mulQ kp err + int, int)

/-- The virtual admittance of a thread over a frame: its state and whether the threshold impedance acts (R150). -/
def Law.admittance (x : Law) (c : Nat → Word) (incN d q : Int) : (Int × Int) × Bool :=
  let over_ := max 0 (magQ d q - (c 2).toInt)
  let dr := mulQ (c 3).toInt over_
  let dx := mulQ (c 4).toInt over_
  let rv := mulQ (c 0).toInt x.zv + dr
  let lv := mulQ (c 1).toInt x.zv + divQ dx x.w
  let wt := incN * x.tf * twoPi / (2 ^ 64 : Nat)
  let xl := mulQ x.w lv
  ((d + mulQ wt (divQ (x.e - x.vd - mulQ rv d + mulQ xl q) lv), q + mulQ wt (divQ (0 - x.vq - mulQ rv q - mulQ xl d) lv)),
    dr ≠ 0 || dx ≠ 0)

/-- The current references of a thread in GFL: the DC link on the d axis, Q0 on the q axis with the injection of a disturbance,
displaced by the shift of R157 (R154, R157, R158). -/
def Law.follow (x : Law) (c : Nat → Word) (h : ThrLaw) (pRamp : Int) : ThrLaw :=
  let goal := -divQ x.q0 x.vd
  let iq := match h.iqRamp with
    | some a => toward a goal (overFrame (pRamp * (2 ^ 13 : Nat)) x.tf)
    | none => goal
  let dip := puOf 1 1 - x.vp
  let iqx := if x.frt = 1 && (c 6).toInt < (dip.natAbs : Int) then iq - mulK (c 5).toInt dip else iq
  let v := iparkQ (h.dcOut, iqx) (BitVec.ofInt 32 x.afs)
  { h with refD := v.1, refQ := v.2, iqRamp := (if iq = goal then none else some iq), lim1 := false }

/-- The steps of a thread's shutdown pattern: the most that a leg of it takes (R143, R226). -/
def State.lawSteps (s : State) (t : Nat) : Nat :=
  ((List.range 6).map fun k => (blockSteps (s.legType (6 * t + k)) (s.rd SLC_ENV_INNER_ANPC_CLAMP)).length).foldl max 0

/-- A thread's law enters and leaves with its thread: SWITCHING with the module mode, else MODE_MIX; STOP starts the stop
sequence (R141, R142). -/
def State.lawEnter (s : State) (t : Nat) (y : LawRun) : LawRun :=
  let h := y.law.t t
  let word := (memRd s.mod.setpoints (modeKey t)).toNat % 256
  if !s.lawOn t then
    (y.setThr t 0).modThr t fun h => { h with sw := false, pat := none, lim1 := false, lim2 := false, refD := 0, refQ := 0 }
  else if !h.sw then
    let y := y.modThr t fun h =>
      { h with sw := true, trip := 0, pat := none, refD := 0, refQ := 0, dcInt := 0, base := 0, xd := 0, xq := 0, spd := 0,
               drive := 0, bad := 0, miss := 0, failed := false, iqRamp := none }
    if y.law.st = 7 then y.tripThr y.law.trip t
    else if word ≠ y.law.mode then y.tripThr 7 t else y.setThr t y.law.st
  else if h.st = 7 || h.st = 6 then y
  else if word % 16 = 0 then y.setThr t 6
  else y.setThr t y.law.st

/-- A run of context 8 + t, the thread outer law. -/
def State.lawOuter (s : State) (i : LaneId) (r : CtxRun) (t : Nat) : LawRun :=
  let l := s.lane i
  let c := fun o => l.coef r (8 + t) o
  let y := s.lawEnter t { law := l.cle.law, outs := [] }
  let x := y.law
  let raw := (memRd s.mod.setpoints (32 + 16 * t)).toInt
  let vref := clampI raw (puOf 8 10) (puOf 12 10)
  let dc := dcPi (c 7).toInt (c 8).toInt (l.ci r t 12) x.tf vref (x.t t).vdc (x.t t).dcInt
  let y := y.modThr t fun h => { h with dcOut := dc.1, dcInt := dc.2, clamped := decide (raw ≠ vref) }
  let y := if x.xfer = 1 && x.grid = 2 then
      y.modThr t fun h => { h with dcInt := h.refD, dcOut := h.refD, iqRamp := some h.refQ }
    else y
  let h := y.law.t t
  let was := h.lim1
  let y := if h.st = 0 || h.st = 7 then y
    else if h.st = 6 then
      let m := magQ h.refD h.refQ
      let k := max 0 (m - overFrame ((c 9).toInt * (2 ^ 13 : Nat)) x.tf)
      let y := y.modThr t fun h => { h with refD := (if m = 0 then 0 else h.refD * k / m), refQ := (if m = 0 then 0 else h.refQ * k / m) }
      (match h.pat with
       | none => if k = 0 then y.modThr t fun h => { h with pat := some 0 } else y
       | some n => if n = s.lawSteps t * (c 11).toNat then (y.event 4 t 1).modThr t fun h => { h with pat := some (n + 1) } else y)
    else if x.grid = 2 then y.modThr t fun h => x.follow (fun o => c o) h (l.ci r 40 24)
    else
      let a := x.admittance c (l.ci r 40 0) h.refD h.refQ
      y.modThr t fun h => { h with refD := a.1.1, refQ := a.1.2, lim1 := a.2 }
  let h := y.law.t t
  let y := if h.lim1 && !was then y.event 7 t 1 else y
  let slot := 0x70000000 + (8 + t) * 128
  if h.st = 0 then y
  else (y.out slot (BitVec.ofInt 32 h.refD)).out (slot + 1) (BitVec.ofInt 32 h.refQ)

/-! ### The current loops (R137, R143, R147, R151, R161) -/

/-- The bound of the current reference: its magnitude to I_LIM by the priority, then i_d to ID_BASE + ID_EXTRA_MAX (R151). -/
def boundRef (lim : Int) (prio : Nat) (top : Option Int) (d q : Int) : Int × Int :=
  let rest := fun (a : Int) => ((isqrt (lim.natAbs * lim.natAbs - a.natAbs * a.natAbs) : Nat) : Int)
  let v := match prio with
    | 0 =>
      let m := magQ d q
      if m ≤ lim then (d, q) else (d * lim / m, q * lim / m)
    | 1 =>
      let q := clampI q (-lim) lim
      (clampI d (-rest q) (rest q), q)
    | _ =>
      let d := clampI d (-lim) lim
      (d, clampI q (-rest d) (rest d))
  (top.elim v.1 (min v.1), v.2)

/-- The members of a thread's sharing set: those with the same SET_MASK, itself alone where that is 0 (R161). -/
def Lane.sharing (l : Lane) (r : CtxRun) (t : Nat) : List Nat :=
  let m := l.cn r (48 + t) 0 % 256
  if m = 0 then [t] else numsWhere 8 fun u => l.cn r (48 + u) 0 % 256 = m

/-- The current controller's PI: the voltage reference of an axis and its integrator (the worked controller of 04). -/
def loopPi (c : Nat → Word) (e x : Int) : Int × Int :=
  let x := clampI (x + mulQ e (c 2).toInt) (c 4).toInt (c 3).toInt
  (clampI (mulQ e (c 1).toInt + x) (c 6).toInt (c 5).toInt, x)

/-- The binding word of a compare (R116). -/
def cmpBind (leg sw k : Nat) : Nat := 0x10000000 + leg + 64 * sw + 512 * k

/-- The compares of one leg from its voltage reference: the worked controller's for a two-level leg, the template's for
others. -/
def State.legOuts (s : State) (c : Nat → Word) (leg : Nat) (v : Int) : List (Nat × Word) :=
  if s.legType leg = 0 then
    let h := clampI ((c 10).toInt + mulQ v (c 7).toInt) 0 (c 11).toInt
    let set := BitVec.ofInt 32 (shr ((c 8).toInt - h) 13)
    let clr := BitVec.ofInt 32 (shr ((c 8).toInt + h) 13)
    [(cmpBind leg 0 0, set), (cmpBind leg 0 1, clr), (cmpBind leg 3 0, clr), (cmpBind leg 3 1, set)]
  else
    (List.range (if s.legType leg = 3 then 6 else 4)).flatMap fun k =>
      [(cmpBind leg k 0, (Config.libCompare leg k 0 (BitVec.ofInt 32 v)).setWidth 32),
       (cmpBind leg k 1, (Config.libCompare leg k 1 (BitVec.ofInt 32 v)).setWidth 32)]

/-- The compares of a step of the shutdown pattern: the switches of the step go off and stay off, the others keep their level
(R143; SET = CLR keeps a level, and CLR just above SET turns it off). -/
def State.patternOuts (s : State) (t step : Nat) (first : Bool) : List (Nat × Word) :=
  (List.range 6).flatMap fun k =>
    let leg := 6 * t + k
    let off := (blockSteps (s.legType leg) (s.rd SLC_ENV_INNER_ANPC_CLAMP)).getD step []
    (List.range 6).flatMap fun sw =>
      [(cmpBind leg sw 0, 0), (cmpBind leg sw 1, if first && off.contains sw then 1 else 0)]

def LawRun.outAll (x : LawRun) (l : List (Nat × Word)) : LawRun := l.foldl (fun x p => x.out p.1 p.2) x

/-- A run of context t, the grid-side current loop. -/
def State.lawLoop (s : State) (i : LaneId) (r : CtxRun) (t : Nat) : LawRun :=
  let l := s.lane i
  let c := fun o => l.coef r t o
  let x := l.cle.law
  let cur := fun k => (s.binding i t k).1.toInt * (c 0).toInt / (2 ^ 31 : Nat)
  let th := (l.latched r 0).1
  let m := parkQ (clarkeQ (cur 0) (cur 1) (cur 2)) th
  let y := ({ law := x, outs := [] } : LawRun).modThr t fun h => { h with ia := cur 0, ib := cur 1, ic := cur 2, mD := m.1, mQ := m.2 }
  let sum := (l.sharing r t).foldl (fun a u => a + ((y.law.t u).ia + (y.law.t u).ib + (y.law.t u).ic)) 0
  let y := if (c 15).toInt < (sum.natAbs : Int) then (y.event 5 t 1).modThr t fun h => { h with failed := true } else y
  let h := y.law.t t
  match h.pat with
  | some n =>
    let per := max 1 (l.cn r (8 + t) 11)
    (y.outAll (s.patternOuts t (n / per) (n % per = 0))).modThr t fun h =>
      { h with pat := some (if h.st = 6 && n = s.lawSteps t * per then n else n + 1) }
  | none =>
    if h.st = 0 then y
    else
      let lim := mulQ (c 12).toInt x.il
      let frozen := x.frt ≠ 0 || l.ci r 40 30 < ((x.w - (puOf 1 1 + x.f0)).natAbs : Int)
      let base := if frozen then h.base else lagMs (l.cn r (8 + t) 10) x.tf h.base h.mD
      let slot := fun k => (l.cle.mailAt (8 * (8 + t) + k) s.now).1.toInt
      let rd := slot 0 + h.corrD
      let rq := slot 1 + h.corrQ
      let v := boundRef lim (if x.frt = 1 then (c 14).toNat else (c 13).toNat) (x.idMax.map (base + ·)) rd rq
      let clip := decide (v ≠ (rd, rq))
      let pd := loopPi c (v.1 - h.mD) h.xd
      let pq := loopPi c (v.2 - h.mQ) h.xq
      let y := y.modThr t fun h => { h with base := base, lim2 := clip, xd := pd.2, xq := pq.2 }
      let y := if clip && !h.lim2 then y.event 7 t 2 else y
      let ph := iclarkeQ (iparkQ (pd.1, pq.1) (th + c 9))
      y.outAll ((List.range 3).flatMap fun k => s.legOuts c (6 * t + 3 + k) (ph.getD k 0 + h.cmOut))

/-- A run of context 16 + t, the machine-side current loop: i_q = KT × torque, i_d = ID_M (R159). -/
def State.lawMachLoop (s : State) (i : LaneId) (r : CtxRun) (t : Nat) : LawRun :=
  let l := s.lane i
  let c := fun o => l.coef r (16 + t) o
  let cur := fun k => (s.binding i (16 + t) k).1.toInt * (c 0).toInt / (2 ^ 31 : Nat)
  let th := (l.latched r 2).1
  let m := parkQ (clarkeQ (cur 0) (cur 1) (cur 2)) th
  let y : LawRun := { law := l.cle.law, outs := [] }
  let h := y.law.t t
  if h.st = 0 || h.pat.isSome then y
  else
    let v := boundRef (c 12).toInt (c 13).toNat none (c 25).toInt (mulQ (c 24).toInt h.torque)
    let pd := loopPi c (v.1 - m.1) h.mxd
    let pq := loopPi c (v.2 - m.2) h.mxq
    let ph := iclarkeQ (iparkQ (pd.1, pq.1) (th + c 9))
    (y.modThr t fun h => { h with mxd := pd.2, mxq := pq.2 }).outAll
      ((List.range 3).flatMap fun k => s.legOuts c (6 * t + k) (ph.getD k 0))

/-! ### Monitor, machine law, sharing and reserve (R146, R147, R159 to R163) -/

/-- A run of context 32 + t, the thread monitor: p and q filtered with TAU_PQ, the DC link, and the plausibility checks, whose
failure over PL_N frames trips the thread (R146, R147). -/
def State.lawMonitor (s : State) (i : LaneId) (r : CtxRun) (t : Nat) : LawRun :=
  let l := s.lane i
  let ctx := 32 + t
  let x := l.cle.law
  let m := fun k => s.lawIn i ctx k
  let cur := parkQ (clarkeQ (m 0) (m 1) (m 2)) (l.latched r 0).1
  let p := mulQ x.vd cur.1 + mulQ x.vq cur.2
  let q := mulQ x.vq cur.1 - mulQ x.vd cur.2
  let cap := clarkeQ (m 6) (m 7) (m 8)
  let tau := l.cn r 40 10
  let stale := (List.range 9).any fun k => l.bound ctx k && !(s.binding i ctx k).2.getLsbD 0
  let y := ({ law := x, outs := [] } : LawRun).modThr t fun h =>
    { h with p := lagMs tau x.tf h.p p, q := lagMs tau x.tf h.q q, vdc := m 3, vhp := m 4, vhn := m 5,
             vcap := magQ cap.1 cap.2, miss := (if stale then h.miss + 1 else 0) }
  let h := y.law.t t
  let lim := l.ci r ctx 0
  let missBad : Bool := stale && l.cn r ctx 1 ≤ h.miss
  let half : Bool := s.legType (6 * t) ≠ 0 && l.bound ctx 4 && l.bound ctx 5 && lim < ((h.vdc - (h.vhp + h.vhn)).natAbs : Int)
  let pair : Bool := l.bound ctx 6 && lim < ((h.vcap - x.vp).natAbs : Int)
  let y := if missBad then y.event 5 t 2 else y
  let y := if half then y.event 5 t 3 else y
  let y := if pair then y.event 5 t 4 else y
  let bad := if h.failed || missBad || half || pair then h.bad + 1 else 0
  let y := y.modThr t fun h => { h with bad := bad, failed := false }
  if 0 < bad && l.cn r t 16 ≤ bad && s.lawOn t && h.sw then y.tripThr 3 t else y

/-- The torque of the tracking laws: OPT_TORQUE, TSR by a speed PI, or the set torque; and the PI's integrator (R159). -/
def trackTorque (mach : Nat) (c : Nat → Word) (tf : Nat) (tset : Int) (h : ThrLaw) (wr : Int) : Int × Int :=
  let top := max 0 (min (c 1).toInt (divQ (c 2).toInt wr))
  match mach with
  | 1 => (if (c 3).toInt < wr then min (mulQ (c 0).toInt (mulQ wr wr)) top else 0, h.spd)
  | 2 =>
    let dw := if tf = 0 then 0 else (wr - h.wr) * (2 ^ 16 * 400000000 : Nat) / (tf : Int)
    let pa := mulQ wr (h.torque + mulK (2 * (c 9).toInt) dw)
    let w3 := mulQ wr (mulQ wr wr)
    let pos := mulK (c 11).toInt (divQ pa w3)
    let lam := lutAt (fun k => c (16 + k)) (clampI (pos * 8) 0 (2 ^ 32 - 1)).toNat
    let ref := if lam = 0 then wr else wr * (c 4).toInt / lam
    let e := wr - ref
    let int := clampI (h.spd + overFrame (mulK (c 6).toInt e) tf) 0 top
    (if (c 3).toInt < wr then clampI (mulQ (c 5).toInt e + int) 0 top else 0, int)
  | 3 => (tset, h.spd)
  | _ => (0, h.spd)

/-- A run of context 24 + t, the machine law: the rotor speed from the latched rotor angle, the tracking law with its available
power, and the torque by the grid mode (R159, R160). -/
def State.lawMachine (s : State) (i : LaneId) (r : CtxRun) (t : Nat) : LawRun :=
  let l := s.lane i
  let c := fun o => l.coef r (24 + t) o
  let x := l.cle.law
  let th := (l.latched r 2).1
  let h := x.t t
  let inc : Int := match h.rotor with
    | some a => if x.tf = 0 then 0 else (th - a).toInt * (2 ^ 32 : Nat) / (x.tf : Int)
    | none => 0
  let wr := if Config.libRotor t = 0 then 0 else inc * (2 ^ 29 : Nat) / (Config.libRotor t : Int)
  let raw := (memRd s.mod.setpoints (33 + 16 * t)).toInt
  let tset := clampI raw (-puOf 12 10) (puOf 12 10)
  let tk := trackTorque x.mach c x.tf tset h wr
  let hold := x.grid = 1 && x.mach ≠ 0
  let on := s.lawSwitching.length
  let n := (numsWhere 8 s.present).length
  let start := if hold && !h.holdsDc then mulQ h.torque wr else h.drive
  let vref := clampI (memRd s.mod.setpoints (32 + 16 * t)).toInt (puOf 8 10) (puOf 12 10)
  let dc := dcPi (c 7).toInt (c 8).toInt (c 2).toInt x.tf vref h.vdc start
  let spd := if !hold && h.holdsDc then h.torque else tk.2
  let ceil : Int := if on = 0 then 0 else x.p0r * n / (on : Int)
  let free := if !hold && h.holdsDc then h.torque else tk.1
  let torque := if hold then divQ dc.1 wr else if x.grid = 2 then min free (max 0 (divQ ceil wr)) else free
  (({ law := x, outs := [] } : LawRun).modThr t fun h =>
    { h with rotor := some th, wr := wr, spd := spd, drive := (if hold then dc.2 else h.drive),
             torque := (if h.st = 0 || h.st = 7 then 0 else torque), avail := mulQ tk.1 wr, holdsDc := hold,
             clamped := h.clamped || (x.mach = 3 && raw ≠ tset) }).out 0x30000002 (BitVec.ofInt 32 inc)

/-- A run of context 48 + t: the correction of the current reference toward the members' mean, and the PI on the zero-sequence
current with its common offset (R161). -/
def State.lawShare (s : State) (i : LaneId) (r : CtxRun) (t : Nat) : LawRun :=
  let l := s.lane i
  let c := fun o => l.coef r (48 + t) o
  let x := l.cle.law
  let y : LawRun := { law := x, outs := [] }
  if l.cn r (48 + t) 0 % 256 = 0 then y.modThr t fun h => { h with corrD := 0, corrQ := 0, cm := 0, cmOut := 0 }
  else
    let on := (l.sharing r t).filter s.lawOn
    let h := x.t t
    let fix := fun (k : Int) (f : ThrLaw → Int) =>
      clampI (k + overFrame (mulK (c 1).toInt (meanOf (on.map fun u => f (x.t u)) - f h)) x.tf) (-(c 2).toInt) (c 2).toInt
    let e := -((h.ia + h.ib + h.ic) / 3)
    let int := clampI (h.cm + overFrame (mulK (c 4).toInt e) x.tf) (-(c 5).toInt) (c 5).toInt
    y.modThr t fun h =>
      { h with corrD := fix h.corrD (·.refD), corrQ := fix h.corrQ (·.refQ), cm := int,
               cmOut := clampI (mulQ (c 3).toInt e + int) (-(c 5).toInt) (c 5).toInt }

/-- A run of context 41, the kinetic reserve: r, R_AVAIL, the inertia it covers, H_EFF and ID_EXTRA_MAX (R162, R163). -/
def State.lawReserve (s : State) (i : LaneId) (r : CtxRun) : LawRun :=
  let l := s.lane i
  let c := fun o => l.coef r 41 o
  let x := l.cle.law
  let ts := numsWhere 8 fun t => bitAt (c 14).toNat t && s.present t
  let wr := (ts.head?.map fun t => (x.t t).wr).getD 0
  let sq := fun (v : Int) => mulQ v v
  let rot := mulQ (c 0).toInt (max 0 (sq wr - sq (c 1).toInt))
  let res := ts.foldl (fun a t => a + mulQ (c (2 + t)).toInt (max 0 (sq (x.t t).vdc - sq (c 10).toInt))) rot
  let av := mulQ (c 11).toInt res
  let floor_ : Int := 0x8000
  let lim := max (mulK (c 12).toInt av) floor_
  let h := l.ci r 40 1
  let goal := min h lim
  let old := if x.hEff = 0 then goal else x.hEff
  let moving := l.ci r 40 30 < ((x.w - (puOf 1 1 + x.f0)).natAbs : Int)
  let eff := if goal ≤ old then goal else if moving then old else min goal (old + overFrame (c 15).toInt (8 * x.tf))
  let top : Int := if c 13 = 0 then 0 else av * 1000 * (2 ^ 29 : Nat) / (c 13).toInt
  let code := if eff = h then 3 else if eff ≤ floor_ then 2 else 1
  let y := ({ law := x, outs := [] } : LawRun).mod fun x =>
    { x with r := res, rAvail := av, hEff := eff, idMax := some top, wr := wr, hCode := code }
  if code = x.hCode || (code = 3 && x.hCode = 0) then y else y.event 3 0xF code

/-! ### Status words and the run (R145) -/

/-- The status flags of the module, or of a thread (R145). -/
def Law.flags (x : Law) (clamped lim1 lim2 : Bool) : Word :=
  BitVec.ofNat 32 (b2n clamped + 2 * b2n lim1 + 4 * b2n lim2 + 8 * b2n x.wClamp + 16 * b2n x.pjOn + 32 * b2n x.suspect +
    64 * b2n (x.hCode = 1 || x.hCode = 2))

/-- The status words that a context publishes at the start of its state region (R145). -/
def Law.status (x : Law) (ctx : Nat) : List Word :=
  let w := BitVec.ofInt 32
  if ctx = 40 then
    [BitVec.ofNat 32 (x.trip * 2 ^ 24 + x.mode * 2 ^ 8 + x.frt * 16 + x.st),
     x.flags x.spClamp (x.thr.any (·.lim1)) (x.thr.any (·.lim2)), w x.pf, w x.qf, w x.vp, w x.vn, w x.w, w x.wg, w x.delta, w x.rocof,
     BitVec.ofNat 32 (x.frtT / (2 ^ 16 * 400)), w x.rmin, w x.rmax]
  else if ctx = 41 then
    [w x.r, w x.rAvail, w x.hEff, w (x.idMax.getD 0), w x.wr, x.flags x.spClamp (x.thr.any (·.lim1)) (x.thr.any (·.lim2))]
  else if 8 ≤ ctx && ctx < 16 then
    let h := x.t (ctx - 8)
    [BitVec.ofNat 32 (h.trip * 2 ^ 24 + h.st), x.flags h.clamped h.lim1 h.lim2, w h.p, w h.q, w h.refD, w h.refQ, w h.vdc]
  else []

/-- A run of a library context (R132). -/
def State.lawRun (s : State) (i : LaneId) (r : CtxRun) : LawRun :=
  let c := r.ctx
  if c < 8 then s.lawLoop i r c
  else if c < 16 then s.lawOuter i r (c - 8)
  else if c < 24 then s.lawMachLoop i r (c - 16)
  else if c < 32 then s.lawMachine i r (c - 24)
  else if c < 40 then s.lawMonitor i r (c - 32)
  else if c = 40 then s.lawGrid i r
  else if c = 41 then s.lawReserve i r
  else if 48 ≤ c && c < 56 then s.lawShare i r (c - 48)
  else { law := (s.lane i).cle.law, outs := [] }

/-- The run of a library context takes effect at its END: the law's state, its status words, and the words it publishes, held
for its group (R124, R145). -/
def State.lawEnd (s : State) (i : LaneId) (r : CtxRun) : State :=
  let y := s.lawRun i r
  s.modLane i fun l =>
    let l := ((y.law.status r.ctx).zipIdx).foldl (fun l p => l.setData s.now (l.cle.stateBase r.ctx + p.2) p.1)
      { l with cle := { l.cle with law := y.law } }
    let held := (y.outs.zipIdx).map fun p => ({ ctx := r.ctx, seq := p.2, bind := p.1.1, val := p.1.2 } : Held)
    { l with cle := { l.cle with groups := updAt l.cle.groups r.group (fun g => { g with held := g.held ++ held }) } }

/-- SET_MODE with GRID = BLACK_START, where V0 follows no trajectory axis, trips the module at its commit (R156). -/
def State.lawModeSet (s : State) (mode : BitVec 16) : State :=
  [LaneId.a, LaneId.b].foldl (fun s i =>
    let l := s.lane i
    let src := memRd l.cle.data (l.cle.coefBase 40 (l.on (CLE_CTX_STAT_BANK 40)) + 46)
    if bitsOf (mode.setWidth 32) 3 0 ≠ 3 || !l.cle.lib.contains 40 || bitAt src.toNat 2 then s
    else
      let on := numsWhere 8 fun t => s.present t && s.thread t = 2
      let x := { l.cle.law with mode := mode.toNat % 256,
                                thr := l.cle.law.thr.mapIdx fun t h => if on.contains t then { h with sw := true } else h }
      let y := ({ law := x, outs := [] } : LawRun).tripAll on 5
      y.outs.foldl (fun s p => s.raiseFrom i (38 + bitsOf p.1 2 0) (bitsOf p.2 15 0))
        (s.modLane i fun l => { l with cle := { l.cle with law := y.law } })) s

end Sys2Proof.Machine
end

