-- ==== Sys2Proof/Machine/CleRun.lean ====
section
/-! DEFINITION. Context groups of the Control Law Engine: launch and run queues (R119 to R122), publication (R116, R124),
deadlines and overruns (R125 to R127), the end of a segment (END, R107, R130), and the checks and the loading of an image
(R117, R118). -/
namespace Sys2Proof.Machine

/-- The engine of a lane changed. -/
def Lane.modCle (l : Lane) (f : Cle → Cle) : Lane := { l with cle := f l.cle }

/-- A context group of a lane. -/
def Lane.group (l : Lane) (g : Nat) : GroupRun := l.cle.groups.getD g GroupRun.reset
/-- A context group of a lane changed. -/
def Lane.modGroup (l : Lane) (g : Nat) (f : GroupRun → GroupRun) : Lane :=
  l.modCle fun c => { c with groups := updAt c.groups g f }

/-- CLE_STAT shows which datapaths run and which groups run (R121). -/
def Lane.cleStat (l : Lane) : Lane :=
  (l.wr CLE_STAT_DP_BUSY (b2n l.cle.dp0.run.isSome + 2 * b2n l.cle.dp1.run.isSome)).wr CLE_STAT_GRP_RUN
    ((List.range 16).foldl (fun n g => n + b2n (l.group g).running * 2 ^ g) 0)

/-- The enabled contexts of a lane, ascending. -/
def Lane.enabled (l : Lane) : List Nat :=
  l.regs.filterMap fun p =>
    if 0x28400 ≤ p.1 && p.1 < 0x28900 && p.1 % 8 = 0 && p.2.getLsbD 31 then some ((p.1 - 0x28400) / 8) else none

/-- The frame class of a context as a number of frames (R119). -/
def Lane.classOf (l : Lane) (c : Nat) : Nat := 2 ^ l.rd (CLE_CTX_CFG_CLASS c)

/-- The due contexts of a group in a frame, ascending (R119). -/
def Lane.due (l : Lane) (g : Nat) (tally : DWord) : List Nat :=
  l.enabled.filter fun c => l.rd (CLE_CTX_CFG_GROUP c) = g && tally.toNat % l.classOf c = l.rd (CLE_CTX_CFG_PHASE c)

/-- The group holds an enabled F1 context (R126). -/
def Lane.f1Group (l : Lane) (g : Nat) : Bool :=
  l.enabled.any fun c => l.rd (CLE_CTX_CFG_GROUP c) = g && l.rd (CLE_CTX_CFG_CLASS c) = 0

/-! ### Overruns (R125, R126) -/

/-- The threads that FRAME_OVERRUN of a group blocks: THR_MASK, or every configured thread. -/
def State.overrunThreads (s : State) (l : Lane) (g : Nat) : List Nat := s.maskOrAll (l.rd (CLE_GRP_CFG_THR_MASK g))

/-- An overrun of a group in a lane: OVR_CNT and the event; CONSEC of an F1 group, but for a frame with a signature run
and the frame after it; CONSEC 3 blocks the group's threads (R125, R126). -/
def State.overrun (s : State) (i : LaneId) (g : Nat) : State :=
  let l := (s.lane i).bumpSat (CLE_GRP_STAT_OVR_CNT g)
  let sig := match l.cle.sigTally with
    | some t => s.mod.tally = t || s.mod.tally = t + 1
    | none => false
  let n := if l.f1Group g && !sig then satInc (l.rd (CLE_GRP_STAT_CONSEC g)) 3 else l.rd (CLE_GRP_STAT_CONSEC g)
  let trip := n = 3 && l.rd (CLE_GRP_STAT_CONSEC g) ≠ 3
  let l := l.wr (CLE_GRP_STAT_CONSEC g) n
  let s := (s.setLane i l).raiseFrom i 37 g
  if trip && s.active = i then
    (s.overrunThreads l g).foldl (fun s t => s.cause 0x0A 1 (.thread t) g none true) s
  else s

/-- A completion in time resets CONSEC, which ends FRAME_OVERRUN's condition (R126, R232). -/
def State.inTime (s : State) (i : LaneId) (g : Nat) : State :=
  let s := s.modLane i fun l => l.wr (CLE_GRP_STAT_CONSEC g) 0
  if s.active = i then s.causeEnd 0x0A g else s

/-! ### Publication (R116, R124) -/

/-- A published word of a mailbox slot; the word before this tick stays readable in it (R115). -/
def postMail (m : List Mail) (key now : Nat) (v : Word) : List Mail :=
  match m.find? (fun x => x.key = key) with
  | none => { key := key, val := v, at_ := now, old := 0, oldAt := none } :: m
  | some x =>
    (if x.at_ = now then { x with val := v }
     else { x with val := v, at_ := now, old := x.val, oldAt := some x.at_ }) :: m.filter (fun y => y.key ≠ key)

/-- The end of a thread's stop sequence: the thread returns to ARMED (R32, R142). -/
def State.stopDone (s : State) (data : Nat) : State :=
  let t := data / 256 % 16
  if data % 256 = 1 && s.mod.stopPend.contains t && s.thread t = 2 then
    ((s.modMod fun m => { m with stopPend := m.stopPend.filter (· ≠ t) }).setThread t 1).updModule 0
  else s

/-- An event of a lane; CLE_EV4 from the active lane outside HOLD may end a stop sequence (R142, R259). -/
def State.laneEvent (s : State) (i : LaneId) (src data : Nat) : State :=
  let s := s.raiseFrom i src data
  if src = 42 && s.active = i && !s.hold then s.stopDone data else s

/-- One held OUT value reaches its target (R116). Sources of θr in ENC or ENCI mode take no step and no load; θt's
increment has no writer but host software (R47, R49), and the frame source of a follower none but its leader (R419). -/
def State.publish (s : State) (i : LaneId) (h : Held) : State :=
  let sel := bitsOf h.bind 27 0
  let src := sel % 4
  match bitsOf h.bind 31 28 with
  | 1 =>
    let k := 12 * bitsOf h.bind 5 0 + 2 * bitsOf h.bind 8 6 + bitsOf h.bind 9 9
    s.modLane i fun l => l.modPwm fun p => { p with shadow := memWr p.shadow k (h.val &&& 0xFFFF) }
  | 2 =>
    let k := 4 * bitsOf h.bind 3 0 + bitsOf h.bind 5 4
    s.modLane i fun l => l.modPwm fun p => { p with trigShadow := memWr p.trigShadow k (h.val &&& 0xFFFF) }
  | 3 => if src = 3 || s.followsSrc i src then s else s.modLane i fun l => l.modSrc src fun a => { a with written := some h.val }
  | 4 => s.modLane i fun l =>
      if l.srcMode src ≠ 0 || s.followsSrc i src then l else { l with regs := l.regs.set (ASC_S_STEP src) (l.regs.get (ASC_S_STEP src) + h.val) }
  | 5 => s.modLane i fun l =>
      if l.srcMode src ≠ 0 || s.followsSrc i src then l else { l with regs := l.regs.set (ASC_S_LOAD_VAL src) h.val }
  | 6 => s.modLane i fun l =>
      if l.srcMode src ≠ 0 || s.followsSrc i src then l else { l with regs := l.regs.set (ASC_S_LOAD_CTRL src) (h.val &&& 0x8000000F) }
  | 7 => s.modLane i fun l =>
      l.modCle fun c => { c with mail := postMail c.mail (8 * bitsOf h.bind 14 7 + bitsOf h.bind 2 0) s.now h.val }
  | 8 =>
    let k := bitsOf h.bind 2 0
    s.modLane i fun l => l.modUnit (bitsOf h.bind 4 3) fun u =>
      { u with taps := (k, h.val) :: u.taps.filter (fun p => p.1 ≠ k) }
  | 9 =>
    let n := bitsOf h.bind 5 0
    s.modLane i fun l => l.modCle fun c =>
      { c with probes := memWr c.probes n h.val, probeFresh := n :: c.probeFresh.filter (fun x => x ≠ n) }
  | 10 => s.modLane i fun l => l.modCle fun c => { c with nodes := memWr c.nodes (bitsOf h.bind 4 0) h.val }
  | 11 => if h.val = 0 then s else s.laneEvent i (38 + bitsOf h.bind 2 0) (bitsOf h.val 15 0)
  | _ => s

/-- A held value placed by context, then by program order (R124). -/
def insertHeld (h : Held) : List Held → List Held
  | [] => [h]
  | x :: t => if x.ctx < h.ctx || (x.ctx = h.ctx && x.seq ≤ h.seq) then x :: insertHeld h t else h :: x :: t

/-- A held value whose target takes it as it is: all but an angle step, which adds up, and an event (R116). -/
def Held.plain (h : Held) : Bool := bitsOf h.bind 31 28 ≠ 4 && bitsOf h.bind 31 28 ≠ 11

/-- The higher groups that completed in the present tick publish again, so that the lower-numbered one is applied first
(R124). -/
def State.republish (s : State) (i : LaneId) (g : Nat) : State :=
  (List.range 16).foldl (fun s k =>
    let x := (s.lane i).group k
    if g < k && x.doneAt = some s.now then (x.done.filter Held.plain).foldl (fun s h => s.publish i h) s else s) s

/-- A frame boundary falls in the present tick, and its actions are still to come: the frame source has reached the end of the
frame (R56, R124). -/
def State.boundaryDue (s : State) : Bool :=
  s.mod.started && 0 < (s.lane s.lead).frameInc && (s.lane s.lead).ticksToEnd = 0

/-- A group completes: at or before its deadline it publishes its OUT values; past it they are discarded, and the overrun is
counted where its deadline has not counted it. In the tick of a boundary it completes after the boundary's actions (R124,
R125). -/
def State.groupDone (s : State) (i : LaneId) (g : Nat) : State :=
  let r := (s.lane i).group g
  let late := r.deadline < s.now
  let out := if r.missed || late then [] else r.held.foldl (fun acc h => insertHeld h acc) []
  if s.boundaryDue then s
  else
    let s := s.modLane i fun l =>
      (l.modGroup g fun r =>
        { r with running := false, left := [], held := [], missed := false, doneAt := some s.now, done := out }).cleStat
    if r.missed then s
    else if late then s.overrun i g
    else ((out.foldl (fun s h => s.publish i h) s).republish i g).inTime i g

/-- The groups that completed in the tick of a boundary, once its actions are done (R124). -/
def State.lateGroups (s : State) : State :=
  [LaneId.a, LaneId.b].foldl (fun s i => (List.range 16).foldl (fun s g =>
    let r := (s.lane i).group g
    if r.running && r.left.isEmpty then s.groupDone i g else s) s) s

/-! ### Launch and runs (R99, R100, R119 to R122) -/

/-- An idle datapath takes up its next queued context, once it is free: registers cleared, 4 start ticks, the rebase segment
where it is due (R99, R100, R120, R129, R130). -/
def Lane.takeUp (l : Lane) (dp : Dp) (at_ : Nat) : Lane :=
  let d := l.dp dp
  match d.run, d.queue with
  | none, (c, g) :: rest =>
    let reb := l.on (CLE_CTX_STAT_REBASE_PEND c) && l.cle.rebEn c
    let r : CtxRun := { ctx := c, group := g, pc := if reb then l.cle.rebase c else l.cle.entry c,
                        since := max at_ d.freeAt, cycles := 4, rebase := reb,
                        bank := l.on (CLE_CTX_STAT_BANK c), ops := 0 }
    l.modDp dp fun _ => { DpState.reset with run := some r, queue := rest, sigUntil := d.sigUntil, freeAt := d.freeAt }
  | _, _ => l

/-- CLE_LAUNCH of a group: a running group is skipped, which is an overrun; else the angles are latched and the due
contexts join their run queues; with none due the group completes at once (R66, R120, R121, R123). In Slack and Doze it
launches nothing (R457). -/
def State.launch (s : State) (i : LaneId) (g : Nat) : State :=
  let l := s.lane i
  if 2 ≤ s.rd PWR_STAT_STATE then s
  else if (l.group g).running then (s.setLane i (l.bumpSat (CLE_GRP_STAT_SKIP_CNT g))).overrun i g
  else
    let l := l.modAsc fun a =>
      { a with grpLatch := a.grpLatch.set g ((List.range 4).map fun n => ((l.src n).pos, l.regs.get (ASC_S_INC n))) }
    let due := l.due g s.mod.tally
    let r : GroupRun := { running := true, launchTally := s.mod.tally,
                          deadline := l.asc.frameTick + l.rd (CLE_GRP_CFG_DEADLINE g), left := due, held := [],
                          missed := false, doneAt := none, done := [] }
    let l := l.modGroup g fun _ => r
    if due.isEmpty then (s.setLane i l).groupDone i g
    else
      let l := due.foldl (fun l c =>
        l.modDp (if l.rd (CLE_CTX_CFG_DP c) = 0 then .dp0 else .dp1) fun d => { d with queue := d.queue ++ [(c, g)] }) l
      s.setLane i ((l.takeUp .dp0 s.now).takeUp .dp1 s.now).cleStat

/-- A datapath runs its signature program of 1,024 ticks from a tick on, ahead of its queued contexts; the frame holds the run
(R122, R126). -/
def Lane.runSignature (l : Lane) (dp : Dp) (from_ : Nat) (tally : DWord) : Lane :=
  (l.modDp dp fun d => { d with sigPend := false, sigUntil := from_ + 1024, freeAt := from_ + 1024 }).modCle fun c =>
    { c with sigTally := some tally }

/-- A signature run is asked of a datapath: after the END of its context, or at once where it is idle (R122). -/
def Lane.askSignature (l : Lane) (dp : Dp) (now : Nat) (tally : DWord) : Lane :=
  if (l.dp dp).run.isSome then l.modDp dp fun d => { d with sigPend := true }
  else l.runSignature dp (max (now + 1) (l.dp dp).freeAt) tally

/-- A frame that begins while a signature runs holds it too (R126). -/
def Lane.noteSignature (l : Lane) (now : Nat) (tally : DWord) : Lane :=
  if now < l.cle.dp0.sigUntil || now < l.cle.dp1.sigUntil then l.modCle fun c => { c with sigTally := some tally } else l

/-- A context run ends: its group loses it, a signature run that waits takes place, the next queued context is taken up, and the
last one completes the group. -/
def State.runDone (s : State) (i : LaneId) (dp : Dp) (r : CtxRun) : State :=
  let s := s.modLane i fun l =>
    let l := l.modGroup r.group fun g => { g with left := g.left.filter (· ≠ r.ctx) }
    let l := l.modDp dp fun d => { d with run := none, freeAt := s.now + 1 }
    let l := if (l.dp dp).sigPend then l.runSignature dp (s.now + 1) s.mod.tally else l
    (l.takeUp dp (s.now + 1)).cleStat
  let s := s.fillSnaps i r.ctx
  if ((s.lane i).group r.group).left.isEmpty then s.groupDone i r.group else s

/-- END: the rebase segment passes to the main segment and REBASE_PEND clears; the main segment ends the run (R107,
R120, R130). The run of a library context is that of its law as a whole, and ends after its WCET (05; log 47). -/
def execCleEnd (ln : LaneSel) (dp : Dp) (w : CleWord) (s : State) : Host.Outcome State Fault Refusal :=
  .next (s.onLanes ln fun s i =>
    match (s.lane i).issues dp 0x01 w with
    | none =>
      (match (s.lane i).lawContext dp with
       | none => s
       | some r =>
         let s := s.passTo (r.since + s.laneTicks ((s.lane i).cle.wcetOf r.ctx - 1))
         ((s.modLane i fun l => if r.rebase then l.wr (CLE_CTX_STAT_REBASE_PEND r.ctx) 0 else l).lawEnd i r).runDone i dp r)
    | some r =>
      let s := s.passTo (r.since + s.laneTicks r.cycles)
      if r.rebase then s.modLane i fun l =>
        (l.modDp dp fun d => { d with run := d.run.map fun r =>
          { r with rebase := false, pc := l.cle.entry r.ctx, cycles := r.cycles + 1, ops := r.ops + 1 } }).wr
          (CLE_CTX_STAT_REBASE_PEND r.ctx) 0
      else s.runDone i dp r)

/-- GROUP_DEADLINE: a group still running at its deadline has missed it (R125). -/
def execGroupDeadline (ln : LaneSel) (g : Nat) (s : State) : Host.Outcome State Fault Refusal :=
  .next (s.onLanes ln fun s i =>
    let r := (s.lane i).group g
    if r.running && !r.missed then
      ((s.passTo r.deadline).modLane i fun l => l.modGroup g fun r => { r with missed := true }).overrun i g
    else s)

/-- BUDGET_STOP: a context that has not ended within its budget is stopped; the launch counts as an overrun (R127). -/
def execBudgetStop (ln : LaneSel) (dp : Dp) (s : State) : Host.Outcome State Fault Refusal :=
  .next (s.onLanes ln fun s i =>
    match ((s.lane i).dp dp).run with
    | none => s
    | some r =>
      let s := s.passTo (r.since + s.laneTicks ((s.lane i).cle.budget r.ctx))
      let first := !((s.lane i).group r.group).missed
      let s := s.modLane i fun l =>
        (l.wr (CLE_CTX_STAT_BUDGET r.ctx) 1).modGroup r.group fun g => { g with missed := true }
      let s := if first then s.overrun i r.group else s
      s.runDone i dp r)

/-! ### Images (R117) -/

/-- The cycles of an op (R107). -/
def opCycles (op : Nat) : Nat :=
  match op with
  | 0x1A | 0x1B | 0x1C | 0x1D | 0x20 => 2
  | 0x1E | 0x1F | 0x23 => 3
  | 0x21 => 18
  | 0x22 => 36
  | _ => 1

/-- The largest SHIFT of an op (R106). -/
def opShift (op : Nat) : Nat :=
  match op with
  | 0x0E | 0x0F | 0x1A | 0x1B => 63
  | 0x21 => 32
  | 0x12 => 16
  | 0x04 | 0x05 | 0x06 | 0x09 | 0x0A | 0x14 | 0x22 => 31
  | _ => 0

/-- A register pair or triple of an op exceeds D31 (R108). -/
def opPairBad (op : Nat) (w : CleWord) : Bool :=
  ((op = 0x1C || op = 0x1E || op = 0x1F || op = 0x20) && 30 < w.dst.toNat) || (op = 0x1D && 29 < w.dst.toNat) ||
  ((op = 0x1D || op = 0x1E || op = 0x1F) && 30 < w.sa.toNat)

/-- The memory operand of an op lies outside its region, or names a space the op does not take (R112). -/
def Cle.opMemBad (c : Cle) (ctx op : Nat) (w : CleWord) : Bool :=
  let o := bitsOf w.imm 14 0
  if op = 0x23 then c.coefLen ctx < o + 256
  else if op = 0x25 || op = 0x1A || op = 0x1B then w.mod ≠ 0 || c.stateLen ctx ≤ o
  else if op = 0x24 then
    (match w.mod.toNat with
     | 0 => decide (c.stateLen ctx ≤ o)
     | 1 => decide (c.coefLen ctx ≤ o)
     | 2 => decide (c.coefLen ctx ≤ o)
     | _ => 160 ≤ bitsOf w.imm 23 16 || c.stateLen (bitsOf w.imm 23 16) ≤ o)
  else false

/-- The first load check that an op fails: causes 0x01, 0x03, 0x04, 0x05, 0x0A (R117). -/
def Cle.opCause (c : Cle) (ctx op : Nat) (w : CleWord) : Option Nat :=
  if 0x28 < op then some 1
  else if opPairBad op w || opShift op < shOf w then some 3
  else if c.opMemBad ctx op w then some 4
  else if (op = 0x26 && c.inCnt ctx ≤ w.imm.toNat) || (op = 0x27 && c.outCnt ctx ≤ w.imm.toNat) then some 5
  else if op = 0x28 && 1 < w.mod.toNat then some 0x0A
  else none

/-- The lower of two causes. -/
def lowCause : Option Nat → Option Nat → Option Nat
  | none, b => b
  | a, none => a
  | some a, some b => some (min a b)

/-- A segment from a program word: its cycle sum to END, and the lowest cause that an op fails; a segment that reaches
the end of program memory fails with 0x02. -/
def Cle.scan (c : Cle) (ctx : Nat) : Nat → Nat → Nat → Option Nat → Nat × Option Nat
  | 0, _, cyc, bad => (cyc, lowCause bad (some 2))
  | fuel + 1, pc, cyc, bad =>
    let x := opOf (c.progWord pc)
    let bad := lowCause bad (c.opCause ctx x.1 x.2)
    if x.1 = 1 then (cyc + 1, bad) else c.scan ctx fuel (pc + 1) (cyc + opCycles x.1) bad

/-- The segment from a program word to its END, within program memory. -/
def Cle.segment (c : Cle) (ctx pc : Nat) : Nat × Option Nat := c.scan ctx (16384 - pc) pc 0 none

/-- WCET: 4 start ticks, the rebase segment where there is one, and the main segment (R117). -/
def Cle.wcet (c : Cle) (ctx : Nat) : Nat :=
  4 + (if c.rebEn ctx then (c.segment ctx (c.rebase ctx)).1 else 0) + (c.segment ctx (c.entry ctx)).1

/-- The bits of SEL that an input binding kind uses, and a range check of its fields (R115). -/
def inBindBad (b : Word) : Bool :=
  match bitsOf b 31 28 with
  | 0 => bitsOf b 27 0 ≠ 0
  | 1 => 80 ≤ bitsOf b 27 0
  | 2 => bitsOf b 27 15 ≠ 0 || bitsOf b 6 3 ≠ 0 || 160 ≤ bitsOf b 14 7
  | 3 => bitsOf b 27 5 ≠ 0 || 6 ≤ bitsOf b 2 0
  | 4 => 16 ≤ bitsOf b 27 0
  | 5 => 256 ≤ bitsOf b 27 0
  | 6 => 8 ≤ bitsOf b 27 0
  | _ => true

/-- The same for an output binding (R116). -/
def outBindBad (b : Word) : Bool :=
  match bitsOf b 31 28 with
  | 0 => bitsOf b 27 0 ≠ 0
  | 1 => bitsOf b 27 10 ≠ 0 || 48 ≤ bitsOf b 5 0 || 6 ≤ bitsOf b 8 6
  | 2 => 64 ≤ bitsOf b 27 0
  | 3 | 4 | 5 | 6 => 4 ≤ bitsOf b 27 0
  | 7 => bitsOf b 27 15 ≠ 0 || bitsOf b 6 3 ≠ 0 || 160 ≤ bitsOf b 14 7
  | 8 => bitsOf b 27 5 ≠ 0 || 6 ≤ bitsOf b 2 0
  | 9 => 64 ≤ bitsOf b 27 0
  | 10 => 32 ≤ bitsOf b 27 0
  | 11 => 8 ≤ bitsOf b 27 0
  | _ => true

/-- The bindings of a context fail check 0x06. -/
def Cle.bindsBad (c : Cle) (ctx : Nat) : Bool :=
  32 < c.inCnt ctx || 32 < c.outCnt ctx || 4096 < c.inBase ctx + c.inCnt ctx || 4096 < c.outBase ctx + c.outCnt ctx ||
  (List.range (min 32 (c.inCnt ctx))).any (fun n => inBindBad (c.inBind ctx n)) ||
  (List.range (min 32 (c.outCnt ctx))).any (fun n => outBindBad (c.outBind ctx n))

/-- Two regions of data memory share a word. -/
def overlaps (a la b lb : Nat) : Bool := a < b + lb && b < a + la && 0 < la && 0 < lb

/-- The contexts with a descriptor, ascending. -/
def Cle.described (c : Cle) : List Nat := (List.range 160).filter fun x => c.descs.any fun p => p.1 / 8 = x

/-- The state region of a context shares a word with a coefficient bank of another or the same context. -/
def Cle.stateMeets (c : Cle) (x y : Nat) : Bool :=
  overlaps (c.stateBase x) (c.stateLen x) (c.coefBase y false) (c.coefLen y) ||
  overlaps (c.stateBase x) (c.stateLen x) (c.coefBase y true) (c.coefLen y)

/-- The regions of a context fail check 0x08: its state region against every region, and its banks against every state
region. -/
def Cle.regionBad (c : Cle) (ctx : Nat) : Bool :=
  32768 < c.stateBase ctx + c.stateLen ctx ||
  c.described.any fun x =>
    (x ≠ ctx && overlaps (c.stateBase ctx) (c.stateLen ctx) (c.stateBase x) (c.stateLen x)) ||
    c.stateMeets ctx x || c.stateMeets x ctx

/-- The lowest load check that a context fails (R117). -/
def Cle.ctxCause (c : Cle) (ctx : Nat) : Option Nat :=
  let main := (c.segment ctx (c.entry ctx)).2
  let reb := if c.rebEn ctx then (c.segment ctx (c.rebase ctx)).2 else none
  let b := if c.bindsBad ctx then some 6 else none
  let w := if c.budget ctx < c.wcet ctx then some 7 else none
  let st := if c.regionBad ctx then some 8 else none
  let bk := if 32768 < c.coefBase ctx false + c.coefLen ctx || 32768 < c.coefBase ctx true + c.coefLen ctx
    then some 9 else none
  lowCause main (lowCause reb (lowCause b (lowCause w (lowCause st bk))))

/-- The engine with the words of an image in place. -/
def Cle.merge (c : Cle) (img : Image) : Cle :=
  { c with
    prog := img.prog.foldl (fun m p => memPut m p.1 p.2) c.prog
    descs := img.descs.foldl (fun m p => (List.range 7).foldl (fun m k => memWr m (8 * p.1 + k) (p.2.getD k 0)) m) c.descs
    binds := img.binds.foldl (fun m p => memWr m p.1 p.2) c.binds
    data := img.data.foldl (fun m p => memWr m p.1 p.2) c.data }

/-- The contexts an image names, ascending. -/
def imgCtxs (img : Image) : List Nat := (List.range 160).filter fun c => img.descs.any fun p => p.1 = c

/-- The structure of an image cannot be read (cause 0x0B). -/
def imgUnreadable (img : Image) : Bool :=
  !img.readable || img.prog.any (fun p => 16384 ≤ p.1) || img.descs.any (fun p => 160 ≤ p.1 || p.2.length ≠ 8) ||
  img.binds.any (fun p => 4096 ≤ p.1) || img.data.any (fun p => 32768 ≤ p.1)

/-- The first failing context of an image and its cause; 0xFF where the cause is tied to none (R117). -/
def Cle.loadCause (c : Cle) (img : Image) : Option (Nat × Nat) :=
  if imgUnreadable img then some (0xFF, 0x0B)
  else
    let m := c.merge img
    (imgCtxs img).findSome? fun x => (m.ctxCause x).map fun k => (x, k)

/-- The next IN op on a binding of a context has no previous one (R115). -/
def Cle.forgetIn (c : Cle) (ctx : Nat) : Cle := { c with hist := c.hist.filter fun h => h.ctx ≠ ctx }

/-- An image in force: its words, the WCET of each named context, and no previous IN op of them; an image of the law library
starts its laws afresh (R115, R117, R132). -/
def Cle.load (c : Cle) (img : Image) : Cle :=
  let m := c.merge img
  let m := { m with descs := (imgCtxs img).foldl (fun d x => memWr d (8 * x + 7) (BitVec.ofNat 32 (m.wcet x))) m.descs,
                    lib := m.lib.filter (fun x => !(imgCtxs img).contains x) ++ (if img.library then imgCtxs img else []),
                    law := if img.library then Law.reset else m.law }
  (imgCtxs img).foldl Cle.forgetIn m

/-- CLE_STATE_WORDS: the sum of STATE_LEN over the enabled contexts (R118). -/
def Lane.stateWords (l : Lane) : Nat := l.enabled.foldl (fun n c => n + l.cle.stateLen c) 0

/-- The active bank of a context changes; CLE_BANKj shows it (R129). -/
def Lane.swapBank (l : Lane) (c : Nat) : Lane :=
  let b := 1 - l.rd (CLE_CTX_STAT_BANK c)
  (l.wr (CLE_CTX_STAT_BANK c) b).wr ⟨CLE_BANK (c / 32), c % 32, c % 32⟩ b

end Sys2Proof.Machine
end

