-- ==== Sys2Proof/Machine/Trips.lean ====
section
/-! DEFINITION. Trips (09): causes on legs and shoot-through (R235, R236), the fast comparators (R93, R94, R237), the trip
inputs and the threshold trip (R92, R238, R239), the time of causes (R242, R244), and what clearing a fault or a lockout
does (R242 to R245). -/
namespace Sys2Proof.Machine

/-- The class that a CLASS field selects: 0 W, 1 B, 2 L (R238). -/
def classField (c : Nat) : Nat := if c = 1 then 1 else if c = 2 then 2 else 3

/-- A cause on the configured threads of a mask, or on the module where the mask is 0 (R238, R239). -/
def State.maskCause (s : State) (code cls mask key : Nat) : State :=
  if mask = 0 then s.cause code cls .module key none true
  else (numsWhere 8 fun t => bitAt mask t && s.present t).foldl (fun s t => s.cause code cls (.thread t) key none true) s

/-- A class B cause of one leg blocks its thread; a cause on another leg of the thread within 10 µs is shoot-through, class L
(R235 to R237). `shoot` tells the causes that count for it. -/
def State.legCause (s : State) (code leg key : Nat) (shoot : Bool) : State :=
  let t := leg / 6
  let s := s.cause code 1 (.thread t) key (some leg) true
  if shoot then
    let near := (s.faults.shoots.getD t []).filter fun x => s.now ≤ x.2 + 4000
    let s := s.modFaults fun f => { f with shoots := f.shoots.set t ((leg, s.now) :: near) }
    if near.any fun x => x.1 ≠ leg then s.cause 0x05 2 .module 0 (some leg) false else s
  else s

/-! ### Fast comparators (R93, R94, R237) -/

/-- A level code in microvolts (R93). -/
def fcLevel (c : Nat) : Int := ((c : Int) - 512) * 4883

/-- The comparators after an input voltage: the window comparator reports from a level crossed until the input is 10 mV
inside that level; a hard comparator trips beyond twice a level away from 0 V, limited to ±2.5 V, with the same hysteresis
(R93, R94). -/
def FastCmp.step (c : FastCmp) (lo hi v : Int) : FastCmp :=
  let top := min (2 * hi) 2500000
  let bot := max (2 * lo) (-2500000)
  { input := v,
    above := decide (hi < v) || (c.above && decide (hi - 10000 ≤ v)),
    below := decide (v < lo) || (c.below && decide (v ≤ lo + 10000)),
    hardHi := decide (0 < hi) && (decide (top < v) || (c.hardHi && decide (top - 10000 < v))),
    hardLo := decide (lo < 0) && (decide (v < bot) || (c.hardLo && decide (v < bot + 10000))) }

/-- An edge of the leg lies less than BLANK × 200 ns back, by its aligned instant at the drivers (R94). -/
def State.blanked (s : State) (leg blank : Nat) : Bool :=
  leg < 48 && (s.faults.env.getD leg EnvLeg.reset).edges.any fun e =>
    decide (e ≤ (s.now : Int) * 32) && decide ((s.now : Int) * 32 < e + blank * 80 * 32)

/-- The comparators of an input in a lane. -/
def Lane.fastCmp (l : Lane) (i : Nat) : FastCmp := l.meas.cmps.getD i FastCmp.reset

/-- The trip FAST_CMP of an input follows its comparators: tripped when either lane's report, with EN set and, for the window
comparator, no blanking. It acts on its leg's thread, or on the module where no leg is bound (R93, R94, R232, R237). -/
def State.updFastCmp (s : State) (i : Nat) : State :=
  let l := s.lane s.active
  let a := s.laneA.fastCmp i
  let b := s.laneB.fastCmp i
  let leg := l.rd (MEAS_FC_LEG i)
  let hard := a.hardHi || a.hardLo || b.hardHi || b.hardLo
  let out := a.above || a.below || b.above || b.below
  if !l.on (MEAS_FC_EN i) || !(hard || out) then s.causeEnd 0x04 i
  else if s.causeActive 0x04 i || (!hard && s.blanked leg (l.rd (MEAS_FC_BLANK i))) then s
  else if leg < 48 then s.legCause 0x04 leg i true
  else s.cause 0x04 1 .module i none true

/-- The comparators of an input in a lane, at its levels, with a voltage. -/
def Lane.stepCmp (l : Lane) (i : Nat) (v : Int) : Lane :=
  l.modMeas fun m => { m with cmps := updAt m.cmps i fun c => c.step (fcLevel (l.rd (MEAS_FC_LO i))) (fcLevel (l.rd (MEAS_FC_HI i))) v }

/-- The levels of an input have been written: the comparators act on the voltage they have (R93). -/
def State.levelsWritten (s : State) (i : Nat) : State :=
  (s.bothLanes fun l => l.stepCmp i (l.fastCmp i).input).updFastCmp i

/-- FAST_CMP: the comparators of an input see a voltage in a lane (R93, R94). -/
def execFastCmp (ln : LaneSel) (i : Nat) (microvolts : Int) (s : State) : Host.Outcome State Fault Refusal :=
  .next ((s.onLanes ln fun s x => s.modLane x fun l => l.stepCmp i microvolts).updFastCmp i)

/-! ### Threshold trip (R92, R239) -/

/-- A comparator bound by TRIP_HI or TRIP_LO is asserted in a lane (R92). -/
def Lane.thrTrip (l : Lane) : Bool :=
  (List.range 80).any fun k =>
    let c := l.meas.chans.getD k Chan.reset
    (c.hi && l.on (MEAS_CH_CFG_TRIP_HI k)) || (c.lo && l.on (MEAS_CH_CFG_TRIP_LO k))

/-- The trip source MEAS_THR follows the bound comparators of both lanes; class and threads are those in force when it
asserts (R92, R239). -/
def State.updMeasTrip (s : State) : State :=
  let live := s.laneA.thrTrip || s.laneB.thrTrip
  if live = s.faults.measTrip.live then s
  else if live then
    let cls := classField (s.rd SLC_MEAS_TRIP_CLASS)
    let mask := s.rd SLC_MEAS_TRIP_THR_MASK
    (s.modFaults fun f => { f with measTrip := { live := true, cls := cls, mask := BitVec.ofNat 8 mask } }).maskCause
      0x07 cls mask 0
  else (s.modFaults fun f => { f with measTrip := { f.measTrip with live := false } }).causeEnd 0x07 0

/-! ### Trip inputs (R238) -/

/-- TRIP_INPUT: a TRIPn pin has held a level for its filter time. An enabled input at the level of POL is asserted: LIVE,
SEEN, its level source and its cause; else it is not, and the cause ends (R238, R356). -/
def execTripInput (n : Nat) (level : Bool) (s : State) : Host.Outcome State Fault Refusal :=
  let s := s.modFaults fun f =>
    { f with tripPin := if level then f.tripPin ||| ((1 : BitVec 8) <<< n) else f.tripPin &&& ~~~((1 : BitVec 8) <<< n) }
  let asserted := s.on (SLC_TRIP_CFG_EN n) && (level = s.on (SLC_TRIP_CFG_POL n))
  let was := (s.faults.trips.getD n TripIn.reset).live
  let liveBit : Fld := ⟨SLC_TRIP_STAT, 8 + n, 8 + n⟩
  .next (if asserted = was then s
    else if asserted then
      let cls := classField (s.rd (SLC_TRIP_CFG_CLASS n))
      let mask := s.rd (SLC_TRIP_CFG_THR_MASK n)
      let s := s.modFaults fun f =>
        { f with trips := f.trips.set n { live := true, cls := cls, mask := BitVec.ofNat 8 mask } }
      (((s.wr liveBit 1).wr ⟨SLC_TRIP_STAT, n, n⟩ 1).levelOn (66 + n) 0).maskCause 0x06 cls mask n
    else
      let s := s.modFaults fun f => { f with trips := updAt f.trips n fun x => { x with live := false } }
      ((s.wr liveBit 0).levelOff (66 + n)).causeEnd 0x06 n)

/-! ### Time of causes and of the acknowledgement (R242, R244) -/

/-- The instants, 10 ms after the end of a cause, that still lie ahead (R242). -/
def State.goneTimes (s : State) : List Nat :=
  s.faults.causes.filterMap fun c => if !c.active && s.now < c.lastActive + 4000000 then some (c.lastActive + 4000000) else none

/-- CAUSE_GONE: the next cause has been inactive for 10 ms; the status bits follow (R242, R244). -/
def execCauseGone (s : State) : Host.Outcome State Fault Refusal :=
  .next (match s.goneTimes with
    | [] => s.updCauseBits
    | t :: ts => (s.passTo (ts.foldl min t)).updCauseBits)

/-- LOCKOUT_ACK_N_EDGE: the pin falls or rises; a rise ends ACK_LOW (R244). -/
def execLockoutAckNEdge (level : Bool) (s : State) : Host.Outcome State Fault Refusal :=
  let s := s.modFaults fun f =>
    { f with ackLevel := level, ackLowSince := if level then none else some (f.ackLowSince.getD s.now) }
  .next (if level then s.wr SLC_LOCKOUT_STAT_ACK_LOW 0 else s)

/-- ACK_LOW: LOCKOUT_ACK_N has been low for 500 ms without a break (R244). -/
def execAckLow (s : State) : Host.Outcome State Fault Refusal :=
  .next (match s.faults.ackLowSince with
    | none => s
    | some t => (s.passTo (t + 200000000)).wr SLC_LOCKOUT_STAT_ACK_LOW 1)

/-! ### Clearing (R242, R243, R245) -/

/-- What CLEAR_FAULT finds at a target: no class B fault, one to clear, or one to refuse (R242). -/
def State.clearable (s : State) (scope : Scope) : Option Bool :=
  let cs := s.faults.causes.filter fun c => c.scope = scope && c.cls = 1
  if cs.isEmpty then none else some (cs.all fun c => !c.active && c.lastActive + 4000000 ≤ s.now)

/-- The class B causes of a scope removed; STO follows (R277). -/
def State.dropCauses (s : State) (scope : Scope) : State :=
  (s.modFaults fun f => { f with causes := f.causes.filter fun c => !(c.scope = scope && c.cls = 1) }).updSto

/-- The correction sum of a thread reset (R243). -/
def State.resetSum (s : State) (t : Nat) : State :=
  (s.modFaults fun f => { f with win := f.win.set t [0] }).wr (SLC_THR_WIN_SUM t) 0

/-- A thread leaves BLOCKED for the state its own faults give it (R243): a thread with no class B fault of its own and no
module-wide one returns to OFF. -/
def State.unblock (s : State) (t : Nat) : State :=
  if s.thread t = 3 && !s.on (SLC_THR_FAULT_B_ACTIVE t) && !s.on SLC_FAULT_MOD_B_ACTIVE then s.setThread t 0 else s

/-- A thread's class B fault cleared (R243). -/
def State.clearThread (s : State) (t : Nat) : State :=
  let s := (s.dropCauses (.thread t)).resetSum t
  let s := { s with regs := s.regs.set (SLC_THR_FAULT t) (resetWord (SLC_THR_FAULT t)) }
  (s.modFaults fun f => { f with shoots := f.shoots.set t [] }).unblock t

/-- The module-wide class B fault cleared (R243). -/
def State.clearModule (s : State) : State :=
  let s := s.dropCauses .module
  let s := { s with regs := s.regs.set SLC_FAULT_MOD 0 }
  (List.range 8).foldl State.unblock s

/-- What a LOCKOUT_RESET from a port that may send it finds, as a status code of R338: CHECK_FAIL without the
acknowledgement, STATE without class L, TRIP_ACTIVE while a cause is or was active within 10 ms, else OK (R244). -/
def State.lockoutStatus (s : State) : Nat :=
  if s.on SLC_LOCKOUT_CFG_ACK_EN && !(s.faults.ackLowSince.any fun t => t + 200000000 ≤ s.now) then 0x08
  else if !s.faults.classL then 0x04
  else if s.faults.causes.any (fun c => c.cls = 2 && (c.active || s.now < c.lastActive + 4000000)) then 0x06
  else 0

/-- A refused LOCKOUT_RESET is recorded in the journal (R244, R390). -/
def State.lockoutRefused (s : State) (status : Nat) : State := s.journalAdd 0x07 status 0 []

/-- LOCKOUT_RESET takes effect: class L and its record go, each thread returns to BLOCKED where a class B fault stands on
it, else to OFF, and the auxiliary channels with RUN = 1 restart with the precharge (R32, R245; DESIGN CHOICE, log 30). -/
def State.endLockout (s : State) : State :=
  let s := (s.modFaults fun f => { f with classL := false, causes := f.causes.filter fun c => c.cls ≠ 2 }).updSto
  let s := s.modField fun f => { f with sos := f.sos.map fun o => { o with manual := true, forced := true } }
  let s := ((s.wr SLC_LOCKOUT_STAT_ACTIVE 0).wr SLC_LOCKOUT_STAT_CAUSE 0).wr SLC_LOCKOUT_STAT_CAUSE_ACTIVE 0
  let s := (List.range 4).foldl State.precharge (s.bumpSat SLC_LOCKOUT_STAT_RESETS)
  let s := (List.range 8).foldl (fun s t =>
    if s.thread t = 4 then
      s.setThread t (if s.on (SLC_THR_FAULT_B_ACTIVE t) || s.on SLC_FAULT_MOD_B_ACTIVE then 3 else 0)
    else s) s
  s.updModule 0

end Sys2Proof.Machine
end

