-- ==== Sys2Proof/Machine/Clocks.lean ====
section
/-! DEFINITION. The synthesiser and its reference (R396 to R403), the PTP clock with its reads and adjustments (R404 to R408),
the time compares (R409, R410) and PTP stamps (R411). -/
namespace Sys2Proof.Machine

/-! ### Lock (R400 to R403) -/

/-- The event CLK_LOCK with its code, and its journal record. -/
def State.clkEvent (s : State) (code : Nat) : State := (s.raise 61 code).journalAdd 0x08 0x0010 0 [BitVec.ofNat 8 code]

/-- The dither register is loaded with SEED (R399). -/
def State.loadSeed (s : State) : State :=
  s.modClock fun c => { c with seed := BitVec.ofNat 23 (s.rd CLK_DITHER_SEED), seedAt := s.now }

/-- One step of the 23-bit Fibonacci register with taps 23 and 18 (R399). -/
def ditherStep (x : BitVec 23) : BitVec 23 := (x <<< 1) ||| (if x.getLsbD 22 != x.getLsbD 17 then 1 else 0)

/-- The dither register at a tick: one step in each phase-detector cycle of 16 ticks (R397, R399). -/
def Clock.dither (c : Clock) (now : Nat) : BitVec 23 := Nat.repeat ditherStep ((now - c.seedAt) / 16) c.seed

/-- The clock of the lane domains changes between the synthesiser and the reference: the runs of the engine and its signature
runs go on at the new rate from where they stand (R401). -/
def State.changeRate (s : State) (slow : Bool) : State :=
  let past := fun (t : Nat) => s.now - (if slow then 16 * (s.now - t) else (s.now - t) / 16)
  let ahead := fun (t : Nat) => if t ≤ s.now then t else s.now + (if slow then 16 * (t - s.now) else (t - s.now) / 16)
  let f := fun (d : DpState) =>
    { d with run := d.run.map (fun r => { r with since := past r.since }), sigUntil := ahead d.sigUntil, freeAt := ahead d.freeAt }
  if s.on CLK_STAT_ON_REF = slow then s
  else (s.wr CLK_STAT_ON_REF (b2n slow)).bothLanes fun l => { l with cle := { l.cle with dp0 := f l.cle.dp0, dp1 := f l.cle.dp1 } }

/-- Loss of lock: the changeover to the reference, PLL_LOSS, the event, and the count (R400). -/
def State.loseLock (s : State) : State :=
  if !s.on CLK_STAT_LOCK then s
  else
    let s := ((s.wr CLK_STAT_LOCK 0).changeRate true).wr CLK_STAT_FLL_LOCK 0
    ((s.cause 0x0D 1 .module 0 none true).clkEvent 1).bump CLK_CNT_LOSS

/-- PLL_LOSS: the lock detector declares loss (R400). -/
def execPllLoss (s : State) : Host.Outcome State Fault Refusal := .next s.loseLock

/-- The synthesiser has locked: domains on it again, and PLL_LOSS inactive (R402). -/
def State.takeLock (s : State) : State :=
  ((((s.wr CLK_STAT_LOCK 1).changeRate false).causeEnd 0x0D 0).clkEvent 2).loadSeed

/-- PLL_RELOCK: lock has been held for 64 µs and the frequency counter reads `count`; a good count changes the clocks back
(R402). -/
def execPllRelock (count : Nat) (s : State) : Host.Outcome State Fault Refusal :=
  .next (if s.on CLK_STAT_LOCK || !s.clock.refPresent then s
    else
      let s := s.wr CLK_FREQ_COUNT count
      if 1019 ≤ count && count ≤ 1029 then s.takeLock else s)

/-- RELOCK_FAIL: an attempt of 10 ms has not locked (R402). -/
def execRelockFail (s : State) : Host.Outcome State Fault Refusal :=
  .next (if s.on CLK_STAT_LOCK then s else s.bump CLK_CNT_RELOCK_FAIL)

/-- SYNC changes, with TIME_SYNC (R408). -/
def State.setSync (s : State) (v : Nat) : State := if s.rd TIME_CTRL_SYNC = v then s else (s.wr TIME_CTRL_SYNC v).raise 59 v

/-- REF_LOSS: the reference shows no edge for 200 ns (R403). -/
def execRefLoss (s : State) : Host.Outcome State Fault Refusal :=
  .next (if !s.clock.refPresent then s
    else (((s.modClock fun c => { c with refPresent := false }).wr CLK_STAT_REF_LOSS 1).clkEvent 3).loseLock.setSync 0)

/-- REF_RETURN: the reference returns (R403). -/
def execRefReturn (s : State) : Host.Outcome State Fault Refusal :=
  .next (if s.clock.refPresent then s
    else ((s.modClock fun c => { c with refPresent := true }).wr CLK_STAT_REF_LOSS 0).clkEvent 4)

/-! ### The divider (R398, R399, R418) -/

/-- N, in units of 2^-24, keeps the limits of R398 against the N in force. -/
def State.ndivOk (s : State) (n : Nat) : Bool :=
  ((n : Int) - 0x80000000).natAbs ≤ 429496 && ((n : Int) - s.clock.nInForce).natAbs ≤ 137438

/-- An accepted divider write takes effect, or waits until 10 µs have passed since the last (R398). -/
def State.writeNdiv (s : State) (n : Nat) : State :=
  let s := { s with regs := s.regs.set CLK_NDIV (BitVec.ofNat 32 n) }
  s.modClock fun c =>
    if c.nAt + 4000 ≤ s.now || c.nAt = 0 then { c with nInForce := n, nAt := s.now, nWait := none } else { c with nWait := some n }

/-- NDIV_APPLY: a waiting divider write is applied (R398). -/
def execNdivApply (s : State) : Host.Outcome State Fault Refusal :=
  .next (match s.clock.nWait with
    | none => s
    | some n =>
      let s := s.passTo (s.clock.nAt + 4000)
      s.modClock fun c => { c with nInForce := n, nAt := s.now, nWait := none })

/-- FLL_UPDATE: a follower's frequency-lock loop writes CLK_NDIV within the limits of R398 (R418). -/
def execFllUpdate (v : Word) (inLock : Bool) (s : State) : Host.Outcome State Fault Refusal :=
  .next (if s.rd GRP_STAT_ROLE ≠ 2 then s
    else
      let s := if s.ndivOk v.toNat then s.writeNdiv v.toNat else s
      s.wr CLK_STAT_FLL_LOCK (b2n inLock))

/-! ### The PTP clock (R404 to R408) -/

/-- An increment of INC_NS and INC_FRAC lies outside 2.4 ns to 2.6 ns (R404). -/
def incBad (ns : Nat) (frac : Word) : Bool :=
  let inc := ns * 2 ^ 32 + frac.toNat
  10 * inc < 24 * 2 ^ 32 || 26 * 2 ^ 32 < 10 * inc

/-- TIME_INC_NS: a write applies the pair INC_NS and INC_FRAC; one outside 2.4 to 2.6 ns is discarded (R404). -/
def execTimeIncNs (who : Writer) (v : Word) (s : State) : Host.Outcome State Fault Refusal :=
  let f := s.regs.get TIME_INC_FRAC
  .next (s.heardWrite who TIME_INC_NS (if incBad (bitsOf v 3 0) f then s.mmioRefuse TIME_INC_NS 0x05
    else
      (s.wr TIME_INC_NS_INC_NS (bitsOf v 3 0)).modClock fun c => { c with incNs := BitVec.ofNat 4 (bitsOf v 3 0), incFrac := f }))

/-- TIME_NOW_NS_READ: a read of the nanoseconds latches the rest of the same instant for the requester (R405). -/
def execTimeNowNsRead (who : Requester) (s : State) : Host.Outcome State Fault Refusal :=
  let c := s.clock
  let rest := c.latch.filter fun x => x.1 ≠ who
  let mine := [(who, 0, BitVec.ofNat 32 (bitsOf c.frac 31 16)), (who, 1, c.sec.setWidth 32), (who, 2, (c.sec >>> 32).setWidth 32)]
  .next (s.readAfterBoot ((s.modClock fun c => { c with latch := mine ++ rest }).returned [BitVec.ofNat 32 c.ns]))

/-- The difference of two PTP times in nanoseconds, the seconds modulo 2^48 and signed (R406). -/
def ptpDiff (sa : BitVec 48) (na : Nat) (sb : BitVec 48) (nb : Nat) : Int := (sa - sb).toInt * 1000000000 + ((na : Int) - nb)

/-- SYNC_WRITE (R408). -/
def execSyncWrite (who : Writer) (v : Word) (s : State) : Host.Outcome State Fault Refusal :=
  .next (s.heardWrite who TIME_CTRL (s.setSync (bitsOf v 0 0)))

/-! ### Compares (R409, R410) -/

/-- The target of a compare. -/
def State.cmpTarget (s : State) (c : Nat) : BitVec 48 × Nat :=
  (BitVec.ofNat 48 (s.rd (TIME_CMP_S_HI_S_HI c) * 2 ^ 32 + s.rd (TIME_CMP_S_LO_S_LO c)), s.rd (TIME_CMP_NS_NS c))

/-- The clock minus the target of a compare, in nanoseconds (R409). -/
def State.cmpDiff (s : State) (c : Nat) : Int :=
  let t := s.cmpTarget c
  ptpDiff s.clock.sec s.clock.ns t.1 t.2

/-- The target of a compare moved on by a number of nanoseconds. -/
def State.moveTarget (s : State) (c : Nat) (d : Int) : State :=
  let t := s.cmpTarget c
  let n : Int := t.1.toNat * 1000000000 + t.2 + d
  let sec := (n / 1000000000 % (2 ^ 48 : Nat)).toNat
  ((s.wr (TIME_CMP_S_HI_S_HI c) (sec / 2 ^ 32)).wr (TIME_CMP_S_LO_S_LO c) (sec % 2 ^ 32)).wr (TIME_CMP_NS_NS c)
    (n % 1000000000).toNat

/-- A compare fires in the tick after the one given where its target is already reached in it, with LATE or without
(R409, R410). -/
def State.noteReached (s : State) (c : Nat) (late : Bool) : State :=
  s.modClock fun x =>
    { x with lateArm := x.lateArm.set c (if s.on (TIME_CMP_CTRL_ARM c) && 0 ≤ s.cmpDiff c then some (s.now, late) else none) }

/-- A compare fires: its event, the Tally latched, and the next target or disarming (R409). -/
def State.fireCmp (s : State) (c data : Nat) : State :=
  let s := (s.raise (55 + c) data).wr (TIME_CMP_TALLY_TALLY c) (s.mod.tally.toNat % 2 ^ 32)
  let s := if s.on (TIME_CMP_CTRL_PERIODIC c) then s.moveTarget c (100 * s.rd (TIME_CMP_CTRL_PERIOD c)) else s.wr (TIME_CMP_CTRL_ARM c) 0
  s.noteReached c false

/-- The ticks until an armed compare's target is reached at the present increment. -/
def State.cmpTicks (s : State) (c : Nat) : Nat :=
  let inc := s.clock.incNs.toNat * 2 ^ 32 + s.clock.incFrac.toNat
  let d := (-(s.cmpDiff c)).toNat * 2 ^ 32 - s.clock.frac.toNat
  (d + inc - 1) / max 1 inc

/-- TIME_CMP: an armed compare fires in the first tick at or after its target; one armed with its target already reached
fires in the tick after, with LATE (R409, R410). -/
def execTimeCmp (c : Nat) (s : State) : Host.Outcome State Fault Refusal :=
  .next (if !s.on (TIME_CMP_CTRL_ARM c) then s
    else
      match s.clock.lateArm.getD c none with
      | some x => (s.passTo (x.1 + 1)).fireCmp c (b2n x.2)
      | none => (s.pass (s.cmpTicks c)).fireCmp c 0)

/-- CMP_ARM: TIME_CMPc +0x00 is written; one with a PERIOD of 0 is discarded with RANGE (R409, R410). -/
def execCmpArm (who : Writer) (c : Nat) (v : Word) (s : State) : Host.Outcome State Fault Refusal :=
  .next (s.heardWrite who (TIME_CMP_CTRL c) (if bitsOf v 29 0 = 0 then s.mmioRefuse (TIME_CMP_CTRL c) 0x05
    else ({ s with regs := s.regs.set (TIME_CMP_CTRL c) v } : State).noteReached c true))

/-- CMP_TARGET_WRITE: a target word is written, which disarms the compare (R410); nanoseconds of 10^9 or more are
discarded with RANGE. -/
def execCmpTargetWrite (who : Writer) (c : Nat) (part : CmpPart) (v : Word) (s : State) : Host.Outcome State Fault Refusal :=
  let t := (s.wr (TIME_CMP_CTRL_ARM c) 0).noteReached c false
  .next (match part with
    | .sLo => s.heardWrite who (TIME_CMP_S_LO c) (t.wr (TIME_CMP_S_LO_S_LO c) v.toNat)
    | .sHi => s.heardWrite who (TIME_CMP_S_HI c) (t.wr (TIME_CMP_S_HI_S_HI c) (bitsOf v 15 0))
    | .ns => s.heardWrite who (TIME_CMP_NS c) (if 1000000000 ≤ bitsOf v 29 0 then s.mmioRefuse (TIME_CMP_NS c) 0x05
      else t.wr (TIME_CMP_NS_NS c) (bitsOf v 29 0)))

/-- The clock has been adjusted; an armed compare whose target it was carried to or past fires in the adjusting tick with
STEPPED, a periodic one once, with its target moved to the first not yet reached (R410). -/
def State.cmpAdjusted (s : State) (before : State) (c : Nat) : State :=
  if !s.on (TIME_CMP_CTRL_ARM c) then s
  else if s.cmpDiff c < 0 then s.noteReached c false
  else if 0 ≤ before.cmpDiff c then s
  else
    let s := s.fireCmp c 2
    let per : Int := 100 * s.rd (TIME_CMP_CTRL_PERIOD c)
    if s.on (TIME_CMP_CTRL_PERIODIC c) && 0 < s.cmpDiff c && 0 < per then
      (s.moveTarget c ((s.cmpDiff c / per + 1) * per)).noteReached c false
    else s

/-- TIME_ADJUST takes effect (R407): SET (1) loads the clock and clears SYNC, STEP (2) adds an offset. -/
def State.timeAdjust (s : State) (mode : Nat) (sec : BitVec 64) (nsec : Word) : State :=
  let new := if mode = 1 then
      (s.modClock fun c => { c with sec := sec.setWidth 48, ns := nsec.toNat, frac := 0 }).setSync 0
    else
      s.modClock fun c =>
        let t := (c.ns : Int) + nsec.toInt
        { c with sec := c.sec + BitVec.ofInt 48 (sec.toInt + t / 1000000000), ns := (t % 1000000000).toNat }
  (List.range 4).foldl (fun x c => x.cmpAdjusted s c) new

/-! ### Stamps (R411) -/

/-- TIME_TSp_INFO, NS and S show the oldest stamp of a port. -/
def State.showStamp (s : State) (p : Nat) : State :=
  let put := fun (s : State) (off : Nat) (v : Nat) => { s with regs := s.regs.set off (BitVec.ofNat 32 v) }
  match (s.clock.stamps.getD p []).head? with
  | none => put (put (put s (TIME_TS_INFO p) 0) (TIME_TS_NS p) 0) (TIME_TS_S p) 0
  | some x =>
    put (put (put s (TIME_TS_INFO p) (2 ^ 31 + 2 ^ 30 * b2n x.tx + x.seqId.toNat)) (TIME_TS_NS p)
      (2 ^ 30 * x.msg.toNat + x.ns)) (TIME_TS_S p) (x.sec % 2 ^ 32)

/-- PTP_EVENT_STAMP: a PTP event message is stamped; reception is corrected back by RX_LAT, transmission on by TX_LAT, and a
full FIFO counts the loss (R411). -/
def execPtpEventStamp (p : Nat) (tx : Bool) (msg : BitVec 2) (seqId : BitVec 16) (s : State) : Host.Outcome State Fault Refusal :=
  .next (if !s.on (TIME_TS_CFG_EN p) then s
    else if 16 ≤ (s.clock.stamps.getD p []).length then s.bumpSat (TIME_TS_CFG_DROP p)
    else
      let lat : Int := if tx then (s.rd (TIME_TS_CFG_TX_LAT p) : Int) else -(s.rd (TIME_TS_CFG_RX_LAT p) : Int)
      let t : Int := s.clock.sec.toNat * 1000000000 + s.clock.ns + lat
      let x : Stamp := { tx := tx, msg := msg, seqId := seqId, sec := (t / 1000000000 % (2 ^ 48 : Nat)).toNat,
                         ns := (t % 1000000000).toNat }
      (s.modClock fun c => { c with stamps := updAt c.stamps p fun l => l ++ [x] }).showStamp p)

/-- PTP_STAMP_READ: INFO, NS and S of the oldest stamp are read, and the read of S removes it (R411). -/
def execPtpStampRead (p : Nat) (s : State) : Host.Outcome State Fault Refusal :=
  let data := [s.regs.get (TIME_TS_INFO p), s.regs.get (TIME_TS_NS p), s.regs.get (TIME_TS_S p)]
  .next (s.readAfterBoot (((s.modClock fun c => { c with stamps := updAt c.stamps p List.tail }).showStamp p).returned data))

end Sys2Proof.Machine
end

