-- ==== Sys2Proof/Machine/Measure.lean ====
section
/-! DEFINITION. The measurement chain (03): conversions of the SAR cores (R70 to R74), the filter chain (R83 to R88),
latches (R90) and threshold comparators (R91). Commands act in the lane or lanes they name, on that lane's own converters. -/
namespace Sys2Proof.Machine

/-- A channel of a lane. -/
def Lane.chan (l : Lane) (k : Nat) : Chan := l.meas.chans.getD k Chan.reset
/-- A channel of a lane changed. -/
def Lane.modChan (l : Lane) (k : Nat) (f : Chan → Chan) : Lane := l.modMeas fun m => { m with chans := updAt m.chans k f }
/-- A core of a lane. -/
def Lane.core (l : Lane) (m : Nat) : SarCore := l.meas.cores.getD m SarCore.reset
/-- A core of a lane changed. -/
def Lane.modCore (l : Lane) (m : Nat) (f : SarCore → SarCore) : Lane :=
  l.modMeas fun x => { x with cores := updAt x.cores m f }

def Lane.chOrder (l : Lane) (k : Nat) : Nat := l.rd (MEAS_CH_CFG_ORDER k)
def Lane.chDec (l : Lane) (k : Nat) : Nat := l.rd (MEAS_CH_DEC_DEC_M1 k) + 1
def Lane.chMode (l : Lane) (k : Nat) : Nat := l.rd (MEAS_CH_CFG_MODE k)
def Lane.chScs (l : Lane) (k : Nat) : Bool := l.on (MEAS_CH_CFG_SCS k)
def Lane.chFir (l : Lane) (k : Nat) : Nat := l.rd (MEAS_CH_CFG_FIR k)
def Lane.chPair (l : Lane) (k : Nat) : Bool := decide (k < 32) && l.on (MEAS_CH_CFG_PAIR k)
def Lane.chShifts (l : Lane) (k : Nat) : List Nat :=
  [l.rd (MEAS_CH_SHIFT_SH1 k), l.rd (MEAS_CH_SHIFT_SH2 k), l.rd (MEAS_CH_SHIFT_SH3 k), l.rd (MEAS_CH_SHIFT_SH4 k),
   l.rd (MEAS_CH_SHIFT_SH5 k)]

/-- The outputs per frame of a LOCKED channel, K; with SCS it is 1 (R78, R88). -/
def Lane.chK (l : Lane) (k : Nat) : Nat := if l.chScs k then 1 else 2 ^ l.rd (MEAS_CH_CFG_KSEL k)

/-- The windows per frame of a LOCKED channel: with FIR the CIC gives eight outputs for each of the channel's (R85). -/
def Lane.chWins (l : Lane) (k : Nat) : Nat := if l.chFir k = 0 then l.chK k else 8 * l.chK k

/-- A TRIG channel with ORDER = 1, DEC = 1 and no FIR uses the direct path (R72). -/
def Lane.direct (l : Lane) (k : Nat) : Bool :=
  l.chMode k = 2 && l.chOrder k = 1 && l.chDec k = 1 && l.chFir k = 0

/-- A channel's output boundaries follow the frame: CONT on a SAR core, an SD channel on an OUT_LOCKED clock, or any with SCS
(R78, R88). -/
def Lane.locked (l : Lane) (k : Nat) : Bool :=
  l.chScs k || (if k < 32 then l.chMode k = 1 else l.rd (MEAS_SDCLK_CFG_MODE (l.rd (MEAS_CH_CFG_SRC k))) = 2)

/-! ### Slots (R79 to R81) -/

/-- The length of a slot of the decimation engine: 5 ticks, in Doze 80 (R79, R81). -/
def State.slotLen (s : State) : Nat := if s.rd PWR_STAT_STATE = 3 then 80 else 5

/-- The end of the first slot of a channel that starts at or after a tick. The round of 80 slots restarts at every eighth of
F, where a slot not yet begun is taken up anew (R79, R80). -/
def Lane.slotEnd (l : Lane) (now u k at_ : Nat) : Nat :=
  let i := l.firstPoint now 8 (at_ + 1) - 1
  let r := l.tickAt now (l.pointAt 8 i)
  let next := l.tickAt now (min (l.pointAt 8 (i + 1)) l.frameLen)
  let s0 := r + u * k + (at_ - (r + u * k) + 80 * u - 1) / (80 * u) * (80 * u)
  (if s0 < next then s0 else next + u * k) + u

/-- The number of windows, or of grid instants, of a LOCKED channel in the running frame, at `per` to F: all of them in an
ordinary frame; of one of angular length L those windows that lie in it whole, and those instants that lie in it (R78, R82). -/
def Lane.winCount (l : Lane) (per : Nat) : Nat := if l.ordinary then per else l.frameLen * per * l.asc.nInForce / 2 ^ 32
def Lane.gridCount (l : Lane) (per : Nat) : Nat :=
  if l.ordinary then per else (l.frameLen * per * l.asc.nInForce + 2 ^ 32 - 1) / 2 ^ 32

/-- The ticks from the boundary of a window, as its slot shifts it, to its output: a slot, a round with FIR, and a round in
pair mode (R79, R80). -/
def Lane.outDelay (l : Lane) (u k : Nat) : Nat :=
  u + (if l.chFir k = 0 then 0 else 80 * u) + (if l.chPair k then 80 * u else 0)

/-- Window i of the running frame of a LOCKED channel (R79, R80, R85). -/
def Lane.window (l : Lane) (now u k i : Nat) : Window :=
  let cut := l.tickAt now (l.pointAt (l.chWins k) i) + u * k
  { cut := cut, ready := cut + l.outDelay u k, out := l.chFir k = 0 || i % 8 = 0 }

/-- The next window of a LOCKED channel whose output is not past: its number in the running frame. -/
def Lane.nextWin (l : Lane) (now u k : Nat) : Nat :=
  max (l.chan k).winIdx (l.firstPoint now (l.chWins k) (now - (u * k + l.outDelay u k)))

/-- The grid instants per frame of a LOCKED channel (R78). -/
def Lane.chGrid (l : Lane) (k : Nat) : Nat := l.chWins k * l.chDec k

/-- The next grid instant of a LOCKED channel whose conversion is not past. -/
def Lane.nextGrid (l : Lane) (now u k : Nat) : Nat :=
  max (l.chan k).gridIdx (l.firstPoint now (l.chGrid k) (now - u * k))

/-- What a frame that ends leaves of a channel's windows and conversions: those whose instants still lie ahead (R79, R80). -/
def Lane.endChan (now u : Nat) (l : Lane) (k : Nat) : Lane :=
  if l.chMode k = 0 || !l.locked k then l
  else
    let w0 := l.nextWin now u k
    let g0 := l.nextGrid now u k
    let ws := (List.range (l.winCount (l.chWins k) - w0)).map fun i => l.window now u k (w0 + i)
    let gs := if k < 32 then (List.range (l.gridCount (l.chGrid k) - g0)).map fun j =>
        l.tickAt now (l.pointAt (l.chGrid k) (g0 + j)) + u * k
      else []
    l.modChan k fun c =>
      { c with due := c.due.filter (fun w => now ≤ w.ready) ++ ws, starts := c.starts.filter (fun t => now ≤ t) ++ gs,
               winIdx := 0, gridIdx := 0,
               integ := (if l.chScs k then List.replicate 5 0 else c.integ),
               comb := (if l.chScs k then List.replicate 5 0 else c.comb) }

/-- Every channel at the end of a frame. -/
def State.endChans (s : State) : State :=
  s.bothLanes fun l => (List.range 80).foldl (Lane.endChan s.now s.slotLen) l

/-! ### Comparators and outputs (R84, R90, R91) -/

/-- A comparator bit of MEAS_THR_STAT: channel 16j + c has LO at bit 2c and HI at bit 2c + 1. -/
def thrBit (k hi : Nat) : Fld := ⟨MEAS_THR_STAT (k / 16), 2 * (k % 16) + hi, 2 * (k % 16) + hi⟩

/-- The comparators on an output that is settled (R91): the channel's new states, and which assert. -/
def Lane.compare (l : Lane) (k : Nat) (out : Word) : Bool × Bool :=
  let c := l.chan k
  let v := signed 16 (bitsOf out 31 16)
  let hi := signed 16 (l.rd (MEAS_CH_THR_HI k))
  let lo := signed 16 (l.rd (MEAS_CH_THR_LO k))
  let h : Int := 32 * l.rd (MEAS_CH_SHIFT_HYST k)
  (if c.hi then decide (hi - h < v) else decide (hi < v), if c.lo then decide (v < lo + h) else decide (v < lo))

/-- A channel output is ready: its flags, NEW, the comparators, MEAS_THR on each assertion, and the trip (R84, R90 to
R92). -/
def State.output (s : State) (i : LaneId) (k : Nat) (v : Int) (settling : Bool) : State :=
  let l := s.lane i
  let c := l.chan k
  let x := clampBits 32 v
  let w := BitVec.ofInt 32 x
  let flags : BitVec 4 := (if settling then 2 else 0) ||| (if c.lateMark then 4 else 0) ||| (if x ≠ v then 8 else 0)
  let again := c.lastTick = s.now
  let cmp := if settling then (c.hi, c.lo) else l.compare k w
  let l := l.modChan k fun c =>
    { c with out := w, flags := flags, fresh := true, lateMark := false, lastTick := s.now,
             outOld := (if again then c.outOld else c.out), flagsOld := (if again then c.flagsOld else c.flags),
             freshOld := (if again then c.freshOld else c.fresh), hi := cmp.1, lo := cmp.2 }
  let up := cmp.1 && !c.hi
  let dn := cmp.2 && !c.lo
  let l := if up then l.wr (thrBit k 1) 1 else l
  let l := if dn then l.wr (thrBit k 0) 1 else l
  let s := s.setLane i l
  let s := if up then s.raiseFrom i 36 (k + 256) else s
  let s := if dn then s.raiseFrom i 36 k else s
  (s.recSample i 1 k w c.lateMark).updMeasTrip

/-- V × GAIN / 2^14, rounded toward minus infinity (R84; the rounding is a DESIGN CHOICE, log 49). -/
def Lane.gained (l : Lane) (k : Nat) (v : Int) : Int := shr (v * l.rd (MEAS_CH_DEC_GAIN k)) 14

/-! ### The filter chain (R83, R85, R88) -/

/-- A value wrapped to 36 bits, two's complement. -/
def wrap36 (x : Int) : Int := signed 36 (x % (2 ^ 36 : Nat)).toNat

/-- A sample through n integrators, with the shift after each. -/
def integrate : Nat → List Int → List Nat → Int → List Int × Int
  | n + 1, a :: t, sh, x =>
    let y := wrap36 (a + x)
    let r := integrate n t sh.tail (shr y (sh.headD 0))
    (y :: r.1, r.2)
  | _, l, _, x => (l, x)

/-- A decimated value through n combs. -/
def combs : Nat → List Int → Int → List Int × Int
  | n + 1, a :: t, x =>
    let r := combs n t (wrap36 (x - a))
    (x :: r.1, r.2)
  | _, l, x => (l, x)

/-- The last value that entered the first n integrators' end: the input of the combs. -/
def lastInteg : Nat → List Int → List Nat → Int
  | 0, _, _ => 0
  | 1, a :: _, sh => shr a (sh.headD 0)
  | n + 1, _ :: t, sh => lastInteg n t sh.tail
  | _ + 1, [], _ => 0

/-- A sample joins those that wait for the channel's slot. A FREE window is full with its DEC-th sample, and its output is ready
at the end of the channel's next slot, with FIR a round later (R78 to R80). -/
def Lane.addSample (l : Lane) (now u k : Nat) (x : ChanSample) : Lane :=
  let c := l.chan k
  let c := { c with samples := c.samples ++ [x] }
  if l.locked k then l.modChan k fun _ => c
  else if c.fill + 1 < l.chDec k then l.modChan k fun _ => { c with fill := c.fill + 1 }
  else
    let w : Window := { cut := now + 1, ready := l.slotEnd now u k now + (if l.chFir k = 0 then 0 else 80 * u), out := false }
    l.modChan k fun _ => { c with fill := 0, due := c.due ++ [w] }

/-- Samples through the integrators of a channel, the last value that leaves them (R83). -/
def chain (n : Nat) (sh : List Nat) : List Int → List Int × Int → List Int × Int
  | [], a => a
  | x :: r, a => chain n sh r (integrate n a.1 sh x)

/-- The response of a sinc or CIC of order n with decimation d to samples from rest: each d-th value of the integrators goes
through the combs, and the n-th gives the output (R88). -/
def scsChain (n d : Nat) (sh : List Nat) : Nat → List Int → List Int × List Int → Int → Int
  | _, [], _, out => out
  | j, x :: r, a, out =>
    let y := integrate n a.1 sh x
    if (j + 1) % d = 0 then
      let z := combs n a.2 y.2
      scsChain n d sh (j + 1) r (y.1, z.1) z.2
    else scsChain n d sh (j + 1) r (y.1, a.2) out

/-- The FIR on the last 32 CIC outputs, newest first, shifted right by 15 (R85); tap t meets the t-th newest output (DESIGN
CHOICE, log 49). -/
def Lane.firSum (l : Lane) (set : Nat) (xs : List Int) : Int :=
  shr ((List.range 32).foldl (fun a t =>
    a + signed 16 (memRd l.meas.fir (32 * set + t)).toNat * xs.getD t 0) 0) 15

/-- The samples of a window, and those that stay. A LOCKED window holds the last DEC samples from before its cut: one more is
skipped, and an SD window that lacks one shares it with the window before. A FREE window holds the oldest DEC (R78, R79). A
window that has not its samples gives none (R95). -/
def Lane.takeWindow (l : Lane) (k : Nat) (w : Window) : Option (List ChanSample) × List ChanSample :=
  let c := l.chan k
  let n := l.chDec k
  if l.locked k then
    let mine := c.samples.filter fun x => x.at_ < w.cut
    let rest := c.samples.filter fun x => w.cut ≤ x.at_
    if n ≤ mine.length then (some (mine.drop (mine.length - n)), rest)
    else match c.taken with
      | some y => if 32 ≤ k && mine.length + 1 = n then (some (y :: mine), rest) else (none, c.samples)
      | none => (none, c.samples)
  else if n ≤ c.samples.length then (some (c.samples.take n), c.samples.drop n)
  else (none, c.samples)

/-- A window closes: the CIC takes its samples in and gives an output; with FIR each eighth of these gives one of the channel.
The chain result V, and whether it is SETTLING: after a change of settings, and from a window with samples of both grids up
to the last output that R82 names (R80, R82, R83, R85, R87). -/
def Lane.closeWindow (l : Lane) (k : Nat) (w : Window) : Lane × Option (Int × Bool) :=
  let c := l.chan k
  match l.takeWindow k w with
  | (none, _) => (l, none)
  | (some xs, rest) =>
    let n := l.chOrder k
    let both := l.locked k && xs.any (fun x => x.at_ < c.gridAt) && xs.any (fun x => c.gridAt ≤ x.at_)
    let a := chain n (l.chShifts k) (xs.map fun x => x.val) (c.integ, lastInteg n c.integ (l.chShifts k))
    let y := combs n c.comb a.2
    let f := l.chFir k
    let full := if l.locked k then w.out else decide (f = 0 ∨ c.firCount = 7)
    let ys := if f = 0 then c.fir else (y.2 :: c.fir).take 32
    let l := l.modChan k fun c =>
      { c with integ := a.1, comb := y.1, samples := rest, taken := xs.getLast?, fir := ys, firCount := (c.firCount + 1) % 8,
               settle := (if both then n + (if f = 0 then 0 else 31) else c.settle - 1),
               lateMark := c.lateMark || xs.any fun x => x.late }
    (l, if full then some (if f = 0 then y.2 else l.firSum (f - 1) ys, both || decide (0 < c.settle)) else none)

/-- The frame of an SCS channel closes: the first ORDER × D_s of its samples give the output, which is settled; with fewer there
is none (R88). -/
def Lane.closeScs (l : Lane) (u k : Nat) (w : Window) : Lane × Option (Int × Bool) :=
  let c := l.chan k
  let n := l.chOrder k
  let d := l.chDec k / n
  let xs := (c.samples.filter fun x => l.asc.prevTick + u * k ≤ x.at_ && x.at_ < w.cut).take (n * d)
  let rest := List.replicate 5 0
  let l := l.modChan k fun c =>
    { c with samples := c.samples.filter (fun x => w.cut ≤ x.at_), integ := rest, comb := rest,
             lateMark := xs.any fun x => x.late }
  (l, if xs.length < n * d || d = 0 then none
      else some (scsChain n d (l.chShifts k) 0 (xs.map fun x => x.val) (rest, rest) 0, false))

/-- The next window of a channel: one that waits, or of a LOCKED channel the next of the running frame; the channel without
it. -/
def Lane.popWindow (l : Lane) (now u k : Nat) : Option (Window × Lane) :=
  let c := l.chan k
  match c.due with
  | w :: r => some (w, l.modChan k fun c => { c with due := r })
  | [] =>
    let i := l.nextWin now u k
    if l.chMode k ≠ 0 && l.locked k && i < l.winCount (l.chWins k) && 0 < l.frameInc then
      some (l.window now u k i, l.modChan k fun c => { c with winIdx := i + 1 })
    else none

/-- The skipped edges of an OUT_LOCKED clock up to a tick: the channel enters its previous bit again in the place of each
(R77). -/
def Lane.fillSkips (l : Lane) (u k upTo : Nat) : Lane :=
  let c := l.chan k
  if k < 32 then l
  else
    let at_ := (l.pwm.sdSkips.filter fun x => x.1 = l.rd (MEAS_CH_CFG_SRC k) && c.edgeAt < x.2 && x.2 ≤ upTo).map (·.2)
    at_.foldl (fun l t =>
      (l.modChan k fun c => { c with edgeAt := t }).addSample t u k
        { at_ := t, val := if c.prevBit then 1 else -1, late := false }) l

/-- FILTER_OUTPUT: the next window of a channel closes at its slot, and where it gives an output, the output is ready then
(R79, R80). -/
def execFilterOutput (ln : LaneSel) (k : Nat) (s : State) : Host.Outcome State Fault Refusal :=
  .next (s.onLanes ln fun s i =>
    let u := s.slotLen
    match (s.lane i).popWindow s.now u k with
    | none => s
    | some (w, l) =>
      let s := (s.setLane i l).passTo w.ready
      let l := (s.lane i).fillSkips u k (w.cut - 1)
      let x := if l.chScs k then l.closeScs u k w else l.closeWindow k w
      let s := s.setLane i x.1
      match x.2 with
      | none => s
      | some v => s.output i k (l.gained k v.1) v.2)

/-! ### Settling (R82, R87, R89) -/

/-- The CIC outputs after which a cleared chain has settled (R87). -/
def Lane.settleLen (l : Lane) (k : Nat) : Nat := l.chOrder k + (if l.rd (MEAS_CH_CFG_FIR k) = 0 then 0 else 31)

/-- A channel whose filter settings changed: its state cleared, its comparators released, SETTLING (R89). -/
def Lane.clearChan (l : Lane) (k : Nat) : Lane :=
  l.modChan k fun c =>
    { c with integ := List.replicate 5 0, comb := List.replicate 5 0, samples := [], taken := none, due := [], fill := 0,
             fir := List.replicate 32 0, firCount := 0, settle := l.settleLen k - 1, hi := false, lo := false,
             lateMark := false }

/-- At the start of an irregular frame every LOCKED channel restarts its grid, as its slot shifts it (R82). -/
def Lane.irregular (u : Nat) (l : Lane) : Lane :=
  (List.range 80).foldl (fun l k =>
    if l.locked k && l.chMode k ≠ 0 then l.modChan k fun c => { c with gridAt := l.asc.frameTick + u * k } else l) l

/-! ### Latches (R90) -/

/-- FILT_LATCH: the outputs of the group's channels, completed up to the tick before, go into their latches (R90). -/
def Lane.filtLatch (l : Lane) (now g : Nat) (late : Bool) : Lane :=
  (List.range 80).foldl (fun l k =>
    if l.rd (MEAS_CH_CFG_LGRP k) ≠ g then l
    else l.modChan k fun c =>
      let now' := c.lastTick = now
      let flags := if now' then c.flagsOld else c.flags
      let new := if now' then c.freshOld else c.fresh
      { c with latchAt := now, latchOld := (if c.latchAt = now then c.latchOld else c.latch),
               latchFlagsOld := (if c.latchAt = now then c.latchFlagsOld else c.latchFlags),
               latch := (if now' then c.outOld else c.out),
               latchFlags := flags ||| (if new then 1 else 0) ||| (if late then 4 else 0),
               fresh := now', freshOld := false }) l

/-! ### Conversions (R70, R71, R73, R74) -/

/-- The spacing of a core's conversions: 400 ticks in low-power mode, which LP_MASK and Doze ask for (R70, R73, R457). -/
def Lane.spacing (l : Lane) (doze : Bool) (m : Nat) : Nat := if doze || bitAt (l.rd MEAS_CTRL_LP_MASK) m then 400 else 80

/-- The earliest tick at which a core may start a conversion (R70, R73). -/
def Lane.coreFrom (l : Lane) (doze : Bool) (m : Nat) : Nat :=
  match (l.core m).startAt with
  | some t => t + l.spacing doze m
  | none => 0

/-- A conversion of a channel on a core that starts at a tick. The input is sampled 2 ticks after the start, shifted by
TIME_TRIM fine steps (R70, R74). -/
def Lane.startConv (l : Lane) (m k : Nat) (late : Bool) (at_ : Nat) : Lane :=
  l.modCore m fun _ =>
    { chan := some k, late := late, startAt := some at_, sampledAt := 32 * (at_ + 2) + signed 5 (l.rd (MEAS_CORE_TRIM1_TIME_TRIM m)) }

/-- A start of a TRIG channel: on its core if that is free, once the core may start, else as the channel's one pending start,
else dropped (R71). -/
def Lane.trigStart (l : Lane) (doze : Bool) (now k : Nat) (late : Bool) : Lane :=
  let m := l.rd (MEAS_CH_CFG_SRC k)
  match (l.core m).chan with
  | none => l.startConv m k late (max now (l.coreFrom doze m))
  | some j =>
    if j = k || (l.chan k).pendLate.isSome then l.bumpSat MEAS_STAT_CONV_DROP
    else l.modChan k fun c => { c with pendLate := some late }

/-- The part is in Doze. -/
def State.doze (s : State) : Bool := s.rd PWR_STAT_STATE = 3

/-- The channel converts: in Doze only those that PWR_DOZE_CH names do (R457). -/
def State.converts (s : State) (k : Nat) : Bool :=
  let w := s.regs.get PWR_DOZE_CH
  !s.doze || (List.range 4).any fun j => bitsOf w (8 * j + 7) (8 * j + 7) = 1 && bitsOf w (8 * j + 4) (8 * j) = k

/-- CONV_START of a conversion group in a lane: every TRIG channel of the group, ascending (R71). -/
def State.convStart (s : State) (i : LaneId) (g : Nat) (late : Bool) : State :=
  s.modLane i fun l => (List.range 32).foldl (fun l k =>
    if l.chMode k = 2 && l.rd (MEAS_CH_CFG_CGRP k) = g && s.converts k then l.trigStart s.doze s.now k late else l) l

/-- The corrected code of a core: gain and offset trim, to the nearest integer, a tie upward (DESIGN CHOICE, log 49), clipped
(R69, R74). -/
def Lane.corrected (l : Lane) (m : Nat) (raw : BitVec 16) : Int :=
  let x := raw.toInt * (l.rd (MEAS_CORE_TRIM0_GAIN_TRIM m) : Int) * 16
    + signed 16 (l.rd (MEAS_CORE_TRIM0_OFFSET_TRIM m)) * (2 ^ 15 : Nat)
  clampBits 16 ((x + (2 ^ 18 : Nat)) / (2 ^ 19 : Nat))

/-- The lowest channel with a pending start on a core. -/
def Lane.nextPend (l : Lane) (m : Nat) : Option Nat :=
  (List.range 32).find? fun k => (l.chan k).pendLate.isSome && l.rd (MEAS_CH_CFG_SRC k) = m

/-- A core free after a conversion: the lowest pending channel on it starts, once the core may start (R71, R73). -/
def Lane.freeCore (l : Lane) (doze : Bool) (now m : Nat) : Lane :=
  let l := l.modCore m fun x => { x with chan := none }
  match l.nextPend m with
  | some j =>
    (l.startConv m j ((l.chan j).pendLate.getD false) (max now (l.coreFrom doze m))).modChan j fun c => { c with pendLate := none }
  | none => l

/-- CONVERSION_DONE: the result of a core's conversion is ready, 80 ticks after its start. On the direct path it becomes the
output; else it joins the channel's samples, with the start as its sampling instant. The next pending channel of the core
starts (R70 to R72, R79). -/
def execConversionDone (ln : LaneSel) (core : Nat) (raw : BitVec 16) (s : State) : Host.Outcome State Fault Refusal :=
  .next (s.onLanes ln fun s i =>
    let x := (s.lane i).core core
    match x.chan, x.startAt with
    | some k, some t =>
      let s := s.passTo (t + 80)
      let code := (s.lane i).corrected core raw
      let s := s.modLane i fun l =>
        ((l.freeCore s.doze s.now core).modChan k fun c => { c with raw := BitVec.ofInt 16 code, lateMark := c.lateMark || (l.direct k && x.late) })
      let s := s.recSample i 0 k ((BitVec.ofInt 16 code).setWidth 32) x.late
      let l := s.lane i
      if l.direct k then s.output i k (l.gained k code) false
      else s.setLane i (l.addSample s.now s.slotLen k { at_ := t, val := code, late := x.late })
    | _, _ => s)

/-- The next grid conversion of a CONT channel: its tick, and the channel after it (R78, R79). -/
def Lane.popGrid (l : Lane) (now u k : Nat) : Option (Nat × Lane) :=
  match (l.chan k).starts.filter fun t => now ≤ t with
  | t :: r => some (t, l.modChan k fun c => { c with starts := r })
  | [] =>
    let j := l.nextGrid now u k
    if j < l.gridCount (l.chGrid k) && 0 < l.frameInc then
      some (l.tickAt now (l.pointAt (l.chGrid k) j) + u * k, l.modChan k fun c => { c with gridIdx := j + 1, starts := [] })
    else none

/-- The core that takes a channel's next grid conversion, where it is free: of a pair both in turn, at least 40 ticks apart
(R70, R73). -/
def Lane.gridCore (l : Lane) (doze : Bool) (now k : Nat) : Option Nat :=
  let m := l.rd (MEAS_CH_CFG_SRC k)
  let free := fun m => (l.core m).chan.isNone && decide (l.coreFrom doze m ≤ now)
  if !l.chPair k then (if free m then some m else none)
  else
    let a := if (l.chan k).pairTurn then m + 1 else m
    let b := if (l.chan k).pairTurn then m else m + 1
    if free a && ((l.core b).startAt.all fun t => decide (t + 40 ≤ now)) then some a else none

/-- GRID_CONVERSION: the next grid instant of a LOCKED CONT channel starts a conversion 5k ticks after it. A busy core makes
none: RATE_OVER, and the window takes the previous sample again (R73, R78, R79). -/
def execGridConversion (ln : LaneSel) (k : Nat) (s : State) : Host.Outcome State Fault Refusal :=
  .next (s.onLanes ln fun s i =>
    if (s.lane i).chMode k ≠ 1 || 32 ≤ k || !s.converts k then s
    else match (s.lane i).popGrid s.now s.slotLen k with
      | none => s
      | some (t, l) =>
        let s := (s.setLane i l).passTo t
        s.modLane i fun l =>
          let r := l.modChan k fun c => { c with pairTurn := !c.pairTurn }
          match l.gridCore s.doze s.now k with
          | some m => r.startConv m k false s.now
          | none =>
            ((r.wr MEAS_STAT_RATE_OVER 1).bumpSat MEAS_STAT_CONV_DROP).addSample s.now s.slotLen k
              { at_ := s.now, val := (l.chan k).raw.toInt, late := false })

/-- The next sampling edge of a channel on a clock that the part drives: a rising edge, or with EDGE a falling one, of the set
in force for an OUT_LOCKED clock, or of 400 MHz / DIV for an OUT_FIXED one, whose phase the spec leaves open (R76; log 50).
None on a clock that a modulator supplies. -/
def State.nextClock (s : State) (i : LaneId) (k : Nat) : Option Nat :=
  let l := s.lane i
  let n := l.rd (MEAS_CH_CFG_SRC k)
  let fall := l.on (MEAS_CH_CFG_EDGE k)
  let from_ := max s.now ((l.chan k).edgeAt + 1)
  match l.rd (MEAS_SDCLK_CFG_MODE n) with
  | 1 =>
    let d := max 1 (l.rd (MEAS_SDCLK_CFG_DIV n))
    let ph := Config.sdclkPhase n + (if fall then d / 2 else 0)
    some (from_ + (ph % d + d - from_ % d) % d)
  | 2 =>
    (s.duplex.playing.filterMap fun e =>
      let t := ((l.asc.frameTick : Int) + e.t / 32).toNat
      if e.leg = 0x30 + n && e.on = !fall && from_ ≤ t then some t else none).min?
  | _ => some s.now

/-- SDCLK_EDGE: an edge of a channel's clock. On its sampling edge, the rising one or with EDGE the falling one, the channel
takes its bit as +1 or −1; a clock that the part drives has its edges at their own ticks (R76, R77). -/
def execSdclkEdge (ln : LaneSel) (k : Nat) (e : SdEdge) (s : State) : Host.Outcome State Fault Refusal :=
  .next (s.onLanes ln fun s i =>
    let l := s.lane i
    if k < 32 || l.chMode k ≠ 1 || !s.converts k || e.rising = l.on (MEAS_CH_CFG_EDGE k) then s
    else match s.nextClock i k with
      | none => s
      | some t =>
        let s := s.passTo t
        let l := (s.lane i).fillSkips s.slotLen k (s.now - 1)
        let l := (l.modChan k fun c => { c with prevBit := e.bit, edgeAt := s.now }).addSample s.now s.slotLen k
          { at_ := s.now, val := if e.bit then 1 else -1, late := false }
        (s.setLane i l).recSample i 2 k (if e.bit then 1 else 0) false)

end Sys2Proof.Machine
end

