-- ==== Sys2Proof/Machine/Pwm.lean ====
section
/-! DEFINITION. PWM generation (07): the prediction at EDGE_CUT (R181), carriers and compares (R179 to R184), leg states and
pulse rules (R185 to R188), refresh dwells (R191), triggers (R192), and the edge set of a frame (R193, R194). Times are
fine steps from the start of the frame being built. -/
namespace Sys2Proof.Machine

/-! ### Prediction (R21, R181) -/

/-- What is predicted of a source over the coming frame: its accumulator and front at the boundary, in units of 2^-16 bt,
its increment, the front ahead of the loads and steps that fall on the boundary, and whether these jump or resynchronise it. -/
structure SrcPred where
  acc : BitVec 48
  front : BitVec 48
  inc : Int
  base : BitVec 48
  leap : Bool
deriving DecidableEq, Repr

/-- A source that stands still at 0, where a prediction has none. -/
def SrcPred.still : SrcPred := { acc := 0, front := 0, inc := 0, base := 0, leap := false }

/-- A front as an accumulator: with the source's fraction where the source is the front. -/
def frontAcc (a : AngleSrc) : BitVec 48 := if a.pos = a.front then a.acc else accOf a.front

/-- The resynchronisations of a source that runs backward for k ticks from the tick t on: the tick of each, and the angle that
the front is set to (R50). -/
def backMoves (inc : Int) : Nat → Nat → Nat → BitVec 48 → Word → List (Nat × BitVec 48)
  | 0, _, _, _, _ => []
  | fuel + 1, t, k, acc, front =>
    let room : Int := (acc.toNat % 65536 : Nat) + (0x40000000 + angDiff (acc.extractLsb' 16 32) front) * 65536
    let j := (room / (-inc)).toNat + 1
    if 0 ≤ inc || k < j then []
    else
      let acc := acc + BitVec.ofInt 48 (inc * j)
      (t + j, acc) :: backMoves inc fuel (t + j) (k - j) acc (acc.extractLsb' 16 32)

/-- The same over k ticks; a resynchronisation takes 2^15 ticks at least (R54). -/
def backOver (inc : Int) (k : Nat) (acc : BitVec 48) (front : Word) : List (Nat × BitVec 48) :=
  backMoves inc (2 + k / 32768) 0 k acc front

/-- A source k ticks on as the prediction takes it: by its increment, in every mode (R181). -/
def Lane.predAdv (l : Lane) (k n : Nat) (a : AngleSrc) : AngleSrc :=
  let free : Int := a.acc.toNat + l.incOf n * k
  let acc := BitVec.ofInt 48 free
  let d := angDiff a.pos a.front + (free / 65536 - (a.acc.toNat / 65536 : Nat))
  { a with acc := acc,
           front := if 0 < d then acc.extractLsb' 16 32
             else match (backOver (l.incOf n) k a.acc a.front).getLast? with
               | some x => x.2.extractLsb' 16 32
               | none => a.front }

/-- The prediction of every source at the boundary k ticks on, with what the CLE has published by now. Loads and steps are one
movement with the advance of the boundary's tick, measured from the front at its start (R50, R181). -/
def Lane.predict (l : Lane) (k : Nat) : List SrcPred :=
  let f := l.rd ASC_FRAME_STAT_SRC_IN_FORCE
  let nn := l.asc.nInForce
  let p := l.modAsc fun a => { a with srcs := a.srcs.mapIdx fun n x => l.predAdv k n x }
  (List.range 4).map fun n =>
    let a := p.src n
    let was := if k = 0 then { l.src n with front := (l.src n).frontAtTick } else l.predAdv (k - 1) n (l.src n)
    let acc := p.loadStep n
    let x := p.incIn f nn 4 n
    let inc := if n = f && f ≠ 3 then clampInc nn x else x
    if !p.moved n then { acc := acc, front := frontAcc a, inc := inc, base := frontAcc a, leap := false }
    else match classify (p.jumpBt n) (angDiff (acc.extractLsb' 16 32) was.front) with
      | .held => { acc := acc, front := frontAcc was, inc := inc, base := frontAcc was, leap := false }
      | .ordinary => { acc := acc, front := acc, inc := inc, base := frontAcc a, leap := false }
      | _ => { acc := acc, front := acc, inc := inc, base := frontAcc a, leap := true }

/-- The predicted length in ticks of the coming frame; one that never ends is taken as 2^22 ticks (log 20). -/
def Lane.predLen (l : Lane) (ps : List SrcPred) : Nat :=
  let f := l.rd ASC_FRAME_STAT_SRC_IN_FORCE
  let nn := l.asc.nInForce
  let p := ps.getD f SrcPred.still
  let start := p.front.extractLsb' 16 32
  let stop := if l.moved f then farPoint nn start else nextPoint nn l.asc.frameEnd
  let need : Int := (accOf stop - p.acc).toInt
  if p.inc ≤ 0 then 2 ^ 22 else ((need + p.inc - 1) / p.inc).toNat

/-! ### Carriers (R179, R180) -/

/-- A carrier group's settings: DEN and Q in bt. -/
def Lane.cgDen (l : Lane) (g : Nat) : Nat := l.rd (PWM_CG_PERREM_DEN g)
def Lane.cgQ (l : Lane) (g : Nat) : Nat := l.cgDen g * l.rd (PWM_CG_PERIOD_PER_FRAC g) + l.rd (PWM_CG_PERREM_REM g)

/-- The offset of B_j from PHASE in bt, j counted through the M turns and on (R179). -/
def Lane.cgB (l : Lane) (g j : Nat) : Nat := j * l.cgQ g / l.cgDen g

/-- The period that holds a place of the carrier in bt. -/
def Lane.cgPeriod (l : Lane) (g x : Nat) : Nat :=
  let j := x * l.cgDen g / l.cgQ g
  if l.cgB g (j + 1) ≤ x then j + 1 else j

def Carrier.reset : Carrier :=
  { at_ := 0, pos := 0, lag := 0, inc := 0, anchored := true, moves := [], unbuilt := false }

/-- The carrier of a group. -/
def Lane.carrier (l : Lane) (g : Nat) : Carrier := l.pwm.carriers.getD g Carrier.reset

/-- The group is anchored: the carrier in the period that holds the front, the wrap count 0 (R180; log 21). -/
def Lane.anchor (l : Lane) (g : Nat) : Lane :=
  let f := (l.src (l.rd (PWM_CG_CFG_SRC g))).front
  let q := l.cgQ g
  let x := if q = 0 then 0 else ((f.toNat : Int) - l.rd (PWM_CG_PHASE_PHASE g)) % q
  let c : Carrier :=
    { at_ := accOf f, pos := x.toNat * 65536, lag := 0, inc := 0, anchored := true, moves := [], unbuilt := false }
  l.modPwm fun p => { p with carriers := p.carriers.set g c }

/-- The Angle Schedulers start, and every carrier group is anchored (R40, R180). -/
def State.startCarriers (s : State) : State :=
  s.startAngles.bothLanes fun l => (List.range 16).foldl Lane.anchor l

/-- A carrier k ticks after the start of its last built frame, as it was predicted there (R181). -/
def Carrier.after (c : Carrier) (q k : Nat) : BitVec 48 × Nat :=
  match (c.moves.filter fun x => x.1 ≤ k).getLast? with
  | some x => x.2
  | none =>
    let d := max 0 (c.inc * k - c.lag)
    (c.at_ + BitVec.ofInt 48 d, if q = 0 then 0 else (c.pos + d.toNat) % (q * 65536))

/-- A move of a carrier with a jump or a resynchronisation of its front: the instant in ticks from the start of the frame, the
front and the place it moves to, the period there, and whether that is another period than before (R180). -/
structure Leap where
  tick : Nat
  at_ : BitVec 48
  pos : Nat
  j : Nat
  other : Bool
deriving DecidableEq, Repr

/-- A carrier's motion over the frame being built. `at_` and `pos` are its front and place at the start in units of
2^-16 bt, `lag` the distance from the source to the carrier there, `run` the distance it moves, `leaps` its moves by jumps and
resynchronisations, `started` whether the first of them is at the start; `behind` is the reach behind the start of the compares
that rounding carries into this frame (R184); `j0` is the period at the start, `running` whether that period started before the
frame, `unbuilt` whether it was left unbuilt, `inFrame` the periods that start in the frame, at most 16, and `later` those that
start soon after, each with its number, counted on without wrapping, and the distance to its start; `count` counts all that
start, and `ovf` tells that they are more than 16 (R180, R181, R193). -/
structure Motion where
  at_ : BitVec 48
  pos : Nat
  lag : Int
  run : Int
  inc : Int
  leaps : List Leap
  started : Bool
  behind : Int
  j0 : Nat
  running : Bool
  unbuilt : Bool
  inFrame : List (Nat × Int)
  later : List (Nat × Int)
  count : Nat
  ovf : Bool
deriving DecidableEq, Repr

/-- The carrier enters another period than the one it was in by a leap (R180, R183). -/
def Motion.other (m : Motion) : Bool := m.leaps.any (·.other)

/-- A place of a carrier of Q bt moved by a signed distance. -/
def placeOn (q pos : Nat) (d : Int) : Nat := (((pos : Int) + d) % (q * 65536 : Nat)).toNat

/-- The moves of a carrier with the resynchronisations of its source on its way backward. -/
def Lane.backLeaps (l : Lane) (g : Nat) : BitVec 48 → Nat → List (Nat × BitVec 48) → List Leap
  | _, _, [] => []
  | at_, pos, x :: r =>
    let p := placeOn (l.cgQ g) pos (x.2 - at_).toInt
    let j := l.cgPeriod g (p / 65536)
    { tick := x.1, at_ := x.2, pos := p, j := j, other := j != l.cgPeriod g (pos / 65536) } :: l.backLeaps g x.2 p r

/-- The motion of a group's carrier: a forward difference from the earlier prediction is a jump, a backward one of up to a
quarter turn holds it, and a larger one moves it back; a load or step that jumps or resynchronises the source moves it at the
boundary. `cut` is the length of the last built frame in ticks, `extra` the ticks beyond the coming frame that the pulse rules
look ahead (R180, R181, R188). -/
def Lane.motion (l : Lane) (g : Nat) (ps : List SrcPred) (cut len extra : Nat) : Motion :=
  let c := l.carrier g
  let q := l.cgQ g
  let here := c.after q (min cut l.pwm.len)
  let p := ps.getD (l.rd (PWM_CG_CFG_SRC g)) SrcPred.still
  let e := (p.base - here.1).toInt
  let hold := e ≤ 0 && -(2 ^ 46 : Nat) ≤ e
  let at0 := if hold then here.1 else p.base
  let pos0 := if hold then here.2 else placeOn q here.2 e
  let at_ := if p.leap then p.front else at0
  let pos := if p.leap then placeOn q pos0 (p.front - at0).toInt else pos0
  let lag := (at_ - p.acc).toInt
  let run := max 0 (p.inc * len - lag)
  let started := (!hold && !c.anchored) || p.leap
  let j0 := l.cgPeriod g (pos / 65536)
  let first : List Leap := if started then
      [{ tick := 0, at_ := at_, pos := pos, j := j0, other := j0 != l.cgPeriod g (here.2 / 65536) }] else []
  let backs := ((backOver p.inc len p.acc (p.front.extractLsb' 16 32)).filter fun x => x.1 < len)
  let fresh := l.cgB g j0 * 65536 = pos && !started && 0 < run
  let all := if p.inc ≤ 0 then [] else
    (List.range 40).filterMap fun k =>
      let d : Int := (l.cgB g (j0 + k) : Nat) * 65536 - pos
      if (0 < d || (d = 0 && fresh)) && d ≤ run + p.inc * extra then some (j0 + k, d) else none
  let inn := all.filter fun x => x.2 < run
  let ovf := decide (16 < inn.length)
  { at_ := at_, pos := pos, lag := lag, run := run, inc := p.inc, leaps := first ++ l.backLeaps g at_ pos backs,
    started := started, behind := if started || c.anchored then 0 else c.inc, j0 := j0, running := !fresh, unbuilt := c.unbuilt,
    inFrame := inn.take 16, later := if ovf then [] else all.drop inn.length,
    count := (if 0 < run then l.cgPeriod g ((pos + run.toNat - 1) / 65536) - j0 else 0) + b2n fresh, ovf := ovf }

/-- The instant at which the carrier has moved a distance, in fine steps to the nearest, and not ahead of the frame (R184). -/
def Motion.instant (m : Motion) (dist : Int) : Int :=
  if m.inc ≤ 0 then 0 else max 0 ((64 * (m.lag + dist) + m.inc) / (2 * m.inc))

/-- An angle so far behind the start that its instant rounded up to the end of the last built frame, and is carried into this
one (R184). -/
def Motion.carried (m : Motion) (d : Int) : Bool := d < 0 && -m.behind ≤ 64 * d

/-! ### Compares and commanded levels (R182, R184) -/

/-- The offset in bt of a compare in a period (R184). -/
def Lane.cmpAngle (l : Lane) (g j c : Nat) : Nat := l.cgB g j + c * (l.cgB g (j + 1) - l.cgB g j) / 65536

/-- What a carrier does to the commanded levels of a leg: an instant, and the levels set. -/
abbrev LevelEv := Int × List (Nat × Bool)

/-- The level changes that a period's compares place on a switch, in the order of their angles. `mem` holds the period's
compares; `back` is a whole carrier where the period lies behind its start. An instant that rounds up to the frame's end belongs
to the next frame. -/
def Lane.switchEvents (l : Lane) (g : Nat) (m : Motion) (extra fe : Int) (mem : WordMem) (back : Int) (j leg sw : Nat) :
    List LevelEv :=
  let set := (memRd mem (12 * leg + 2 * sw)).toNat
  let clr := (memRd mem (12 * leg + 2 * sw + 1)).toNat
  let two := if set < clr then [(set, true), (clr, false)] else if clr < set then [(clr, false), (set, true)] else []
  two.filterMap fun p =>
    let d : Int := (l.cmpAngle g j p.1 : Nat) * 65536 - m.pos - back
    if m.carried d then some (0, [(sw, p.2)])
    else if d < 0 || (d = 0 && m.started) || m.inc ≤ 0 || m.run + m.inc * extra < d then none
    else some (if d < m.run then m.instant d else max (m.instant d) fe, [(sw, p.2)])

/-- The commanded level at a place of a period (R180): with SET = CLR the level stays. -/
def levelAt (set clr x : Nat) (was : Bool) : Bool :=
  if set < clr then set ≤ x && x < clr else if clr < set then x < clr || set ≤ x else was

/-- An event placed in time order, after events of the same instant. -/
def insertBy {α : Type} (t : α → Int) (e : α) : List α → List α
  | [] => [e]
  | x :: r => if t x ≤ t e then x :: insertBy t e r else e :: x :: r

def sortBy {α : Type} (t : α → Int) (l : List α) : List α := l.foldl (fun a e => insertBy t e a) []

/-! ### Leg states (R185, R186) -/

/-- The states of a leg type: code and switches on. -/
def legStates (type : Nat) : List (Nat × List Nat) :=
  match type with
  | 0 => [(0, []), (1, [0]), (2, [3])]
  | 3 => [(0, []), (3, [0, 1, 5]), (4, [1, 4]), (5, [2, 5]), (6, [2, 3, 4])]
  | _ => [(0, []), (3, [0, 1]), (4, [1, 2]), (6, [2, 3])]

/-- The switches of a leg type (R185). -/
def legSwitches (type : Nat) : List Nat := match type with | 0 => [0, 3] | 3 => [0, 1, 2, 3, 4, 5] | _ => [0, 1, 2, 3]

/-- The switches on in a state. -/
def stateSws (type code : Nat) : List Nat := ((legStates type).find? fun p => p.1 = code).elim [] fun p => p.2

/-- The state that a commanded pattern is, where it is one (R185). -/
def patternState (type : Nat) (sws : List Bool) : Option Nat :=
  let on := (legSwitches type).filter fun k => sws.getD k false
  ((legStates type).find? fun p => p.2 = on).map fun p => p.1

/-- The bridge state of a change, or none where the change is direct (R186). -/
def bridgeOf (type x y : Nat) : Option Nat :=
  if type = 0 || x = 4 || x = 5 || y = 4 || y = 5 then none
  else if type = 3 && (x = 6 || (x = 0 && y = 6)) then some 5
  else some 4

/-- The switches lost by leaving out a dwell in y between x and what follows: pulses, and gaps closed (R187). -/
def lostPulses (type x y : Nat) : Nat × Nat :=
  (((stateSws type y).filter fun k => !(stateSws type x).contains k).length,
   ((stateSws type x).filter fun k => !(stateSws type y).contains k).length)

/-! ### Pulse rules (R187, R188) -/

/-- What a build knows of a leg: its type, t_min and the bridge, the frame's end, BS_MAX_ON and BS_REFRESH, all times in
fine steps, and whether the refresh rule holds (R187, R189, R191). -/
structure LegCfg where
  type : Nat
  tmin : Int
  bridge : Int
  fe : Int
  boot : Bool
  maxOn : Int
  refresh : Int
deriving DecidableEq, Repr

/-- A leg under the pulse rules: the state, entry and R191 count it came with; its dwells of this build, newest first, as
state, instant entered, and whether a bridge's end or a moved change entered it; the change decided for later; the
commanded state; the start and the end of a refresh dwell; and the counts. `lateFrom` is the instant from which changes rest on
compares that are not yet latched (R188). -/
structure LegRun where
  base : Nat × Int
  onTime : Int
  inL : Option Int
  dwells : List (Nat × Int × Bool)
  next : Option (Nat × Int)
  removed : Option (Nat × Int)
  cmd : Nat
  lateFrom : Option Int
  ret : Option (Int × Int)
  dropped : Nat
  merged : Nat
  bridged : Nat
  stretched : Nat
  refreshed : Nat
deriving DecidableEq, Repr

/-- The dwell the leg is in. -/
def LegRun.cur (r : LegRun) : Nat × Int :=
  match r.dwells with
  | [] => r.base
  | d :: _ => (d.1, d.2.1)

/-- The leg leaves its state for z at an instant, over a bridge where the change is not direct (R186). -/
def LegRun.enter (r : LegRun) (c : LegCfg) (z : Nat) (t : Int) (fixed : Bool) : LegRun :=
  if r.cur.1 = z then r
  else match bridgeOf c.type r.cur.1 z with
    | none => { r with dwells := (z, t, fixed) :: r.dwells }
    | some b => { r with dwells := (b, t, fixed) :: r.dwells, next := some (z, t + c.bridge), bridged := r.bridged + 1 }

/-- A change decided for later takes place, where it is due by an instant. -/
def LegRun.settle (r : LegRun) (c : LegCfg) (t : Int) : LegRun :=
  match r.next with
  | some (w, tb) => if tb ≤ t then ({ r with next := none } : LegRun).enter c w tb true else r
  | none => r

/-- The counts of a dwell in y that is left out. -/
def LegRun.lose (r : LegRun) (c : LegCfg) (y : Nat) : LegRun :=
  let k := lostPulses c.type r.cur.1 y
  { r with dropped := r.dropped + k.1, merged := r.merged + k.2 }

/-- A change to z at an instant (R187). A change before one decided for later is carried to that one's instant, whose
dwell is then left out. A dwell shorter than t_min is removed where this build placed it, else the change out of it
moves; a removal that a change by compares not yet latched causes is noted (R188). -/
def LegRun.change (r : LegRun) (c : LegCfg) (z : Nat) (t : Int) : LegRun :=
  let r := r.settle c t
  match r.next with
  | some (w, tb) =>
    if w = z then r
    else { r.lose c w with next := if r.cur.1 = z then none else some (z, tb) }
  | none =>
    let y := r.cur
    let t := max t y.2
    if y.1 = z then r
    else if t - y.2 < c.tmin then
      match r.dwells with
      | _ :: rest =>
        let r := ({ r with dwells := rest } : LegRun).lose c y.1
        let r := if y.2 < c.fe && r.lateFrom.any (fun x => x ≤ t) then { r with removed := some y } else r
        r.enter c z y.2 false
      | [] => { r with next := some (z, y.2 + if c.type = 0 then c.tmin else c.bridge), stretched := r.stretched + 1 }
    else r.enter c z t false

/-- The count of R191 after a span in a state: time in H, back to 0 once a dwell in L has lasted BS_REFRESH. -/
def onCount (refresh : Int) (x : Int × Option Int) (st : Nat) (t0 t1 : Int) : Int × Option Int :=
  if st = 1 then (x.1 + (t1 - t0), none)
  else if st = 2 then (if refresh ≤ t1 - x.2.getD t0 then 0 else x.1, some (x.2.getD t0))
  else (x.1, none)

/-- The count of R191 over dwells, oldest first, from a state entered at an instant, up to an instant. -/
def onOver (refresh : Int) : List (Nat × Int) → Int × Option Int → Nat → Int → Int → Int × Option Int
  | [], x, st, t0, t1 => onCount refresh x st t0 t1
  | (z, t) :: rest, x, st, t0, t1 => onOver refresh rest (onCount refresh x st t0 t) z t t1

/-- What acts on a leg in a build: a commanded state, or the start of a carrier period with its predicted length. -/
inductive LegEv where
  | cmd (z : Nat)
  | start (len : Int)
deriving DecidableEq, Repr

/-- A refresh dwell that has ended by an instant returns the leg to its commanded state (R191). -/
def LegRun.endRefresh (r : LegRun) (c : LegCfg) (t : Int) : LegRun :=
  match r.ret with
  | some x => if x.2 ≤ t then ({ r with ret := none } : LegRun).change c r.cmd x.2 else r
  | none => r

/-- An event of the frame acts on a leg (R187, R191). -/
def LegRun.event (c : LegCfg) (r : LegRun) (e : Int × LegEv) : LegRun :=
  let r := r.endRefresh c e.1
  match e.2 with
  | .cmd z =>
    let r := { r with cmd := z }
    if r.ret.isSome then r else r.change c z e.1
  | .start lp =>
    let r := r.settle c e.1
    let n := onOver c.refresh (r.dwells.reverse.map fun d => (d.1, d.2.1)) (r.onTime, r.inL) r.base.1 0 e.1
    if c.boot && r.ret.isNone && c.maxOn - c.refresh < n.1 + lp then
      { r.change c 2 e.1 with ret := some (e.1, e.1 + c.refresh), refreshed := r.refreshed + 1 }
    else r

/-- The dwells that begin in the frame. -/
def LegRun.inFrame (r : LegRun) (c : LegCfg) : List (Nat × Int × Bool) := r.dwells.filter fun d => d.2.1 < c.fe

/-- The predicted changes beyond the frame's end act as far as they alter what the frame holds (R188). -/
def LegRun.look (c : LegCfg) : List (Int × Nat) → LegRun → LegRun
  | [], r => r
  | (t, z) :: rest, r =>
    let r' := r.change c z t
    if r'.inFrame c = r.inFrame c then r else LegRun.look c rest r'

/-- A commanded pattern in a build: from an instant on, the levels and the commanded state, and whether the pattern is invalid
and so leaves the state as it was (R185). -/
structure PatternAt where
  t : Int
  sws : List Bool
  cmd : Nat
  bad : Bool
deriving DecidableEq, Repr

/-- The commanded patterns after each instant of level events, in time order. Events of one instant act together. -/
def patterns (type : Nat) : List LevelEv → List Bool → Nat → List PatternAt
  | [], _, _ => []
  | (t, ls) :: rest, sws, st =>
    let sws := ls.foldl (fun a x => a.set x.1 x.2) sws
    if (rest.head?.map fun e => e.1) = some t then patterns type rest sws st
    else
      let z := patternState type sws
      { t := t, sws := sws, cmd := z.getD st, bad := z.isNone } :: patterns type rest sws (z.getD st)

/-- The changes of the commanded state in a list of patterns. -/
def cmdMoves : Nat → List PatternAt → List (Int × Nat)
  | _, [] => []
  | st, p :: r => if p.cmd = st then cmdMoves st r else (p.t, p.cmd) :: cmdMoves p.cmd r

/-! ### Building a leg (R184 to R194) -/

/-- The commanded levels and state before an instant of the last built frame. -/
def PwmLeg.levelsAt (p : PwmLeg) (t : Int) : List Bool × Nat :=
  match p.levels with
  | [] => (List.replicate 6 false, 0)
  | x :: r => ((r.filter fun e => e.1 < t).getLast?.getD x).2

/-- The leg as it stands where its last built frame ends: built to `built`, ended at `len`, in fine steps. Changes at or
beyond the end have not taken place, but for the end of a bridge and a moved change, nor has a refresh dwell that begins there.
Times count from the new start (R187, R191, R194). -/
def PwmLeg.begin (p : PwmLeg) (c : LegCfg) (built len : Int) : LegRun :=
  let stop := min built len
  let done := p.changes.filter fun x => x.t < stop
  let gone := p.changes.find? fun x => stop ≤ x.t
  let n := onOver c.refresh (done.map fun x => (x.new, x.t)) (p.onTime, p.inL) p.state 0 len
  let cur := match done.getLast? with
    | some x => (x.new, x.t - len)
    | none => (p.state, p.since - len)
  let shift := fun (x : Nat × Int) => (x.1, max 0 (x.2 - len))
  { base := cur, onTime := n.1, inL := n.2.map (fun x => x - len), dwells := [],
    next := (match gone with
      | none => p.next.map shift
      | some x => if x.fixed then some (shift (x.new, x.t)) else none),
    removed := if gone.isSome then none else p.removed.map (fun x => (x.1, x.2 - len)),
    cmd := 0, lateFrom := none, ret := (p.refresh.filter fun x => x.1 < stop).map (fun x => (x.1 - len, max 0 (x.2 - len))), dropped := 0, merged := 0, bridged := 0, stretched := 0,
    refreshed := 0 }

/-- The turn-ons that the new set takes over: those of changes that took place, dropped by the cut at its start, those
beyond the built end at their instants (R194). -/
def PwmLeg.takeover (p : PwmLeg) (built len : Int) : List (Nat × Int) :=
  let stop := min built len
  p.ons.filterMap fun x =>
    if x.2.1 < stop && stop ≤ x.2.2 then some (x.1, if x.2.2 < built then 0 else max 0 (x.2.2 - len)) else none

/-- The edges of a state change: turn-offs at once, turn-ons after the dead time (R186). -/
def changeEdges (type leg : Nat) (dt : Int) (c : LegChange) : List Edge :=
  ((stateSws type c.old).filter fun k => !(stateSws type c.new).contains k).map (fun k =>
    { leg := leg, sw := k, on := false, t := c.t }) ++
  ((stateSws type c.new).filter fun k => !(stateSws type c.old).contains k).map (fun k =>
    { leg := leg, sw := k, on := true, t := c.t + dt })

/-- Dwells, oldest first, as changes from a state. -/
def dwellChanges : Nat → List (Nat × Int × Bool) → List LegChange
  | _, [] => []
  | st, (z, t, f) :: r => { t := t, old := st, new := z, fixed := f } :: dwellChanges z r

/-- The minimum dwell t_min and the bridge of a leg, in fine steps (R187, R189). -/
def Lane.legTmin (l : Lane) (leg : Nat) : Int := 32 * (l.rd (PWM_LEG_TIME_DT leg) + l.rd (PWM_LEG_TIME_MIN_PULSE leg) : Nat)
def Lane.legBridge (l : Lane) (leg : Nat) : Int := max (l.legTmin leg) (32 * l.rd (PWM_LEG_BRIDGE_BRIDGE leg))

/-- The ticks beyond the frame that the pulse rules of a leg look ahead. -/
def LegCfg.extra (c : LegCfg) : Nat := ((c.tmin + c.bridge) / 32 + 1).toNat

/-- What a build of `len` ticks knows of a leg. -/
def Lane.legCfg (l : Lane) (leg len : Nat) : LegCfg :=
  { type := l.rd (PWM_LEG_CFG_TYPE leg), tmin := l.legTmin leg, bridge := l.legBridge leg, fe := 32 * len,
    boot := l.on (PWM_LEG_CFG_BOOTSTRAP leg) && l.rd (PWM_LEG_CFG_TYPE leg) = 0,
    maxOn := 12800 * l.rd (PWM_LEG_BS_BS_MAX_ON leg), refresh := 32 * l.rd (PWM_LEG_BS_BS_REFRESH leg) }

/-- The compares of the period in progress: those it keeps; of another one that a leap enters, the active ones (R183). -/
def Lane.compares (l : Lane) (m : Motion) : WordMem := if m.other then l.pwm.active else l.pwm.latched

/-- The commanded levels at the carrier's place after a leap (R180). -/
def Lane.leapLevels (l : Lane) (g type leg : Nat) (mem : WordMem) (x : Leap) : List (Nat × Bool) :=
  (legSwitches type).filterMap fun k =>
    let set := l.cmpAngle g x.j (memRd mem (12 * leg + 2 * k)).toNat
    let clr := l.cmpAngle g x.j (memRd mem (12 * leg + 2 * k + 1)).toNat
    if set = clr then none else some (k, levelAt set clr (x.pos / 65536) false)

/-- The level events of a leg: its carrier's leaps; what rounding carries in from the period before; the period in progress, by
the compares it keeps; then each period that starts, by the active compares, and a later one by the latest latched (R180, R183,
R188). -/
def Lane.legEvents (l : Lane) (g : Nat) (m : Motion) (c : LegCfg) (leg : Nat) : List LevelEv :=
  let mem := l.compares m
  let ev := fun (mem : WordMem) (back : Int) (j : Nat) => (legSwitches c.type).flatMap fun k =>
    l.switchEvents g m c.extra c.fe mem back j leg k
  let next := if m.inFrame.isEmpty then mem else l.pwm.active
  sortBy (fun e => e.1)
    (m.leaps.map (fun x => (32 * (x.tick : Int), l.leapLevels g c.type leg mem x)) ++
      (if m.running then ev mem 0 m.j0 else ev l.pwm.latched ((l.cgQ g : Nat) * 65536) (m.j0 + l.cgDen g - 1)) ++
      m.inFrame.flatMap (fun s => ev l.pwm.active 0 s.1) ++ m.later.flatMap fun s => ev next 0 s.1)

/-- A counter field that wraps, increased by n. -/
def Lane.addTo (l : Lane) (x : Fld) (n : Nat) : Lane := l.wr x (l.rd x + n)

/-- The counts and the state of a leg after a build (R186, R187, R191). -/
def Lane.noteLeg (l : Lane) (leg : Nat) (r : LegRun) (st : Nat) (bad : Bool) : Lane :=
  let l := ((l.addTo (PWM_LEG_CNT0_DROPPED leg) r.dropped).addTo (PWM_LEG_CNT0_MERGED leg) r.merged)
  let l := ((l.addTo (PWM_LEG_CNT1_BRIDGED leg) r.bridged).addTo (PWM_LEG_CNT1_STRETCHED leg) r.stretched)
  let l := ((l.addTo (PWM_LEG_STAT_BS_CNT leg) r.refreshed).wr (PWM_LEG_STAT_STATE leg) st)
  if bad then (l.wr (PWM_LEG_STAT_PATTERN leg) 1).wr PWM_STAT_PATTERN 1 else l

/-- The period starts of a build at which R191 looks: those within the frame, and one that rounding carries into it, each with
the predicted length of its period. -/
def Lane.legStarts (l : Lane) (g : Nat) (m : Motion) (c : LegCfg) : List (Int × LegEv) :=
  let len := fun (j : Nat) (t : Int) => m.instant ((l.cgB g (j + 1) : Nat) * 65536 - m.pos) - t
  let here : Int := (l.cgB g m.j0 : Nat) * 65536 - m.pos
  let all : List (Int × LegEv) := (if m.carried here then [(0, LegEv.start (len m.j0 0))] else []) ++
    m.inFrame.map fun (s : Nat × Int) => (m.instant s.2, LegEv.start (len s.1 (m.instant s.2)))
  all.filter fun e => e.1 < c.fe

/-- A dwell that a prediction removed takes place at the start of the frame, where the period built since then places the
change that ends it so late that it would have lasted t_min (R188). -/
def LegRun.back (r : LegRun) (c : LegCfg) (moves : List (Int × Nat)) : List (Int × LegEv) :=
  match r.removed, moves with
  | some y, x :: _ => if c.tmin ≤ x.1 - y.2 then [(0, .cmd y.1)] else []
  | some y, [] => [(0, .cmd y.1)]
  | none, _ => []

/-- A leg built for the coming frame: the lane after it, its edges, and whether it ignored a pattern (R185 to R194). `cut`
is the length of the last built frame in ticks. -/
def Lane.buildLeg (l : Lane) (ps : List SrcPred) (cut len : Nat) (leg : Nat) : Lane × List Edge × Bool :=
  let g := l.rd (PWM_LEG_CFG_CG leg)
  let c := l.legCfg leg len
  let dt : Int := 32 * l.rd (PWM_LEG_TIME_DT leg)
  let p := l.pwm.legs.getD leg PwmLeg.reset
  let built : Int := 32 * l.pwm.len
  let run := l.on (PWM_CG_CFG_EN g) && l.cgQ g ≠ 0
  let m := l.motion g ps cut len c.extra
  let r := p.begin c built (32 * cut)
  let was := p.levelsAt (min built (32 * cut))
  let pats := patterns c.type (if run then l.legEvents g m c leg else []) was.1 was.2
  let inF := pats.filter fun e => e.t < c.fe
  let bad := inF.any (·.bad)
  let moves := cmdMoves was.2 pats
  let now := moves.filter fun x => x.1 < c.fe
  let waits := m.inFrame.isEmpty && now.isEmpty
  let acts := sortBy (fun e : Int × LegEv => e.1)
    ((if waits then [] else r.back c moves) ++ (if c.boot && run then l.legStarts g m c else []) ++
      now.map fun x => (x.1, LegEv.cmd x.2))
  let r := acts.foldl (LegRun.event c) { r with removed := if waits then r.removed else none, cmd := was.2 }
  let r := (r.endRefresh c (c.fe - 1)).settle c (c.fe - 1)
  let r := { r with lateFrom := m.later.head?.map fun s => max c.fe (m.instant s.2) }
  let r := if r.ret.isSome then r else LegRun.look c (moves.filter fun x => c.fe ≤ x.1) r
  let changes := dwellChanges r.base.1 (r.inFrame c).reverse
  let st := (changes.getLast?.map fun x => x.new).getD r.base.1
  let take := p.takeover built (32 * cut)
  let edges := changes.flatMap (changeEdges c.type leg dt) ++
    take.map fun x => { leg := leg, sw := x.1, on := true, t := x.2 }
  let ons := (changes.flatMap fun x => ((changeEdges c.type leg dt x).filter fun e => e.on).map fun e => (e.sw, x.t, e.t)) ++
    take.map fun x => (x.1, -1, x.2)
  let q : PwmLeg := { levels := (0, was) :: inF.map (fun e => (e.t, e.sws, e.cmd)), state := r.base.1, since := r.base.2,
                      onTime := r.onTime, inL := r.inL, changes := changes, ons := ons, next := r.next, removed := r.removed,
                      refresh := r.ret }
  let l := l.modPwm fun w => { w with legs := w.legs.set leg q }
  (l.noteLeg leg r st bad, edges.filter (fun e => e.t < c.fe), bad)

/-! ### Groups, clocks and the set (R76, R77, R192, R193) -/

/-- The triggers of a group in the frame being built: compare and tick, rounded down. Those of a period left unbuilt do not
fire; a leap leaves out the angles that it passes over (R180, R192). -/
def Lane.groupTrigs (l : Lane) (g : Nat) (m : Motion) : List (Nat × Nat × Nat) :=
  let en := [l.on (PWM_CG_TRIG_EN0 g), l.on (PWM_CG_TRIG_EN1 g), l.on (PWM_CG_TRIG_EN2 g), l.on (PWM_CG_TRIG_EN3 g)]
  let one := fun (mem : WordMem) (j t : Nat) =>
    let d : Int := (l.cmpAngle g j (memRd mem (4 * g + t)).toNat : Nat) * 65536 - m.pos
    if en.getD t false && (0 < d || d = 0 && !m.started) && d < m.run && 0 < m.inc then
      [(g, t, (max 0 ((m.lag + d) / m.inc)).toNat)] else []
  (List.range 4).flatMap fun t =>
    (if m.running && (m.other || !m.unbuilt) then one (if m.other then l.pwm.trigActive else l.pwm.trigLatched) m.j0 t else []) ++
      m.inFrame.flatMap fun s => one l.pwm.trigActive s.1 t

/-- A memory with the words at some keys taken from another. -/
def takeKeys (src : WordMem) (keys : List Nat) (dst : WordMem) : WordMem :=
  keys.foldl (fun a x => memWr a x (memRd src x)) dst

/-- The compare keys of the legs of a carrier group, and the keys of its trigger compares. -/
def Lane.cgKeys (l : Lane) (g : Nat) : List Nat :=
  (numsWhere 48 fun n => l.rd (PWM_LEG_CFG_CG n) = g).flatMap fun n => (List.range 12).map fun k => 12 * n + k
def trigKeys (g : Nat) : List Nat := (List.range 4).map fun t => 4 * g + t

/-- A group after its build: carrier, latched compares, counts, and the overflow of R193. -/
def Lane.buildGroup (l : Lane) (ps : List SrcPred) (cut len g : Nat) : Lane × Bool :=
  if !l.on (PWM_CG_CFG_EN g) || l.cgQ g = 0 then (l, false)
  else
    let m := l.motion g ps cut len 0
    let c : Carrier :=
      { at_ := m.at_, pos := m.pos, lag := m.lag, inc := m.inc, anchored := false,
        moves := (m.leaps.filter fun x => x.tick ≠ 0).map fun x => (x.tick, x.at_, x.pos),
        unbuilt := m.ovf || (m.unbuilt && m.inFrame.isEmpty && !m.other) }
    let trigs := l.groupTrigs g m
    let latch := !m.inFrame.isEmpty || m.other
    let keys := l.cgKeys g
    let l := l.modPwm fun w =>
      { w with carriers := w.carriers.set g c, trigNext := w.trigNext ++ trigs,
               latched := (if latch then takeKeys w.active keys w.latched else w.latched),
               trigLatched := (if latch then takeKeys w.trigActive (trigKeys g) w.trigLatched else w.trigLatched) }
    let l := (l.addTo (PWM_CG_STAT_PER_CNT g) m.count).wr (PWM_CG_STAT_HELD g) (b2n (m.run = 0 && m.leaps.isEmpty))
    let l := if !m.leaps.isEmpty then l.wr (PWM_CG_STAT_JUMPED g) 1 else l
    (if m.ovf then (l.wr (PWM_CG_STAT_PER_OVF g) 1).wr PWM_STAT_PER_OVF 1 else l, m.ovf)

/-- Rising edges kept, and those left out: one closer than 16 ticks to the one before (R77). -/
def keepEdges : Int → List Int → List Int × List Int
  | _, [] => ([], [])
  | last, t :: r =>
    if t - last < 16 * 32 then
      let k := keepEdges last r
      (k.1, t :: k.2)
    else
      let k := keepEdges t r
      (t :: k.1, k.2)

/-- Rising edges with their falling edges, each at the tick nearest the midpoint to the next rising edge: at a half tick the
later one, and after the last edge of a frame the midpoint to the frame's end (R77; both DESIGN CHOICE, log 49). -/
def clockEdges (n : Nat) (stop : Int) : List Int → List Edge
  | [] => []
  | t :: r =>
    let nx := r.headD stop
    { leg := 0x30 + n, sw := 0, on := true, t := t } ::
    { leg := 0x30 + n, sw := 0, on := false, t := ((t + nx) / 2 + 16) / 32 * 32 } :: clockEdges n stop r

/-- The rising edges that the angle grid gives an OUT_LOCKED clock in the frame being built: BITS_PER_FRAME of them in F bt
from the frame's start angle, in fine steps, each rounded to the nearest tick of the frame (R76, R78, R82). -/
def Lane.clockGrid (l : Lane) (ps : List SrcPred) (len n : Nat) : List Int :=
  let f := l.rd ASC_FRAME_STAT_SRC_IN_FORCE
  let p := ps.getD f SrcPred.still
  let bits := l.rd (MEAS_SDCLK_CFG_BITS_PER_FRAME n)
  let begin_ := if l.moved f then p.front.extractLsb' 16 32 else l.asc.frameEnd
  let stop := if l.moved f then farPoint l.asc.nInForce begin_ else nextPoint l.asc.nInForce l.asc.frameEnd
  let start : Int := (accOf begin_ - p.acc).toInt
  let span : Nat := (stop - begin_).toNat * 65536
  let dist : Nat → Int := fun j => (j * 2 ^ 48 / (bits * l.asc.nInForce) : Nat)
  if p.inc ≤ 0 then []
  else ((List.range (2 * bits)).filter fun j => dist j < span).map fun j =>
    32 * max 0 (min ((2 * (start + dist j) + p.inc) / (2 * p.inc)) ((len : Int) - 1))

/-- The edges of an OUT_LOCKED clock in the frame being built. An edge left out is noted at its tick, where the channels on the
clock enter their previous bit again (R76, R77). -/
def Lane.buildClock (l : Lane) (ps : List SrcPred) (len n : Nat) : Lane × List Edge :=
  if l.rd (MEAS_SDCLK_CFG_MODE n) ≠ 2 then (l, [])
  else
    let last := l.pwm.sdclkAt.getD n 0
    let k := keepEdges last (l.clockGrid ps len n)
    let slow := (k.1.foldl (fun (a : Int × Bool) t => (t, a.2 || 80 * 32 < t - a.1)) (last, false)).2
    let l := if k.2.isEmpty then l else l.wr MEAS_STAT_SDCLK_OVER 1
    let l := if slow then l.wr MEAS_STAT_SDCLK_SLOW 1 else l
    (l.modPwm fun w =>
      { w with sdclkAt := w.sdclkAt.set n ((k.1.getLast?.getD last) - 32 * len),
               sdSkipNext := w.sdSkipNext ++ k.2.map fun t => (n, (t / 32).toNat) },
      clockEdges n (32 * len) k.1)

/-- The legs that build edges: those of configured threads (R197). -/
def State.builtLegs (s : State) : List Nat := numsWhere 48 fun n => s.present (n / 6)

/-- The edge set of the coming frame, built by a lane at EDGE_CUT k ticks before the predicted boundary (R20, R193). A leg
with an invalid pattern and a group with too many periods raise PWM_FAULT. -/
def State.buildSet (s : State) (i : LaneId) (k : Nat) : State :=
  let l := s.lane i
  let ps := l.predict k
  let len := l.predLen ps
  let cut := s.now + k - l.asc.frameTick
  let l := l.modPwm fun w => { w with trigNext := [], sdSkipNext := [] }
  let r := s.builtLegs.foldl (fun (a : Lane × List Edge × List Nat) n =>
    let x := a.1.buildLeg ps cut len n
    (x.1, a.2.1 ++ x.2.1, if x.2.2 then a.2.2 ++ [n] else a.2.2)) (l, [], [])
  let gs := (List.range 16).foldl (fun (a : Lane × List Nat) g =>
    let x := a.1.buildGroup ps cut len g
    (x.1, if x.2 then a.2 ++ [g + 256] else a.2)) (r.1, r.2.2)
  let cs := (List.range 4).foldl (fun (a : Lane × List Edge) n =>
    let x := a.1.buildClock ps len n
    (x.1, a.2 ++ x.2)) (gs.1, r.2.1)
  let l := cs.1.modPwm fun w => { w with set := some (sortBy (fun e : Edge => e.t) cs.2), len := len }
  gs.2.foldl (fun s d => s.raiseFrom i 47 d) (s.setLane i l)

/-- PWM_LOAD: shadow compares of the named carrier groups become active (R183). -/
def Lane.pwmLoad (l : Lane) (mask : Nat) : Lane :=
  let gs := numsWhere 16 fun g => bitAt mask g
  let keys := gs.flatMap l.cgKeys
  l.modPwm fun w => { w with active := takeKeys w.shadow keys w.active,
                             trigActive := takeKeys w.trigShadow (gs.flatMap trigKeys) w.trigActive }

/-- A leg's state and commanded levels become OFF: at its enable, and at ARM of its thread (R195). -/
def Lane.legOff (l : Lane) (leg : Nat) : Lane :=
  (l.modPwm fun w => { w with legs := w.legs.set leg PwmLeg.reset }).wr (PWM_LEG_STAT_STATE leg) 0

/-- CONV_TRIGGER: a built trigger of a carrier group fires at its tick and starts its conversion group (R192). -/
def execConvTrigger (ln : LaneSel) (cg t : Nat) (s : State) : Host.Outcome State Fault Refusal :=
  .next (s.onLanes ln fun s i =>
    let l := s.lane i
    match l.pwm.trigs.find? (fun x => x.1 = cg && x.2.1 = t) with
    | none => s
    | some x =>
      let s := s.passTo x.2.2
      let grp := [l.rd (PWM_CG_TRIG_CGRP0 cg), l.rd (PWM_CG_TRIG_CGRP1 cg), l.rd (PWM_CG_TRIG_CGRP2 cg),
                  l.rd (PWM_CG_TRIG_CGRP3 cg)].getD t 0
      (s.modLane i fun l => l.modPwm fun w => { w with trigs := w.trigs.filter fun y => y ≠ x }).convStart i grp false)

end Sys2Proof.Machine
end

