-- ==== Sys2Proof/Machine/EdgeSet.lean ====
section
/-! DEFINITION. Edge sets at the Sluice: the comparison (R249), the envelope (R217 to R225), and the forwarding of a set to
the gate links (R206, R252). -/
namespace Sys2Proof.Machine

/-! ### Comparison (R249) -/

/-- A difference of two sets, as LANE_MISMATCH1 shows it: leg, switch, kind and the difference in ticks. -/
structure Diff where
  leg : Nat
  sw : Nat
  kind : Nat
  delta : Int
deriving DecidableEq, Repr

/-- The first pair of edges that differ: in level (2), or by more than a tolerance in fine steps (0). -/
def pairDiff (tol : Int) : List Edge → List Edge → Option (Nat × Int)
  | a :: x, b :: y =>
    if a.on ≠ b.on then some (2, (a.t - b.t) / 32)
    else if tol < (a.t - b.t).natAbs then some (0, (a.t - b.t) / 32)
    else pairDiff tol x y
  | _, _ => none

/-- The edges of a switch in a set. -/
def edgesOf (l : List Edge) (leg sw : Nat) : List Edge := l.filter fun e => e.leg = leg && e.sw = sw

/-- The switches of every leg, and the SDCLKs. -/
def compareKeys : List (Nat × Nat) :=
  ((List.range 48).flatMap fun g => (List.range 6).map fun k => (g, k)) ++ (List.range 4).map fun n => (0x30 + n, 0)

/-- The first difference of two sets (R249). -/
def setDiff (tol : Int) (a b : List Edge) : Option Diff :=
  compareKeys.findSome? fun k =>
    let x := edgesOf a k.1 k.2
    let y := edgesOf b k.1 k.2
    if x.length ≠ y.length then some { leg := k.1, sw := k.2, kind := 1, delta := 0 }
    else (pairDiff tol x y).map fun d => { leg := k.1, sw := k.2, kind := d.1, delta := d.2 }

/-! ### Envelope (R217, R221, R222) -/

/-- The limits of the envelope for a leg, in fine steps, and the end of the set's frame. -/
structure EnvCfg where
  type : Nat
  dt : Int
  pulse : Int
  gap : Int
  inner : Int
  boot : Bool
  bsOn : Int
  bsOff : Int
  stop : Int
deriving DecidableEq, Repr

/-- A leg under the envelope: its history, the edges placed with the kind of the check that moved them, latest first, and
the corrections by kind: dead time, edge interval, inner delay, minimum pulse, bootstrap. -/
structure EnvRun where
  leg : EnvLeg
  placed : List (Edge × Nat)
  carried : List (Edge × Nat)
  counts : List Nat
deriving DecidableEq, Repr

/-- The latest of some instants. -/
def latest (l : List (Option Int)) : Option Int :=
  l.foldl (fun a x => match a, x with
    | none, x => x
    | some a, some x => some (max a x)
    | a, none => a) none

/-- An instant moved to no earlier than a limit after another. -/
def notBefore (t : Int) (from_ : Option Int) (d : Int) : Int := match from_ with
  | none => t
  | some x => max t (x + d)

/-- A correction counted under its kind; kinds 0 and 9 count nothing. -/
def EnvRun.count (r : EnvRun) (kind : Nat) : EnvRun :=
  if 1 ≤ kind && kind ≤ 5 then { r with counts := updAt r.counts (kind - 1) fun n => n + 1 } else r

/-- An edge placed: the history takes it up, with the accumulated on-time of switch 0 (R222). -/
def EnvRun.place (r : EnvRun) (c : EnvCfg) (e : Edge) (kind : Nat) : EnvRun :=
  let h := r.leg
  let was := h.on.getD e.sw false
  let acc := if e.sw ≠ 0 then h.onAcc
    else if e.on && !was then
      (match h.lastOff.getD 0 none with
       | some x => if c.bsOff ≤ e.t - x then 0 else h.onAcc
       | none => 0)
    else if !e.on && was then h.onAcc + (e.t - (h.lastOn.getD 0 none).getD e.t)
    else h.onAcc
  let h := { h with on := h.on.set e.sw e.on, onAcc := acc,
                    lastOn := (if e.on && !was then h.lastOn.set e.sw (some e.t) else h.lastOn),
                    lastOff := (if e.on || !was then h.lastOff else h.lastOff.set e.sw (some e.t)) }
  ({ r with leg := h, placed := (e, kind) :: r.placed } : EnvRun).count kind

/-- The instant at which the accumulated on-time of switch 0 reaches its limit (R222). -/
def EnvRun.limit (r : EnvRun) (c : EnvCfg) : Option Int :=
  if c.boot && r.leg.on.getD 0 false then (r.leg.lastOn.getD 0 none).map fun x => x + (c.bsOn - r.leg.onAcc) else none

/-- What the checks of R221 make of an edge: place it, move it to an instant under a kind, or remove it with its pair. -/
inductive EnvAct where
  | place
  | move (t : Int) (kind : Nat)
  | remove
deriving DecidableEq, Repr

/-- The checks of R221 and R222 on an edge, in their order. -/
def EnvRun.check (r : EnvRun) (c : EnvCfg) (e : Edge) : EnvAct :=
  let h := r.leg
  if e.on then
    let t1 := notBefore e.t (latest h.lastOff) c.dt
    let t2 := notBefore e.t (h.lastOff.getD e.sw none) c.gap
    if e.t < t1 then .move t1 1
    else if e.t < t2 then .move t2 2
    else if c.boot && e.sw = 0 && e.t < h.bsUntil.getD e.t then .move (h.bsUntil.getD e.t) 0
    else .place
  else
    let t3 := notBefore e.t (latest [h.lastOff.getD 0 none, h.lastOff.getD 3 none]) c.inner
    let on := (h.lastOn.getD e.sw none).getD (e.t - c.pulse)
    if c.type ≠ 0 && (e.sw = 1 || e.sw = 2) && e.t < t3 then .move t3 3
    else if h.on.getD e.sw false && e.t < on + c.pulse then
      if r.placed.any fun p => p.1.sw = e.sw && p.1.on && p.1.t = on then .remove else .move (on + c.pulse) 4
    else .place

/-- A turn-on of the set removed with its turn-off; a pair counts once (R221). -/
def EnvRun.removePair (r : EnvRun) (e : Edge) (kind : Nat) : EnvRun :=
  let on := (r.leg.lastOn.getD e.sw none).getD e.t
  let mine := fun (p : Edge × Nat) => p.1.sw = e.sw && p.1.on && p.1.t = on
  let k := ((r.placed.find? mine).map fun p => p.2).getD 0
  let r := { r with placed := r.placed.filter fun p => !mine p, leg := { r.leg with on := r.leg.on.set e.sw false },
                    counts := (if 1 ≤ k && k ≤ 5 then updAt r.counts (k - 1) (fun n => n - 1) else r.counts) }
  if kind = 9 then r else r.count 4

/-- The edges of a leg in time order under the checks; edges at or beyond the end of the frame are carried (R221). -/
def envelope (c : EnvCfg) : Nat → List (Edge × Nat) → EnvRun → EnvRun
  | 0, _, r => r
  | fuel + 1, [], r =>
    match r.limit c with
    | some t =>
      if t < c.stop then
        let r := r.place c { leg := 0, sw := 0, on := false, t := t } 5
        envelope c fuel [] { r with leg := { r.leg with bsUntil := some (t + c.bsOff) } }
      else r
    | none => r
  | fuel + 1, (e, k) :: rest, r =>
    match r.limit c with
    | some t =>
      if t < e.t && t < c.stop then
        let r := r.place c { leg := e.leg, sw := 0, on := false, t := t } 5
        envelope c fuel ((e, k) :: rest) { r with leg := { r.leg with bsUntil := some (t + c.bsOff) } }
      else envelopeOne c fuel e k rest r
    | none => envelopeOne c fuel e k rest r
where
  envelopeOne (c : EnvCfg) (fuel : Nat) (e : Edge) (k : Nat) (rest : List (Edge × Nat)) (r : EnvRun) : EnvRun :=
    if c.stop ≤ e.t then envelope c fuel rest { r with carried := r.carried ++ [(e, k)] }
    else match r.check c e with
      | .place => envelope c fuel rest (r.place c e k)
      | .remove => envelope c fuel rest (r.removePair e k)
      | .move t kind =>
        let k := if k = 9 || kind = 0 then k else kind
        envelope c fuel (insertBy (fun p : Edge × Nat => p.1.t) ({ e with t := t }, k) rest) r

/-- A set of switches on is a forbidden combination of a leg type (R224). -/
def forbidden (type : Nat) (on : List Bool) : Bool :=
  let b := fun k => on.getD k false
  match type with
  | 0 => b 0 && b 3
  | 1 => (b 0 && b 2) || (b 1 && b 3) || (b 0 && !b 1) || (b 3 && !b 2)
  | 2 => (b 0 && b 2) || (b 1 && b 3)
  | _ => (b 0 && b 2) || (b 1 && b 3) || (b 0 && b 4) || (b 3 && b 5) || (b 0 && !b 1) || (b 3 && !b 2)

/-- Some pattern that placed edges form, in time order from given levels, is forbidden; edges of one instant act together
(R224). -/
def forbiddenOver (type : Nat) : List Edge → List Bool → Bool
  | [], _ => false
  | e :: rest, on =>
    let on := on.set e.sw e.on
    ((rest.head?.map fun x => x.t) ≠ some e.t && forbidden type on) || forbiddenOver type rest on

/-! ### Forwarding (R206, R223, R225) -/

/-- A leg is disabled by PWM_LEG_DIS0, PWM_LEG_DIS1 or DIS_ALL (R195). -/
def State.disabled (s : State) (leg : Nat) : Bool :=
  let l := s.lane s.active
  l.on PWM_CTRL_DIS_ALL || (if leg < 32 then (l.regs.get PWM_LEG_DIS0).getLsbD leg else (l.regs.get PWM_LEG_DIS1).getLsbD (leg - 32))

/-- The edges of the leg pass: its thread is SWITCHING and the leg is enabled (R31, R225). -/
def State.passes (s : State) (leg : Nat) : Bool := s.present (leg / 6) && s.thread (leg / 6) = 2 && !s.disabled leg

/-- The envelope's limits for a leg and a frame that ends at an instant. -/
def State.envCfg (s : State) (leg : Nat) (stop : Int) : EnvCfg :=
  { type := s.legType leg, dt := 32 * s.rd SLC_ENV_DT_ENV_DT, pulse := 32 * s.rd SLC_ENV_PULSE_ENV_PULSE,
    gap := 32 * s.rd SLC_ENV_PULSE_ENV_EDGE, inner := 32 * s.rd SLC_ENV_INNER_INNER_DELAY,
    boot := (s.lane s.active).on (PWM_LEG_CFG_BOOTSTRAP leg), bsOn := 12800 * s.rd SLC_ENV_BS_ENV_BS_ON,
    bsOff := 32 * s.rd SLC_ENV_BS_ENV_BS_OFF, stop := stop }

/-- Corrections of a leg counted for its thread, in the counters and in the present window (R223). -/
def State.countCorr (s : State) (t : Nat) (n : List Nat) : State :=
  let c := fun k => n.getD k 0
  let s := (s.wr (SLC_THR_CNT_A_DT_CNT t) (s.rd (SLC_THR_CNT_A_DT_CNT t) + c 0)).wr (SLC_THR_CNT_A_PULSE_CNT t)
    (s.rd (SLC_THR_CNT_A_PULSE_CNT t) + c 3)
  let s := (s.wr (SLC_THR_CNT_B_EDGE_CNT t) (s.rd (SLC_THR_CNT_B_EDGE_CNT t) + c 1)).wr (SLC_THR_CNT_B_INNER_CNT t)
    (s.rd (SLC_THR_CNT_B_INNER_CNT t) + c 2)
  let s := s.wr (SLC_THR_CNT_B_BS_CNT t) (s.rd (SLC_THR_CNT_B_BS_CNT t) + c 4)
  let s := s.modFaults fun f => { f with win := updAt f.win t fun w => match w with
    | [] => [n.foldl (· + ·) 0]
    | x :: r => (x + n.foldl (· + ·) 0) :: r }
  s.wr (SLC_THR_WIN_SUM t) (min 0xFFFF ((s.faults.win.getD t []).foldl (· + ·) 0))

/-- The threads whose 100 ms sum exceeds ENV_CORR_MAX are blocked (R223). -/
def State.checkCorr (s : State) : State :=
  (List.range 8).foldl (fun s t =>
    if s.rd SLC_ENV_CORR_ENV_CORR_MAX < (s.faults.win.getD t []).foldl (· + ·) 0 then
      if s.causeActive 0x08 t then s else s.cause 0x08 1 (.thread t) t none true
    else s.causeEnd 0x08 t) s

/-- What the line carries with a switch of a two-level leg on (R210). -/
def lineOf (sw : Nat) : Gl1Line := if sw = 0 then .high else .low

/-- The transitions of a GL/1 line for the edges of a two-level leg in time order: the leg's change lies where its outgoing
switch goes off, or DT before the first turn-on out of OFF; a turn-off with no turn-on within DT leads to OFF (R186, R210).
`later` are turn-ons beyond the set; `on` and `line` stand before the first edge. -/
def gl1Moves (dt : Int) (later : List Edge) : List Edge → List Bool → Gl1Line → List (Int × Gl1Line)
  | [], _, _ => []
  | e :: rest, on, line =>
    let now := on.set e.sw e.on
    if e.on = on.getD e.sw false then gl1Moves dt later rest on line
    else if e.on then
      if line = lineOf e.sw then gl1Moves dt later rest now line
      else (e.t - dt, lineOf e.sw) :: gl1Moves dt later rest now (lineOf e.sw)
    else
      let next := (((rest ++ later).find? fun x => x.on && decide (x.t ≤ e.t + dt)).map fun x => lineOf x.sw).getD .toggle
      (e.t, next) :: gl1Moves dt later rest now next

/-- The records of a link that go out in time, in frames of up to seven, and whether a record is too late: the first of the
list leaves at tick `at_`; a character takes 16 ticks; a record must arrive 100 ns before its instant (R206). -/
def sendRecords (lat : Nat) (delay : Int) : Nat → Nat → List (Edge × Int) → List (List Nat) × Bool
  | 0, _, _ => ([], false)
  | _, _, [] => ([], false)
  | fuel + 1, at_, es =>
    let now := es.take 7
    let done := at_ + (7 + 4 * now.length) * 16
    let ok := now.takeWhile fun e => decide (((done + 40 : Nat) : Int) * 32 + delay ≤ e.2 + 32 * lat)
    let frame := ok.map fun e => edgeRecord e.1.sw e.1.on (e.2 + 32 * lat)
    if ok.length < now.length then (if frame.isEmpty then [] else [frame], true)
    else
      let r := sendRecords lat delay fuel done (es.drop 7)
      (frame :: r.1, r.2)

/-- The order in which the envelope takes edges of one instant: turn-offs of switches 0 and 3, other turn-offs, turn-ons, so
that each check finds the edges it counts from (R221, R257; log 23). -/
def safeOrder (es : List (Edge × Nat)) : List (Edge × Nat) :=
  let outer := fun (p : Edge × Nat) => p.1.sw = 0 || p.1.sw = 3
  (es.filter fun p => !p.1.on && outer p) ++ (es.filter fun p => !p.1.on && !outer p) ++ es.filter fun p => p.1.on

/-- A leg's edges through the envelope: the edges placed, in time order by their absolute instants, the corrections, the
finding of R224, and the leg's new history. -/
def State.envelopeLeg (s : State) (leg : Nat) (edges : List (Edge × Nat)) (stop : Int) : List Edge × List Nat × Bool × EnvLeg :=
  let h := s.faults.env.getD leg EnvLeg.reset
  let c := s.envCfg leg stop
  let es := sortBy (fun p : Edge × Nat => p.1.t) (safeOrder (h.carried ++ edges))
  let r := envelope c 4096 es { leg := { h with carried := [] }, placed := [], carried := [], counts := [0, 0, 0, 0, 0] }
  let out := r.placed.reverse.map fun p => { p.1 with leg := leg }
  let seen := h.edges.filter fun x => 32 * (s.now : Int) < x + 32 * 4000
  (out, r.counts, forbiddenOver c.type out h.on,
    { r.leg with carried := r.carried, edges := seen ++ out.map fun e => e.t + 32 * (s.rd GL_ALIGN_LAT : Int) })

/-- The turn-ons of a leg that its PWM has decided on beyond the frame of a set, and those that the envelope carries, by
absolute instants (R186, R221). -/
def State.laterOns (s : State) (leg : Nat) (base stop : Int) (carried : List (Edge × Nat)) : List Edge :=
  let ons := (((s.lane s.active).pwm.legs.getD leg PwmLeg.reset).ons.filter fun x => decide (stop ≤ base + x.2.2)).map fun x =>
    ({ leg := leg, sw := x.1, on := true, t := base + x.2.2 } : Edge)
  (carried.map fun x => x.1) ++ ons

/-- The edges of a leg on a GL/1 link: each transition of the line is launched so that it arrives at its aligned instant
(R203, R210). `on` are the switches on before them. -/
def State.driveLine (s : State) (leg : Nat) (on : List Bool) (edges later : List Edge) : State :=
  let dt := 32 * (s.lane s.active).rd (PWM_LEG_TIME_DT leg)
  let line := if on.getD 0 false then .high else if on.getD 3 false then .low else .toggle
  let shift : Int := 32 * s.rd GL_ALIGN_LAT - s.rd (GL_LINK_CFG_GL1_DELAY leg)
  let moves := (gl1Moves dt later edges on line).map fun m => (m.1 + shift, m.2)
  s.modGl fun g => { g with links := updAt g.links leg fun l => l.launch s.now moves }

/-- What the envelope makes of a leg's edges goes to its link: records on GL/2, transitions of the line on GL/1. A record that
would be late blocks the thread with GL_LATE (R204, R206, R210). -/
def State.sendEdges (s : State) (leg : Nat) (on : List Bool) (edges later : List Edge) : State :=
  let st := s.rd (GL_LINK_STAT_STATE leg)
  if st = 3 then
    let r := sendRecords (s.rd GL_ALIGN_LAT) (s.rd (GL_LINK_DELAY_D_USED leg)) 64 s.now (edges.map fun e => (e, e.t))
    let s := r.1.foldl (fun s f => s.glSend leg 0x11 (edgePayload f)) s
    if r.2 then s.cause 0x0B 1 (.thread (leg / 6)) leg (some leg) false else s
  else if st = 2 then s.driveLine leg on edges later
  else s

/-- A set for the frame that starts at a tick and lasts some ticks goes through the envelope to the gate links. `extra`
holds reconciling edges; all instants count from the start of that frame. Corrections are summed before anything is sent, and
of the findings of one tick that of the lowest code comes first (R206, R217, R223, R224, R233, R252, R257). -/
def State.forward (s : State) (set extra : List Edge) (start len : Nat) : State :=
  let base : Int := 32 * start
  let stop : Int := base + 32 * len
  let abs := fun (e : Edge) => { e with t := base + e.t }
  let legs := (numsWhere 48 s.passes)
  let was := fun (g : Nat) => (s.faults.env.getD g EnvLeg.reset).on
  let res := legs.map fun g =>
    (g, s.envelopeLeg g (((extra.filter fun e => e.leg = g).map fun e => (abs e, 9)) ++
      ((set.filter fun e => e.leg = g && e.t < 32 * (len : Int)).map fun e => (abs e, 0))) stop)
  let bad := res.filterMap fun r => if r.2.2.2.1 then some (r.1 / 6) else none
  let s := res.foldl (fun s r =>
    (s.countCorr (r.1 / 6) r.2.2.1).modFaults fun f => { f with env := f.env.set r.1 r.2.2.2.2 }) s
  let s := bad.eraseDups.foldl (fun s t => s.cause 0x09 1 (.thread t) 0 none false) s.checkCorr
  let ok := res.filter fun r => s.passes r.1
  let next := (ok.flatMap fun r => r.2.1.map fun e => { e with t := e.t - base }) ++
    set.filter fun e => 0x30 ≤ e.leg && e.t < 32 * (len : Int)
  let s := s.modDuplex fun d => { d with nextSet := next }
  ok.foldl (fun s r => s.sendEdges r.1 (was r.1) r.2.1 (s.laterOns r.1 base stop r.2.2.2.2.carried)) s

/-- CORR_WINDOW_ROLL: the running window of 1 ms ends, 400,000 ticks after it began; the sum of each thread is that of the
new window and the 99 before it (R223). -/
def execCorrWindowRoll (s : State) : Host.Outcome State Fault Refusal :=
  let s := (s.passTo (s.faults.winAt + 400000)).modFaults fun f =>
    { f with win := f.win.map (fun w => (0 :: w).take 100), winAt := f.winAt + 400000 }
  let s := (List.range 8).foldl (fun s t =>
    s.wr (SLC_THR_WIN_SUM t) (min 0xFFFF ((s.faults.win.getD t []).foldl (· + ·) 0))) s
  .next s.checkCorr

end Sys2Proof.Machine
end

