-- ==== Sys2Proof/Machine/Lanes.lean ====
section
/-! DEFINITION. Duplex lanes and switchover (10): lane states (R246 to R248), the compare of edge sets and the mismatch
course (R249 to R259), the state copy (R260 to R262), watchdog and single lane (R263, R264), LANE_CONTROL (R265, R266),
restart and readmission (R267 to R270). -/
namespace Sys2Proof.Machine

/-! ### Resets of registers (R13, R461) -/

/-- The bits of classes P and S of a register (R13); of the increments, θt's is of class P. -/
def classPS (off : Nat) : Word := if off = ASC_S_INC 3 then BitVec.allOnes 32 else match regDesc off with | some d => BitVec.ofNat 32 (d.clsP ||| d.clsS) | none => 0
/-- The bits of class P of a register (R13); of the increments, θt's is. -/
def classP (off : Nat) : Word := if off = ASC_S_INC 3 then BitVec.allOnes 32 else match regDesc off with | some d => BitVec.ofNat 32 d.clsP | none => 0

/-- A register file after a reset that keeps the bits of a mask of each register; the others take their reset value. -/
def RegFile.keep (f : RegFile) (mask : Nat → Word) : RegFile :=
  f.filterMap fun p =>
    let v := (p.2 &&& mask p.1) ||| (resetWord p.1 &&& ~~~(mask p.1))
    if v = resetWord p.1 then none else some (p.1, v)

/-! ### Lane states (R246 to R248, R286, R287) -/

def stateFld : LaneId → Fld
  | .a => LANE_STAT_STATE_A
  | .b => LANE_STAT_STATE_B
def retCauseFld : LaneId → Fld
  | .a => LANE_STAT_RET_CAUSE_A
  | .b => LANE_STAT_RET_CAUSE_B
def laneCntFld : LaneId → Fld
  | .a => PWR_RST_LANE_A_CNT
  | .b => PWR_RST_LANE_B_CNT

/-- The Sluice's takeover of a lane's series switches begins or ends (R286). -/
def State.takeover (s : State) (i : LaneId) (on : Bool) : State :=
  match i with
  | .a => (s.modSafe fun x => { x with takeoverA := on }).setSafe SAFE_STAT_TAKEOVER_A (b2n on)
  | .b => (s.modSafe fun x => { x with takeoverB := on }).setSafe SAFE_STAT_TAKEOVER_B (b2n on)

/-- SINGLE_LANE reads 1 while the other lane is not SHADOW (R263). -/
def State.updSingle (s : State) : State :=
  s.wr SYS_STATE_SINGLE_LANE (b2n (s.laneState (LaneId.other s.active) ≠ 2))

/-- A lane changes its state: LANE_STAT, the journal record and the event LANE (R247); takeover of its series switches
while it is RETIRED, OFF or RESYNC (R286); REMAIN is reloaded, and DEGRADED_END is no longer
active, when both lanes are ACTIVE and SHADOW again (R276, R287). -/
def State.setLaneState (s : State) (i : LaneId) (new cause : Nat) : State :=
  let n := LaneId.num i
  let old := s.laneState i
  let s := (if new = 4 then s.recRetire i else s).wr (stateFld i) new
  let s := if new = 4 then s.wr (retCauseFld i) cause else s
  let s := if new = 1 then (s.wr LANE_STAT_ACTIVE n).wr SYS_STATE_ACTIVE_LANE n else s
  let s := (s.updSingle).takeover i (new = 0 || new = 3 || new = 4)
  let s := if s.laneState s.active = 1 && s.laneState (LaneId.other s.active) = 2 then
      ((s.bothLanes fun l => l.wr SAFE_DEGRADED_REMAIN (l.rd SAFE_CFG_DEG_MAX)).causeEnd 0x26 0).modSafe
        fun x => { x with stopAt := none }
    else s
  let s := s.updDegraded.journalAdd 0x03 new (2 * n)
    [BitVec.ofNat 8 n, BitVec.ofNat 8 old, BitVec.ofNat 8 new, BitVec.ofNat 8 cause]
  s.raise 22 (256 * n + new)

/-- A lane builds and runs frames: ACTIVE, SHADOW or RESYNC (R246). -/
def State.laneLive (s : State) (i : LaneId) : Bool := s.laneState i = 1 || s.laneState i = 2 || s.laneState i = 3

/-- A lane's registers with the increment last written to θt, which MRAM holds (R13, R47). -/
def Lane.storedInc (l : Lane) : RegFile :=
  match (l.asc.srcs.getD 3 AngleSrc.reset).written with
  | some w => l.regs.set (ASC_S_INC 3) w
  | none => l.regs

/-- A LANE (0) or WDT (1) reset of a lane: everything of class V in it is lost; the FIR taps, of class P, are not; a debug
token ends; the count and the record (R13, R433, R452, R466). -/
def State.laneReset (s : State) (i : LaneId) (kind : Nat) : State :=
  let s := s.modLane i fun l =>
    { Lane.reset with regs := l.storedInc.keep classPS, meas := { Meas.reset with fir := l.meas.fir },
                      smon := { Smon.reset with unsetSince := s.now } }
  let s := ((List.range 32).foldl State.updFastCmp s).updMeasTrip.resetToken
  (s.bumpSat (laneCntFld i)).journalAdd 0x08 0x0008 (2 * LaneId.num i)
    [BitVec.ofNat 8 (LaneId.num i), BitVec.ofNat 8 kind]

/-! ### HOLD (R251, R254 to R259) -/

/-- An output withheld in HOLD goes to the host (R259). -/
def State.release (s : State) (w : Withheld) : State :=
  match w with
  | .event src data =>
    let s := s.occurHost src data.toNat
    if src = 42 then s.stopDone data.toNat else s
  | .snapshot x => s.releaseSnap x
  | .record ring r => s.strAdd ring r
  | .fwRecord code data => s.journalAdd 0x0A code.toNat (2 * LaneId.num s.active) data

/-- After HOLD the outputs of the lane that is active are released, and those of the other lane are dropped (R259). -/
def State.releaseHeld (s : State) : State :=
  let ws := s.duplex.withheld.filterMap fun p => if p.1 = s.active then some p.2 else none
  ws.foldl State.release (s.modDuplex fun d => { d with withheld := [] })

/-- At a boundary: HOLD ends once the surviving lane's set has been forwarded, and after the verdict the withheld outputs are
released (R256, R258, R259). -/
def State.endHold (s : State) : State :=
  let s := if s.hold && !s.duplex.held then (s.wr LANE_STAT_HOLD 0).updModule 0x81 else s
  if s.hold || s.on LANE_STAT_VERDICT_PEND then s else s.releaseHeld

/-- HOLD begins: the outputs are held and the state copy stops, which leaves it incomplete (R251, R260; DEDUCED, log 51). -/
def State.startHold (s : State) : State :=
  let s := if s.duplex.copying then s.bump LANE_IROLO_SKIP else s
  let s := s.modDuplex fun d => { d with held := true, cuts := 0, copying := false }
  ((s.wr LANE_STAT_HOLD 1).bump LANE_CNT_HOLDS).updModule 0x80

/-- The first difference as LANE_MISMATCH1 and the journal show it (R251). -/
def Diff.clamped (d : Diff) : Int := clampBits 20 d.delta

/-- A mismatch against the SHADOW lane: HOLD, the self-checks of both lanes, the journal record and the LANE_MISMATCH
registers. The Tally named is that of the frame the sets were built for (R251). -/
def State.mismatch (s : State) (d : Diff) : State :=
  let tally := s.mod.tally + 1
  let s := s.startHold
  let s := s.bothLanes fun l => (l.askSignature .dp0 s.now s.mod.tally).askSignature .dp1 s.now s.mod.tally
  let s := (s.wr LANE_STAT_VERDICT_PEND 1).modDuplex fun x => { x with verdicts := [none, none] }
  let s := (s.wr LANE_MISMATCH0_TALLY_LO (tally.toNat % 2 ^ 32)).wr LANE_MISMATCH1_LEG d.leg
  let s := (s.wr LANE_MISMATCH1_SW d.sw).wr LANE_MISMATCH1_KIND d.kind
  let s := s.wr LANE_MISMATCH1_DELTA (BitVec.ofInt 20 d.clamped).toNat
  s.journalAdd 0x03 0x80 0 (leBytes 8 tally.toNat ++
    [BitVec.ofNat 8 d.leg, BitVec.ofNat 8 d.sw, BitVec.ofNat 8 d.kind, 0] ++ bytesOf (BitVec.ofInt 32 d.delta))

/-! ### Verdicts (R253 to R255) -/

/-- SELF_CHECK_VERDICT: a lane's signatures reach the Sluice, once both datapaths have run the signature program, with what the
lane's lockstep and ECC status has held since its previous verdict (R122, R253). -/
def execSelfCheckVerdict (i : LaneId) (sig0 sig1 : DWord) (s : State) : Host.Outcome State Fault Refusal :=
  if !s.on LANE_STAT_VERDICT_PEND || (s.duplex.verdicts.getD (LaneId.num i) none).isSome || !s.laneLive i ||
    (s.lane i).cle.dp0.sigPend || (s.lane i).cle.dp1.sigPend then .next s
  else
    let s := s.passTo (max (s.lane i).cle.dp0.sigUntil (s.lane i).cle.dp1.sigUntil)
    let l := s.lane i
    let v := b2n (sig0 ≠ Config.expectedSignature 0xA1 || sig1 ≠ Config.expectedSignature 0xA1) + 2 * b2n l.lockstep + 4 * b2n l.ecc
    let s := s.setLane i { l with lockstep := false, ecc := false }
    .next (s.modDuplex fun d => { d with verdicts := d.verdicts.set (LaneId.num i) (some v) })

/-- Outcomes within the last 3,600 s, of which the two newest are kept (R255). -/
def State.recentRepeats (s : State) : List Nat := s.duplex.repeats.filter fun t => s.now < t + 1440000000000

/-- HOUR_CNT follows the outcomes still within 3,600 s (R255). -/
def State.updRepeats (s : State) : State :=
  let r := s.recentRepeats
  (s.modDuplex fun d => { d with repeats := r }).wr LANE_REPEAT_HOUR_CNT (min 2 r.length)

/-- Both lanes passed, or both failed: the module is blocked, and the third such outcome within 3,600 s is class L, which
is entered first (R37, R254, R255). -/
def State.verdictDraw (s : State) : State :=
  let r := s.now :: s.recentRepeats
  let s := s.modDuplex fun d => { d with held := false, repeats := r.take 2 }
  let s := (s.bumpSat LANE_REPEAT_TOTAL).wr LANE_REPEAT_HOUR_CNT (min 2 r.length)
  let s := if 3 ≤ r.length then s.cause 0x0F 2 .module 0 none false else s
  s.cause 0x0E 1 .module 0 none false

/-- The surviving lane is or becomes ACTIVE, and its set is forwarded from this EDGE_CUT on (R254). -/
def State.survive (s : State) (i : LaneId) : State :=
  let s := s.modDuplex fun d => { d with held := false }
  (if s.laneState i = 1 then s else s.setLaneState i 1 1).updModule 0x81

/-- The outcome of the verdict: LANE_VERDICT, the journal record, and R254. A lane without a verdict failed with
TIMEOUT. -/
def State.applyVerdict (s : State) : State :=
  let v := fun (i : LaneId) => (s.duplex.verdicts.getD (LaneId.num i) none).getD 8
  let fa := v .a
  let fb := v .b
  let out := if fa ≠ 0 && fb = 0 then 1 else if fa = 0 && fb ≠ 0 then 2 else if fa = 0 then 3 else 4
  let s := ((s.wr LANE_VERDICT_OUTCOME out).wr LANE_VERDICT_A_FAIL fa).wr LANE_VERDICT_B_FAIL fb
  let s := (s.wr LANE_STAT_VERDICT_PEND 0).modDuplex fun d => { d with verdicts := [none, none], cuts := 0 }
  let s := s.journalAdd 0x03 0x81 0 ([BitVec.ofNat 8 out, BitVec.ofNat 8 fa, BitVec.ofNat 8 fb, 0] ++
    bytesOf (s.regs.get LANE_MISMATCH0) ++ leBytes 8 s.mod.tally.toNat)
  if out = 1 then (if s.laneState .a = 4 then s else s.setLaneState .a 4 1).survive .b
  else if out = 2 then (if s.laneState .b = 4 then s else s.setLaneState .b 4 1).survive .a
  else s.verdictDraw

/-- The verdict at an EDGE_CUT with both verdicts (R254). Where a watchdog has retired the active lane, the SHADOW lane becomes
ACTIVE (R264). -/
def State.cutVerdict (s : State) : State :=
  if s.lead ≠ s.active then
    ((s.wr LANE_STAT_VERDICT_PEND 0).modDuplex fun d => { d with verdicts := [none, none] }).survive s.lead
  else if s.on LANE_STAT_VERDICT_PEND then
    let s := s.modDuplex fun d => { d with cuts := d.cuts + 1 }
    if s.duplex.verdicts.all (·.isSome) then s.applyVerdict else s
  else s

/-- At the end of the compare window of the second EDGE_CUT a verdict that has not come is late, and the outcome stands (R254;
DEDUCED, log 51). -/
def State.lateVerdict (s : State) : State :=
  if s.on LANE_STAT_VERDICT_PEND && 2 ≤ s.duplex.cuts then s.applyVerdict else s

/-! ### LANE_CONTROL (R265, R266) -/

/-- The condition of an action (R266). -/
def State.laneControlOk (s : State) (i : LaneId) (action : Nat) : Bool :=
  let x := s.laneState i
  let y := s.laneState (LaneId.other i)
  match action with
  | 1 => x = 4
  | 2 => x = 2 || x = 3 || (x = 1 && y = 2)
  | _ => x = 2 && y = 1 && s.duplex.matched

/-- A restart begins: LANE reset, then the bulk copy; firmware starts from the image in force (R266, R267). -/
def State.startRestart (s : State) (i : LaneId) : State :=
  let s := (s.laneReset i 0).modLane i fun l => { l with fwAt := some s.now, wdtAt := s.now }
  let s := (s.wr LANE_RESYNC_RESTARTS 0).wr LANE_RESYNC_PROGRESS 0
  s.modDuplex fun d => { d with restart := some { lane := i, since := s.now, bulkDone := false, final := false } }

/-- A lane is retired; a restart of it ends, and with it the copy it receives. -/
def State.retire (s : State) (i : LaneId) (cause : Nat) : State :=
  let s := s.modDuplex fun d =>
    { d with restart := d.restart.filter (fun r => r.lane ≠ i), copying := d.copying && s.active = i }
  (s.setLaneState i 4 cause).updModule 0x80

/-- The effect of an action at its commit boundary (R266). -/
def State.laneControl (s : State) (i : LaneId) (action : Nat) : State :=
  match action with
  | 1 => s.startRestart i
  | 2 =>
    if s.laneState i = 1 then s.modDuplex fun d => { d with request := d.request ++ [(i, 2)] }
    else s.retire i 6
  | _ => s.modDuplex fun d => { d with request := d.request ++ [(i, 3)] }

/-- A role change at an EDGE_CUT, where its condition still holds (R266). -/
def State.roleChange (s : State) (r : LaneId × Nat) : State :=
  let o := LaneId.other r.1
  if r.2 = 2 then
    if s.laneState r.1 = 1 && s.laneState o = 2 then (s.setLaneState r.1 4 6).setLaneState o 1 6 else s
  else if s.laneState r.1 = 2 && s.laneState o = 1 then (s.setLaneState o 2 6).setLaneState r.1 1 6
  else s

def State.cutRequest (s : State) : State :=
  let rs := s.duplex.request
  let s := s.modDuplex fun d => { d with request := [] }
  if s.hold then s else (rs.foldl State.roleChange s).updSingle

/-! ### EDGE_CUT and the compare (R20, R249 to R252, R257) -/

/-- The contexts that a lane is running. -/
def Lane.runningCtxs (l : Lane) : List Nat :=
  (l.cle.dp0.run.toList ++ l.cle.dp1.run.toList).map fun r => r.ctx

/-- The copy that begins at an EDGE_CUT: to a SHADOW or RESYNC lane, and not in HOLD; running contexts are left out
(R20, R25). The final copy of a restart starts once the bulk copy has ended and no context runs (R267). -/
def State.startCopy (s : State) : State :=
  let run := (s.lane s.active).runningCtxs
  let o := s.laneState (LaneId.other s.active)
  s.modDuplex fun d =>
    { d with copying := s.laneState s.active = 1 && (o = 2 || o = 3) && !s.hold, copySkip := run,
             restart := d.restart.map fun r =>
               if r.bulkDone && run.isEmpty && s.laneState s.active = 1 then { r with final := true } else r }

/-- EDGE_CUT: 2,000 ticks before the predicted boundary, once in a frame: verdicts and role changes are applied, each live
lane builds the set of the next frame, and the copy starts (R20, R254, R266). -/
def execEdgeCut (s : State) : Host.Outcome State Fault Refusal :=
  if !s.mod.started || s.duplex.cutTally = some s.mod.tally then .next s
  else
    let s := s.passTo (s.now + ((s.lane s.lead).ticksToEnd - 2000))
    let s := s.cutVerdict.cutRequest
    let k := (s.lane s.active).ticksToEnd
    let s := [LaneId.a, LaneId.b].foldl (fun s i => if s.laneLive i then s.buildSet i k else s) s
    .next (s.startCopy.modDuplex fun d => { d with compareDue := some s.now, cutTally := some s.mod.tally })

/-- The difference of the sets, the active lane's first; a set that has not arrived is missing (R23, R249). -/
def State.compareSets (s : State) (a b : Option (List Edge)) : Option Diff :=
  match a, b with
  | some x, some y => setDiff (32 * s.rd LANE_CFG_COMPARE_TOL) x y
  | _, _ => some { leg := 0x3F, sw := 0, kind := 3, delta := 0 }

/-- The reconciling edges of R257: from the switches on in the held state to those on in the survivor's state. -/
def State.reconcile (s : State) : List Edge :=
  let l := s.lane s.active
  (numsWhere 48 s.passes).flatMap fun g =>
    let held := (s.faults.env.getD g EnvLeg.reset).on
    let want := stateSws (l.rd (PWM_LEG_CFG_TYPE g)) (l.pwm.legs.getD g PwmLeg.reset).state
    (List.range 6).filterMap fun k =>
      if held.getD k false && !want.contains k then some { leg := g, sw := k, on := false, t := 0 }
      else if !held.getD k false && want.contains k then some { leg := g, sw := k, on := true, t := 0 }
      else none

/-- A set accepted for forwarding becomes the last accepted set (R252); at the end of HOLD the reconciling edges go
first (R257). Without a SHADOW lane a set of the active lane that has not arrived is taken as an empty one (R23; DESIGN CHOICE,
log 49). -/
def State.accept (s : State) (set : Option (List Edge)) (start len : Nat) : State :=
  let x := set.getD []
  let s := s.modDuplex fun d => { d with lastSet := x }
  s.forward x (if s.hold then s.reconcile else []) start len

/-- A compare against a RESYNC lane: a match counts, a mismatch retires that lane (R250, R269). -/
def State.compareResync (s : State) (o : LaneId) (d : Option Diff) : State :=
  match d with
  | none => s.wr LANE_STAT_MATCH_CNT (min 1000 (s.rd LANE_STAT_MATCH_CNT + 1))
  | some _ => ((s.bump LANE_CNT_MISMATCHES).wr LANE_STAT_MATCH_CNT 0).retire o 7

/-- SET_COMPARE: 400 ticks after EDGE_CUT the Sluice compares the sets that have arrived and forwards one through the
envelope (R249 to R252, R263). -/
def execSetCompare (arrivedA arrivedB : Bool) (s : State) : Host.Outcome State Fault Refusal :=
  match s.duplex.compareDue with
  | none => .next s
  | some cut =>
    let s := ((s.passTo (cut + 400)).modDuplex fun d => { d with compareDue := none }).lateVerdict
    let act := s.active
    let o := LaneId.other act
    let set := fun (i : LaneId) =>
      if (match i with | .a => arrivedA | .b => arrivedB) && s.laneLive i then (s.lane i).pwm.set else none
    let start := s.now + (s.lane s.lead).ticksToEnd
    let len := (s.lane s.lead).pwm.len
    let diff := s.compareSets (set act) (set o)
    .next (if s.duplex.held || s.on LANE_STAT_VERDICT_PEND then
        let s := if s.laneState act = 1 && s.laneState o = 2 && diff.isSome then s.bump LANE_CNT_MISMATCHES else s
        s.forward s.duplex.lastSet [] start len
      else if s.laneState act = 1 && s.laneState o = 2 then
        let s := s.modDuplex fun d => { d with matched := diff.isNone }
        match diff with
        | none => s.accept (set act) start len
        | some d => ((s.bump LANE_CNT_MISMATCHES).mismatch d).forward s.duplex.lastSet [] start len
      else if s.laneState act = 1 && s.laneState o = 3 then
        ((s.modDuplex fun d => { d with matched := diff.isNone }).compareResync o diff).accept (set act) start len
      else s.accept (set act) start len)

/-! ### The state copies (R260 to R262, R267) -/

/-- A data-memory word lies in the state region of one of some contexts. -/
def Cle.inRegion (c : Cle) (ctxs : List Nat) (x : Nat) : Bool :=
  ctxs.any fun k => c.stateBase k ≤ x && x < c.stateBase k + c.stateLen k

/-- The per-frame copy applied: the state regions of the enabled contexts but those left out, the trajectory state, and
the angle sources with their increments; the state of the law library is that of its contexts (R260). -/
def Lane.takeCopy (l act : Lane) (skip : List Nat) : Lane :=
  let ctxs := act.enabled.filter fun c => !(skip.contains c || act.running c)
  let data := (act.cle.data.filter fun x => act.cle.inRegion ctxs x.1).foldl (fun m x => memWr m x.1 x.2)
    (l.cle.data.filter fun x => !act.cle.inRegion ctxs x.1)
  let regs := l.regs.take act.regs fun off =>
    (List.range 4).any fun n => off = ASC_S_INC n || off = TRAJ_U_STAT n
  let law := if act.cle.lib.all (fun c => !act.enabled.contains c || ctxs.contains c) then act.cle.law else l.cle.law
  { l with regs := regs, traj := act.traj, cle := { l.cle with data := data, law := law },
           asc := { l.asc with srcs := act.asc.srcs } }

/-- The bulk copy: the CLE memories, the schedule table, and the P-class and S-class registers (R267). -/
def Lane.takeBulk (l act : Lane) : Lane :=
  let keep := fun (off : Nat) => off < 0x3E000 && !viewOnly off
  let regs := (act.regs.keep fun off => if 0x14000 ≤ off && off < 0x24000 then BitVec.allOnes 32 else classPS off)
  { l with regs := (l.regs.take regs keep), meas := { l.meas with fir := act.meas.fir },
           cle := { l.cle with prog := act.cle.prog, data := act.cle.data, descs := act.cle.descs,
                               binds := act.cle.binds, lib := act.cle.lib, law := act.cle.law } }

/-- The mailbox slots that output bindings of enabled contexts name (R267). -/
def Lane.boundSlots (l : Lane) : List Nat :=
  l.enabled.flatMap fun c => (List.range (l.cle.outCnt c)).filterMap fun n =>
    let b := l.cle.outBind c n
    if bitsOf b 31 28 = 7 then some (8 * bitsOf b 14 7 + bitsOf b 2 0) else none

/-- The final copy: the per-frame content, the CLE's run-time state, the PWM state, the filters, and the Tally's frame. The
lane keeps its core trims, its share of the EIC, its Safety Monitor, its recorder and its firmware (R262, R267). -/
def Lane.takeFinal (l act : Lane) : Lane :=
  let slots := act.boundSlots
  let regs := l.regs.take act.regs fun off => 0x10000 ≤ off && off < 0x32000 && !viewOnly off
  { l with regs := regs, asc := act.asc, traj := act.traj, pwm := act.pwm,
           meas := act.meas,
           cle := { act.cle with mail := act.cle.mail.filter fun m => slots.contains m.key } }

/-- The copies at a boundary, ahead of the actions of R67: the final copy puts the restarted lane into RESYNC (R267), whose SMON gets LAST
of the active lane (R300), and
the per-frame copy is applied or discarded; three bad ones in a row retire the receiver (R260, R261). -/
def State.applyCopies (s : State) (copy : CopyResult) : State :=
  let o := LaneId.other s.active
  let act := s.lane s.active
  let s := match s.duplex.restart with
    | some r =>
      if r.final then
        let s := s.modLane r.lane fun l => l.takeFinal act
        let s := (s.wr LANE_RESYNC_TIME_US (min 0xFFFF ((s.now - r.since) / 400))).wr LANE_RESYNC_PROGRESS 0
        let s := (s.wr LANE_STAT_MATCH_CNT 0).modDuplex fun d => { d with restart := none, badCopies := 0 }
        let s := s.modLane r.lane fun l => l.modSmon fun m => { m with last := act.smon.last, unsetSince := act.smon.unsetSince }
        s.setLaneState r.lane 3 0
      else s
    | none => s
  if !s.duplex.copying then s
  else
    let skip := s.duplex.copySkip
    let s := s.modDuplex fun d => { d with copying := false }
    match copy with
    | .none => s
    | .complete n =>
      ((s.modLane o fun l => l.takeCopy act skip).wr LANE_IROLO_LAST_LEN n.toNat).modDuplex fun d => { d with badCopies := 0 }
    | .incomplete => (s.bump LANE_IROLO_SKIP).modDuplex fun d => { d with badCopies := 0 }
    | .crcBad =>
      let s := (s.bump LANE_IROLO_CRC_ERR).modDuplex fun d => { d with badCopies := d.badCopies + 1 }
      if 3 ≤ s.duplex.badCopies then (s.modDuplex fun d => { d with badCopies := 0 }).retire o 4 else s

/-- A RESYNC lane with 1,000 matching frames becomes SHADOW at the boundary (R269). -/
def State.promote (s : State) : State :=
  let o := LaneId.other s.active
  if s.laneState o = 3 && 1000 ≤ s.rd LANE_STAT_MATCH_CNT then ((s.setLaneState o 2 0).recAdopt o).updModule 0 else s

/-- BULK_COPY_DONE: the bulk copy to a restarted lane ends the given time after the restart (R267). Its progress there is
left open. -/
def execBulkCopyDone (i : LaneId) (micros : Nat) (s : State) : Host.Outcome State Fault Refusal :=
  match s.duplex.restart with
  | none => .next s
  | some r =>
    if r.lane ≠ i || r.bulkDone then .next s
    else
      let s := s.passTo (r.since + 400 * micros)
      let s := s.modLane i fun l => l.takeBulk (s.lane s.active)
      let f := s.fresh
      .next ((f.2.wr LANE_RESYNC_PROGRESS f.1.toNat).modDuplex fun d =>
        { d with restart := some { r with bulkDone := true } })

/-- RESYNC_TIMEOUT: a restart not finished within 50 ms (R268). -/
def execResyncTimeout (i : LaneId) (s : State) : Host.Outcome State Fault Refusal :=
  match s.duplex.restart with
  | none => .next s
  | some r =>
    if r.lane ≠ i then .next s
    else .next (((s.passTo (r.since + 20000000)).wr LANE_RESYNC_PROGRESS 0).retire i 8)

/-- A region that a commit renews during the bulk copy; whether it was copied already is left open (R268). -/
def State.renewRegion (s : State) : State :=
  match s.duplex.restart with
  | some r =>
    if r.bulkDone then s
    else
      let f := s.fresh
      if f.1.getLsbD 0 then f.2.bumpSat LANE_RESYNC_RESTARTS else f.2
  | none => s

/-! ### Single lane and watchdog (R263, R264) -/

/-- LANE_ERROR_REPORT: a lockstep difference or an uncorrectable ECC error of a lane. From the ACTIVE lane without a
SHADOW it blocks the module at once (R263); else it counts at the lane's next verdict (R253). -/
def execLaneErrorReport (i : LaneId) (ecc : Bool) (s : State) : Host.Outcome State Fault Refusal :=
  let s := s.modLane i fun l => if ecc then { l with ecc := true } else { l with lockstep := true }
  .next (if s.laneState i = 1 && s.laneState (LaneId.other i) ≠ 2 then s.cause 0x0E 1 .module 0 none false else s)

/-- The state of a slot: 0 EMPTY, 1 STAGED, 2 PROVEN, 3 REJECTED; types count from 0, slot 0 is A. -/
def slotFld (t b : Nat) : Fld := if b = 1 then SEC_SLOT_B_STATE t else SEC_SLOT_A_STATE t

/-- A failed attempt of a slot is counted; the third rejects the slot, and PREFERRED moves to the other (R425). -/
def State.failSlot (s : State) (t b : Nat) : State :=
  let n := s.rd (SEC_SLOT_FAIL_CNT t) + 1
  let s := s.wr (SEC_SLOT_FAIL_CNT t) (min 3 n)
  if 3 ≤ n then (s.wr (slotFld t b) 3).wr (SEC_SLOT_PREFERRED t) (1 - b) else s

/-- The boot attempt fails, once: every STAGED slot it used counts it (R425). -/
def State.bootFail (s : State) : State :=
  if s.mod.bootFailed then s
  else
    (List.range 4).foldl (fun s t =>
      let b := s.rd (SEC_SLOT_IN_FORCE t)
      if s.rd (slotFld t b) = 1 then s.failSlot t b else s) (s.modMod fun m => { m with bootFailed := true })

/-- WDT_EXPIRY: the watchdog of a lane expires WDT_MS after its last service. The lane is retired and reset; an active
lane is followed by a SHADOW lane over HOLD, or by a RESYNC lane with the module blocked, and the only lane blocks the
module. With AUTO_RESYNC a restart follows (R264, R453, R425). -/
def execWdtExpiry (i : LaneId) (s : State) : Host.Outcome State Fault Refusal :=
  if (s.lane i).fwAt.isNone then .next s
  else
    let s := s.passTo ((s.lane i).wdtAt + 400000 * s.rd PWR_CFG_WDT_MS)
    let was := s.laneState i
    let o := s.laneState (LaneId.other i)
    let s := if s.mod.phase = .run then s else s.bootFail
    let s := (s.laneReset i 1).modDuplex fun d => { d with restart := d.restart.filter fun r => r.lane ≠ i }
    let s := if was = 1 || was = 2 || was = 3 then s.retire i 5 else s
    let s := if was = 1 then
        (if o = 2 then (if s.hold then s else s.startHold)
         else if o = 3 then (s.setLaneState (LaneId.other i) 1 5).cause 0x0E 1 .module 0 none false
         else s.cause 0x0E 1 .module 0 none false)
      else s
    .next (if s.on LANE_CFG_AUTO_RESYNC && s.laneState i = 4 then s.startRestart i else s)

end Sys2Proof.Machine
end

