-- ==== Sys2Proof/Machine/Safety.lean ====
section
/-! DEFINITION. The Safety Monitors (11): encoder interfaces (R279, R280), safety inputs and test pulses (R289 to R293), the
safety cycle with speed, position and torque direction (R271 to R273, R281 to R285), and degraded operation (R287, R288).
The SMON of a lane that is OFF or RETIRED makes no demand. -/
namespace Sys2Proof.Machine

/-! ### Causes (R272, R276, R277) -/

/-- A safety cause that is an instant; both lanes find it in the same tick, and the Sluice takes the first (R272, R276). -/
def State.safetyInstant (s : State) (code cls : Nat) : State :=
  if !s.safeEn || s.faults.causes.any (fun c => c.code = code && c.lastActive = s.now) then s
  else s.cause code cls .module 0 none false

/-- A fault that the SMON of a lane finds. -/
def State.smonInstant (s : State) (i : LaneId) (code cls : Nat) : State :=
  if s.laneLive i then s.safetyInstant code cls else s

/-- The class B causes that follow the demands of the SMONs: SI_STO, PSF_STO, SLS_OVER, SLT_MOT, PSF_TIMEOUT. -/
def demandCodes : List Nat := [0x20, 0x21, 0x22, 0x23, 0x24]

/-- The causes follow the demands of either lane (R272, R276). -/
def State.syncDemands (s : State) : State :=
  demandCodes.foldl (fun s code =>
    let live := s.safeEn && [LaneId.a, LaneId.b].any fun i => s.laneLive i && (s.lane i).smon.demands.contains code
    if live then (if s.causeActive code 0 then s else s.cause code 1 .module 0 none true) else s.causeEnd code 0) s

/-! ### Encoder interfaces (R279, R280) -/

def Lane.enc (l : Lane) (n : Nat) : Enc := l.smon.encs.getD n Enc.reset
def Lane.modEnc (l : Lane) (n : Nat) (f : Enc → Enc) : Lane := l.modSmon fun m => { m with encs := updAt m.encs n f }
def Lane.encMode (l : Lane) (n : Nat) : Nat := l.rd (SAFE_ENC_CFG_MODE n)

/-- COUNT of an encoder moves; it wraps at 32 bits (R279). -/
def Lane.moveCount (l : Lane) (n : Nat) (d : Int) : Lane :=
  { l with regs := l.regs.set (SAFE_ENC_COUNT n) (l.regs.get (SAFE_ENC_COUNT n) + BitVec.ofInt 32 d) }

/-- θr follows a change of the count of its encoder: in ENC and ENCI mode it is set to ENC_OFFSET + count × ENC_GAIN within the
tick of the change (R48). -/
def State.rotor (s : State) (i : LaneId) (n : Nat) : State :=
  let l := s.lane i
  if s.mod.started && l.srcMode 2 ≠ 0 && l.rd (ASC_S_CFG_ENC_SEL 2) = n then
    s.setLane i (l.modSrc 2 fun a => a.set (accOf l.encAngle))
  else s

/-- ENC_EDGE: an edge on A or B in QUAD mode. COUNT moves by one, up where A leads B; changes of both inputs within one
10 ns sample are ENC_FAULT (R279, R280). -/
def execEncEdge (ln : LaneSel) (n : Nat) (e : EncEdge) (s : State) : Host.Outcome State Fault Refusal :=
  .next (s.onLanes ln fun s i =>
    let l := s.lane i
    let x := l.enc n
    if l.encMode n ≠ 1 then s
    else
      let y : Enc := match e with
        | .a v => { x with a := v, tickA := if v = x.a then x.tickA else some s.now }
        | .b v => { x with b := v, tickB := if v = x.b then x.tickB else some s.now }
      if y.a = x.a && y.b = x.b then s
      else
        let other := match e with | .a _ => x.tickB | .b _ => x.tickA
        let up : Bool := match e with | .a _ => y.a != y.b | .b _ => y.a == y.b
        let s := s.setLane i ((l.modEnc n fun _ => y).moveCount n (if up then 1 else -1))
        let s := s.rotor i n
        if other.any fun t => t / 4 = s.now / 4 then s.smonInstant i 0x2C 2 else s)

def refOkFld (n : Nat) : Fld := ⟨SAFE_SLS_STAT, n, n⟩

/-- A count lies more than 2 counts from ZLATCH + k × CPR (R280). -/
def offIndex (count z : Word) (cpr : Nat) : Bool :=
  let d := (count - z).toInt
  if cpr = 0 then 2 < d.natAbs else 2 < min (d % cpr).toNat (cpr - (d % cpr).toNat)

/-- ENC_INDEX: a rising edge of Z in QUAD mode latches COUNT into ZLATCH and sets REF_OK; an index out of place is
ENC_FAULT (R279, R280). -/
def execEncIndex (ln : LaneSel) (n : Nat) (s : State) : Host.Outcome State Fault Refusal :=
  .next (s.onLanes ln fun s i =>
    let l := s.lane i
    if l.encMode n ≠ 1 then s
    else
      let c := l.regs.get (SAFE_ENC_COUNT n)
      let bad := l.on (refOkFld n) && offIndex c (l.regs.get (SAFE_ENC_ZLATCH n)) (l.rd (SAFE_ENC_CPR_CPR n))
      let l := { l with regs := l.regs.set (SAFE_ENC_ZLATCH n) c }
      let s := s.setLane i (l.wr (refOkFld n) 1)
      if bad then s.smonInstant i 0x2C 2 else s)

/-- SSI_READ_START: the Sluice starts an SSI read in both lanes, every SSI_PER µs; a read that has not ended goes on, and its
time runs from its own start (R279). -/
def execSsiReadStart (n : Nat) (s : State) : Host.Outcome State Fault Refusal :=
  let l := s.lane s.active
  .next (if l.encMode n ≠ 2 then s
    else
      let s := s.passTo ((l.enc n).readAt + 400 * l.rd (SAFE_ENC_CFG_SSI_PER n))
      s.bothLanes fun l => l.modEnc n fun e => { e with ssi := some (e.ssi.getD s.now), readAt := s.now })

/-- Gray code of n bits to binary. -/
def grayToBin : Nat → Nat → Nat → Nat
  | 0, _, acc => acc
  | k + 1, g, acc => grayToBin k g (2 * acc + (if bitAt g k then 1 - acc % 2 else acc % 2))

/-- SSI_READ_DONE: a read ends. It is valid with ENCn_DAT high at its end; COUNT moves by the difference to the read
before, the first one's to 0; REF_OK is 1 from the first valid read, and a jump beyond CPR / 8 is ENC_FAULT (R279, R280). -/
def execSsiReadDone (ln : LaneSel) (n : Nat) (raw : Word) (endHigh : Bool) (s : State) : Host.Outcome State Fault Refusal :=
  .next (s.onLanes ln fun s i =>
    let l := s.lane i
    let e := l.enc n
    if l.encMode n ≠ 2 || e.ssi.isNone then s
    else if !endHigh then (s.setLane i (l.modEnc n fun e => { e with ssi := none })).smonInstant i 0x2C 2
    else
      let bits := l.rd (SAFE_ENC_CFG_SSI_BITS n)
      let r := raw.toNat % 2 ^ bits
      let v := if l.on (SAFE_ENC_CFG_GRAY n) then grayToBin bits r 0 else r
      let d := if bits = 0 then 0 else signed bits (v + 2 ^ bits - (e.lastRaw.getD 0) % 2 ^ bits)
      let bad := e.lastRaw.isSome && l.rd (SAFE_ENC_CPR_CPR n) < 8 * d.natAbs
      let s := s.setLane i (((l.modEnc n fun e => { e with ssi := none, lastRaw := some v }).moveCount n d).wr (refOkFld n) 1)
      let s := s.rotor i n
      if bad then s.smonInstant i 0x2C 2 else s)

/-- SSI_READ_TIMEOUT: a read has not ended within 2 × SSI_PER of its start (R279). -/
def execSsiReadTimeout (ln : LaneSel) (n : Nat) (s : State) : Host.Outcome State Fault Refusal :=
  .next (s.onLanes ln fun s i =>
    match ((s.lane i).enc n).ssi with
    | none => s
    | some t =>
      let s := s.passTo (t + 800 * (s.lane i).rd (SAFE_ENC_CFG_SSI_PER n))
      (s.modLane i fun l => l.modEnc n fun e => { e with ssi := none }).smonInstant i 0x2C 2)

/-! ### Safety inputs (R289 to R292) -/

/-- The first start of source n's pulse at or after a tick: n × TP_PER / 4 into a period of the pattern (R289). -/
def pulseAt (base per n from_ : Nat) : Nat :=
  let first := base + n * per / 4
  if per = 0 || from_ ≤ first then first else first + (from_ - first + per - 1) / per * per

/-- TEST_PULSE: source n goes low for TP_W, n × TP_PER / 4 after the start of a period; one pulse in every TP_PER (R289). The
first pulse of all sets the pattern's place in time. -/
def execTestPulse (n : Nat) (s : State) : Host.Outcome State Fault Refusal :=
  let per := 400000 * (s.lane s.active).rd SAFE_TP_CFG_TP_PER
  let base := s.field.tpBase.getD (if n * per / 4 ≤ s.now then s.now - n * per / 4 else s.now + per - n * per / 4)
  let after := match s.field.tpAt.getD n none with
    | some t => max s.now (t + 1)
    | none => s.now
  let s := if s.field.tpBase.isSome then s.passTo (pulseAt base per n after) else s
  .next (s.modField fun f => { f with tpBase := some base, tpAt := f.tpAt.set n (some s.now) })

/-- The instant lies in the last test pulse of a source, or within some ticks after it. -/
def State.inPulse (s : State) (src tail : Nat) : Bool :=
  match s.field.tpAt.getD src none with
  | some t => t ≤ s.now && s.now < t + 400 * (s.lane s.active).rd SAFE_TP_CFG_TP_W + tail
  | none => false

/-- What a sample does to a channel: its filter, the check at the end of its own source's window, and the observation of
the other sources' windows; the second part tells SI_XSHORT (R290, R291). `src` is its source, 7 for NONE. -/
def State.siStep (s : State) (src filt : Nat) (raw : Bool) (x : SiChan) : SiChan × Bool :=
  let own := src < 4 && s.inPulse src 0
  let quiet := src < 4 && s.inPulse src 80000
  let other := src < 4 && (List.range 4).any fun j => j ≠ src && s.inPulse j 0
  let short1 := x.inOwn && !own && x.last2 ≠ [false, false]
  let flip := !quiet && raw ≠ x.level && 10 * filt ≤ x.count + 1
  let count := if quiet then x.count else if raw = x.level || flip then 0 else x.count + 1
  let cross :=
    if other then (if x.cross = 0 || x.cross = 2 then (if 10 ≤ x.highRun && !raw then 1 else 3)
                   else if x.cross = 1 && !raw then 1 else 3)
    else if (x.cross = 1 || x.cross = 2) && raw then 2 else 0
  let after := if cross = 2 then x.after + 1 else 0
  let short2 := cross = 2 && 10 ≤ after
  ({ level := if flip then raw else x.level, count := count, last2 := if own then (raw :: x.last2).take 2 else [],
     inOwn := own, highRun := if raw then x.highRun + 1 else 0, cross := if short2 then 0 else cross,
     after := if short2 then 0 else after }, short1 || short2)

/-- The source and the filter of a channel: channels 2n and 2n + 1 are A and B of pair n. -/
def Lane.siSrc (l : Lane) (c : Nat) : Nat := if c % 2 = 0 then l.rd (SAFE_SI_CFG_SRC_A (c / 2)) else l.rd (SAFE_SI_CFG_SRC_B (c / 2))

/-- A sample of all channels in a lane: levels, LVL, the pulse input's count, and the pairs with SI_XSHORT. -/
def State.siLane (s : State) (i : LaneId) (raws : Nat → Bool) : State × List Nat :=
  let l := s.lane i
  let r := (List.range 16).map fun c =>
    s.siStep (l.siSrc c) (l.rd (SAFE_SI_CFG_FILT (c / 2))) (raws c) (l.smon.si.getD c SiChan.reset)
  let lvl := fun (k : Nat) => (List.range 8).foldl (fun a n => a + b2n ((r.getD (2 * n + k) (SiChan.reset, false)).1.level) * 2 ^ n) 0
  let p := 2 * l.rd SAFE_SLS_CFG_PULSE_PAIR
  let rise := ((r.getD p (SiChan.reset, false)).1.level && !(l.smon.si.getD p SiChan.reset).level)
  let bad := numsWhere 8 fun n => l.on (SAFE_SI_CFG_EN n) &&
    ((r.getD (2 * n) (SiChan.reset, false)).2 || (r.getD (2 * n + 1) (SiChan.reset, false)).2)
  let l := (l.wr SAFE_SI_STAT_LVL_A (lvl 0)).wr SAFE_SI_STAT_LVL_B (lvl 1)
  let l := bad.foldl (fun l n => l.wr ⟨SAFE_SI_STAT, n, n⟩ 1) l
  (s.setLane i (l.modSmon fun m => { m with si := r.map fun x => x.1, pulses := m.pulses + b2n rise }), bad)

/-- SI_SAMPLE: the Field die passes a sample of every channel to both lanes, every 10 µs (R290, R291). -/
def execSiSample (a b : BitVec 8) (s : State) : Host.Outcome State Fault Refusal :=
  let s := s.passTo (s.field.sampleAt + 4000)
  let s := s.modField fun f => { f with sampleAt := s.now }
  let raws := fun (c : Nat) => if c % 2 = 0 then a.getLsbD (c / 2) else b.getLsbD (c / 2)
  .next ([LaneId.a, LaneId.b].foldl (fun s i =>
    let r := s.siLane i raws
    if r.2.isEmpty then r.1 else r.1.smonInstant i 0x28 2) s)

/-- A pair is in demand (R292). -/
def Lane.pairDemand (l : Lane) (n : Nat) : Bool :=
  let a := (l.smon.si.getD (2 * n) SiChan.reset).level
  let b := (l.smon.si.getD (2 * n + 1) SiChan.reset).level
  l.on (SAFE_SI_CFG_EN n) && (match l.rd (SAFE_SI_CFG_MODE n) with
    | 0 => !a || !b
    | 1 => !a || b
    | _ => false)

/-- The two channels of a pair contradict each other (R292). -/
def Lane.pairDisc (l : Lane) (n : Nat) : Bool :=
  let a := (l.smon.si.getD (2 * n) SiChan.reset).level
  let b := (l.smon.si.getD (2 * n + 1) SiChan.reset).level
  l.on (SAFE_SI_CFG_EN n) && (match l.rd (SAFE_SI_CFG_MODE n) with
    | 0 => a ≠ b
    | 1 => a = b
    | _ => false)

/-- Some pair with a function is in demand (R293). -/
def Lane.funcDemand (l : Lane) (f : Nat) : Bool := (List.range 8).any fun n => l.rd (SAFE_SI_CFG_FUNC n) = f && l.pairDemand n

/-! ### Speed, position, torque direction (R281 to R285) -/

/-- A channel's speed in Q16.16 rpm from its counts over the window; none where the quotient does not exist or does not
fit (R281). -/
def speedOf (delta : Int) (cpr win ratio : Nat) : Option Int :=
  let x := Int.tdiv (delta * 60000 * ratio) (cpr * win * 256 : Nat)
  if cpr * win = 0 || x < -2147483648 || 2147483647 < x then none else some x

/-- A value, or an open one. -/
def State.orFree (s : State) (x : Option Int) : Int × State :=
  match x with
  | some v => (v, s)
  | none => (s.fresh.1.toInt, s.fresh.2)

/-- The position of a channel as numerator and denominator of a revolution (R284); open where CPR is 0. -/
def State.posOf (s : State) (l : Lane) (n : Nat) : (Nat × Nat) × State :=
  let cpr := l.rd (SAFE_ENC_CPR_CPR n)
  let z := if l.encMode n = 1 then (l.regs.get (SAFE_ENC_ZLATCH n)).toInt else 0
  let x := (l.regs.get (SAFE_ENC_COUNT n)).toInt - z - (l.regs.get (SAFE_ENC_REF n)).toInt
  if cpr = 0 then ((s.fresh.1.toNat % 65536, 65536), s.fresh.2) else (((x % cpr).toNat, cpr), s)

/-- A position lies in the lock window, which runs through zero where LO > HI (R284). -/
def inWindow (p : Nat × Nat) (lo hi : Nat) : Bool :=
  let ge := lo * p.2 ≤ p.1 * 65536
  let le := p.1 * 65536 ≤ hi * p.2
  if hi < lo then ge || le else ge && le

/-- Two positions differ by more than a tolerance in Q0.16, modulo one revolution (R284). -/
def posApart (p q : Nat × Nat) (tol : Nat) : Bool :=
  let m := p.2 * q.2
  let d := ((p.1 * q.2 : Int) - (q.1 * p.2 : Nat)) % (m : Int)
  tol * m < 65536 * min d.toNat (m - d.toNat)

/-- KT_SIGN × i_q × sign(speed) exceeds MOT_LIM at 1 rpm or more: i_q of the latest outputs by the amplitude-invariant
Clarke transform and the Park transform with θr, three times its value in units of 2^-60 (R285). -/
def Lane.motoringNow (l : Lane) (spd : Int) : Bool :=
  let out := fun (k : Nat) => (l.meas.chans.getD k Chan.reset).out.toInt
  let a := out (l.rd SAFE_SLT_CFG_CH_A)
  let b := out (l.rd SAFE_SLT_CFG_CH_B)
  let c := out (l.rd SAFE_SLT_CFG_CH_C)
  let th := (l.src 2).pos
  let iq := mulRoot3 ((b - c) * cosBt th) - (2 * a - b - c) * sinBt th
  let kt : Int := match l.rd SAFE_SLT_CFG_KT_SIGN with | 1 => 1 | 3 => -1 | _ => 0
  65536 ≤ spd.natAbs && kt ≠ 0 &&
    ((3 * l.rd SAFE_SLT_CFG_MOT_LIM * 2 ^ 91 : Nat) : Int) < kt * iq * (if spd < 0 then -1 else 1) * 256

/-! ### Safety outputs as commanded by a lane (R294) -/

/-- The function of an output permits it in a lane (R294). -/
def State.soPermits (s : State) (l : Lane) (n : Nat) : Bool :=
  match l.rd (SAFE_SO_CFG_FUNC n) with
  | 1 => !s.faults.sto
  | 2 => l.on SAFE_STAT_SLS_OK
  | 3 => l.on SAFE_STAT_LOCK_PERMIT
  | 4 => l.on (SAFE_SO_CTRL_HOST_ON n)
  | _ => false

/-- No safety cause in force holds the output off, and VF2 is in operation (R294, R306). -/
def State.soFree (s : State) (l : Lane) (n : Nat) : Bool :=
  !(s.faults.sto && l.on (SAFE_SO_CFG_STO_OFF n)) && !s.faults.classL && s.field.cls.getD 1 0 < 2

/-- The output awaits REQ (R294). -/
def State.soAwaits (s : State) (l : Lane) (n : Nat) : Bool :=
  match s.field.sos[n]? with
  | some o => o.manual && (o.forced || !l.on (SAFE_SO_CFG_RESTART n))
  | none => true

/-- A lane commands an output on (R294). -/
def State.soCommand (s : State) (l : Lane) (n : Nat) : Bool := s.soPermits l n && s.soFree l n && !s.soAwaits l n

/-! ### The safety cycle (R271 to R273) -/

/-- The CRC-32 over the safety parameters: PSF_VER and the RWL fields of the SAFE block by rising offset (R273, R274,
R439). -/
def Lane.paramCrc (l : Lane) (ver : Word) : Word :=
  crc32 (bytesOf ver ++ (List.range 64).flatMap fun k =>
    let off := SAFE_CFG + 4 * k
    match regDesc off with
    | some d => if d.rwl = 0 then [] else bytesOf (l.regs.get off &&& BitVec.ofNat 32 d.rwl)
    | none => [])

/-- The start of a condition: kept while it holds. -/
def holding (was : Option Nat) (now : Nat) (c : Bool) : Option Nat := if c then some (was.getD now) else none

/-- One safety cycle of a lane: speeds, limits, discrepancies, position, torque direction, demands, and the commanded
state of the outputs (R271, R281 to R285, R292 to R294). -/
def State.smonCycle (s : State) (i : LaneId) : State :=
  let l := s.lane i
  let m := l.smon
  let old := s.safeBits
  let win := l.rd SAFE_SLS_CFG_SPD_WIN
  let ch1 := l.on SAFE_SLS_CFG_CH1
  let c0 := (l.regs.get (SAFE_ENC_COUNT 0)).toInt
  let c1 : Int := if ch1 then m.pulses else (l.regs.get (SAFE_ENC_COUNT 1)).toInt
  let h0 := (c0 :: m.hist0).take 61
  let h1 := (c1 :: m.hist1).take 61
  let delta := fun (h : List Int) (c : Int) => (BitVec.ofInt 32 (c - h.getD (4 * win) 0)).toInt
  let f0 := s.orFree (speedOf (delta h0 c0) (l.rd (SAFE_ENC_CPR_CPR 0)) win (l.rd (SAFE_ENC_RATIO_RATIO 0)))
  let f1 := f0.2.orFree (speedOf (delta h1 c1) (l.rd (SAFE_ENC_CPR_CPR 1)) win (l.rd (SAFE_ENC_RATIO_RATIO 1)))
  let p0 := f1.2.posOf l 0
  let p1 := p0.2.posOf l 1
  let s := p1.2
  let v0 := f0.1
  let v1 := f1.1
  let safe := max v0.natAbs v1.natAbs
  let limSel := l.funcDemand 2 || m.cmdBits.getLsbD 1
  let lim := 4096 * (if limSel then l.rd SAFE_SLS_LIM_LIM1 else l.rd SAFE_SLS_LIM_LIM0)
  let slsOk := decide (safe ≤ lim)
  let abs := 65536 * l.rd SAFE_SLS_CFG_DISC_ABS
  let apart := ((if ch1 then (v0.natAbs : Int) else v0) - v1).natAbs
  let dir := !ch1 && (l.encMode 0 = 1 || l.encMode 1 = 1) && decide (v0 * v1 < 0) && abs < v0.natAbs && abs < v1.natAbs
  let spdDisc := dir || 1000 * abs + l.rd SAFE_SLS_CFG_DISC_REL * safe < 1000 * apart
  let refs := l.on (refOkFld 0) && l.on (refOkFld 1)
  let tol := l.rd SAFE_LOCK_CFG_POS_DISC
  let posDisc := refs && posApart p0.1 p1.1 tol
  let lo := l.rd SAFE_LOCK_WIN_LOCK_LO
  let hi := l.rd SAFE_LOCK_WIN_LOCK_HI
  let lock := refs && inWindow p0.1 lo hi && inWindow p1.1 lo hi && !posApart p0.1 p1.1 tol &&
    safe < 4096 * l.rd SAFE_LOCK_CFG_LOCK_SPD && (l.funcDemand 3 || m.cmdBits.getLsbD 2)
  let mot := l.motoringNow v0
  let demands := (if l.funcDemand 1 then [0x20] else []) ++ (if m.cmdBits.getLsbD 0 then [0x21] else []) ++
    (if slsOk then [] else [0x22]) ++ (if mot && m.demands.contains 0x23 then [0x23] else []) ++
    (if m.psfTimeout && l.on SAFE_PSF_CFG_PSF_EN then [0x24] else [])
  let m := { m with
    hist0 := h0, hist1 := h1, safeSpeed := safe, demands := demands, paramCrc := l.paramCrc (s.regs.get SEC_IF_CFG &&& 3), cycleAt := s.now,
    discSince := (List.range 8).map (fun n => holding (m.discSince.getD n none) s.now (l.pairDisc n)),
    spdDiscSince := holding m.spdDiscSince s.now spdDisc, posDiscSince := holding m.posDiscSince s.now posDisc,
    motSince := holding m.motSince s.now mot }
  let demand := (List.range 8).foldl (fun a n => a + b2n (l.pairDemand n) * 2 ^ n) 0
  let l := { l with smon := m, regs := ((l.regs.set (SAFE_SPD 0) (BitVec.ofInt 32 v0)).set (SAFE_SPD 1)
    (BitVec.ofInt 32 v1)).set SAFE_PARAM_CRC m.paramCrc }
  let l := (((l.wr SAFE_STAT_SLS_OK (b2n slsOk)).wr SAFE_STAT_LOCK_PERMIT (b2n lock)).wr SAFE_STAT_LIM_SEL (b2n limSel)).wr
    SAFE_SI_STAT_DEMAND demand
  let s := (s.setLane i l).safeEvent old
  let cmd := (List.range 4).foldl (fun a n => a + b2n (s.soCommand l n) * 2 ^ n) 0
  (s.modLane i fun l => l.modSmon fun m => { m with soCmd := BitVec.ofNat 4 cmd })

/-- An output with RESTART = AUTO returns when its function permits (R294). -/
def State.autoReturn (s : State) : State :=
  let l := s.lane s.active
  let free (n : Nat) (o : So) : So :=
    if !o.forced && l.on (SAFE_SO_CFG_RESTART n) && s.soPermits l n && s.soFree l n then { o with manual := false } else o
  s.modField fun f => { f with sos := f.sos.mapIdx free }

/-- The Sluice compares the reports of two lanes that are ACTIVE and SHADOW (R273). -/
def State.compareReports (s : State) : State :=
  let ok := fun (i : LaneId) => s.laneState i = 1 || s.laneState i = 2
  let states := fun (l : Lane) => (l.on SAFE_STAT_SLS_OK, l.on SAFE_STAT_LOCK_PERMIT, l.rd SAFE_SI_STAT_DEMAND, l.smon.soCmd)
  if (ok .a && ok .b) = false then s.modSafe fun x => { x with diffSince := none }
  else
    let differ := decide (states s.laneA ≠ states s.laneB)
    let s := s.modSafe fun x => { x with diffSince := holding x.diffSince s.now differ }
    if s.laneA.smon.paramCrc ≠ s.laneB.smon.paramCrc then s.safetyInstant 0x2D 2 else s

/-- The level sources SI0 to SI7 follow the demands in the active lane (R292, R356). -/
def State.updSi (s : State) : State :=
  (List.range 8).foldl (fun s n =>
    let on := bitAt ((s.lane s.active).rd SAFE_SI_STAT_DEMAND) n
    if on then s.levelOn (74 + n) 0 else if s.on (levelBit (74 + n)) then s.levelOff (74 + n) else s) s

/-- SAFETY_CYCLE: every 250 µs each SMON evaluates the safety functions and reports to the Sluice (R271 to R273). -/
def execSafetyCycle (ln : LaneSel) (s : State) : Host.Outcome State Fault Refusal :=
  let at_ := match ln with
    | .b => s.laneB.smon.cycleAt
    | _ => s.laneA.smon.cycleAt
  let s := s.passTo (at_ + 100000)
  .next (((s.onLanes ln State.smonCycle).syncDemands.autoReturn.compareReports.updSi).updSo)

/-- SMON_FAULT: function states have differed for more than 20 ms (R273). -/
def execSmonFault (s : State) : Host.Outcome State Fault Refusal :=
  .next (match s.safe.diffSince with
    | none => s
    | some t => (s.passTo (t + 8000000)).safetyInstant 0x2D 2)

/-- SI_DISC: the channels of a pair contradict each other for longer than DISC_T (R292). -/
def execSiDisc (ln : LaneSel) (pair : Nat) (s : State) : Host.Outcome State Fault Refusal :=
  .next (s.onLanes ln fun s i =>
    match (s.lane i).smon.discSince.getD pair none with
    | none => s
    | some t =>
      let s := s.passTo (t + 800000 * (s.lane i).rd (SAFE_SI_CFG_DISC_T pair))
      (s.modLane i fun l => l.wr ⟨SAFE_SI_STAT, pair, pair⟩ 1).smonInstant i 0x27 2)

/-- The earlier of two instants. -/
def earlier : Option Nat → Option Nat → Option Nat
  | none, b => b
  | a, none => a
  | some a, some b => some (min a b)

/-- SPD_DISC: the speed or the position channels differ for longer than DISC_T (R283, R284). -/
def execSpdDisc (ln : LaneSel) (s : State) : Host.Outcome State Fault Refusal :=
  .next (s.onLanes ln fun s i =>
    match earlier (s.lane i).smon.spdDiscSince (s.lane i).smon.posDiscSince with
    | none => s
    | some t => (s.passTo (t + 400000 * (s.lane i).rd SAFE_SLS_CFG_DISC_T)).smonInstant i 0x2B 2)

/-- SLT_MOT: the motoring condition has held for MOT_T (R285). -/
def execSltMot (ln : LaneSel) (s : State) : Host.Outcome State Fault Refusal :=
  .next (s.onLanes ln fun s i =>
    match (s.lane i).smon.motSince with
    | none => s
    | some t =>
      let s := s.passTo (t + 400000 * (s.lane i).rd SAFE_SLT_CFG_MOT_T)
      (s.modLane i fun l => l.modSmon fun m =>
        if m.demands.contains 0x23 then m else { m with demands := 0x23 :: m.demands }).syncDemands)

/-! ### Degraded operation (R287, R288) -/

/-- DEGRADED_MINUTE: a minute of degraded operation ends. At 0 every SWITCHING thread is to stop (R287, R288). -/
def execDegradedMinute (s : State) : Host.Outcome State Fault Refusal :=
  .next (if !(s.lane s.active).on SAFE_STAT_DEGRADED || (s.lane s.active).rd SAFE_DEGRADED_REMAIN = 0 then s
    else
      let s := s.passTo (s.safe.degradedAt + 24000000000)
      let n := (s.lane s.active).rd SAFE_DEGRADED_REMAIN - 1
      let s := (s.bothLanes fun l => l.wr SAFE_DEGRADED_REMAIN n).modSafe fun x => { x with degradedAt := s.now }
      if n = 0 then s.modSafe fun x => { x with stopAt := some s.now, stopDue := true } else s)

/-- The commit stage stops every SWITCHING thread at the first boundary at which commands commit after REMAIN reached 0
(R288). -/
def State.commitStops (s : State) : State :=
  if !s.safe.stopDue || s.hold then s
  else
    (numsWhere 8 fun t => s.present t && s.thread t = 2).foldl State.stopThread
      (s.modSafe fun x => { x with stopDue := false })

/-- DEGRADED_END: no thread is SWITCHING any more, or STOP_T has passed since REMAIN reached 0 (R276, R288). -/
def execDegradedEnd (s : State) : Host.Outcome State Fault Refusal :=
  .next (match s.safe.stopAt with
    | none => s
    | some t =>
      if !s.safeEn || s.causeActive 0x26 0 then s
      else
        let s := if s.anyThread 2 then s.passTo (t + 400000000 * (s.lane s.active).rd SAFE_CFG_STOP_T) else s
        s.cause 0x26 1 .module 0 none true)

end Sys2Proof.Machine
end

