-- ==== Sys2Proof/Machine/SafeOut.lean ====
section
/-! DEFINITION. The safety outputs at the Field die (R286, R294 to R298): their series switches under the field channels and
their tests. -/
namespace Sys2Proof.Machine

/-- A safety output. -/
def State.so (s : State) (n : Nat) : So := s.field.sos.getD n So.reset
def State.modSo (s : State) (n : Nat) (f : So → So) : State :=
  (s.modField fun x => { x with sos := updAt x.sos n f }).updSo

/-- Both series switches of an output are closed. -/
def So.on (o : So) : Bool := o.swA && o.swB

/-- The series switch of a lane. -/
def So.sw (o : So) : LaneId → Bool
  | .a => o.swA
  | .b => o.swB
def So.setSw (o : So) (i : LaneId) (v : Bool) : So :=
  match i with
  | .a => { o with swA := v }
  | .b => { o with swB := v }

/-- The Sluice has taken over the series switches of a lane (R286). -/
def State.taken (s : State) : LaneId → Bool
  | .a => s.safe.takeoverA
  | .b => s.safe.takeoverB

/-- A commanded opening of one switch of an output `o`: a running test is cancelled there (R297), and the exclusion of the
readback runs from the opening (R298). -/
def So.openNow (p o : So) (now : Nat) : So :=
  { p with
    test := none, recheck := false, endedAt := if o.test.isSome then now else p.endedAt,
    offAt := if o.swA = p.swA && o.swB = p.swB then p.offAt else now }

/-- A series switch takes its commanded position; an output that comes on restarts its test period. A switch opened by a
running test stays open (R294, R295). -/
def State.moveSw (s : State) (i : LaneId) (n : Nat) (v : Bool) : State :=
  let o := s.so n
  if o.test.any (fun t => t.1 = i) && v then s
  else
    let p := o.setSw i v
    let p := if p.on && !o.on && o.test.isNone then
        { p with onAt := s.now, testDue := s.now + 400000000 * (s.lane s.active).rd (SAFE_SO_CFG_TPER n) }
      else p
    let p := if v then p else p.openNow o s.now
    s.modSo n fun _ => { p with rb := p.on }

/-- The series switches of a lane follow a command word; those of outputs that await their return stay open (R294). -/
def State.moveSws (s : State) (i : LaneId) (cmd : BitVec 4) : State :=
  (List.range 4).foldl (fun s n =>
    let l := s.lane s.active
    s.moveSw i n (cmd.getLsbD n && s.soFree l n && !s.soAwaits l n)) s

/-- A frame of a lane's field channel arrives: the lane's series switches follow its commands, but for switches under
takeover; FIELD_CHAN ends (R276, R286, R310, R311). -/
def State.laneFrame (s : State) (i : LaneId) : State :=
  let n := LaneId.num i
  let s := (s.modField fun f => { f with lastLane := f.lastLane.set n s.now, laneSilent := f.laneSilent.set n false }).causeEnd
    0x2E n
  if s.taken i then s else s.moveSws i (s.lane i).smon.soCmd

/-- Switches under takeover follow the active lane's commands, and open on any safety cause of class B or L (R286). -/
def State.takeoverFrame (s : State) : State :=
  [LaneId.a, LaneId.b].foldl (fun s i =>
    if s.taken i then s.moveSws i (if s.faults.sto then 0 else (s.lane s.active).smon.soCmd) else s) s

/-- A lane's series switches open, and outputs that were on await their return (R18, R294, R310). -/
def State.silenceLane (s : State) (i : LaneId) : State :=
  if s.taken i then s
  else
    (s.modField fun f =>
      { f with sos := f.sos.map fun o =>
          { ((o.setSw i false).openNow o s.now) with rb := false, manual := o.manual || o.on } }).updSo

/-- SAFE_SOn_CTRL committed: HOST_ON is held, and REQ = 1 lets an output return whose function permits (R294). -/
def State.soRequest (s : State) (n : Nat) (v : Word) : State :=
  let s := s.bothLanes fun l => l.wr (SAFE_SO_CTRL_HOST_ON n) (bitsOf v 1 1)
  let l := s.lane s.active
  if v.getLsbD 0 && s.soPermits l n && s.soFree l n then s.modSo n fun o => { o with manual := false, forced := false }
  else s

/-! ### Tests (R295 to R298) -/

/-- The lane whose series switch the next test opens: alternately A and B. -/
def So.nextLane (o : So) : LaneId := LaneId.other o.lastLane

/-- SO_TEST_START: an output that is on is tested once every TPER; tests of different outputs are 1 ms apart, and none
starts within 2 × TPW of the switch-on (R295). -/
def execSoTestStart (n : Nat) (s : State) : Host.Outcome State Fault Refusal :=
  let o := s.so n
  .next (if !o.on || s.field.sos.any (fun x => x.test.isSome) then s
    else
      let tpw := 400 * (s.lane s.active).rd (SAFE_SO_CFG_TPW n)
      let others := (numsWhere 4 fun m => m ≠ n && (s.so m).endedAt ≠ 0).foldl (fun t m => max t ((s.so m).endedAt + 400000)) 0
      let s := s.passTo (max (max o.testDue (o.onAt + 2 * tpw)) others)
      s.modSo n fun o =>
        { (o.setSw o.nextLane false) with
          test := some (o.nextLane, s.now), rb := false,
          testDue := s.now + 400000000 * (s.lane s.active).rd (SAFE_SO_CFG_TPER n) })

/-- SO_TEST_END: the pulse of TPW ends. With every sample of its last 20 µs low the switch closes again; else it stays
open, the other switch opens, and SO_READBACK is raised (R296). -/
def execSoTestEnd (n : Nat) (allLow : Bool) (s : State) : Host.Outcome State Fault Refusal :=
  .next (match (s.so n).test with
    | none => s
    | some (i, t) =>
      let s := s.passTo (t + 400 * (s.lane s.active).rd (SAFE_SO_CFG_TPW n))
      if allLow then
        s.modSo n fun o =>
          { (o.setSw i true) with test := none, endedAt := s.now, recheck := true, passed := true, lastLane := i, rb := true }
      else
        (s.modSo n fun o => { o.off s.now with passed := false, lastLane := i, manual := true }).safetyInstant 0x29 2)

/-- The output is switched off and SO_OVERLOAD is raised (R296, R298). -/
def State.soOverload (s : State) (n : Nat) : State :=
  (s.modSo n fun o => { o.off s.now with manual := true }).safetyInstant 0x2A 1

/-- SO_TEST_RECHECK: 50 µs after the tested switch has closed again the readback must be high (R296). -/
def execSoTestRecheck (n : Nat) (high : Bool) (s : State) : Host.Outcome State Fault Refusal :=
  .next (if !(s.so n).recheck then s
    else
      let s := s.passTo ((s.so n).endedAt + 20000)
      if high then s.modSo n fun o => { o with recheck := false } else s.soOverload n)

/-- SO_READBACK: an output commanded off reads high for 1 ms after the exclusion of 50 µs, or reads low again (R276,
R298). A high readback that cannot have lasted so long since the switch-off raises nothing. -/
def execSoReadback (n : Nat) (high : Bool) (s : State) : Host.Outcome State Fault Refusal :=
  let o := s.so n
  .next (if o.swA || o.swB then s
    else
      let s := s.modSo n fun o => { o with rb := high }
      if !high then s.causeEnd 0x29 (n + 1)
      else if !s.safeEn || s.causeActive 0x29 (n + 1) || s.now < o.offAt + 420000 then s
      else s.cause 0x29 2 .module (n + 1) none true)

/-- SO_OVERLOAD: an output commanded on reads low for 1 ms, counted from 2 × TPW after its switch-on (R298). -/
def execSoOverload (n : Nat) (s : State) : Host.Outcome State Fault Refusal :=
  let o := s.so n
  .next (if o.on && o.onAt + 800 * (s.lane s.active).rd (SAFE_SO_CFG_TPW n) + 400000 ≤ s.now then s.soOverload n else s)

end Sys2Proof.Machine
end

