-- ==== Sys2Proof/Machine/FieldIo.lean ====
section
/-! DEFINITION. Field inputs and outputs (12): the supplies, the field channels and their silence, the digital inputs with
their diagnostics, and the digital outputs with their protections. -/
namespace Sys2Proof.Machine

/-! ### Outputs (R320 to R324) -/

/-- The Field die is powered: one of its supplies is at 10 V or more (R305). -/
def State.fieldPowered (s : State) : Bool := s.field.volts.any fun v => 100 ≤ v

/-- VF1 is in SAG or REVERSED (R306). -/
def State.vf1Low (s : State) : Bool := 2 ≤ s.field.cls.getD 0 0

/-- A fault of an output is latched (R323). -/
def State.doLatched (s : State) (n : Nat) : Bool :=
  s.on (FIO_DO_STAT_OVERLOAD n) || s.on (FIO_DO_STAT_OT n) || s.on (FIO_DO_STAT_BACKFEED n)

/-- The state of an output: the first row of R322 that applies decides; one not in use is held off. -/
def State.doState (s : State) (n : Nat) : Bool :=
  let f := s.field
  let cfg := f.doCfg.getD n 0
  if !cfg.getLsbD 31 || !s.fieldPowered then false
  else if s.vf1Low then false
  else if cfg.getLsbD 30 && (f.silentS || f.shutdown) then false
  else if s.on (FIO_DO_STAT_SILENT n) then
    (match bitsOf cfg 29 28 with
      | 0 => false
      | 1 => true
      | _ => f.doHold.getLsbD n)
  else if s.doLatched n || s.on (FIO_DO_STAT_SAG_OFF n) then false
  else f.doCmd.getLsbD n

/-- An output's switch takes its state; a turn-off is timed, and the readback is high while it is on or back-fed (R323). -/
def State.updDo1 (s : State) (n : Nat) : State :=
  let on := s.doState n
  let was := s.field.doOn.getLsbD n
  let s := s.modField fun f =>
    { f with doOn := (if on then f.doOn ||| ((1 : BitVec 16) <<< n) else f.doOn &&& ~~~((1 : BitVec 16) <<< n)),
             doOffAt := (if was && !on then f.doOffAt.set n s.now else f.doOffAt) }
  let rb := on || s.field.doPresent.getLsbD (16 + n)
  (((s.wr (FIO_DO_STAT_ON n) (b2n on)).wr ⟨FIO_DO_STATE, n, n⟩ (b2n on)).wr (FIO_DO_STAT_READBACK n) (b2n rb)).wr
    ⟨FIO_DO_STATE, 16 + n, 16 + n⟩ (b2n rb)

/-- Every output follows R322. -/
def State.updDo (s : State) : State := (List.range 16).foldl State.updDo1 s

/-- A fault of an output is reported: FAULTS, the event, and a journal record (R323). -/
def State.doFault (s : State) (n code : Nat) : State :=
  ((s.bumpSat (FIO_DO_STAT_FAULTS n)).raise 50 (n + 256 * code)).journalAdd 0x06 code 0 [3, BitVec.ofNat 8 n]

/-- OVERLOAD: the current limit of an output that is on has been engaged for 20 ms (R323). -/
def execDoOverload (n : Nat) (s : State) : Host.Outcome State Fault Refusal :=
  .next (if !s.field.doOn.getLsbD n then s
    else ((s.wr (FIO_DO_STAT_OVERLOAD n) 1).doFault n 1).updDo)

/-- OT: a switch junction passes 165 °C, and the output latches off; or it is below again (R323). -/
def execDoOt (n : Nat) (present : Bool) (s : State) : Host.Outcome State Fault Refusal :=
  let bit : BitVec 32 := (1 : BitVec 32) <<< n
  .next (if !present then s.modField fun f => { f with doPresent := f.doPresent &&& ~~~bit }
    else
      let s := s.modField fun f => { f with doPresent := f.doPresent ||| bit }
      ((s.wr (FIO_DO_STAT_OT n) 1).doFault n 2).updDo)

/-- BACKFEED: the readback of an output commanded off has been high for 1 ms, counted from 5 ms after its turn-off; or it is
low again (R323, R324). -/
def execDoBackfeed (n : Nat) (present : Bool) (s : State) : Host.Outcome State Fault Refusal :=
  let bit : BitVec 32 := (1 : BitVec 32) <<< (16 + n)
  .next (if !present then (s.modField fun f => { f with doPresent := f.doPresent &&& ~~~bit }).updDo
    else if s.field.doOn.getLsbD n || s.field.doCmd.getLsbD n then s
    else
      let s := s.passTo (s.field.doOffAt.getD n 0 + 2400000)
      let s := s.modField fun f => { f with doPresent := f.doPresent ||| bit }
      ((s.wr (FIO_DO_STAT_BACKFEED n) 1).doFault n 3).updDo)

/-- DO_OPEN: the load current of an output that is on has been below 5 mA for 50 ms, with OL_EN (R323). -/
def execDoOpen (n : Nat) (s : State) : Host.Outcome State Fault Refusal :=
  .next (if (s.field.doCfg.getD n 0).getLsbD 27 && s.field.doOn.getLsbD n then (s.wr (FIO_DO_STAT_OPEN n) 1).doFault n 4
    else s)

/-- Commands of outputs written at a commit boundary (R314, R320): FIO_DO_OUT and CMD. They reach the Field die in the next
frame of channel S. -/
def State.commitDo (s : State) (mask val : BitVec 16) (all : Bool) : State :=
  let out := ((BitVec.ofNat 16 (s.rd FIO_DO_OUT_OUT)) &&& ~~~mask) ||| (val &&& mask)
  let s := s.wr FIO_DO_OUT_OUT out.toNat
  let s := (List.range 16).foldl (fun s n => s.wr (FIO_DO_STAT_CMD n) (b2n (out.getLsbD n))) s
  s.modField fun f => { f with release := f.release ||| mask, takeBack := f.takeBack || (all && !f.silentS) }

/-- FIO_DO_REARM committed: the rearm reaches the Field die in the next frame of channel S (R323). -/
def State.commitRearm (s : State) (v : BitVec 16) : State := s.modField fun f => { f with rearm := f.rearm ||| v }

/-- Some output shows SILENT = 1 (R314). -/
def State.anySilent (s : State) : Bool := (List.range 16).any fun n => s.on (FIO_DO_STAT_SILENT n)

/-! ### Channel S (R310 to R314, R321) -/

/-- DISUPj is on while it is not off after an overload and VF1 is in operation (R319). -/
def State.updDisup (s : State) : State :=
  (List.range 4).foldl (fun s j =>
    s.wr ⟨FIO_DISUP_STAT, j, j⟩ (b2n ((s.field.supOff.getD j none).isNone && !s.vf1Low && s.fieldPowered))) s

/-- A digital input at the Field die. -/
def State.di (s : State) (n : Nat) : Di := s.field.dis.getD n Di.reset
def State.modDi (s : State) (n : Nat) (f : Di → Di) : State := s.modField fun x => { x with dis := updAt x.dis n f }

/-- LEVEL of an input, and its bit in FIO_DI_LVL, which reads 0 while the Field die is silent (R310, R317). -/
def State.showLevel (s : State) (n : Nat) : State :=
  let v := (s.di n).level
  (s.wr (FIO_DI_STAT_LEVEL n) (b2n v)).wr ⟨FIO_DI_LVL, n, n⟩ (b2n (v && !s.on FIO_STAT_FD_DOWN))

/-- A new copy of FIO_DIn_CFG: with EN = 0, or with another SAMP or THRESH, counter and level become 0 (R312, R316). -/
def State.takeDiCfg (s : State) (n : Nat) : State :=
  let old := s.field.diCfg.getD n 0
  let new := s.regs.get (FIO_DI_CFG n)
  let s := s.modField fun f => { f with diCfg := f.diCfg.set n new }
  let s := if !new.getLsbD 31 || bitsOf old 23 16 ≠ bitsOf new 23 16 || bitsOf old 9 0 ≠ bitsOf new 9 0 then
      s.modDi n fun d => { d with count := 0, level := false }
    else s
  s.showLevel n

/-- An output at the arrival of a frame of channel S: SILENT ends where FIO_DO_OUT has been written, SAG_OFF where the
command has, and latched faults where a rearm came and their condition is gone (R308, R314, R323). -/
def State.takeDo (s : State) (n : Nat) : State :=
  let f := s.field
  let s := s.modField fun f => { f with doCfg := f.doCfg.set n (s.regs.get (FIO_DO_CFG n)) }
  let s := if f.takeBack then s.wr (FIO_DO_STAT_SILENT n) 0 else s
  let s := if f.release.getLsbD n then s.wr (FIO_DO_STAT_SAG_OFF n) 0 else s
  if f.rearm.getLsbD n && !f.doPresent.getLsbD n && !f.doPresent.getLsbD (16 + n) then
    ((s.wr (FIO_DO_STAT_OVERLOAD n) 0).wr (FIO_DO_STAT_OT n) 0).wr (FIO_DO_STAT_BACKFEED n) 0
  else s

/-- The number of a supply: 0 VF1, 1 VF2. -/
def supplyNum : Supply → Nat
  | .vf1 => 0
  | .vf2 => 1

/-- The Field die reports the class of a supply; a change raises FIO_SUPPLY and is recorded with the voltage (R306). -/
def State.reportSupply (s : State) (k : Nat) : State :=
  let old := s.rd (FIO_STAT_VF_ST k)
  let new := s.field.cls.getD k 0
  if new = old then s
  else
    ((s.wr (FIO_STAT_VF_ST k) new).raiseOpen 48).journalAdd 0x06 new 0
      ([1, BitVec.ofNat 8 k, BitVec.ofNat 8 old, BitVec.ofNat 8 new] ++
        leBytes 2 (BitVec.ofInt 16 (s.field.volts.getD k 0)).toNat)

/-- Channel S runs: not in BOOT, in a reset or in Shelved, and with a powered Field die (R313). -/
def State.channelS (s : State) : Bool :=
  s.mod.phase ≠ .boot && !s.power.inReset && !s.power.shelved && s.fieldPowered

/-- FIELD_FRAME_S: the exchange of a frame on channel S. A valid one ends its silence and carries commands and
configuration to the Field die; a bad one is counted (R310, R312, R321). -/
def execFieldFrameS (crcOk : Bool) (s : State) : Host.Outcome State Fault Refusal :=
  .next (if !s.channelS then s
    else if !crcOk then s.bump FIO_STAT_CHS_ERR
    else
      let s := (s.modField fun f =>
        { f with lastS := s.now, silentS := false, shutdown := f.shutdown && !s.power.pgood,
                 wdogCopy := s.rd FIO_CTRL_WDOG, doCmd := BitVec.ofNat 16 (s.rd FIO_DO_OUT_OUT) }).wr FIO_STAT_FD_DOWN 0
      let s := (List.range 32).foldl State.takeDiCfg s
      let s := (List.range 16).foldl State.takeDo s
      let s := s.modField fun f => { f with takeBack := false, release := 0, rearm := 0 }
      ((s.reportSupply 0).reportSupply 1).takeoverFrame.updDo.updDisup)

/-- FIELD_FRAME_LANE: a frame on field channel A or B (R310). -/
def execFieldFrameLane (lane : LaneId) (crcOk : Bool) (s : State) : Host.Outcome State Fault Refusal :=
  .next (if !s.fieldPowered then s else if crcOk then s.laneFrame lane else s.bump FIO_STAT_CHS_ERR)

/-- LANE_CHANNEL_SILENCE: no valid frame on a lane's channel for 500 µs (R310). -/
def execLaneChannelSilence (lane : LaneId) (s : State) : Host.Outcome State Fault Refusal :=
  let n := LaneId.num lane
  .next (if s.field.laneSilent.getD n true then s
    else
      let s := s.passTo (s.field.lastLane.getD n 0 + 200000)
      (s.modField fun f => { f with laneSilent := f.laneSilent.set n true }).silenceLane lane)

/-- S_SILENCE: no valid frame on channel S toward the Field die for 1 ms: outputs of CLASS_S go off (R310). -/
def execSSilence (s : State) : Host.Outcome State Fault Refusal :=
  let s := s.passTo (s.field.lastS + 400000)
  .next (s.modField fun f => { f with silentS := true, takeBack := false }).updDo

/-- The outputs without CLASS_S enter their SAFE state; HOLD keeps the state before (R310, R322). -/
def State.enterSafe (s : State) : State :=
  let s := s.modField fun f => { f with doHold := f.doOn, takeBack := false }
  ((List.range 16).foldl (fun s n =>
    if (s.field.doCfg.getD n 0).getLsbD 30 || s.on (FIO_DO_STAT_SILENT n) then s else s.wr (FIO_DO_STAT_SILENT n) 1) s).updDo

/-- FIO_WDOG: channel S has been silent for the Field die's copy of FIO_WDOG (R310, R312). -/
def execFioWdog (s : State) : Host.Outcome State Fault Refusal :=
  let s := s.passTo (s.field.lastS + 400000 * s.field.wdogCopy)
  .next (s.modField fun f => { f with silentS := true }).enterSafe

/-- SHUTDOWN: with PGOOD low the Sluice sends the SHUTDOWN frame (R313). -/
def execFdShutdown (s : State) : Host.Outcome State Fault Refusal :=
  .next (if s.power.pgood then s
    else
      let s := s.wr FIO_STAT_SHUTDOWN 1
      if s.fieldPowered then (s.modField fun f => { f with shutdown := true }).enterSafe else s)

/-- FD_DOWN: the Field die has been silent toward the Sluice for 1 ms: FD_DOWN, FIO_DI_LVL 0, the event, and safety inputs
that both SMONs take as low (R310, R311). -/
def execFdDown (s : State) : Host.Outcome State Fault Refusal :=
  .next (if s.on FIO_STAT_FD_DOWN then s
    else
      let s := s.passTo (s.field.lastS + 400000)
      let s := { s with regs := (s.regs.wr FIO_STAT_FD_DOWN 1).set FIO_DI_LVL 0 }
      let s := s.bothLanes fun l =>
        (((l.modSmon fun m => { m with si := m.si.map fun c => { c with level := false, count := 0 } }).wr
          SAFE_SI_STAT_LVL_A 0).wr SAFE_SI_STAT_LVL_B 0)
      s.raiseOpen 48)

/-- FIELD_CHAN: 10 ms of silence on the channel of a lane that is ACTIVE or SHADOW (R276, R311). -/
def execFieldChan (lane : LaneId) (s : State) : Host.Outcome State Fault Refusal :=
  let n := LaneId.num lane
  .next (if !s.safeEn || s.causeActive 0x2E n || !(s.laneState lane = 1 || s.laneState lane = 2) then s
    else (s.passTo (s.field.lastLane.getD n 0 + 4000000)).cause 0x2E 1 .module n none true)

/-! ### Supplies (R305 to R309) -/

/-- The class by voltage alone, in 0.1 V (R306). -/
def supplyClass (v : Int) : Nat := if v < -10 then 3 else if v < 140 then 2 else if v < 180 then 1 else 0

/-- VF1 enters SAG or REVERSED: every output goes off, SAG_OFF on those that were on, VF_LOW on every input (R308). -/
def State.vf1Enter (s : State) : State :=
  let s := (List.range 16).foldl (fun s n =>
    if s.field.doOn.getLsbD n then (s.wr (FIO_DO_STAT_SAG_OFF n) 1).doFault n 5 else s) s
  ((List.range 32).foldl (fun s n => s.wr (FIO_DI_STAT_VF_LOW n) 1) s).updDo.updDisup

/-- VF1 leaves SAG or REVERSED; with DO_RESTORE the outputs follow their commands again (R308). -/
def State.vf1Leave (s : State) : State :=
  let s := if s.on FIO_CTRL_DO_RESTORE then (List.range 16).foldl (fun s n => s.wr (FIO_DO_STAT_SAG_OFF n) 0) s else s
  ((List.range 32).foldl (fun s n => s.wr (FIO_DI_STAT_VF_LOW n) 0) s).updDo.updDisup

/-- VF2 enters SAG or REVERSED: FIELD_SUPPLY, and the safety outputs go off (R276, R309). -/
def State.vf2Enter (s : State) : State :=
  let s := s.sosOff fun _ => false
  if s.safeEn then s.cause 0x2F 1 .module 0 none true else s

/-- A class of a supply at the Field die: its report, and the effect of a change (R306, R308, R309). -/
def State.setSupply (s : State) (sup : Supply) (new : Nat) : State :=
  let k := supplyNum sup
  let old := s.field.cls.getD k 0
  let s := (s.modField fun f => { f with cls := f.cls.set k new }).reportSupply k
  if new = old then s
  else
    match sup with
    | .vf1 => if old < 2 && 2 ≤ new then s.vf1Enter else if 2 ≤ old && new < 2 then s.vf1Leave else s
    | .vf2 => if old < 2 && 2 ≤ new then s.vf2Enter else if 2 ≤ old && new < 2 then s.causeEnd 0x2F 0 else s

/-- Without power the Field die loses its copies, its outputs go off, and it reports nothing (R305). -/
def State.fieldOff (s : State) : State :=
  let s := s.modField fun f =>
    { f with dis := f.dis.map (fun d => { Di.reset with fifo := d.fifo }), doCmd := 0, doOn := 0, doHold := 0, doPresent := 0, silentS := true,
             shutdown := false, wdogCopy := 100, doCfg := FieldDie.reset.doCfg, diCfg := FieldDie.reset.diCfg,
             supOff := FieldDie.reset.supOff, takeBack := false }
  s.sosOff fun _ => false

/-- A measurement of a supply (R305 to R307): SAG and REVERSED end only after 20 ms at 16.0 V or more. -/
def State.measureSupply (s : State) (sup : Supply) (v : Int) : State :=
  let k := supplyNum sup
  let s := s.modField fun f =>
    { f with volts := f.volts.set k v,
             vfOkSince := f.vfOkSince.set k (if v < 160 then none else some ((f.vfOkSince.getD k none).getD s.now)) }
  if !s.fieldPowered then s.fieldOff
  else
    let old := s.field.cls.getD k 0
    let c := supplyClass v
    let done := (s.field.vfOkSince.getD k none).any fun t => t + 8000000 ≤ s.now
    let new := if old < 2 || 2 ≤ c || done then c else old
    (s.wr ⟨FIO_VF, 16 * k + 15, 16 * k⟩ (BitVec.ofInt 16 v).toNat).setSupply sup new

/-- SUPPLY_MEASURE: a field supply is measured, in 0.1 V, every 100 µs (R306). -/
def execSupplyMeasure (sup : Supply) (deciVolts : Int) (s : State) : Host.Outcome State Fault Refusal :=
  let k := supplyNum sup
  let s := s.passTo (s.field.supAt.getD k 0 + 40000)
  .next ((s.modField fun f => { f with supAt := f.supAt.set k s.now }).measureSupply sup deciVolts)

/-- SUPPLY_RECOVERY: a supply has been at 16.0 V or more for 20 ms (R307). -/
def execSupplyRecovery (sup : Supply) (deciVolts : Int) (s : State) : Host.Outcome State Fault Refusal :=
  .next (match s.field.vfOkSince.getD (supplyNum sup) none with
    | none => s
    | some t => (s.passTo (t + 8000000)).measureSupply sup deciVolts)

/-! ### Inputs (R315 to R319) -/

/-- The counter filter (R316). -/
def filterStep (thresh : Nat) (raw : Bool) (d : Di) : Di :=
  let count := if raw then (if d.count < thresh then d.count + 1 else d.count) else d.count - 1
  { d with count := count, level := if count = 0 then false else if count = thresh then true else d.level }

/-- The PTP time some nanoseconds ago (R317). -/
def State.stampBefore (s : State) (comp : Nat) : Nat × Nat :=
  let t : Int := s.clock.sec.toNat * 1000000000 + s.clock.ns - comp
  ((t / 1000000000).toNat, (t % 1000000000).toNat)

/-- A filtered change that EDGE selects goes into the input's FIFO of 16; a full one drops it (R317). -/
def State.storeChange (s : State) (n : Nat) (level : Bool) : State :=
  let cfg := s.field.diCfg.getD n 0
  if (s.di n).fifo.length < 16 then
    let comp := if cfg.getLsbD 26 then (bitsOf cfg 23 16 - 1) * bitsOf cfg 9 0 * 10000 else 0
    let t := s.stampBefore comp
    let s := s.modDi n fun d => { d with fifo := d.fifo ++ [(level, s.noTime, t.1, t.2)] }
    ((s.wr (FIO_DI_STAT_TS_CNT n) (s.di n).fifo.length).wr ⟨FIO_DI_EDGE, n, n⟩ 1).raise 49 (n + 256 * b2n level)
  else (s.bumpSat (FIO_DI_STAT_DROP n)).wr (FIO_DI_STAT_OVF n) 1

/-- DI_SAMPLE: an input in use is sampled every SAMP × 10 µs; a channel in OT reads 0 (R316, R317, R319). -/
def execDiSample (n : Nat) (raw : Bool) (s : State) : Host.Outcome State Fault Refusal :=
  let cfg := s.field.diCfg.getD n 0
  .next (if !cfg.getLsbD 31 || !s.fieldPowered then s
    else
      let s := s.passTo (s.field.diSampleAt.getD n 0 + 4000 * bitsOf cfg 9 0)
      let s := s.modField fun f => { f with diSampleAt := f.diSampleAt.set n s.now }
      let was := s.di n
      let r := raw && !was.ot
      let now := filterStep (bitsOf cfg 23 16) r was
      let s := ((s.modDi n fun _ => now).wr (FIO_DI_STAT_RAW n) (b2n r)).showLevel n
      if now.level = was.level then s
      else
        let s := s.bump (if now.level then FIO_DI_CNT_RISE n else FIO_DI_CNT_FALL n)
        if bitAt (bitsOf cfg 28 27) (if now.level then 0 else 1) then s.storeChange n now.level else s)

/-- A diagnostic of an input: its sticky bit, the event with data bit 9, and a journal record (R319). -/
def State.diDiag (s : State) (n : Nat) (x : Fld) (code : Nat) : State :=
  ((s.wr x 1).raise 49 (n + 512)).journalAdd 0x06 code 0 [2, BitVec.ofNat 8 n]

/-- OPEN: the current of an input has been below 0.2 mA for 100 ms, with OW_EN (R319). -/
def execDiOpen (n : Nat) (s : State) : Host.Outcome State Fault Refusal :=
  let cfg := s.field.diCfg.getD n 0
  .next (if cfg.getLsbD 31 && cfg.getLsbD 29 && s.fieldPowered then s.diDiag n (FIO_DI_STAT_OPEN n) 1 else s)

/-- SUP_OVL: DISUPj has been above 200 mA for 10 ms; it goes off, and its eight channels report it (R319). -/
def execSupOvl (j : Nat) (s : State) : Host.Outcome State Fault Refusal :=
  .next (if (s.field.supOff.getD j none).isSome || s.vf1Low || !s.fieldPowered then s
    else
      let s := (s.modField fun f => { f with supOff := f.supOff.set j (some s.now) }).wr ⟨FIO_DISUP_STAT, 4 + j, 4 + j⟩ 1
      ((List.range 8).foldl (fun s k => s.diDiag (8 * j + k) (FIO_DI_STAT_SUP_OVL (8 * j + k)) 2) s).updDisup)

/-- DISUP_RETRY: after 1 s the sensor supply is retried (R319). -/
def execDisupRetry (j : Nat) (s : State) : Host.Outcome State Fault Refusal :=
  .next (match s.field.supOff.getD j none with
    | none => s
    | some t => ((s.passTo (t + 400000000)).modField fun f => { f with supOff := f.supOff.set j none }).updDisup)

/-- DI_OT: an input's current limiter passes 150 °C; the channel reads 0 (R319). -/
def execDiOt (n : Nat) (s : State) : Host.Outcome State Fault Refusal :=
  .next (if (s.di n).ot || !s.fieldPowered then s
    else (s.modDi n fun d => { d with ot := true }).diDiag n (FIO_DI_STAT_OT n) 3)

/-- DI_COOLED: the limiter has cooled by 20 °C (R319). -/
def execDiCooled (n : Nat) (s : State) : Host.Outcome State Fault Refusal :=
  .next (s.modDi n fun d => { d with ot := false })

/-! ### Reading time stamps (R318) -/

/-- FIO_TS_NS and FIO_TS_S of an entry: level, NOTIME and nanoseconds, and seconds. -/
def tsWords (e : Bool × Bool × Nat × Nat) : Word × Word :=
  (withBits (withBits (withBits (withBits 0 31 31 1) 30 30 (b2n e.1)) 29 29 (b2n e.2.1)) 28 0 e.2.2.2,
   withBits (withBits 0 31 31 (e.2.2.2 / 2 ^ 29)) 30 0 e.2.2.1)

/-- TS_NS_READ: FIO_TS_NS is read: the oldest entry of the channel in FIO_TS_SEL. With the FIFO empty it reads VALID = 0,
and its other bits are open (R318; log 2). -/
def execTsNsRead (s : State) : Host.Outcome State Fault Refusal :=
  .next (s.readAfterBoot (match (s.di (s.rd FIO_TS_SEL_CH)).fifo with
    | e :: _ => s.returned [(tsWords e).1]
    | [] => s.fresh.2.returned [withBits s.fresh.1 31 31 0]))

/-- TS_S_READ: FIO_TS_S is read: the seconds of the oldest entry, which leaves the FIFO. With the FIFO empty nothing is
removed, and the value is open (R318; log 2). -/
def execTsSRead (s : State) : Host.Outcome State Fault Refusal :=
  let n := s.rd FIO_TS_SEL_CH
  .next (s.readAfterBoot (match (s.di n).fifo with
    | e :: rest =>
      let s := s.modDi n fun d => { d with fifo := rest }
      (s.wr (FIO_DI_STAT_TS_CNT n) rest.length).returned [(tsWords e).2]
    | [] => s.fresh.2.returned [s.fresh.1]))

end Sys2Proof.Machine
end

