-- ==== Sys2Proof/Machine/Group.lean ====
section
/-! DEFINITION. Groups (R43, R413 to R420): formation, delays, the common Tally, following the leader's boundaries, group
starts and triggers, and leaving the group. -/
namespace Sys2Proof.Machine

def State.grpRole (s : State) : Nat := s.rd GRP_STAT_ROLE
/-- The bus carries a group of which this module is a member. -/
def State.inGroup (s : State) : Bool := s.grpRole = 1 || s.grpRole = 2
def State.grpId (s : State) : Nat := s.rd GRP_STAT_ID
def State.grpSend (s : State) (f : GrpFrame) : State := s.modGrp fun g => { g with sent := f :: g.sent }

/-- The event GRP with a code and a member's ID, and its journal record. -/
def State.grpEvent (s : State) (code id : Nat) : State :=
  let d := code + 256 * id
  (s.raise 60 d).journalAdd 0x08 0x0011 0 (leBytes 2 d)

/-! ### Formation (R414, R415) -/

/-- This module's own ANNOUNCE. -/
def State.ownAnnounce (s : State) : Announce :=
  let l := s.lane s.active
  { id := s.grpId, leaderEn := s.on GRP_CFG_LEADER_EN, verLo := 1, verHi := 2, n := l.rd ASC_FRAME_CFG_N,
    frameSrc := l.rd ASC_FRAME_CFG_FRAME_SRC, tally := s.mod.tally, atLocal := true }

def State.sendAnnounce (s : State) : State :=
  let a := s.ownAnnounce
  (s.grpSend (.announce a.id a.n a.frameSrc a.tally)).modGrp fun g =>
    { g with annAt := g.annAt.set s.grpId s.now, announced := true, since := (if g.announced then g.since else s.now) }

/-- The formation of a group begins; the module's first ANNOUNCE follows in its slot (R414, R465). -/
def State.startForming (s : State) : State :=
  let s := s.modGrp fun g => { Grp.reset with sent := g.sent, forming := true, since := s.now }
  let s := ((s.wr GRP_STAT_ROLE 0).wr GRP_STAT_CAUSE 0).wr GRP_STAT_ACTIVE 0
  (List.range 8).foldl (fun s k => { s with regs := s.regs.set (GRP_DLY k) 0 }) s

/-- The module is excluded and runs alone (R414). -/
def State.exclude (s : State) (cause : Nat) : State :=
  (((s.wr GRP_STAT_ROLE 3).wr GRP_STAT_CAUSE cause).modGrp fun g => { g with forming := false }).grpEvent 4 s.grpId

/-- The members admitted besides the leader, by rising ID as long as a common version remains, with that range of versions:
equal N and FRAME_SRC, and a common version (R414). -/
def enrol (leader : Announce) (l : List Announce) : List Nat × Nat × Nat :=
  l.foldl (fun (x : List Nat × Nat × Nat) a =>
    let lo := max x.2.1 a.verLo
    let hi := min x.2.2 a.verHi
    if a.id = leader.id then x
    else if a.n ≠ leader.n || a.frameSrc ≠ leader.frameSrc || hi < lo then x
    else (a.id :: x.1, lo, hi)) ([leader.id], leader.verLo, min 2 leader.verHi)

/-- An announced member placed by rising ID, in place of its earlier announcement. -/
def placeMember (a : Announce) : List Announce → List Announce
  | [] => [a]
  | b :: t => if b.id = a.id then a :: t else if a.id < b.id then a :: b :: t else b :: placeMember a t

/-- The roles follow from the members announced: the leader is the lowest ID with LEADER_EN; a member whose N, FRAME_SRC or
version does not fit is excluded (R414). -/
def State.elect (s : State) : State :=
  let own := s.ownAnnounce
  let all := placeMember own s.grp.members
  match all.find? (·.leaderEn) with
  | none => ((s.wr GRP_STAT_ROLE 0).modGrp fun g => { g with forming := false })
  | some leader =>
    let x := enrol leader all
    if own.n ≠ leader.n || own.frameSrc ≠ leader.frameSrc then s.exclude 2
    else if !x.1.contains own.id then s.exclude 3
    else
      let active := (numsWhere 8 fun k => x.1.contains k).foldl (fun a k => a + 2 ^ k) 0
      ((((s.wr GRP_STAT_ROLE (if leader.id = own.id then 1 else 2)).wr GRP_STAT_LEADER_ID leader.id).wr GRP_STAT_ACTIVE
        active).wr GRP_STAT_VER (16 * x.2.2)).modGrp fun g => { g with since := s.now }

/-- Every member expected has announced itself, this module too (R415). -/
def State.allAnnounced (s : State) : Bool :=
  s.grp.announced && (List.range 8).all fun k => !bitAt (s.rd GRP_CFG_MEMBERS) k || k = s.grpId || s.grp.members.any fun a => a.id = k

/-- With the last expected member announced, the roles are taken (R415). -/
def State.tryElect (s : State) : State := if s.grp.forming && s.grpRole = 0 && s.allAnnounced then s.elect else s

/-- ANNOUNCE: a member's frame arrives, or the module sends its own in its slot, where it is of a group or forms one. The
module's own ID from another is a clash; with the last expected member the roles are taken (R414, R415, R420). -/
def execAnnounce (a : Announce) (s : State) : Host.Outcome State Fault Refusal :=
  .next (if a.atLocal then (if s.grp.forming || s.inGroup then s.sendAnnounce.tryElect else s)
    else if a.id = s.grpId then (if s.grp.forming then (s.wr GRP_STAT_ACTIVE 0).exclude 1 else s)
    else
      (s.modGrp fun g => { g with annAt := g.annAt.set a.id s.now, members := placeMember a g.members }).tryElect)

/-- GROUP_WAIT_EXPIRY: WAIT ms from the module's first announcement have passed; the group forms with the members present
(R415, R465). -/
def execGroupWaitExpiry (s : State) : Host.Outcome State Fault Refusal :=
  .next (if s.grp.forming && s.grp.announced && s.grpRole = 0 then (s.passTo (s.grp.since + 400000 * s.rd GRP_CFG_WAIT)).elect else s)

/-- FLL_LOCK_TIMEOUT: a follower's loop is not locked 5 ms after the last announcement (R414). -/
def execFllLockTimeout (s : State) : Host.Outcome State Fault Refusal :=
  .next (if s.grp.forming && s.grpRole = 2 && !s.on CLK_STAT_FLL_LOCK then (s.passTo (s.grp.since + 2000000)).exclude 4 else s)

/-! ### Delays (R416) -/

/-- PING: the module under measurement sends one; any other member answers exactly 1 µs × (k + 1) after its arrival (R416). -/
def execGrpPing (sender : Nat) (s : State) : Host.Outcome State Fault Refusal :=
  .next (if !s.inGroup then s else if sender = s.grpId then s.grpSend (.ping sender)
    else (s.pass (400 * (s.grpId + 1))).grpSend (.echo s.grpId))

/-- GRP_ECHO: an echo of member k with its round trip in fine steps. The mean of 64 one-way delays goes to GRP_DLYk; with all
members measured the module sends DELAYS (R416). -/
def execGrpEcho (k : Nat) (roundTrip : Nat) (s : State) : Host.Outcome State Fault Refusal :=
  let d : Int := (roundTrip : Int) - 12800 * (k + 1 : Nat)
  let mine := (d :: (s.grp.pings.filter fun x => x.1 = k).map (·.2))
  let rest := s.grp.pings.filter fun x => x.1 ≠ k
  .next (if mine.length < 64 then s.modGrp fun g => { g with pings := (k, d) :: g.pings }
    else
      let mean := ((mine.foldl (· + ·) 0 + 64) / 128).toNat
      let s := ((s.modGrp fun g => { g with pings := rest }).wr (GRP_DLY_DLY k) mean).wr (GRP_DLY_VALID k) 1
      if (List.range 8).all fun j => j = s.grpId || !bitAt (s.rd GRP_STAT_ACTIVE) j || s.on (GRP_DLY_VALID j) then
        s.grpSend (.delays s.grpId ((List.range 8).map fun j => s.rd (GRP_DLY_DLY j)))
      else s)

/-- DELAYS: a member's delays enter the shared table (R416). -/
def execGrpDelays (sender : Nat) (dly : List Nat) (s : State) : Host.Outcome State Fault Refusal :=
  .next (s.modGrp fun g => { g with table := g.table.set sender dly })

/-- The delay to a member in ticks, rounded to the nearest. -/
def State.dlyTicks (s : State) (k : Nat) : Nat := (s.rd (GRP_DLY_DLY k) + 16) / 32

/-! ### The common Tally and the boundaries (R43, R419) -/

/-- The common Tally that a leader forms: the largest Tally that a member has announced, its own among them, with bits [31:0]
cleared and 2^32 added (R43). -/
def State.commonTally (s : State) : DWord :=
  let top := (s.grp.members.filter fun a => bitAt (s.rd GRP_STAT_ACTIVE) a.id).foldl
    (fun (t : DWord) a => if t < a.tally then a.tally else t) s.mod.tally
  ((top >>> 32) + 1) <<< 32

/-- TALLY: the leader's frame, which the leader itself forms and sends; the common Tally waits for its start boundary (R43). -/
def execGrpTally (common : BitVec 64) (startBoundary : BitVec 64) (s : State) : Host.Outcome State Fault Refusal :=
  .next (if !s.inGroup then s
    else
      let common := if s.grpRole = 1 then s.commonTally else common
      let s := s.modGrp fun g => { g with startAt := some (common, startBoundary) }
      if s.grpRole = 1 then s.grpSend (.tally common startBoundary) else s)

/-- BOUNDARY: the leader's boundary lay 400 ns and the delay to the leader before the arrival. A difference of up to 4 ticks
from the module's own boundary is removed by the fraction at its next boundary, a larger one by a load; the leader's
increment comes into force there. The first aligned boundary completes the formation (R415, R419). -/
def execGrpBoundary (_tallyLow : Byte) (angle inc : Word) (s : State) : Host.Outcome State Fault Refusal :=
  .next (if s.grpRole ≠ 2 then s
    else
      let l := s.lane s.lead
      let lead : Int := (s.now : Int) - 160 - s.dlyTicks (s.rd GRP_STAT_LEADER_ID)
      let d0 := lead - (l.asc.frameTick : Int)
      let len : Int := max 1 (l.rd ASC_FRAME_LEN_LAST_LEN)
      let d := if len < 2 * d0 then d0 - len else d0
      let s := s.modGrp fun g => { g with lastBoundary := s.mod.tally, leaderInc := some inc }
      if d.natAbs ≤ 4 then
        let s := s.modGrp fun g => { g with adjust := if d = 0 then none else some d, load := none }
        if s.grp.forming && s.grp.adopted then (s.modGrp fun g => { g with forming := false }).grpEvent 1 s.grpId else s
      else s.modGrp fun g => { g with adjust := none, load := some angle })

/-- What the group does to a follower's frame source ahead of a boundary's actions: the leader's increment, and a load that
waits (R419). -/
def State.grpAhead (s : State) : State :=
  if s.grpRole ≠ 2 then s
  else
    let f := (s.lane s.lead).rd ASC_FRAME_STAT_SRC_IN_FORCE
    let s := match s.grp.leaderInc with
      | some w => s.bothLanes fun l => l.modSrc f fun a => { a with written := some w }
      | none => s
    match s.grp.load with
    | none => s
    | some w =>
      let s := s.bothLanes fun l => { l with regs := (l.regs.set (ASC_S_LOAD_VAL f) w).set (ASC_S_LOAD_CTRL f) 0x80000000 }
      ((s.modGrp fun g => { g with load := none }).bumpSat GRP_ALIGN_RELOAD_CNT).grpEvent 5 s.grpId

/-- The common Tally comes into force at its start boundary, as Tally advances; Tally never decreases (R43). -/
def State.grpTally (s : State) : State :=
  match s.grp.startAt with
    | none => s
    | some (common, start) =>
      if start ≤ s.mod.tally then
        let s := s.modGrp fun g => { g with startAt := none, adopted := true, lastBoundary := if s.mod.tally < common then common else s.mod.tally }
        s.modMod fun m => { m with tally := if m.tally < common then common else m.tally }
      else s

/-- What the group does at a boundary after its angles: a follower's fraction adjustment, and the leader's BOUNDARY frame
(R419). -/
def State.grpBoundary (s : State) : State :=
  let f := (s.lane s.lead).rd ASC_FRAME_STAT_SRC_IN_FORCE
  let s := match s.grp.adjust with
    | none => s
    | some d =>
      let s := s.bothLanes fun l =>
        l.modSrc f fun a => a.set (a.acc - BitVec.ofInt 48 (d * l.incOf f))
      ((s.modGrp fun g => { g with adjust := none }).bump GRP_ALIGN_ADJ_CNT).wr GRP_ALIGN_LAST_ADJ (BitVec.ofInt 8 d).toNat
  let s := s.modGrp fun g => { g with left := false }
  if s.grpRole ≠ 1 then s
  else
    let l := s.lane s.lead
    let s := s.grpSend (.boundary (s.mod.tally.toNat % 256) (l.src f).pos (l.regs.get (ASC_S_INC f)))
    if s.grp.forming && s.grp.adopted then (s.modGrp fun g => { g with forming := false }).grpEvent 1 s.grpId else s

/-! ### Starts and triggers (R172, R384) -/

/-- The units of a mask take a start Tally (R172). -/
def State.scheduleStart (s : State) (units : BitVec 4) (at_ : DWord) : State :=
  s.bothLanes fun l => { l with traj := l.traj.mapIdx fun u t => if units.getLsbD u then { t with groupStart := t.groupStart ++ [at_] } else t }

/-- START: the leader's frame schedules the waiting units (R172). -/
def execGrpStart (units : BitVec 4) (tStart : BitVec 64) (s : State) : Host.Outcome State Fault Refusal :=
  .next (if s.grpRole = 2 then s.scheduleStart units tStart else s)

/-- TRIG: a group trigger pulse, placed at its arrival less the delay to its sender; a recorder with GRP_IN that is not ARMED
counts it. Under g1 GRP_IN has no effect (R384, R438). -/
def execGrpTrig (sender : Nat) (s : State) : Host.Outcome State Fault Refusal :=
  .next (if !s.inGroup || s.rd GRP_STAT_VER < 0x20 || sender = s.grpId then s
    else
      [LaneId.a, LaneId.b].foldl (fun s i =>
        let l := s.lane i
        if !l.on REC_CFG_GRP_IN then s
        else if l.recSt ≠ 2 || s.now < l.rec_.armedAt + 4000 * l.rd REC_WIN_PRE + s.dlyTicks sender then
          s.modLane i fun l => l.bumpSat REC_STAT_GRP_IGNORED
        else
          let d := s.dlyTicks sender
          let off := s.frameOff i
          s.recTake i 16 (if d ≤ off then { frac := 0, tick := s.now - d, past := false, tally := s.mod.tally, off := off - d }
            else { frac := 0, tick := s.now - d, past := false, tally := s.mod.tally - 1, off := l.rd ASC_FRAME_LEN_LAST_LEN + off - d })) s)

/-! ### Leaving (R420) -/

/-- A follower leaves the group: it runs alone with its divider and its last increment, and its frame source takes writes
again from the next boundary (R420). -/
def State.leaveGroup (s : State) : State :=
  let leader := s.rd GRP_STAT_LEADER_ID
  let s := s.modGrp fun g => { g with forming := false, left := true, leaderInc := none, adjust := none, load := none, startAt := none }
  (((s.wr GRP_STAT_ROLE 0).wr CLK_STAT_FLL_LOCK 0).wr GRP_STAT_ACTIVE 0).grpEvent 3 leader

/-- GRP_CLK_ABSENT: a follower sees no GRP_CLK for 1 µs (R420). -/
def execGrpClkAbsent (s : State) : Host.Outcome State Fault Refusal := .next (if s.grpRole = 2 then s.leaveGroup else s)

/-- BOUNDARY_MISSING: a follower has had no BOUNDARY for 3 of its frames (R420). -/
def execBoundaryMissing (s : State) : Host.Outcome State Fault Refusal :=
  .next (if s.grpRole = 2 && !s.grp.forming && 3 ≤ (s.mod.tally - s.grp.lastBoundary).toNat then s.leaveGroup else s)

/-- MEMBER_LOST: the leader has had no ANNOUNCE of a follower for 3 ms (R420). -/
def execMemberLost (k : Nat) (s : State) : Host.Outcome State Fault Refusal :=
  .next (if s.grpRole ≠ 1 || k = s.grpId || !s.on ⟨GRP_STAT, 8 + k, 8 + k⟩ then s
    else ((s.passTo (s.grp.annAt.getD k 0 + 1200000)).wr ⟨GRP_STAT, 8 + k, 8 + k⟩ 0).grpEvent 2 k)

end Sys2Proof.Machine
end

