-- ==== Sys2Proof/Machine/EventsCtl.lean ====
section
/-! DEFINITION. The Event and Interrupt Controller (14): claim and complete (R363 to R365), writes of its words (R359 to R362,
R366), moderation timers, the timer, and interrupts while the host sleeps (R370 to R372). -/
namespace Sys2Proof.Machine

/-! ### Sources at their targets -/

/-- The best of some sources for a claim: the highest PRIO, ties to the lower number (R363). -/
def State.bestSource (s : State) (l : List Nat) : Option Nat :=
  l.foldl (fun a n =>
    match a with
    | none => some n
    | some m => if s.rd (EIC_ROUTE_PRIO m) < s.rd (EIC_ROUTE_PRIO n) then some n else a) none

/-- A source is routed to a vector, pending, unmasked and not in service (R363). -/
def State.vecReady (s : State) (v n : Nat) : Bool :=
  s.rd (EIC_ROUTE_TARGET n) = v && s.on (pendBit n) && s.rd (hmaskBit n) = 0 && !s.on (insvcBit n)

/-- A source pends in a lane's share (R357, R358). -/
def State.lanePend (s : State) (i : LaneId) (n : Nat) : Bool :=
  if isLevel n then s.on (levelBit n) else (s.lane i).pend.contains n

/-- A source is routed to a core pair, pending in its lane, unmasked and not in service there (R363). -/
def State.pairReady (s : State) (i : LaneId) (p n : Nat) : Bool :=
  s.rd (EIC_ROUTE_TARGET n) = 32 + p && s.lanePend i n && (s.lane i).rd (pairMaskBit p n) = 0 &&
    !(s.lane i).insvc.any (fun x => x.1 = n)

/-! ### Claim and complete (R363 to R365) -/

/-- A read of a vector's CLAIM register. -/
def State.claimVec (s : State) (v : Nat) : State :=
  match s.bestSource (numsWhere 96 (s.vecReady v)) with
  | none => { s with readData := [0] }
  | some n =>
    let s := s.wr (insvcBit n) 1
    let s := if isLevel n then s else s.wr (pendBit n) 0
    let s := s.modEic fun e => { e with claimed := (n, v) :: e.claimed }
    { s with readData := [BitVec.ofNat 32 (n + 1)] }

/-- A read of a pair's CLAIM register. A claim that finds nothing leaves the pair waiting for an interrupt. -/
def State.claimPair (s : State) (i : LaneId) (p : Nat) : State :=
  match s.bestSource (numsWhere 96 (s.pairReady i p)) with
  | none =>
    { (s.modLane i fun l => { l with pairs := updAt l.pairs p fun x => { x with irq := false, idle := true } }) with
      readData := [0] }
  | some n =>
    { (s.modLane i fun l =>
        { l with insvc := (n, p) :: l.insvc,
                 pend := (if isLevel n then l.pend else l.pend.filter fun m => m ≠ n),
                 pairs := updAt l.pairs p fun x => { x with irq := false } }) with
      readData := [BitVec.ofNat 32 (n + 1)] }

/-- CLAIM: a target takes its best source (R363). -/
def execClaim (t : Target) (s : State) : Host.Outcome State Fault Refusal :=
  .next (match t with
    | .vec v => s.readAfterBoot (s.claimVec v)
    | .pair i p => s.claimPair i p)

/-- A completed source that is still pending is an event at its vector (R360, R364). -/
def State.completeVec (s : State) (v n : Nat) : State :=
  let s := (s.wr (insvcBit n) 0).modEic fun e => { e with claimed := e.claimed.filter fun x => x.1 ≠ n }
  if s.vecReady v n then s.countVec v n else s

/-- A completed source that is still pending is an event at its core pair (R360, R364). -/
def State.completePair (s : State) (i : LaneId) (p n : Nat) : State :=
  let s := s.modLane i fun l => { l with insvc := l.insvc.filter fun x => x.1 ≠ n }
  if s.pairReady i p n then s.modLane i fun l => l.countPair s.now p n else s

/-- COMPLETE: the in-service mark of a source is cleared; an ID not in service for the target is ignored and counted (R364,
R365). -/
def execComplete (t : Target) (id : Nat) (s : State) : Host.Outcome State Fault Refusal :=
  let bad := s.bumpSat EIC_STAT_BAD_COMPLETE
  .next (match id, t with
    | 0, .vec _ => s.afterBoot bad
    | 0, .pair _ _ => bad
    | n + 1, .vec v => s.afterBoot (if s.eic.claimed.contains (n, v) then s.completeVec v n else bad)
    | n + 1, .pair i p => if (s.lane i).insvc.contains (n, p) then s.completePair i p n else bad)

/-! ### Writes of the words (R360, R366) -/

/-- A firmware event in HOLD: both lanes' shares take it, and its occurrence at the host side is withheld for whichever lane
survives (R259, R358). -/
def State.withholdFw (s : State) (n : Nat) : State :=
  let tgt := s.rd (EIC_ROUTE_TARGET n)
  (s.bothLanes fun l => l.occur s.now tgt n).modDuplex fun d =>
    { d with withheld := d.withheld ++ [(.a, .event n 0), (.b, .event n 0)] }

/-- A pending bit written 1 while clear: HOST_EV and FW_EV occur; another edge source pends and counts one event (R366). A
firmware event waits for the end of HOLD (R259). -/
def State.pendOne (s : State) (n : Nat) : State :=
  if 88 ≤ n && n ≤ 91 && s.hold then s.withholdFw n
  else if 84 ≤ n && n ≤ 91 then s.raise n 0
  else
    let tgt := s.rd (EIC_ROUTE_TARGET n)
    ((s.bothLanes fun l => l.occur s.now tgt n).wr (pendBit n) 1).vecEvent n

/-- A pending bit written (R357, R366): a level source keeps its level, and source 95 never pends (R356). -/
def State.pendBitWrite (s : State) (n : Nat) (v : Bool) : State :=
  if isLevel n || n = 95 then s
  else if v then (if s.on (pendBit n) then s else s.pendOne n)
  else (s.bothLanes fun l => { l with pend := l.pend.filter fun m => m ≠ n }).wr (pendBit n) 0

/-- PEND_WRITE: a word of pending bits is written (R366, R367). -/
def execPendWrite (j : Nat) (v : Word) (s : State) : Host.Outcome State Fault Refusal :=
  .next (s.afterBoot ((List.range 32).foldl (fun s b => s.pendBitWrite (32 * j + b) (v.getLsbD b)) s))

/-- EIC_HMASKj written: a pending source whose mask bit is cleared is an event (R360). -/
def State.writeHmask (s : State) (j : Nat) (v : Word) : State :=
  let old := s.regs.get (EIC_HMASK j)
  let s := { s with regs := s.regs.set (EIC_HMASK j) v }
  (List.range 32).foldl (fun s b =>
    let n := 32 * j + b
    let t := s.rd (EIC_ROUTE_TARGET n)
    if old.getLsbD b && !v.getLsbD b && t < 32 && s.vecReady t n then s.countVec t n else s) s

/-- EIC_PAIRp_MASKj written in a lane (R360, R373). -/
def State.writePairMask (s : State) (i : LaneId) (p j : Nat) (v : Word) : State :=
  let old := (s.lane i).regs.get (EIC_PAIR_MASK p j)
  let s := s.modLane i fun l => { l with regs := l.regs.set (EIC_PAIR_MASK p j) v }
  (List.range 32).foldl (fun s b =>
    let n := 32 * j + b
    if old.getLsbD b && !v.getLsbD b && s.pairReady i p n then s.modLane i fun l => l.countPair s.now p n else s) s

/-- A moderation word with CNT and TIME kept where the written ones are 0. -/
def modWord (old v : Word) : Word :=
  let v := if bitsOf v 23 16 = 0 then withBits v 23 16 (bitsOf old 23 16) else v
  let v := if bitsOf v 15 0 = 0 then withBits v 15 0 (bitsOf old 15 0) else v
  withBits v 29 24 0

/-- VEC_IDLE: EIC_VECv_CFG is written; in DIRECT mode VEC_IDLE with counted events sends the message at once (R361). -/
def execVecIdle (v : Nat) (w : Word) (s : State) : Host.Outcome State Fault Refusal :=
  let u : State := { s with regs := s.regs.set (EIC_VEC_CFG v) (modWord (s.regs.get (EIC_VEC_CFG v)) w) }
  .next (s.afterBoot (if w.getLsbD 31 && w.getLsbD 30 && 0 < (u.vec v).count then u.sendVec v else u))

/-- EIC_PAIRp_CFG written in a lane (R373). -/
def State.writePairCfg (s : State) (i : LaneId) (p : Nat) (w : Word) : State :=
  s.modLane i fun l =>
    { l with regs := l.regs.set (EIC_PAIR_CFG p) (withBits (modWord (l.regs.get (EIC_PAIR_CFG p)) w) 30 30 0) }

/-! ### Time (R360, R369) -/

/-- MODERATION_TIMER: TIME µs have passed since the first event after the target's last message (R360). -/
def execModerationTimer (t : Target) (s : State) : Host.Outcome State Fault Refusal :=
  .next (match t with
    | .vec v =>
      (match (s.vec v).since with
        | none => s
        | some t0 => (s.passTo (t0 + 400 * s.rd (EIC_VEC_CFG_TIME v))).sendVec v)
    | .pair i p =>
      (match ((s.lane i).pairs.getD p PairSt.reset).since with
        | none => s
        | some t0 =>
          (s.passTo (t0 + 400 * (s.lane i).rd (EIC_PAIR_CFG_TIME p))).modLane i fun l =>
            { l with pairs := updAt l.pairs p fun _ => { count := 0, since := none, irq := true, idle := false } }))

/-- TIMER_WRITE: EIC_TIMER is written and restarts; a PERIOD of 0 is discarded (R369). -/
def execTimerWrite (v : Word) (s : State) : Host.Outcome State Fault Refusal :=
  let w := withBits v 29 16 0
  let w := if bitsOf w 15 0 = 0 then withBits w 15 0 (s.rd EIC_TIMER_PERIOD) else w
  let u : State := { s with regs := s.regs.set EIC_TIMER w }
  .next (s.afterBoot (u.modEic fun e => { e with timerAt := if w.getLsbD 31 then some s.now else none }))

/-- TIMER: EIC_TIMER expires; with PERIODIC it reloads. It stands still in Shelved (R369). -/
def execEicTimer (s : State) : Host.Outcome State Fault Refusal :=
  .next (match s.eic.timerAt with
    | none => s
    | some t0 =>
      if s.power.shelved then s
      else
        let s := s.passTo (t0 + 400000 * s.rd EIC_TIMER_PERIOD)
        (s.modEic fun e => { e with timerAt := if s.on EIC_TIMER_PERIODIC then some s.now else none }).raise 92 0)

/-! ### The host asleep (R362, R370 to R372) -/

/-- A vector holds a message: its events have reached CNT or TIME, or its target is idle in DIRECT mode (R360, R361). -/
def State.vecDue (s : State) (v : Nat) : Bool :=
  let x := s.vec v
  0 < x.count && (s.rd (EIC_VEC_CFG_CNT v) ≤ x.count ||
    x.since.any (fun t => t + 400 * s.rd (EIC_VEC_CFG_TIME v) ≤ s.now) ||
    (s.on (EIC_VEC_CFG_MODE v) && s.on (EIC_VEC_CFG_VEC_IDLE v)))

/-- A vector with its pending bit set and no longer masked sends its one message (R362). -/
def State.sendHeld (s : State) (v : Nat) : State :=
  if s.eic.pba.getLsbD v && !s.vecMasked v then
    let s := s.wr (EIC_VEC_CFG_VEC_IDLE v) 0
    s.modEic fun e => { e with pba := e.pba &&& ~~~((1 : Word) <<< v), msgs := v :: e.msgs }
  else s

/-- MSIX_UNMASK: host software unmasks a vector, with MSI-X and Bus Master Enable set; a held message goes out (R362). -/
def execMsixUnmask (v : Nat) (s : State) : Host.Outcome State Fault Refusal :=
  let u := s.modEic fun e => { e with msixMask := e.msixMask &&& ~~~((1 : Word) <<< v), msixEn := true, busMaster := true }
  .next (s.afterBoot (if u.eic.d3hot then u else (List.range 32).foldl State.sendHeld u))

/-- D3HOT_ENTRY: the function enters D3hot (R371). -/
def execD3hotEntry (pmeEn : Bool) (s : State) : Host.Outcome State Fault Refusal :=
  .next (s.modEic fun e => { e with d3hot := true, pmeEn := pmeEn, pmeSent := false })

/-- D0_RETURN: the first tick in D0 with Bus Master Enable and MSI-X enabled; held vectors send their messages (R371). -/
def execD0Return (s : State) : Host.Outcome State Fault Refusal :=
  let s := s.modEic fun e => { e with d3hot := false, pmeSent := false, msixEn := true, busMaster := true }
  .next ((List.range 32).foldl (fun s v =>
    let s := s.sendHeld v
    if s.vecDue v then s.sendVec v else s) s)

/-- PRE_SLEEP: every vector that holds counted events sends at once (R372). -/
def execPreSleep (s : State) : Host.Outcome State Fault Refusal :=
  .next (s.afterBoot ((List.range 32).foldl (fun s v => if 0 < (s.vec v).count then s.sendVec v else s) s))

/-- PCIE_LINK_CHANGE: a link speed, width or L1 substate changes (R356). -/
def execPcieLinkChange (st : BitVec 16) (s : State) : Host.Outcome State Fault Refusal :=
  .next ((s.modEic fun e => { e with linkState := st }).raise 94 st.toNat)

end Sys2Proof.Machine
end

