-- ==== Sys2Proof/Machine/GateLink.lean ====
section
/-! DEFINITION. The gate links (08): negotiation (R198 to R201), delay and alignment (R202, R203, R205), telemetry, loss and
retraining (R208), driver faults (R209, R211). -/
namespace Sys2Proof.Machine

/-- A gate link beyond its registers. -/
def State.link (s : State) (n : Nat) : Link := s.gl.links.getD n Link.reset
def State.modLink (s : State) (n : Nat) (f : Link → Link) : State :=
  s.modGl fun g => { g with links := updAt g.links n f }

/-- The state of a link: 0 DOWN, 1 TRAINING, 2 UP_GL1, 3 UP_GL2, 4 FAIL (R198). -/
def State.linkSt (s : State) (n : Nat) : Nat := s.rd (GL_LINK_STAT_STATE n)

/-- A link changes its state, which raises the event GL (R356). -/
def State.setLink (s : State) (n st : Nat) : State :=
  if s.linkSt n = st then s else (s.wr (GL_LINK_STAT_STATE n) st).raise 82 (n + 256 * st)

/-- Negotiation of a link starts with 1 ms of idle (R199). -/
def State.negotiate (s : State) (n : Nat) : State :=
  let s := s.modLink n fun l =>
    { l with since := s.now, phase := 0, reqs := 0, retrain := false, hello := none, pings := [], line := [] }
  (s.wr (GL_LINK_STAT_FAIL_CAUSE n) 0).setLink n 1

/-- The links of a thread negotiate (R199, R201); those of an absent thread never do (R30, R198). -/
def State.negotiateThread (s : State) (t : Nat) : State :=
  if s.present t then (legsOf t).foldl State.negotiate s else s

/-- Every configured thread is OFF. -/
def State.allOff (s : State) : Bool := s.allThreads 0

/-- The latency in ticks that a delay in fine steps needs (R203): 100 ns are 1,280 fine steps. -/
def latOf (d : Nat) : Nat := 40 * ((d + 2560 + 1279) / 1280)

/-- The delay in use of a link that is up (R203). -/
def State.linkDelay (s : State) (n : Nat) : Nat :=
  if s.linkSt n = 2 then s.rd (GL_LINK_CFG_GL1_DELAY n) else s.rd (GL_LINK_DELAY_D_USED n)

/-- The gate-link latency at the end of a negotiation, while every thread is OFF (R203). -/
def State.updLat (s : State) : State :=
  if s.allOff then
    let up := numsWhere 48 fun n => s.linkSt n = 2 || s.linkSt n = 3
    s.wr GL_ALIGN_LAT (max 200 (latOf (up.foldl (fun a n => max a (s.linkDelay n)) 0)))
  else s

/-- A failed negotiation or retraining: FAIL with its cause, and the journal record with the driver's HELLO (R199, R200). The
end of a negotiation sets the latency, that of a retraining leaves it (R203, R208). -/
def State.linkFail (s : State) (n cause : Nat) : State :=
  let h := match (s.link n).hello with
    | some h => [1] ++ leBytes 2 h.hi.toNat ++ leBytes 2 h.lo.toNat ++ leBytes 1 h.sw ++ leBytes 2 h.type.toNat
    | none => [0]
  let s := (s.wr (GL_LINK_STAT_FAIL_CAUSE n) cause).setLink n 4
  let s := s.journalAdd 0x05 cause 0 ([BitVec.ofNat 8 n, BitVec.ofNat 8 cause] ++ h)
  if (s.link n).retrain then s else s.updLat

/-- The switch count of a leg type (R199). -/
def swCount (type : Nat) : Nat := match type with | 0 => 2 | 3 => 6 | _ => 4

/-- A negotiated link comes up with its delay, or fails where the delay is above 2 µs or does not fit the latency in force
(R199, R203). The line of a GL/1 link, whose leg is OFF, carries the toggle pattern (R210). -/
def State.linkUp (s : State) (n st d : Nat) : State :=
  if 25600 < d || (!s.allOff && s.rd GL_ALIGN_LAT < latOf d) then s.linkFail n 5
  else
    let s := (s.wr (GL_LINK_DELAY_D_USED n) d).wr (GL_LINK_DELAY_D_NOW n) d
    ((s.modLink n fun l =>
      { l with tlmAt := s.now, line := if st = 2 then [(32 * (s.now : Int), .toggle)] else [] }).setLink n st).updLat

/-- A SYNC frame carries the tick at which it reaches the driver (R204, R205). -/
def State.sendSync (s : State) (n : Nat) : State :=
  s.glSend n 0x10 (leBytes 4 (s.now + s.rd (GL_LINK_DELAY_D_USED n) / 32))

/-- A HELLO_REQ frame (R204). -/
def State.sendHelloReq (s : State) (n : Nat) : State :=
  (s.modLink n fun l => { l with reqs := l.reqs + 1 }).glSend n 0x01 [2, 1, BitVec.ofNat 8 n]

/-- CONFIG with the version, the switch count and the telemetry interval, and the SYNC after it (R199, R205, R208). -/
def State.sendConfig (s : State) (n ver sw : Nat) : State :=
  (s.glSend n 0x02 ([ver / 256, ver % 256, sw, 10].map (BitVec.ofNat 8))).sendSync n

/-- The highest version of the Sluice's range 2.0 to 2.1 in a driver's range (R199). -/
def commonVer (hi lo : BitVec 16) : Option Nat :=
  let v := min hi.toNat 0x0201
  if max lo.toNat 0x0200 ≤ v then some v else none

/-! ### Negotiation (R199) -/

/-- NEGOTIATION_IDLE_END: 1 ms of idle has passed and the first HELLO_REQ goes out (R199). -/
def execNegotiationIdleEnd (n : Nat) (s : State) : Host.Outcome State Fault Refusal :=
  .next (if s.linkSt n = 1 && (s.link n).phase = 0 then
      let s := s.passTo ((s.link n).since + 400000)
      (s.modLink n fun l => { l with phase := 1, since := s.now }).sendHelloReq n
    else s)

/-- HELLO_REQ_RESEND: without a HELLO the request is repeated every 100 µs, for 2 ms (R199). -/
def execHelloReqResend (n : Nat) (s : State) : Host.Outcome State Fault Refusal :=
  let l := s.link n
  .next (if s.linkSt n = 1 && l.phase = 1 && l.reqs < 20 then (s.passTo (l.since + 40000 * l.reqs)).sendHelloReq n else s)

/-- A frame from the driver with a bad CRC or length is discarded and counted, in negotiation as in running (R204). -/
def State.badFrame (s : State) (n : Nat) : State :=
  if s.linkSt n = 1 || s.linkSt n = 3 then s.bump (GL_LINK_ERR_CRC_ERR n) else s

/-- HELLO: the driver answers. The version and the switch count are checked, CONFIG goes out, and the delay is measured; a
retraining link returns to its UP state at once (R199, R208). A bad frame is discarded and counted (R204). -/
def execGlHello (rx : GlRx) (hi lo : BitVec 16) (sw : Nat) (type : BitVec 16) (s : State) :
    Host.Outcome State Fault Refusal :=
  let n := rx.link
  let l := s.link n
  .next (if !rx.crcOk then s.badFrame n
    else if s.linkSt n = 1 && l.phase = 1 then
      let h : Hello := { hi := hi, lo := lo, sw := sw, type := type }
      if l.retrain then
        let same := fun (f : Hello → Nat) => l.hello.map f = some (f h)
        let ver := s.rd (GL_LINK_STAT_VER n)
        let s' := s.modLink n fun l => { l with hello := some h }
        if !(same (fun h => h.hi.toNat) && same fun h => h.lo.toNat) then s'.linkFail n 2
        else if !(same fun h => h.sw) then s'.linkFail n 3
        else
          ((s.modLink n fun l => { l with retrain := false, tlmAt := s.now }).sendConfig n (ver / 16 * 256 + ver % 16) sw).setLink n 3
      else
        let s := s.modLink n fun l => { l with hello := some h }
        match commonVer hi lo with
        | none => s.linkFail n 2
        | some v =>
          if sw ≠ swCount (s.legType n) then s.linkFail n 3
          else
            let s := (s.wr (GL_LINK_STAT_VER n) (v / 256 * 16 + v % 16)).wr (GL_LINK_STAT_SW_CNT n) sw
            (s.modLink n fun l => { l with phase := 2, pings := [] }).sendConfig n v sw
    else s)

/-- HELLO_TIMEOUT: no HELLO within 2 ms. A two-level leg that allows it runs GL/1; every other link fails (R199). A
retraining link without an answer fails. -/
def execHelloTimeout (n : Nat) (s : State) : Host.Outcome State Fault Refusal :=
  let l := s.link n
  .next (if s.linkSt n = 1 && l.phase = 1 then
      let s := s.passTo (l.since + 800000)
      if l.retrain || !s.on (GL_LINK_CFG_ALLOW_GL1 n) then s.linkFail n 1
      else if s.legType n ≠ 0 then s.linkFail n 4
      else s.linkUp n 2 (s.rd (GL_LINK_CFG_GL1_DELAY n))
    else s)

/-! ### Delay (R202, R203) -/

/-- The one-way delay in fine steps from the mean of some round trips, to the nearest: (round trip − 800 ns) / 2 (R202). -/
def pingDelay (pings : List Nat) : Nat :=
  let n := pings.length
  let sum := pings.foldl (· + ·) 0
  if n = 0 then 0 else ((sum - 10240 * n) + n) / (2 * n)

/-- ECHO: a ping of the negotiation returns (R202). -/
def execGlEcho (n : Nat) (roundTrip : Nat) (s : State) : Host.Outcome State Fault Refusal :=
  .next (if s.linkSt n = 1 && (s.link n).phase = 2 then
      s.modLink n fun l => { l with pings := (l.pings ++ [roundTrip]).take 64 }
    else s)

/-- DELAY_MEASURED: the 64 pings of a negotiation have ended; the link comes up, or fails without a valid echo (R199, R202,
R203). -/
def execDelayMeasured (n : Nat) (s : State) : Host.Outcome State Fault Refusal :=
  .next (if s.linkSt n = 1 && (s.link n).phase = 2 then
      if (s.link n).pings.isEmpty then s.linkFail n 5 else s.linkUp n 3 (pingDelay (s.link n).pings)
    else s)

/-- PING_PERIODIC: a ping of a running link returns and D_NOW follows; 2 ns are 25.6 fine steps (R202). -/
def execPingPeriodic (n : Nat) (roundTrip : Nat) (s : State) : Host.Outcome State Fault Refusal :=
  .next (if s.linkSt n = 3 then
      let ps := (s.link n).pings ++ [roundTrip]
      let ps := ps.drop (ps.length - 64)
      let s := (s.modLink n fun l => { l with pings := ps }).wr (GL_LINK_DELAY_D_NOW n) (pingDelay ps)
      let used := s.rd (GL_LINK_DELAY_D_USED n)
      let now := s.rd (GL_LINK_DELAY_D_NOW n)
      if (used + 25 < now || now + 25 < used) && !s.on (GL_LINK_STAT_DRIFT n) then
        (s.wr (GL_LINK_STAT_DRIFT n) 1).cause 0x41 3 (.link n) n (some n) true
      else s
    else s)

/-- GL_SYNC_SEND: a SYNC goes out on a GL/2 link (R205). -/
def execGlSyncSend (n : Nat) (s : State) : Host.Outcome State Fault Refusal :=
  .next (if s.linkSt n = 3 then s.sendSync n else s)

/-! ### Telemetry and loss (R208) -/

/-- The telemetry interval in ticks: 10 µs, and 1 ms in Slack (R208). -/
def State.tlmInterval (s : State) : Nat := if s.rd PWR_STAT_STATE = 2 then 400000 else 4000

/-- A flag byte of the telemetry reports a cause or no longer does (R232). -/
def State.tlmFlag (s : State) (n code : Nat) (on : Bool) : State :=
  let was := (s.link n).faultActive.contains code
  if on && !was then
    let s := s.modLink n fun l => { l with faultActive := code :: l.faultActive }
    if s.causeActive code n then s else s.legCause code n n (code = 1)
  else if !on && was then
    (s.modLink n fun l => { l with faultActive := l.faultActive.filter (· ≠ code) }).causeEnd code n
  else s

/-- TLM: a telemetry frame. A bad one is discarded and counted; a valid one is stored, its flags hold causes active, and a
link loss ends (R204, R208, R232). -/
def execGlTlm (n : Nat) (crcOk : Bool) (bytes : List Byte) (s : State) : Host.Outcome State Fault Refusal :=
  .next (if !crcOk || bytes.length ≠ 16 then s.badFrame n
    else if s.linkSt n ≠ 3 then s
    else
      let sws := legSwitches (s.legType n)
      let least := fun (base : Nat) => sws.foldl (fun a k => min a (bytes.getD (base + k) 0).toNat) 255
      let s := s.modLink n fun l => { l with tlmAt := s.now }
      let s := s.wr (GL_LINK_TLM0_TLM0 n) (ofLe (bytes.take 4))
      let s := (s.wr (GL_LINK_TLM1_VCC_MIN n) (least 4)).wr (GL_LINK_TLM1_VEE_MIN n) (least 10)
      let s := if (bytes.getD 2 0).getLsbD 0 then s.bump (GL_LINK_TLM1_LATE_CNT n) else s
      ((s.causeEnd 0x0C n).tlmFlag n 1 (bytes.getD 0 0 ≠ 0)).tlmFlag n 2 (bytes.getD 1 0 ≠ 0))

/-- The loss of a link blocks its thread (R208). -/
def State.linkLoss (s : State) (n : Nat) : State :=
  if s.causeActive 0x0C n then s else s.cause 0x0C 1 (.thread (n / 6)) n (some n) true

/-- TLM_TIMEOUT: no valid TLM for three intervals (R208). -/
def execTlmTimeout (n : Nat) (s : State) : Host.Outcome State Fault Refusal :=
  .next (if s.linkSt n = 3 then (s.passTo ((s.link n).tlmAt + 3 * s.tlmInterval)).linkLoss n else s)

/-- ALIGNMENT_LOSS: the receive side has lost character alignment for 400 ns; the link retrains (R208). -/
def execAlignmentLoss (n : Nat) (s : State) : Host.Outcome State Fault Refusal :=
  .next (if s.linkSt n = 3 || (s.linkSt n = 1 && (s.link n).retrain) then
      ((s.modLink n fun l => { l with phase := 3, retrain := true, reqs := 0, since := s.now }).setLink n 1).linkLoss n
    else s)

/-- CHARACTERS_RETURN: valid characters are back, and 1 ms of idle follows (R208). -/
def execCharactersReturn (n : Nat) (s : State) : Host.Outcome State Fault Refusal :=
  .next (if s.linkSt n = 1 && (s.link n).phase = 3 then s.modLink n fun l => { l with phase := 0, reqs := 0, since := s.now }
    else s)

/-! ### Driver faults (R209, R211, R235) -/

/-- The cause of a fault symbol (R209). -/
def faultCode (d : Byte) : Nat := match d.toNat / 64 with | 0 => 0x01 | 1 => 0x02 | 2 => 0x03 | _ => 0x13

/-- FAULT: a fault triple of a GL/2 driver. A frame it interrupts is discarded and counted in ABORT. Where D and its
complement agree, the cause is raised and FAULT_ACK goes out, after which the symbols cease (R209, R232, R235). -/
def execGlFault (n : Nat) (d compl : Byte) (inFrame : Bool) (s : State) : Host.Outcome State Fault Refusal :=
  .next (if s.linkSt n ≠ 3 then s
    else
      let s := if inFrame then s.bump (GL_LINK_ERR_ABORT n) else s
      if compl ≠ ~~~d then s
      else
        let code := faultCode d
        let s := if s.causeActive code n then s else s.legCause code n n (code = 1)
        let s := s.glSend n 0x12 [d &&& 0x3F]
        if (s.link n).faultActive.contains code then s else s.causeEnd code n)

/-- GL1_FAULT: the receive line of a GL/1 link has been low for 100 ns, which is desaturation of the leg, or is high again
(R211, R232). -/
def execGl1Fault (n : Nat) (low : Bool) (s : State) : Host.Outcome State Fault Refusal :=
  .next (if s.linkSt n ≠ 2 then s
    else if low then (if s.causeActive 0x01 n then s else s.legCause 0x01 n n true)
    else s.causeEnd 0x01 n)

end Sys2Proof.Machine
end

