-- ==== Sys2Proof/Machine/Descriptor.lean ====
section
/-! DEFINITION. The 64 bytes of a descriptor (R332, R336) as a header and a command: the common header and the body of each
opcode, little-endian (R6). Every bit of the body that the opcode's table gives no field is reserved. -/
namespace Sys2Proof.Machine

/-! ### Fields -/

/-- The number that n bytes of a descriptor hold from a place on. -/
def fieldAt (bs : List Byte) (at_ n : Nat) : Nat := ofLe ((bs.drop at_).take n)

/-- The 32-bit word at a place. -/
def wordAt (bs : List Byte) (at_ : Nat) : Word := BitVec.ofNat 32 (fieldAt bs at_ 4)

/-- The 64-bit word at a place. -/
def dwordAt (bs : List Byte) (at_ : Nat) : DWord := BitVec.ofNat 64 (fieldAt bs at_ 8)

/-- The header of a descriptor read on a queue (R336); `rsvd` is the body's. -/
def hdrAt (sq : Nat) (bs : List Byte) (rsvd : Bool) : Hdr :=
  { sq := sq, cmdId := BitVec.ofNat 16 (fieldAt bs 2 2), group := bitAt (fieldAt bs 1 1) 0, last := bitAt (fieldAt bs 1 1) 1,
    commitId := wordAt bs 4, dataAddr := dwordAt bs 8, rsvd := rsvd || 4 ≤ fieldAt bs 1 1, data := .none }

/-! ### Reserved bits (R336) -/

/-- The fields of an opcode's body: bytes from one place to another, each with the bits that a field holds (R165, R241, R265, R320, R340,
R386, R387, R391, R407, R426, R430). -/
def bodyFields : Nat → List (Nat × Nat × Byte)
  | 0x02 => [(16, 56, 0xFF)]
  | 0x03 => [(16, 17, 0xFF), (18, 18, 0xC0), (19, 51, 0xFF)]
  | 0x04 => [(16, 16, 0x0F)]
  | 0x05 => [(16, 17, 0xFF), (19, 19, 0xFF)]
  | 0x06 => [(19, 19, 0xFF)]
  | 0x07 => [(19, 19, 0xFF)]
  | 0x08 => [(16, 16, 0xFF), (20, 63, 0xFF)]
  | 0x09 => [(16, 17, 0xFF), (20, 23, 0xFF)]
  | 0x0A => [(16, 18, 0xFF), (20, 63, 0xFF)]
  | 0x0B => [(16, 35, 0xFF), (36, 36, 0x01)]
  | 0x0C => [(16, 19, 0xFF)]
  | 0x0D => [(16, 19, 0xFF), (32, 63, 0xFF)]
  | 0x10 => [(16, 19, 0xFF)]
  | 0x11 => [(16, 35, 0xFF), (36, 36, 0x03), (37, 37, 0xFF)]
  | 0x12 => [(16, 21, 0xFF), (24, 27, 0xFF)]
  | 0x13 => [(16, 19, 0xFF)]
  | 0x14 => [(16, 16, 0x01), (18, 18, 0x0F), (19, 19, 0xFF)]
  | 0x15 => [(16, 48, 0xFF), (52, 55, 0xFF)]
  | 0x16 => [(16, 16, 0xFF), (24, 35, 0xFF)]
  | 0x17 => [(16, 16, 0x0F), (24, 31, 0xFF)]
  | 0x18 => [(19, 19, 0x8F)]
  | 0x19 => [(16, 17, 0xFF), (20, 23, 0xFF)]
  | 0x1A => [(16, 19, 0xFF)]
  | _ => []

/-- The bits of a body byte that fields hold. -/
def fieldBits (fs : List (Nat × Nat × Byte)) (k : Nat) : Byte :=
  fs.foldl (fun a f => if f.1 ≤ k && k ≤ f.2.1 then a ||| f.2.2 else a) 0

/-- Some reserved bit of a body is set. -/
def bodyRsvd (bs : List Byte) : Bool :=
  (List.range 48).any fun k => bs.getD (16 + k) 0 &&& ~~~fieldBits (bodyFields (fieldAt bs 0 1)) (16 + k) ≠ 0

/-! ### Bodies -/

/-- The words of a data buffer, padded to a count. -/
def bufWords (buf : DataBuf) (n : Nat) : List Word :=
  match buf with
  | .words ws => padTo n 0 ws
  | _ => List.replicate n 0

/-- The words from a place on. -/
def wordsAt (bs : List Byte) (at_ n : Nat) : List Word := (List.range n).map fun k => wordAt bs (at_ + 4 * k)

/-- Words in pairs: a register offset and its value. -/
def pairsOf : List Word → List (Nat × Word)
  | a :: b :: t => (a.toNat, b) :: pairsOf t
  | _ => []

/-- Words in fours: schedule entries, whose word 3 is ignored (R341). -/
def entriesOf : List Word → List EntryWords
  | a :: b :: c :: _ :: t => { w0 := a, w1 := b, w2 := c } :: entriesOf t
  | _ => []

/-- WRITE_REGS: COUNT inline pairs, or with COUNT = 0 NPAIRS pairs of the buffer. A COUNT above the five that fit is kept as
that many pairs, and an NPAIRS above 8,192 as 8,193: both are RANGE (R340). -/
def regsAt (bs : List Byte) (buf : DataBuf) : HostCmd :=
  match fieldAt bs 16 1 with
  | 0 => .writeRegs true (pairsOf (bufWords buf (2 * min 8193 (fieldAt bs 20 4))))
  | n => .writeRegs false (pairsOf (padTo (2 * n) 0 (wordsAt bs 24 10)))

/-- LOAD_COEFF: COUNT words, inline without a buffer (R340). -/
def coeffAt (bs : List Byte) (buf : DataBuf) : HostCmd :=
  let n := fieldAt bs 22 2
  .loadCoeff (fieldAt bs 16 2) (fieldAt bs 18 1) (fieldAt bs 20 2)
    (if dwordAt bs 8 = 0 then padTo n 0 (wordsAt bs 24 10) else bufWords buf n)

/-- SCHED_WRITE: COUNT entries, inline without a buffer (R340). A COUNT above 4,096 is kept as 4,097, which is RANGE. -/
def schedAt (bs : List Byte) (buf : DataBuf) : HostCmd :=
  let n := 4 * min 4097 (fieldAt bs 18 2)
  .schedWrite (fieldAt bs 16 2) (entriesOf (if dwordAt bs 8 = 0 then padTo n 0 (wordsAt bs 32 8) else bufWords buf n))

/-- The image of a LOAD_PROGRAM; its own length must be IMG_LEN (R117 cause 0x0B). -/
def imageAt (bs : List Byte) (buf : DataBuf) : Image :=
  let n := fieldAt bs 16 4
  match buf with
  | .image img => { img with imgLen := n, readable := img.readable && img.imgLen = n }
  | _ => { imgLen := n, readable := false, prog := [], descs := [], binds := [], data := [], library := false }

/-- The package of an FW_STAGE; its own length must be that of the descriptor (R422, R426). -/
def packageAt (bs : List Byte) (buf : DataBuf) : Package :=
  let n := fieldAt bs 20 4
  match buf with
  | .package p => { p with len := n - 8672, layoutOk := p.layoutOk && n = 8672 + p.len }
  | _ =>
    { layoutOk := false, type := 0, verMaj := 0, verMin := 0, svn := 0, device := 0, len := n - 8672, hash := 0, keyIdx := 0,
      keyUsage := 0, rootOk := false, keySigOk := false, pkgSigOk := false, hashOk := false, content := .scrap }

/-- The segment body (R165). -/
def segAt (bs : List Byte) : SegBody :=
  let w := wordAt bs 16
  { unit := w.extractLsb' 30 2, axmask := w.extractLsb' 24 6, rel := w.getLsbD 23, grp := w.getLsbD 22, tag := w.extractLsb' 0 16,
    blend := (wordAt bs 20).extractLsb' 16 16, rateScale := (wordAt bs 20).extractLsb' 0 16, tMin := wordAt bs 24,
    targets := wordsAt bs 28 6 }

/-- The injection body (R387). -/
def injAt (bs : List Byte) : InjBody :=
  { node := fieldAt bs 16 1, kind := fieldAt bs 17 1, order := fieldAt bs 18 1, hold := fieldAt bs 19 1, amp := wordAt bs 20,
    frames := wordAt bs 24, f0 := wordAt bs 28, f1 := wordAt bs 32, log := bitAt (fieldAt bs 36 1) 0,
    trace := bitAt (fieldAt bs 36 1) 1, thrMask := bs.getD 37 0 }

/-- The used pairs of a SET_SETPOINT (R340). -/
def setpointsAt (bs : List Byte) : List (Nat × Nat × Word) :=
  (numsWhere 8 fun n => (bs.getD 56 0).getLsbD n).map fun n => (n, fieldAt bs (16 + n) 1, wordAt bs (24 + 4 * n))

/-- The command of a descriptor (R339, R340). -/
def cmdAt (bs : List Byte) (buf : DataBuf) : HostCmd :=
  match fieldAt bs 0 1 with
  | 0x01 => .nop
  | 0x02 => .setSetpoint (setpointsAt bs)
  | 0x03 => .trajSegment (segAt bs)
  | 0x04 => .trajStop ((bs.getD 16 0).extractLsb' 0 4)
  | 0x05 => .setMode (bs.getD 19 0) (BitVec.ofNat 16 (fieldAt bs 16 2))
  | 0x06 => .arm (bs.getD 19 0)
  | 0x07 => .disarm (bs.getD 19 0)
  | 0x08 => regsAt bs buf
  | 0x09 => .readSnapshot (fieldAt bs 16 1) (fieldAt bs 17 1) (fieldAt bs 20 4)
  | 0x0A => coeffAt bs buf
  | 0x0B => .swapBank (numsWhere 160 fun c => bitAt (fieldAt bs (16 + c / 8) 1) (c % 8)) (bitAt (fieldAt bs 36 1) 0)
  | 0x0C => .loadProgram (imageAt bs buf)
  | 0x0D => schedAt bs buf
  | 0x0E => .recArm
  | 0x0F => .recStop
  | 0x10 => .rakeStart (wordAt bs 16)
  | 0x11 => .injectStart (injAt bs)
  | 0x12 => .journalRead (wordAt bs 16) (fieldAt bs 20 2) (fieldAt bs 24 4)
  | 0x13 => .ioWrite (BitVec.ofNat 16 (fieldAt bs 18 2)) (BitVec.ofNat 16 (fieldAt bs 16 2))
  | 0x14 => .clearFault (bs.getD 19 0) ((bs.getD 18 0).extractLsb' 0 4) (bitAt (fieldAt bs 16 1) 0)
  | 0x15 => .attest ((List.range 32).map fun k => bs.getD (16 + k) 0) (fieldAt bs 48 1) (fieldAt bs 52 4)
  | 0x16 => .timeAdjust (fieldAt bs 16 1) (dwordAt bs 24) (wordAt bs 32)
  | 0x17 => .groupStart ((bs.getD 16 0).extractLsb' 0 4) (dwordAt bs 24)
  | 0x18 => .laneControl (if bitAt (fieldAt bs 19 1) 7 then .b else .a) (fieldAt bs 19 1 % 16)
  | 0x19 => .fwStage (fieldAt bs 16 1) (fieldAt bs 17 1) (packageAt bs buf)
  | 0x1A => .lockoutReset (wordAt bs 16)
  | op => .bad (BitVec.ofNat 8 op)

/-- A descriptor of a queue as its header and its command. -/
def descAt (sq : Nat) (bs : List Byte) (buf : DataBuf) : Hdr × HostCmd := (hdrAt sq bs (bodyRsvd bs), cmdAt bs buf)

/-! ### Completions and stream entries (R337, R349) -/

/-- A completion as its 16 bytes (R337). The number of a network port's queue does not fit its field and is 0. -/
def Completion.bytes (x : Completion) : List Byte :=
  leBytes 8 x.tally.toNat ++ leBytes 2 x.cmdId.toNat ++ leBytes 1 x.status ++ leBytes 1 x.opcode ++ leBytes 2 x.sqHead ++
    leBytes 1 (if 16 ≤ x.sq then 0 else x.sq) ++ leBytes 1 (128 * b2n x.phase + x.detail)

/-- A stream entry as it is written back in 16 bytes, with the address that was posted (R349). -/
def StrEntry.bytes (x : StrEntry) (addr : DWord) : List Byte :=
  leBytes 8 addr.toNat ++ leBytes 4 x.used ++ leBytes 2 x.recs ++ leBytes 1 (b2n x.gap + 2 * b2n x.flushed + 4 * b2n x.bad) ++
    leBytes 1 (128 * b2n x.phase)

end Sys2Proof.Machine
end

