-- ==== Sys2Proof/Machine/Rings.lean ====
section
/-! DEFINITION. Rings (13): queue enables and doorbells (R332, R333), the version of the interface (R353), completions
(R337, R338), and stream rings (R349 to R351). -/
namespace Sys2Proof.Machine

/-! ### Version (R353) -/

/-- The descriptor format version in force for a command of an SQ: that of the HOST port, or of its transaction. -/
def State.version (s : State) : Nat × Nat := (s.rd HQ_IF_STAT_MAJ, s.rd HQ_IF_STAT_MIN)

/-- A version contains what version k of a major adds (R353). -/
def verHas (v : Nat × Nat) (major k : Nat) : Bool := major < v.1 || (v.1 = major && k ≤ v.2)

/-- Some queue or stream ring is enabled. -/
def State.anyQueue (s : State) : Bool :=
  (List.range 16).any (fun q => s.on (HQ_SQ_CFG_EN q) || s.on (HQ_CQ_CFG_EN q)) ||
    (List.range 4).any fun r => s.on (HQ_STR_CFG_EN r)

/-- A version, lexicographically below another. -/
def verLt (a b : Nat × Nat) : Bool := a.1 < b.1 || (a.1 = b.1 && a.2 < b.2)

/-- The applied version of a negotiation, where there is one (R353). -/
def negotiated (lo hi : Nat × Nat) : Option (Nat × Nat) :=
  let own : Nat × Nat := if 2 ≤ hi.1 then (2, 3) else (1, 4)
  let v := if verLt hi own then hi else own
  if verLt v lo || v.1 = 0 then none else some v

/-- IF_EN: HQ_CFG is written (R344, R353). While a queue is enabled IF_EN keeps its value; a GROUP_TIMEOUT of 0 is
discarded. -/
def execIfEn (v : Word) (s : State) : Host.Outcome State Fault Refusal :=
  let u := if bitsOf v 15 0 = 0 then s else s.wr HQ_CFG_GROUP_TIMEOUT (bitsOf v 15 0)
  .next (s.afterBoot (if u.anyQueue then u
    else if bitsOf v 31 31 = 0 then u.wr HQ_CFG_IF_EN 0
    else
      match negotiated (u.rd HQ_IF_HOST_LO_MAJ, u.rd HQ_IF_HOST_LO_MIN) (u.rd HQ_IF_HOST_HI_MAJ, u.rd HQ_IF_HOST_HI_MIN) with
      | none => (u.wr HQ_CFG_IF_EN 0).wr HQ_IF_STAT_NO_COMMON 1
      | some x =>
        let off := (numsWhere 8 fun k => x.2 < k && k ≤ (if x.1 = 1 then 4 else 3)).foldl (fun a k => a + 2 ^ k) 0
        ((((u.wr HQ_CFG_IF_EN 1).wr HQ_IF_STAT_NO_COMMON 0).wr HQ_IF_STAT_MAJ x.1).wr HQ_IF_STAT_MIN x.2).wr
          HQ_IF_STAT_FEAT_OFF off))

/-! ### Queue enables (R332, R349) -/

def cfgOff : QueueKind → Nat → Nat
  | .sq, q => HQ_SQ_CFG q
  | .cq, q => HQ_CQ_CFG q
  | .str, r => HQ_STR_CFG r

/-- The queue may be enabled by the version in force (R332, R353). -/
def State.mayEnable (s : State) (kind : QueueKind) (q : Nat) (w : Word) : Bool :=
  s.on HQ_CFG_IF_EN &&
    match kind with
    | .sq => (q < 8 || 2 ≤ s.rd HQ_IF_STAT_MAJ) && s.on (HQ_CQ_CFG_EN (bitsOf w 27 24))
    | .cq => q < 8 || 2 ≤ s.rd HQ_IF_STAT_MAJ
    | .str => q < 3 || verHas s.version 1 4

/-- Enabling sets the pointers to 0 and the phase to 1; a CQ's or ring's events go to its VEC (R332, R349). -/
def State.enableQueue (s : State) (kind : QueueKind) (q : Nat) : State :=
  match kind with
  | .sq => (s.wr (HQ_SQ_STAT_HEAD q) 0).modHost fun h => { h with sqTail := h.sqTail.set q 0 }
  | .cq =>
    let s := ((s.wr (HQ_CQ_STAT_TAIL q) 0).wr (HQ_CQ_STAT_PHASE q) 1).modHost fun h => { h with cqHead := h.cqHead.set q 0 }
    (s.wr (EIC_ROUTE_TARGET q) (s.rd (HQ_CQ_CFG_VEC q))).levelOff q
  | .str =>
    let s := ((s.wr (HQ_STR_STAT_HEAD q) 0).wr (HQ_STR_STAT_PHASE q) 1).modHost fun h =>
      { h with rings := updAt h.rings q fun x => { x with tail := 0, posted := [], open_ := none } }
    s.wr (EIC_ROUTE_TARGET (16 + q)) (s.rd (HQ_STR_CFG_VEC q))

/-- A disabled queue is no longer in FAULT (R333); a disabled CQ holds nothing that pends. -/
def State.disableQueue (s : State) (kind : QueueKind) (q : Nat) : State :=
  match kind with
  | .sq => (s.wr (HQ_SQ_STAT_FAULT q) 0).wr (HQ_SQ_STAT_CAUSE q) 0
  | .cq => ((s.wr (HQ_CQ_STAT_FAULT q) 0).wr (HQ_CQ_STAT_CAUSE q) 0).levelOff q
  | .str => s

/-- QUEUE_ENABLE: HQ_SQq_CFG, HQ_CQq_CFG or HQ_STRr_CFG is written (R332). A write that changes another field of an enabled
queue is discarded, a DEPTH outside 4 to 12 keeps the old one, and so does a FLUSH of 0. -/
def execQueueEnable (kind : QueueKind) (q : Nat) (v : Word) (s : State) : Host.Outcome State Fault Refusal :=
  let off := cfgOff kind q
  let old := s.regs.get off
  let mask : Word := match kind with | .sq => 0x0FFFC00F | .cq => 0x001F000F | .str => 0x001FFF0F
  let w := v &&& (mask ||| 0x80000000)
  let w := if bitsOf w 3 0 < 4 || 12 < bitsOf w 3 0 then withBits w 3 0 (bitsOf old 3 0) else w
  let w := match kind with
    | .str => if bitsOf w 15 8 = 0 then withBits w 15 8 (bitsOf old 15 8) else w
    | _ => w
  let was := bitsOf old 31 31 = 1
  let on := bitsOf w 31 31 = 1
  .next (s.afterBoot (if was && (v &&& mask) != (old &&& mask) then s
    else
      let ok := was || !on || s.mayEnable kind q w
      let s := { s with regs := s.regs.set off (if ok then w else withBits w 31 31 0) }
      if on && !was && ok then s.enableQueue kind q
      else if was && !on then s.disableQueue kind q
      else s))

/-! ### Doorbells (R333) -/

/-- A queue enters FAULT with its event: cause 1 DB_RANGE, 2 DMA. -/
def State.queueFault (s : State) (kind : QueueKind) (q cause : Nat) : State :=
  match kind with
  | .sq => ((s.wr (HQ_SQ_STAT_FAULT q) 1).wr (HQ_SQ_STAT_CAUSE q) cause).raise 23 q
  | .cq => ((s.wr (HQ_CQ_STAT_FAULT q) 1).wr (HQ_CQ_STAT_CAUSE q) cause).raise 23 (16 + q)
  | .str => s

/-- The steps from one pointer of a queue of 2^depth entries to another. -/
def ringDist (depth a b : Nat) : Nat := (b + 2 ^ depth - a % 2 ^ depth) % 2 ^ depth

/-- SQ_TAIL: a submission queue's tail advances (R333). -/
def execSqTail (q : Nat) (v : Nat) (s : State) : Host.Outcome State Fault Refusal :=
  let depth := s.rd (HQ_SQ_CFG_DEPTH q)
  let tail := s.host.sqTail.getD q 0
  .next (s.afterBoot (if !s.on (HQ_SQ_CFG_EN q) || s.on (HQ_SQ_STAT_FAULT q) then s
    else if 2 ^ depth ≤ v || 2 ^ depth ≤ ringDist depth (s.rd (HQ_SQ_STAT_HEAD q)) tail + ringDist depth tail v then
      s.queueFault .sq q 1
    else s.modHost fun h => { h with sqTail := h.sqTail.set q v }))

/-- The entries of a CQ in use: one that pends with equal pointers is full (R333, R356). -/
def State.cqUsed (s : State) (q : Nat) : Nat :=
  let depth := s.rd (HQ_CQ_CFG_DEPTH q)
  let d := ringDist depth (s.host.cqHead.getD q 0) (s.rd (HQ_CQ_STAT_TAIL q))
  if d = 0 && s.on (levelBit q) then 2 ^ depth else d

/-- CQ_HEAD: a completion queue's head advances; an empty queue no longer pends (R333, R356). -/
def execCqHead (q : Nat) (v : Nat) (s : State) : Host.Outcome State Fault Refusal :=
  let depth := s.rd (HQ_CQ_CFG_DEPTH q)
  let head := s.host.cqHead.getD q 0
  let used := s.cqUsed q
  let n := ringDist depth head v
  .next (s.afterBoot (if !s.on (HQ_CQ_CFG_EN q) || s.on (HQ_CQ_STAT_FAULT q) then s
    else if 2 ^ depth ≤ v || used < n then s.queueFault .cq q 1
    else
      let s := s.modHost fun h => { h with cqHead := h.cqHead.set q v }
      if used = n then s.levelOff q else s))

/-- A posted buffer is usable: its length a multiple of 4 KiB up to 2 MiB, its address aligned (R349). -/
def PostedBuf.ok (b : PostedBuf) : Bool :=
  b.len % 4096 = 0 && 4096 ≤ b.len && b.len ≤ 2 ^ 21 && b.addr.toNat % 4096 = 0

/-- The phase with which entry e of a ring is written back, seen from its head. -/
def State.strPhase (s : State) (r e : Nat) : Bool :=
  s.on (HQ_STR_STAT_PHASE r) != (e < s.rd (HQ_STR_STAT_HEAD r))

/-- A write of the device to host memory. -/
def State.dmaWrite (s : State) (addr : DWord) (bytes : List Byte) : State :=
  s.modHost fun h => { h with writes := { addr := addr, bytes := bytes } :: h.writes }

/-- The address of an entry of 16 bytes, from the two base registers of its ring (R332, R349). -/
def State.entryAddr (s : State) (lo hi entry : Nat) : DWord :=
  BitVec.ofNat 64 ((s.regs.get hi).toNat * 2 ^ 32 + (s.regs.get lo).toNat + 16 * entry)

/-- A stream entry is written back, its buffer address unchanged, with the ring's event (R349). -/
def State.writeEntry (s : State) (r : Nat) (addr : DWord) (x : StrEntry) : State :=
  ((s.dmaWrite (s.entryAddr (HQ_STR_BASE_LO r) (HQ_STR_BASE_HI r) x.entry) (x.bytes addr)).modHost fun h =>
    { h with entries := x :: h.entries }).raise (16 + r) x.recs

/-- STR_TAIL: host software has posted buffers and advances the ring's tail; a bad one is written back at once (R349,
R350). -/
def execStrTail (r : Nat) (v : Nat) (posted : List PostedBuf) (s : State) : Host.Outcome State Fault Refusal :=
  let depth := s.rd (HQ_STR_CFG_DEPTH r)
  let tail := (s.host.rings.getD r StrRing.reset).tail
  .next (s.afterBoot (if !s.on (HQ_STR_CFG_EN r) || 2 ^ depth ≤ v then s
    else
      let new := posted.take (ringDist depth tail v)
      let bad := (new.mapIdx fun k b => ((tail + k) % 2 ^ depth, b)).filter fun p => !PostedBuf.ok p.2
      let s := s.modHost fun h => { h with rings := updAt h.rings r fun x => { x with tail := v, posted := x.posted ++ new } }
      bad.foldl (fun s e => s.writeEntry r e.2.addr
        { ring := r, entry := e.1, used := 0, recs := 0, gap := false, flushed := false, bad := true,
          phase := s.strPhase r e.1 }) s))

/-! ### Completions (R337, R338) -/

/-- The opcode of a command (R339). -/
def HostCmd.opcode : HostCmd → Nat
  | .nop => 0x01 | .setSetpoint _ => 0x02 | .trajSegment _ => 0x03 | .trajStop _ => 0x04 | .setMode _ _ => 0x05
  | .arm _ => 0x06 | .disarm _ => 0x07 | .writeRegs _ _ => 0x08 | .readSnapshot _ _ _ => 0x09 | .loadCoeff _ _ _ _ => 0x0A
  | .swapBank _ _ => 0x0B | .loadProgram _ => 0x0C | .schedWrite _ _ => 0x0D | .recArm => 0x0E | .recStop => 0x0F
  | .rakeStart _ => 0x10 | .injectStart _ => 0x11 | .journalRead _ _ _ => 0x12 | .ioWrite _ _ => 0x13
  | .clearFault _ _ _ => 0x14 | .attest _ _ _ => 0x15 | .timeAdjust _ _ _ => 0x16 | .groupStart _ _ => 0x17
  | .laneControl _ _ => 0x18 | .fwStage _ _ _ => 0x19 | .lockoutReset _ => 0x1A | .bad op => op.toNat

def Result.ok : Result := { status := 0, detail := 0, index := 0 }
/-- A refusal with a status alone. -/
def Result.of (status : Nat) : Result := { status := status, detail := 0, index := 0 }
/-- RANGE at a pair or entry: DETAIL is index + 1, at most 127 (R338). -/
def Result.at_ (status k : Nat) : Result := { status := status, detail := min 127 (k + 1), index := k }

/-- HQ_LAST_ERR0 and HQ_LAST_ERR1 hold the last command completed other than OK. -/
def State.noteErr (s : State) (c : Cmd) (r : Result) : State :=
  if r.status = 0 then s
  else
    ((((s.wr HQ_LAST_ERR0_CMD_ID c.hdr.cmdId.toNat).wr HQ_LAST_ERR0_STATUS r.status).wr HQ_LAST_ERR0_OPCODE
      (HostCmd.opcode c.cmd)).wr HQ_LAST_ERR1_SQ c.hdr.sq).wr HQ_LAST_ERR1_INDEX r.index

/-- A fetched command gives back its tag, its place in its SQ and its reserved entry (R334). -/
def State.freeTag (s : State) (c : Cmd) : State :=
  if 128 ≤ c.tag then s
  else
    let cq := s.rd (HQ_SQ_CFG_CQ c.hdr.sq)
    ((s.wr HQ_STAT_TAGS (s.rd HQ_STAT_TAGS - 1)).wr (HQ_SQ_STAT_INFLIGHT c.hdr.sq)
      (s.rd (HQ_SQ_STAT_INFLIGHT c.hdr.sq) - 1)).wr (HQ_CQ_STAT_RESERVED_CNT cq) (s.rd (HQ_CQ_STAT_RESERVED_CNT cq) - 1)

/-- A command completes with its one result: the completion is written at its CQ's tail with the event, or sent as a
completion frame of its network port (R337, R338, R356, R437). Under major version 1 the Tally is cut to 32 bits. A CQ in
FAULT, or disabled since the fetch, takes nothing (R333). -/
def State.complete (s : State) (c : Cmd) (r : Result) : State :=
  let s := (s.noteErr c r).modHost fun h => { h with cmds := h.cmds.filter fun x => x.order ≠ c.order || x.tag ≠ c.tag }
  let net := 16 ≤ c.hdr.sq
  let major := if net then c.netMajor else s.rd HQ_IF_STAT_MAJ
  let cq := if net then c.hdr.sq else s.rd (HQ_SQ_CFG_CQ c.hdr.sq)
  let entry := if net then 0 else s.rd (HQ_CQ_STAT_TAIL cq)
  let x : Completion :=
    { sq := c.hdr.sq, cq := cq, entry := entry,
      tally := if major = 1 then (s.mod.tally.setWidth 32).setWidth 64 else s.mod.tally,
      cmdId := c.hdr.cmdId, status := r.status, opcode := HostCmd.opcode c.cmd, sqHead := c.head,
      phase := !net && s.on (HQ_CQ_STAT_PHASE cq), detail := r.detail }
  if net then
    (s.modHost fun h => { h with completions := x :: h.completions }).modSec fun y =>
      { y with netDone := (c.hdr.sq, c.netSrc, c.xid, x) :: y.netDone }
  else
    let s := s.freeTag c
    if s.on (HQ_CQ_STAT_FAULT cq) || (c.tag < 128 && !s.on (HQ_CQ_CFG_EN cq)) then s
    else
      let s := (s.dmaWrite (s.entryAddr (HQ_CQ_BASE_LO cq) (HQ_CQ_BASE_HI cq) entry) x.bytes).modHost fun h =>
        { h with completions := x :: h.completions }
      let wraps := decide (entry + 1 = 2 ^ s.rd (HQ_CQ_CFG_DEPTH cq))
      let s := (s.wr (HQ_CQ_STAT_TAIL cq) (if wraps then 0 else entry + 1)).wr (HQ_CQ_STAT_PHASE cq)
        (b2n (s.on (HQ_CQ_STAT_PHASE cq) != wraps))
      if s.on (levelBit cq) then s.raise cq c.hdr.sq else s.levelOn cq c.hdr.sq

/-! ### Stream rings (R349 to R351) -/

/-- A record as its bytes (R350). -/
def StrRec.wire (r : StrRec) : List Byte :=
  leBytes 2 r.type ++ leBytes 2 r.source ++ leBytes 4 r.bytes ++ leBytes 8 r.tally.toNat ++
    r.payload ++ List.replicate (r.bytes - 16 - r.payload.length) 0

/-- The GAP record of what a ring has lost (R351). -/
def Lost.record (l : Lost) (tally : DWord) : StrRec :=
  { type := 1, source := 0, tally := tally,
    payload := leBytes 8 l.first.toNat ++ leBytes 8 l.last.toNat ++ leBytes 4 (min 0xFFFFFFFF l.recs) ++
      leBytes 4 (min 0xFFFFFFFF l.bytes) }

def State.ring (s : State) (r : Nat) : StrRing := s.host.rings.getD r StrRing.reset
def State.modRing (s : State) (r : Nat) (f : StrRing → StrRing) : State :=
  s.modHost fun h => { h with rings := updAt h.rings r f }

/-- The ring's head passes an entry; the phase inverts at the wrap. -/
def State.nextEntry (s : State) (r : Nat) : State :=
  let e := s.rd (HQ_STR_STAT_HEAD r) + 1
  if e = 2 ^ s.rd (HQ_STR_CFG_DEPTH r) then
    (s.wr (HQ_STR_STAT_HEAD r) 0).wr (HQ_STR_STAT_PHASE r) (1 - s.rd (HQ_STR_STAT_PHASE r))
  else s.wr (HQ_STR_STAT_HEAD r) e

/-- The open buffer of a ring is closed and its entry written back (R349). -/
def State.closeBuf (s : State) (r : Nat) (flushed : Bool) : State :=
  match (s.ring r).open_ with
  | none => s
  | some b =>
    let e := s.rd (HQ_STR_STAT_HEAD r)
    let x : StrEntry := { ring := r, entry := e, used := b.used, recs := b.recs, gap := b.gap, flushed := flushed, bad := false,
                          phase := s.strPhase r e }
    let s := s.writeEntry r b.buf.addr x
    (s.modRing r fun x => { x with open_ := none }).nextEntry r

/-- A record is written into the open buffer. -/
def State.putRec (s : State) (r : Nat) (b : OpenBuf) (x : StrRec) : State :=
  let s := s.dmaWrite (b.buf.addr + BitVec.ofNat 64 b.used) x.wire
  let b := { b with used := b.used + x.bytes, recs := b.recs + 1, since := (if b.recs = 0 then s.now else b.since) }
  s.modRing r fun y => { y with open_ := some b }

/-- The next usable posted buffer opens, with a GAP record where records were lost (R351). -/
def State.openBuf (s : State) (r : Nat) : State :=
  match (s.ring r).posted with
  | [] => s
  | p :: rest =>
    let s := s.modRing r fun x => { x with posted := rest }
    if !PostedBuf.ok p then s.nextEntry r
    else
      let b : OpenBuf := { buf := p, used := 0, recs := 0, since := s.now, gap := (s.ring r).lost.isSome }
      match (s.ring r).lost with
      | none => s.modRing r fun x => { x with open_ := some b }
      | some l =>
        ((s.modRing r fun x => { x with lost := none }).putRec r b (l.record s.mod.tally)).bump (HQ_STR_STAT_GAPS r)

/-- The ring's oldest stored record goes into a buffer: a buffer it does not fit is closed first. Without a posted buffer it
stays in its store. -/
def State.takeRec : Nat → State → Nat → State
  | 0, s, _ => s
  | fuel + 1, s, r =>
    match (s.ring r).store, (s.ring r).open_ with
    | [], _ => s
    | _, none => if (s.ring r).posted.isEmpty then s else State.takeRec fuel (s.openBuf r) r
    | x :: rest, some b =>
      if b.used + x.bytes ≤ b.buf.len then (s.modRing r fun y => { y with store := rest }).putRec r b x
      else State.takeRec fuel (s.closeBuf r false) r

/-- STREAM_RECORD_WRITE: a stored record is written into a posted buffer (R350, R351). -/
def execStreamRecordWrite (r : Nat) (s : State) : Host.Outcome State Fault Refusal :=
  .next (if s.on (HQ_STR_CFG_EN r) then State.takeRec ((s.ring r).posted.length + 4) s r else s)

/-- STREAM_FLUSH: a buffer closes FLUSH ms after its first record (R350). -/
def execStreamFlush (r : Nat) (s : State) : Host.Outcome State Fault Refusal :=
  .next (match (s.ring r).open_ with
    | none => s
    | some b =>
      if b.recs = 0 then s else (s.passTo (b.since + 400000 * s.rd (HQ_STR_CFG_FLUSH r))).closeBuf r true)

end Sys2Proof.Machine
end

