-- ==== Sys2Proof/Machine/Traj.lean ====
section
/-! DEFINITION. Setpoint trajectories (06): the checks and the queue of segments (R165, R166), path limits and the profile
(R167, R168, R175), and what a unit does at a frame boundary (R169 to R177). The path parameter is kept in units of 2^-200
and per tick (log 22). -/
namespace Sys2Proof.Machine

/-- The path parameter 1. -/
def pathOne : Int := (2 ^ 200 : Nat)

/-- A unit of a lane. -/
def Lane.unit (l : Lane) (u : Nat) : TrajUnit := l.traj.getD u TrajUnit.reset

/-! ### Limits of a path (R167) -/

/-- The distance Δ_a of an axis in a segment, in units of 2^-29. -/
def Seg.delta (g : Seg) (a : Nat) : Int := if g.body.axmask.getLsbD a then g.target.getD a 0 - g.x0.getD a 0 else 0

/-- The moving axes of a segment. -/
def Seg.moving (g : Seg) : List Nat := numsWhere 6 fun a => g.delta a ≠ 0

/-- The smaller of a limit and an axis's share of it: n / (Δ × ticks per second to a power), at least 1. -/
def tighten (lim : Int) (n : Nat) (delta : Int) (secs : Nat) : Int := min lim (max 1 (((n * 2 ^ 200) / (delta.natAbs * secs) : Nat) : Int))

/-- The limits of a segment's path under the axis limits in force; a path on which no axis moves has none of its own
(R167; log 22). -/
def Lane.pathLim (l : Lane) (u : Nat) (g : Seg) : PathLim :=
  g.moving.foldl (fun p a =>
    let d := g.delta a
    { v := tighten p.v (g.body.rateScale.toNat * l.rd (TRAJ_U_AX_LIM0_VMAX u a) * 4) d 400000000,
      a := tighten p.a (l.rd (TRAJ_U_AX_LIM1_AMAX u a) * 2 ^ 19) d (400000000 ^ 2),
      d := tighten p.d (l.rd (TRAJ_U_AX_LIM1_DMAX u a) * 2 ^ 19) d (400000000 ^ 2),
      j := tighten p.j (l.rd (TRAJ_U_AX_LIM0_JMAX u a) * 2 ^ 21) d (400000000 ^ 3) })
    { v := pathOne, a := pathOne, d := pathOne, j := pathOne }

/-! ### Profile (R168) -/

/-- Position, rate and acceleration after t ticks of constant jerk. -/
def kin (s v a j : Int) (t : Nat) : Int × Int × Int :=
  (s + v * t + a * t * t / 2 + j * t * t * t / 6, v + a * t + j * t * t / 2, a + j * t)

/-- The integral of a jerk-limited ramp of the acceleration from a through a change u: (6 v u j + 3 a u² ± u³) / 6 j². -/
def rampDist (v a u j sgn : Int) : Int := (6 * v * u * j + 3 * a * u * u + sgn * u * u * u) / (6 * j * j)

/-- The distance and the ticks in which a path with a rate v ≥ 0 and an acceleration a comes to rest under D and J. -/
def stopOf (d j v a : Int) : Int × Int :=
  if a < 0 && 2 * j * v ≤ a * a then (rampDist v a (-a) j 1, -a / j)
  else
    let rise := a < -d
    let u0 := if rise then -a - d else 0
    let v0 := if rise then v + a * u0 / j + u0 * u0 / (2 * j) else v
    let s0 := if rise then rampDist v a u0 j 1 else 0
    let a0 := if rise then -d else a
    let p : Int := min d (isqrt (j * v0 + a0 * a0 / 2).toNat : Nat)
    let u1 := a0 + p
    let v1 := v0 + (a0 * a0 - p * p) / (2 * j)
    let v2 := p * p / (2 * j)
    let hold := max 0 (v1 - v2)
    let s1 := rampDist v0 a0 u1 j (-1)
    let s2 := if p = 0 then 0 else hold * (v1 + v2) / (2 * p)
    (s0 + s1 + s2 + p * p * p / (6 * j * j), u0 / j + u1 / j + (if p = 0 then 0 else hold / p) + p / j)

/-- The greatest value of [lo, hi] at which a test that fails above some point holds, to within 2^-n of the interval. -/
def bisectMax (p : Int → Bool) : Nat → Int → Int → Int
  | 0, lo, _ => lo
  | n + 1, lo, hi =>
    let m := (lo + hi) / 2
    if p m then bisectMax p n m hi else bisectMax p n lo m

/-- The least value of [lo, hi] at which a test that holds above some point holds. -/
def bisectMin (p : Int → Bool) : Nat → Int → Int → Int
  | 0, _, hi => hi
  | n + 1, lo, hi =>
    let m := (lo + hi) / 2
    if p m then bisectMin p n lo m else bisectMin p n m hi

/-- What the rate changes by while an acceleration of magnitude b comes to 0 at the jerk J: whole frames of t ticks, and one frame
for the rest. -/
def raiseCost (j : Int) (t : Nat) (b : Int) : Int :=
  let n := b / (j * t)
  let f := b - n * (j * t)
  (b + f) * (n * t) / 2 + f * t / 2

/-- A path can come to rest from v and a without turning back. -/
def canRest (j : Int) (t : Nat) (v a : Int) : Bool := 0 ≤ v && (0 ≤ a || raiseCost j t (-a) ≤ v)

/-- The same after a frame of t ticks at a jerk. -/
def restAfter (j : Int) (t : Nat) (v a x : Int) : Bool :=
  let k := kin 0 v a x t
  canRest j t k.2.1 k.2.2

/-- The least jerk of [lo, J] that keeps a path able to rest. -/
def leastRest (j : Int) (t : Nat) (v a lo : Int) : Int :=
  if restAfter j t v a lo then lo
  else if restAfter j t v a j then bisectMin (restAfter j t v a) 64 lo j
  else j

/-- The distance while a negative acceleration comes to 0. -/
def raiseDist (j : Int) (t : Nat) (v a : Int) : Int :=
  let n := -a / (j * t)
  let f := -a - n * (j * t)
  let k := kin 0 v a j (n * t).toNat
  k.1 + k.2.1 * t - f * t * t / 2 + f * t * t / 6

/-- The end of a stop: from a state in which full deceleration must end, the frame that meets the raise of the acceleration to 0,
and the raise. -/
def restTail (d j : Int) (t : Nat) (s v a : Int) : Int :=
  let k := kin s v a (leastRest j t v a (max (-j) (-((a + d) / t)))) t
  k.1 + if k.2.2 < 0 then raiseDist j t k.2.1 k.2.2 else 0

/-- The distance in which a path with a rate v ≥ 0 comes to rest where every frame takes the least jerk that D, J and rest
without turning back allow (R168, R173): down to -D or as far as the raise allows, held there, and raised. -/
def restDist (d j : Int) (t : Nat) (v a : Int) : Int :=
  let up : Int × Int × Int :=
    if a < -d then
      let n := (-d - a) / (j * t)
      let k := kin 0 v a j (n * t).toNat
      let k := kin k.1 k.2.1 k.2.2 ((-d - k.2.2) / t) t
      (k.1, k.2.1, -d)
    else (0, v, a)
  let s := up.1
  let v := up.2.1
  let a := up.2.2
  if a < 0 && !canRest j t v a then s + raiseDist j t v a
  else
    let most := (a + d) / (j * t)
    let ok := fun (n : Int) => let k := kin 0 v a (-j) (n * t).toNat
      canRest j t k.2.1 k.2.2
    let n := if ok most then most else bisectMax ok 20 0 most
    let k := kin s v a (-j) (n * t).toNat
    let x := max (-j) (-((k.2.2 + d) / t))
    if n = most && restAfter j t k.2.1 k.2.2 x then
      let k := if -d < k.2.2 then kin k.1 k.2.1 k.2.2 x t else k
      let m := max 0 ((k.2.1 - raiseCost j t d) / (d * t))
      let k := kin k.1 k.2.1 (-d) 0 (m * t).toNat
      restTail d j t k.1 k.2.1 (-d)
    else restTail d j t k.1 k.2.1 k.2.2

/-- After a frame of t ticks at jerk x the path keeps A and V and can still stop within r. -/
def highOk (lim : PathLim) (t : Nat) (r v a x : Int) : Bool :=
  let k := kin 0 v a x t
  k.2.2 ≤ lim.a &&
  (if 0 < k.2.2 then k.2.1 + raiseCost lim.j t k.2.2 ≤ lim.v else k.2.1 - raiseCost lim.j t (-k.2.2) ≤ lim.v) &&
  (k.2.1 ≤ 0 || k.1 + restDist lim.d lim.j t k.2.1 k.2.2 ≤ r)

/-- The least jerk, from a wanted one up, that keeps D and rest without turning back. -/
def leastJerk (lim : PathLim) (t : Nat) (v a lo : Int) : Int :=
  leastRest lim.j t v a (min lim.j (max lo (-((a + lim.d) / t))))

/-- The jerk of a move over the coming frame: the greatest that keeps the path able to stop at its end, but not below what
keeps D (R168). -/
def moveJerk (lim : PathLim) (t : Nat) (r v a : Int) : Int :=
  leastJerk lim t v a
    (if highOk lim t r v a lim.j then lim.j
     else if highOk lim t r v a (-lim.j) then bisectMax (highOk lim t r v a) 64 (-lim.j) lim.j
     else -lim.j)

/-- The direction in which a path runs, or is to run: toward s = 1 from rest (R175). -/
def Path.dir (p : Path) : Int :=
  if 0 < p.rate then 1 else if p.rate < 0 then -1
  else if 0 < p.acc then 1 else if p.acc < 0 then -1
  else if p.s ≤ pathOne then 1 else -1

/-- The limits a path is planned with: those of its axes, with the rate that T_MIN lowers (R167). -/
def Path.lims (p : Path) : PathLim := { p.lim with v := p.cap.elim p.lim.v (min p.lim.v) }

/-- The ticks and the distance in which a path comes from a rate and an acceleration to a steady rate w. -/
def reachOf (lim : PathLim) (v a w : Int) : Int × Int :=
  if v ≤ w then
    let x := stopOf lim.a lim.j (w - v) (-a)
    (x.2, w * x.2 - x.1)
  else
    let x := stopOf lim.d lim.j (v - w) a
    (x.2, w * x.2 + x.1)

/-- A path reaches the rate w within the distance r to its end, and lasts at least the ticks `want` from here (R167). -/
def lastsAt (lim : PathLim) (want r v a w : Int) : Bool :=
  let x := reachOf lim v a w
  let y := stopOf lim.d lim.j w 0
  x.2 + y.1 ≤ r && want ≤ x.1 + y.2 + (r - x.2 - y.1) / w

/-- The greatest rate limit at which a path lasts T_MIN in all, where that lengthens it (R167, R175). -/
def Path.tminCap (p : Path) (lim : PathLim) : Option Int :=
  let want : Int := p.seg.body.tMin.toNat * 400 - p.ran
  let r := pathOne - p.s
  if want ≤ 0 || r ≤ 0 || p.rate < 0 || lastsAt lim want r p.rate p.acc lim.v then none
  else some (max 1 (bisectMax (lastsAt lim want r p.rate p.acc) 200 1 lim.v))

/-- A path under the limits in force; a change of them is a new plan (R175). -/
def Path.under (p : Path) (lim : PathLim) : Path := if p.lim = lim then p else { p with lim := lim, cap := p.tminCap lim }

/-- The jerk chosen for the coming frame of t ticks (R168, R173, R175); a rate and an acceleration below 2^-60 of the path in a
frame are rest. -/
def Path.plan (p : Path) (t : Nat) (stopping : Bool) : Path :=
  let still := p.rate.natAbs * t ≤ 2 ^ 140 && p.acc.natAbs * t * t ≤ 2 ^ 140
  let p := if still then { p with rate := 0, acc := 0 } else p
  if still && (stopping || p.s = pathOne) then { p with jerk := 0 }
  else
    let d := p.dir
    let lim := p.lims
    { p with jerk := d * (if stopping then leastJerk lim t (p.rate * d) (p.acc * d) (-lim.j)
                          else moveJerk lim t ((pathOne - p.s) * d) (p.rate * d) (p.acc * d)) }

/-- What is left of a path at rest: a sixteenth of what one frame of its limits can move it (log 22). -/
def Path.slack (p : Path) (t : Nat) : Int :=
  let lim := p.lims
  min (min (lim.j * t * t * t) (lim.a * t * t)) (min (min (lim.d * t * t) (lim.v * t)) pathOne) / 16

/-- The path over a frame of t ticks; one that comes to rest holds its value, at s = 1 exactly where it ends there (R168,
R173). -/
def Path.advance (p : Path) (t : Nat) (stopping : Bool) : Path :=
  let k := kin p.s p.rate p.acc p.jerk t
  let q := { p with s := k.1, rate := k.2.1, acc := k.2.2, ran := p.ran + t }
  let x := p.slack t
  let rest := k.2.1.natAbs * t ≤ x && k.2.2.natAbs * t * t ≤ x
  if rest && stopping then { q with rate := 0, acc := 0, jerk := 0 }
  else if rest && (pathOne - k.1).natAbs ≤ 4 * x then { q with s := pathOne, rate := 0, acc := 0, jerk := 0 }
  else q

/-- The path has reached s = 1 with zero rate. -/
def Path.ended (p : Path) : Bool := p.s = pathOne && p.rate = 0 && p.acc = 0

/-! ### Values (R166, R167, R169) -/

/-- A path's contribution to an axis in units of 2^-29, unrounded and scaled by 2^200. -/
def Path.part (p : Path) (a : Nat) : Int := p.seg.delta a * p.s

/-- The unit's unclamped value of an axis, rounded to Q3.29 (R168, R170). -/
def TrajUnit.value (t : TrajUnit) (a : Nat) : Int :=
  t.base.getD a 0 + ((t.paths.foldl (fun x p => x + p.part a) 0) * 2 + pathOne) / (2 * pathOne)

/-- The range of an axis in Q3.29. -/
def Lane.axRange (l : Lane) (u a : Nat) : Int × Int :=
  (signed 16 (l.rd (TRAJ_U_AX_RANGE_MIN u a)) * 65536, signed 16 (l.rd (TRAJ_U_AX_RANGE_MAX u a)) * 65536)

/-- The end value of the previous segment on an axis: that of the last queued, else of the running one, else the present
value; a stopping path ends where it can stop (R166). -/
def Lane.endValue (l : Lane) (u a : Nat) : Int :=
  let t := l.unit u
  match t.queue.getLast? with
  | some g => g.target.getD a 0
  | none =>
    if l.rd (TRAJ_U_STAT_STATE u) = 4 then
      let paths := t.paths.map fun p =>
        { p with s := p.s + p.dir * restDist p.lim.d p.lim.j (max 1 (l.rd ASC_FRAME_LEN_LAST_LEN)) (p.rate * p.dir) (p.acc * p.dir) }
      ({ t with paths := paths } : TrajUnit).value a
    else t.paths.foldl (fun x p => x + p.seg.delta a) (t.base.getD a 0)

/-- The target of a segment on an axis (R165, R166). -/
def Lane.segTarget (l : Lane) (b : SegBody) (a : Nat) : Int :=
  let e := l.endValue b.unit.toNat a
  if !b.axmask.getLsbD a then e
  else (b.targets.getD a 0).toInt + if b.rel then e else 0

/-- The first check of R166 that a segment fails, as its status: 1 RANGE, 2 NO_SPACE, 0 where it passes. `rsvd` tells
that a reserved field is not 0. -/
def Lane.segCheck (l : Lane) (b : SegBody) (rsvd : Bool) : Nat :=
  let u := b.unit.toNat
  if b.axmask = 0 || 0x8000 < b.blend.toNat || b.rateScale = 0 || 0x8000 < b.rateScale.toNat || rsvd then 1
  else if (List.range 6).any (fun a => b.axmask.getLsbD a &&
      (l.segTarget b a < (l.axRange u a).1 || (l.axRange u a).2 < l.segTarget b a)) then 1
  else if 32 ≤ (l.unit u).queue.length then 2
  else 0

/-- A segment appended to its unit's queue; `at_` is the lane as steps 1 and 2 of R177 leave it (R166). -/
def Lane.queueSeg (l at_ : Lane) (b : SegBody) (tally : DWord) : Lane :=
  let u := b.unit.toNat
  let g : Seg := { body := b, x0 := (List.range 6).map (at_.endValue u), target := (List.range 6).map (at_.segTarget b),
                   queuedAt := tally }
  let l := l.modUnit u fun t => { t with queue := t.queue ++ [g] }
  l.wr (TRAJ_U_STAT_QCNT u) (l.unit u).queue.length

/-! ### The boundary (R177) -/

/-- Event data of a unit: unit, code and tag (R166). -/
def trajData (u code : Nat) (tag : BitVec 16) : Nat := u * 16384 + code * 4096 + tag.toNat % 4096

/-- A unit in the course of a boundary: the lane and the events raised so far. -/
abbrev UnitRun := Lane × List Nat

def UnitRun.note (r : UnitRun) (u code : Nat) (tag : BitVec 16) : UnitRun := (r.1, r.2 ++ [trajData u code tag])

/-- An ended segment leaves the unit with its axes on their targets (R168). -/
def UnitRun.endSeg (r : UnitRun) (u : Nat) (p : Path) : UnitRun :=
  let l := r.1.modUnit u fun t =>
    { t with base := t.base.mapIdx (fun a x => x + p.seg.delta a), paths := t.paths.filter fun q => q ≠ p }
  let l := (l.bump (TRAJ_U_CNT_DONE u)).wr (TRAJ_U_STAT_HEAD_TAG u)
    (((l.unit u).paths.head?.map fun q => q.seg.body.tag).getD p.seg.body.tag).toNat
  UnitRun.note (l, r.2) u 1 p.seg.body.tag

/-- Step 1: running paths advance, and completed segments end. Paths that stop come to rest together (R168, R173). -/
def UnitRun.advance (r : UnitRun) (u t : Nat) : UnitRun :=
  let stopping := r.1.rd (TRAJ_U_STAT_STATE u) = 4
  let l := r.1.modUnit u fun x => { x with paths := x.paths.map fun p => p.advance t stopping }
  let ps := (l.unit u).paths
  if stopping then
    if ps.all fun p => p.rate = 0 && p.acc = 0 then
      let tag := (ps.head?.map fun p => p.seg.body.tag).getD 0
      let l := l.modUnit u fun x => { x with base := (List.range 6).map x.value, paths := [] }
      let l := (l.wr (TRAJ_U_STAT_STOPPED u) 1).wr (TRAJ_U_STAT_STATE u) 0
      UnitRun.note (l, r.2) u 2 tag
    else (l, r.2)
  else (ps.filter Path.ended).foldl (fun r p => r.endSeg u p) (l, r.2)

/-- Step 2: a stop discards the segments queued before this boundary, and running paths stop; a unit in WAIT_GROUP, which has
none, is at rest at once (R173). -/
def UnitRun.stop (r : UnitRun) (u : Nat) (tally : DWord) (now : Bool) : UnitRun :=
  if !now then r
  else
    let gone := (r.1.unit u).queue.filter fun g => g.queuedAt.toNat < tally.toNat
    let l := r.1.modUnit u fun x => { x with queue := x.queue.filter (fun g => tally.toNat ≤ g.queuedAt.toNat), stopReq := none }
    let l := l.wr (TRAJ_U_CNT_FLUSHED u) (l.rd (TRAJ_U_CNT_FLUSHED u) + gone.length)
    let r : UnitRun := (l, r.2 ++ gone.map fun g => trajData u 3 g.body.tag)
    if !(l.unit u).paths.isEmpty then (l.wr (TRAJ_U_STAT_STATE u) 4, r.2)
    else if l.rd (TRAJ_U_STAT_STATE u) = 3 then
      UnitRun.note ((l.wr (TRAJ_U_STAT_STOPPED u) 1).wr (TRAJ_U_STAT_STATE u) 0, r.2) u 2
        (BitVec.ofNat 16 (l.rd (TRAJ_U_STAT_HEAD_TAG u)))
    else (l.wr (TRAJ_U_STAT_STATE u) 0, r.2)

/-- A fault that has become active since the last boundary stops the unit (R174). -/
def State.faultStops (s : State) (l : Lane) (u : Nat) : Bool :=
  s.faults.risen.any fun x => match x with
    | .module => true
    | .thread t => (s.maskOrAll (l.rd (TRAJ_U_CFG_THR_MASK u))).contains t
    | .aux _ => false
    | .link _ => false

/-- A unit of a lane as steps 1 and 2 of R177 will leave it at the boundary whose commits are under way: what a segment and a
preset that commit there find. -/
def State.aheadUnit (s : State) (i : LaneId) (u : Nat) : Lane :=
  let l := s.lane i
  let stop := s.host.stopAhead.contains u || (l.unit u).stopReq.isSome || s.faultStops l u
  ((UnitRun.advance (l, []) u (s.now - l.asc.frameTick)).stop u s.mod.tally stop).1

/-- The unit is idle and starts no segment. -/
def Lane.idleUnit (l : Lane) (u : Nat) : Bool := (l.unit u).paths.isEmpty && (l.unit u).queue.isEmpty

/-- Step 4: presets on an idle unit; the host's wins over a tap on the same axis (R176). -/
def Lane.applyPresets (l : Lane) (u : Nat) : Lane :=
  let t := l.unit u
  let ps := t.taps.reverse ++ t.hostPreset.toList
  let l := if l.idleUnit u then
      ps.foldl (fun l p =>
        let r := l.axRange u p.1
        l.modUnit u fun t => { t with base := t.base.set p.1 (clampI p.2.toInt r.1 r.2) }) l
    else l
  l.modUnit u fun t => { t with taps := [], hostPreset := none }

/-- A segment starts: its path at s = 0 from the end value of its predecessor (R167, R170, R173). -/
def UnitRun.start (r : UnitRun) (u : Nat) (g : Seg) : UnitRun :=
  let t := r.1.unit u
  let first := t.paths.isEmpty
  let g : Seg := { g with x0 := (List.range 6).map fun a => t.paths.foldl (fun x p => x + p.seg.delta a) (t.base.getD a 0) }
  let lim := r.1.pathLim u g
  let p : Path := { seg := g, s := (if g.moving.isEmpty && g.body.tMin = 0 then pathOne else 0), rate := 0, acc := 0, jerk := 0,
                    lim := lim, cap := none, ran := 0 }
  let p := { p with cap := p.tminCap lim }
  let l := r.1.modUnit u fun t => { t with queue := t.queue.drop 1, paths := t.paths ++ [p] }
  let l := (l.wr (TRAJ_U_STAT_STOPPED u) 0).wr (TRAJ_U_STAT_STATE u) (if first then 1 else 2)
  let l := if first then l.wr (TRAJ_U_STAT_HEAD_TAG u) g.body.tag.toNat else l
  UnitRun.note (l, r.2) u 0 g.body.tag

/-- Step 5: segments start from idle, on GROUP_START, or by blending (R170, R172). -/
def UnitRun.starts (r : UnitRun) (u : Nat) (tally : DWord) : UnitRun :=
  let t := r.1.unit u
  let go := t.groupStart.contains tally
  let l := if go then r.1.modUnit u fun t => { t with groupStart := t.groupStart.filter fun x => x ≠ tally } else r.1
  let miss : Lane → Lane := fun l => if go then l.wr (TRAJ_U_STAT_GS_MISS u) 1 else l
  match t.paths, t.queue with
  | [], g :: _ =>
    if g.body.grp then
      if go then UnitRun.start (l, r.2) u g else (l.wr (TRAJ_U_STAT_STATE u) 3, r.2)
    else UnitRun.start (miss l, r.2) u g
  | [], [] => ((miss l).wr (TRAJ_U_STAT_STATE u) 0, r.2)
  | [p], g :: _ =>
    let l := miss l
    if l.rd (TRAJ_U_STAT_STATE u) ≠ 4 && !g.body.grp && p.seg.body.blend ≠ 0 &&
        (pathOne - p.s) * 65536 ≤ p.seg.body.blend.toNat * pathOne then UnitRun.start (l, r.2) u g
    else (if l.rd (TRAJ_U_STAT_STATE u) = 4 then l else l.wr (TRAJ_U_STAT_STATE u) 1, r.2)
  | ps, _ =>
    let l := miss l
    (if l.rd (TRAJ_U_STAT_STATE u) = 4 then l else l.wr (TRAJ_U_STAT_STATE u) (if ps.length = 1 then 1 else 2), r.2)

/-- Step 6: the jerk of each path for the coming frame of t ticks. -/
def Lane.planUnit (l : Lane) (u t : Nat) : Lane :=
  let stopping := l.rd (TRAJ_U_STAT_STATE u) = 4
  l.modUnit u fun x => { x with paths := x.paths.map fun p => (p.under (l.pathLim u p.seg)).plan t stopping }

/-- The summed rate of an axis exceeds its VMAX (R171). -/
def Lane.rateOver (l : Lane) (u a : Nat) : Bool :=
  let r := (l.unit u).paths.foldl (fun x p => x + p.seg.delta a * p.rate) 0
  1 < (l.unit u).paths.length && (l.rd (TRAJ_U_AX_LIM0_VMAX u a) * 2 ^ 217 : Nat) < r.natAbs * 400000000

/-- Step 7: the published values, clamped, with CLAMP and BLEND_OVER (R169, R171). -/
def Lane.publishUnit (l : Lane) (u : Nat) : Lane :=
  let t := l.unit u
  let xs := (List.range 6).map t.value
  let ys := xs.mapIdx fun a x => clampI x (l.axRange u a).1 (l.axRange u a).2
  let l := l.modUnit u fun t => { t with axes := ys }
  let l := if xs ≠ ys then l.wr (TRAJ_U_STAT_CLAMP u) 1 else l
  let l := if (List.range 6).any (l.rateOver u) then l.wr (TRAJ_U_STAT_BLEND_OVER u) 1 else l
  l.wr (TRAJ_U_STAT_QCNT u) (l.unit u).queue.length

/-- A unit at the boundary, in the order of R177. -/
def State.unitBoundary (s : State) (i : LaneId) (u : Nat) : State :=
  let l := s.lane i
  let fault := s.faultStops l u
  let stop := (!s.hold && (l.unit u).stopReq.isSome) || fault
  let from_ := if fault then s.mod.tally else (l.unit u).stopReq.getD s.mod.tally
  let r := (UnitRun.advance (l, []) u (l.rd ASC_FRAME_LEN_LAST_LEN)).stop u from_ stop
  let r := UnitRun.starts (r.1.applyPresets u, r.2) u s.mod.tally
  let l := (r.1.planUnit u (max 1 r.1.ticksToEnd)).publishUnit u
  r.2.foldl (fun s d => s.raiseFrom i 46 d) (s.setLane i l)

/-- All units of both lanes at the boundary (R177). -/
def State.trajBoundary (s : State) : State :=
  (List.range 4).foldl (fun s u => (s.unitBoundary .a u).unitBoundary .b u) s

end Sys2Proof.Machine
end

