-- ==== Sys2Proof/Machine/RegCheck.lean ====
section
/-! DEFINITION. Checks of register writes (R12, R329, R338, R341): the ranges of the field tables, the settings that the
chapters refuse with RANGE, and the states in which a write is refused with STATE. -/
namespace Sys2Proof.Machine

/-! ### Words -/

/-- The bits that a write replaces. -/
def RegDesc.plain (d : RegDesc) : Word := BitVec.ofNat 32 (d.rw ||| d.rws ||| d.rwl)

/-- A register word after a write: reserved and read-only bits stay, W1C bits written 1 clear (R12, R14). -/
def RegDesc.merge (d : RegDesc) (old v : Word) : Word :=
  ((old &&& ~~~d.plain) ||| (v &&& d.plain)) &&& ~~~(v &&& BitVec.ofNat 32 d.w1c)

/-- The register has a writable field (R469). -/
def RegDesc.writable (d : RegDesc) : Bool := (d.rw ||| d.rws ||| d.rwl ||| d.w1c ||| d.wo) != 0

/-- A register's present word: of the active lane where the block is mirrored, else of the Sluice. -/
def State.regNow (s : State) (off : Nat) : Word := if mirrored off then (s.lane s.active).regs.get off else s.regs.get off

/-- A register file with a write merged. -/
def RegFile.mergeAt (f : RegFile) (off : Nat) (v : Word) : RegFile :=
  match regDesc off with
  | some d => f.set off (d.merge (f.get off) v)
  | none => f

/-- The register words that some writes will leave, nothing else of their effect. -/
def State.mergeWords (s : State) (off : Nat) (v : Word) : State :=
  if mirrored off then s.bothLanes fun l => { l with regs := l.regs.mergeAt off v } else { s with regs := s.regs.mergeAt off v }

/-- A number lies outside lo..hi. -/
def outside (x lo hi : Nat) : Bool := x < lo || hi < x

/-- Instance of a register in an array of single words. -/
def inst (base stride off : Nat) : Nat := (off - base) / stride

/-! ### Ranges: Sluice blocks -/

/-- The item list of a snapshot set is valid (R345). -/
def State.snapListBad (s : State) (set : Nat) : Bool :=
  4096 < s.snapLen set || (s.snapItems set).any fun x =>
    5 < x.1 || (x.1 = 3 && 80 < x.2.1) || ((x.1 = 4 || x.1 = 5) && 4 < x.2.1)

/-- The lock condition of R219 fails. -/
def State.lockBad (s : State) : Bool :=
  s.rd SLC_ENV_DT_ENV_DT + s.rd SLC_ENV_PULSE_ENV_EDGE < s.rd SLC_ENV_INNER_INNER_DELAY

/-- An envelope value lies below its minimum in OTP (R218), in units of 8 ticks, that of INNER_DELAY in units of 40. -/
def State.envBad (s : State) : Bool :=
  s.rd SLC_ENV_DT_ENV_DT < 8 * s.rd SLC_ENV_OTP_DT_MIN || s.rd SLC_ENV_PULSE_ENV_PULSE < 8 * s.rd SLC_ENV_OTP_PULSE_MIN ||
  s.rd SLC_ENV_PULSE_ENV_EDGE < 8 * s.rd SLC_ENV_OTP_EDGE_MIN ||
  s.rd SLC_ENV_INNER_INNER_DELAY < 40 * s.rd SLC_ENV_OTP_INNER_MIN

/-- A word of a Sluice block lies outside the ranges of its fields. `s` is the state before, `p` holds the register words
after every write of the command. -/
def State.sluiceBad (s p : State) (off : Nat) (w : Word) : Bool :=
  let f (x : Fld) : Nat := bitsOf w x.hi x.lo
  if 0x2600 ≤ off && off < 0x3000 then p.snapListBad (if off < 0x2800 then inst 0x2600 4 off else inst 0x2800 0x100 off)
  else if 0x4100 ≤ off && off < 0x4160 then (List.range 4).any fun b => !outside (bitsOf w (8 * b + 5) (8 * b)) 34 62
  else if 0x4600 ≤ off && off < 0x4640 then 5 < f (EIC_WAKE_SEL_KIND 0)
  else if off = PWR_CFG then outside (f PWR_CFG_HOLD_MIN) 60 120 || f PWR_CFG_WDT_MS = 0
  else if off = CLK_NDIV then !s.ndivOk w.toNat
  else if off = CLK_DITHER then f CLK_DITHER_SEED = 0
  else if off = TIME_INC_NS then incBad (f TIME_INC_NS_INC_NS) (p.regs.get TIME_INC_FRAC)
  else if off = SEC_IF_CFG then f SEC_IF_CFG_PSF_VER = 0 || f SEC_IF_CFG_PSF_VER = 3
  else if off = SLC_ENV_DT then f SLC_ENV_DT_ENV_DT < 8 * p.rd SLC_ENV_OTP_DT_MIN
  else if off = SLC_ENV_PULSE then
    f SLC_ENV_PULSE_ENV_PULSE < 8 * p.rd SLC_ENV_OTP_PULSE_MIN || f SLC_ENV_PULSE_ENV_EDGE < 8 * p.rd SLC_ENV_OTP_EDGE_MIN
  else if off = SLC_ENV_INNER then f SLC_ENV_INNER_INNER_DELAY < 40 * p.rd SLC_ENV_OTP_INNER_MIN
  else if off = SLC_ENV_BS then f SLC_ENV_BS_ENV_BS_ON = 0
  else if off = SLC_ENV_LOCK then f SLC_ENV_LOCK_ENVELOPE_LOCK = 1 && p.lockBad
  else if (0xC040 ≤ off && off < 0xC060) || off = SLC_MEAS_TRIP then bitsOf w 23 22 = 3
  else if off = GL_RENEG then (List.range 8).any fun t => w.getLsbD t && !s.present t
  else if 0x34000 ≤ off && off < 0x34080 then
    let n := inst 0x34000 0x20 off
    if off = AUX_CH_CFG n then 5 < f (AUX_CH_CFG_HSHIFT n) || outside (f (AUX_CH_CFG_BLANK n)) 2 30
    else if off = AUX_CH_PWM n then f (AUX_CH_PWM_PER n) < 1000
    else if off = AUX_CH_ISNS n then f (AUX_CH_ISNS_HARD n) < f (AUX_CH_ISNS_LO n)
    else if off = AUX_CH_TIME n then f (AUX_CH_TIME_STALL_T n) = 0
    else false
  else if off = FIO_CTRL then outside (f FIO_CTRL_WDOG) 1 60000
  else if 0x38100 ≤ off && off < 0x38300 && off % 16 = 0 then f (FIO_DI_CFG_THRESH 0) = 0 || outside (f (FIO_DI_CFG_SAMP 0)) 1 1000
  else if 0x38300 ≤ off && off < 0x38380 && off % 8 = 0 then f (FIO_DO_CFG_SAFE 0) = 3
  else if off = JRNL_CFG then f JRNL_CFG_EV_CNT = 0
  else false

/-! ### Ranges: lane blocks -/

/-- An angle-scheduler word outside its ranges (R47, R55, R59). -/
def Lane.ascBad (l : Lane) (off : Nat) (w : Word) : Bool :=
  let least (n : Nat) : Int := ((2 ^ 28 + n - 1) / n : Nat)
  if off = ASC_FRAME_CFG then
    let n := bitsOf w 26 16
    outside n 64 1024 || bitsOf w 1 0 = 2 || (n ≠ l.rd ASC_FRAME_CFG_N && l.incOf 3 < least n)
  else if off = ASC_S_INC 3 then w.toInt ≤ 0 || w.toInt < least l.asc.nInForce
  else if (List.range 4).any (fun n => off = ASC_S_CFG n) then bitsOf w 1 0 = 3
  else false

/-- The target range of an action (R61, R62). -/
def actionBad (action target : Nat) : Bool :=
  match action with
  | 1 => 63 < target
  | 2 => 15 < target
  | 3 => 15 < target
  | 4 => false
  | 5 => 7 < target
  | 6 => 7 < target
  | 7 => 7 < target
  | _ => true

/-- An enabled schedule entry that R62 refuses. -/
def entryBad (nn : Nat) (e : EntryWords) : Bool :=
  bitsOf e.w1 31 31 = 1 && (actionBad (bitsOf e.w1 23 20) (bitsOf e.w1 15 0) || 12 < bitsOf e.w1 27 24 ||
    (bitsOf e.w1 30 30 = 1 && 2 ^ 32 / nn ≤ e.w0.toNat))

/-- The words of a schedule entry. -/
def Lane.entryWords (l : Lane) (i : Nat) : EntryWords :=
  { w0 := l.regs.get (SCHED_W0 i), w1 := l.regs.get (SCHED_W1 i), w2 := l.regs.get (SCHED_W2 i) }

/-- The cores that a channel uses. -/
def Lane.coresOf (l : Lane) (k : Nat) : List Nat :=
  let m := l.rd (MEAS_CH_CFG_SRC k)
  if l.rd (MEAS_CH_CFG_MODE k) = 1 && l.on (MEAS_CH_CFG_PAIR k) then [m, m + 1] else [m]

/-- A CONT channel shares a core with another channel in use (R70). -/
def Lane.coreClash (l : Lane) (k : Nat) : Bool :=
  let m := l.rd (MEAS_CH_CFG_MODE k)
  m ≠ 0 && (List.range 32).any fun j =>
    j ≠ k && (let n := l.rd (MEAS_CH_CFG_MODE j)
      n ≠ 0 && (m = 1 || n = 1) && (l.coresOf k).any fun c => (l.coresOf j).contains c)

/-- A paired channel names an odd or a low-power core, in whatever mode (R70, R73). -/
def Lane.pairBad (l : Lane) (k : Nat) : Bool :=
  let m := l.rd (MEAS_CH_CFG_SRC k)
  k < 32 && l.on (MEAS_CH_CFG_PAIR k) &&
    (m % 2 = 1 || bitAt (l.rd MEAS_CTRL_LP_MASK) m || bitAt (l.rd MEAS_CTRL_LP_MASK) (m + 1))

/-- An SD channel in use on an OUT_LOCKED clock without K × DEC = BITS_PER_FRAME (R77). A channel that is OFF is not held to it
(DESIGN CHOICE, log 49). -/
def Lane.lockedBad (l : Lane) (k : Nat) : Bool :=
  let c := l.rd (MEAS_CH_CFG_SRC k) % 4
  32 ≤ k && l.rd (MEAS_CH_CFG_MODE k) = 1 && l.rd (MEAS_SDCLK_CFG_MODE c) = 2 &&
    (if l.on (MEAS_CH_CFG_SCS k) then 1 else 2 ^ l.rd (MEAS_CH_CFG_KSEL k)) * (l.rd (MEAS_CH_DEC_DEC_M1 k) + 1) ≠
      l.rd (MEAS_SDCLK_CFG_BITS_PER_FRAME c)

/-- A measurement word outside its ranges (R70, R73, R77, R88, R94). `p` holds the lane's words after the command. -/
def Lane.measBad (p : Lane) (off : Nat) (w : Word) : Bool :=
  let f (x : Fld) : Nat := bitsOf w x.hi x.lo
  if off = MEAS_CTRL then (List.range 32).any p.pairBad
  else if 0x24030 ≤ off && off < 0x24040 then
    f (MEAS_SDCLK_CFG_MODE 0) = 3 || outside (f (MEAS_SDCLK_CFG_DIV 0)) 16 80 || (List.range 80).any p.lockedBad
  else if 0x24100 ≤ off && off < 0x24180 then !outside (f (MEAS_FC_LEG 0)) 48 62
  else if 0x24400 ≤ off && off < 0x24900 then
    let k := inst 0x24400 0x10 off
    if off = MEAS_CH_CFG k then
      let m := f (MEAS_CH_CFG_MODE k)
      m = 3 || f (MEAS_CH_CFG_FIR k) = 3 || (f (MEAS_CH_CFG_SCS k) = 1 && f (MEAS_CH_CFG_FIR k) ≠ 0) ||
      (if k < 32 then outside (f (MEAS_CH_CFG_ORDER k)) 1 4 || p.coreClash k || p.pairBad k
       else m = 2 || 3 < f (MEAS_CH_CFG_SRC k) || f (MEAS_CH_CFG_FIR k) ≠ 0 || outside (f (MEAS_CH_CFG_ORDER k)) 1 5 || p.lockedBad k)
    else if off = MEAS_CH_DEC k then 32 ≤ k && (f (MEAS_CH_DEC_DEC_M1 k) < 15 || p.lockedBad k)
    else false
  else false

/-- A CLE word outside its ranges (R118, R119). -/
def Lane.cleBad (p : Lane) (off : Nat) (w : Word) : Bool :=
  let f (x : Fld) : Nat := bitsOf w x.hi x.lo
  if 0x28100 ≤ off && off < 0x28180 && off % 8 = 0 then outside (f (CLE_GRP_CFG_DEADLINE 0)) 1 100000
  else if 0x28400 ≤ off && off < 0x28900 && off % 8 = 0 then
    5 < f (CLE_CTX_CFG_CLASS 0) || 2 ^ f (CLE_CTX_CFG_CLASS 0) ≤ f (CLE_CTX_CFG_PHASE 0) || 5632 < p.stateWords
  else false

/-- A trajectory word outside its ranges (06, TRAJ registers). -/
def trajBad (off : Nat) (w : Word) : Bool :=
  if off = TRAJ_PRESET_SEL then 5 < bitsOf w 2 0
  else if 0x2C100 ≤ off && off < 0x2C500 && 0x20 ≤ off % 0x100 then
    match off % 16 with
    | 0 => bitsOf w 31 16 = 0 || bitsOf w 15 0 = 0
    | 4 => bitsOf w 31 16 = 0 || bitsOf w 15 0 = 0
    | 8 => signed 16 (bitsOf w 31 16) < signed 16 (bitsOf w 15 0)
    | _ => false
  else false

/-- A PWM word outside its ranges (R179, R189, R191). -/
def State.pwmBad (s : State) (p : Lane) (off : Nat) (w : Word) : Bool :=
  let f (x : Fld) : Nat := bitsOf w x.hi x.lo
  if 0x2E100 ≤ off && off < 0x2E300 then
    let g := inst 0x2E100 0x20 off
    if off = PWM_CG_PERIOD g || off = PWM_CG_PERREM g then
      p.rd (PWM_CG_PERIOD_PER_FRAC g) = 0 || p.cgDen g = 0 || p.cgDen g ≤ p.rd (PWM_CG_PERREM_REM g) ||
        p.cgQ g % 2 ^ 32 ≠ 0 || 256 < p.cgQ g / 2 ^ 32
    else false
  else if 0x2E400 ≤ off && off < 0x2EA00 then
    let g := inst 0x2E400 0x20 off
    let bs : Bool := p.on (PWM_LEG_CFG_BOOTSTRAP g)
    let bsBad : Bool := p.rd (PWM_LEG_BS_BS_MAX_ON g) = 0 ||
      32 * p.rd (PWM_LEG_BS_BS_REFRESH g) < p.legTmin g || p.rd (PWM_LEG_BS_BS_MAX_ON g) * 400 ≤ 2 * p.rd (PWM_LEG_BS_BS_REFRESH g)
    if off = PWM_LEG_CFG g then 3 < f (PWM_LEG_CFG_TYPE g) || (bs && f (PWM_LEG_CFG_TYPE g) ≠ 0)
    else if off = PWM_LEG_TIME g then f (PWM_LEG_TIME_MIN_PULSE g) < s.rd SLC_ENV_PULSE_ENV_PULSE
    else if off = PWM_LEG_BS g then bsBad
    else false
  else false

/-- A safety word outside its ranges (11, SAFE registers; R290). -/
def safeBad (off : Nat) (w : Word) : Bool :=
  let f (x : Fld) : Nat := bitsOf w x.hi x.lo
  if off = SAFE_CFG then outside (f SAFE_CFG_STOP_T) 1 60 || f SAFE_CFG_DEG_MAX = 0
  else if off = SAFE_TP_CFG then
    outside (f SAFE_TP_CFG_TP_PER) 4 250 || outside (f SAFE_TP_CFG_TP_W) 100 1000 || 125 * f SAFE_TP_CFG_TP_PER < f SAFE_TP_CFG_TP_W
  else if 0x36020 ≤ off && off < 0x36040 then
    let a := f (SAFE_SI_CFG_SRC_A 0)
    let b := f (SAFE_SI_CFG_SRC_B 0)
    f (SAFE_SI_CFG_MODE 0) = 3 || !outside a 4 6 || !outside b 4 6 || (a = b && a ≠ 7) || f (SAFE_SI_CFG_FILT 0) = 0 ||
      f (SAFE_SI_CFG_DISC_T 0) = 0
  else if 0x36050 ≤ off && off < 0x36060 then
    4 < f (SAFE_SO_CFG_FUNC 0) || outside (f (SAFE_SO_CFG_TPW 0)) 100 500 || outside (f (SAFE_SO_CFG_TPER 0)) 1 300
  else if off = SAFE_ENC_CFG 0 || off = SAFE_ENC_CFG 1 then
    f (SAFE_ENC_CFG_MODE 0) = 3 || outside (f (SAFE_ENC_CFG_SSI_BITS 0)) 10 31 || outside (f (SAFE_ENC_CFG_SSI_PER 0)) 10 250
  else if off = SAFE_SLS_CFG then f SAFE_SLS_CFG_SPD_WIN = 0 || f SAFE_SLS_CFG_DISC_T = 0
  else if off = SAFE_SLT_CFG then f SAFE_SLT_CFG_KT_SIGN = 2 || f SAFE_SLT_CFG_MOT_T = 0
  else if off = SAFE_PSF_CFG then
    outside (f SAFE_PSF_CFG_PSF_WDOG) 10 1000 || outside (f SAFE_PSF_CFG_PSF_AGE) 1 500 || outside (f SAFE_PSF_CFG_MATCH_WIN) 1 50
  else false

/-- A recorder or Rake word outside its ranges (15). -/
def recBad (p : Lane) (off : Nat) (w : Word) : Bool :=
  let f (x : Fld) : Nat := bitsOf w x.hi x.lo
  if 0x3A100 ≤ off && off < 0x3A180 then
    let n := f (REC_SLOT_CFG_INDEX 0)
    match f (REC_SLOT_CFG_KIND 0) with
    | 0 => 31 < n
    | 1 => 79 < n
    | 2 => outside n 32 79
    | 3 => 31 < n
    | _ => true
  else if 0x3A200 ≤ off && off < 0x3A400 then
    match off % 0x20 with
    | 0 => 7 < f (REC_TRIG_CFG_TYPE 0)
    | 4 => signed 16 (bitsOf w 31 16) < signed 16 (bitsOf w 15 0)
    | 8 => bitsOf w 23 0 = 0
    | _ => false
  else if off = RAKE_MS_CFG then f RAKE_MS_CFG_PERIOD < 2
  else if 0x3C100 ≤ off && off < 0x3C300 && off % 8 = 4 then p.rd RAKE_MS_CFG_PERIOD < 2 * bitsOf w 31 16
  else false

/-- A word of a mirrored block outside its ranges. -/
def State.laneBad (s p : State) (off : Nat) (w : Word) : Bool :=
  let l := s.lane s.active
  let q := p.lane s.active
  if off < 0x14000 then l.ascBad off w
  else if off < 0x24000 then entryBad l.asc.nInForce (q.entryWords (inst 0x14000 16 off))
  else if off < 0x28000 then q.measBad off w
  else if off < 0x2C000 then q.cleBad off w
  else if off < 0x2E000 then trajBad off w
  else if off < 0x36000 then s.pwmBad q off w
  else if off < 0x3A000 then safeBad off w
  else recBad q off w

/-! ### States (R59, R47, R85, R197, R201, R230, R375, R414, R451) -/

/-- The offset a FIR tap write carries once staged: its SET and TAP, beyond any register (R85). -/
def firOff (key : Nat) : Nat := 2 ^ 32 + key

/-- A channel in CONT or TRIG mode uses a FIR set (R85). -/
def Lane.firUsed (l : Lane) (set : Nat) : Bool :=
  (List.range 32).any fun k => l.rd (MEAS_CH_CFG_MODE k) ≠ 0 && l.rd (MEAS_CH_CFG_FIR k) = set + 1

/-- A unit of the trajectory takes a preset: once its paths have advanced to this boundary and its stops have taken effect it
is IDLE, and no segment that commits at this boundary starts there (R176, R177). -/
def State.presetOk (s : State) (w : Word) : Bool :=
  let u := bitsOf w 4 3
  bitsOf w 31 31 = 0 || ((s.aheadUnit s.active u).idleUnit u && !s.host.segAhead.contains u)

/-- A write enables a leg whose block sequence runs (R195, R230). -/
def State.enablesBlocking (s p : State) : Bool := (List.range 48).any fun g => s.disabled g && !p.disabled g && s.blocking g

/-- A thread is ARMED or SWITCHING. -/
def State.armed (s : State) : Bool := s.anyThread 1 || s.anyThread 2

/-- The write is refused in the present state. -/
def State.writeState (s p : State) (off : Nat) (w : Word) : Bool :=
  let l := s.lane s.active
  if off = ASC_FRAME_CFG then bitsOf w 26 16 ≠ l.rd ASC_FRAME_CFG_N && s.rd SYS_STATE_STATE ≠ 2
  else if off = ASC_S_INC 0 || off = ASC_S_INC 1 || off = ASC_S_INC 2 then s.anyThread 2
  else if off = TRAJ_PRESET_SEL then !s.presetOk w
  else if 0x2E400 ≤ off && off < 0x2EA00 && off % 0x20 = 0 then
    let g := inst 0x2E400 0x20 off
    (w ^^^ l.regs.get off) &&& 0x7F800000 ≠ 0 && !(s.thread (g / 6) = 0 || !s.present (g / 6))
  else if off = PWM_CTRL || off = PWM_LEG_DIS0 || off = PWM_LEG_DIS1 then s.enablesBlocking p
  else if off = GL_RENEG then (List.range 8).any fun t => w.getLsbD t && s.thread t ≠ 0
  else if 0x3A000 ≤ off && off < 0x3C000 then l.recSt ≠ 0 && !(0x3A200 ≤ off && off < 0x3A400 && off % 0x20 = 0x10)
  else if 0x3C100 ≤ off && off < 0x3C300 then l.rec_.inject.any fun j => j.any fun x => x.body.kind = 3 && x.over_.isNone
  else if off = CLK_NDIV then s.rd GRP_STAT_ROLE = 2
  else if off = GRP_CTRL then w.getLsbD 0 && s.rd SYS_STATE_STATE ≠ 2
  else if off = PWR_RESET then w.getLsbD 0 && bitsOf w 31 16 = 0x50F7 && s.armed
  else false

/-- The status of a write to the coherent window, as a WRITE_REGS would receive it (R329, R338, R341): RANGE, LOCKED, STATE
or OK. -/
def State.writeStatus (s p : State) (off : Nat) (v : Word) : Nat :=
  if 2 ^ 32 ≤ off then (if (s.lane s.active).firUsed ((off - 2 ^ 32) / 32) then 0x04 else 0)
  else
    match regDesc off with
    | none => 0x05
    | some d =>
      if d.view || !d.writable || off % 4 ≠ 0 then 0x05
      else
        let w := d.merge (s.regNow off) v
        let w := if d.wo = 0 then w else v
        if (if mirrored off then s.laneBad p off w else s.sluiceBad p off w) then 0x05
        else if d.rwl ≠ 0 && s.on SLC_ENV_LOCK_ENVELOPE_LOCK then 0x07
        else if s.writeState p off w then 0x04
        else 0

end Sys2Proof.Machine
end

