-- ==== Sys2Proof/Machine/RegCommit.lean ====
section
/-! DEFINITION. What register writes do (R12, R329, R330, R470): those that act at once, and those that commit at a frame
boundary. -/
namespace Sys2Proof.Machine

/-- The state that an outcome leaves; a stop would leave the state before it. -/
def orStay (s : State) : Host.Outcome State Fault Refusal → State
  | .next t => t
  | _ => s

/-! ### Writes that act at once (R329) -/

/-- EIC_ROUTEj: bytes that name a TARGET of 34 to 62 are not written, and the refusal is recorded (R329, R359). -/
def State.writeRoute (s : State) (off : Nat) (v : Word) : State :=
  let good := (List.range 4).filter fun b => outside (bitsOf v (8 * b + 5) (8 * b)) 34 62
  let mask := good.foldl (fun m b => m ||| maskOf (8 * b + 7) (8 * b)) (0 : Word)
  let s := { s with regs := s.regs.set off ((s.regs.get off &&& ~~~mask) ||| (v &&& mask)) }
  if good.length = 4 then s else s.mmioRefuse off 0x05

/-- A word of an HQ ring: its configuration, or its base, which an enabled queue keeps (R332). -/
def State.writeRing (s : State) (off : Nat) (v : Word) : State :=
  let k : QueueKind := if off < 0x2300 then .sq else if off < 0x2500 then .cq else .str
  let q := if off < 0x2300 then inst 0x2100 0x20 off else if off < 0x2500 then inst 0x2300 0x20 off else inst 0x2500 0x20 off
  if off % 0x20 = 8 then orStay s (execQueueEnable k q v s)
  else if bitsOf (s.regs.get (cfgOff k q)) 31 31 = 1 then s
  else { s with regs := s.regs.mergeAt off v }

/-- PWR_LAT_TOL is written; below the exit latency of the present state an exit starts (R456, R458). -/
def State.writeLatTol (s : State) (v : Word) : State :=
  let s := { s with regs := s.regs.set PWR_LAT_TOL v }
  if v.toNat < (if s.pwrState = 3 then 9000 else 200) then s.startExit none else s

/-- An RW word, or a W1C word of a Sluice block, is written (R329, R332, R353, R360 to R369, R404 to R410). -/
def State.writeNow (s : State) (who : Writer) (off : Nat) (v : Word) : State :=
  if off = HQ_CFG then orStay s (execIfEn v s)
  else if off = HQ_IF_HOST && s.anyQueue then s
  else if 0x2100 ≤ off && off < 0x2600 then s.writeRing off v
  else if off = EIC_TIMER then orStay s (execTimerWrite v s)
  else if 0x4010 ≤ off && off < 0x401C then orStay s (execPendWrite (inst 0x4010 4 off) v s)
  else if 0x4020 ≤ off && off < 0x402C then s.writeHmask (inst 0x4020 4 off) v
  else if 0x4100 ≤ off && off < 0x4160 then s.writeRoute off v
  else if 0x4200 ≤ off && off < 0x4300 then
    let n := inst 0x4200 8 off
    if off % 8 = 0 then orStay s (execVecIdle n v s) else orStay s (execComplete (.vec n) (bitsOf v 6 0) s)
  else if off = PWR_LAT_TOL then s.writeLatTol v
  else if off = TIME_CTRL then orStay s (execSyncWrite who v s)
  else if off = TIME_INC_NS then orStay s (execTimeIncNs who v s)
  else if 0x9040 ≤ off && off < 0x90C0 then
    let c := inst 0x9040 0x20 off
    if off % 0x20 = 0 then orStay s (execCmpArm who c v s)
    else if off % 0x20 = 4 then orStay s (execCmpTargetWrite who c .sLo v s)
    else if off % 0x20 = 8 then orStay s (execCmpTargetWrite who c .sHi v s)
    else orStay s (execCmpTargetWrite who c .ns v s)
  else { s with regs := s.regs.mergeAt off v }

/-! ### Writes to a lane -/

/-- A word of the angle scheduler. Steps add up; an increment waits for its boundary; sources other than θr have no mode;
a follower's frame source takes no writes of increment, step or load, and θr in ENC or ENCI mode none of step or load; a
JUMP_BT below 2^15 is raised to it; the encoder fields of the other sources read 0 (R47 to R49, R54, R419; R470 gives a
lane's cores CONFIGURE authority for all of these, ASC_S3_INC among them, which R47 calls host software's: log 49). -/
def State.writeAngle (s : State) (i : LaneId) (off : Nat) (v : Word) : State :=
  let old := s.lane i
  let merged := s.setLane i { old with regs := old.regs.mergeAt off v }
  if off < 0x10100 then merged
  else
    let n := inst 0x10100 0x40 off
    let held := s.followsSrc i n
    let fixed := held || old.srcMode n ≠ 0
    match off % 0x40 with
    | 0x08 => if held then s else s.setLane i (old.modSrc n fun a => { a with written := some v })
    | 0x0C => if fixed then s else s.setLane i { old with regs := old.regs.set off (old.regs.get off + v) }
    | 0x10 => if fixed then s else merged
    | 0x14 => if fixed then s else merged
    | 0x18 =>
      let v := if n = 2 then v else v &&& 0xFFFFFFEC
      s.setLane i { old with regs := old.regs.mergeAt off v }
    | 0x20 => if n = 2 then merged else s
    | 0x24 => if n = 2 then merged else s
    | 0x1C => s.setLane i { old with regs := old.regs.mergeAt off (if v.toNat < 0x8000 then 0x8000 else v) }
    | _ => merged

/-- The bits of MEAS_CHk_CFG, DEC and SHIFT whose change clears the channel's filter (R89). -/
def filterBits (off : Nat) : Word := match off % 16 with | 0 => 0xFF003FC0 | 4 => 0x000003FF | 8 => 0x01FFFFFF | _ => 0

/-- The bits of PWM_CGn_CFG, PERIOD, PERREM and PHASE whose change anchors the group (R180). -/
def anchorBits (off : Nat) : Word := match off % 0x20 with | 0 => 0xB0000000 | 4 => 0xFFFFFFFF | 8 => 0xFFFFFFFF | 0xC => 0xFFFFFFFF | _ => 0

/-- A write of a mirrored block takes effect in one lane. -/
def State.laneWrite (s : State) (off : Nat) (v : Word) (i : LaneId) : State :=
  let old := s.lane i
  let l : Lane := { old with regs := old.regs.mergeAt off v }
  let diff := old.regs.get off ^^^ l.regs.get off
  if off < 0x14000 then s.writeAngle i off v
  else if off < 0x24000 then
    let e := inst 0x14000 16 off
    let l := l.outRange l.asc.nInForce e
    s.setLane i (if diff = 0 then l else l.modAsc fun a => { a with rewritten := e :: a.rewritten.filter fun x => x ≠ e })
  else if 0x24400 ≤ off && off < 0x24900 then
    let k := inst 0x24400 16 off
    s.setLane i (if diff &&& filterBits off = 0 then l else l.clearChan k)
  else if 0x28400 ≤ off && off < 0x28900 && off % 8 = 0 then
    s.setLane i (if diff.getLsbD 31 && l.regs.get off ≥ 0x80000000 then l.modCle fun c => c.forgetIn (inst 0x28400 8 off) else l)
  else if 0x2E100 ≤ off && off < 0x2E300 then
    let g := inst 0x2E100 0x20 off
    s.setLane i (if diff &&& anchorBits off = 0 then l else l.anchor g)
  else if 0x36060 ≤ off && off < 0x36070 then
    s.setLane i { l with regs := l.regs.wr ⟨off, 0, 0⟩ 0 }
  else if off = SAFE_PSF_CFG then
    s.setLane i (if !old.on SAFE_PSF_CFG_PSF_EN && l.on SAFE_PSF_CFG_PSF_EN then
        l.modSmon fun m => { m with last := none, unsetSince := s.now, psfTimeout := false }
      else l)
  else s.setLane i l

/-- A word of the measurement block has been written: the trips follow the comparators (R92 to R94). -/
def State.measWritten (s : State) (off : Nat) : State :=
  if 0x24100 ≤ off && off < 0x24180 then s.levelsWritten (inst 0x24100 4 off) else s.updMeasTrip

/-- A lane-only register of a view is written (R373, R392, R453, R470). -/
def State.writeViewOnly (s : State) (i : LaneId) (off : Nat) (v : Word) : State :=
  if off = PWR_WDT_SVC then s.modLane i fun l => { l with wdtAt := s.now }
  else if off = JRNL_FW_CODE then orStay s (execJrnlFwCode i (v.setWidth 16) s)
  else if 0x4300 ≤ off && off < 0x4340 then
    let p := inst 0x4300 0x20 off
    match off % 0x20 with
    | 0 => s.writePairCfg i p v
    | 4 => orStay s (execComplete (.pair i p) (bitsOf v 6 0) s)
    | x => s.writePairMask i p ((x - 8) / 4) v
  else
    let s := match (s.lane i).fwRec with
      | some t => if 0x3E100 ≤ off && off < JRNL_FW_CODE then s.passTo (t + 2000) else s
      | none => s
    s.modLane i fun l => { l with regs := l.regs.mergeAt off v }

/-! ### Commits (R20, R329) -/

/-- MAINT_REQ commits: a request is accepted in READY only; clearing it returns the module to READY (R36). -/
def State.commitMaint (s : State) (req : Bool) : State :=
  let ok := req && (s.mod.maint || s.rd SYS_STATE_STATE = 2)
  ((s.wr SYS_CTRL_MAINT_REQ (b2n ok)).modMod fun m => { m with maint := ok }).updModule 0

/-- A word of a Sluice block commits. -/
def State.sluiceCommit (s : State) (off : Nat) (v : Word) : State :=
  let merged : State := { s with regs := s.regs.mergeAt off v }
  if off = SYS_CTRL then s.commitMaint (v.getLsbD 0)
  else if 0x2600 ≤ off && off < 0x3000 then
    let set := if off < 0x2800 then inst 0x2600 4 off else inst 0x2800 0x100 off
    let s := merged.wr (HQ_SNAP_CFG_LEN set) (merged.snapLen set)
    if off < 0x2800 then s else s.modHost fun h => { h with snaps := h.snaps.set set none }
  else if off = CLK_NDIV then s.writeNdiv v.toNat
  else if off = CLK_DITHER then merged.loadSeed
  else if off = GRP_CTRL then (if v.getLsbD 0 then s.startForming else s)
  else if off = SEC_IF_CFG then merged.wr SEC_VER_STAT_PSF (bitsOf v 1 0)
  else if off = SLC_ENV_LOCK then (if v.getLsbD 0 then merged else s)
  else if 0xC040 ≤ off && off < 0xC060 then
    let n := inst 0xC040 4 off
    orStay merged (execTripInput n (s.faults.tripPin.getLsbD n) merged)
  else if off = SLC_MEAS_TRIP then merged.updMeasTrip
  else if off = GL_RENEG then (numsWhere 8 fun t => v.getLsbD t).foldl State.negotiateThread s
  else if 0x34000 ≤ off && off < 0x34080 && off % 0x20 = 0 then merged.auxConfigured (inst 0x34000 0x20 off)
  else if 0x34000 ≤ off && off < 0x34080 && off % 0x20 = 0x10 then s.setAuxRun (inst 0x34000 0x20 off) (v.getLsbD 0)
  else if off = FIO_DO_OUT then s.commitDo (~~~s.host.ioBits) (v.setWidth 16) true
  else if off = FIO_DO_REARM then s.commitRearm (v.setWidth 16)
  else if off = PWR_RESET then
    (if v.getLsbD 0 && bitsOf v 31 16 = 0x50F7 then s.modPower fun p => { p with softPend := true } else s)
  else merged

/-- A write takes effect at its commit: in both lanes at once where its block is mirrored, a FIR tap at the address it was
staged with, and a word of a lane view in that lane (R12, R20, R85, R97). -/
def State.commitReg (s : State) (who : Writer) (off : Nat) (v : Word) : State :=
  if 2 ^ 32 ≤ off then s.bothLanes fun l => l.modMeas fun m => { m with fir := memWr m.fir (off - 2 ^ 32) (v &&& 0xFFFF) }
  else if 0x40000 ≤ off then
    let i : LaneId := if off < 0x80000 then .a else .b
    s.modLane i fun l => { l with regs := l.regs.mergeAt (off % 0x40000) v }
  else
    match regDesc off with
    | none => s
    | some d =>
      if d.rw ≠ 0 || (d.w1c ≠ 0 && !mirrored off) then s.writeNow who off v
      else if !mirrored off then s.sluiceCommit off v
      else
        let p := (s.laneWrite off v .a).laneWrite off v .b
        if 0x24000 ≤ off && off < 0x28000 then p.measWritten off
        else if 0x36060 ≤ off && off < 0x36070 then p.soRequest (inst 0x36060 4 off) v
        else if 0x2E400 ≤ off && off < 0x2EA00 && off % 0x20 = 0 && (v ^^^ (s.lane s.active).regs.get off) &&& 0x70000000 ≠ 0 &&
            p.present (inst 0x2E400 0x20 off / 6) then
          p.negotiate (inst 0x2E400 0x20 off)
        else if 0x36000 ≤ off && off < 0x38000 then p.updSo.updModule 0
        else p

/-! ### Staging (R85, R329) -/

/-- TAP of MEAS_FIR_ADDR advances within its set (R85). -/
def State.nextTap (s : State) : State := s.wr MEAS_FIR_ADDR_TAP ((s.rd MEAS_FIR_ADDR_TAP + 1) % 32)

/-- The offset under which a write is staged: a write of MEAS_FIR_DATA takes the tap that MEAS_FIR_ADDR names, and TAP
advances at once (R85). -/
def State.stageOff (s : State) (off : Nat) : Nat × State :=
  if off = MEAS_FIR_DATA then (firOff s.firKey, s.nextTap) else (off, s)

/-- A write is staged for the next boundary (R329); with CHECK_FAIL nothing commits, and it is refused (R35). -/
def State.stage (s : State) (off : Nat) (v : Word) : State :=
  if s.on SYS_STATE_CHECK_FAIL then s.mmioRefuse (off % 2 ^ 20) 0x04 else
  let r := s.stageOff off
  r.2.modHost fun h => { h with order := h.order + 1, staged := h.staged ++ [{ order := h.order, off := r.1, val := v }] }

/-- A staged direct write at its boundary: it commits, or is recorded with the status a WRITE_REGS would have received
(R329). -/
def State.commitStaged (s : State) (w : StagedWrite) : State :=
  if 0x40000 ≤ w.off && w.off < 2 ^ 32 then s.commitReg .host w.off w.val
  else
    let st := s.writeStatus (s.mergeWords w.off w.val) w.off w.val
    if st = 0 then s.commitReg .host w.off w.val else s.mmioRefuse (w.off % 2 ^ 20) st

/-! ### Legs disabled and enabled (R195) -/

/-- A leg that a commit disables is turned off in its safe order; one enabled again restarts as OFF in the PWM of both
lanes and in the envelope (R195, R225). `was` lists the legs disabled before it. -/
def State.legChange (s : State) (was : List Nat) (leg : Nat) : State :=
  if s.disabled leg then (if was.contains leg then s else s.blockLeg leg)
  else if was.contains leg then
    (s.bothLanes fun l => l.legOff leg).modFaults fun f =>
      { f with env := f.env.set leg EnvLeg.reset,
               pulseBlock := (if s.thread (leg / 6) = 1 || s.thread (leg / 6) = 2 then f.pulseBlock.set leg false else f.pulseBlock) }
  else s

/-- The legs after the commits that lead from a state to another (R195). -/
def State.legsAfter (s after : State) : State :=
  let was := s.builtLegs.filter s.disabled
  after.builtLegs.foldl (fun s leg => s.legChange was leg) after

/-! ### Lane views (R330, R470) -/

/-- The status of a write to a lane's view: RANGE, LOCKED, or STATE outside MAINT (R330, R341). -/
def State.viewStatus (s : State) (i : LaneId) (off : Nat) (v : Word) : Nat :=
  let one : State := { s with laneA := s.lane i, laneB := s.lane i }
  let st := if viewOnly off then 0 else if mirrored off then one.writeStatus (one.mergeWords off v) off v else 0x05
  if st = 0x05 || st = 0x07 then st else if s.rd SYS_STATE_STATE ≠ 8 then 0x04 else st

/-- A write to a lane's view takes effect there at once; core trims apply from the next boundary (R75, R470). -/
def State.writeView (s : State) (i : LaneId) (off : Nat) (v : Word) : State :=
  if 0x24C00 ≤ off && off < 0x24C80 then s.stage (0x40000 * (LaneId.num i + 1) + off) v
  else if viewOnly off then s.writeViewOnly i off v
  else if 0x24000 ≤ off && off < 0x28000 then (s.laneWrite off v i).measWritten off
  else s.laneWrite off v i

/-- The DEBUG port may write a lane's view: it is open in MFG and SCRAP, else by a token whose SCOPE covers it (R432,
R433). -/
def State.debugView (s : State) (i : LaneId) : Bool :=
  s.rd SEC_LIFECYCLE_STATE ≠ 2 || bitAt (s.rd SEC_LIFECYCLE_DEBUG_SCOPE) (LaneId.num i)

/-- LANE_VIEW_WRITE: a write to a lane-private view, at the offset within it. A lane's cores write their own view: its
lane-only registers always, but for the trims, and all others in MAINT; what is not accepted is discarded. Host software and
the DEBUG port write in MAINT only, else the write is recorded (R330, R433, R470). -/
def execLaneViewWrite (who : Writer) (lane : LaneId) (off : Nat) (v : Word) (s : State) : Host.Outcome State Fault Refusal :=
  let at_ := 0x40000 * (LaneId.num lane + 1) + off
  let st := s.viewStatus lane off v
  .next (if s.mod.phase = .boot then s
    else match coreLane who with
      | some i =>
        let always := viewOnly off && !(0x24C00 ≤ off && off < 0x24C80)
        if i = lane && (always || st = 0) then s.writeView lane off v else s
      | none =>
        if who = .debug && !s.debugView lane then s.mmioRecord at_ 0x03
        else if st ≠ 0 then s.mmioRecord at_ st
        else s.writeView lane off v)

/-! ### Direct writes of the coherent window (R326, R327, R329, R469, R470) -/

/-- A 32-bit write of the coherent window arrives: it acts at once, is staged, or is refused and recorded. A lane's cores have
CONFIGURE authority for ASC_S3_INC too, which R47 calls host software's (R470; DEDUCED, log 49). -/
def State.directWrite (s : State) (who : Writer) (off : Nat) (v : Word) : State :=
  s.heardWrite who off
    (match regDesc off with
      | none => s.mmioRecord off 0x05
      | some d =>
        if d.view || !d.writable then s.mmioRecord off 0x05
        else if d.rw ≠ 0 || (d.w1c ≠ 0 && !mirrored off) then
          if !(0x4100 ≤ off && off < 0x4160) && s.sluiceBad (s.mergeWords off v) off v then s.mmioRefuse off 0x05
          else s.writeNow who off v
        else s.stage off v)

/-- A 32-bit write anywhere in BAR0 (R467). -/
def State.barWrite (s : State) (who : Writer) (off : Nat) (v : Word) : State :=
  if off < 0x40000 then s.directWrite who off v
  else if off < 0x80000 then orStay s (execLaneViewWrite who .a (off - 0x40000) v s)
  else if off < 0xC0000 then orStay s (execLaneViewWrite who .b (off - 0x80000) v s)
  else s

/-- REG_WRITE: a write of BAR0 of `size` bits. A misaligned one, or one of another size, is discarded and recorded; 64 bits
act as two writes, the lower address first (R327). -/
def execRegWrite (who : Writer) (off size : Nat) (v : BitVec 64) (s : State) : Host.Outcome State Fault Refusal :=
  .next (if s.mod.phase = .boot || 0x100000 ≤ off then s
    else if size = 32 && off % 4 = 0 then s.barWrite who off (v.setWidth 32)
    else if size = 64 && off % 8 = 0 then
      (s.barWrite who off (v.setWidth 32)).barWrite who (off + 4) ((v >>> 32).setWidth 32)
    else s.mmioRecord off 0x05)

/-! ### The writes with a row of their own -/

/-- MAINT_REQ: SYS_CTRL is written from a port; one without MAINTAIN authority is ignored (R36, R434). -/
def execMaintReq (p : Port) (v : Word) (s : State) : Host.Outcome State Fault Refusal :=
  .next (match p with
    | .host => s.directWrite .host SYS_CTRL v
    | .service => s.directWrite .host SYS_CTRL v
    | _ => s)

/-- STEP: ASC_Sn_STEP is written (R49). -/
def execAngStep (who : Writer) (src : Nat) (v : Word) (s : State) : Host.Outcome State Fault Refusal :=
  .next (s.directWrite who (ASC_S_STEP src) v)

/-- LOAD: ASC_Sn_LOAD_CTRL is written (R49). -/
def execAngLoad (who : Writer) (src : Nat) (v : Word) (s : State) : Host.Outcome State Fault Refusal :=
  .next (s.directWrite who (ASC_S_LOAD_CTRL src) v)

/-- FIR_DATA_WRITE: MEAS_FIR_DATA is written at the tap that MEAS_FIR_ADDR names, and TAP advances (R85). -/
def execFirDataWrite (who : Writer) (v : Word) (s : State) : Host.Outcome State Fault Refusal :=
  .next (s.directWrite who MEAS_FIR_DATA v)

/-- FIR_DATA_READ: the committed tap at the address in MEAS_FIR_ADDR is read, and TAP advances (R85). -/
def execFirDataRead (_who : Requester) (s : State) : Host.Outcome State Fault Refusal :=
  .next (s.readAfterBoot (s.nextTap.returned [s.readWord MEAS_FIR_DATA]))

/-- PRESET: TRAJ_PRESET_SEL is written (R176). -/
def execPreset (who : Writer) (sel : Word) (s : State) : Host.Outcome State Fault Refusal :=
  .next (s.directWrite who TRAJ_PRESET_SEL sel)

/-- LEG_DIS: PWM_LEG_DIS0 or PWM_LEG_DIS1 is written (R195). -/
def execLegDis (who : Writer) (upper : Bool) (v : Word) (s : State) : Host.Outcome State Fault Refusal :=
  .next (s.directWrite who (if upper then PWM_LEG_DIS1 else PWM_LEG_DIS0) v)

/-- DIS_ALL: PWM_CTRL is written (R195). -/
def execDisAll (who : Writer) (v : Word) (s : State) : Host.Outcome State Fault Refusal :=
  .next (s.directWrite who PWM_CTRL v)

/-- GL_RENEG is written (R201). -/
def execGlReneg (who : Writer) (v : Word) (s : State) : Host.Outcome State Fault Refusal :=
  .next (s.directWrite who GL_RENEG v)

/-- RUN: AUX_CHn_CTRL is written (R212). -/
def execAuxRun (who : Writer) (ch : Nat) (v : Word) (s : State) : Host.Outcome State Fault Refusal :=
  .next (s.directWrite who (AUX_CH_CTRL ch) v)

/-- ENVELOPE_LOCK: SLC_ENV_LOCK is written (R219). -/
def execEnvelopeLock (who : Writer) (v : Word) (s : State) : Host.Outcome State Fault Refusal :=
  .next (s.directWrite who SLC_ENV_LOCK v)

/-- SO_REQ: SAFE_SOn_CTRL is written (R294). -/
def execSoReq (who : Writer) (n : Nat) (v : Word) (s : State) : Host.Outcome State Fault Refusal :=
  .next (s.directWrite who (SAFE_SO_CTRL n) v)

/-- DO_OUT: FIO_DO_OUT is written (R314). -/
def execDoOut (who : Writer) (v : Word) (s : State) : Host.Outcome State Fault Refusal :=
  .next (s.directWrite who FIO_DO_OUT v)

/-- DO_REARM: FIO_DO_REARM is written (R323). -/
def execDoRearm (who : Writer) (v : Word) (s : State) : Host.Outcome State Fault Refusal :=
  .next (s.directWrite who FIO_DO_REARM v)

/-- CLK_NDIV is written (R398). -/
def execClkNdiv (who : Writer) (v : Word) (s : State) : Host.Outcome State Fault Refusal :=
  .next (s.directWrite who CLK_NDIV v)

/-- CLK_DITHER is written (R399). -/
def execClkDither (who : Writer) (v : Word) (s : State) : Host.Outcome State Fault Refusal :=
  .next (s.directWrite who CLK_DITHER v)

/-- RESTART: GRP_CTRL is written (R414). -/
def execGrpRestart (who : Writer) (v : Word) (s : State) : Host.Outcome State Fault Refusal :=
  .next (s.directWrite who GRP_CTRL v)

/-- SOFT_RESET: PWR_RESET is written; it is staged like an RWS write (R451). -/
def execSoftReset (who : Writer) (v : Word) (s : State) : Host.Outcome State Fault Refusal :=
  .next (s.directWrite who PWR_RESET v)

/-- WDT_SERVICE: a lane's firmware serves its watchdog (R453). -/
def execWdtService (lane : LaneId) (s : State) : Host.Outcome State Fault Refusal :=
  .next (s.writeViewOnly lane PWR_WDT_SVC 0)

end Sys2Proof.Machine
end

