-- ==== Sys2Proof/Machine/Security.lean ====
section
/-! DEFINITION. Security (17): packages and their checks (R422, R423, R427), slots (R424, R425), FW_STAGE (R426, R428),
quotes (R429 to R431), lifecycle and debug token (R432, R433), port authority (R434 to R436). -/
namespace Sys2Proof.Machine

/-! ### Packages (R422, R423, R427) -/

/-- The device ID (R429). -/
def State.deviceId (s : State) : BitVec 128 :=
  s.regs.get (SEC_DEV_ID 3) ++ s.regs.get (SEC_DEV_ID 2) ++ s.regs.get (SEC_DEV_ID 1) ++ s.regs.get (SEC_DEV_ID 0)

/-- The debug nonce (R433). -/
def State.nonce (s : State) : DWord := s.regs.get SEC_DEBUG_NONCE1 ++ s.regs.get SEC_DEBUG_NONCE0

/-- The envelope values of a package put in force. PKG_VER shows the package's version as SEC_SLOT_VER does, the major in its
high half (R220, R422; DEDUCED, log 15). -/
def State.putEnvelope (s : State) (ver : Nat) (dt pulse edge inner : Nat) (clamp : Bool) (bsOn bsOff corrMax : Nat) : State :=
  let s := ((s.wr SLC_ENV_DT_ENV_DT dt).wr SLC_ENV_PULSE_ENV_PULSE pulse).wr SLC_ENV_PULSE_ENV_EDGE edge
  let s := (s.wr SLC_ENV_INNER_INNER_DELAY inner).wr SLC_ENV_INNER_ANPC_CLAMP (b2n clamp)
  let s := ((s.wr SLC_ENV_BS_ENV_BS_ON bsOn).wr SLC_ENV_BS_ENV_BS_OFF bsOff).wr SLC_ENV_CORR_ENV_CORR_MAX corrMax
  s.wr SLC_ENV_LOCK_PKG_VER ver

/-- The OTP minima (R218). -/
def State.putMinima (s : State) (dt pulse edge inner : Nat) : State :=
  (((s.wr SLC_ENV_OTP_DT_MIN dt).wr SLC_ENV_OTP_PULSE_MIN pulse).wr SLC_ENV_OTP_EDGE_MIN edge).wr SLC_ENV_OTP_INNER_MIN inner

/-- The words of the safety parameters put in force (R274, R439). -/
def State.putSafety (s : State) (regs : List (Nat × Word)) : State := regs.foldl (fun s p => s.mergeWords p.1 p.2) s

/-- The register is a safety parameter: an RWL word of the SAFE block, or PSF_VER (R274, R439). -/
def safetyParam (off : Nat) : Bool :=
  off = SEC_IF_CFG || (0x36000 ≤ off && off < 0x38000 && (match regDesc off with | some d => d.rwl ≠ 0 | none => false))

/-- A number fits a field. -/
def fits (x : Fld) (v : Nat) : Bool := v < 2 ^ (x.hi + 1 - x.lo)

/-- The type's own checks (R220, R274, R427, R433, R438). -/
def State.ownChecks (s : State) (pkg : Package) : Bool :=
  match pkg.type, pkg.content with
  | 1, .sluiceConfig => true
  | 2, .firmware _ => true
  | 3, .library maj _ => maj = 1
  | 4, .config _ _ => true
  | 5, .envelope dt pulse edge inner clamp bsOn bsOff corrMax =>
    let p := s.putEnvelope (16 * pkg.verMaj.toNat + pkg.verMin.toNat) dt pulse edge inner clamp bsOn bsOff corrMax
    fits SLC_ENV_DT_ENV_DT dt && fits SLC_ENV_DT_ENV_DT pulse && fits SLC_ENV_DT_ENV_DT edge && fits SLC_ENV_DT_ENV_DT inner &&
      fits SLC_ENV_DT_ENV_DT bsOn && fits SLC_ENV_DT_ENV_DT bsOff && fits SLC_ENV_DT_ENV_DT corrMax && bsOn ≠ 0 &&
      !p.envBad && !p.lockBad
  | 6, .safety regs =>
    regs.all fun r => safetyParam r.1 &&
      (let w := (s.putSafety regs).regNow r.1
       if r.1 = SEC_IF_CFG then bitsOf w 1 0 = 1 || bitsOf w 1 0 = 2 else !safeBad r.1 w)
  | 7, .otpMin dt pulse edge inner =>
    let p := s.putMinima dt pulse edge inner
    dt < 256 && pulse < 256 && edge < 256 && inner < 256 && s.rd SLC_ENV_OTP_DT_MIN ≤ dt &&
      s.rd SLC_ENV_OTP_PULSE_MIN ≤ pulse && s.rd SLC_ENV_OTP_EDGE_MIN ≤ edge && s.rd SLC_ENV_OTP_INNER_MIN ≤ inner &&
      !p.envBad && !p.lockBad
  | 8, .debugToken nonce _ minutes => nonce = s.nonce && 1 ≤ minutes && minutes ≤ 1440
  | 9, .scrap => true
  | _, _ => false

/-- The counter of a type, where it has one. -/
def State.svnFloor (s : State) (type : Nat) : Nat := if 1 ≤ type && type ≤ 7 then s.rd (SEC_ARB_C (type - 1)) else 0

/-- Steps 1 to 8 of R423: the first that fails, or 0. -/
def State.checkStep8 (s : State) (type : Nat) (pkg : Package) : Nat :=
  if !pkg.layoutOk || pkg.type ≠ type || 128 < pkg.svn || 2 ^ 20 < 8672 + pkg.len then 1
  else if !pkg.rootOk then 2
  else if 15 < pkg.keyIdx || bitAt (s.rd SEC_REVOKE_KEY) pkg.keyIdx || !bitAt pkg.keyUsage.toNat type then 3
  else if !pkg.keySigOk then 4
  else if !pkg.pkgSigOk then 5
  else if pkg.device ≠ s.deviceId && (pkg.device ≠ 0 || 7 ≤ type) then 6
  else if !pkg.hashOk then 7
  else if pkg.svn < s.svnFloor type then 8
  else 0

/-- The first step of R423 that a package fails, or 0. -/
def State.checkStep (s : State) (type : Nat) (pkg : Package) : Nat :=
  let n := s.checkStep8 type pkg
  if n ≠ 0 then n else if s.ownChecks pkg then 0 else 9

/-! ### Slots (R424 to R427) -/

/-- The package that a slot holds. -/
def State.slotPkg (s : State) (t b : Nat) : Option Package := (if b = 1 then s.sec.slotB else s.sec.slotA).getD t none

/-- The package in force of a type. -/
def State.inForce (s : State) (t : Nat) : Option Package := s.slotPkg t (s.rd (SEC_SLOT_IN_FORCE t))

/-- The ticks of a package check: 2.4 ms, and 1 ms per MiB of payload (R423). -/
def checkTicks (pkg : Package) : Nat := 960000 + 400000 * pkg.len / 2 ^ 20

/-- The ticks by which a slot write ends after its check at the latest: what the check leaves of 10 ms and of 8 ms per MiB of
the package (R428). -/
def writeTicks (pkg : Package) : Nat := 4000000 + 3200000 * (8672 + pkg.len) / 2 ^ 20 - checkTicks pkg

/-- The write of a checked package to the slot not in force begins: the slot is EMPTY, and PREFERRED the slot in force, until it
ends after a time that the rule bounds (R426, R428). -/
def State.startWrite (s : State) (c : Cmd) (type : Nat) (pkg : Package) : State :=
  let t := type - 1
  let b := s.rd (SEC_SLOT_IN_FORCE t)
  let f := s.fresh
  let s := f.2.modSec fun x =>
    { x with slotA := (if b = 1 then x.slotA.set t none else x.slotA), slotB := (if b = 1 then x.slotB else x.slotB.set t none),
             writing := x.writing ++ [{ cmd := some c, type := type, pkg := pkg, until_ := s.now + f.1.toNat % (writeTicks pkg + 1) }] }
  (s.wr (slotFld t (1 - b)) 0).wr (SEC_SLOT_PREFERRED t) b

/-- A checked package goes to the slot not in force: STAGED, FAIL_CNT 0, and PREFERRED (R426). -/
def State.writeSlot (s : State) (t : Nat) (pkg : Package) : State :=
  let b := 1 - s.rd (SEC_SLOT_IN_FORCE t)
  let s := s.modSec fun x =>
    if b = 1 then { x with slotB := x.slotB.set t (some pkg) } else { x with slotA := x.slotA.set t (some pkg) }
  ((s.wr (slotFld t b) 1).wr (SEC_SLOT_FAIL_CNT t) 0).wr (SEC_SLOT_PREFERRED t) b

/-! ### Completion of FW_STAGE and ATTEST -/

/-- SEC_LAST and the completion of an ATTEST (type 0) or FW_STAGE; a failed step is recorded, and a completed FW_STAGE
raises SEC with the status (R423, R428). -/
def State.secDone (s : State) (c : Cmd) (type step : Nat) (r : Result) : State :=
  let s := ((s.wr SEC_LAST_STATUS r.status).wr SEC_LAST_TYPE type).wr SEC_LAST_STEP step
  let s := if step ≠ 0 then s.journalAdd 0x09 step 0 [BitVec.ofNat 8 type] else s
  let s := if type ≠ 0 then s.raise 65 r.status else s
  s.complete c r

/-- ATTESTs that wait for the engine: those behind the operation it works on (R431). -/
def State.attWaiting (s : State) : Nat :=
  (s.sec.queue.drop 1).countP fun o => match o with | .sign _ _ => true | .check _ _ _ _ => false

/-- SEC_ATT_STAT.QUEUED follows the engine's queue. -/
def State.updEngine (s : State) : State := s.wr SEC_ATT_STAT_QUEUED s.attWaiting

/-- An operation joins the engine's queue; an idle engine takes it up at once (R428). -/
def State.engineAdd (s : State) (o : EngOp) : State :=
  (s.modSec fun x => { x with queue := x.queue ++ [o], engineAt := (if x.queue.isEmpty then s.now else x.engineAt) }).updEngine

/-- The engine ends its operation after a number of ticks, and takes up the next (R428). -/
def State.engineNext (s : State) (ticks : Nat) : State :=
  let s := s.passTo (s.sec.engineAt + ticks)
  (s.modSec fun x => { x with queue := x.queue.tail, engineAt := s.now }).updEngine

/-! ### The debug token (R433) -/

/-- DEBUG_MIN shows the minutes left, rounded up: one minute is 24 × 10^9 ticks. -/
def State.updToken (s : State) : State :=
  match s.sec.tokenEnd with
  | some t => s.wr SEC_LIFECYCLE_DEBUG_MIN ((t - s.now + 23999999999) / 24000000000)
  | none => s

/-- DEBUG_TOKEN_EXPIRY: the validity of the token ends (R433). -/
def execDebugTokenExpiry (s : State) : Host.Outcome State Fault Refusal :=
  .next (match s.sec.tokenEnd with
    | none => s
    | some t => (s.passTo t).endToken)

/-- An accepted token: in force for its minutes, with a new nonce. -/
def State.acceptToken (s : State) (scope : BitVec 4) (minutes : Nat) : State :=
  let s := s.renewNonce.modSec fun x => { x with tokenEnd := some (s.now + minutes * 24000000000) }
  ((s.wr SEC_LIFECYCLE_DEBUG_MIN minutes).wr SEC_LIFECYCLE_DEBUG_SCOPE scope.toNat).wr SEC_LIFECYCLE_DEBUG_OPEN 1

/-! ### Package checks (R423, R426, R428) -/

/-- A checked package takes effect where its type needs no boundary, or waits for the next one (R220, R274, R426, R432,
R433). -/
def State.checkedPkg (s : State) (c : Cmd) (type : Nat) (pkg : Package) : State :=
  if type ≤ 4 then s.startWrite c type pkg
  else match pkg.content with
    | .debugToken _ scope minutes =>
      if s.allOff then (s.acceptToken scope minutes).secDone c type 0 .ok else s.secDone c type 0 (.of 0x04)
    | _ => s.modSec fun x => { x with waiting := x.waiting ++ [(c, pkg)] }

/-- The slot writes that have ended: the slots are STAGED, and their commands complete (R426, R428). -/
def State.endWrites (s : State) : State :=
  let done := s.sec.writing.filter fun w => w.until_ ≤ s.now
  done.foldl (fun s w =>
    let s := s.writeSlot (w.type - 1) w.pkg
    match w.cmd with
    | some c => s.secDone c w.type 0 .ok
    | none => s) (s.modSec fun x => { x with writing := x.writing.filter fun w => s.now < w.until_ })

/-- PACKAGE_CHECK_DONE: the engine ends a package check (R423, R428). -/
def execPackageCheckDone (s : State) : Host.Outcome State Fault Refusal :=
  .next (match s.sec.queue with
    | .check c type _ pkg :: _ =>
      let s := s.engineNext (checkTicks pkg)
      let n := s.checkStep type pkg
      if n ≠ 0 then s.secDone c type n { status := 0x08, detail := 4, index := 0 } else s.checkedPkg c type pkg
    | _ => s)

/-- A waiting package at the boundary: with every configured thread OFF it applies, else it completes with STATE (R220,
R274, R426, R432). -/
def State.applyPkg (s : State) (c : Cmd) (pkg : Package) : State :=
  if !s.allOff then s.secDone c pkg.type 0 (.of 0x04)
  else
    let s := match pkg.content with
      | .envelope dt pulse edge inner clamp bsOn bsOff corrMax =>
        s.putEnvelope (16 * pkg.verMaj.toNat + pkg.verMin.toNat) dt pulse edge inner clamp bsOn bsOff corrMax
      | .safety regs => ((s.putSafety regs).wr SEC_VER_STAT_PSF ((s.putSafety regs).rd SEC_IF_CFG_PSF_VER)).updSo.updModule 0
      | .otpMin dt pulse edge inner => s.putMinima dt pulse edge inner
      | .scrap =>
        ((s.modSec fun x => { x with identity := false }).wr SEC_LIFECYCLE_STATE 3).wr SEC_LIFECYCLE_DEBUG_OPEN 1
      | _ => s
    s.secDone c pkg.type 0 .ok

/-- The packages that wait for the boundary. -/
def State.applyPackages (s : State) : State :=
  let ws := s.sec.waiting
  ws.foldl (fun s w => s.applyPkg w.1 w.2) (s.modSec fun x => { x with waiting := [] })

/-- FW_STAGE passed to the engine, or a COMMIT carried out: the counter of the type rises to the SVN of the PROVEN slot in
force (R426, R427). -/
def State.fwStage (s : State) (c : Cmd) (type action : Nat) (pkg : Package) : State :=
  if action = 1 then s.engineAdd (.check c type action pkg)
  else
    let t := type - 1
    if s.rd (slotFld t (s.rd (SEC_SLOT_IN_FORCE t))) ≠ 2 then s.secDone c type 0 (.of 0x04)
    else (s.wr (SEC_ARB_C t) (max (s.rd (SEC_ARB_C t)) (s.rd (SEC_SLOT_SVN t)))).secDone c type 0 .ok

/-! ### Quotes (R429 to R431) -/

/-- The 64 bytes of a package's PAYLOAD_HASH; without a package in force, the hash of no bytes. -/
def State.measure (s : State) (t : Nat) : List Byte :=
  match s.inForce t with
  | some p => leBytes 64 p.hash.toNat
  | none => Config.shake256 []

/-- Bytes 0 to 543 of a quote. -/
def State.quoteBody (s : State) (nonce : List Byte) : List Byte :=
  let flags := s.rd SEC_LIFECYCLE_DEBUG_OPEN + 2 * s.rd SYS_STATE_SINGLE_LANE + 4 * s.rd SEC_LIFECYCLE_ENG + 8 * b2n s.noTime
  let envelope := (List.range 6).flatMap fun k => bytesOf (s.regs.get (SLC_ENV_DT + 4 * k))
  let safety := (List.range 64).flatMap fun k =>
    if safetyParam (SAFE_CFG + 4 * k) then bytesOf ((s.lane s.active).regs.get (SAFE_CFG + 4 * k)) else []
  let slots := (List.range 4).foldl (fun a t => a + s.rd (SEC_SLOT_IN_FORCE t) * 2 ^ t) 0
  leBytes 2 1 ++ leBytes 1 (s.rd SEC_LIFECYCLE_STATE) ++ leBytes 1 flags ++ leBytes 4 3853 ++ leBytes 16 s.deviceId.toNat ++
    padTo 32 0 nonce ++ leBytes 8 s.mod.tally.toNat ++ leBytes 6 s.clock.sec.toNat ++ leBytes 4 s.clock.ns ++ leBytes 6 0 ++
    ((List.range 8).map fun k => BitVec.ofNat 8 (s.rd (SEC_ARB_C k))) ++ leBytes 1 slots ++ leBytes 7 0 ++
    padTo 64 0 (s.measure 0) ++ padTo 64 0 (s.measure 1) ++ padTo 64 0 (s.measure 2) ++ padTo 64 0 (s.measure 3) ++
    padTo 64 0 (Config.shake256 envelope) ++ padTo 64 0 (Config.shake256 (bytesOf (s.regs.get SEC_IF_CFG) ++ safety)) ++
    padTo 64 0 (Config.otpDigest ([SEC_LIFECYCLE, SEC_REVOKE, SEC_ARB0, SEC_ARB1, SLC_ENV_OTP].map s.regs.get))

/-- Bytes returned to the sender of a command: in its data buffer, or in data fragments on its port to the source address
of its frame (R340, R437). -/
def State.returnData (s : State) (c : Cmd) (bytes : List Byte) : State :=
  if 16 ≤ c.hdr.sq then s.modSec fun y => { y with netData := (c.hdr.sq, c.netSrc, c.xid, bytes) :: y.netData }
  else s.modHost fun h => { h with writes := { addr := c.hdr.dataAddr, bytes := bytes } :: h.writes }

/-- An accepted ATTEST: a certificate at once, a quote through the engine (R430). -/
def State.attest (s : State) (c : Cmd) (nonce : List Byte) (mode : Nat) : State :=
  if mode = 1 then
    (s.returnData c (leBytes 4 Config.certificate.length ++ Config.certificate)).secDone c 0 0 .ok
  else s.engineAdd (.sign c (s.quoteBody nonce))

/-- The microseconds of a signing: 0.6 ms, and 0.68 ms for each of at most 256 rounds (R431). -/
def signMicros (rounds : Nat) : Nat := 600 + 680 * min rounds 256

/-- SIGNING_DONE: the engine ends a signing of some rounds, and the ATTEST completes within 1 ms of it, `late` µs after.
Beyond 256 rounds there is no quote (R431; log 37). -/
def execSigningDone (rounds late : Nat) (s : State) : Host.Outcome State Fault Refusal :=
  let millis := (signMicros rounds + 999) / 1000
  .next (match s.sec.queue with
    | .sign c body :: _ =>
      let s := s.engineNext (400 * signMicros rounds)
      let s := (s.passTo (s.now + 400 * min late 1000)).modSec fun x => { x with nonces := x.nonces + 1 }
      let s := s.wr SEC_LAST_ROUNDS (min rounds 0xFF)
      let s := (s.wr SEC_ATT_STAT_LAST_MS (min millis 0xFF)).wr SEC_ATT_STAT_MAX_MS
        (max (s.rd SEC_ATT_STAT_MAX_MS) (min millis 0xFF))
      if 256 < rounds then s.secDone c 0 0 { status := 0x0B, detail := 3, index := 0 }
      else (s.returnData c (body ++ padTo 3309 0 (Config.signature body s.sec.nonces))).secDone c 0 0 .ok
    | _ => s)

/-! ### Port authority (R434 to R436) -/

/-- The port of a command. -/
def portOf (sq : Nat) : Port := if sq < 16 then .host else if sq = 16 then .farmA else if sq = 17 then .farmB else .service

/-- Authority classes. -/
inductive AuthClass where
  | operate | configure | tune | maintain | safety | observe
deriving DecidableEq, Repr

/-- The authority of the ports (R434). -/
def portHas (p : Port) (a : AuthClass) : Bool :=
  match p, a with
  | .host, .safety => false
  | .host, _ => true
  | .farmA, .operate => true
  | .farmA, .observe => true
  | .farmB, .operate => true
  | .farmB, .observe => true
  | .service, _ => true
  | _, _ => false

/-- The class of a register for WRITE_REGS (R435). -/
def regClass (off : Nat) : AuthClass :=
  if off = SYS_CTRL || 0x40000 ≤ off then .maintain else if needsMore off then .operate else .configure

/-- The class that an opcode needs; WRITE_REGS has one for each pair (R435). -/
def cmdClass : HostCmd → Option AuthClass
  | .nop => some .observe
  | .readSnapshot _ _ _ => some .observe
  | .recArm => some .observe
  | .recStop => some .observe
  | .rakeStart _ => some .observe
  | .journalRead _ _ _ => some .observe
  | .attest _ _ _ => some .observe
  | .setSetpoint _ => some .operate
  | .trajSegment _ => some .operate
  | .trajStop _ => some .operate
  | .setMode _ _ => some .operate
  | .arm _ => some .operate
  | .disarm _ => some .operate
  | .ioWrite _ _ => some .operate
  | .clearFault _ _ _ => some .operate
  | .groupStart _ _ => some .operate
  | .loadCoeff _ _ _ _ => some .tune
  | .swapBank _ _ => some .tune
  | .injectStart _ => some .tune
  | .loadProgram _ => some .configure
  | .schedWrite _ _ => some .configure
  | .timeAdjust _ _ _ => some .configure
  | .laneControl _ _ => some .maintain
  | .fwStage _ _ _ => some .maintain
  | .lockoutReset _ => some .safety
  | .writeRegs _ _ => none
  | .bad _ => none

/-- The authority check of a command: its refusal, where it has one; for WRITE_REGS with the first refused pair (R435,
R436). The package types 0x05, 0x06, 0x07 and 0x09 come from SERVICE only (R422, R426). -/
def authCheck (sq : Nat) (c : HostCmd) : Option Result :=
  let p := portOf sq
  match c with
  | .writeRegs _ pairs =>
    (pairs.findIdx? fun x => !portHas p (regClass x.1)).map fun k => { status := 0x03, detail := 0, index := k }
  | .fwStage type _ _ =>
    if !portHas p .maintain || ((type = 5 || type = 6 || type = 7 || type = 9) && p ≠ .service) then some (.of 0x03) else none
  | c => match cmdClass c with
    | some a => if portHas p a then none else some (.of 0x03)
    | none => none

/-- A refusal for want of authority is recorded in the journal; further ones of the same opcode on the same port within
1 s are counted, and the count goes into the next record (R436). -/
def State.noteAuth (s : State) (c : Cmd) : State :=
  let p := portOf c.hdr.sq
  let op := HostCmd.opcode c.cmd
  let mine := fun (w : RefWin) => w.port = p && w.opcode = op
  match s.sec.wins.find? mine with
  | some w =>
    if s.now < w.since + 400000000 then
      s.modSec fun x => { x with wins := x.wins.map fun w => if mine w then { w with count := w.count + 1 } else w }
    else record s p op w.count
  | none => record s p op 0
where
  record (s : State) (p : Port) (op count : Nat) : State :=
    let n := match p with | .host => 0 | .farmA => 1 | .farmB => 2 | .service => 3 | .debug => 4
    let s := s.modSec fun x =>
      { x with wins := { port := p, opcode := op, since := s.now, count := 0 } :: x.wins.filter fun w => !(w.port = p && w.opcode = op) }
    s.journalAdd 0x07 0x03 0 ([BitVec.ofNat 8 n, BitVec.ofNat 8 op] ++ leBytes 2 c.hdr.cmdId.toNat ++ leBytes 4 count)

end Sys2Proof.Machine
end

