-- ==== Sys2Proof/Machine/Power.lean ====
section
/-! DEFINITION. Power, resets and start-up (18): the resets of the module and of the endpoint (R354, R450, R454, R455, R461,
R462, R496), boot and start-up (R34, R35, R395, R424, R425, R463, R464), hold-up and brown-out (R445 to R449), power states
(R456 to R460) and the wake island (R368). -/
namespace Sys2Proof.Machine

/-! ### What a module-scope reset leaves (R461, R462) -/

/-- A core trim, which each lane holds for itself (R97). -/
def trimOff (off : Nat) : Bool := 0x24C00 ≤ off && off < 0x24C80

/-- The registers of a lane after a module-scope reset: what MRAM holds, which is what the active lane held, the
FIR taps among it (R13, R97), with the lane's own trims. -/
def State.laneKept (s : State) (mask : Nat → Word) (l : Lane) : Lane :=
  { Lane.reset with regs := ((s.lane s.active).storedInc.keep mask).take (l.regs.keep mask) trimOff,
                    meas := { Meas.reset with fir := (s.lane s.active).meas.fir },
                    smon := { Smon.reset with unsetSince := s.now } }

/-- The words that a lane gives the Sluice's mirror (R328). -/
def mirrorOf (f : RegFile) : RegFile := f.filter fun p => mirrored p.1 && !viewOnly p.1

/-- The Sluice's registers after a module-scope reset: those kept, and what OTP, pins and packages give. -/
def State.sluiceKept (s : State) (mask : Nat → Word) : RegFile :=
  let f := s.regs.keep mask
  let f := ((f.wr SEC_LIFECYCLE_STATE (s.rd SEC_LIFECYCLE_STATE)).wr SEC_LIFECYCLE_ENG (s.rd SEC_LIFECYCLE_ENG)).wr
    SEC_LIFECYCLE_DEBUG_OPEN (b2n (s.rd SEC_LIFECYCLE_STATE ≠ 2))
  let f := (f.set SLC_ENV_OTP (s.regs.get SLC_ENV_OTP)).wr GRP_STAT_ID (s.rd GRP_STAT_ID)
  let f := f.wr SEC_VER_STAT_PSF (f.rd SEC_IF_CFG_PSF_VER)
  if s.faults.classL then f.wr SLC_LOCKOUT_STAT_CAUSE_ACTIVE 1 else f

/-- The key of the cause that a class L record of MRAM stands for; causes that arise after the boot have keys of their own. -/
def recordKey : Nat := 256

/-- The causes that a class L record of MRAM stands for until the end of CHECK (R244). -/
def State.lockCauses (s : State) : List Cause :=
  if s.faults.classL then
    [{ code := s.rd SLC_LOCKOUT_STAT_CAUSE, cls := 2, scope := .module, key := recordKey, leg := none, active := true, lastActive := s.now }]
  else []

/-- The Field die keeps its own copies; its outputs take their SAFE states, and safety outputs go off (R310, R312, R462). -/
def FieldDie.cut (f : FieldDie) (now : Nat) : FieldDie :=
  { f with doHold := f.doOn, silentS := true, takeBack := false, release := 0, rearm := 0,
           sos := f.sos.map fun o => { So.reset with testDue := now, forced := o.forced, lastLane := o.lastLane } }

/-- Everything of the Sluice and both lanes that a module-scope reset loses is at its reset value; `sticky` keeps class S as
well (R450, R461, R462). What a log of the model holds, and the packages, MRAM, OTP, Crust and the Field die, stay. -/
def State.moduleReset (s : State) (sticky : Bool) : State :=
  let mask := if sticky then classPS else classP
  let a := s.laneKept mask s.laneA
  let b := s.laneKept mask s.laneB
  let ptp := if sticky then s.clock else { Clock.reset with refPresent := s.clock.refPresent }
  let t : State :=
    { s with
      regs := s.sluiceKept mask
      mirror := mirrorOf a.regs
      laneA := a
      laneB := b
      mod := { ModState.reset with tally := s.mod.tally, recorded := s.mod.recorded }
      host := { HostIf.reset with completions := s.host.completions, writes := s.host.writes, entries := s.host.entries }
      eic := { Eic.reset with msgs := s.eic.msgs, pmes := s.eic.pmes, linkState := s.eic.linkState }
      journal := { s.journal with queue := [], evCount := 0 }
      faults := { Faults.reset with classL := s.faults.classL, lockTag := s.faults.lockTag, tripPin := s.faults.tripPin,
                                    ackLevel := s.faults.ackLevel, ackLowSince := s.faults.ackLowSince,
                                    causes := s.lockCauses, winAt := s.now }
      duplex := { Duplex.reset with repeats := s.duplex.repeats }
      gl := { Gl.reset with sent := s.gl.sent }
      aux := List.replicate 4 Aux.reset
      field := s.field.cut s.now
      safe := { Safe.reset with statusSent := s.safe.statusSent }
      clock := { ptp with nInForce := 0x80000000, nWait := none, nAt := 0, latch := [], stamps := List.replicate 3 [],
                          lateArm := List.replicate 4 none }
      grp := { Grp.reset with sent := s.grp.sent }
      sec := { s.sec with queue := [], writing := [], waiting := [], wins := [], tokenEnd := none } }
  t.updSo.updDo.renewNonce

/-- The Sluice enters reset and stays there (R445, R454). -/
def State.enterReset (s : State) (cause : Nat) : State :=
  (s.moduleReset (cause = 3 || cause = 4 || cause = 6)).modPower fun p =>
    { p with shutdown := none, heldReset := none, inReset := true, nextCause := cause, softPend := false, exiting := none,
             wakeSlot := none }

/-! ### Boot (R40, R395, R463) -/

/-- The Crust header as its bytes (R393). -/
def Crust.header (c : Crust) : List Byte :=
  let mask := 2 ^ c.slots.length - 1
  let b := leBytes 2 0xC7A5 ++ [c.flags, BitVec.ofNat 8 mask] ++ leBytes 8 c.tally.toNat ++ leBytes 6 c.sec ++ leBytes 4 c.ns ++
    leBytes 6 0
  b ++ bytesOf (crc32c 0xFFFFFFFF b)

/-- Fresh open bytes: n words of four. -/
def State.freeBytes : Nat → State → List Byte × State
  | 0, s => ([], s)
  | n + 1, s =>
    let f := s.fresh
    let r := State.freeBytes n f.2
    (bytesOf f.1 ++ r.1, r.2)

/-- Crust is read: valid slots whose SEQ the journal does not hold are committed with flag CRUST, the BOOT record carries the
header, JRNL_CRUST its flags, and PL, SHUT_DONE and the slots are cleared. A Crust that lost VBAT is reinitialised (R395). -/
def State.readCrust (s : State) : State :=
  let c := s.journal.crust
  if c.valid then
    let rs := c.slots.filter fun r => !s.journal.store.any fun x => x.seq = r.seq
    let s := (rs.foldl (fun s r => s.commitRecord { r with flags := r.flags ||| 1 }) s).updJrnl
    let s := (s.wr JRNL_STAT_RESTORED rs.length).modJournal fun j =>
      { j with crust := { j.crust with flags := j.crust.flags &&& 0xFC, slots := [] } }
    (s.wr JRNL_CRUST_FLAGS c.flags.toNat).journalAdd 0x08 0x0001 0 c.header
  else
    let s := (s.wr JRNL_STAT_CRUST_LOST 1).modJournal fun j => { j with crust := Crust.reset }
    let f := State.freeBytes 8 s
    (f.2.wr JRNL_CRUST_FLAGS (f.1.getD 2 0).toNat).journalAdd 0x08 0x0001 0 f.1

/-- Boot with a cause of PWR_RST: the part is in BOOT, Tally takes its boot value, Crust is read, and the RESET record is
written (R34, R40, R395, R462, R466). The trip inputs and the brown-out detector show what stands at their pins. -/
def State.boot (s : State) (cause : Nat) (stuck : Bool) (lowMs : Nat) : State :=
  let s := s.moduleReset (cause = 3 || cause = 4 || cause = 6)
  let s := s.modPower fun p =>
    { Power.reset with pgood := p.pgood, nextCause := cause, warnSince := p.warnSince, warnRecAt := p.warnRecAt, dips := p.dips,
                       lowest := p.lowest, rstLowAt := p.rstLowAt, rstIgnore := p.rstIgnore }
  let s := s.modMod fun m => { m with tally := ((m.recorded >>> 32) + 1) <<< 32, bootAt := s.now }
  let s := s.readCrust
  let s := ((s.wr PWR_RST_CAUSE cause).wr PWR_RST_STUCK (b2n stuck)).journalAdd 0x08 0x0002 0
    ([BitVec.ofNat 8 cause, BitVec.ofNat 8 (b2n stuck), 0, 0] ++ leBytes 4 (min 0xFFFFFFFF lowMs))
  let s := if s.power.warnSince.isSome then (s.wr PWR_BOD_WARN_LIVE 1).levelOn 63 0 else s
  (List.range 8).foldl (fun s n => orStay s (execTripInput n (s.faults.tripPin.getLsbD n) s)) s

/-- A reset that the pin or software asks for: the block sequence on every leg, and the journal queue committed at 5 µs a
record, before the Sluice enters reset (R390, R496). -/
def State.orderedReset (s : State) (cause : Nat) : State :=
  let s := s.blockAll
  (s.pass (2000 * s.journal.queue.length)).commitJournal.enterReset cause

/-- A requested SOFT reset, once the completions of its boundary are written (R451). -/
def State.softReset (s : State) : State := if s.power.softPend then (s.orderedReset 4).boot 4 false 0 else s

/-! ### Power-loss shutdown (R445) -/

/-- The shutdown starts: block sequences, Crust PL with the Tally and the PTP time, the Tally to MRAM, and the record
(R394, R445). -/
def State.startShutdown (s : State) (cause : Nat) : State :=
  let s := (s.blockAll).modJournal fun j =>
    { j with crust := { j.crust with flags := j.crust.flags ||| 1, tally := s.mod.tally, sec := s.clock.sec.toNat, ns := s.clock.ns } }
  let s := (s.modMod fun m => { m with recorded := m.tally }).modPower fun p =>
    { p with shutdown := some s.now, shutCause := cause, heldReset := none }
  s.journalAdd 0x08 0x0005 0 (leBytes 8 s.mod.tally.toNat ++ [BitVec.ofNat 8 cause])

/-- The Sluice enters reset after a shutdown: a fall of VDD33, at once or held, leaves it in brown-out reset; a PGOOD that rose
meanwhile boots it with cause POR, unless RST_N holds it (R445, R449). -/
def State.endShutdown (s : State) : State :=
  let bor := s.power.shutCause = 1 || s.power.heldReset = some 2
  let s := (s.enterReset (if bor then 2 else 1)).modPower fun p => { p with bor := bor }
  if !bor && s.power.pgood && s.power.rstLowAt.isNone then s.boot 1 false 0 else s

/-- The shutdown runs to its end: at t0 + 0.40 ms the queue is committed and SHUT_DONE set, at t0 + 0.41 ms the Sluice is in
reset (R445). -/
def State.finishShutdown (s : State) : State :=
  match s.power.shutdown with
  | none => s
  | some t0 =>
    let s := (s.passTo (t0 + 160000)).commitJournal.modJournal fun j =>
      { j with crust := { j.crust with flags := j.crust.flags ||| 2 } }
    (s.passTo (t0 + 164000)).endShutdown

/-- JOURNAL_COMMIT: uncommitted records are written to MRAM; in a power-loss shutdown this is its end (R390, R445). -/
def execJournalCommit (s : State) : Host.Outcome State Fault Refusal :=
  .next (if s.power.shutdown.isSome then s.finishShutdown else s.commitJournal)

/-- One tick passes, which is what a step does on an empty queue (log 1). -/
def tick (s : State) : State :=
  let s := s.pass 1
  if s.power.shutdown.any fun t0 => t0 + 164000 ≤ s.now then s.finishShutdown else s

/-- PGOOD_FALL: PGOOD falls, after its filter; a Sluice that runs starts the power-loss shutdown (R441, R445). -/
def execPgoodFall (s : State) : Host.Outcome State Fault Refusal :=
  .next (if !s.power.pgood then s
    else
      let s := s.modPower fun p => { p with pgood := false }
      if s.power.inReset || s.power.shelved || s.power.shutdown.isSome then s else s.startShutdown 0)

/-- VHOLD_LOW: VHOLD falls below 5.0 V. In a shutdown the Sluice stops, and what is not committed stays in Crust only; with
the main supplies present HOLD_OK reads 0 (R443, R445). -/
def execVholdLow (s : State) : Host.Outcome State Fault Refusal :=
  .next (if s.power.shutdown.isSome then s.endShutdown
    else
      let f := s.fresh
      (f.2.wr PWR_VHOLD_VHOLD (f.1.toNat % 500)).wr PWR_VHOLD_HOLD_OK 0)

/-- POR: PGOOD rises. The module boots with cause POR, from Shelved with cause SHELF; a running shutdown ends first, and a
brown-out reset or a low RST_N still holds it (R445, R449, R450, R460). -/
def execPor (s : State) : Host.Outcome State Fault Refusal :=
  .next (if s.power.pgood then s
    else
      let s := s.modPower fun p => { p with pgood := true }
      if s.power.shutdown.isSome then s.finishShutdown
      else if s.power.bor then s
      else if s.power.shelved then s.boot 5 false 0
      else if s.power.rstLowAt.isSome && !s.power.rstIgnore then s.modPower fun p => { p with nextCause := 1 }
      else s.boot 1 false 0)

/-! ### Brown-out (R446 to R449) -/

/-- BOD_WARN: VDD33 falls below the warning level: the cause BOD_WARN, and the journal queue is committed. A dip within 100 ms
of a BOD_WARN record is counted and writes no record of its own (R446, R447). -/
def execBodWarn (millivolts : Nat) (s : State) : Host.Outcome State Fault Refusal :=
  .next (if s.power.inReset then s
    else if s.power.warnSince.isSome then s.modPower fun p => { p with lowest := min p.lowest millivolts }
    else
      let s := s.modPower fun p => { p with warnSince := some s.now, dips := p.dips + 1, lowest := min p.lowest millivolts }
      let s := (((s.wr PWR_BOD_WARN_LIVE 1).wr PWR_BOD_SEEN 1).bump PWR_BOD_WARN_CNT).levelOn 63 0
      if s.power.warnRecAt.any fun t => s.now ≤ t + 40000000 then (s.raise 21 (0x40 + 256 * 3)).commitJournal
      else
        let s := (s.cause 0x40 3 .module 0 none true).journalAdd 0x08 0x0006 0
          (leBytes 4 (min 0xFFFFFFFF s.power.dips) ++ leBytes 2 (min 0xFFFF s.power.lowest))
        (s.modPower fun p => { p with warnRecAt := some s.now, dips := 0, lowest := 3300 }).commitJournal)

/-- BOD: VDD33 has been below the warning level for 1 ms (R448). -/
def execBod (s : State) : Host.Outcome State Fault Refusal :=
  .next (match s.power.warnSince with
    | none => s
    | some t => if s.power.inReset || s.causeActive 0x10 0 then s else (s.passTo (t + 400000)).cause 0x10 1 .module 0 none true)

/-- BOD_RECOVERY: VDD33 rises above 3.10 V (R446, R448). -/
def execBodRecovery (s : State) : Host.Outcome State Fault Refusal :=
  let s := s.modPower fun p => { p with warnSince := none }
  .next (((s.wr PWR_BOD_WARN_LIVE 0).levelOff 63).causeEnd 0x10 0)

/-- BOR: VDD33 falls below the reset level: BOD is recorded, the power-loss shutdown runs, and brown-out reset follows; in a
shutdown it is held (R445, R449). -/
def execBor (s : State) : Host.Outcome State Fault Refusal :=
  .next (if s.power.shutdown.isSome then s.modPower fun p => { p with heldReset := some 2 }
    else if s.power.inReset || s.power.shelved then s.modPower fun p => { p with bor := true }
    else (if s.causeActive 0x10 0 then s else s.cause 0x10 1 .module 0 none true).startShutdown 1)

/-- BOR_RELEASE: VDD33 has been above 2.95 V for 1 ms with PGOOD high; the module boots with cause BOR (R449). -/
def execBorRelease (s : State) : Host.Outcome State Fault Refusal :=
  let s := s.finishShutdown
  .next (if !s.power.bor || !s.power.pgood then s
    else if s.power.rstLowAt.isSome && !s.power.rstIgnore then s.modPower fun p => { p with bor := false, nextCause := 2 }
    else s.boot 2 false 0)

/-- VBAT_LOW: the Sluice sets VBAT_LOW in the Crust header (R442). -/
def execVbatLow (s : State) : Host.Outcome State Fault Refusal :=
  .next (s.modJournal fun j => { j with crust := { j.crust with flags := j.crust.flags ||| 8 } })

/-! ### The reset pin (R454, R455) -/

/-- PIN: RST_N has been low for 1 µs. It is ignored after a stuck release, held in a shutdown, and ends Shelved; else PIN reset
begins (R445, R454, R455, R460). -/
def execPinReset (s : State) : Host.Outcome State Fault Refusal :=
  let p := s.power
  let low := s.modPower fun p => { p with rstLowAt := some (s.now - 400) }
  .next (if p.rstLowAt.isSome then s
    else if p.rstIgnore then low
    else if p.shelved then s.boot 5 false 0
    else if p.shutdown.isSome then low.modPower fun p => { p with heldReset := some (p.heldReset.getD 3) }
    else if p.inReset then low
    else low.orderedReset 3)

/-- RST_N_RELEASE: RST_N rises, and a module held in reset by it boots (R454, R455). -/
def execRstNRelease (s : State) : Host.Outcome State Fault Refusal :=
  let p := s.power
  let up := s.modPower fun p => { p with rstLowAt := none, stuck := false }
  .next (match p.rstLowAt with
    | none => s
    | some t =>
      if p.rstIgnore || !p.inReset || !p.pgood || p.bor then up else up.boot p.nextCause p.stuck ((s.now - t) / 400000))

/-- STUCK_RESET: RST_N has been low for 10 s: STUCK_RESET in the Crust header, and with STUCK_POLICY RELEASE the module boots
at once and ignores the pin (R455). -/
def execStuckReset (s : State) : Host.Outcome State Fault Refusal :=
  .next (match s.power.rstLowAt with
    | none => s
    | some t =>
      if s.power.rstIgnore || !s.power.inReset || s.power.stuck then s
      else
        let s := (s.passTo (t + 4000000000)).modJournal fun j => { j with crust := { j.crust with flags := j.crust.flags ||| 4 } }
        let s := s.modPower fun p => { p with stuck := true }
        if s.on PWR_CFG_STUCK_POLICY || !s.power.pgood || s.power.bor then s
        else (s.modPower fun p => { p with rstIgnore := true }).boot 6 true 10000)

/-- RST_N_REARM: RST_N has been high for 100 ms without a break and is heeded again (R455). -/
def execRstNRearm (s : State) : Host.Outcome State Fault Refusal :=
  .next (if s.power.rstLowAt.isSome then s else s.modPower fun p => { p with rstIgnore := false })

/-! ### Endpoint resets (R354, R450) -/

/-- The endpoint is reset: its HQ registers of class V, its rings, the uncommitted commands of the HOST port, and the MSI-X
structures; READY stands as long as the BARs are usable. It ends a debug token (R433). -/
def State.endpointReset (s : State) : State :=
  let ready := s.rd HQ_STAT_READY
  let net := fun (c : Cmd) => 16 ≤ c.hdr.sq
  let regs := s.regs.keep fun off => if 0x2000 ≤ off && off < 0x4000 then classP off else BitVec.allOnes 32
  let s : State := { s with regs := regs.wr HQ_STAT_READY ready }
  let s := s.modHost fun h =>
    { h with sqTail := List.replicate 16 0, cqHead := List.replicate 16 0, turn := 0, served := 0, cmds := h.cmds.filter net,
             rings := h.rings.map (fun r => { r with tail := 0, posted := [], open_ := none }),
             snapWait := h.snapWait.filter fun w => w.cmd.all net }
  let s := s.modSec fun x =>
    { x with queue := x.queue.filter (fun o => match o with | .check c _ _ _ => net c | .sign c _ => net c),
             engineAt := (if x.queue.head?.all (fun o => match o with | .check c _ _ _ => net c | .sign c _ => net c) then x.engineAt else s.now),
             writing := x.writing.map (fun w => { w with cmd := w.cmd.filter net }),
             waiting := x.waiting.filter fun w => net w.1 }
  let s := s.modEic fun e =>
    { e with msixMask := 0xFFFFFFFF, msixEn := false, busMaster := false, pba := 0, d3hot := false, pmeEn := false, pmeSent := false }
  ((List.range 16).foldl State.levelOff s).updEngine.resetToken

/-- PERST: PERST_N resets the endpoint; from Shelved the module boots with cause SHELF (R354, R450, R460). -/
def execPerst (s : State) : Host.Outcome State Fault Refusal :=
  .next (if s.power.shelved then s.boot 5 false 0 else s.endpointReset)

/-- FLR: Function Level Reset (R354). -/
def execFlr (s : State) : Host.Outcome State Fault Refusal := .next s.endpointReset

/-! ### Start-up (R19, R34, R35, R424, R425, R463, R464) -/

/-- A slot passes steps 1 to 8 at boot; one that is EMPTY or REJECTED does not (R424, R425). -/
def State.slotOk (s : State) (t b : Nat) : Bool :=
  (s.rd (slotFld t b) = 1 || s.rd (slotFld t b) = 2) &&
    match s.slotPkg t b with
    | some p => s.checkStep8 (t + 1) p = 0
    | none => false

/-- A PROVEN slot that fails its check at boot counts a failed attempt (R425). -/
def State.slotFailed (s : State) (t b : Nat) : State := if s.rd (slotFld t b) = 2 then s.failSlot t b else s

/-- A slot is put in force, with the journal record of the choice (R424, R466). -/
def State.takeSlot (s : State) (t b : Nat) (fallback : Bool) : State :=
  let s := match s.slotPkg t b with
    | some p =>
      ((s.wr (SEC_SLOT_IN_FORCE t) b).wr (SEC_SLOT_SVN t) p.svn).wr (SEC_SLOT_VER t) (16 * p.verMaj.toNat + p.verMin.toNat)
    | none => s
  s.journalAdd 0x08 0x0007 0 [BitVec.ofNat 8 (t + 1), BitVec.ofNat 8 b, BitVec.ofNat 8 (b2n fallback)]

/-- The slot of a type that boots: the PREFERRED one where it passes, else the other; whether one passes (R424). -/
def State.chooseSlot (s : State) (t : Nat) : State × Bool :=
  let b := s.rd (SEC_SLOT_PREFERRED t)
  if s.slotOk t b then (s.takeSlot t b false, true)
  else
    let s := s.slotFailed t b
    if s.slotOk t (1 - b) then (s.takeSlot t (1 - b) true, true) else (s.slotFailed t (1 - b), false)

/-- The trip inputs asserted before any thread was configured raise their causes on the threads of their masks (R238). -/
def State.raiseTrips (s : State) : State :=
  (List.range 8).foldl (fun s n =>
    let x := s.faults.trips.getD n TripIn.reset
    if x.live && x.mask ≠ 0 then s.maskCause 0x06 x.cls x.mask.toNat n else s) s

/-- What the packages in force give: the configured threads, OFF or as the faults that stand put them, the CLE memories of both lanes, and the library's
API version (R30, R34, R438, R462). -/
def State.loadPackages (s : State) : State :=
  let s := match (s.inForce 2).map (·.content) with
    | some (PkgContent.library maj min) => (s.wr SEC_VER_STAT_LIB_MAJ maj.toNat).wr SEC_VER_STAT_LIB_MIN min.toNat
    | _ => s
  match (s.inForce 3).map (·.content) with
  | some (PkgContent.config threads img) =>
    let s := (s.bothLanes fun l => { l with cle := l.cle.load img }).modMod fun m => { m with configured := threads }
    let st := if s.faults.classL then 4 else if s.on SLC_FAULT_MOD_B_ACTIVE then 3 else 0
    (s.setThreads (numsWhere 8 threads.getLsbD) st).raiseTrips
  | _ => s

/-- The end of a start-up step is noted in ms from the start of the boot (R466). -/
def State.noteStep (s : State) (k : Nat) : State :=
  s.modMod fun m => { m with steps := (k, (s.now - m.bootAt) / 400000) :: m.steps.filter fun x => x.1 ≠ k }

/-- CHECK_FAIL is set: every command and direct write still held is refused with STATE, or with its refusal of a higher rank
(R35, R343). -/
def State.checkFailed (s : State) : State :=
  let cs := s.host.cmds.filter fun c => c.staged
  let ws := s.host.staged
  let s := (s.wr SYS_STATE_CHECK_FAIL 1).modHost fun h => { h with staged := [] }
  ws.foldl (fun s w => s.mmioRefuse (w.off % 2 ^ 20) 0x04) (cs.foldl (fun s c => s.complete c (c.refusal.getD (.of 0x04))) s)

/-- LANE_IMAGES_LOADED: the slots are chosen, the packages loaded and the firmware started, and BOOT passes to CHECK; without
a slot of some type CHECK_FAIL is set. The synthesiser is locked by then (R34, R402, R424, R463). -/
def execLaneImagesLoaded (s : State) : Host.Outcome State Fault Refusal :=
  .next (if s.mod.phase ≠ .boot || s.power.inReset || s.power.shelved || !s.power.pgood then s
    else
      let s := if s.on CLK_STAT_LOCK || !s.clock.refPresent then s else s.takeLock
      let r := (List.range 4).foldl (fun (x : State × Bool) t =>
        let y := x.1.chooseSlot t
        (y.1, x.2 && y.2)) (s, true)
      let s := if r.2 then
          r.1.loadPackages.bothLanes fun l => { l with fwAt := some s.now, wdtAt := s.now }
        else r.1.checkFailed
      let s := ((s.wr HQ_STAT_READY 1).noteStep 3).modMod fun m => { m with phase := .check }
      s.updModule 0)

/-- Both lanes have failed: the module stays in CHECK with CHECK_FAIL (R35). -/
def State.bothFailed (s : State) : State := s.checkFailed

/-- LANE_SELF_TEST_DONE: a lane's start-up self-test ends; a failing lane is RETIRED, and when both fail the boot attempt has
failed (R35, R247, R425). -/
def execLaneSelfTestDone (lane : LaneId) (ok : Bool) (s : State) : Host.Outcome State Fault Refusal :=
  let n := LaneId.num lane
  .next (if s.mod.phase ≠ .check || s.on SYS_STATE_CHECK_FAIL || (s.mod.selfTest.getD n none).isSome then s
    else
      let s := (s.modMod fun m => { m with selfTest := m.selfTest.set n (some ok) }).noteStep 4
      let s := if ok then s else s.setLaneState lane 4 2
      if s.mod.selfTest.all (· = some false) then s.bothFailed.bootFail else s)

/-- The Irolo version that the firmware package in force declares (R19). -/
def State.declaredIrolo (s : State) : Byte :=
  match (s.inForce 1).map (·.content) with
  | some (PkgContent.firmware v) => v
  | _ => 0

/-- The Irolo handshake of an exit from Doze, 1 ms after its start: a returning lane whose report differs from the declared
version is RETIRED (R19, R459). -/
def State.dozeHandshake (s : State) (verA verB : Byte) : State :=
  match s.power.exiting with
  | none => s
  | some t =>
    let o := LaneId.other s.active
    if s.rd PWR_STAT_STATE ≠ 3 || s.laneState o ≠ 0 then s
    else
      let ok := decide ((match o with | .a => verA | .b => verB) = s.declaredIrolo)
      let s := (s.passTo (t + 400000)).modMod fun m => { m with irolo := m.irolo.set (LaneId.num o) (some ok) }
      if ok then s else s.setLaneState o 4 3

/-- IROLO_HANDSHAKE: each lane's report is compared with the declared version. At start-up, Lane A becomes ACTIVE and Lane B
SHADOW where both pass; a lane that fails is RETIRED. The Angle Schedulers start, gate-link negotiation begins, and so does
the forming of the group (R19, R35, R40, R199, R248, R414, R463). The handshake of an exit from Doze concerns the returning
lane. -/
def execIroloHandshake (verA verB : BitVec 8) (s : State) : Host.Outcome State Fault Refusal :=
  .next (if s.mod.phase = .run then s.dozeHandshake verA verB
    else if s.mod.phase ≠ .check || s.on SYS_STATE_CHECK_FAIL || s.mod.started || s.mod.selfTest.any (·.isNone) then s
    else
      let want := s.declaredIrolo
      let tested := fun (i : LaneId) => s.mod.selfTest.getD (LaneId.num i) none = some true
      let okA := tested .a && verA = want
      let okB := tested .b && verB = want
      let s := s.modMod fun m => { m with irolo := [some (decide (verA = want)), some (decide (verB = want))] }
      let s := if tested .a && !okA then s.setLaneState .a 4 3 else s
      let s := if tested .b && !okB then s.setLaneState .b 4 3 else s
      if !okA && !okB then s.bothFailed
      else
        let s := (s.wr LANE_IROLO_VER want.toNat).setLaneState (if okA then .a else .b) 1 0
        let s := if okA && okB then s.setLaneState .b 2 0 else s
        let s := s.startCarriers.noteStep 5
        let s : State := { s with mirror := mirrorOf (s.lane s.active).regs }
        let s := (numsWhere 8 s.present).foldl State.negotiateThread s
        if s.on GRP_CFG_GRP_EN then s.startForming else s)

/-- The slots in force that are STAGED become PROVEN when the module reaches READY (R425). -/
def State.proveSlots (s : State) : State :=
  (List.range 4).foldl (fun s t =>
    let x := slotFld t (s.rd (SEC_SLOT_IN_FORCE t))
    if s.rd x = 1 then (s.wr x 2).wr (SEC_SLOT_FAIL_CNT t) 0 else s) s

/-- VHOLD is charged to 12.0 V ± 2 %, a value within it left open; HOLD_OK follows HOLD_MIN (R443). -/
def State.chargeHold (s : State) : State :=
  let f := s.fresh
  let v := 1176 + f.1.toNat % 49
  (f.2.wr PWR_VHOLD_VHOLD v).wr PWR_VHOLD_HOLD_OK (b2n (10 * s.rd PWR_CFG_HOLD_MIN ≤ v))

/-- HOLD_OK follows HOLD_MIN (R443). -/
def State.updHold (s : State) : State :=
  if s.rd PWR_VHOLD_VHOLD = 0 then s else s.wr PWR_VHOLD_HOLD_OK (b2n (10 * s.rd PWR_CFG_HOLD_MIN ≤ s.rd PWR_VHOLD_VHOLD))

/-- The end of a start-up step in ms; where no command of the model marks it, it is left open. -/
def State.stepEnd (s : State) (k : Nat) : Nat × State :=
  match s.mod.steps.find? fun x => x.1 = k with
  | some x => (x.2, s)
  | none => (s.fresh.1.toNat, s.fresh.2)

/-- READY is recorded: READY_MS, LONG_STEP, which the ends of the steps leave open, and the READY record (R464, R466). -/
def State.noteReady (s : State) : State :=
  let ms := min 0xFFFF ((s.now - s.mod.bootAt) / 400000)
  let f := s.fresh
  let s := (f.2.wr PWR_BOOT_READY_MS ms).wr PWR_BOOT_LONG_STEP (1 + f.1.toNat % 8)
  let r := (List.range 7).foldl (fun (x : List Byte × State) k =>
    let y := x.2.stepEnd (k + 1)
    (x.1 ++ leBytes 4 y.1, y.2)) (leBytes 4 ms, s)
  r.2.journalAdd 0x08 0x0003 0 r.1

/-- START_UP_DONE: the start-up order completes, and CHECK passes to READY, or to LOCKOUT with a class L record; its causes
count as active until now. It does not complete while a group forms (R34, R244, R414, R425, R464). -/
def execStartUpDone (s : State) : Host.Outcome State Fault Refusal :=
  .next (if s.mod.phase ≠ .check || !s.mod.started || s.on SYS_STATE_CHECK_FAIL || s.grp.forming then s
    else
      let s := (s.modMod fun m => { m with phase := .run }).modFaults fun f =>
        { f with causes := f.causes.map fun c => if c.key = recordKey then { c with active := false, lastActive := s.now } else c }
      (s.updCauseBits.proveSlots.chargeHold.noteReady).updModule 0)

/-- BOOT_ATTEMPT_TIMEOUT: READY is not reached within 5 s of PGOOD (R425). -/
def execBootAttemptTimeout (s : State) : Host.Outcome State Fault Refusal :=
  .next (if s.mod.phase = .run || s.power.inReset || s.power.shelved then s else (s.passTo (s.mod.bootAt + 2000000000)).bootFail)

/-! ### Power states (R456 to R460) -/

/-- The conditions that fail, as PWR_STAT.DENY shows them (R456). -/
def State.deny (s : State) : Nat :=
  let l := s.lane s.active
  let fault := s.faults.classL || s.faults.causes.any fun c => c.cls = 1
  b2n s.safeEn + 2 * b2n (s.grpRole = 1 || s.grpRole = 2) + 4 * b2n (l.recSt ≠ 0) +
    8 * b2n (l.on RAKE_STAT_RUN || l.rd RAKE_STAT_INJ ≠ 0) + 16 * b2n (s.rd SYS_STATE_STATE ≠ 2) +
    32 * b2n (!s.on PWR_CFG_SHELF_EN) + 64 * b2n fault

/-- The target: the deepest state whose exit latency LAT_TOL allows and whose conditions hold; 4 stands for Shelved (R456). -/
def State.pwrTarget (s : State) : Nat :=
  let tol := s.rd PWR_LAT_TOL_LAT_TOL
  let no := fun (k : Nat) => !bitAt s.deny k
  let slack := no 2 && no 3 && no 4 && no 6
  let doze := slack && no 0 && no 1
  if 1200000 ≤ tol && doze && no 5 then 4
  else if 9000 ≤ tol && doze then 3
  else if 200 ≤ tol && slack then 2
  else if 1 ≤ tol then 1
  else 0

/-- A power state is entered or left: the event PWR_STATE and the POWER_STATE record (R458, R466). -/
def State.notePower (s : State) (new : Nat) : State :=
  let slot := match s.power.wakeSlot with | some n => n | none => 0xFF
  (s.raise 62 new).journalAdd 0x08 0x0004 0
    ([BitVec.ofNat 8 s.pwrState, BitVec.ofNat 8 new, BitVec.ofNat 8 slot, 0] ++ leBytes 4 (s.rd PWR_LAT_TOL_LAT_TOL))

/-- Entry to Shelved: the record, the queue committed, the Tally and the Crust header written, and every domain but Crust off
(R460). -/
def State.shelve (s : State) : State :=
  ((s.notePower 4).commitJournal.enterReset 5).modPower fun p => { p with shelved := true }

/-- A deeper state is entered; in Doze the shadow lane goes OFF (R456, R459). -/
def State.enterPower (s : State) (new : Nat) : State :=
  if new = 4 then s.shelve
  else
    let s := (s.notePower new).wr PWR_STAT_STATE new
    let o := LaneId.other s.active
    if new = 3 && s.laneState o = 2 then s.setLaneState o 0 0 else s

/-- What the Sluice decides about the power state at a boundary (R456, R458). -/
def State.powerBoundary (s : State) : State :=
  let s := (s.wr PWR_STAT_DENY s.deny).wr PWR_STAT_TARGET s.pwrTarget
  let t := s.pwrTarget
  if s.mod.phase ≠ .run || s.power.exiting.isSome then s
  else if s.pwrState < t then s.enterPower t
  else if t < s.pwrState then (if s.pwrState = 1 then (s.notePower t).wr PWR_STAT_STATE t else s.startExit none)
  else s

/-- The returning lane at the end of an exit from Doze: rebuilt by the copies, and in RESYNC; one that passed no Irolo
handshake does not return (R19, R247, R452, R459, R461). -/
def State.returnLane (s : State) : State :=
  let o := LaneId.other s.active
  if s.laneState o ≠ 0 || s.mod.irolo.getD (LaneId.num o) none ≠ some true then s
  else
    let act := s.lane s.active
    let s := s.modLane o fun l =>
      let l : Lane := { Lane.reset with regs := l.regs.keep classPS, meas := { Meas.reset with fir := act.meas.fir }, fwAt := some s.now, wdtAt := s.now }
      (l.takeBulk act).takeFinal act
    let s := s.modLane o fun l => l.modSmon fun m => { m with last := act.smon.last, unsetSince := act.smon.unsetSince }
    ((s.wr LANE_STAT_MATCH_CNT 0).modDuplex fun d => { d with badCopies := 0 }).setLaneState o 3 0

/-- POWER_STATE_EXIT_DONE: the exit ends within the state's exit latency, and the module is in Full. From Doze every channel
restarts with SETTLING, the shadow lane returns, and WAKE is raised where a slot woke the module (R368, R456, R459). -/
def execPowerStateExitDone (s : State) : Host.Outcome State Fault Refusal :=
  .next (match s.power.exiting with
    | none => s
    | some t =>
      let doze := decide (s.pwrState = 3)
      let s := s.passTo (t + (if doze then 3600000 else 80000))
      let s := if doze then (s.modLane s.active fun l => (List.range 80).foldl Lane.clearChan l).returnLane else s
      let s := ((s.notePower 0).wr PWR_STAT_STATE 0).wr PWR_STAT_EXITING 0
      let slot := s.power.wakeSlot
      let s := s.modPower fun p => { p with exiting := none, wakeSlot := none }
      match slot with
      | some n => s.raise 93 n
      | none => s)

/-- A wake slot watches for what has happened; kinds 3 and 5 have no index (R368). -/
def State.wakes (s : State) (kind index w : Nat) : Bool :=
  s.rd (EIC_WAKE_SEL_KIND w) = kind && kind ≠ 0 && (kind = 3 || kind = 5 || s.rd (EIC_WAKE_SEL_INDEX w) = index)

/-- WAKE: in Doze, something that wake slots watch happens: their bits are set, the first match is recorded, and the exit
starts (R368, R458). -/
def execWake (kind index : Nat) (s : State) : Host.Outcome State Fault Refusal :=
  let ws := numsWhere 16 (s.wakes kind index)
  .next (if s.pwrState ≠ 3 then s
    else match ws with
      | [] => s
      | w :: _ =>
        let s := ws.foldl (fun s n => s.wr ⟨EIC_WAKE_STAT, 16 + n, 16 + n⟩ 1) s
        if s.power.wakeSlot.isSome then s
        else
          let s := (s.wr EIC_WAKE_STAT_FIRST w).wr EIC_WAKE_STAT_VALID 1
          (s.startExit (some w)).modPower fun p => { p with wakeSlot := some w })

/-- SHELVED_EXIT: RST_N, PERST_N or PGOOD ends Shelved, and the module boots with cause SHELF (R460). -/
def execShelvedExit (s : State) : Host.Outcome State Fault Refusal :=
  .next (if s.power.shelved then (s.modPower fun p => { p with pgood := true }).boot 5 false 0 else s)

end Sys2Proof.Machine
end

