-- ==== Sys2Proof/Machine/Commands.lean ====
section
/-! DEFINITION. The host commands (R339 to R348): the checks of staging, what each command does at its commit, and its
completion. A host-command row is that command at a commit boundary; its staging has rows of its own. -/
namespace Sys2Proof.Machine

/-! ### Checks of staging (R336, R338 to R341, R353) -/

/-- The version that a command's opcode, field or group needs (R344, R348, R353). -/
def needVersion (h : Hdr) (c : HostCmd) : Nat × Nat :=
  let own : Nat × Nat := match c with
    | .groupStart _ _ => (1, 1)
    | .laneControl _ _ => (1, 3)
    | .writeRegs true _ => (2, 1)
    | .readSnapshot _ 1 _ => (2, 2)
    | _ => (0, 0)
  if h.group && verLt own (1, 2) then (1, 2) else own

/-- The version of a command: that of the HOST port, or of its transaction (R353, R437). -/
def State.cmdVersion (s : State) (c : Cmd) : Nat × Nat := if 16 ≤ c.hdr.sq then (c.netMajor, c.netMinor) else s.version

/-- No data buffer is named on the HOST port (R336). -/
def noBuffer (h : Hdr) : Bool := h.sq < 16 && h.dataAddr = 0

/-- No buffer is named to read from, or no data announced on a network port (R336, R437). -/
def noData (h : Hdr) : Bool := h.dataAddr = 0

/-- The command reads a data buffer (R339, R340). -/
def readsBuffer (h : Hdr) : HostCmd → Bool
  | .writeRegs buf _ => buf
  | .loadCoeff _ _ _ _ => h.dataAddr ≠ 0
  | .schedWrite _ _ => h.dataAddr ≠ 0
  | .loadProgram _ => true
  | .fwStage _ _ _ => true
  | _ => false

/-- The length of a command's data buffer in bytes (R339, R391, R426). -/
def bufferLen : HostCmd → Nat
  | .writeRegs true ps => 8 * ps.length
  | .loadCoeff _ _ _ ws => 4 * ws.length
  | .schedWrite _ es => 16 * es.length
  | .loadProgram img => img.imgLen
  | .fwStage _ _ pkg => 8672 + pkg.len
  | .journalRead _ _ len => len
  | .readSnapshot _ _ len => len
  | .attest _ _ len => len
  | _ => 0

/-- The mode word is refused (R138). -/
def modeBad (m : BitVec 16) : Bool := bitsOf (m.setWidth 32) 15 8 ≠ 0 || 3 < bitsOf (m.setWidth 32) 7 4 || 3 < bitsOf (m.setWidth 32) 3 0

/-- A TIME_ADJUST field outside its range (R407). -/
def timeBad (mode : Nat) (sec : BitVec 64) (nsec : Word) : Bool :=
  match mode with
  | 1 => 2 ^ 48 ≤ sec.toNat || 1000000000 ≤ nsec.toNat
  | 2 => sec.toInt < -(2 ^ 47) || 2 ^ 47 < sec.toInt || nsec.toInt < -999999999 || 999999999 < nsec.toInt
  | _ => true

/-- The bytes an ATTEST returns (R430). -/
def attestLen (mode : Nat) : Nat := if mode = 1 then 4 + Config.certificate.length else 3853

/-- The checks of a body that need no state (R340, R341, R391, R426, R430). -/
def bodyCheck (h : Hdr) (c : HostCmd) : Option Result :=
  let range (bad : Bool) : Option Result := if bad then some (.of 0x05) else none
  match c with
  | .setSetpoint ps =>
    if ps.isEmpty then some (.of 0x05)
    else (ps.find? fun p => 47 ≤ p.2.1 && p.2.1 < 160 && p.2.1 % 16 = 15).map fun p => .at_ 0x05 p.1
  | .setMode thr mode => range (thr = 0 || modeBad mode)
  | .arm thr => range (thr = 0)
  | .disarm thr => range (thr = 0)
  | .trajStop u => range (u = 0)
  | .groupStart u _ => range (u = 0)
  | .writeRegs buf ps =>
    range (ps.isEmpty || (if buf then noData h || 8192 < ps.length else 5 < ps.length))
  | .readSnapshot set mode _ => range (7 < set || 1 < mode || noBuffer h)
  | .loadCoeff ctx bank _ ws =>
    range (159 < ctx || 1 < bank || ws.isEmpty || 32767 < ws.length || (h.dataAddr = 0 && 10 < ws.length))
  | .swapBank cs _ => range cs.isEmpty
  | .loadProgram img => range (noData h || img.imgLen < 4 || 262144 < img.imgLen || img.imgLen % 4 ≠ 0)
  | .schedWrite first es => range (4096 < first + es.length || (h.dataAddr = 0 && 2 < es.length))
  | .journalRead _ count len => range (noBuffer h || count = 0 || 16383 < count || len < 16 + 64 * count)
  | .attest _ mode len => range (noBuffer h || 1 < mode || len < attestLen mode)
  | .timeAdjust mode sec nsec => range (timeBad mode sec nsec)
  | .laneControl _ action => range (action = 0 || 3 < action)
  | .fwStage type action _ =>
    range (noData h || !((action = 1 && 1 ≤ type && type ≤ 9) || (action = 2 && 1 ≤ type && type ≤ 4)))
  | _ => none

/-- The RANGE checks of a descriptor: reserved bits, COMMIT_ID without GROUP, the alignment and the length of the buffer, and
the body (R336, R339, R340). -/
def State.rangeCheck (s : State) (c : Cmd) : Option Result :=
  let h := c.hdr
  let limit := if 2 ≤ (s.cmdVersion c).1 then 2 ^ 20 else 2 ^ 16
  if h.rsvd || (!h.group && h.commitId ≠ 0) || (h.sq < 16 && h.dataAddr.toNat % 4 ≠ 0) || limit < bufferLen c.cmd ||
    (16 ≤ h.sq && limit < h.dataAddr.toNat) then some (.of 0x05)
  else bodyCheck h c.cmd

/-- What staging finds, in the priority of R338: the opcode, the version, the port's authority, the data read, the ranges. -/
def State.stageCheck (s : State) (c : Cmd) : Option Result :=
  let need := needVersion c.hdr c.cmd
  match c.cmd with
  | .bad _ => some (.of 0x01)
  | _ =>
    if need ≠ (0, 0) && !verHas (s.cmdVersion c) need.1 need.2 then some (.of 0x02)
    else match authCheck c.hdr.sq c.cmd with
      | some r => some r
      | none =>
        if readsBuffer c.hdr c.cmd && c.hdr.data = .timeout then some { status := 0x0B, detail := 2, index := 0 }
        else if readsBuffer c.hdr c.cmd && c.hdr.data = .error then some { status := 0x08, detail := 1, index := 0 }
        else s.rangeCheck c

/-- The pairs of a WRITE_REGS staged in their order: each write of MEAS_FIR_DATA takes the SET and TAP that MEAS_FIR_ADDR holds,
and TAP advances at once (R85). -/
def State.stagePairs (s : State) : List (Nat × Word) → State × List (Nat × Word)
  | [] => (s, [])
  | (off, v) :: t =>
    let r := s.stageOff off
    let x := r.2.stagePairs t
    (x.1, (r.1, v) :: x.2)

/-- The command as staging leaves it. -/
def State.stageBody (s : State) : HostCmd → State × HostCmd
  | .writeRegs buf ps =>
    let r := s.stagePairs ps
    (r.1, .writeRegs buf r.2)
  | c => (s, c)

/-- Staging of a command finishes: its refusal, where it has one, with the journal record of a refusal for want of authority,
or else its body as it is staged (R85, R342, R436). -/
def State.staged (s : State) (c : Cmd) : Cmd × State :=
  match s.stageCheck c with
  | some r => ({ c with refusal := some r, staged := true }, if r.status = 0x03 then s.noteAuth c else s)
  | none =>
    let b := s.stageBody c.cmd
    ({ c with cmd := b.2, refusal := none, staged := true }, b.1)

/-! ### Threads (R31, R32, R138, R341) -/

/-- The threads of a mask. -/
def thrList (m : BitVec 8) : List Nat := numsWhere 8 fun t => m.getLsbD t

/-- A mask names an absent thread (R30). -/
def State.namesAbsent (s : State) (m : BitVec 8) : Bool := (thrList m).any fun t => !s.present t

/-- The module refuses to arm any thread (R26, R35, R36, R219, R269, R277, R287, R432, R433, R443, R455). -/
def State.armRefused (s : State) : Bool :=
  let l := s.lane s.active
  let ok (i : LaneId) : Bool := s.laneState i = 1 || s.laneState i = 2
  let single := !(ok .a && ok .b)
  let turn := (l.incOf (l.rd ASC_FRAME_STAT_SRC_IN_FORCE)).toNat * l.asc.nInForce
  (single && !s.on SYS_CFG_SINGLE_LANE_ARM) || (single && s.safeEn && l.rd SAFE_DEGRADED_REMAIN = 0) ||
    !s.on SLC_ENV_LOCK_ENVELOPE_LOCK || !s.on PWR_VHOLD_HOLD_OK || s.on PWR_RST_STUCK || s.sec.tokenEnd.isSome ||
    s.rd SEC_LIFECYCLE_STATE = 3 || s.faults.sto || s.mod.maint || 2 ^ 48 < turn * 12500 || turn * 100000 < 2 ^ 48

/-- A thread may be armed: OFF, its links up and no block sequence on its legs (R32, R200, R230). -/
def State.armable (s : State) (t : Nat) : Bool :=
  s.thread t = 0 && (legsOf t).all fun g => (s.linkSt g = 2 || s.linkSt g = 3) && !s.blocking g

/-- A thread enters ARMED: its legs' PWM state and levels and the envelope's history become OFF, and the pulse block is
released (R31, R195, R225). -/
def State.armThread (s : State) (t : Nat) : State :=
  let s := s.setThread t 1
  (legsOf t).foldl (fun s g =>
    (s.bothLanes fun l => l.legOff g).modFaults fun f =>
      { f with env := f.env.set g EnvLeg.reset, pulseBlock := f.pulseBlock.set g false }) s

/-- ARM at its commit. -/
def State.cmdArm (s : State) (thr : BitVec 8) : State × Option Result :=
  if s.namesAbsent thr then (s, some (.of 0x05))
  else if s.armRefused || !(thrList thr).all s.armable then (s, some (.of 0x04))
  else (((thrList thr).foldl State.armThread s).updModule 0, some .ok)

/-- A thread returns to OFF in safe order (R32, R195). -/
def State.disarmThread (s : State) (t : Nat) : State :=
  ((s.blockThread t).setThread t 0).modMod fun m => { m with stopPend := m.stopPend.filter fun x => x ≠ t }

/-- DISARM at its commit. -/
def State.cmdDisarm (s : State) (thr : BitVec 8) : State × Option Result :=
  if s.namesAbsent thr then (s, some (.of 0x05))
  else if !(thrList thr).all (fun t => s.thread t = 1 || s.thread t = 2) then (s, some (.of 0x04))
  else (((thrList thr).foldl State.disarmThread s).updModule 0, some .ok)

/-- The mode word goes into a thread: a run mode takes it to SWITCHING, STOP starts its law's stop sequence (R32, R138,
R142). -/
def State.modeThread (s : State) (mode : BitVec 16) (t : Nat) : State :=
  let s := s.writeSetpoint (modeKey t) (mode.setWidth 32)
  if bitsOf (mode.setWidth 32) 3 0 = 0 then
    if s.mod.stopPend.contains t then s else s.modMod fun m => { m with stopPend := t :: m.stopPend }
  else (s.setThread t 2).modMod fun m => { m with stopPend := m.stopPend.filter fun x => x ≠ t }

/-- SET_MODE at its commit, with the trip of a black start whose V0 follows no trajectory axis (R156). -/
def State.cmdSetMode (s : State) (thr : BitVec 8) (mode : BitVec 16) : State × Option Result :=
  let need := if bitsOf (mode.setWidth 32) 3 0 = 0 then 2 else 1
  if s.namesAbsent thr then (s, some (.of 0x05))
  else if !(thrList thr).all (fun t => s.thread t = need) then (s, some (.of 0x04))
  else ((((thrList thr).foldl (fun s t => s.modeThread mode t) s).lawModeSet mode).updModule 0, some .ok)

/-! ### Setpoints and trajectories (R139, R166, R172, R173, R341) -/

/-- SET_SETPOINT at its commit. -/
def State.cmdSetpoint (s : State) (ps : List (Nat × Nat × Word)) : State × Option Result :=
  (ps.foldl (fun s p => s.writeSetpoint p.2.1 p.2.2) s, some .ok)

/-- TRAJ_SEGMENT at its commit (R166). -/
def State.cmdSegment (s : State) (b : SegBody) : State × Option Result :=
  match (s.aheadUnit s.active b.unit.toNat).segCheck b false with
  | 0 =>
    ((s.modLane .a fun l => l.queueSeg (s.aheadUnit .a b.unit.toNat) b s.mod.tally).modLane .b fun l =>
      l.queueSeg (s.aheadUnit .b b.unit.toNat) b s.mod.tally, some .ok)
  | 1 => (s, some (.of 0x05))
  | _ => (s, some (.of 0x09))

/-- TRAJ_STOP at its commit (R173). -/
def State.cmdTrajStop (s : State) (u : BitVec 4) : State × Option Result :=
  (s.bothLanes fun l =>
    { l with traj := l.traj.mapIdx fun k t => if u.getLsbD k then { t with stopReq := some s.mod.tally } else t }, some .ok)

/-- GROUP_START at its commit: the leader, or a module outside a group (R172). -/
def State.cmdGroupStart (s : State) (u : BitVec 4) (at_ : DWord) : State × Option Result :=
  if at_.toNat < s.mod.tally.toNat + 8 then (s, some (.of 0x05))
  else if s.grpRole = 2 then (s, some (.of 0x04))
  else
    let s := s.scheduleStart u at_
    (if s.grpRole = 1 then s.grpSend (.start u at_) else s, some .ok)

/-! ### Registers (R329, R330, R341) -/

/-- The words that the pairs of a WRITE_REGS leave in the coherent window. -/
def State.mergePairs (s : State) (ps : List (Nat × Word)) : State :=
  ps.foldl (fun s x => if x.1 < 0x40000 then s.mergeWords x.1 x.2 else s) s

/-- The lane of a view and the offset within it. -/
def viewOf (off : Nat) : Option (LaneId × Nat) :=
  if 0x40000 ≤ off && off < 0x80000 then some (.a, off - 0x40000)
  else if 0x80000 ≤ off && off < 0xC0000 then some (.b, off - 0x80000)
  else none

/-- The status that one pair gives; `p` holds the words that all pairs leave. -/
def State.pairStatus (s p : State) (x : Nat × Word) : Nat :=
  if 2 ^ 32 ≤ x.1 then s.writeStatus p x.1 x.2
  else if x.1 % 4 ≠ 0 then 0x05
  else match viewOf x.1 with
    | some v => s.viewStatus v.1 v.2 x.2
    | none => if x.1 < 0x40000 then s.writeStatus p x.1 x.2 else 0x05

/-- A pair takes effect. -/
def State.commitPair (s : State) (x : Nat × Word) : State :=
  match viewOf x.1 with
  | some v => s.writeView v.1 v.2 x.2
  | none => s.commitReg .host x.1 x.2

/-- The priority of a status: its row in the table of R338. -/
def statusRank (st : Nat) : Nat := [0x01, 0x02, 0x03, 0x0B, 0x08, 0x05, 0x07, 0x04, 0x09, 0x06, 0x0A, 0x00].idxOf st

/-- The status highest in the table among those that the pairs give, with the first pair that gives it (R338, R341). -/
def worstPair (sts : List Nat) : Option (Nat × Nat) :=
  let bad := (sts.mapIdx fun k st => (st, k)).filter fun x => x.1 ≠ 0
  bad.find? fun x => bad.all fun y => statusRank x.1 ≤ statusRank y.1

/-- WRITE_REGS at its commit: every pair is checked before any is applied, and the pairs apply in order. Its writes of
MEAS_FIR_DATA carry the taps they were staged with. -/
def State.cmdWriteRegs (s : State) (ps : List (Nat × Word)) : State × Option Result :=
  match worstPair (ps.map fun x => s.pairStatus (s.mergePairs ps) x) with
  | some x => (s, some (if x.1 = 0x05 then .at_ 0x05 x.2 else { status := x.1, detail := 0, index := x.2 }))
  | none => (ps.foldl State.commitPair s, some .ok)

/-- IO_WRITE at its commit (R314, R320, R321). -/
def State.cmdIoWrite (s : State) (mask val : BitVec 16) : State × Option Result :=
  if s.anySilent then (s, some (.of 0x04))
  else ((s.commitDo mask val false).modHost fun h => { h with ioBits := h.ioBits ||| mask }, some .ok)

/-! ### Snapshots and the journal (R345 to R348, R391) -/

/-- READ_SNAPSHOT at its commit: LATEST returns the kept snapshot, NOW waits for the end of the boundary. -/
def State.cmdReadSnapshot (s : State) (c : Cmd) (set mode len : Nat) : State × Option Result :=
  if len < s.snapLen set then (s, some (.of 0x05))
  else if mode = 0 then (s, none)
  else match s.host.snaps.getD set none with
    | some x => (s.returnData c x.bytes, some .ok)
    | none => (s, some (.of 0x04))

/-- JOURNAL_READ: the buffer header and the records (R391). With no record to write the first SEQ is open. -/
def State.cmdJournalRead (s : State) (c : Cmd) (first : Word) (count : Nat) : State × Option Result :=
  let rs := (s.journal.store.filter fun r => first.toNat ≤ r.seq.toNat).take count
  let f : Word × State := match rs.head? with
    | some r => (r.seq, s)
    | none => s.fresh
  let head := bytesOf f.1 ++ leBytes 4 rs.length ++ bytesOf (s.regs.get JRNL_OLDEST) ++ bytesOf (s.regs.get JRNL_NEWEST)
  (f.2.returnData c (head ++ rs.flatMap JRec.bytes), some .ok)

/-! ### Control law engine and schedule (R62, R117, R128 to R130) -/

/-- LOAD_COEFF at its commit, judged before the swaps of its boundary (R128, R129). -/
def State.cmdLoadCoeff (s : State) (ctx bank off : Nat) (ws : List Word) : State × Option Result :=
  let l := s.lane s.active
  let swapped := s.host.swapped.find? fun x => x.1 = ctx
  let bankNow := l.rd (CLE_CTX_STAT_BANK ctx)
  let active := if swapped.isSome then 1 - bankNow else bankNow
  let pend := match swapped with | some x => x.2 | none => l.on (CLE_CTX_STAT_REBASE_PEND ctx)
  if l.cle.coefLen ctx < off + ws.length then (s, some (.of 0x05))
  else if bank = active || pend then (s, some (.of 0x04))
  else
    let put (l : Lane) : Lane :=
      let base := l.cle.coefBase ctx (bank = 1) + off
      (ws.zipIdx).foldl (fun l w => l.modCle fun c => { c with data := memWr c.data (base + w.2) w.1 }) l
    ((s.bothLanes put).renewRegion, some .ok)

/-- SWAP_BANK at its commit (R129, R130). -/
def State.cmdSwapBank (s : State) (cs : List Nat) (bumpless : Bool) : State × Option Result :=
  let l := s.lane s.active
  if bumpless && cs.any (fun c => !l.cle.rebEn c) then (s, some (.of 0x05))
  else if cs.any (fun c => s.host.swapped.any fun x => x.1 = c) then (s, some (.of 0x04))
  else
    let marks := cs.map fun c => (c, l.on (CLE_CTX_STAT_REBASE_PEND c))
    let swap (l : Lane) (c : Nat) : Lane :=
      let l := l.swapBank c
      if bumpless then l.wr (CLE_CTX_STAT_REBASE_PEND c) 1 else l
    ((s.bothLanes fun l => cs.foldl swap l).modHost fun h => { h with swapped := marks ++ h.swapped }, some .ok)

/-- LOAD_PROGRAM at its commit (R117). -/
def State.cmdLoadProgram (s : State) (img : Image) : State × Option Result :=
  match (s.lane s.active).cle.loadCause img with
  | some x =>
    (s.bothLanes fun l => (l.wr CLE_LOAD_STAT_CTX x.1).wr CLE_LOAD_STAT_CAUSE x.2,
      some { status := 0x08, detail := 3, index := 0 })
  | none =>
    if (imgCtxs img).any fun c => (s.lane s.active).on (CLE_CTX_CFG_EN c) then (s, some (.of 0x04))
    else ((s.bothLanes fun l => { l with cle := l.cle.load img }).renewRegion, some .ok)

/-- SCHED_WRITE at its commit (R62). -/
def State.cmdSchedWrite (s : State) (first : Nat) (es : List EntryWords) : State × Option Result :=
  let nn := (s.lane s.active).asc.nInForce
  match es.findIdx? (entryBad nn) with
  | some k => (s, some (.at_ 0x05 k))
  | none =>
    let put (s : State) (e : EntryWords × Nat) : State :=
      let n := first + e.2
      ((s.commitReg .host (SCHED_W0 n) e.1.w0).commitReg .host (SCHED_W1 n) e.1.w1).commitReg .host (SCHED_W2 n) e.1.w2
    (es.zipIdx.foldl put s, some .ok)

/-! ### Recorder, Rake and injection (R379, R380, R386, R387) -/

/-- A function of the state and a lane, in both lanes. -/
def State.eachLane (s : State) (f : State → LaneId → State) : State := f (f s .a) .b

/-- REC_ARM at its commit (R375, R379). -/
def State.cmdRecArm (s : State) : State × Option Result :=
  let l := s.lane s.active
  if 2 ^ 23 < l.windowSize then (s, some (.of 0x05))
  else if l.recSt ≠ 0 then (s, some (.of 0x04))
  else (s.eachLane State.recFill, some .ok)

/-- REC_STOP at its commit (R380). -/
def State.cmdRecStop (s : State) : State × Option Result := (s.eachLane State.recStop, some .ok)

/-- RAKE_START at its commit (R386). -/
def State.cmdRakeStart (s : State) (frames : Word) : State × Option Result :=
  (s.eachLane fun s i => s.rakeStart i frames, some .ok)

/-- INJECT_START at its commit (R387). -/
def State.cmdInject (s : State) (b : InjBody) : State × Option Result :=
  if !s.injectOk b || s.namesAbsent b.thrMask then (s, some (.of 0x05))
  else if (s.maskOrAll b.thrMask.toNat).any (fun t => s.thread t ≠ 2) || (b.kind ≠ 0 && (s.lane s.active).injecting b.node) then
    (s, some (.of 0x04))
  else (s.eachLane fun s i => s.injectStart i b, some .ok)

/-! ### Faults (R242 to R245) -/

/-- Marks a target of CLEAR_FAULT as cleared or refused. -/
def State.clearTarget (s : State) (scope : Scope) (cleared refused : Fld) (f : State → State) : State :=
  match s.clearable scope with
  | none => s
  | some true => (f s).wr cleared 1
  | some false => s.wr refused 1

/-- CLEAR_FAULT at its commit (R242, R243). A thread that it names and that is not BLOCKED is left as it is and the command
answers as R242 says, where R32 would have STATE (DEDUCED, log 49). -/
def State.cmdClearFault (s : State) (thr : BitVec 8) (aux : BitVec 4) (module : Bool) : State × Option Result :=
  if s.namesAbsent thr then (s, some (.of 0x05))
  else if s.faults.classL then (s, some (.of 0x07))
  else
    let s : State := { s with regs := s.regs.set SLC_CLEAR_RES 0 }
    let s := (thrList thr).foldl (fun s t =>
      s.clearTarget (.thread t) ⟨SLC_CLEAR_RES, 24 + t, 24 + t⟩ ⟨SLC_CLEAR_RES, 16 + t, 16 + t⟩ fun s => s.clearThread t) s
    let s := (numsWhere 4 fun n => aux.getLsbD n).foldl (fun s n =>
      s.clearTarget (.aux n) ⟨SLC_CLEAR_RES, 12 + n, 12 + n⟩ ⟨SLC_CLEAR_RES, 8 + n, 8 + n⟩ fun s =>
        (s.dropCauses (.aux n)).clearAux n) s
    let s := if module then s.clearTarget .module SLC_CLEAR_RES_MOD_CLEARED SLC_CLEAR_RES_MOD_REFUSED State.clearModule else s
    let cleared := s.rd SLC_CLEAR_RES_THR_CLEARED + s.rd SLC_CLEAR_RES_AUX_CLEARED + s.rd SLC_CLEAR_RES_MOD_CLEARED
    let refused := s.rd SLC_CLEAR_RES_THR_REFUSED + s.rd SLC_CLEAR_RES_AUX_REFUSED + s.rd SLC_CLEAR_RES_MOD_REFUSED
    (s.updCauseBits.updModule 0, some (if refused = 0 then .ok else if cleared = 0 then .of 0x06 else .of 0x0A))

/-- LOCKOUT_RESET at its commit (R244, R245, R340). -/
def State.cmdLockoutReset (s : State) (tag : Word) : State × Option Result :=
  match s.lockoutStatus with
  | 0x08 => (s, some (.of 0x08))
  | st =>
    if s.faults.classL && tag ≠ s.faults.lockTag then (s, some { status := 0x08, detail := 4, index := 0 })
    else if st ≠ 0 then (s, some (.of st))
    else (s.endLockout, some .ok)

/-! ### Lanes, time and security (R266, R407, R426 to R431) -/

/-- LANE_CONTROL at its commit (R266). -/
def State.cmdLaneControl (s : State) (i : LaneId) (action : Nat) : State × Option Result :=
  if s.laneControlOk i action then (s.laneControl i action, some .ok) else (s, some (.of 0x04))

/-- TIME_ADJUST at its commit (R407). -/
def State.cmdTimeAdjust (s : State) (mode : Nat) (sec : BitVec 64) (nsec : Word) : State × Option Result :=
  (s.timeAdjust mode sec nsec, some .ok)

/-- ATTEST: without the identity key STATE, and a quote beyond four that wait NO_SPACE; else it goes on at its end (R431,
R432). -/
def State.cmdAttest (s : State) (mode : Nat) : State × Option Result :=
  if !s.sec.identity then (s, some (.of 0x04))
  else if mode = 0 && 4 ≤ s.attWaiting then (s, some (.of 0x09))
  else (s, none)

/-- FW_STAGE: COMMIT needs the slot in force PROVEN (R427); else it goes on at its end. -/
def State.cmdFwStage (s : State) (type action : Nat) : State × Option Result :=
  if action = 2 && s.rd (slotFld (type - 1) (s.rd (SEC_SLOT_IN_FORCE (type - 1)))) ≠ 2 then (s, some (.of 0x04)) else (s, none)

/-! ### Any command -/

/-- A command takes effect at its commit; a result of none goes on in `finishCmd`. -/
def State.runCmd (s : State) (c : Cmd) : State × Option Result :=
  match c.cmd with
  | .nop => (s, some .ok)
  | .setSetpoint ps => s.cmdSetpoint ps
  | .trajSegment b => s.cmdSegment b
  | .trajStop u => s.cmdTrajStop u
  | .setMode thr mode => s.cmdSetMode thr mode
  | .arm thr => s.cmdArm thr
  | .disarm thr => s.cmdDisarm thr
  | .writeRegs _ ps => s.cmdWriteRegs ps
  | .readSnapshot set mode len => s.cmdReadSnapshot c set mode len
  | .loadCoeff ctx bank off ws => s.cmdLoadCoeff ctx bank off ws
  | .swapBank cs bumpless => s.cmdSwapBank cs bumpless
  | .loadProgram img => s.cmdLoadProgram img
  | .schedWrite first es => s.cmdSchedWrite first es
  | .recArm => s.cmdRecArm
  | .recStop => s.cmdRecStop
  | .rakeStart frames => s.cmdRakeStart frames
  | .injectStart b => s.cmdInject b
  | .journalRead first count _ => s.cmdJournalRead c first count
  | .ioWrite mask val => s.cmdIoWrite mask val
  | .clearFault thr aux module => s.cmdClearFault thr aux module
  | .attest _ mode _ => s.cmdAttest mode
  | .timeAdjust mode sec nsec => s.cmdTimeAdjust mode sec nsec
  | .groupStart u at_ => s.cmdGroupStart u at_
  | .laneControl i action => s.cmdLaneControl i action
  | .fwStage type action _ => s.cmdFwStage type action
  | .lockoutReset tag => s.cmdLockoutReset tag
  | .bad _ => (s, some (.of 0x01))

/-- A command as its refusal of staging, or its effect. -/
def State.commitCmd (s : State) (c : Cmd) : State × Option Result :=
  match c.refusal with
  | some r => (s, some r)
  | none => s.runCmd c

/-- A command no longer waits. -/
def State.dropCmd (s : State) (c : Cmd) : State :=
  s.modHost fun h => { h with cmds := h.cmds.filter fun x => x.order ≠ c.order || x.tag ≠ c.tag }

/-- A snapshot of the active lane at the present boundary, delivered with the completion once it is whole (R346, R348). -/
def State.snapNow (s : State) (c : Cmd) (set : Nat) : State :=
  let r := s.takeSnap s.active set false false
  if r.1.holes.isEmpty then (r.2.returnData c r.1.bytes).complete c .ok
  else (r.2.dropCmd c).modHost fun h => { h with snapWait := h.snapWait ++ [{ snap := r.1, lane := s.active, cmd := some c }] }

/-- The end of a command's commit: its completion, or the work that goes on (R244, R342, R346, R428). -/
def State.finishCmd (s : State) (c : Cmd) (r : Option Result) : State :=
  match c.cmd, r with
  | .attest _ _ _, some r => s.secDone c 0 0 r
  | .attest nonce mode _, none => (s.dropCmd c).attest c nonce mode
  | .fwStage type _ _, some r => s.secDone c type 0 r
  | .fwStage type action pkg, none => (s.dropCmd c).fwStage c type action pkg
  | .readSnapshot set _ _, none => s.snapNow c set
  | .lockoutReset _, some r => (if r.status = 0 || r.status = 0x03 then s else s.lockoutRefused r.status).complete c r
  | _, r => s.complete c (r.getD .ok)

/-- A command commits and finishes. -/
def State.doCmd (s : State) (c : Cmd) : State :=
  let r := s.commitCmd c
  (s.legsAfter r.1).finishCmd c r.2

/-- The Sluice completes the command by itself: JOURNAL_READ, ATTEST and FW_STAGE always, LOCKOUT_RESET during start-up, all
outside commit groups (R343, R391, R428). -/
def State.alone (s : State) (c : Cmd) : Bool :=
  !c.hdr.group &&
    match c.cmd with
    | .journalRead _ _ _ => true
    | .attest _ _ _ => true
    | .fwStage _ _ _ => true
    | .lockoutReset _ => s.mod.phase ≠ .run
    | _ => false

/-- The commit stage commits nothing: during start-up, in HOLD, and until an exit from a power state ends (R29, R343, R458). -/
def State.commitsHeld (s : State) : Bool := s.mod.phase ≠ .run || s.hold || s.power.exiting.isSome

/-- Staging of a command has finished: the Sluice completes it by itself, or it waits for its boundary; with CHECK_FAIL it
completes with STATE (R35, R342, R343). -/
def State.route (s : State) (c : Cmd) (wait : State → Cmd → State) : State :=
  if s.alone c then s.doCmd c
  else if s.on SYS_STATE_CHECK_FAIL then s.finishCmd c (some (c.refusal.getD (.of 0x04)))
  else wait s c

/-- A host-command row: the command commits at the boundary in force, with its staging behind it. A member of a commit group,
and any command while nothing commits, waits for a later boundary. -/
def State.direct (s : State) (h : Hdr) (cmd : HostCmd) : State :=
  let c : Cmd := { tag := 1000, head := (if h.sq < 16 then s.rd (HQ_SQ_STAT_HEAD h.sq) else 0), hdr := h, cmd := cmd, staged := true,
                   order := s.host.order, refusal := none, fetched := s.mod.tally, at_ := s.now, xid := 0, netSrc := 0, netMinor := 3,
                   netMajor := 2, got := 0 }
  let s := s.modHost fun x => { x with order := x.order + 1 }
  let r := s.staged c
  r.2.route r.1 fun s c =>
    if h.group || s.commitsHeld then s.modHost fun x => { x with cmds := x.cmds ++ [c] }
    else (s.doCmd c).softReset

/-! ### The rows -/

/-- NOP: answered with OK and the boundary's Tally (R341). -/
def execNop (h : Hdr) (s : State) : Host.Outcome State Fault Refusal := .next (s.direct h .nop)
/-- SET_SETPOINT: setpoint words but the mode words (R139, R341). -/
def execSetSetpoint (h : Hdr) (pairs : List (Nat × Nat × Word)) (s : State) : Host.Outcome State Fault Refusal :=
  .next (s.direct h (.setSetpoint pairs))
/-- TRAJ_SEGMENT: a segment joins its unit's queue (R165, R166). -/
def execTrajSegment (h : Hdr) (b : SegBody) (s : State) : Host.Outcome State Fault Refusal := .next (s.direct h (.trajSegment b))
/-- TRAJ_STOP: the named units stop (R173). -/
def execTrajStop (h : Hdr) (units : BitVec 4) (s : State) : Host.Outcome State Fault Refusal := .next (s.direct h (.trajStop units))
/-- SET_MODE: the mode word of the named threads (R32, R138, R341). -/
def execSetMode (h : Hdr) (thr : BitVec 8) (mode : BitVec 16) (s : State) : Host.Outcome State Fault Refusal :=
  .next (s.direct h (.setMode thr mode))
/-- ARM: the named threads go from OFF to ARMED (R32). -/
def execArm (h : Hdr) (thr : BitVec 8) (s : State) : Host.Outcome State Fault Refusal := .next (s.direct h (.arm thr))
/-- DISARM: the named threads return to OFF (R32). -/
def execDisarm (h : Hdr) (thr : BitVec 8) (s : State) : Host.Outcome State Fault Refusal := .next (s.direct h (.disarm thr))
/-- WRITE_REGS: register pairs at one boundary (R341). -/
def execWriteRegs (h : Hdr) (buffered : Bool) (pairs : List (Nat × Word)) (s : State) : Host.Outcome State Fault Refusal :=
  .next (s.direct h (.writeRegs buffered pairs))
/-- READ_SNAPSHOT (R348). -/
def execReadSnapshot (h : Hdr) (set mode : Nat) (bufLen : Nat) (s : State) : Host.Outcome State Fault Refusal :=
  .next (s.direct h (.readSnapshot set mode bufLen))
/-- LOAD_COEFF: words of an inactive coefficient bank (R128). -/
def execLoadCoeff (h : Hdr) (ctx bank offset : Nat) (words : List Word) (s : State) : Host.Outcome State Fault Refusal :=
  .next (s.direct h (.loadCoeff ctx bank offset words))
/-- SWAP_BANK: the active banks of contexts change (R129, R130). -/
def execSwapBank (h : Hdr) (ctxs : List Nat) (bumpless : Bool) (s : State) : Host.Outcome State Fault Refusal :=
  .next (s.direct h (.swapBank ctxs bumpless))
/-- LOAD_PROGRAM: an image for the control law engine (R117). -/
def execLoadProgram (h : Hdr) (img : Image) (s : State) : Host.Outcome State Fault Refusal := .next (s.direct h (.loadProgram img))
/-- SCHED_WRITE: schedule entries (R62). -/
def execSchedWrite (h : Hdr) (first : Nat) (entries : List EntryWords) (s : State) : Host.Outcome State Fault Refusal :=
  .next (s.direct h (.schedWrite first entries))
/-- REC_ARM: the recorder starts (R379). -/
def execRecArm (h : Hdr) (s : State) : Host.Outcome State Fault Refusal := .next (s.direct h .recArm)
/-- REC_STOP: the recorder stops (R380). -/
def execRecStop (h : Hdr) (s : State) : Host.Outcome State Fault Refusal := .next (s.direct h .recStop)
/-- RAKE_START: Rake starts or stops (R386). -/
def execRakeStart (h : Hdr) (frames : Word) (s : State) : Host.Outcome State Fault Refusal := .next (s.direct h (.rakeStart frames))
/-- INJECT_START: an injection starts or stops (R387). -/
def execInjectStart (h : Hdr) (b : InjBody) (s : State) : Host.Outcome State Fault Refusal := .next (s.direct h (.injectStart b))
/-- JOURNAL_READ: committed journal records are returned (R391). -/
def execJournalRead (h : Hdr) (firstSeq : Word) (count bufLen : Nat) (s : State) : Host.Outcome State Fault Refusal :=
  .next (s.direct h (.journalRead firstSeq count bufLen))
/-- IO_WRITE: the named digital outputs (R320). -/
def execIoWrite (h : Hdr) (mask val : BitVec 16) (s : State) : Host.Outcome State Fault Refusal := .next (s.direct h (.ioWrite mask val))
/-- CLEAR_FAULT: class B faults whose causes have gone (R242, R243). -/
def execClearFault (h : Hdr) (thr : BitVec 8) (aux : BitVec 4) (module : Bool) (s : State) : Host.Outcome State Fault Refusal :=
  .next (s.direct h (.clearFault thr aux module))
/-- ATTEST: a quote or the certificate (R430). -/
def execAttest (h : Hdr) (nonce : List Byte) (mode bufLen : Nat) (s : State) : Host.Outcome State Fault Refusal :=
  .next (s.direct h (.attest nonce mode bufLen))
/-- TIME_ADJUST: the PTP clock is set or stepped (R407). -/
def execTimeAdjust (h : Hdr) (mode : Nat) (sec : BitVec 64) (nsec : Word) (s : State) : Host.Outcome State Fault Refusal :=
  .next (s.direct h (.timeAdjust mode sec nsec))
/-- GROUP_START: the waiting units start together (R172). -/
def execGroupStart (h : Hdr) (units : BitVec 4) (tStart : BitVec 64) (s : State) : Host.Outcome State Fault Refusal :=
  .next (s.direct h (.groupStart units tStart))
/-- LANE_CONTROL: a lane is restarted, retired or swapped (R265, R266). -/
def execLaneControl (h : Hdr) (lane : LaneId) (action : Nat) (s : State) : Host.Outcome State Fault Refusal :=
  .next (s.direct h (.laneControl lane action))
/-- FW_STAGE: a package is staged or committed (R426). -/
def execFwStage (h : Hdr) (type action : Nat) (pkg : Package) (s : State) : Host.Outcome State Fault Refusal :=
  .next (s.direct h (.fwStage type action pkg))
/-- LOCKOUT_RESET: class L ends (R244, R245). -/
def execLockoutReset (h : Hdr) (tag : Word) (s : State) : Host.Outcome State Fault Refusal := .next (s.direct h (.lockoutReset tag))

end Sys2Proof.Machine
end

