-- ==== Sys2Proof/Machine/Fire.lean ====
section
/-! DEFINITION. The dispatch queue (R64): one entry a tick sends its action to its block (R61, R65). -/
namespace Sys2Proof.Machine

/-- The action of a dispatched entry in a lane (R61, R65). A LATE conversion, latch, snapshot and event carry the mark. -/
def State.fire (s : State) (i : LaneId) (e : QEntry) : State :=
  let t := bitsOf e.words.w1 15 0
  match bitsOf e.words.w1 23 20 with
  | 1 => s.convStart i t e.late
  | 2 => s.modLane i fun l => l.filtLatch s.now t e.late
  | 3 => s.launch i t
  | 4 => s.modLane i fun l => l.pwmLoad t
  | 5 => s.schedSnap i t e.late
  | 6 => s.raiseFrom i (28 + t % 8) (bitsOf e.words.w2 15 0)
  | 7 => (s.modLane i fun l => l.syncOut s.now (t % 8) (bitsOf e.words.w2 15 0)).syncWatch i (s.lane i)
  | _ => s

/-- The counts of a firing: FIRE_CNT and LATE_LAST of the entry, CNT_LATE of its source (R52, R60). -/
def Lane.countFire (l : Lane) (e : QEntry) : Lane :=
  let l := (l.bump (SCHED_W3_FIRE_CNT e.idx)).wr (SCHED_W3_LATE_LAST e.idx) (b2n e.late)
  if e.late then l.bump (ASC_S_CNT_LATE_CNT_LATE e.src) else l

/-- A lane's queue dispatches its oldest entry, where it entered in an earlier tick and none has been dispatched in this
tick (R64). -/
def State.dispatchOne (s : State) (i : LaneId) : State :=
  let l := s.lane i
  match l.asc.queue with
  | [] => s
  | e :: rest =>
    if s.now ≤ e.at_ || l.asc.lastDisp = some s.now then s
    else
      let l := (l.modAsc fun a => { a with queue := rest, lastDisp := some s.now }).countFire e
      (s.setLane i l).fire i e

/-- The lane's queue holds an entry that this tick cannot dispatch. -/
def State.mustWait (s : State) (i : LaneId) : Bool :=
  let l := s.lane i
  match l.asc.queue with
  | [] => false
  | e :: _ => s.now ≤ e.at_ || l.asc.lastDisp = some s.now

/-- ENTRY_DISPATCH: the queue dispatches one entry, in the next tick where the present one allows none (R64; log 5). -/
def execEntryDispatch (ln : LaneSel) (s : State) : Host.Outcome State Fault Refusal :=
  let wait := match ln with
    | .a => s.mustWait .a
    | .b => s.mustWait .b
    | .both => s.mustWait .a || s.mustWait .b
  let s := if wait then s.pass 1 else s
  .next (s.onLanes ln State.dispatchOne)

end Sys2Proof.Machine
end

