-- ==== Sys2Proof/Machine/Psf.lean ====
section
/-! DEFINITION. Porpatis Safe Frames (R299 to R302): what a frame does in the Safety Monitors, the STATUS frame that answers
it, and the two times that run from it. -/
namespace Sys2Proof.Machine

/-! ### Fields of a frame (R299) -/

/-- The number in n bytes of a frame from a place. -/
def psfNum (f : List Byte) (at_ n : Nat) : Nat := ofLe ((f.drop at_).take n)

/-- CRC-32C of a safe frame with the initial value of the connection (R299). -/
def psfCrc (seed : Nat) (f : List Byte) : Word := crc32c (BitVec.ofNat 32 (seed + 0xFFFF0000)) (f.take 60)

/-- VER, CRC, CONN and TYPE are correct for a lane (R299, R300). -/
def State.psfSound (s : State) (l : Lane) (f : List Byte) : Bool :=
  f.length = 64 && psfNum f 0 1 = s.rd SEC_IF_CFG_PSF_VER && psfNum f 60 4 = (psfCrc (l.rd SAFE_PSF_CONN_SEED) f).toNat &&
    psfNum f 2 2 = l.rd SAFE_PSF_CONN_CONN && (psfNum f 1 1 = 1 || psfNum f 1 1 = 2)

/-- The age check is suspended: v2 without a synchronised PTP clock (R300). -/
def State.psfNoTime (s : State) : Bool := s.rd SEC_IF_CFG_PSF_VER = 2 && s.noTime

/-- Local PTP time minus the frame's time, in nanoseconds; the seconds count modulo 2^32 (R299, R300). -/
def State.psfAge (s : State) (f : List Byte) : Int :=
  (BitVec.ofNat 32 s.clock.sec.toNat - BitVec.ofNat 32 (psfNum f 8 4)).toInt * 1000000000 + (s.clock.ns : Int) - psfNum f 12 4

/-- The age lies within bounds, where it is checked (R300). -/
def State.psfInTime (s : State) (l : Lane) (f : List Byte) : Bool :=
  s.rd SEC_IF_CFG_PSF_VER ≠ 2 || s.noTime ||
    (decide (-1000000 ≤ s.psfAge f) && decide (s.psfAge f ≤ 1000000 * (l.rd SAFE_PSF_CFG_PSF_AGE : Int)))

/-- The SEQ follows LAST by 1 to 16; with LAST unset, a CMD frame needs no such relation and no LOCKOUT_RESET frame is
accepted (R300). -/
def psfSeqOk (last : Option PsfLast) (f : List Byte) : Bool :=
  match last with
  | some x =>
    let d := (BitVec.ofNat 32 (psfNum f 4 4) - x.seq).toNat
    1 ≤ d && d ≤ 16
  | none => psfNum f 1 1 = 1

/-! ### The STATUS frame (R301) -/

/-- The STATUS frame that the active lane builds. -/
def State.psfStatus (s : State) : List Byte :=
  let l := s.lane s.active
  let ver := s.rd SEC_IF_CFG_PSF_VER
  let time := if ver = 2 then leBytes 4 s.clock.sec.toNat ++ leBytes 4 s.clock.ns else leBytes 8 0
  let flags := b2n (l.on SAFE_STAT_STO) + 2 * b2n s.faults.classL + 4 * b2n (l.on SAFE_STAT_DEGRADED) +
    8 * b2n (l.on SAFE_STAT_SLS_OK) + 16 * b2n (l.on SAFE_STAT_LOCK_PERMIT)
  let data := [BitVec.ofNat 8 flags, BitVec.ofNat 8 s.safe.lockStatus, BitVec.ofNat 8 (l.rd SAFE_STAT_CAUSE), 0] ++
    bytesOf s.faults.lockTag ++ leBytes 4 l.smon.safeSpeed
  let body := padTo 60 0 ([BitVec.ofNat 8 ver, 0x81] ++ leBytes 2 (l.rd SAFE_PSF_CONN_CONN) ++
    leBytes 4 s.safe.statusSeq ++ time ++ data)
  body ++ bytesOf (psfCrc (l.rd SAFE_PSF_CONN_SEED) body)

/-- A STATUS frame goes out on both ports, with its own SEQ. -/
def State.sendPsfStatus (s : State) : State :=
  s.modSafe fun x => { x with statusSeq := (x.statusSeq + 1) % 2 ^ 32, statusSent := s.psfStatus :: x.statusSent }

/-! ### LOCKOUT_RESET by safe frame (R302) -/

/-- Once every lane whose SMON runs has accepted the same LOCKOUT_RESET frame, a wrong tag completes with CHECK_FAIL; a
right one waits for the next boundary (R302). -/
def State.psfLockout (s : State) (tag : Word) : State :=
  if [LaneId.a, LaneId.b].all fun i => !s.laneLive i || (s.lane i).smon.lockReset = some tag then
    let s := s.bothLanes fun l => l.modSmon fun m => { m with lockReset := none }
    if tag ≠ s.faults.lockTag then (s.modSafe fun x => { x with lockStatus := 0x08 }).lockoutRefused 0x08
    else s.modSafe fun x => { x with lockPend := some tag }
  else s

/-- The LOCKOUT_RESET that waits for a boundary is decided there (R244, R245, R302). -/
def State.boundaryLockout (s : State) : State :=
  match s.safe.lockPend with
  | none => s
  | some _ =>
    let status := s.lockoutStatus
    let s := s.modSafe fun x => { x with lockPend := none, lockStatus := status }
    if status = 0 then s.endLockout else s.lockoutRefused status

/-! ### Arrival (R300) -/

/-- A lane's SMON accepts a frame as new. -/
def State.psfAccept (s : State) (i : LaneId) (f : List Byte) : State :=
  let x : PsfLast := { seq := BitVec.ofNat 32 (psfNum f 4 4), bytes := f, at_ := s.now, matched := false }
  let s := s.modLane i fun l => l.modSmon fun m => { m with last := some x, psfTimeout := false }
  if psfNum f 1 1 = 1 then
    let s := s.modLane i fun l => l.modSmon fun m => { m with cmdBits := BitVec.ofNat 3 (psfNum f 16 1) }
    if s.active = i then s.sendPsfStatus else s
  else
    let tag := BitVec.ofNat 32 (psfNum f 16 4)
    (s.modLane i fun l => l.modSmon fun m => { m with lockReset := some tag }).psfLockout tag

/-- A frame reaches a lane's SMON: a new frame, a copy of LAST, which within MATCH_WIN must equal it, or one to discard
(R300). -/
def State.psfFrame (s : State) (i : LaneId) (f : List Byte) : State :=
  let l := s.lane i
  if !l.on SAFE_PSF_CFG_PSF_EN then s
  else
    let s := s.modLane i fun l => l.wr SAFE_PSF_STAT_NOTIME (b2n s.psfNoTime)
    let copy := match l.smon.last with
      | some x => s.psfSound l f && decide (x.seq.toNat = psfNum f 4 4)
      | none => false
    if copy then
      match l.smon.last with
      | some x =>
        if x.at_ + 400000 * l.rd SAFE_PSF_CFG_MATCH_WIN < s.now then s
        else if x.bytes = f then s.modLane i fun l => l.modSmon fun m => { m with last := some { x with matched := true } }
        else s.smonInstant i 0x25 1
      | none => s
    else if s.psfSound l f && psfSeqOk l.smon.last f && s.psfInTime l f then s.psfAccept i f
    else s.modLane i fun l => l.bump SAFE_PSF_STAT_DISCARD

/-- PSF_CMD: a CMD frame arrives at an Ethernet port (R299 to R301). -/
def execPsfCmd (ln : LaneSel) (frame : List Byte) (s : State) : Host.Outcome State Fault Refusal :=
  .next (s.onLanes ln fun s i => s.psfFrame i frame)

/-- PSF_LOCKOUT_RESET: a LOCKOUT_RESET frame arrives at an Ethernet port (R299, R300, R302). -/
def execPsfLockoutReset (ln : LaneSel) (frame : List Byte) (s : State) : Host.Outcome State Fault Refusal :=
  .next (s.onLanes ln fun s i => s.psfFrame i frame)

/-- PSF_MATCH_WIN: no second copy of the last accepted frame came within MATCH_WIN; SINGLE counts it once (R300). -/
def execPsfMatchWin (ln : LaneSel) (s : State) : Host.Outcome State Fault Refusal :=
  .next (s.onLanes ln fun s i =>
    match (s.lane i).smon.last with
    | none => s
    | some x =>
      if x.matched then s
      else
        let s := s.passTo (x.at_ + 400000 * (s.lane i).rd SAFE_PSF_CFG_MATCH_WIN)
        s.modLane i fun l =>
          (l.bump SAFE_PSF_STAT_SINGLE).modSmon fun m => { m with last := some { x with matched := true } })

/-- PSF_TIMEOUT: no new frame was accepted within PSF_WDOG of the last one, or of the instant at which LAST became unset;
LAST becomes unset (R300). -/
def execPsfTimeout (ln : LaneSel) (s : State) : Host.Outcome State Fault Refusal :=
  .next ((s.onLanes ln fun s i =>
    let l := s.lane i
    let base := match l.smon.last with
      | some x => x.at_
      | none => l.smon.unsetSince
    if !l.on SAFE_PSF_CFG_PSF_EN || l.smon.psfTimeout then s
    else
      let s := s.passTo (base + 400000 * l.rd SAFE_PSF_CFG_PSF_WDOG)
      s.modLane i fun l => l.modSmon fun m =>
        { m with psfTimeout := true, last := none, unsetSince := s.now,
                 demands := if m.demands.contains 0x24 then m.demands else 0x24 :: m.demands }).syncDemands)

end Sys2Proof.Machine
end

