-- ==== Sys2Proof/Machine/Staging.lean ====
section
/-! DEFINITION. Fetching and staging of commands (R333 to R335, R342 to R344), and the network ports (R437). -/
namespace Sys2Proof.Machine

/-! ### Fetched commands -/

/-- Every command that has been fetched and not completed. -/
def State.openCmds (s : State) : List Cmd :=
  s.host.cmds ++ s.host.snapWait.filterMap (·.cmd) ++ s.sec.waiting.map (·.1) ++ s.sec.writing.filterMap (·.cmd) ++
    s.sec.queue.map fun o => match o with | .check c _ _ _ => c | .sign c _ => c

/-- The lowest free tag of a range. -/
def State.freeTagIn (s : State) (base n : Nat) : Option Nat :=
  let used := s.openCmds.map (·.tag)
  ((List.range n).find? fun k => !used.contains (base + k)).map fun k => base + k

/-- TAG_MAX in force: TAG_MAX + 1, at most 16 below version 2.3 (R334). -/
def State.tagLimit (s : State) (q : Nat) : Nat :=
  let n := s.rd (HQ_SQ_CFG_TAG_MAX q) + 1
  if verHas s.version 2 3 then n else min n 16

/-- An SQ has descriptors waiting and meets the three conditions of R334. -/
def State.mayFetch (s : State) (q : Nat) : Bool :=
  let cq := s.rd (HQ_SQ_CFG_CQ q)
  s.on (HQ_SQ_CFG_EN q) && !s.on (HQ_SQ_STAT_FAULT q) && s.rd (HQ_SQ_STAT_HEAD q) ≠ s.host.sqTail.getD q 0 &&
    s.rd HQ_STAT_TAGS < 128 && s.rd (HQ_SQ_STAT_INFLIGHT q) < s.tagLimit q &&
    s.on (HQ_CQ_CFG_EN cq) && !s.on (HQ_CQ_STAT_FAULT cq) &&
    s.cqUsed cq + s.rd (HQ_CQ_STAT_RESERVED_CNT cq) < 2 ^ s.rd (HQ_CQ_CFG_DEPTH cq)

/-- The SQ that the weighted round robin serves next: the one in turn until its weight is used up, then the next in ascending
number that may be fetched from (R335). -/
def State.nextSq (s : State) : Option Nat :=
  let t := s.host.turn
  if s.mayFetch t && s.host.served ≤ s.rd (HQ_SQ_CFG_WEIGHT t) then some t
  else ((List.range 16).map fun k => (t + 1 + k) % 16).find? s.mayFetch

/-- A fetch from an SQ counts towards its weight, from 1 on where its turn begins (R335). -/
def State.serve (s : State) (q : Nat) : State :=
  let more := s.host.turn = q && s.host.served ≤ s.rd (HQ_SQ_CFG_WEIGHT q)
  s.modHost fun h => { h with turn := q, served := (if more then h.served + 1 else 1) }

/-- A fetched descriptor takes its tag and its reserved entry (R334). -/
def State.fetch (s : State) (q tag : Nat) (h : Hdr) (cmd : HostCmd) : State :=
  let cq := s.rd (HQ_SQ_CFG_CQ q)
  let head := (s.rd (HQ_SQ_STAT_HEAD q) + 1) % 2 ^ s.rd (HQ_SQ_CFG_DEPTH q)
  let c : Cmd := { tag := tag, head := head, hdr := { h with sq := q }, cmd := cmd, staged := false, order := s.host.order,
                   refusal := none, fetched := s.mod.tally, at_ := s.now, xid := 0, netSrc := 0, netMinor := 0, netMajor := 0,
                   got := 0 }
  let n := s.rd HQ_STAT_TAGS + 1
  let s := (s.wr HQ_STAT_TAGS n).wr HQ_STAT_TAG_HWM (max n (s.rd HQ_STAT_TAG_HWM))
  let s := ((s.wr (HQ_SQ_STAT_HEAD q) head).bump (HQ_SQ_STAT_INFLIGHT q)).bump (HQ_CQ_STAT_RESERVED_CNT cq)
  s.modHost fun x => { x with cmds := x.cmds ++ [c], order := x.order + 1 }

/-- DESCRIPTOR_FETCH: the device reads the next descriptor of the SQ that its round robin serves; a failed read puts the SQ in
FAULT. In Slack and Doze an exit starts (R333 to R336, R458). -/
def execDescriptorFetch (sq : Nat) (d : Descriptor) (s : State) : Host.Outcome State Fault Refusal :=
  .next (if s.nextSq ≠ some sq then s
    else match d, s.freeTagIn 0 128 with
      | .failed, _ => (s.serve sq).queueFault .sq sq 2
      | .read bytes buf, some tag =>
        let c := descAt sq bytes buf
        ((s.serve sq).fetch sq tag c.1 c.2).startExit none
      | .read _ _, none => s)

/-! ### Staging (R342, R343) -/

/-- A command in its place among those that wait. -/
def State.putCmd (s : State) (c : Cmd) : State :=
  s.modHost fun h => { h with cmds := h.cmds.map fun x => if x.tag = c.tag && c.tag ≠ 1000 then c else x }

/-- The data of a waiting command have been read, or their read has failed: its staging finishes. -/
def State.stageCmd (s : State) (c : Cmd) (data : DataRead) : State :=
  let c := { c with hdr := { c.hdr with data := data }, order := s.host.order }
  let s := s.modHost fun h => { h with order := h.order + 1 }
  let r := s.staged c
  (r.2.putCmd r.1).route r.1 fun s _ => s

/-- STAGING_DONE: a command of a ring has been staged. One fetched in Slack or Doze finishes at the end of the exit (R342,
R343, R458). -/
def execStagingDone (tag : Nat) (data : DataRead) (s : State) : Host.Outcome State Fault Refusal :=
  .next (match s.host.cmds.find? fun c => c.tag = tag && c.tag < 128 && !c.staged with
    | none => s
    | some c => if s.power.exiting.isSome then s else s.stageCmd c data)

/-! ### Commit groups (R344) -/

/-- The result of the higher priority (R338). -/
def worse (a : Option Result) (b : Result) : Result :=
  match a with
  | some r => if statusRank r.status ≤ statusRank b.status then r else b
  | none => b

/-- A single command, or a commit group with whatever lies between its members (R344). -/
structure CmdUnit where
  cmds : List Cmd
  closed : Bool
deriving DecidableEq, Repr

/-- The command is a member of the commit group that another one opened. -/
def sameGroup (c x : Cmd) : Bool := x.hdr.group && x.hdr.commitId = c.hdr.commitId

/-- The commands of one SQ as units: a group reaches up to its first member with LAST, an open one up to its last member so
far. -/
def unitsOf : Nat → List Cmd → List CmdUnit
  | 0, _ => []
  | _, [] => []
  | n + 1, c :: t =>
    if !c.hdr.group || c.hdr.last then { cmds := [c], closed := true } :: unitsOf n t
    else match t.findIdx? fun x => sameGroup c x && x.hdr.last with
      | some k => { cmds := c :: t.take (k + 1), closed := true } :: unitsOf n (t.drop (k + 1))
      | none =>
        let k := t.length - (t.reverse.takeWhile fun x => !sameGroup c x).length
        { cmds := c :: t.take k, closed := false } :: unitsOf n (t.drop k)

/-- The commands of one SQ, in SQ order. -/
def State.sqCmds (s : State) (q : Nat) : List Cmd := s.host.cmds.filter fun c => c.hdr.sq = q

/-- The units of one SQ, in SQ order. -/
def State.sqUnits (s : State) (q : Nat) : List CmdUnit := unitsOf (s.sqCmds q).length (s.sqCmds q)

/-- The group times out: its members so far are refused, and the group is closed. -/
def State.timeOut (s : State) (u : CmdUnit) : State :=
  let keys := u.cmds.map fun c => (c.order, c.tag)
  let last := (u.cmds.getLast?.map fun c => (c.order, c.tag)).getD (0, 0)
  let first := u.cmds.head?
  let out := fun (c : Cmd) => first.any fun x => sameGroup x c
  s.modHost fun h =>
    { h with
      order := h.order + 1
      cmds := h.cmds.map fun c =>
        if keys.contains (c.order, c.tag) && out c then
          { c with refusal := some (worse c.refusal { status := 0x0B, detail := 1, index := 0 }), staged := true,
                   hdr := { c.hdr with last := (c.order, c.tag) = last } }
        else c }

/-- COMMIT_GROUP_TIMEOUT: in the last of the GROUP_TIMEOUT frames after the fetch of its first member, and later, the open
group of an SQ is marked; it completes with TIMEOUT at the next boundary (R344). -/
def execCommitGroupTimeout (sq : Nat) (s : State) : Host.Outcome State Fault Refusal :=
  .next (match (s.sqUnits sq).find? fun u => !u.closed with
    | none => s
    | some u =>
      if u.cmds.head?.any fun c => c.fetched.toNat + s.rd HQ_CFG_GROUP_TIMEOUT ≤ s.mod.tally.toNat + 1 then s.timeOut u else s)

/-! ### The commits of a boundary (R20, R129, R245, R321, R342, R344) -/

/-- What commits: a staged direct write, or a unit. -/
inductive CommitItem where
  | write (w : StagedWrite)
  | unit (u : CmdUnit)
deriving DecidableEq, Repr

/-- The item holds a command of a kind. -/
def CommitItem.has (p : HostCmd → Bool) : CommitItem → Bool
  | .write _ => false
  | .unit u => u.cmds.any fun c => p c.cmd

def isClear : HostCmd → Bool
  | .clearFault _ _ _ => true
  | _ => false

def isLockout : HostCmd → Bool
  | .lockoutReset _ => true
  | _ => false

/-- A list with its LOCKOUT_RESETs moved ahead of the first CLEAR_FAULT (R245). -/
def hoist {α : Type} (lock clear : α → Bool) (l : List α) : List α :=
  l.foldl (fun a x =>
    if lock x then a.takeWhile (fun y => !clear y) ++ x :: a.dropWhile (fun y => !clear y) else a ++ [x]) []

/-- The units of an SQ that commit, each with its place in staging order: no unit commits ahead of one before it (R342). -/
def readyUnits : Nat → List CmdUnit → List (Nat × CommitItem)
  | _, [] => []
  | key, u :: t =>
    if u.closed && u.cmds.all (·.staged) then
      let key := u.cmds.foldl (fun a c => max a c.order) key
      (key, .unit u) :: readyUnits key t
    else []

/-- An item placed by its order. -/
def insertItem (x : Nat × CommitItem) : List (Nat × CommitItem) → List (Nat × CommitItem)
  | [] => [x]
  | y :: t => if y.1 ≤ x.1 then y :: insertItem x t else x :: y :: t

/-- What commits at this boundary, in staging order. -/
def State.commitList (s : State) : List CommitItem :=
  let all := (List.range 19).flatMap (fun q => readyUnits 0 (s.sqUnits q)) ++ s.host.staged.map fun w => (w.order, .write w)
  (all.foldl (fun a x => insertItem x a) []).map (·.2)

/-- The members of a group commit in turn. -/
def State.runGroup (s : State) (cs : List Cmd) : State × List (Cmd × Option Result) :=
  (hoist (fun c => isLockout c.cmd) (fun c => isClear c.cmd) cs).foldl (fun r c =>
    let x := r.1.commitCmd c
    (x.1, r.2 ++ [(c, x.2)])) (s, [])

/-- A result is OK, or still open. -/
def fine (r : Option Result) : Bool := r.all fun x => x.status = 0

/-- The result of a command in a list of results. -/
def resultOf (rs : List (Cmd × Option Result)) (c : Cmd) : Option Result :=
  ((rs.find? fun r => r.1.order = c.order && r.1.tag = c.tag).map (·.2)).getD none

/-- A unit commits. A group commits whole, or completes as R344 states with nothing of it in effect; a refused LOAD_PROGRAM
still shows its cause. -/
def State.runUnit (s : State) (u : CmdUnit) : State × List (Cmd × Option Result) :=
  match u.cmds with
  | [] => (s, [])
  | c :: t =>
    if !c.hdr.group then
      let r := s.commitCmd c
      (r.1, [(c, r.2)])
    else
      let mixed := t.any fun x => !sameGroup c x
      if mixed || 64 < u.cmds.length then (s, u.cmds.map fun x => (x, some (worse x.refusal (.of 0x05))))
      else
        let r := s.runGroup u.cmds
        if r.2.all fun x => fine x.2 then r
        else
          let s := s.bothLanes fun l => { l with regs := l.regs.set CLE_LOAD_STAT ((r.1.lane r.1.active).regs.get CLE_LOAD_STAT) }
          (s, r.2.map fun x => (x.1, if fine x.2 then some { status := 0x08, detail := 2, index := 0 } else x.2))

/-- An item commits. -/
def State.runItem (r : State × List (Cmd × Option Result)) (x : CommitItem) : State × List (Cmd × Option Result) :=
  match x with
  | .write w => (r.1.commitStaged w, r.2)
  | .unit u =>
    let y := r.1.runUnit u
    (y.1, r.2 ++ y.2)

/-- Items commit in turn; the stops and the segments among them stand ahead of the units' steps (R177). -/
def State.runItems (s : State) (items : List CommitItem) (ahead : List Nat × List Nat) : State × List (Cmd × Option Result) :=
  items.foldl State.runItem (s.modHost fun h => { h with stopAhead := ahead.1, segAhead := ahead.2 }, [])

/-- The units that commands name to stop, and for a segment. -/
def askedAhead (cs : List Cmd) : List Nat × List Nat :=
  let cs := cs.filter fun c => c.refusal.isNone
  (numsWhere 4 fun u => cs.any fun c => match c.cmd with | .trajStop m => m.getLsbD u | _ => false,
   numsWhere 4 fun u => cs.any fun c => match c.cmd with | .trajSegment b => b.unit.toNat = u | _ => false)

/-- The units that this boundary's commits stop, and those that they queue a segment for. -/
def State.doneAhead (s : State) : List Nat × List Nat :=
  let l := s.lane s.active
  (numsWhere 4 fun u => (l.unit u).stopReq = some s.mod.tally,
   numsWhere 4 fun u => (l.unit u).queue.any fun g => g.queuedAt = s.mod.tally)

/-- Every command and direct write that is ready commits; the results stand in the order of their completions (R342). A stop or
a segment that its own commit refuses is left out of what the others find ahead of them (R177). -/
def State.commitAll (s : State) : State × List (Cmd × Option Result) :=
  let s := s.modHost fun h => { h with swapped := [], ioBits := 0 }
  if s.commitsHeld then (s, [])
  else
    let items := s.commitList
    let s := s.modHost fun h => { h with staged := [] }
    let order := items.flatMap fun x => match x with | .write _ => [] | .unit u => u.cmds
    let items := hoist (CommitItem.has isLockout) (CommitItem.has isClear) items
    let r := s.runItems items (askedAhead order)
    let r := if r.1.doneAhead = askedAhead order then r else s.runItems items r.1.doneAhead
    (r.1.modHost fun h => { h with stopAhead := [], segAhead := [] }, order.map fun c => (c, resultOf r.2 c))

/-! ### Network ports (R437) -/

def NetPort.num : NetPort → Nat
  | .farmA => 0
  | .farmB => 1
  | .service => 2

/-- The version of a frame lies in the device's ranges. -/
def netVersionOk (maj min : Byte) : Bool := (maj = 1 && min.toNat ≤ 4) || (maj = 2 && min.toNat ≤ 3)

/-- A transaction of a port that still waits for data. -/
def State.netWaiting (s : State) (p : NetPort) (xid : Word) : Option Cmd :=
  s.host.cmds.find? fun c => c.hdr.sq = 16 + NetPort.num p && c.xid = xid && !c.staged

/-- NET_DESCRIPTOR: a descriptor frame arrives on a network port. A port that is off and another EtherType discard it, a 17th
open transaction is answered with NO_SPACE, and a command without data is staged at once (R437, R458). -/
def execNetDescriptor (f : NetFrame) (s : State) : Host.Outcome State Fault Refusal :=
  let p := NetPort.num f.port
  let d := descAt (16 + p) f.bytes f.buf
  let c : Cmd := { tag := 128 + 16 * p, head := 0, hdr := d.1, cmd := d.2, staged := false, order := s.host.order, refusal := none, fetched := s.mod.tally, at_ := s.now,
                   xid := f.xid, netSrc := f.src, netMinor := f.verMin.toNat, netMajor := f.verMaj.toNat, got := 0 }
  .next (if !bitAt (s.rd SEC_NET_CFG_PORT_EN) p || f.etype.toNat ≠ s.rd SEC_NET_CFG_ETYPE then s
    else
      let s := (s.startExit none).modHost fun h => { h with order := h.order + 1 }
      match s.freeTagIn (128 + 16 * p) 16 with
      | none => s.complete { c with tag := 999 } (.of 0x09)
      | some tag =>
        let c := { c with tag := tag }
        let s := s.modHost fun h => { h with cmds := h.cmds ++ [c] }
        if !netVersionOk f.verMaj f.verMin then
          s.putCmd { c with refusal := some (.of (match c.cmd with | .bad _ => 0x01 | _ => 0x02)), staged := true }
        else if readsBuffer c.hdr c.cmd && !noData c.hdr then s
        else s.stageCmd c .none)

/-- NET_DATA_FRAGMENT: the next data of a transaction arrive; with the last byte of its data it is staged (R437). -/
def execNetDataFragment (p : NetPort) (xid : Word) (offset len : Nat) (_last : Bool) (s : State) : Host.Outcome State Fault Refusal :=
  .next (match s.netWaiting p xid with
    | none => s
    | some c =>
      if 1472 < len || c.got < offset then s
      else
        let c := { c with got := max c.got (offset + len) }
        if max (bufferLen c.cmd) c.hdr.dataAddr.toNat ≤ c.got then s.stageCmd c .ok else s.putCmd c)

/-- NET_DATA_TIMEOUT: the data of a transaction are not complete 10 ms after its descriptor (R437). -/
def execNetDataTimeout (p : NetPort) (xid : Word) (s : State) : Host.Outcome State Fault Refusal :=
  .next (match s.netWaiting p xid with
    | none => s
    | some c => (s.passTo (c.at_ + 4000000)).stageCmd c .timeout)

end Sys2Proof.Machine
end

