-- ==== Sys2Proof/Machine/Frame.lean ====
section
/-! DEFINITION. The frame boundary (R20, R67): Tally, commits, angles and frames, trajectories, and what follows from them,
in both lanes in one tick. -/
namespace Sys2Proof.Machine

/-- A group still running at a boundary ahead of its deadline has its deadline there (R123). -/
def Lane.cutDeadlines (l : Lane) (now : Nat) : Lane :=
  l.modCle fun c => { c with groups := c.groups.map fun g => if g.running && now < g.deadline then { g with deadline := now } else g }

/-- A preset that TRAJ_PRESET_SEL asks for waits in its unit for step 4 of R177, and REQ reads 0 again (R176). -/
def Lane.takePreset (l : Lane) : Lane :=
  if l.on TRAJ_PRESET_SEL_REQ then
    (l.modUnit (l.rd TRAJ_PRESET_SEL_UNIT) fun t =>
      { t with hostPreset := some (l.rd TRAJ_PRESET_SEL_AXIS, l.regs.get TRAJ_PRESET_VAL) }).wr TRAJ_PRESET_SEL_REQ 0
  else l

/-- The trigger instants and the clock edges left out of the set that now takes effect, and the enabled state words of the CLE (R118, R192). -/
def Lane.newFrame (l : Lane) (now : Nat) (tally : DWord) : Lane :=
  ((l.noteSignature now tally).modPwm fun w =>
    { w with trigs := w.trigNext.map (fun x => (x.1, x.2.1, now + x.2.2)), trigNext := [],
             sdSkips := w.sdSkipNext.map (fun x => (x.1, now + x.2)), sdSkipNext := [] }).wr
    CLE_STATE_WORDS_WORDS l.stateWords

/-- The recorder nodes, Rake and the injections of a lane at the boundary (R374, R385, R388). -/
def State.laneRecords (s : State) (i : LaneId) : State :=
  let s := (List.range 32).foldl (fun s n => s.recSample i 3 n (memRd (s.lane i).cle.nodes n) false) s
  (s.injectBoundary i).rakeBoundary i

/-- The angles of a live lane, and the settling that an irregular frame asks for (R67, R82). -/
def State.laneAngles (s : State) (i : LaneId) : State :=
  if s.laneLive i then
    let s := s.boundaryAngles i
    if (s.lane i).on ASC_FRAME_STAT_STRETCH then s.modLane i (Lane.irregular s.slotLen) else s
  else s

/-- Snapshots that a READ_SNAPSHOT waits for and that are whole go to the host with their completions (R346, R348). -/
def State.sendSnaps (s : State) : State :=
  let ready := s.host.snapWait.filter fun w => w.snap.holes.isEmpty
  let s := s.modHost fun h => { h with snapWait := h.snapWait.filter fun w => !w.snap.holes.isEmpty }
  ready.foldl (fun s w => match w.cmd with
    | some c => (s.returnData c w.snap.bytes).complete c .ok
    | none => s.keepSnap w.snap) s

/-- The mirror of the lane that leads, refreshed in each boundary tick; in Doze the lanes' values stand (R328, R459). -/
def State.refreshMirror (s : State) : State :=
  if s.pwrState = 3 then s else { s with mirror := mirrorOf (s.lane s.lead).regs }

/-- Step 1 of R67: Tally advances, slot writes end and the packages that wait apply, and staged commands and writes commit. -/
def State.boundaryCommits (s : State) : State × List (Cmd × Option Result) :=
  let s := (s.modMod fun m => { m with tally := m.tally + 1 }).grpTally
  let s := s.endWrites.applyPackages.boundaryLockout.bothLanes fun l => l.modAsc fun a => { a with rewritten := [] }
  let r := s.commitStops.commitAll
  (s.legsAfter r.1, r.2)

/-- Steps 2 to 5 of R67, the trajectory units (R177), and the set of the new frame, which takes effect (R20). -/
def State.boundaryMoves (s : State) : State :=
  let s := ((s.bothLanes Lane.takePreset).laneAngles .a).laneAngles .b
  let s := s.trajBoundary.modFaults fun f => { f with risen := [] }
  let s := s.bothLanes fun l => l.newFrame s.now s.mod.tally
  (s.modDuplex fun d => { d with playing := d.nextSet, nextSet := [], compareDue := none }).eachLane State.laneRecords

/-- What the Sluice keeps up to date at a boundary. -/
def State.boundarySluice (s : State) : State :=
  s.updHold.promote.updRepeats.updDegraded.updToken.grpBoundary

/-- FRAME_BOUNDARY: the frame source's front reaches the end of the frame. `copy` tells how the state copy of the frame
that ends stands. The completions of the boundary are written ahead of a change of the power
state and of a SOFT reset (R20, R67, R342, R451, R456). -/
def execFrameBoundary (copy : CopyResult) (s : State) : Host.Outcome State Fault Refusal :=
  .next (if !s.mod.started then s
    else
      let s := s.passTo (s.now + (s.lane s.lead).ticksToEnd)
      let s := s.endChans.bothLanes fun l => ((l.cutDeadlines s.now).endFrame).noteBefore
      let r := ((s.endHold.applyCopies copy).grpAhead).boundaryCommits
      let s := r.1.boundaryMoves.boundarySluice.lateGroups.sendSnaps.refreshMirror
      (r.2.foldl (fun s x => s.finishCmd x.1 x.2) s).powerBoundary.softReset)

end Sys2Proof.Machine
end

