-- ==== Sys2Proof/Machine/Reads.lean ====
section
/-! DEFINITION. Register reads of a requester with all that they do: the latches of R44 and R405, the reads that claim, advance
or remove (R85, R318, R363, R411), the windows of BAR0 and the accesses that it does not accept (R326, R327, R330, R467). -/
namespace Sys2Proof.Machine

/-! ### Reads of the coherent window -/

/-- A read of SYS_TALLY_LO latches bits [63:32] of the same value for the requester (R44). -/
def State.readTallyLo (s : State) (who : Requester) : State :=
  (s.modMod fun m => { m with latch := (who, (m.tally >>> 32).setWidth 32) :: m.latch.filter fun x => x.1 ≠ who }).returned
    [s.mod.tally.setWidth 32]

/-- A read of SYS_TALLY_HI: the first after a read of LO returns the latched value, every further one the live one (R44). -/
def State.readTallyHi (s : State) (who : Requester) : State :=
  match s.mod.latch.find? fun x => x.1 = who with
  | some x => (s.modMod fun m => { m with latch := m.latch.filter fun x => x.1 ≠ who }).returned [x.2]
  | none => s.returned [s.readWord SYS_TALLY_HI]

/-- A read of TIME_NOW_SUB, S_LO or S_HI (part 0, 1 or 2): the first after a read of NS returns the latched value, every further
one the live one (R405). -/
def State.readTimePart (s : State) (who : Requester) (part off : Nat) : State :=
  match s.clock.latch.find? fun x => x.1 = who && x.2.1 = part with
  | some x => (s.modClock fun c => { c with latch := c.latch.filter fun x => !(x.1 = who && x.2.1 = part) }).returned [x.2.2]
  | none => s.returned [s.readWord off]

/-- A 32-bit read of the coherent window (R328, R468, R469). -/
def State.readCoherent (s : State) (who : Requester) (off : Nat) : State :=
  if off = SYS_TALLY_LO then s.readTallyLo who
  else if off = SYS_TALLY_HI then s.readTallyHi who
  else if off = TIME_NOW_NS then orStay s (execTimeNowNsRead who s)
  else if off = TIME_NOW_SUB then s.readTimePart who 0 off
  else if off = TIME_NOW_S_LO then s.readTimePart who 1 off
  else if off = TIME_NOW_S_HI then s.readTimePart who 2 off
  else if off = MEAS_FIR_DATA then orStay s (execFirDataRead who s)
  else if off = FIO_TS_NS then orStay s (execTsNsRead s)
  else if off = FIO_TS_S then orStay s (execTsSRead s)
  else if 0x4204 ≤ off && off < 0x4304 && off % 8 = 4 then orStay s (execClaim (.vec (inst 0x4204 8 off)) s)
  else if 0x910C ≤ off && off < 0x916C && off % 0x20 = 0xC then
    let w := s.readWord off
    (orStay s (execPtpStampRead (inst 0x910C 0x20 off) s)).returned [w]
  else s.returned [s.readWord off]

/-! ### The whole of BAR0 -/

/-- A 32-bit read of a lane's view: the lane's own registers, live (R330, R373). -/
def State.readView (s : State) (i : LaneId) (off : Nat) : State :=
  if off = 0x4304 then s.claimPair i 0
  else if off = 0x4324 then s.claimPair i 1
  else if off = MEAS_FIR_DATA then s.returned [memRd (s.lane i).meas.fir s.firKey]
  else s.returned [if viewOnly off || mirrored off then (s.lane i).regs.get off else 0]

/-- A 32-bit read of BAR0: the coherent window, the two views, and the reserved range, which reads 0 (R330, R467). -/
def State.readBar (s : State) (who : Requester) (off : Nat) : State :=
  if off < 0x40000 then s.readCoherent who off
  else if off < 0x80000 then s.readView .a (off - 0x40000)
  else if off < 0xC0000 then s.readView .b (off - 0x80000)
  else s.returned [0]

/-- A read of BAR0 of `size` bits. Before the end of BOOT every read returns ones; 64 bits act as two reads, the lower address
first; any other access returns ones and is recorded (R326, R327). -/
def State.read (s : State) (who : Requester) (off size : Nat) : State :=
  if s.mod.phase = .boot then s.returned (List.replicate (size / 32) 0xFFFFFFFF)
  else if size = 32 && off % 4 = 0 then s.readBar who off
  else if size = 64 && off % 8 = 0 then
    let lo := s.readBar who off
    let hi := lo.readBar who (off + 4)
    hi.returned (lo.readData ++ hi.readData)
  else (s.mmioRecord off 0x05).returned [0xFFFFFFFF]

/-- TALLY_LO_READ: SYS_TALLY_LO is read, and bits [63:32] of the same value are latched for the requester (R44). -/
def execTallyLoRead (who : Requester) (s : State) : Host.Outcome State Fault Refusal :=
  .next (s.readAfterBoot (s.readTallyLo who))

end Sys2Proof.Machine
end

