-- ==== Sys2Proof/Machine/Dispatch.lean ====
section
/-! DEFINITION. The dispatch of every command to its meaning, one arm per row of the opcode table. -/
namespace Sys2Proof.Machine

def exec (i : Instr) (s : State) : Host.Outcome State Fault Refusal :=
  match i with
  | .nop h => Sys2Proof.Machine.execNop h s
  | .setSetpoint h pairs => Sys2Proof.Machine.execSetSetpoint h pairs s
  | .trajSegment h b => Sys2Proof.Machine.execTrajSegment h b s
  | .trajStop h units => Sys2Proof.Machine.execTrajStop h units s
  | .setMode h thr mode => Sys2Proof.Machine.execSetMode h thr mode s
  | .arm h thr => Sys2Proof.Machine.execArm h thr s
  | .disarm h thr => Sys2Proof.Machine.execDisarm h thr s
  | .writeRegs h buffered pairs => Sys2Proof.Machine.execWriteRegs h buffered pairs s
  | .readSnapshot h set mode bufLen => Sys2Proof.Machine.execReadSnapshot h set mode bufLen s
  | .loadCoeff h ctx bank offset words => Sys2Proof.Machine.execLoadCoeff h ctx bank offset words s
  | .swapBank h ctxs bumpless => Sys2Proof.Machine.execSwapBank h ctxs bumpless s
  | .loadProgram h img => Sys2Proof.Machine.execLoadProgram h img s
  | .schedWrite h first entries => Sys2Proof.Machine.execSchedWrite h first entries s
  | .recArm h => Sys2Proof.Machine.execRecArm h s
  | .recStop h => Sys2Proof.Machine.execRecStop h s
  | .rakeStart h frames => Sys2Proof.Machine.execRakeStart h frames s
  | .injectStart h b => Sys2Proof.Machine.execInjectStart h b s
  | .journalRead h firstSeq count bufLen => Sys2Proof.Machine.execJournalRead h firstSeq count bufLen s
  | .ioWrite h mask val => Sys2Proof.Machine.execIoWrite h mask val s
  | .clearFault h thr aux module => Sys2Proof.Machine.execClearFault h thr aux module s
  | .attest h nonce mode bufLen => Sys2Proof.Machine.execAttest h nonce mode bufLen s
  | .timeAdjust h mode sec nsec => Sys2Proof.Machine.execTimeAdjust h mode sec nsec s
  | .groupStart h units tStart => Sys2Proof.Machine.execGroupStart h units tStart s
  | .laneControl h lane action => Sys2Proof.Machine.execLaneControl h lane action s
  | .fwStage h type action pkg => Sys2Proof.Machine.execFwStage h type action pkg s
  | .lockoutReset h tag => Sys2Proof.Machine.execLockoutReset h tag s
  | .sqTail q v => Sys2Proof.Machine.execSqTail q v s
  | .cqHead q v => Sys2Proof.Machine.execCqHead q v s
  | .strTail r v posted => Sys2Proof.Machine.execStrTail r v posted s
  | .preSleep => Sys2Proof.Machine.execPreSleep s
  | .descriptorFetch sq d => Sys2Proof.Machine.execDescriptorFetch sq d s
  | .stagingDone tag data => Sys2Proof.Machine.execStagingDone tag data s
  | .commitGroupTimeout sq => Sys2Proof.Machine.execCommitGroupTimeout sq s
  | .queueEnable kind q v => Sys2Proof.Machine.execQueueEnable kind q v s
  | .ifEn v => Sys2Proof.Machine.execIfEn v s
  | .streamRecordWrite r => Sys2Proof.Machine.execStreamRecordWrite r s
  | .streamFlush r => Sys2Proof.Machine.execStreamFlush r s
  | .maintReq p v => Sys2Proof.Machine.execMaintReq p v s
  | .tallyLoRead who => Sys2Proof.Machine.execTallyLoRead who s
  | .angStep who src v => Sys2Proof.Machine.execAngStep who src v s
  | .angLoad who src v => Sys2Proof.Machine.execAngLoad who src v s
  | .firDataWrite who v => Sys2Proof.Machine.execFirDataWrite who v s
  | .firDataRead who => Sys2Proof.Machine.execFirDataRead who s
  | .preset who sel => Sys2Proof.Machine.execPreset who sel s
  | .legDis who upper v => Sys2Proof.Machine.execLegDis who upper v s
  | .disAll who v => Sys2Proof.Machine.execDisAll who v s
  | .glReneg who v => Sys2Proof.Machine.execGlReneg who v s
  | .auxRun who ch v => Sys2Proof.Machine.execAuxRun who ch v s
  | .envelopeLock who v => Sys2Proof.Machine.execEnvelopeLock who v s
  | .soReq who n v => Sys2Proof.Machine.execSoReq who n v s
  | .doOut who v => Sys2Proof.Machine.execDoOut who v s
  | .doRearm who v => Sys2Proof.Machine.execDoRearm who v s
  | .tsNsRead => Sys2Proof.Machine.execTsNsRead s
  | .tsSRead => Sys2Proof.Machine.execTsSRead s
  | .ptpStampRead p => Sys2Proof.Machine.execPtpStampRead p s
  | .claim t => Sys2Proof.Machine.execClaim t s
  | .complete t id => Sys2Proof.Machine.execComplete t id s
  | .pendWrite j v => Sys2Proof.Machine.execPendWrite j v s
  | .vecIdle v w => Sys2Proof.Machine.execVecIdle v w s
  | .timerWrite v => Sys2Proof.Machine.execTimerWrite v s
  | .msixUnmask v => Sys2Proof.Machine.execMsixUnmask v s
  | .timeIncNs who v => Sys2Proof.Machine.execTimeIncNs who v s
  | .timeNowNsRead who => Sys2Proof.Machine.execTimeNowNsRead who s
  | .cmpArm who c v => Sys2Proof.Machine.execCmpArm who c v s
  | .cmpTargetWrite who c part v => Sys2Proof.Machine.execCmpTargetWrite who c part v s
  | .syncWrite who v => Sys2Proof.Machine.execSyncWrite who v s
  | .clkNdiv who v => Sys2Proof.Machine.execClkNdiv who v s
  | .clkDither who v => Sys2Proof.Machine.execClkDither who v s
  | .grpRestart who v => Sys2Proof.Machine.execGrpRestart who v s
  | .softReset who v => Sys2Proof.Machine.execSoftReset who v s
  | .wdtService lane => Sys2Proof.Machine.execWdtService lane s
  | .jrnlFwCode lane code => Sys2Proof.Machine.execJrnlFwCode lane code s
  | .laneViewWrite who lane off v => Sys2Proof.Machine.execLaneViewWrite who lane off v s
  | .regWrite who off size v => Sys2Proof.Machine.execRegWrite who off size v s
  | .frameBoundary copy => Sys2Proof.Machine.execFrameBoundary copy s
  | .entryCrossing ln src idx => Sys2Proof.Machine.execEntryCrossing ln src idx s
  | .entryDispatch ln => Sys2Proof.Machine.execEntryDispatch ln s
  | .syncPulseEnd ln line => Sys2Proof.Machine.execSyncPulseEnd ln line s
  | .conversionDone ln core raw => Sys2Proof.Machine.execConversionDone ln core raw s
  | .gridConversion ln k => Sys2Proof.Machine.execGridConversion ln k s
  | .filterOutput ln k => Sys2Proof.Machine.execFilterOutput ln k s
  | .convTrigger ln cg t => Sys2Proof.Machine.execConvTrigger ln cg t s
  | .fastCmp ln input microvolts => Sys2Proof.Machine.execFastCmp ln input microvolts s
  | .cleNop ln dp w => Sys2Proof.Machine.execCleNop ln dp w s
  | .cleEnd ln dp w => Sys2Proof.Machine.execCleEnd ln dp w s
  | .cleLdi ln dp w => Sys2Proof.Machine.execCleLdi ln dp w s
  | .cleMov ln dp w => Sys2Proof.Machine.execCleMov ln dp w s
  | .cleAdd ln dp w => Sys2Proof.Machine.execCleAdd ln dp w s
  | .cleSub ln dp w => Sys2Proof.Machine.execCleSub ln dp w s
  | .cleAddi ln dp w => Sys2Proof.Machine.execCleAddi ln dp w s
  | .cleNeg ln dp w => Sys2Proof.Machine.execCleNeg ln dp w s
  | .cleAbs ln dp w => Sys2Proof.Machine.execCleAbs ln dp w s
  | .cleShl ln dp w => Sys2Proof.Machine.execCleShl ln dp w s
  | .cleShr ln dp w => Sys2Proof.Machine.execCleShr ln dp w s
  | .cleAnd ln dp w => Sys2Proof.Machine.execCleAnd ln dp w s
  | .cleOr ln dp w => Sys2Proof.Machine.execCleOr ln dp w s
  | .cleXor ln dp w => Sys2Proof.Machine.execCleXor ln dp w s
  | .cleMul ln dp w => Sys2Proof.Machine.execCleMul ln dp w s
  | .cleMuli ln dp w => Sys2Proof.Machine.execCleMuli ln dp w s
  | .cleMac ln dp w => Sys2Proof.Machine.execCleMac ln dp w s
  | .cleMsu ln dp w => Sys2Proof.Machine.execCleMsu ln dp w s
  | .cleLda ln dp w => Sys2Proof.Machine.execCleLda ln dp w s
  | .cleClra ln dp w => Sys2Proof.Machine.execCleClra ln dp w s
  | .cleExa ln dp w => Sys2Proof.Machine.execCleExa ln dp w s
  | .cleSat ln dp w => Sys2Proof.Machine.execCleSat ln dp w s
  | .cleMin ln dp w => Sys2Proof.Machine.execCleMin ln dp w s
  | .cleMax ln dp w => Sys2Proof.Machine.execCleMax ln dp w s
  | .cleCmp ln dp w => Sys2Proof.Machine.execCleCmp ln dp w s
  | .cleSel ln dp w => Sys2Proof.Machine.execCleSel ln dp w s
  | .cleInteg ln dp w => Sys2Proof.Machine.execCleInteg ln dp w s
  | .cleLpf1 ln dp w => Sys2Proof.Machine.execCleLpf1 ln dp w s
  | .cleClarke ln dp w => Sys2Proof.Machine.execCleClarke ln dp w s
  | .cleIclarke ln dp w => Sys2Proof.Machine.execCleIclarke ln dp w s
  | .clePark ln dp w => Sys2Proof.Machine.execClePark ln dp w s
  | .cleIpark ln dp w => Sys2Proof.Machine.execCleIpark ln dp w s
  | .cleSincos ln dp w => Sys2Proof.Machine.execCleSincos ln dp w s
  | .cleSqrt ln dp w => Sys2Proof.Machine.execCleSqrt ln dp w s
  | .cleDiv ln dp w => Sys2Proof.Machine.execCleDiv ln dp w s
  | .cleLut ln dp w => Sys2Proof.Machine.execCleLut ln dp w s
  | .cleLd ln dp w => Sys2Proof.Machine.execCleLd ln dp w s
  | .cleSt ln dp w => Sys2Proof.Machine.execCleSt ln dp w s
  | .cleIn ln dp w => Sys2Proof.Machine.execCleIn ln dp w s
  | .cleOut ln dp w => Sys2Proof.Machine.execCleOut ln dp w s
  | .cleAng ln dp w => Sys2Proof.Machine.execCleAng ln dp w s
  | .groupDeadline ln g => Sys2Proof.Machine.execGroupDeadline ln g s
  | .budgetStop ln dp => Sys2Proof.Machine.execBudgetStop ln dp s
  | .edgeCut => Sys2Proof.Machine.execEdgeCut s
  | .setCompare arrivedA arrivedB => Sys2Proof.Machine.execSetCompare arrivedA arrivedB s
  | .corrWindowRoll => Sys2Proof.Machine.execCorrWindowRoll s
  | .selfCheckVerdict lane sig0 sig1 => Sys2Proof.Machine.execSelfCheckVerdict lane sig0 sig1 s
  | .wdtExpiry lane => Sys2Proof.Machine.execWdtExpiry lane s
  | .laneErrorReport lane ecc => Sys2Proof.Machine.execLaneErrorReport lane ecc s
  | .bulkCopyDone lane micros => Sys2Proof.Machine.execBulkCopyDone lane micros s
  | .resyncTimeout lane => Sys2Proof.Machine.execResyncTimeout lane s
  | .iroloHandshake verA verB => Sys2Proof.Machine.execIroloHandshake verA verB s
  | .negotiationIdleEnd n => Sys2Proof.Machine.execNegotiationIdleEnd n s
  | .helloReqResend n => Sys2Proof.Machine.execHelloReqResend n s
  | .glHello rx hi lo sw type => Sys2Proof.Machine.execGlHello rx hi lo sw type s
  | .helloTimeout n => Sys2Proof.Machine.execHelloTimeout n s
  | .glEcho n roundTrip => Sys2Proof.Machine.execGlEcho n roundTrip s
  | .delayMeasured n => Sys2Proof.Machine.execDelayMeasured n s
  | .pingPeriodic n roundTrip => Sys2Proof.Machine.execPingPeriodic n roundTrip s
  | .glSyncSend n => Sys2Proof.Machine.execGlSyncSend n s
  | .glTlm n crcOk bytes => Sys2Proof.Machine.execGlTlm n crcOk bytes s
  | .tlmTimeout n => Sys2Proof.Machine.execTlmTimeout n s
  | .alignmentLoss n => Sys2Proof.Machine.execAlignmentLoss n s
  | .charactersReturn n => Sys2Proof.Machine.execCharactersReturn n s
  | .glFault n d compl inFrame => Sys2Proof.Machine.execGlFault n d compl inFrame s
  | .gl1Fault n low => Sys2Proof.Machine.execGl1Fault n low s
  | .hallChange ch code => Sys2Proof.Machine.execHallChange ch code s
  | .auxShuntTrip ch microvolts => Sys2Proof.Machine.execAuxShuntTrip ch microvolts s
  | .auxStall ch => Sys2Proof.Machine.execAuxStall ch s
  | .auxPrechargeEnd ch => Sys2Proof.Machine.execAuxPrechargeEnd ch s
  | .tripInput n level => Sys2Proof.Machine.execTripInput n level s
  | .causeGone => Sys2Proof.Machine.execCauseGone s
  | .ackLow => Sys2Proof.Machine.execAckLow s
  | .safetyCycle ln => Sys2Proof.Machine.execSafetyCycle ln s
  | .smonFault => Sys2Proof.Machine.execSmonFault s
  | .siSample a b => Sys2Proof.Machine.execSiSample a b s
  | .siDisc ln pair => Sys2Proof.Machine.execSiDisc ln pair s
  | .spdDisc ln => Sys2Proof.Machine.execSpdDisc ln s
  | .sltMot ln => Sys2Proof.Machine.execSltMot ln s
  | .ssiReadStart n => Sys2Proof.Machine.execSsiReadStart n s
  | .ssiReadDone ln n raw endHigh => Sys2Proof.Machine.execSsiReadDone ln n raw endHigh s
  | .ssiReadTimeout ln n => Sys2Proof.Machine.execSsiReadTimeout ln n s
  | .encIndex ln n => Sys2Proof.Machine.execEncIndex ln n s
  | .degradedMinute => Sys2Proof.Machine.execDegradedMinute s
  | .degradedEnd => Sys2Proof.Machine.execDegradedEnd s
  | .testPulse n => Sys2Proof.Machine.execTestPulse n s
  | .soTestStart n => Sys2Proof.Machine.execSoTestStart n s
  | .soTestEnd n allLow => Sys2Proof.Machine.execSoTestEnd n allLow s
  | .soTestRecheck n high => Sys2Proof.Machine.execSoTestRecheck n high s
  | .soReadback n high => Sys2Proof.Machine.execSoReadback n high s
  | .soOverload n => Sys2Proof.Machine.execSoOverload n s
  | .psfCmd ln frame => Sys2Proof.Machine.execPsfCmd ln frame s
  | .psfLockoutReset ln frame => Sys2Proof.Machine.execPsfLockoutReset ln frame s
  | .psfMatchWin ln => Sys2Proof.Machine.execPsfMatchWin ln s
  | .psfTimeout ln => Sys2Proof.Machine.execPsfTimeout ln s
  | .fieldFrameS crcOk => Sys2Proof.Machine.execFieldFrameS crcOk s
  | .fieldFrameLane lane crcOk => Sys2Proof.Machine.execFieldFrameLane lane crcOk s
  | .laneChannelSilence lane => Sys2Proof.Machine.execLaneChannelSilence lane s
  | .sSilence => Sys2Proof.Machine.execSSilence s
  | .fioWdog => Sys2Proof.Machine.execFioWdog s
  | .fdDown => Sys2Proof.Machine.execFdDown s
  | .fieldChan lane => Sys2Proof.Machine.execFieldChan lane s
  | .fdShutdown => Sys2Proof.Machine.execFdShutdown s
  | .supplyMeasure sup deciVolts => Sys2Proof.Machine.execSupplyMeasure sup deciVolts s
  | .supplyRecovery sup deciVolts => Sys2Proof.Machine.execSupplyRecovery sup deciVolts s
  | .diSample n raw => Sys2Proof.Machine.execDiSample n raw s
  | .diOpen n => Sys2Proof.Machine.execDiOpen n s
  | .supOvl j => Sys2Proof.Machine.execSupOvl j s
  | .disupRetry j => Sys2Proof.Machine.execDisupRetry j s
  | .diOt n => Sys2Proof.Machine.execDiOt n s
  | .doOverload n => Sys2Proof.Machine.execDoOverload n s
  | .doOt n present => Sys2Proof.Machine.execDoOt n present s
  | .doBackfeed n present => Sys2Proof.Machine.execDoBackfeed n present s
  | .doOpen n => Sys2Proof.Machine.execDoOpen n s
  | .moderationTimer t => Sys2Proof.Machine.execModerationTimer t s
  | .eicTimer => Sys2Proof.Machine.execEicTimer s
  | .wake kind index => Sys2Proof.Machine.execWake kind index s
  | .d0Return => Sys2Proof.Machine.execD0Return s
  | .triggerUnitFire ln u frac => Sys2Proof.Machine.execTriggerUnitFire ln u frac s
  | .recPreDone ln => Sys2Proof.Machine.execRecPreDone ln s
  | .recPostDone ln => Sys2Proof.Machine.execRecPostDone ln s
  | .recDrained ln => Sys2Proof.Machine.execRecDrained ln s
  | .waitSpace ln => Sys2Proof.Machine.execWaitSpace ln s
  | .rakeFramesDone ln => Sys2Proof.Machine.execRakeFramesDone ln s
  | .injectionEnd ln n => Sys2Proof.Machine.execInjectionEnd ln n s
  | .journalCommit => Sys2Proof.Machine.execJournalCommit s
  | .pllLoss => Sys2Proof.Machine.execPllLoss s
  | .pllRelock count => Sys2Proof.Machine.execPllRelock count s
  | .relockFail => Sys2Proof.Machine.execRelockFail s
  | .refLoss => Sys2Proof.Machine.execRefLoss s
  | .refReturn => Sys2Proof.Machine.execRefReturn s
  | .ndivApply => Sys2Proof.Machine.execNdivApply s
  | .fllUpdate v inLock => Sys2Proof.Machine.execFllUpdate v inLock s
  | .fllLockTimeout => Sys2Proof.Machine.execFllLockTimeout s
  | .timeCmp c => Sys2Proof.Machine.execTimeCmp c s
  | .ptpEventStamp p tx msg seqId => Sys2Proof.Machine.execPtpEventStamp p tx msg seqId s
  | .announce a => Sys2Proof.Machine.execAnnounce a s
  | .groupWaitExpiry => Sys2Proof.Machine.execGroupWaitExpiry s
  | .grpPing sender => Sys2Proof.Machine.execGrpPing sender s
  | .grpEcho k roundTrip => Sys2Proof.Machine.execGrpEcho k roundTrip s
  | .grpDelays sender dly => Sys2Proof.Machine.execGrpDelays sender dly s
  | .grpTally common startBoundary => Sys2Proof.Machine.execGrpTally common startBoundary s
  | .grpBoundary tallyLow angle inc => Sys2Proof.Machine.execGrpBoundary tallyLow angle inc s
  | .grpStart units tStart => Sys2Proof.Machine.execGrpStart units tStart s
  | .grpTrig sender => Sys2Proof.Machine.execGrpTrig sender s
  | .grpClkAbsent => Sys2Proof.Machine.execGrpClkAbsent s
  | .boundaryMissing => Sys2Proof.Machine.execBoundaryMissing s
  | .memberLost k => Sys2Proof.Machine.execMemberLost k s
  | .packageCheckDone => Sys2Proof.Machine.execPackageCheckDone s
  | .signingDone rounds late => Sys2Proof.Machine.execSigningDone rounds late s
  | .debugTokenExpiry => Sys2Proof.Machine.execDebugTokenExpiry s
  | .netDescriptor f => Sys2Proof.Machine.execNetDescriptor f s
  | .netDataFragment p xid offset len last => Sys2Proof.Machine.execNetDataFragment p xid offset len last s
  | .netDataTimeout p xid => Sys2Proof.Machine.execNetDataTimeout p xid s
  | .por => Sys2Proof.Machine.execPor s
  | .bootAttemptTimeout => Sys2Proof.Machine.execBootAttemptTimeout s
  | .laneImagesLoaded => Sys2Proof.Machine.execLaneImagesLoaded s
  | .laneSelfTestDone lane ok => Sys2Proof.Machine.execLaneSelfTestDone lane ok s
  | .startUpDone => Sys2Proof.Machine.execStartUpDone s
  | .pgoodFall => Sys2Proof.Machine.execPgoodFall s
  | .vholdLow => Sys2Proof.Machine.execVholdLow s
  | .bodWarn millivolts => Sys2Proof.Machine.execBodWarn millivolts s
  | .bod => Sys2Proof.Machine.execBod s
  | .bor => Sys2Proof.Machine.execBor s
  | .pinReset => Sys2Proof.Machine.execPinReset s
  | .rstNRelease => Sys2Proof.Machine.execRstNRelease s
  | .stuckReset => Sys2Proof.Machine.execStuckReset s
  | .rstNRearm => Sys2Proof.Machine.execRstNRearm s
  | .perst => Sys2Proof.Machine.execPerst s
  | .flr => Sys2Proof.Machine.execFlr s
  | .powerStateExitDone => Sys2Proof.Machine.execPowerStateExitDone s
  | .shelvedExit => Sys2Proof.Machine.execShelvedExit s
  | .encEdge ln n e => Sys2Proof.Machine.execEncEdge ln n e s
  | .sdclkEdge ln k e => Sys2Proof.Machine.execSdclkEdge ln k e s
  | .choppingPeriod ch => Sys2Proof.Machine.execChoppingPeriod ch s
  | .bodRecovery => Sys2Proof.Machine.execBodRecovery s
  | .borRelease => Sys2Proof.Machine.execBorRelease s
  | .vbatLow => Sys2Proof.Machine.execVbatLow s
  | .d3hotEntry pmeEn => Sys2Proof.Machine.execD3hotEntry pmeEn s
  | .pcieLinkChange st => Sys2Proof.Machine.execPcieLinkChange st s
  | .diCooled n => Sys2Proof.Machine.execDiCooled n s
  | .lockoutAckNEdge level => Sys2Proof.Machine.execLockoutAckNEdge level s

end Sys2Proof.Machine
end

