-- ==== Sys2Proof/Safety.lean ====
section
/-! DEFINITION. What counts as a safe run: a step that answers a next state, and a state in which every register file and
every addressed memory has its canonical form. -/
namespace Sys2Proof.Machine

/-- The step answered a next state. -/
def Safe1 (s : State) : Prop := ∃ t, step s = .next t

/-- The register file and the addressed memories of a lane have their canonical forms. -/
def Lane.wf (l : Lane) : Bool :=
  l.regs.wf && Memory.wf l.meas.fir && Memory.wf l.cle.data && Memory.wf l.cle.descs && Memory.wf l.cle.binds &&
  Memory.wf l.cle.nodes && Memory.wf l.cle.probes && Memory.wf l.pwm.shadow && Memory.wf l.pwm.active && Memory.wf l.pwm.latched &&
  Memory.wf l.pwm.trigShadow && Memory.wf l.pwm.trigActive && Memory.wf l.pwm.trigLatched

/-- Every register file and every addressed memory has its canonical form, so that equal contents are equal data. -/
def State.wf (s : State) : Bool :=
  s.regs.wf && s.mirror.wf && Memory.wf s.mod.setpoints && s.laneA.wf && s.laneB.wf

end Sys2Proof.Machine
end

