-- ==== Sys2Proof/Certificates/Slice0/Obligations.lean ====
section
/-! DEFINITION. The statements for the provers. A command's statement gives the state that `exec` answers, or what that
state holds and the parts of it that stay. A state written as a record update of `s` says that every part it does not name
is unchanged, and a register file written with `RegFile.wr` that every other field of it is. -/
open Sys2Proof Sys2Proof.Machine

namespace Sys2Proof.Claims

/-- Every register of a file but those at the offsets listed is unchanged. -/
def regsBut (f g : RegFile) (l : List Nat) : Prop := ∀ off, off ∉ l → g.get off = f.get off

/-- A writer of the coherent window is heard for a register: host software, or a core of the active lane where the register needs
no authority beyond CONFIGURE (R435, R470). -/
def heard (s : State) (who : Writer) (off : Nat) : Prop :=
  who = .host ∨ (coreLane who = some s.active ∧ needsMore off = false)

end Sys2Proof.Claims

/-! ### The Event and Interrupt Controller -/

namespace Sys2Proof.Claims

/-- A source is routed to a vector, pending, unmasked and not in service (R363). -/
def VecCand (s : State) (v n : Nat) : Prop :=
  s.rd (EIC_ROUTE_TARGET n) = v ∧ s.rd (pendBit n) = 1 ∧ s.rd (hmaskBit n) = 0 ∧ s.rd (insvcBit n) ≠ 1

/-- A source is routed to a core pair, pending in its lane, unmasked and not in service there (R357, R363). -/
def PairCand (s : State) (i : LaneId) (p n : Nat) : Prop :=
  s.rd (EIC_ROUTE_TARGET n) = 32 + p ∧ (if isLevel n then s.rd (levelBit n) = 1 else n ∈ (s.lane i).pend) ∧
    (s.lane i).rd (pairMaskBit p n) = 0 ∧ ∀ q, (n, q) ∉ (s.lane i).insvc

/-- The candidate of the highest PRIO, ties to the lower number (R363). -/
def Best (s : State) (cand : Nat → Prop) (n : Nat) : Prop :=
  n < 96 ∧ cand n ∧ ∀ m < 96, cand m →
    s.rd (EIC_ROUTE_PRIO m) < s.rd (EIC_ROUTE_PRIO n) ∨ (s.rd (EIC_ROUTE_PRIO m) = s.rd (EIC_ROUTE_PRIO n) ∧ n ≤ m)

end Sys2Proof.Claims
open Sys2Proof.Claims

/-- R363: a claim returns ID = n + 1 for the candidate of highest priority, ties to the lower n, marks it in service and
clears the pending bit of an edge source; it returns 0 where no source qualifies; and what it took is no candidate
afterwards, so two claims never return the same source. -/
def Sys2Proof.Claims.ClaimTakesTheBestPendingSource : Prop :=
  (∀ (v : Nat) (s : State), s.mod.phase ≠ .boot → (∀ n < 96, ¬ VecCand s v n) →
    exec (.claim (.vec v)) s = .next { s with readData := [0] }) ∧
  (∀ (v n : Nat) (s : State), s.mod.phase ≠ .boot → Best s (VecCand s v) n →
    ∃ t, exec (.claim (.vec v)) s = .next t ∧
      t = { s with regs := (if isLevel n then s.regs.wr (insvcBit n) 1 else (s.regs.wr (insvcBit n) 1).wr (pendBit n) 0)
                   eic := { s.eic with claimed := (n, v) :: s.eic.claimed }
                   readData := [BitVec.ofNat 32 (n + 1)] } ∧
      ∀ w, ¬ VecCand t w n) ∧
  (∀ (i : LaneId) (p : Nat) (s : State), (∀ n < 96, ¬ PairCand s i p n) →
    exec (.claim (.pair i p)) s = .next { (s.modLane i fun l =>
      { l with pairs := updAt l.pairs p fun x => { x with irq := false, idle := true } }) with readData := [0] }) ∧
  (∀ (i : LaneId) (p n : Nat) (s : State), Best s (PairCand s i p) n →
    ∃ t, exec (.claim (.pair i p)) s = .next t ∧
      t = { (s.modLane i fun l =>
        { l with insvc := (n, p) :: l.insvc
                 pend := (if isLevel n then l.pend else l.pend.filter fun m => m ≠ n)
                 pairs := updAt l.pairs p fun x => { x with irq := false } }) with readData := [BitVec.ofNat 32 (n + 1)] } ∧
      ∀ q, ¬ PairCand t i q n)

/-- R364: completing a source in service clears its in-service mark, and a source that is then pending is one event at its
target; an ID that is not in service for the target is ignored and counted. -/
def Sys2Proof.Claims.CompleteClearsTheInServiceMark : Prop :=
  (∀ (v n : Nat) (s : State), s.mod.phase ≠ .boot → (n, v) ∈ s.eic.claimed →
    ∃ u, u = { s with regs := s.regs.wr (insvcBit n) 0
                      eic := { s.eic with claimed := s.eic.claimed.filter fun x => x.1 ≠ n } } ∧
      (¬ VecCand u v n → exec (.complete (.vec v) (n + 1)) s = .next u) ∧
      (VecCand u v n → exec (.complete (.vec v) (n + 1)) s = .next (u.countVec v n))) ∧
  (∀ (i : LaneId) (p n : Nat) (s : State), (n, p) ∈ (s.lane i).insvc →
    ∃ u, u = (s.modLane i fun l => { l with insvc := l.insvc.filter fun x => x.1 ≠ n }) ∧
      (¬ PairCand u i p n → exec (.complete (.pair i p) (n + 1)) s = .next u) ∧
      (PairCand u i p n → exec (.complete (.pair i p) (n + 1)) s = .next (u.modLane i fun l => l.countPair s.now p n))) ∧
  (∀ (t : Target) (id : Nat) (s : State), (∀ v, t = .vec v → s.mod.phase ≠ .boot) →
    (id = 0 ∨ (match t with
      | .vec v => (id - 1, v) ∉ s.eic.claimed
      | .pair i p => (id - 1, p) ∉ (s.lane i).insvc)) →
    exec (.complete t id) s = .next (s.bumpSat EIC_STAT_BAD_COMPLETE))

/-- R360, R361, R362: a source counts one event at most in a tick; a target whose events reach CNT, or that is idle in DIRECT
mode, sends one message and its count restarts; otherwise the event is counted and the time runs from the first. A masked vector
sets its pending bit in place of the message. -/
def Sys2Proof.Claims.EventsAtAVectorAreModerated : Prop :=
  ∀ (v src : Nat) (s : State), v < 32 → s.eic.vecs.length = 32 → s.eic.d3hot = false →
    let n := (s.vec v).count + 1
    let direct := s.rd (EIC_VEC_CFG_MODE v) = 1 ∧ s.rd (EIC_VEC_CFG_VEC_IDLE v) = 1
    let vecs := s.eic.vecs.set v { count := 0, since := none }
    let seen := if s.eic.seen.1 = s.now then s.eic.seen.2 else []
    (src ∈ seen → s.countVec v src = s) ∧
    (src ∉ seen → ¬ direct → n < s.rd (EIC_VEC_CFG_CNT v) →
      s.countVec v src = { s with eic := { s.eic with
        vecs := s.eic.vecs.set v { count := n, since := some ((s.vec v).since.getD s.now) }, seen := (s.now, src :: seen) } }) ∧
    (src ∉ seen → direct ∨ s.rd (EIC_VEC_CFG_CNT v) ≤ n → s.vecMasked v = false →
      s.countVec v src = { s with regs := s.regs.wr (EIC_VEC_CFG_VEC_IDLE v) 0
                                  eic := { s.eic with vecs := vecs, msgs := v :: s.eic.msgs, seen := (s.now, src :: seen) } }) ∧
    (src ∉ seen → direct ∨ s.rd (EIC_VEC_CFG_CNT v) ≤ n → s.vecMasked v = true →
      s.countVec v src = { s with eic := { s.eic with vecs := vecs, pba := s.eic.pba ||| (1 <<< v), seen := (s.now, src :: seen) } })

/-- R356 to R358: an occurrence of a source of the Sluice counts in CNT, stores DATA, sets the pending bit of an edge source,
reaches both lanes' shares, and is one event at an unmasked target. Nothing but registers of the EIC, the vectors and the
lanes' shares changes. -/
def Sys2Proof.Claims.OccurrencesCountStoreAndPend : Prop :=
  ∀ (src data : Nat) (s : State), src < 96 →
    (s.raise src data).rd (EIC_SRC_LOG_CNT src) = (s.rd (EIC_SRC_LOG_CNT src) + 1) % 65536 ∧
    (s.raise src data).rd (EIC_SRC_LOG_DATA src) = data % 65536 ∧
    (isLevel src = false → (s.raise src data).rd (pendBit src) = 1) ∧
    (∀ m < 96, m ≠ src → (s.raise src data).rd (pendBit m) = s.rd (pendBit m) ∧
      (s.raise src data).rd (EIC_SRC_LOG_CNT m) = s.rd (EIC_SRC_LOG_CNT m)) ∧
    s.raise src data = { s with
      regs := (s.raise src data).regs
      eic := { s.eic with vecs := (s.raise src data).eic.vecs, pba := (s.raise src data).eic.pba,
                          msgs := (s.raise src data).eic.msgs, seen := (s.raise src data).eic.seen, pmes := (s.raise src data).eic.pmes,
                          pmeSent := (s.raise src data).eic.pmeSent }
      laneA := s.laneA.occur s.now (s.rd (EIC_ROUTE_TARGET src)) src
      laneB := s.laneB.occur s.now (s.rd (EIC_ROUTE_TARGET src)) src }

/-- R259, R366: writing a word of pending bits sets or clears the bits of edge sources and never those of level sources; a
HOST_EV or FW_EV bit set while clear is an occurrence with DATA 0, and no other source counts. A firmware event in HOLD is
withheld for the lane that survives. -/
def Sys2Proof.Claims.PendingWordWritesSetAndClear : Prop :=
  ∀ (j : Nat) (v : Word) (s : State), j < 3 → s.mod.phase ≠ .boot →
    ∃ t, exec (.pendWrite j v) s = .next t ∧
      (∀ b < 32, isLevel (32 * j + b) = true → t.rd (pendBit (32 * j + b)) = s.rd (pendBit (32 * j + b))) ∧
      (∀ b < 32, isLevel (32 * j + b) = false → 32 * j + b ≠ 95 →
        ¬ (88 ≤ 32 * j + b ∧ 32 * j + b ≤ 91 ∧ s.hold = true ∧ s.rd (pendBit (32 * j + b)) = 0) →
        t.rd (pendBit (32 * j + b)) = b2n (v.getLsbD b)) ∧
      (∀ b < 32, 88 ≤ 32 * j + b → 32 * j + b ≤ 91 → s.hold = true → s.rd (pendBit (32 * j + b)) = 0 →
        t.rd (pendBit (32 * j + b)) = 0 ∧ t.rd (EIC_SRC_LOG_CNT (32 * j + b)) = s.rd (EIC_SRC_LOG_CNT (32 * j + b)) ∧
        (v.getLsbD b = true → ∀ i, (i, Withheld.event (32 * j + b) 0) ∈ t.duplex.withheld)) ∧
      (s.hold = false → t.duplex = s.duplex) ∧
      (∀ b < 32, (32 * j + b < 84 ∨ 91 < 32 * j + b ∨ v.getLsbD b = false ∨ s.rd (pendBit (32 * j + b)) = 1) →
        t.rd (EIC_SRC_LOG_CNT (32 * j + b)) = s.rd (EIC_SRC_LOG_CNT (32 * j + b))) ∧
      (∀ b < 32, 84 ≤ 32 * j + b → 32 * j + b ≤ 91 → 32 * j + b < 88 ∨ s.hold = false → v.getLsbD b = true → s.rd (pendBit (32 * j + b)) = 0 →
        t.rd (EIC_SRC_LOG_CNT (32 * j + b)) = (s.rd (EIC_SRC_LOG_CNT (32 * j + b)) + 1) % 65536 ∧
        t.rd (EIC_SRC_LOG_DATA (32 * j + b)) = 0) ∧
      t = { s with regs := t.regs, eic := t.eic, laneA := t.laneA, laneB := t.laneB,
                   duplex := { s.duplex with withheld := t.duplex.withheld } }

/-- R360, R361, R369: the moderation timer of a target sends its message TIME µs after its first event; VEC_IDLE in DIRECT
mode with counted events held sends at once; a write of EIC_TIMER restarts the timer, and its expiry raises TIMER and
reloads with PERIODIC. -/
def Sys2Proof.Claims.TimersOfTheEventController : Prop :=
  (∀ (v t0 : Nat) (s : State), (s.vec v).since = some t0 →
    exec (.moderationTimer (.vec v)) s = .next ((s.passTo (t0 + 400 * s.rd (EIC_VEC_CFG_TIME v))).sendVec v)) ∧
  (∀ (i : LaneId) (p t0 : Nat) (s : State), ((s.lane i).pairs.getD p PairSt.reset).since = some t0 →
    exec (.moderationTimer (.pair i p)) s = .next
      ((s.passTo (t0 + 400 * (s.lane i).rd (EIC_PAIR_CFG_TIME p))).modLane i fun l =>
        { l with pairs := updAt l.pairs p fun _ => { count := 0, since := none, irq := true, idle := false } })) ∧
  (∀ (v : Nat) (w : Word) (s : State), s.mod.phase ≠ .boot → ∃ u, u = { s with regs := s.regs.set (EIC_VEC_CFG v) (modWord (s.regs.get (EIC_VEC_CFG v)) w) } ∧
    exec (.vecIdle v w) s = .next (if w.getLsbD 31 = true ∧ w.getLsbD 30 = true ∧ 0 < (s.vec v).count then u.sendVec v else u)) ∧
  (∀ (w : Word) (s : State), s.mod.phase ≠ .boot → bitsOf w 15 0 ≠ 0 →
    exec (.timerWrite w) s = .next { s with
      regs := s.regs.set EIC_TIMER (withBits w 29 16 0)
      eic := { s.eic with timerAt := if w.getLsbD 31 then some s.now else none } }) ∧
  (∀ (t0 : Nat) (s : State), s.eic.timerAt = some t0 → s.power.shelved = false →
    ∃ u, u = s.passTo (t0 + 400000 * s.rd EIC_TIMER_PERIOD) ∧
      exec .eicTimer s = .next ({ u with eic := { u.eic with
        timerAt := if u.on EIC_TIMER_PERIODIC then some u.now else none } }.raise 92 0))

/-- R362, R371, R372 and the PCIE_LINK row of R356: what the host does to its function. A vector unmasked sends the message
it holds; in D3hot nothing is sent; the return to D0 sends the messages that are due; PRE_SLEEP sends one message for every
vector that holds counted events. Completion, on conditions on the state and the operands alone, is stated for: preSleep,
msixUnmask, d0Return, d3hotEntry, pcieLinkChange. -/
def Obligations.HostSleepHoldsAndSendsMessages : Prop :=
  (∀ (v : Nat) (s : State), s.mod.phase ≠ .boot → ∃ u, u = { s with eic := { s.eic with
      msixMask := s.eic.msixMask &&& ~~~((1 : Word) <<< v), msixEn := true, busMaster := true } } ∧
    exec (.msixUnmask v) s = .next (if s.eic.d3hot then u else (List.range 32).foldl State.sendHeld u)) ∧
  (∀ (p : Bool) (s : State), exec (.d3hotEntry p) s = .next { s with eic := { s.eic with d3hot := true, pmeEn := p, pmeSent := false } }) ∧
  (∀ (v : Nat) (s : State), s.eic.d3hot = true → ∃ e, s.sendVec v = { s with eic := e } ∧ e.msgs = s.eic.msgs) ∧
  (∀ (s : State), exec .d0Return s = .next ((List.range 32).foldl
    (fun x v => if (x.sendHeld v).vecDue v then (x.sendHeld v).sendVec v else x.sendHeld v)
    { s with eic := { s.eic with d3hot := false, pmeSent := false, msixEn := true, busMaster := true } })) ∧
  (∀ s : State, s.mod.phase ≠ .boot → exec .preSleep s = .next
    ((List.range 32).foldl (fun x v => if 0 < (x.vec v).count then x.sendVec v else x) s)) ∧
  (∀ (s : State), ∃ t, exec .preSleep s = .next t ∧ t = { s with regs := t.regs, eic := t.eic } ∧
    (s.eic.d3hot = false → s.eic.vecs.length = 32 → ∀ v < 32, (t.vec v).count = 0)) ∧
  (∀ (st : BitVec 16) (s : State), exec (.pcieLinkChange st) s = .next
    ({ s with eic := { s.eic with linkState := st } }.raise 94 st.toNat))

/-- R363: a claim returns ID = n + 1 for the candidate of highest priority, ties to the lower n, marks it in service and
clears the pending bit of an edge source; it returns 0 where no source qualifies; and what it took is no candidate
afterwards, so two claims never return the same source. R364: completing a source in service clears its in-service mark, and
a source that is then pending is one event at its target; an ID that is not in service for the target is ignored and counted.
Completion, on conditions on the state and the operands alone, is stated for: claim, complete. -/
def Obligations.ClaimAndCompleteServeOneSourceOnce : Prop := ClaimTakesTheBestPendingSource ∧ CompleteClearsTheInServiceMark

/-- R356 to R358: an occurrence of a source of the Sluice counts in CNT, stores DATA, sets the pending bit of an edge source,
reaches both lanes' shares, and is one event at an unmasked target. Nothing but registers of the EIC, the vectors and the
lanes' shares changes. R259, R366: writing a word of pending bits sets or clears the bits of edge sources and never those of
level sources; a HOST_EV or FW_EV bit set while clear is an occurrence with DATA 0, and no other source counts. A firmware
event in HOLD is withheld for the lane that survives. Completion, on conditions on the state and the operands alone, is
stated for: pendWrite. -/
def Obligations.OccurrencesAndPendingWritesCount : Prop := OccurrencesCountStoreAndPend ∧ PendingWordWritesSetAndClear

/-- R360, R361, R362: a source counts one event at most in a tick; a target whose events reach CNT, or that is idle in DIRECT
mode, sends one message and its count restarts; otherwise the event is counted and the time runs from the first. A masked
vector sets its pending bit in place of the message. R360, R361, R369: the moderation timer of a target sends its message
TIME µs after its first event; VEC_IDLE in DIRECT mode with counted events held sends at once; a write of EIC_TIMER restarts
the timer, and its expiry raises TIMER and reloads with PERIODIC. Completion, on conditions on the state and the operands
alone, is stated for: vecIdle, timerWrite, moderationTimer, eicTimer. -/
def Obligations.ModerationAndTimersOfTheEventController : Prop := EventsAtAVectorAreModerated ∧ TimersOfTheEventController

/-! ### Clocks, network time and time compares -/

/-- R400 to R403: loss of lock changes the clocks over, so that a run of the engine goes on 16 times slower from where it stands, raises PLL_LOSS (class B, module) and CLK_LOCK 0x01, and counts;
a good frequency count after lock changes back with CLK_LOCK 0x02 and ends the condition; a failed attempt counts; loss of
the reference sets REF_LOSS, raises CLK_LOCK 0x03, loses lock and clears SYNC; its return raises CLK_LOCK 0x04. -/
def Sys2Proof.Claims.LockLossAndRelock : Prop :=
  (∀ (s : State), s.rd CLK_STAT_LOCK = 1 →
    ∃ u, u = ((s.wr CLK_STAT_LOCK 0).changeRate true).wr CLK_STAT_FLL_LOCK 0 ∧
      exec .pllLoss s = .next ((((u.cause 0x0D 1 .module 0 none true).raise 61 1).journalAdd 0x08 0x0010 0 [1]).bump CLK_CNT_LOSS)) ∧
  (∀ (s : State), s.rd CLK_STAT_LOCK ≠ 1 → exec .pllLoss s = .next s) ∧
  (∀ (count : Nat) (s : State), s.rd CLK_STAT_LOCK ≠ 1 → s.clock.refPresent = true →
    ∃ u, u = s.wr CLK_FREQ_COUNT count ∧
      (count < 1019 ∨ 1029 < count → exec (.pllRelock count) s = .next u) ∧
      (1019 ≤ count → count ≤ 1029 → exec (.pllRelock count) s = .next (State.loadSeed
        (((((u.wr CLK_STAT_LOCK 1).changeRate false).causeEnd 0x0D 0).raise 61 2).journalAdd 0x08 0x0010 0 [2])))) ∧
  (∀ (slow : Bool) (s : State), (s.changeRate slow).rd CLK_STAT_ON_REF = b2n slow ∧
    (s.changeRate slow).laneTicks 1 = (if slow then 16 else 1) ∧
    ∃ a b, s.changeRate slow = { s with regs := (s.changeRate slow).regs, laneA := { s.laneA with cle := a }, laneB := { s.laneB with cle := b } }) ∧
  (∀ (i : LaneId) (dp : Dp) (r : CtxRun) (s : State), s.rd CLK_STAT_ON_REF = 0 → ((s.lane i).dp dp).run = some r →
    r.since ≤ s.now → s.now ≤ r.since + r.cycles → 16 * (s.now - r.since) ≤ s.now →
    ∃ x, (((s.changeRate true).lane i).dp dp).run = some { r with since := x } ∧
      x + 16 * r.cycles = s.now + 16 * (r.since + r.cycles - s.now)) ∧
  (∀ (s : State), s.rd CLK_STAT_LOCK ≠ 1 → exec .relockFail s = .next (s.bump CLK_CNT_RELOCK_FAIL)) ∧
  (∀ (s : State), s.clock.refPresent = true →
    ∃ t, exec .refLoss s = .next t ∧ t.clock.refPresent = false ∧ t.rd CLK_STAT_REF_LOSS = 1 ∧ t.rd CLK_STAT_LOCK = 0 ∧
      t.rd TIME_CTRL_SYNC = 0 ∧ t.field.dis = s.field.dis ∧ t.grp = s.grp ∧ t.sec = s.sec ∧
      ∃ v w, v = ((({ s with clock := { s.clock with refPresent := false } }.wr CLK_STAT_REF_LOSS 1).raise 61 3).journalAdd
          0x08 0x0010 0 [3]) ∧ exec .pllLoss v = .next w ∧
        t = (if w.rd TIME_CTRL_SYNC = 0 then w else (w.wr TIME_CTRL_SYNC 0).raise 59 0)) ∧
  (∀ (s : State), s.clock.refPresent = false →
    exec .refReturn s = .next ((({ s with clock := { s.clock with refPresent := true } }.wr CLK_STAT_REF_LOSS 0).raise 61 4).journalAdd
      0x08 0x0010 0 [4]))

/-- R398, R418: a divider write that waits takes effect 10 µs after the one before it; the frequency-lock loop of a group
follower writes the divider within the limits of R398 and reports its lock. -/
def Sys2Proof.Claims.DividerWritesTakeEffect : Prop :=
  (∀ (n : Nat) (s : State), s.clock.nWait = some n →
    ∃ u, u = s.passTo (s.clock.nAt + 4000) ∧
      exec .ndivApply s = .next { u with clock := { u.clock with nInForce := n, nAt := u.now, nWait := none } }) ∧
  (∀ (v : Word) (lk : Bool) (s : State), s.rd GRP_STAT_ROLE ≠ 2 → exec (.fllUpdate v lk) s = .next s) ∧
  (∀ (v : Word) (lk : Bool) (s : State), s.rd GRP_STAT_ROLE = 2 →
    ((v.toNat : Int) - 0x80000000).natAbs ≤ 429496 → ((v.toNat : Int) - s.clock.nInForce).natAbs ≤ 137438 →
    s.clock.nAt + 4000 ≤ s.now →
    exec (.fllUpdate v lk) s = .next ({ s with
      regs := s.regs.set CLK_NDIV v
      clock := { s.clock with nInForce := v.toNat, nAt := s.now, nWait := none } }.wr CLK_STAT_FLL_LOCK (b2n lk)))

/-- R404, R405, R408: a write of TIME_INC_NS within 2.4 to 2.6 ns applies INC_NS and INC_FRAC and any other is discarded
with RANGE; a read of TIME_NOW_NS returns the nanoseconds and latches the rest of the instant for its requester; a change of
SYNC raises TIME_SYNC with the new value. -/
def Sys2Proof.Claims.PtpClockIsSetAndRead : Prop :=
  (∀ (who : Writer) (v : Word) (s : State) (inc : Nat), s.mod.phase ≠ .boot → heard s who TIME_INC_NS → inc = bitsOf v 3 0 * 2 ^ 32 + (s.regs.get TIME_INC_FRAC).toNat →
    (24 * 2 ^ 32 ≤ 10 * inc → 10 * inc ≤ 26 * 2 ^ 32 →
      exec (.timeIncNs who v) s = .next { s with
        regs := s.regs.wr TIME_INC_NS_INC_NS (bitsOf v 3 0),
        clock := { s.clock with incNs := BitVec.ofNat 4 (bitsOf v 3 0), incFrac := s.regs.get TIME_INC_FRAC } }) ∧
    (10 * inc < 24 * 2 ^ 32 ∨ 26 * 2 ^ 32 < 10 * inc →
      exec (.timeIncNs who v) s = .next (s.mmioRefuse TIME_INC_NS 0x05))) ∧
  (∀ (who : Requester) (s : State), s.mod.phase ≠ .boot → exec (.timeNowNsRead who) s = .next { s with
    readData := [BitVec.ofNat 32 s.clock.ns],
    clock := { s.clock with latch :=
      [(who, 0, BitVec.ofNat 32 (bitsOf s.clock.frac 31 16)), (who, 1, s.clock.sec.setWidth 32),
        (who, 2, (s.clock.sec >>> 32).setWidth 32)] ++ (s.clock.latch.filter fun x => x.1 ≠ who) } }) ∧
  (∀ (who : Writer) (v : Word) (s : State), s.mod.phase ≠ .boot → heard s who TIME_CTRL → exec (.syncWrite who v) s = .next
    (if s.rd TIME_CTRL_SYNC = bitsOf v 0 0 then s else (s.wr TIME_CTRL_SYNC (bitsOf v 0 0)).raise 59 (bitsOf v 0 0)))

/-- R404: a tick adds INC_NS + INC_FRAC / 2^32 ns to the PTP clock, with carries at 10^9 and at 2^48. -/
def Sys2Proof.Claims.PtpClockAddsItsIncrement : Prop :=
  ∀ (k : Nat) (s : State), (0 < k → (s.pass k).clock.ns < 1000000000) ∧
    (((s.pass k).clock.sec.toNat * 1000000000 + (s.pass k).clock.ns) * 2 ^ 32 + (s.pass k).clock.frac.toNat) % (2 ^ 48 * 1000000000 * 2 ^ 32) =
      ((s.clock.sec.toNat * 1000000000 + s.clock.ns) * 2 ^ 32 + s.clock.frac.toNat +
        k * (s.clock.incNs.toNat * 2 ^ 32 + s.clock.incFrac.toNat)) % (2 ^ 48 * 1000000000 * 2 ^ 32)

/-- R409, R410: arming takes the word and notes a target already reached, and one with a PERIOD of 0 is discarded with RANGE; a
target word disarms, and nanoseconds of 10^9 or more are discarded with RANGE; an armed compare fires with its event and the Tally,
LATE in the tick after where it was armed with its target reached, and then moves its target by PERIOD × 100 ns or disarms; where the
moved target is reached already it fires again in the next tick. -/
def Sys2Proof.Claims.TimeComparesArmAndFire : Prop :=
  (∀ (who : Writer) (c : Nat) (v : Word) (s : State), c < 4 → s.mod.phase ≠ .boot → heard s who (TIME_CMP_CTRL c) → bitsOf v 29 0 = 0 →
    exec (.cmpArm who c v) s = .next (s.mmioRefuse (TIME_CMP_CTRL c) 0x05)) ∧
  (∀ (who : Writer) (c : Nat) (v : Word) (s : State), c < 4 → s.mod.phase ≠ .boot → heard s who (TIME_CMP_CTRL c) → bitsOf v 29 0 ≠ 0 →
    ∃ u, u = { s with regs := s.regs.set (TIME_CMP_CTRL c) v } ∧
      exec (.cmpArm who c v) s = .next { u with clock := { u.clock with
        lateArm := (u.clock.lateArm.set c (if v.getLsbD 31 = true ∧ 0 ≤ u.cmpDiff c then some (s.now, true) else none)) } }) ∧
  (∀ (who : Writer) (c : Nat) (v : Word) (s : State), c < 4 → s.mod.phase ≠ .boot → heard s who (TIME_CMP_NS c) → 1000000000 ≤ bitsOf v 29 0 →
    exec (.cmpTargetWrite who c .ns v) s = .next (s.mmioRefuse (TIME_CMP_NS c) 0x05)) ∧
  (∀ (who : Writer) (c : Nat) (part : CmpPart) (v : Word) (s : State), c < 4 → s.mod.phase ≠ .boot →
    heard s who (TIME_CMP_CTRL c) → (part = .ns → bitsOf v 29 0 < 1000000000) →
    ∃ t, exec (.cmpTargetWrite who c part v) s = .next t ∧ t.rd (TIME_CMP_CTRL_ARM c) = 0 ∧
      (part = .sLo → t.rd (TIME_CMP_S_LO_S_LO c) = v.toNat) ∧
      (part = .sHi → t.rd (TIME_CMP_S_HI_S_HI c) = bitsOf v 15 0) ∧
      (part = .ns → t.rd (TIME_CMP_NS_NS c) = bitsOf v 29 0) ∧
      t = { s with regs := t.regs, clock := { s.clock with lateArm := s.clock.lateArm.set c none } }) ∧
  (∀ (c : Nat) (s : State), s.rd (TIME_CMP_CTRL_ARM c) ≠ 1 → exec (.timeCmp c) s = .next s) ∧
  (∀ (c : Nat) (s : State), s.rd (TIME_CMP_CTRL_ARM c) = 1 →
    ∃ u, u = (match s.clock.lateArm.getD c none with
        | some x => (s.passTo (x.1 + 1)).raise (55 + c) (b2n x.2)
        | none => (s.pass (s.cmpTicks c)).raise (55 + c) 0) ∧
      ∃ v w, v = { u with regs := u.regs.wr (TIME_CMP_TALLY_TALLY c) (u.mod.tally.toNat % 2 ^ 32) } ∧
        w = (if v.on (TIME_CMP_CTRL_PERIODIC c)
          then v.moveTarget c (100 * v.rd (TIME_CMP_CTRL_PERIOD c)) else v.wr (TIME_CMP_CTRL_ARM c) 0) ∧
        exec (.timeCmp c) s = .next { w with clock := { w.clock with
          lateArm := w.clock.lateArm.set c (if w.on (TIME_CMP_CTRL_ARM c) = true ∧ 0 ≤ w.cmpDiff c then some (w.now, false) else none) } })

/-- R411: a stamp is taken with the port's latency, back for reception and on for transmission; a stamp that finds the FIFO of
16 full is counted in DROP and discarded; the read of a stamp removes it. -/
def Sys2Proof.Claims.PtpStampsAreKeptInOrder : Prop :=
  (∀ (p : Nat) (tx : Bool) (msg : BitVec 2) (seqId : BitVec 16) (s : State), s.rd (TIME_TS_CFG_EN p) ≠ 1 →
    exec (.ptpEventStamp p tx msg seqId) s = .next s) ∧
  (∀ (p : Nat) (tx : Bool) (msg : BitVec 2) (seqId : BitVec 16) (s : State), s.rd (TIME_TS_CFG_EN p) = 1 →
    16 ≤ (s.clock.stamps.getD p []).length →
    exec (.ptpEventStamp p tx msg seqId) s = .next (s.bumpSat (TIME_TS_CFG_DROP p))) ∧
  (∀ (p : Nat) (tx : Bool) (msg : BitVec 2) (seqId : BitVec 16) (s : State), s.rd (TIME_TS_CFG_EN p) = 1 →
    p < s.clock.stamps.length → (s.clock.stamps.getD p []).length < 16 →
    ∃ t x, exec (.ptpEventStamp p tx msg seqId) s = .next t ∧
      t.clock.stamps.getD p [] = s.clock.stamps.getD p [] ++ [x] ∧ x.tx = tx ∧ x.msg = msg ∧ x.seqId = seqId ∧
      (((x.sec * 1000000000 + x.ns : Nat) : Int) -
        (s.clock.sec.toNat * 1000000000 + s.clock.ns + if tx then (s.rd (TIME_TS_CFG_TX_LAT p) : Int) else -(s.rd (TIME_TS_CFG_RX_LAT p) : Int)))
          % ((2 ^ 48 * 1000000000 : Nat) : Int) = 0 ∧ x.ns < 1000000000 ∧
      (∀ q, q ≠ p → t.clock.stamps.getD q [] = s.clock.stamps.getD q []) ∧
      t = { s with regs := t.regs, clock := { s.clock with stamps := t.clock.stamps } }) ∧
  (∀ (p : Nat) (s : State), s.mod.phase ≠ .boot → ∃ t, exec (.ptpStampRead p) s = .next t ∧
    t.readData = [s.regs.get (TIME_TS_INFO p), s.regs.get (TIME_TS_NS p), s.regs.get (TIME_TS_S p)] ∧
    t.clock = { s.clock with stamps := updAt s.clock.stamps p List.tail } ∧
    t = { s with regs := t.regs, clock := t.clock, readData := t.readData })

/-- R400 to R403: loss of lock changes the clocks over, so that a run of the engine goes on 16 times slower from where it
stands, raises PLL_LOSS (class B, module) and CLK_LOCK 0x01, and counts; a good frequency count after lock changes back with
CLK_LOCK 0x02 and ends the condition; a failed attempt counts; loss of the reference sets REF_LOSS, raises CLK_LOCK 0x03,
loses lock and clears SYNC; its return raises CLK_LOCK 0x04. R398, R418: a divider write that waits takes effect 10 µs after
the one before it; the frequency-lock loop of a group follower writes the divider within the limits of R398 and reports its
lock. Completion, on conditions on the state and the operands alone, is stated for: pllLoss, pllRelock, relockFail, refLoss,
refReturn, ndivApply, fllUpdate. -/
def Obligations.ClocksLoseLockRelockAndDivide : Prop := LockLossAndRelock ∧ DividerWritesTakeEffect

/-- R404, R405, R408: a write of TIME_INC_NS within 2.4 to 2.6 ns applies INC_NS and INC_FRAC and any other is discarded with
RANGE; a read of TIME_NOW_NS returns the nanoseconds and latches the rest of the instant for its requester; a change of SYNC
raises TIME_SYNC with the new value. R404: a tick adds INC_NS + INC_FRAC / 2^32 ns to the PTP clock, with carries at 10^9 and
at 2^48. Completion, on conditions on the state and the operands alone, is stated for: timeIncNs, timeNowNsRead, syncWrite.
-/
def Obligations.ThePtpClockIsSetReadAndAdvances : Prop := PtpClockIsSetAndRead ∧ PtpClockAddsItsIncrement

/-- R409, R410: arming takes the word and notes a target already reached, and one with a PERIOD of 0 is discarded with RANGE;
a target word disarms, and nanoseconds of 10^9 or more are discarded with RANGE; an armed compare fires with its event and
the Tally, LATE in the tick after where it was armed with its target reached, and then moves its target by PERIOD × 100 ns or
disarms; where the moved target is reached already it fires again in the next tick. R411: a stamp is taken with the port's
latency, back for reception and on for transmission; a stamp that finds the FIFO of 16 full is counted in DROP and discarded;
the read of a stamp removes it. Completion, on conditions on the state and the operands alone, is stated for: ptpStampRead,
cmpArm, cmpTargetWrite, timeCmp, ptpEventStamp. -/
def Obligations.TimeComparesFireAndStampsKeepOrder : Prop := TimeComparesArmAndFire ∧ PtpStampsAreKeptInOrder

/-! ### Field inputs and outputs -/

namespace Sys2Proof.Claims

/-- The table of R322 in its order: the first row that applies decides; an output that is not in use is off. -/
def outputByTable (s : State) (n : Nat) : Bool :=
  let cfg := s.field.doCfg.getD n 0
  if cfg.getLsbD 31 = false ∨ (∀ v ∈ s.field.volts, v < 100) then false
  else if 2 ≤ s.field.cls.getD 0 0 then false
  else if cfg.getLsbD 30 = true ∧ (s.field.silentS = true ∨ s.field.shutdown = true) then false
  else if s.rd (FIO_DO_STAT_SILENT n) = 1 then
    (if bitsOf cfg 29 28 = 0 then false else if bitsOf cfg 29 28 = 1 then true else s.field.doHold.getLsbD n)
  else if s.rd (FIO_DO_STAT_OVERLOAD n) = 1 ∨ s.rd (FIO_DO_STAT_OT n) = 1 ∨ s.rd (FIO_DO_STAT_BACKFEED n) = 1 then false
  else if s.rd (FIO_DO_STAT_SAG_OFF n) = 1 then false
  else s.field.doCmd.getLsbD n

/-- The Field die is powered: one of its supplies is at 10 V or more (R305). -/
def powered (s : State) : Prop := ∃ v ∈ s.field.volts, 100 ≤ v

/-- Field I/O faults change the EIC, the journal, registers and the switches of the outputs only. -/
def fioFrame (u t : State) : Prop :=
  t = { u with regs := t.regs, eic := t.eic, laneA := t.laneA, laneB := t.laneB, journal := t.journal,
               field := { u.field with doOn := t.field.doOn, doOffAt := t.field.doOffAt, doPresent := t.field.doPresent } }

end Sys2Proof.Claims

/-- R322: every output takes the state of the first row that applies, and ON and FIO_DO_STATE show it. -/
def Obligations.OutputsFollowTheFirstRowThatApplies : Prop :=
  ∀ (s : State) (n : Nat), n < 16 →
    s.updDo.field.doOn.getLsbD n = outputByTable s n ∧
    s.updDo.rd (FIO_DO_STAT_ON n) = b2n (outputByTable s n) ∧
    s.updDo.rd ⟨FIO_DO_STATE, n, n⟩ = b2n (outputByTable s n) ∧
    s.updDo = { s with regs := s.updDo.regs,
                       field := { s.field with doOn := s.updDo.field.doOn, doOffAt := s.updDo.field.doOffAt } }

/-- R323: OVERLOAD, OT and BACKFEED latch, count in FAULTS, raise FIO_DO with channel and cause code and write a journal
record, and the outputs follow their table; OPEN is a sticky flag reported in the same way. Completion, on conditions on the
state and the operands alone, is stated for: doOverload, doOt, doBackfeed, doOpen. -/
def Obligations.OutputFaultsLatchAndReport : Prop :=
  (∀ (n : Nat) (s : State), n < 16 → s.field.doOn.getLsbD n = true →
    ∃ t, exec (.doOverload n) s = .next t ∧
      t = ((((s.wr (FIO_DO_STAT_OVERLOAD n) 1).bumpSat (FIO_DO_STAT_FAULTS n)).raise 50 (n + 256)).journalAdd 0x06 1 0
        [3, BitVec.ofNat 8 n]).updDo ∧
      t.rd (FIO_DO_STAT_OVERLOAD n) = 1 ∧ fioFrame s t) ∧
  (∀ (n : Nat) (s : State), s.field.doOn.getLsbD n = false → exec (.doOverload n) s = .next s) ∧
  (∀ (n : Nat) (s : State), n < 16 →
    ∃ t, exec (.doOt n true) s = .next t ∧ t.rd (FIO_DO_STAT_OT n) = 1 ∧ t.field.doPresent.getLsbD n = true ∧
      (s.rd (FIO_DO_STAT_SILENT n) ≠ 1 → t.field.doOn.getLsbD n = false) ∧ fioFrame s t) ∧
  (∀ (n : Nat) (s : State), exec (.doOt n false) s = .next { s with field := { s.field with
    doPresent := s.field.doPresent &&& ~~~((1 : BitVec 32) <<< n) } }) ∧
  (∀ (n : Nat) (s : State), s.field.doOn.getLsbD n = true ∨ s.field.doCmd.getLsbD n = true →
    exec (.doBackfeed n true) s = .next s) ∧
  (∀ (n : Nat) (s : State), n < 16 → s.field.doOn.getLsbD n = false → s.field.doCmd.getLsbD n = false →
    ∃ u t, u = s.passTo (s.field.doOffAt.getD n 0 + 2400000) ∧ exec (.doBackfeed n true) s = .next t ∧
      t.rd (FIO_DO_STAT_BACKFEED n) = 1 ∧ t.field.doPresent.getLsbD (16 + n) = true ∧ fioFrame u t) ∧
  (∀ (n : Nat) (s : State), exec (.doBackfeed n false) s = .next { s with field := { s.field with
    doPresent := s.field.doPresent &&& ~~~((1 : BitVec 32) <<< (16 + n)) } }.updDo) ∧
  (∀ (n : Nat) (s : State), (s.field.doCfg.getD n 0).getLsbD 27 = true → s.field.doOn.getLsbD n = true →
    exec (.doOpen n) s = .next ((((s.wr (FIO_DO_STAT_OPEN n) 1).bumpSat (FIO_DO_STAT_FAULTS n)).raise 50 (n + 1024)).journalAdd
      0x06 4 0 [3, BitVec.ofNat 8 n])) ∧
  (∀ (n : Nat) (s : State), (s.field.doCfg.getD n 0).getLsbD 27 = false ∨ s.field.doOn.getLsbD n = false →
    exec (.doOpen n) s = .next s)

/-- R310, R312 to R314, R321: a valid frame on channel S ends its silence and brings commands, watchdog time and
configuration to the Field die, and the classes of its supplies to the registers; a frame that fails its CRC counts in
CHS_ERR; the frames of the lanes' channels move the lanes' series switches. Completion, on conditions on the state and the
operands alone, is stated for: fieldFrameS, fieldFrameLane. -/
def Obligations.FieldChannelFramesCarryCommands : Prop :=
  (∀ (s : State), s.mod.phase ≠ .boot → s.power.inReset = false → s.power.shelved = false → (∃ v ∈ s.field.volts, 100 ≤ v) →
    ∃ t, exec (.fieldFrameS true) s = .next t ∧ t.rd FIO_STAT_FD_DOWN = 0 ∧
      t.field.silentS = false ∧ t.field.lastS = s.now ∧ t.field.wdogCopy = s.rd FIO_CTRL_WDOG ∧
      t.field.doCmd = BitVec.ofNat 16 (s.rd FIO_DO_OUT_OUT) ∧ t.field.shutdown = (s.field.shutdown && !s.power.pgood) ∧
      (s.field.takeBack = true → ∀ n < 16, t.rd (FIO_DO_STAT_SILENT n) = 0) ∧
      (s.field.takeBack = false → ∀ n < 16, t.rd (FIO_DO_STAT_SILENT n) = s.rd (FIO_DO_STAT_SILENT n)) ∧
      (∀ n < 16, s.field.release.getLsbD n = true → t.rd (FIO_DO_STAT_SAG_OFF n) = 0) ∧
      (∀ k < 2, t.rd (FIO_STAT_VF_ST k) = s.field.cls.getD k 0 % 4) ∧
      ((∀ k < 2, s.rd (FIO_STAT_VF_ST k) = s.field.cls.getD k 0) → t.journal = s.journal) ∧
      t.mod = s.mod ∧ t.host = s.host ∧ t.clock = s.clock ∧ t.power = s.power) ∧
  (∀ (s : State), s.mod.phase ≠ .boot → s.power.inReset = false → s.power.shelved = false → (∃ v ∈ s.field.volts, 100 ≤ v) →
    exec (.fieldFrameS false) s = .next (s.bump FIO_STAT_CHS_ERR)) ∧
  (∀ (ok : Bool) (s : State), s.mod.phase = .boot ∨ s.power.inReset = true ∨ s.power.shelved = true ∨
    (∀ v ∈ s.field.volts, v < 100) → exec (.fieldFrameS ok) s = .next s) ∧
  (∀ (i : LaneId) (s : State), (∃ v ∈ s.field.volts, 100 ≤ v) →
    exec (.fieldFrameLane i false) s = .next (s.bump FIO_STAT_CHS_ERR) ∧
    ∃ t, exec (.fieldFrameLane i true) s = .next t ∧
      t.field.lastLane = s.field.lastLane.set (LaneId.num i) s.now ∧
      t.field.laneSilent = s.field.laneSilent.set (LaneId.num i) false ∧
      t = { s with regs := t.regs, laneA := t.laneA, laneB := t.laneB, faults := t.faults, field := t.field })

/-- R310, R313, R18: silence on a lane's channel opens its series switches after 500 µs; silence on channel S switches the
outputs of CLASS_S off after 1 ms and puts the others in their SAFE state after FIO_WDOG, and SHUTDOWN does both at once; a
silent Field die sets FD_DOWN, clears FIO_DI_LVL and lowers every safety input; 10 ms of a lane's silence raise FIELD_CHAN.
Completion, on conditions on the state and the operands alone, is stated for: laneChannelSilence, sSilence, fioWdog, fdDown,
fieldChan, fdShutdown. -/
def Obligations.SilenceOnTheFieldChannels : Prop :=
  (∀ (i : LaneId) (s : State), s.field.laneSilent.getD (LaneId.num i) true = false →
    ∃ u, u = s.passTo (s.field.lastLane.getD (LaneId.num i) 0 + 200000) ∧
      exec (.laneChannelSilence i) s = .next (State.silenceLane
        { u with field := { u.field with laneSilent := u.field.laneSilent.set (LaneId.num i) true } } i)) ∧
  (∀ (s : State), ∃ t, exec .sSilence s = .next t ∧ t.field.silentS = true ∧
    (∀ n < 16, (s.field.doCfg.getD n 0).getLsbD 30 = true → t.field.doOn.getLsbD n = false)) ∧
  (∀ (s : State), ∃ t, exec .fioWdog s = .next t ∧ t.field.silentS = true ∧
    (∀ n < 16, (s.field.doCfg.getD n 0).getLsbD 30 = true → t.field.doOn.getLsbD n = false) ∧
    (∀ n < 16, (s.field.doCfg.getD n 0).getLsbD 30 = false → t.rd (FIO_DO_STAT_SILENT n) = 1)) ∧
  (∀ (s : State), s.power.pgood = false → (∃ v ∈ s.field.volts, 100 ≤ v) →
    ∃ t, exec .fdShutdown s = .next t ∧ t.rd FIO_STAT_SHUTDOWN = 1 ∧ t.field.shutdown = true ∧
      (∀ n < 16, (s.field.doCfg.getD n 0).getLsbD 30 = true → t.field.doOn.getLsbD n = false) ∧
      (∀ n < 16, (s.field.doCfg.getD n 0).getLsbD 30 = false → t.rd (FIO_DO_STAT_SILENT n) = 1)) ∧
  (∀ (s : State), s.rd FIO_STAT_FD_DOWN ≠ 1 →
    ∃ t, exec .fdDown s = .next t ∧ t.rd FIO_STAT_FD_DOWN = 1 ∧ t.regs.get FIO_DI_LVL = 0 ∧
      t.rd (EIC_SRC_LOG_CNT 48) = ((s.passTo (s.field.lastS + 400000)).rd (EIC_SRC_LOG_CNT 48) + 1) % 65536 ∧
      (∀ i, ∀ c ∈ (t.lane i).smon.si, c.level = false)) ∧
  (∀ (i : LaneId) (s : State), s.safeEn = true → s.causeActive 0x2E (LaneId.num i) = false →
    s.laneState i = 1 ∨ s.laneState i = 2 →
    exec (.fieldChan i) s = .next ((s.passTo (s.field.lastLane.getD (LaneId.num i) 0 + 4000000)).cause 0x2E 1 .module
      (LaneId.num i) none true))

/-- R305 to R309: a supply is measured every 100 µs; a field supply below 14 V switches every output of VF1 off with SAG_OFF
on those that were on and VF_LOW on every input; with VF2 below 14 V the safety outputs go off; a supply leaves SAG or
REVERSED after 20 ms at 16 V or more; with both supplies below 10 V the Field die loses its commands and its outputs.
Completion, on conditions on the state and the operands alone, is stated for: supplyMeasure, supplyRecovery. -/
def Obligations.FieldSuppliesSagAndRecover : Prop :=
  (∀ (v : Int) (s : State), s.field.cls.length = 2 → s.field.cls.getD 0 0 < 2 → v < 140 → (∃ x ∈ s.field.volts.set 0 v, 100 ≤ x) →
    ∃ u t, u = s.passTo (s.field.supAt.getD 0 0 + 40000) ∧ exec (.supplyMeasure .vf1 v) s = .next t ∧
      t.field.cls.getD 0 0 = (if v < -10 then 3 else 2) ∧ t.rd FIO_STAT_VF1_ST = (if v < -10 then 3 else 2) ∧
      (∀ n < 16, t.field.doOn.getLsbD n = false ∧ (s.field.doOn.getLsbD n = true → t.rd (FIO_DO_STAT_SAG_OFF n) = 1)) ∧
      (∀ n < 32, t.rd (FIO_DI_STAT_VF_LOW n) = 1) ∧
      t.mod = u.mod ∧ t.faults = u.faults ∧ t.host = u.host ∧ t.clock = u.clock) ∧
  (∀ (v : Int) (s : State), s.field.cls.length = 2 → s.field.cls.getD 1 0 < 2 → v < 140 → (∃ x ∈ s.field.volts.set 1 v, 100 ≤ x) →
    ∃ t, exec (.supplyMeasure .vf2 v) s = .next t ∧
      t.rd FIO_STAT_VF2_ST = (if v < -10 then 3 else 2) ∧
      (∀ o ∈ t.field.sos, o.swA = false ∧ o.swB = false) ∧
      (s.safeEn = true → t.causeActive 0x2F 0 = true)) ∧
  (∀ (v : Int) (s : State), s.field.cls.length = 2 → 140 ≤ v → s.field.cls.getD 0 0 < 2 → s.field.volts ≠ [] →
    ∃ t, exec (.supplyMeasure .vf1 v) s = .next t ∧ t.rd FIO_STAT_VF1_ST = (if v < 180 then 1 else 0) ∧
      t.field.doOn = s.field.doOn) ∧
  (∀ (sup : Supply) (v : Int) (t0 : Nat) (s : State), s.field.cls.length = 2 →
    s.field.vfOkSince.getD (supplyNum sup) none = some t0 → 160 ≤ v → (∃ x ∈ s.field.volts.set (supplyNum sup) v, 100 ≤ x) →
    ∃ t, exec (.supplyRecovery sup v) s = .next t ∧ t.rd (FIO_STAT_VF_ST (supplyNum sup)) = (if v < 180 then 1 else 0)) ∧
  (∀ (sup : Supply) (v : Int) (s : State), (∀ x ∈ s.field.volts.set (supplyNum sup) v, x < 100) →
    ∃ t, exec (.supplyMeasure sup v) s = .next t ∧ t.field.doOn = 0 ∧ t.field.doCmd = 0 ∧ t.field.silentS = true ∧
      (∀ o ∈ t.field.sos, o.swA = false ∧ o.swB = false))

/-- R316, R317, R319: a sample moves the counter filter, and a filtered change that EDGE selects goes into the FIFO of 16 and
raises FIO_DI; diagnostics set their sticky bits, raise FIO_DI with bit 9 and write journal records; SUP_OVL takes the sensor
supply off until its retry; a channel in OT reads 0. Completion, on conditions on the state and the operands alone, is stated
for: diSample, diOpen, supOvl, disupRetry, diOt, diCooled. -/
def Obligations.DigitalInputsFilterStampAndDiagnose : Prop :=
  (∀ (n : Nat) (raw : Bool) (s : State), (s.field.diCfg.getD n 0).getLsbD 31 = true → (∃ v ∈ s.field.volts, 100 ≤ v) → n < 32 →
    ∃ u t, u = s.passTo (s.field.diSampleAt.getD n 0 + 4000 * bitsOf (s.field.diCfg.getD n 0) 9 0) ∧
      exec (.diSample n raw) s = .next t ∧
      t.rd (FIO_DI_STAT_RAW n) = b2n (raw && !(s.di n).ot) ∧
      (let th := bitsOf (s.field.diCfg.getD n 0) 23 16
       let r := raw && !(s.di n).ot
       let c := if r then (if (s.di n).count < th then (s.di n).count + 1 else (s.di n).count) else (s.di n).count - 1
       let lv := if c = 0 then false else if c = th then true else (s.di n).level
       t.rd (FIO_DI_STAT_LEVEL n) = b2n lv ∧
       (lv = (s.di n).level → t.field.dis = updAt s.field.dis n fun _ => { s.di n with count := c }) ∧
       t.rd (FIO_DI_CNT_RISE n) = (if lv = true ∧ (s.di n).level = false then (u.rd (FIO_DI_CNT_RISE n) + 1) % 65536
         else u.rd (FIO_DI_CNT_RISE n)) ∧
       t.rd (FIO_DI_CNT_FALL n) = (if lv = false ∧ (s.di n).level = true then (u.rd (FIO_DI_CNT_FALL n) + 1) % 65536
         else u.rd (FIO_DI_CNT_FALL n))) ∧
      t = { u with regs := t.regs, eic := t.eic, laneA := t.laneA, laneB := t.laneB, field := { u.field with
        diSampleAt := u.field.diSampleAt.set n u.now, dis := t.field.dis } }) ∧
  (∀ (n : Nat) (s : State), (s.field.diCfg.getD n 0).getLsbD 31 = false ∨ (s.field.diCfg.getD n 0).getLsbD 29 = false ∨ ¬ powered s →
    exec (.diOpen n) s = .next s) ∧
  (∀ (n : Nat) (s : State), (s.field.diCfg.getD n 0).getLsbD 31 = true → (s.field.diCfg.getD n 0).getLsbD 29 = true → powered s →
    exec (.diOpen n) s = .next (((s.wr (FIO_DI_STAT_OPEN n) 1).raise 49 (n + 512)).journalAdd 0x06 1 0 [2, BitVec.ofNat 8 n])) ∧
  (∀ (j : Nat) (s : State), s.field.supOff.getD j none = none → j < 4 → s.field.cls.getD 0 0 < 2 → powered s →
    ∃ t, exec (.supOvl j) s = .next t ∧ t.rd ⟨FIO_DISUP_STAT, 4 + j, 4 + j⟩ = 1 ∧
      (∀ k < 8, t.rd (FIO_DI_STAT_SUP_OVL (8 * j + k)) = 1) ∧
      t.field = { s.field with supOff := s.field.supOff.set j (some s.now) }) ∧
  (∀ (j t0 : Nat) (s : State), s.field.supOff.getD j none = some t0 →
    ∃ u, u = s.passTo (t0 + 400000000) ∧
      exec (.disupRetry j) s = .next (State.updDisup { u with field := { u.field with supOff := u.field.supOff.set j none } })) ∧
  (∀ (n : Nat) (s : State), (s.di n).ot = true ∨ ¬ powered s → exec (.diOt n) s = .next s) ∧
  (∀ (n : Nat) (s : State), (s.di n).ot = false → powered s → exec (.diOt n) s = .next
    ((({ s with field := { s.field with dis := updAt s.field.dis n fun d => { d with ot := true } } }.wr (FIO_DI_STAT_OT n) 1).raise
      49 (n + 512)).journalAdd 0x06 3 0 [2, BitVec.ofNat 8 n])) ∧
  (∀ (n : Nat) (s : State), exec (.diCooled n) s = .next
    { s with field := { s.field with dis := updAt s.field.dis n fun d => { d with ot := false } } })

/-- R318: FIO_TS_NS shows level, NOTIME and nanoseconds of the oldest entry with VALID = 1; the read of FIO_TS_S gives its
seconds and removes it. With the FIFO empty VALID reads 0 and nothing is removed. Completion, on conditions on the state and
the operands alone, is stated for: tsNsRead, tsSRead. -/
def Obligations.TimeStampsAreReadOldestFirst : Prop :=
  (∀ (lv nt : Bool) (sec ns : Nat) (rest : List (Bool × Bool × Nat × Nat)) (s : State), s.mod.phase ≠ .boot →
    ns < 2 ^ 30 → (s.di (s.rd FIO_TS_SEL_CH)).fifo = (lv, nt, sec, ns) :: rest →
    ∃ w x, exec .tsNsRead s = .next { s with readData := [w] } ∧
      bitsOf w 31 31 = 1 ∧ bitsOf w 30 30 = b2n lv ∧ bitsOf w 29 29 = b2n nt ∧ bitsOf w 28 0 = ns % 2 ^ 29 ∧
      bitsOf x 31 31 = ns / 2 ^ 29 ∧ bitsOf x 30 0 = sec % 2 ^ 31 ∧
      exec .tsSRead s = .next { s with
        readData := [x], regs := s.regs.wr (FIO_DI_STAT_TS_CNT (s.rd FIO_TS_SEL_CH)) rest.length,
        field := { s.field with dis := updAt s.field.dis (s.rd FIO_TS_SEL_CH) fun d => { d with fifo := rest } } }) ∧
  (∀ (s : State), s.mod.phase ≠ .boot → (s.di (s.rd FIO_TS_SEL_CH)).fifo = [] →
    (∃ w, exec .tsNsRead s = .next { s with free := s.free + 1, readData := [w] } ∧ bitsOf w 31 31 = 0) ∧
    (∃ w, exec .tsSRead s = .next { s with free := s.free + 1, readData := [w] }))

/-! ### Safety Monitors, safety outputs and safe frames -/

namespace Sys2Proof.Claims

/-- The selection of one lane. -/
def inLane : LaneId → LaneSel
  | .a => .a
  | .b => .b

/-- A safety cause that is an instant (R272, R276): a cause of the module where safety is enabled and the same cause has not
just been taken from the other lane. -/
def instant (s : State) (code cls : Nat) : State :=
  if s.safeEn = true ∧ ¬ ∃ c ∈ s.faults.causes, c.code = code ∧ c.lastActive = s.now
  then s.cause code cls .module 0 none false else s

/-- An instant that the Safety Monitor of a lane finds. -/
def instantCause (s : State) (i : LaneId) (code cls : Nat) : State := if s.laneLive i = true then instant s code cls else s

end Sys2Proof.Claims

/-- R279, R280: in QUAD mode an edge on A or B moves COUNT by one, with ENC_FAULT where both inputs change within a 10 ns
sample; an edge of Z latches COUNT and sets REF_OK; an SSI read starts every SSI_PER in both lanes, moves COUNT by the signed
difference to the read before and sets REF_OK, with ENC_FAULT on a bad end, a jump beyond CPR / 8, or a read that does not
end. θr in ENC or ENCI mode follows the count of its encoder within the tick (R48). Completion, on conditions on the state
and the operands alone, is stated for: ssiReadStart, ssiReadDone, ssiReadTimeout, encIndex, encEdge. -/
def Obligations.EncodersCountAndFindFaults : Prop :=
  (∀ (i : LaneId) (n : Nat) (v : Bool) (s : State), (s.lane i).rd (SAFE_ENC_CFG_MODE n) = 1 → ((s.lane i).enc n).a ≠ v →
    ∃ l u, l = (s.lane i).modEnc n (fun _ => { (s.lane i).enc n with a := v, tickA := some s.now }) ∧
      u = s.setLane i { l with
        regs := (l.regs.set (SAFE_ENC_COUNT n) (l.regs.get (SAFE_ENC_COUNT n) + if v = ((s.lane i).enc n).b then -1 else 1)) } ∧
      exec (.encEdge (inLane i) n (.a v)) s =
        .next (if ((s.lane i).enc n).tickB.any (fun t => t / 4 = s.now / 4) then instantCause (u.rotor i n) i 0x2C 2
          else u.rotor i n)) ∧
  (∀ (i : LaneId) (n : Nat) (v : Bool) (s : State), (s.lane i).rd (SAFE_ENC_CFG_MODE n) = 1 → ((s.lane i).enc n).b ≠ v →
    ∃ l u, l = (s.lane i).modEnc n (fun _ => { (s.lane i).enc n with b := v, tickB := some s.now }) ∧
      u = s.setLane i { l with
        regs := (l.regs.set (SAFE_ENC_COUNT n) (l.regs.get (SAFE_ENC_COUNT n) + if ((s.lane i).enc n).a = v then 1 else -1)) } ∧
      exec (.encEdge (inLane i) n (.b v)) s =
        .next (if ((s.lane i).enc n).tickA.any (fun t => t / 4 = s.now / 4) then instantCause (u.rotor i n) i 0x2C 2
          else u.rotor i n)) ∧
  (∀ (i : LaneId) (n : Nat) (s : State), (s.lane i).rd (SAFE_ENC_CFG_MODE n) = 1 →
    ∃ u, u = s.setLane i ({ s.lane i with
        regs := ((s.lane i).regs.set (SAFE_ENC_ZLATCH n) ((s.lane i).regs.get (SAFE_ENC_COUNT n))) }.wr ⟨SAFE_SLS_STAT, n, n⟩ 1) ∧
      exec (.encIndex (inLane i) n) s = .next
        (if (s.lane i).on ⟨SAFE_SLS_STAT, n, n⟩ && offIndex ((s.lane i).regs.get (SAFE_ENC_COUNT n))
            ((s.lane i).regs.get (SAFE_ENC_ZLATCH n)) ((s.lane i).rd (SAFE_ENC_CPR_CPR n))
          then instantCause u i 0x2C 2 else u)) ∧
  (∀ (n : Nat) (s : State), (s.lane s.active).rd (SAFE_ENC_CFG_MODE n) = 2 →
    ∃ u, u = s.passTo (((s.lane s.active).enc n).readAt + 400 * (s.lane s.active).rd (SAFE_ENC_CFG_SSI_PER n)) ∧
      exec (.ssiReadStart n) s = .next (u.bothLanes fun l => l.modEnc n fun e => { e with ssi := some (e.ssi.getD u.now), readAt := u.now })) ∧
  (∀ (i : LaneId) (n t0 : Nat) (raw : Word) (s : State), (s.lane i).rd (SAFE_ENC_CFG_MODE n) = 2 →
    ((s.lane i).enc n).ssi = some t0 →
    exec (.ssiReadDone (inLane i) n raw false) s = .next (instantCause (s.modLane i fun l => l.modEnc n fun e =>
      { e with ssi := none }) i 0x2C 2)) ∧
  (∀ (i : LaneId) (n t0 bits v : Nat) (raw : Word) (s : State), (s.lane i).rd (SAFE_ENC_CFG_MODE n) = 2 →
    ((s.lane i).enc n).ssi = some t0 → bits = (s.lane i).rd (SAFE_ENC_CFG_SSI_BITS n) → 0 < bits →
    v = (if (s.lane i).on (SAFE_ENC_CFG_GRAY n) then grayToBin bits (raw.toNat % 2 ^ bits) 0 else raw.toNat % 2 ^ bits) →
    ∃ d u, d = signed bits (v + 2 ^ bits - (((s.lane i).enc n).lastRaw.getD 0) % 2 ^ bits) ∧
      u = s.setLane i ((((s.lane i).modEnc n fun e => { e with ssi := none, lastRaw := some v }).moveCount n d).wr
        ⟨SAFE_SLS_STAT, n, n⟩ 1) ∧
      exec (.ssiReadDone (inLane i) n raw true) s = .next
        (if ((s.lane i).enc n).lastRaw.isSome && decide ((s.lane i).rd (SAFE_ENC_CPR_CPR n) < 8 * d.natAbs)
          then instantCause (u.rotor i n) i 0x2C 2 else u.rotor i n)) ∧
  (∀ (i : LaneId) (n : Nat) (s : State),
    (s.mod.started = true → (s.lane i).srcMode 2 ≠ 0 → (s.lane i).rd (ASC_S_CFG_ENC_SEL 2) = n →
      s.rotor i n = s.modLane i fun l => l.modSrc 2 fun a => a.set (accOf ((s.lane i).regs.get (ASC_S_ENC_OFFSET 2) +
        (s.lane i).regs.get (SAFE_ENC_COUNT n) * (s.lane i).regs.get (ASC_S_ENC_GAIN 2)))) ∧
    (s.mod.started = false ∨ (s.lane i).srcMode 2 = 0 ∨ (s.lane i).rd (ASC_S_CFG_ENC_SEL 2) ≠ n → s.rotor i n = s)) ∧
  (∀ (i : LaneId) (n t0 : Nat) (s : State), ((s.lane i).enc n).ssi = some t0 →
    exec (.ssiReadTimeout (inLane i) n) s = .next (instantCause
      ((s.passTo (t0 + 800 * (s.lane i).rd (SAFE_ENC_CFG_SSI_PER n))).modLane i fun l =>
        l.modEnc n fun e => { e with ssi := none }) i 0x2C 2))

/-- R289, R290, R292: a test pulse of source n starts n × TP_PER / 4 into each period of TP_PER; a sample of the safety inputs reaches both lanes 10 µs after the one
before and moves their levels, LVL_A and LVL_B; SI_DISC sets the pair's bit and is a class L instant. -/
def Sys2Proof.Claims.SafetyInputsAreSampledAndTested : Prop :=
  (∀ (n per : Nat) (s : State), per = 400000 * (s.lane s.active).rd SAFE_TP_CFG_TP_PER → 0 < per →
    (s.field.tpBase = none → ∃ base, (base + n * per / 4 = s.now ∨ base + n * per / 4 = s.now + per ∨ s.now + per < n * per / 4) ∧
      exec (.testPulse n) s = .next
        { s with field := { s.field with tpBase := some base, tpAt := s.field.tpAt.set n (some s.now) } }) ∧
    (∀ base, s.field.tpBase = some base → ∃ from_ k p u,
      from_ = (match s.field.tpAt.getD n none with
        | some t => max s.now (t + 1)
        | none => s.now) ∧
      p = base + n * per / 4 + k * per ∧ from_ ≤ p ∧ (k = 0 ∨ p < from_ + per) ∧ u = s.passTo p ∧
      exec (.testPulse n) s = .next
        { u with field := { u.field with tpBase := some base, tpAt := u.field.tpAt.set n (some u.now) } })) ∧
  (∀ (a b : BitVec 8) (s : State), ∃ u v, u = s.passTo (s.field.sampleAt + 4000) ∧
    v = { u with field := { u.field with sampleAt := u.now } } ∧
    ∃ t, exec (.siSample a b) s = .next t ∧
      (s.safeEn = false → ∀ i, ∀ c < 16, (t.lane i).smon.si.getD c SiChan.reset =
        (v.siStep ((v.lane i).siSrc c) ((v.lane i).rd (SAFE_SI_CFG_FILT (c / 2)))
          (if c % 2 = 0 then a.getLsbD (c / 2) else b.getLsbD (c / 2)) ((v.lane i).smon.si.getD c SiChan.reset)).1)) ∧
  (∀ (i : LaneId) (p t0 : Nat) (s : State), (s.lane i).smon.discSince.getD p none = some t0 →
    exec (.siDisc (inLane i) p) s = .next (instantCause
      ((s.passTo (t0 + 800000 * (s.lane i).rd (SAFE_SI_CFG_DISC_T p))).modLane i fun l => l.wr ⟨SAFE_SI_STAT, p, p⟩ 1) i 0x27 2))

/-- R290: outside the windows of its own source a channel's level changes after FILT × 100 µs of agreeing samples, and a
sample that agrees with the level starts the count again. -/
def Sys2Proof.Claims.SafetyInputFilterCountsAgreeingSamples : Prop :=
  ∀ (s : State) (src filt : Nat) (raw : Bool) (x : SiChan), (src < 4 → s.inPulse src 80000 = false) →
    (raw = x.level → (s.siStep src filt raw x).1.level = x.level ∧ (s.siStep src filt raw x).1.count = 0) ∧
    (raw ≠ x.level → 10 * filt ≤ x.count + 1 →
      (s.siStep src filt raw x).1.level = raw ∧ (s.siStep src filt raw x).1.count = 0) ∧
    (raw ≠ x.level → x.count + 1 < 10 * filt →
      (s.siStep src filt raw x).1.level = x.level ∧ (s.siStep src filt raw x).1.count = x.count + 1)

/-- R282, R284, R292, R294: what a safety cycle leaves in a lane: the safe speed is the larger magnitude, SLS_OK compares it
with the limit in force, the demands follow, and an output is commanded on while its function permits, no cause holds it off
and it does not await REQ. -/
def Sys2Proof.Claims.SafetyCycleDecidesTheFunctions : Prop :=
  ∀ (i : LaneId) (s : State),
    ∃ l, l = (s.smonCycle i).lane i ∧
      l.smon.safeSpeed = max (l.regs.get (SAFE_SPD 0)).toInt.natAbs (l.regs.get (SAFE_SPD 1)).toInt.natAbs ∧
      (l.rd SAFE_STAT_SLS_OK = 1 ↔ l.smon.safeSpeed ≤ 4096 *
        (if (s.lane i).funcDemand 2 = true ∨ (s.lane i).smon.cmdBits.getLsbD 1 = true then (s.lane i).rd SAFE_SLS_LIM_LIM1
          else (s.lane i).rd SAFE_SLS_LIM_LIM0)) ∧
      (0x20 ∈ l.smon.demands ↔ (s.lane i).funcDemand 1 = true) ∧
      (0x21 ∈ l.smon.demands ↔ (s.lane i).smon.cmdBits.getLsbD 0 = true) ∧
      (0x22 ∈ l.smon.demands ↔ l.rd SAFE_STAT_SLS_OK = 0) ∧
      (0x24 ∈ l.smon.demands ↔ (s.lane i).smon.psfTimeout = true ∧ (s.lane i).rd SAFE_PSF_CFG_PSF_EN = 1) ∧
      (∀ n < 4, l.smon.soCmd.getLsbD n = true →
        s.faults.classL = false ∧ s.field.cls.getD 1 0 < 2 ∧ ¬ (s.faults.sto = true ∧ l.rd (SAFE_SO_CFG_STO_OFF n) = 1)) ∧
      (s.smonCycle i).mod = s.mod ∧ (s.smonCycle i).faults = s.faults ∧ (s.smonCycle i).field = s.field ∧
      ((s.smonCycle i).lane (LaneId.other i) = (s.lane (LaneId.other i)).occur s.now (s.rd (EIC_ROUTE_TARGET 64)) 64 ∨
        (s.smonCycle i).lane (LaneId.other i) = s.lane (LaneId.other i))

/-- R271 to R273, R276, R283 to R285, R287, R288: the safety cycle of 250 µs, and the causes and counts whose time has run:
SMON_FAULT after 20 ms, SPD_DISC, SLT_MOT, the minutes of degraded operation, after the last of which the commit stage stops the
SWITCHING threads, and its end. -/
def Sys2Proof.Claims.SafetyTimesRunOut : Prop :=
  (∀ (ln : LaneSel) (s : State), ∃ u, u = s.passTo ((match ln with
      | .b => s.laneB.smon.cycleAt
      | _ => s.laneA.smon.cycleAt) + 100000) ∧
    exec (.safetyCycle ln) s = .next ((u.onLanes ln State.smonCycle).syncDemands.autoReturn.compareReports.updSi).updSo) ∧
  (∀ (t0 : Nat) (s : State), s.safe.diffSince = some t0 →
    exec .smonFault s = .next (instant (s.passTo (t0 + 8000000)) 0x2D 2)) ∧
  (∀ (i : LaneId) (t0 : Nat) (s : State), earlier (s.lane i).smon.spdDiscSince (s.lane i).smon.posDiscSince = some t0 →
    exec (.spdDisc (inLane i)) s = .next (instantCause (s.passTo (t0 + 400000 * (s.lane i).rd SAFE_SLS_CFG_DISC_T)) i 0x2B 2)) ∧
  (∀ (i : LaneId) (t0 : Nat) (s : State), (s.lane i).smon.motSince = some t0 →
    exec (.sltMot (inLane i)) s = .next (((s.passTo (t0 + 400000 * (s.lane i).rd SAFE_SLT_CFG_MOT_T)).modLane i fun l =>
      l.modSmon fun m => if m.demands.contains 0x23 then m else { m with demands := 0x23 :: m.demands }).syncDemands)) ∧
  (∀ (s : State), (s.lane s.active).rd SAFE_STAT_DEGRADED = 1 → 0 < (s.lane s.active).rd SAFE_DEGRADED_REMAIN →
    ∃ u n v, u = s.passTo (s.safe.degradedAt + 24000000000) ∧ n = (u.lane u.active).rd SAFE_DEGRADED_REMAIN - 1 ∧
      v = { (u.bothLanes fun l => l.wr SAFE_DEGRADED_REMAIN n) with safe := { u.safe with degradedAt := u.now } } ∧
      (n ≠ 0 → exec .degradedMinute s = .next v) ∧
      (n = 0 → exec .degradedMinute s = .next { v with safe := { v.safe with stopAt := some v.now, stopDue := true } })) ∧
  (∀ (s : State),
    (s.safe.stopDue = false ∨ s.hold = true → s.commitStops = s) ∧
    (s.safe.stopDue = true → s.hold = false → s.commitStops = (numsWhere 8 fun t => s.present t && s.thread t = 2).foldl
      State.stopThread { s with safe := { s.safe with stopDue := false } })) ∧
  (∀ (t0 : Nat) (s : State), s.safe.stopAt = some t0 → s.safeEn = true → s.causeActive 0x26 0 = false →
    ∃ u, u = (if s.anyThread 2 then s.passTo (t0 + 400000000 * (s.lane s.active).rd SAFE_CFG_STOP_T) else s) ∧
      exec .degradedEnd s = .next (u.cause 0x26 1 .module 0 none true))

/-- R294: no output is commanded on while class L stands or while STO holds it off. R295 to R298: a test opens one series
switch, alternately A and B; its end closes the switch after a good pulse and otherwise opens both and raises SO_READBACK
(class L); the recheck finds SO_OVERLOAD; the steady checks of readback raise SO_READBACK and SO_OVERLOAD. Completion, on
conditions on the state and the operands alone, is stated for: soTestStart, soTestEnd, soTestRecheck, soReadback, soOverload.
-/
def Obligations.SafetyOutputsAreTested : Prop :=
  (∀ (n : Nat) (s : State), (s.so n).swA = true → (s.so n).swB = true → (∀ o ∈ s.field.sos, o.test = none) →
    ∃ u : State, u.field.sos = s.field.sos ∧ s.now ≤ u.now ∧ (s.so n).testDue ≤ u.now ∧
      (s.so n).onAt + 800 * (s.lane s.active).rd (SAFE_SO_CFG_TPW n) ≤ u.now ∧
      (∀ m < 4, m ≠ n → (s.so m).endedAt ≠ 0 → (s.so m).endedAt + 400000 ≤ u.now) ∧
      ∃ t, exec (.soTestStart n) s = .next t ∧
        t.field.sos = updAt u.field.sos n fun o => { (o.setSw (LaneId.other o.lastLane) false) with
          test := some (LaneId.other o.lastLane, u.now), rb := false,
          testDue := u.now + 400000000 * (u.lane u.active).rd (SAFE_SO_CFG_TPER n) }) ∧
  (∀ (n t0 : Nat) (i : LaneId) (s : State), (s.so n).test = some (i, t0) →
    ∃ u, u = s.passTo (t0 + 400 * (s.lane s.active).rd (SAFE_SO_CFG_TPW n)) ∧
      exec (.soTestEnd n true) s = .next (u.modSo n fun o => { (o.setSw i true) with
        test := none, endedAt := u.now, recheck := true, passed := true, lastLane := i, rb := true }) ∧
      ∃ v, v = (u.modSo n fun o => { o.off u.now with passed := false, lastLane := i, manual := true }) ∧
        exec (.soTestEnd n false) s = .next (instant v 0x29 2)) ∧
  (∀ (n : Nat) (s : State), (s.so n).recheck = true →
    ∃ u, u = s.passTo ((s.so n).endedAt + 20000) ∧
      exec (.soTestRecheck n true) s = .next (u.modSo n fun o => { o with recheck := false }) ∧
      exec (.soTestRecheck n false) s = .next (instant (u.modSo n fun o => { o.off u.now with manual := true }) 0x2A 1)) ∧
  (∀ (n : Nat) (s : State), (s.so n).swA = false → (s.so n).swB = false →
    ∃ u, u = s.modSo n (fun o => { o with rb := true }) ∧
      (u.safeEn = true → u.causeActive 0x29 (n + 1) = false → (s.so n).offAt + 420000 ≤ s.now →
        exec (.soReadback n true) s = .next (u.cause 0x29 2 .module (n + 1) none true)) ∧
      exec (.soReadback n false) s = .next ((s.modSo n fun o => { o with rb := false }).causeEnd 0x29 (n + 1))) ∧
  (∀ (n : Nat) (s : State), (s.so n).swA = true → (s.so n).swB = true →
    (s.so n).onAt + 800 * (s.lane s.active).rd (SAFE_SO_CFG_TPW n) + 400000 ≤ s.now →
    exec (.soOverload n) s = .next (instant (s.modSo n fun o => { o.off s.now with manual := true }) 0x2A 1))

/-- R299 to R302: a sound CMD frame in time whose SEQ follows LAST by 1 to 16, or with LAST unset, is accepted as new: it
sets LAST and the request bits, and the active lane's acceptance is answered by one STATUS frame; any other frame but a copy
of LAST is discarded and counted. MATCH_WIN counts SINGLE, and PSF_WDOG makes LAST unset and raises PSF_TIMEOUT. Completion,
on conditions on the state and the operands alone, is stated for: psfCmd, psfLockoutReset, psfMatchWin, psfTimeout. -/
def Obligations.SafeFramesAreAcceptedOrDiscarded : Prop :=
  (∀ (i : LaneId) (f : List Byte) (s : State), (s.lane i).rd SAFE_PSF_CFG_PSF_EN ≠ 1 →
    exec (.psfCmd (inLane i) f) s = .next s ∧ exec (.psfLockoutReset (inLane i) f) s = .next s) ∧
  (∀ (i : LaneId) (f : List Byte) (s : State), (s.lane i).rd SAFE_PSF_CFG_PSF_EN = 1 → s.psfSound (s.lane i) f = true →
    psfNum f 1 1 = 1 → s.psfInTime (s.lane i) f = true →
    (∀ x, (s.lane i).smon.last = some x → 1 ≤ (BitVec.ofNat 32 (psfNum f 4 4) - x.seq).toNat ∧
      (BitVec.ofNat 32 (psfNum f 4 4) - x.seq).toNat ≤ 16) →
    ∃ t, exec (.psfCmd (inLane i) f) s = .next t ∧
      (t.lane i).smon = { (s.lane i).smon with
        last := some { seq := BitVec.ofNat 32 (psfNum f 4 4), bytes := f, at_ := s.now, matched := false },
        psfTimeout := false, cmdBits := BitVec.ofNat 3 (psfNum f 16 1) } ∧
      (t.lane i).rd SAFE_PSF_STAT_NOTIME = b2n (decide (s.rd SEC_IF_CFG_PSF_VER = 2 ∧ s.rd TIME_CTRL_SYNC = 0)) ∧
      t.safe.statusSent.length = s.safe.statusSent.length + (if s.active = i then 1 else 0) ∧
      t = { s with laneA := t.laneA, laneB := t.laneB, safe := t.safe }) ∧
  (∀ (i : LaneId) (f : List Byte) (s : State), (s.lane i).rd SAFE_PSF_CFG_PSF_EN = 1 → s.psfSound (s.lane i) f = false →
    ∃ t, exec (.psfCmd (inLane i) f) s = .next t ∧
      exec (.psfLockoutReset (inLane i) f) s = .next t ∧
      (t.lane i).rd SAFE_PSF_STAT_DISCARD = ((s.lane i).rd SAFE_PSF_STAT_DISCARD + 1) % 65536 ∧
      (t.lane i).smon = (s.lane i).smon ∧ t = { s with laneA := t.laneA, laneB := t.laneB }) ∧
  (∀ (i : LaneId) (f : List Byte) (s : State), (s.lane i).rd SAFE_PSF_CFG_PSF_EN = 1 → s.psfSound (s.lane i) f = true →
    psfNum f 1 1 = 2 → (s.lane i).smon.last = none →
    ∃ t, exec (.psfLockoutReset (inLane i) f) s = .next t ∧ (t.lane i).smon = (s.lane i).smon ∧
      (t.lane i).rd SAFE_PSF_STAT_DISCARD = ((s.lane i).rd SAFE_PSF_STAT_DISCARD + 1) % 65536) ∧
  (∀ (i : LaneId) (f : List Byte) (x : PsfLast) (s : State), (s.lane i).rd SAFE_PSF_CFG_PSF_EN = 1 →
    s.psfSound (s.lane i) f = true → psfNum f 1 1 = 2 → s.psfInTime (s.lane i) f = true → (s.lane i).smon.last = some x →
    1 ≤ (BitVec.ofNat 32 (psfNum f 4 4) - x.seq).toNat → (BitVec.ofNat 32 (psfNum f 4 4) - x.seq).toNat ≤ 16 →
    (∀ j, j ≠ i → s.laneLive j = false) → s.laneLive i = true →
    ∃ t, exec (.psfLockoutReset (inLane i) f) s = .next t ∧
      (BitVec.ofNat 32 (psfNum f 16 4) = s.faults.lockTag → t.safe.lockPend = some (BitVec.ofNat 32 (psfNum f 16 4))) ∧
      (BitVec.ofNat 32 (psfNum f 16 4) ≠ s.faults.lockTag → t.safe.lockPend = s.safe.lockPend ∧ t.safe.lockStatus = 0x08)) ∧
  (∀ (i : LaneId) (x : PsfLast) (s : State), (s.lane i).smon.last = some x → x.matched = false →
    exec (.psfMatchWin (inLane i)) s = .next ((s.passTo (x.at_ + 400000 * (s.lane i).rd SAFE_PSF_CFG_MATCH_WIN)).modLane i fun l =>
      (l.bump SAFE_PSF_STAT_SINGLE).modSmon fun m => { m with last := some { x with matched := true } })) ∧
  (∀ (i : LaneId) (x : PsfLast) (s : State), (s.lane i).rd SAFE_PSF_CFG_PSF_EN = 1 → (s.lane i).smon.psfTimeout = false →
    (s.lane i).smon.last = some x →
    ∃ u, u = s.passTo (x.at_ + 400000 * (s.lane i).rd SAFE_PSF_CFG_PSF_WDOG) ∧
      exec (.psfTimeout (inLane i)) s = .next (State.syncDemands (u.modLane i fun l => l.modSmon fun m =>
        { m with psfTimeout := true, last := none, unsetSince := u.now,
                 demands := if m.demands.contains 0x24 then m.demands else 0x24 :: m.demands })))

/-- R289, R290, R292: a test pulse of source n starts n × TP_PER / 4 into each period of TP_PER; a sample of the safety
inputs reaches both lanes 10 µs after the one before and moves their levels, LVL_A and LVL_B; SI_DISC sets the pair's bit and
is a class L instant. R290: outside the windows of its own source a channel's level changes after FILT × 100 µs of agreeing
samples, and a sample that agrees with the level starts the count again. Completion, on conditions on the state and the
operands alone, is stated for: siSample, siDisc, testPulse. -/
def Obligations.SafetyInputsAreSampledFilteredAndTested : Prop := SafetyInputsAreSampledAndTested ∧ SafetyInputFilterCountsAgreeingSamples

/-- R282, R284, R292, R294: what a safety cycle leaves in a lane: the safe speed is the larger magnitude, SLS_OK compares it
with the limit in force, the demands follow, and an output is commanded on while its function permits, no cause holds it off
and it does not await REQ. R271 to R273, R276, R283 to R285, R287, R288: the safety cycle of 250 µs, and the causes and
counts whose time has run: SMON_FAULT after 20 ms, SPD_DISC, SLT_MOT, the minutes of degraded operation, after the last of
which the commit stage stops the SWITCHING threads, and its end. Completion, on conditions on the state and the operands
alone, is stated for: safetyCycle, smonFault, spdDisc, sltMot, degradedMinute, degradedEnd. -/
def Obligations.SafetyCycleDecidesAndItsTimesRunOut : Prop := SafetyCycleDecidesTheFunctions ∧ SafetyTimesRunOut

/-! ### Faults, trips and auxiliary drives -/

/-- R231, R233: every cause writes a journal record and raises FAULT with code and class. Class E and W do no more. Class B
records the cause, sets its thread, or every thread, BLOCKED unless in LOCKOUT; class L puts every configured thread into
LOCKOUT and records the lockout with the Tally as its tag. -/
def Sys2Proof.Claims.FaultCausesTakeEffectByClass : Prop :=
  (∀ (code cls key : Nat) (scope : Scope) (leg : Option Nat) (act : Bool) (s : State), cls = 0 ∨ cls = 3 →
    s.cause code cls scope key leg act = (s.journalAdd 0x02 code 0
      ([BitVec.ofNat 8 code, BitVec.ofNat 8 cls] ++ scope.bytes ++ [BitVec.ofNat 8 (leg.getD 0x3F)])).raise 21 (code + 256 * cls)) ∧
  (∀ (code n key : Nat) (leg : Option Nat) (act : Bool) (s : State), n < 8 → s.present n = true → s.thread n ≠ 4 →
    ∃ t, t = s.cause code 1 (.thread n) key leg act ∧ t.thread n = 3 ∧ t.rd (SLC_THR_FAULT_B_ACTIVE n) = 1 ∧
      (∀ m < 8, m ≠ n → t.thread m = s.thread m) ∧
      (∃ c ∈ t.faults.causes, c.code = code ∧ c.cls = 1 ∧ c.scope = .thread n ∧ c.key = key ∧ c.active = act) ∧
      t.mod.tally = s.mod.tally ∧ t.clock = s.clock ∧ t.grp = s.grp ∧ t.sec = s.sec ∧ (s.rd PWR_STAT_STATE < 2 → t.power = s.power) ∧ t.host = s.host) ∧
  (∀ (code key : Nat) (leg : Option Nat) (act : Bool) (s : State),
    ∃ t, t = s.cause code 1 .module key leg act ∧ t.rd SLC_FAULT_MOD_B_ACTIVE = 1 ∧
      (∀ n < 8, s.present n = true → t.thread n = if s.thread n = 4 then 4 else 3) ∧
      (∃ c ∈ t.faults.causes, c.code = code ∧ c.cls = 1 ∧ c.scope = .module ∧ c.key = key ∧ c.active = act)) ∧
  (∀ (code key : Nat) (scope : Scope) (leg : Option Nat) (act : Bool) (s : State), code < 256 →
    ∃ t, t = s.cause code 2 scope key leg act ∧ t.faults.classL = true ∧
      (∀ n < 8, s.present n = true → t.thread n = 4) ∧
      (s.faults.classL = false → t.rd SLC_LOCKOUT_STAT_ACTIVE = 1 ∧ t.rd SLC_LOCKOUT_STAT_CAUSE = code ∧
        t.faults.lockTag = s.mod.tally.setWidth 32) ∧
      (s.faults.classL = true → t.faults.lockTag = s.faults.lockTag) ∧
      (∀ a ∈ t.aux, a.pins = List.replicate 6 false) ∧ (∀ o ∈ t.field.sos, o.swA = false ∧ o.swB = false))

/-- R235, R236: a cause on a leg blocks its thread with class B, and a DESAT or FAST_CMP on a second leg of the thread within
10 µs of one on another leg is SHOOT_THROUGH, class L. -/
def Sys2Proof.Claims.ShootThroughNeedsTwoLegsWithinTenMicroseconds : Prop :=
  ∀ (code leg key : Nat) (s : State), ∃ u v near, u = s.cause code 1 (.thread (leg / 6)) key (some leg) true ∧
    s.legCause code leg key false = u ∧
    near = (u.faults.shoots.getD (leg / 6) []).filter (fun x => u.now ≤ x.2 + 4000) ∧
    v = { u with faults := { u.faults with shoots := u.faults.shoots.set (leg / 6) ((leg, u.now) :: near) } } ∧
    ((∃ l0 t0, (l0, t0) ∈ u.faults.shoots.getD (leg / 6) [] ∧ l0 ≠ leg ∧ u.now ≤ t0 + 4000) →
      s.legCause code leg key true = v.cause 0x05 2 .module 0 (some leg) false) ∧
    ((∀ l0 t0, (l0, t0) ∈ u.faults.shoots.getD (leg / 6) [] → l0 = leg ∨ t0 + 4000 < u.now) →
      s.legCause code leg key true = v)

/-- R93, R94, R238, R242, R244: trip inputs assert at the level of POL, set LIVE and SEEN and raise TRIP_IN with their class
and threads, and end it with their level; the fast comparators trip outside their window; a cause is gone after 10 ms;
ACK_LOW is set 500 ms after LOCKOUT_ACK_N fell and cleared when it rises. Completion, on conditions on the state and the
operands alone, is stated for: fastCmp, tripInput, causeGone, ackLow, lockoutAckNEdge. -/
def Obligations.TripsFollowTheirInputs : Prop :=
  (∀ (n : Nat) (lv : Bool) (s : State), n < 8 → s.rd (SLC_TRIP_CFG_EN n) = 1 → (lv = true ↔ s.rd (SLC_TRIP_CFG_POL n) = 1) →
    (s.faults.trips.getD n TripIn.reset).live = false →
    ∃ t, exec (.tripInput n lv) s = .next t ∧ t.rd ⟨SLC_TRIP_STAT, 8 + n, 8 + n⟩ = 1 ∧ t.rd ⟨SLC_TRIP_STAT, n, n⟩ = 1 ∧
      t.rd (levelBit (66 + n)) = 1 ∧
      (s.rd (SLC_TRIP_CFG_CLASS n) = 1 → s.rd (SLC_TRIP_CFG_THR_MASK n) = 0 → t.causeActive 0x06 n = true ∧
        t.rd SLC_FAULT_MOD_B_ACTIVE = 1) ∧
      (s.rd (SLC_TRIP_CFG_CLASS n) = 2 → s.rd (SLC_TRIP_CFG_THR_MASK n) = 0 → t.faults.classL = true)) ∧
  (∀ (n : Nat) (lv : Bool) (s : State), n < 8 → (s.rd (SLC_TRIP_CFG_EN n) ≠ 1 ∨ ¬ (lv = true ↔ s.rd (SLC_TRIP_CFG_POL n) = 1)) →
    (s.faults.trips.getD n TripIn.reset).live = true →
    ∃ t, exec (.tripInput n lv) s = .next t ∧ t.rd ⟨SLC_TRIP_STAT, 8 + n, 8 + n⟩ = 0 ∧
      t.rd ⟨SLC_TRIP_STAT, n, n⟩ = s.rd ⟨SLC_TRIP_STAT, n, n⟩ ∧ t.rd (levelBit (66 + n)) = 0 ∧ t.causeActive 0x06 n = false) ∧
  (∀ (i : LaneId) (k : Nat) (v : Int) (s : State), (s.lane s.active).rd (MEAS_FC_EN k) = 1 →
    48 ≤ (s.lane s.active).rd (MEAS_FC_LEG k) → k < (s.lane i).meas.cmps.length → s.causeActive 0x04 k = false →
    fcLevel ((s.lane i).rd (MEAS_FC_HI k)) < v ∨ v < fcLevel ((s.lane i).rd (MEAS_FC_LO k)) →
    ∃ u, u = (s.modLane i fun l => l.modMeas fun m => { m with
        cmps := updAt m.cmps k (fun c => c.step (fcLevel (l.rd (MEAS_FC_LO k))) (fcLevel (l.rd (MEAS_FC_HI k))) v) }) ∧
      exec (.fastCmp (inLane i) k v) s = .next (u.cause 0x04 1 .module k none true)) ∧
  (∀ (c : FastCmp) (lo hi v : Int), (c.step lo hi v).input = v ∧
    ((c.step lo hi v).above = true ↔ hi < v ∨ (c.above = true ∧ hi - 10000 ≤ v)) ∧
    ((c.step lo hi v).below = true ↔ v < lo ∨ (c.below = true ∧ v ≤ lo + 10000)) ∧
    ((c.step lo hi v).hardHi = true ↔ 0 < hi ∧ (min (2 * hi) 2500000 < v ∨ (c.hardHi = true ∧ min (2 * hi) 2500000 - 10000 < v))) ∧
    ((c.step lo hi v).hardLo = true ↔ lo < 0 ∧ (v < max (2 * lo) (-2500000) ∨ (c.hardLo = true ∧ v < max (2 * lo) (-2500000) + 10000)))) ∧
  (∀ (s : State), s.goneTimes = [] → exec .causeGone s = .next s.updCauseBits) ∧
  (∀ (t : Nat) (ts : List Nat) (s : State), s.goneTimes = t :: ts →
    exec .causeGone s = .next (s.passTo (ts.foldl min t)).updCauseBits) ∧
  (∀ (s : State), exec (.lockoutAckNEdge true) s = .next { s with
    regs := s.regs.wr SLC_LOCKOUT_STAT_ACK_LOW 0, faults := { s.faults with ackLevel := true, ackLowSince := none } }) ∧
  (∀ (s : State), exec (.lockoutAckNEdge false) s = .next { s with
    faults := { s.faults with ackLevel := false, ackLowSince := some (s.faults.ackLowSince.getD s.now) } }) ∧
  (∀ (t0 : Nat) (s : State), s.faults.ackLowSince = some t0 →
    exec .ackLow s = .next ((s.passTo (t0 + 200000000)).wr SLC_LOCKOUT_STAT_ACK_LOW 1)) ∧
  (∀ (s : State), s.faults.ackLowSince = none → exec .ackLow s = .next s)

/-- R212 to R216: auxiliary drives. A valid Hall code drives the pattern of its step and ends a trip's pause; codes 0 and 7
turn the pins low with HALL_ERR; the precharge ends in the pattern of the present code; a chopping period starts the high
pin's on-part; a shunt voltage above a level, outside the blanking for the LO level, turns the pins low and counts, the
eighth in a row latching AUX_OC; a stall turns the pins low with STALL. Completion, on conditions on the state and the
operands alone, is stated for: hallChange, auxShuntTrip, auxStall, auxPrechargeEnd, choppingPeriod. -/
def Obligations.AuxiliaryDrivesCommutateAndTrip : Prop :=
  (∀ (n : Nat) (code : BitVec 3) (s : State), n < 4 →
    hallStep (if s.rd (AUX_CH_CFG_HINV n) = 1 then 7 - code.toNat else code.toNat) = none →
    ∃ t, exec (.hallChange n code) s = .next t ∧ t.rd (AUX_CH_STAT_HALL n) = code.toNat ∧ t.rd (AUX_CH_STAT_HALL_ERR n) = 1 ∧
      t.aux = updAt s.aux n (fun a => { a.pinsLow s.now with precharge := a.precharge }) ∧
      t = { s with regs := t.regs, eic := t.eic, laneA := t.laneA, laneB := t.laneB, journal := t.journal, aux := t.aux }) ∧
  (∀ (n k : Nat) (code : BitVec 3) (s : State), n < 4 →
    hallStep (if s.rd (AUX_CH_CFG_HINV n) = 1 then 7 - code.toNat else code.toNat) = some k →
    ∃ u, u = { s with
        regs := (if (s.auxCh n).cleanStep then (s.regs.wr (AUX_CH_STAT_HALL n) code.toNat).wr (AUX_CH_STAT_TRIP_CONSEC n) 0
          else s.regs.wr (AUX_CH_STAT_HALL n) code.toNat),
        aux := updAt s.aux n fun a => { a with hallAt := s.now, tripped := false, cleanStep := true } } ∧
      exec (.hallChange n code) s = .next (if u.auxDrives n then u.drive n else u)) ∧
  (∀ (n t0 : Nat) (s : State), (s.auxCh n).precharge = some t0 →
    ∃ u, u = (s.passTo t0).modAux n (fun a => { a with precharge := none }) ∧
      exec (.auxPrechargeEnd n) s = .next (if u.auxDrives n then u.drive n else u)) ∧
  (∀ (n on : Nat) (s u : State), u = ((s.auxCh n).perAt.elim s fun t => s.passTo (t + s.rd (AUX_CH_PWM_PER n))) →
    on = u.rd (AUX_CH_PWM_DUTY n) * u.rd (AUX_CH_PWM_PER n) / 65536 →
    (u.auxDrives n = true → u.rd (AUX_CH_CFG_MODE n) = 1 →
      ∃ a b, a = { u.auxCh n with perAt := some u.now, chopEnd := (if u.rd (AUX_CH_CFG_AUX_DT n) ≤ on then some (u.now + on) else none) } ∧
        b = a.driven u.now ∧ exec (.choppingPeriod n) s = .next { u with
          aux := u.aux.set n { b with edgeAt := if b.pins = (u.auxCh n).pins then b.edgeAt else u.now } }) ∧
    (u.auxDrives n = false ∨ u.rd (AUX_CH_CFG_MODE n) ≠ 1 → exec (.choppingPeriod n) s = .next u)) ∧
  (∀ (n uv : Nat) (s : State), (s.auxRuns n = false ∨ uv ≤ 4000 * s.rd (AUX_CH_ISNS_HARD n) ∧
      (uv ≤ 4000 * s.rd (AUX_CH_ISNS_LO n) ∨ s.now < (s.auxCh n).edgeAt + 40 * s.rd (AUX_CH_CFG_BLANK n))) →
    exec (.auxShuntTrip n uv) s = .next s) ∧
  (∀ (n uv : Nat) (s : State), n < 4 → s.auxRuns n = true → s.rd (AUX_CH_STAT_TRIP_CONSEC n) < 7 →
    (4000 * s.rd (AUX_CH_ISNS_HARD n) < uv ∨
      4000 * s.rd (AUX_CH_ISNS_LO n) < uv ∧ (s.auxCh n).edgeAt + 40 * s.rd (AUX_CH_CFG_BLANK n) ≤ s.now) →
    (∀ m < 4, m ≠ n → (s.auxCh m).tripAt = none) →
    exec (.auxShuntTrip n uv) s = .next (((s.modAux n fun a => { a.pinsLow s.now with
      tripped := true, cleanStep := false, tripAt := some s.now }).bump (AUX_CH_STAT_TRIPS n)).wr
        (AUX_CH_STAT_TRIP_CONSEC n) (s.rd (AUX_CH_STAT_TRIP_CONSEC n) + 1))) ∧
  (∀ (n uv : Nat) (s : State), n < 4 → s.auxRuns n = true → s.rd (AUX_CH_STAT_TRIP_CONSEC n) = 7 →
    (4000 * s.rd (AUX_CH_ISNS_HARD n) < uv ∨
      4000 * s.rd (AUX_CH_ISNS_LO n) < uv ∧ (s.auxCh n).edgeAt + 40 * s.rd (AUX_CH_CFG_BLANK n) ≤ s.now) →
    ∃ t, exec (.auxShuntTrip n uv) s = .next t ∧ t.rd (AUX_CH_STAT_OC n) = 1 ∧ t.rd (AUX_CH_STAT_TRIP_CONSEC n) = 8 ∧
      ∃ c ∈ t.faults.causes, c.code = 0x11 ∧ c.scope = .aux n) ∧
  (∀ (n : Nat) (s : State), n < 4 → s.rd (AUX_CH_CTRL_RUN n) = 1 → (s.auxCh n).stalled = false →
    ∃ u t, u = s.passTo ((s.auxCh n).hallAt + 400000 * s.rd (AUX_CH_TIME_STALL_T n)) ∧ exec (.auxStall n) s = .next t ∧
      t.rd (AUX_CH_STAT_STALL n) = 1 ∧ t.aux = updAt u.aux n (fun a => { a.pinsLow u.now with stalled := true }) ∧
      t = { u with regs := t.regs, eic := t.eic, laneA := t.laneA, laneB := t.laneB, journal := t.journal, aux := t.aux })

/-- R223: the roll of the 1 ms window, 400,000 ticks after it began. The oldest window leaves the 100 that count; SLC_THR_WIN_SUM shows the new sum of every
thread; a sum above ENV_CORR_MAX raises ENV_CORR on its thread, and one that is not above it ends the cause. -/
def Sys2Proof.Claims.CorrectionWindowsRoll : Prop :=
  ∀ s : State, ∃ p u v : State, p = s.passTo (s.faults.winAt + 400000) ∧
    u = { p with faults := { p.faults with win := (p.faults.win.map fun w => 0 :: w.take 99), winAt := s.faults.winAt + 400000 } } ∧
    v = { u with regs := v.regs } ∧
    (∀ t, t < 8 → v.rd (SLC_THR_WIN_SUM t) = min 65535 ((u.faults.win.getD t []).foldl (· + ·) 0)) ∧
    regsBut u.regs v.regs ((List.range 8).map fun t => (SLC_THR_WIN_SUM t).off) ∧
    exec .corrWindowRoll s = .next ((List.range 8).foldl (fun x t =>
      if v.rd SLC_ENV_CORR_ENV_CORR_MAX < (v.faults.win.getD t []).foldl (· + ·) 0 then
        if x.causeActive 0x08 t then x else x.cause 0x08 1 (.thread t) t none true
      else x.causeEnd 0x08 t) v)

/-- R231, R233: every cause writes a journal record and raises FAULT with code and class. Class E and W do no more. Class B
records the cause, sets its thread, or every thread, BLOCKED unless in LOCKOUT; class L puts every configured thread into
LOCKOUT and records the lockout with the Tally as its tag. R235, R236: a cause on a leg blocks its thread with class B, and a
DESAT or FAST_CMP on a second leg of the thread within 10 µs of one on another leg is SHOOT_THROUGH, class L. R223: the roll
of the 1 ms window, 400,000 ticks after it began. The oldest window leaves the 100 that count; SLC_THR_WIN_SUM shows the new
sum of every thread; a sum above ENV_CORR_MAX raises ENV_CORR on its thread, and one that is not above it ends the cause.
Completion, on conditions on the state and the operands alone, is stated for: corrWindowRoll. -/
def Obligations.FaultCausesShootThroughAndCorrections : Prop := FaultCausesTakeEffectByClass ∧ ShootThroughNeedsTwoLegsWithinTenMicroseconds ∧ CorrectionWindowsRoll

/-! ### Gate links -/

/-- R199, R204, R208: the negotiation of a link: 1 ms of idle, then a HELLO_REQ every 100 µs; a HELLO with a common version and the
switch count of the leg leads to CONFIG and the delay measurement, and otherwise to FAIL; one with a bad CRC or length is counted and
discarded; a retraining link whose driver answers as before is UP again; without a HELLO for 2 ms a
two-level leg that allows it runs GL/1, and any other link fails. -/
def Sys2Proof.Claims.GateLinksNegotiate : Prop :=
  (∀ (n : Nat) (s : State), s.rd (GL_LINK_STAT_STATE n) = 1 → (s.link n).phase = 0 →
    ∃ u, u = s.passTo ((s.link n).since + 400000) ∧
      exec (.negotiationIdleEnd n) s = .next ((u.modLink n fun l => { l with phase := 1, since := u.now }).sendHelloReq n)) ∧
  (∀ (n : Nat) (s : State), s.rd (GL_LINK_STAT_STATE n) = 1 → (s.link n).phase = 1 → (s.link n).reqs < 20 →
    exec (.helloReqResend n) s = .next ((s.passTo ((s.link n).since + 40000 * (s.link n).reqs)).sendHelloReq n)) ∧
  (∀ (n sw : Nat) (hi lo type : BitVec 16) (s : State), s.rd (GL_LINK_STAT_STATE n) = 1 → (s.link n).phase = 1 →
    (s.link n).retrain = false →
    ∃ u, u = s.modLink n (fun l => { l with hello := some { hi := hi, lo := lo, sw := sw, type := type } }) ∧
      (commonVer hi lo = none → exec (.glHello ⟨n, true⟩ hi lo sw type) s = .next (u.linkFail n 2)) ∧
      (∀ v, commonVer hi lo = some v → sw ≠ swCount (s.legType n) → exec (.glHello ⟨n, true⟩ hi lo sw type) s = .next (u.linkFail n 3)) ∧
      (∀ v, commonVer hi lo = some v → sw = swCount (s.legType n) →
        exec (.glHello ⟨n, true⟩ hi lo sw type) s = .next
          (((((u.wr (GL_LINK_STAT_VER n) (v / 256 * 16 + v % 16)).wr (GL_LINK_STAT_SW_CNT n) sw).modLink n fun l =>
            { l with phase := 2, pings := [] }).glSend n 0x02 ([v / 256, v % 256, sw, 10].map (BitVec.ofNat 8))).sendSync n))) ∧
  (∀ (n sw : Nat) (hi lo type : BitVec 16) (s : State), s.rd (GL_LINK_STAT_STATE n) = 1 ∨ s.rd (GL_LINK_STAT_STATE n) = 3 →
    exec (.glHello ⟨n, false⟩ hi lo sw type) s = .next (s.bump (GL_LINK_ERR_CRC_ERR n))) ∧
  (∀ (n sw : Nat) (hi lo type : BitVec 16) (h : Hello) (s : State), s.rd (GL_LINK_STAT_STATE n) = 1 → (s.link n).phase = 1 →
    (s.link n).retrain = true → (s.link n).hello = some h →
    (h.hi = hi → h.lo = lo → h.sw = sw → exec (.glHello ⟨n, true⟩ hi lo sw type) s = .next
      (((s.modLink n fun l => { l with retrain := false, tlmAt := s.now }).sendConfig n
        (s.rd (GL_LINK_STAT_VER n) / 16 * 256 + s.rd (GL_LINK_STAT_VER n) % 16) sw).setLink n 3)) ∧
    (h.hi ≠ hi ∨ h.lo ≠ lo → ∃ u, u = s.modLink n (fun l => { l with hello := some { hi := hi, lo := lo, sw := sw, type := type } }) ∧
      exec (.glHello ⟨n, true⟩ hi lo sw type) s = .next (u.linkFail n 2))) ∧
  (∀ (n : Nat) (s : State), s.rd (GL_LINK_STAT_STATE n) = 1 → (s.link n).phase = 1 →
    ∃ u, u = s.passTo ((s.link n).since + 800000) ∧
      ((s.link n).retrain = true ∨ u.rd (GL_LINK_CFG_ALLOW_GL1 n) ≠ 1 → exec (.helloTimeout n) s = .next (u.linkFail n 1)) ∧
      ((s.link n).retrain = false → u.rd (GL_LINK_CFG_ALLOW_GL1 n) = 1 → u.legType n ≠ 0 →
        exec (.helloTimeout n) s = .next (u.linkFail n 4)) ∧
      ((s.link n).retrain = false → u.rd (GL_LINK_CFG_ALLOW_GL1 n) = 1 → u.legType n = 0 →
        exec (.helloTimeout n) s = .next (u.linkUp n 2 (u.rd (GL_LINK_CFG_GL1_DELAY n))))) ∧
  (∀ (n rt : Nat) (s : State), s.rd (GL_LINK_STAT_STATE n) = 1 → (s.link n).phase = 2 →
    exec (.glEcho n rt) s = .next (s.modLink n fun l => { l with pings := (l.pings ++ [rt]).take 64 })) ∧
  (∀ (n : Nat) (s : State), s.rd (GL_LINK_STAT_STATE n) = 1 → (s.link n).phase = 2 →
    ((s.link n).pings = [] → exec (.delayMeasured n) s = .next (s.linkFail n 5)) ∧
    ((s.link n).pings ≠ [] → exec (.delayMeasured n) s = .next (s.linkUp n 3 (pingDelay (s.link n).pings))))

/-- R199: the version applied is the highest common to the driver's range and 2.0 to 2.1, and none where they have none in
common. -/
def Sys2Proof.Claims.HighestCommonVersionIsApplied : Prop :=
  ∀ (hi lo : BitVec 16),
    (∀ v, commonVer hi lo = some v → lo.toNat ≤ v ∧ v ≤ hi.toNat ∧ 0x0200 ≤ v ∧ v ≤ 0x0201 ∧
      ∀ w, lo.toNat ≤ w → w ≤ hi.toNat → 0x0200 ≤ w → w ≤ 0x0201 → w ≤ v) ∧
    (commonVer hi lo = none → ∀ w, ¬ (lo.toNat ≤ w ∧ w ≤ hi.toNat ∧ 0x0200 ≤ w ∧ w ≤ 0x0201))

/-- R202, R203: the latency is the least multiple of 40 ticks that covers the delay and 200 ns; a link comes up only where its
delay is at most 2 µs and fits the latency in force or every thread is OFF, and fails with DELAY otherwise. -/
def Sys2Proof.Claims.GateLinkDelayDecidesTheLatency : Prop :=
  (∀ d : Nat, (d + 2560) * 40 ≤ latOf d * 1280 ∧ latOf d % 40 = 0 ∧ latOf d * 1280 < (d + 2560) * 40 + 40 * 1280) ∧
  (∀ (n st d : Nat) (s : State), 25600 < d ∨ (s.allOff = false ∧ s.rd GL_ALIGN_LAT < latOf d) →
    s.linkUp n st d = s.linkFail n 5) ∧
  (∀ (n st d : Nat) (s : State), n < 48 → st = 2 ∨ st = 3 → d ≤ 25600 → (s.allOff = true ∨ latOf d ≤ s.rd GL_ALIGN_LAT) →
    ∃ t, t = s.linkUp n st d ∧ t.rd (GL_LINK_STAT_STATE n) = st ∧ t.rd (GL_LINK_DELAY_D_USED n) = d ∧
      t.rd (GL_LINK_DELAY_D_NOW n) = d ∧ (s.allOff = true → 200 ≤ t.rd GL_ALIGN_LAT ∧ t.rd GL_ALIGN_LAT % 40 = 0) ∧
      (s.allOff = false → t.rd GL_ALIGN_LAT = s.rd GL_ALIGN_LAT) ∧
      t = { s with regs := t.regs, eic := t.eic, laneA := t.laneA, laneB := t.laneB, gl := t.gl })

/-- R202, R205, R208, R209, R211: a running link: pings move D_NOW and set DRIFT beyond 2 ns, SYNC goes out, valid telemetry
is stored and a bad one counted, three missing telemetry frames and a loss of alignment raise GL_LINK_LOSS, valid characters
lead back to idle, and fault triples whose halves agree raise their cause and are acknowledged. Completion, on conditions on
the state and the operands alone, is stated for: pingPeriodic, glSyncSend, glTlm, tlmTimeout, alignmentLoss,
charactersReturn, glFault, gl1Fault. -/
def Obligations.RunningGateLinksReport : Prop :=
  (∀ (n rt : Nat) (s : State), n < 48 → s.rd (GL_LINK_STAT_STATE n) = 3 →
    ∃ ps, ps = (((s.link n).pings ++ [rt]).drop (((s.link n).pings ++ [rt]).length - 64)) ∧
    ∃ u, u = (s.modLink n fun l => { l with pings := ps }).wr (GL_LINK_DELAY_D_NOW n) (pingDelay ps) ∧
      (s.rd (GL_LINK_STAT_DRIFT n) = 1 → exec (.pingPeriodic n rt) s = .next u) ∧
      (u.rd (GL_LINK_DELAY_D_NOW n) ≤ u.rd (GL_LINK_DELAY_D_USED n) + 25 →
        u.rd (GL_LINK_DELAY_D_USED n) ≤ u.rd (GL_LINK_DELAY_D_NOW n) + 25 → exec (.pingPeriodic n rt) s = .next u) ∧
      (s.rd (GL_LINK_STAT_DRIFT n) = 0 → u.rd (GL_LINK_DELAY_D_USED n) + 25 < u.rd (GL_LINK_DELAY_D_NOW n) →
        exec (.pingPeriodic n rt) s = .next
          ((u.wr (GL_LINK_STAT_DRIFT n) 1).cause 0x41 3 (.link n) n (some n) true))) ∧
  (∀ (n : Nat) (s : State), s.rd (GL_LINK_STAT_STATE n) = 3 → exec (.glSyncSend n) s = .next
    (s.glSend n 0x10 (leBytes 4 (s.now + s.rd (GL_LINK_DELAY_D_USED n) / 32)))) ∧
  (∀ (n : Nat) (bytes : List Byte) (s : State), s.rd (GL_LINK_STAT_STATE n) = 1 ∨ s.rd (GL_LINK_STAT_STATE n) = 3 →
    exec (.glTlm n false bytes) s = .next (s.bump (GL_LINK_ERR_CRC_ERR n))) ∧
  (∀ (n : Nat) (bytes : List Byte) (s : State), n < 48 → s.rd (GL_LINK_STAT_STATE n) = 3 → bytes.length = 16 →
    bytes.getD 0 0 = 0 → bytes.getD 1 0 = 0 →
    ∃ t, exec (.glTlm n true bytes) s = .next t ∧ t.rd (GL_LINK_TLM0_TLM0 n) = ofLe (bytes.take 4) ∧
      t.rd (GL_LINK_TLM1_LATE_CNT n) = (if (bytes.getD 2 0).getLsbD 0 then (s.rd (GL_LINK_TLM1_LATE_CNT n) + 1) % 65536
        else s.rd (GL_LINK_TLM1_LATE_CNT n)) ∧
      t.causeActive 0x0C n = false ∧ t.gl.sent = s.gl.sent ∧
      t = { s with regs := t.regs, faults := t.faults, gl := t.gl }) ∧
  (∀ (n : Nat) (s : State), s.rd (GL_LINK_STAT_STATE n) = 3 →
    exec (.tlmTimeout n) s = .next (State.linkLoss
      (s.passTo ((s.link n).tlmAt + 3 * (if s.rd PWR_STAT_STATE = 2 then 400000 else 4000))) n)) ∧
  (∀ (n : Nat) (s : State), s.rd (GL_LINK_STAT_STATE n) = 3 →
    exec (.alignmentLoss n) s = .next (((s.modLink n fun l =>
      { l with phase := 3, retrain := true, reqs := 0, since := s.now }).setLink n 1).linkLoss n)) ∧
  (∀ (n : Nat) (s : State), s.rd (GL_LINK_STAT_STATE n) = 1 → (s.link n).phase = 3 →
    exec (.charactersReturn n) s = .next (s.modLink n fun l => { l with phase := 0, reqs := 0, since := s.now })) ∧
  (∀ (n : Nat) (d c : Byte) (f : Bool) (s : State), s.rd (GL_LINK_STAT_STATE n) = 3 → c ≠ ~~~d →
    exec (.glFault n d c f) s = .next (if f then s.bump (GL_LINK_ERR_ABORT n) else s)) ∧
  (∀ (n : Nat) (d : Byte) (f : Bool) (s : State), s.rd (GL_LINK_STAT_STATE n) = 3 → s.causeActive (faultCode d) n = false →
    faultCode d ∉ (s.link n).faultActive →
    ∃ u, u = (if f then s.bump (GL_LINK_ERR_ABORT n) else s) ∧
      exec (.glFault n d (~~~d) f) s = .next
        (((u.legCause (faultCode d) n n (faultCode d = 1)).glSend n 0x12 [d &&& 0x3F]).causeEnd (faultCode d) n)) ∧
  (∀ (n : Nat) (s : State), s.rd (GL_LINK_STAT_STATE n) = 2 →
    (s.causeActive 0x01 n = false → exec (.gl1Fault n true) s = .next (s.legCause 0x01 n n true)) ∧
    exec (.gl1Fault n false) s = .next (s.causeEnd 0x01 n)) ∧
  (∀ (n : Nat) (s : State), s.causeActive 0x0C n = false →
    s.linkLoss n = s.cause 0x0C 1 (.thread (n / 6)) n (some n) true)

/-- R199, R204, R208: the negotiation of a link: 1 ms of idle, then a HELLO_REQ every 100 µs; a HELLO with a common version
and the switch count of the leg leads to CONFIG and the delay measurement, and otherwise to FAIL; one with a bad CRC or
length is counted and discarded; a retraining link whose driver answers as before is UP again; without a HELLO for 2 ms a
two-level leg that allows it runs GL/1, and any other link fails. R199: the version applied is the highest common to the
driver's range and 2.0 to 2.1, and none where they have none in common. R202, R203: the latency is the least multiple of 40
ticks that covers the delay and 200 ns; a link comes up only where its delay is at most 2 µs and fits the latency in force or
every thread is OFF, and fails with DELAY otherwise. Completion, on conditions on the state and the operands alone, is stated
for: negotiationIdleEnd, helloReqResend, glHello, helloTimeout, glEcho, delayMeasured. -/
def Obligations.GateLinksNegotiateVersionAndDelay : Prop := GateLinksNegotiate ∧ HighestCommonVersionIsApplied ∧ GateLinkDelayDecidesTheLatency

/-! ### Groups -/

/-- R414, R415, R420: announcements: the module sends its own where it is of a group or forms one; its own ID from another excludes it while the group forms; the
last member expected, or WAIT, lets the roles be taken; a loop that does not lock excludes the follower. -/
def Sys2Proof.Claims.GroupsForm : Prop :=
  (∀ (a : Announce) (s : State), a.atLocal = true → s.grp.forming = true ∨ s.rd GRP_STAT_ROLE = 1 ∨ s.rd GRP_STAT_ROLE = 2 →
    ∃ u, u = { s with grp := { s.grp with
        sent := .announce s.grpId s.ownAnnounce.n s.ownAnnounce.frameSrc s.mod.tally :: s.grp.sent,
        annAt := s.grp.annAt.set s.grpId s.now, announced := true, since := (if s.grp.announced then s.grp.since else s.now) } } ∧
      exec (.announce a) s = .next (if u.grp.forming && u.grpRole = 0 && u.allAnnounced then u.elect else u)) ∧
  (∀ (a : Announce) (s : State), a.atLocal = true → s.grp.forming = false → s.rd GRP_STAT_ROLE = 0 ∨ s.rd GRP_STAT_ROLE = 3 →
    exec (.announce a) s = .next s) ∧
  (∀ (a : Announce) (s : State), a.atLocal = false → a.id = s.rd GRP_STAT_ID → s.grp.forming = true →
    ∃ t, exec (.announce a) s = .next t ∧ t.rd GRP_STAT_ROLE = 3 ∧ t.rd GRP_STAT_CAUSE = 1 ∧ t.rd GRP_STAT_ACTIVE = 0 ∧
      t.grp.forming = false ∧
      t = { s with regs := t.regs, eic := t.eic, laneA := t.laneA, laneB := t.laneB, journal := t.journal, grp := t.grp }) ∧
  (∀ (a : Announce) (s : State), a.atLocal = false → a.id ≠ s.rd GRP_STAT_ID →
    ∃ u, u = { s with grp := { s.grp with annAt := s.grp.annAt.set a.id s.now, members := placeMember a s.grp.members } } ∧
      exec (.announce a) s = .next (if u.grp.forming && u.grpRole = 0 && u.allAnnounced then u.elect else u)) ∧
  (∀ (s : State), s.grp.forming = true → s.grp.announced = true → s.rd GRP_STAT_ROLE = 0 →
    exec .groupWaitExpiry s = .next (s.passTo (s.grp.since + 400000 * s.rd GRP_CFG_WAIT)).elect) ∧
  (∀ (s : State), s.grp.forming = true → s.rd GRP_STAT_ROLE = 2 → s.rd CLK_STAT_FLL_LOCK ≠ 1 →
    ∃ t, exec .fllLockTimeout s = .next t ∧ t.rd GRP_STAT_ROLE = 3 ∧ t.rd GRP_STAT_CAUSE = 4 ∧ t.grp.forming = false)

/-- R414: of the members announced, the lowest ID with LEADER_EN leads; without one every member runs alone; a member whose N
or FRAME_SRC differs from the leader's is excluded. -/
def Sys2Proof.Claims.TheLowestIdWithLeaderEnLeads : Prop :=
  (∀ (s : State), (∀ a ∈ s.grp.members, a.leaderEn = false) → s.rd GRP_CFG_LEADER_EN ≠ 1 →
    s.elect.rd GRP_STAT_ROLE = 0 ∧ s.elect.grp.forming = false) ∧
  (∀ (s : State) (l : Announce), (placeMember s.ownAnnounce s.grp.members).Pairwise (fun a b => a.id < b.id) →
    l ∈ placeMember s.ownAnnounce s.grp.members → l.leaderEn = true →
    (∀ a ∈ placeMember s.ownAnnounce s.grp.members, a.leaderEn = true → l.id ≤ a.id) →
    (s.ownAnnounce.n ≠ l.n ∨ s.ownAnnounce.frameSrc ≠ l.frameSrc →
      s.elect.rd GRP_STAT_ROLE = 3 ∧ s.elect.rd GRP_STAT_CAUSE = 2 ∧ s.elect.grp.forming = false) ∧
    (l.id = s.ownAnnounce.id → l.id < 8 → s.elect.rd GRP_STAT_ROLE = 1 ∧ s.elect.rd GRP_STAT_LEADER_ID = l.id))

/-- R43, R172, R384, R416, R419: delays are measured with PING and ECHO, the mean of 64 going to GRP_DLY; the leader's TALLY,
with the largest Tally of the members moved on to the next multiple of 2^32, BOUNDARY and START frames set what comes into
force at a boundary; a trigger pulse reaches the recorder less the delay to its sender. Completion, on conditions on the
state and the operands alone, is stated for: grpPing, grpEcho, grpDelays, grpTally, grpBoundary, grpStart, grpTrig. -/
def Obligations.GroupFramesCarryDelaysTallyAndBoundaries : Prop :=
  (∀ (k : Nat) (s : State), s.rd GRP_STAT_ROLE = 1 ∨ s.rd GRP_STAT_ROLE = 2 → k ≠ s.rd GRP_STAT_ID →
    exec (.grpPing k) s = .next ((s.pass (400 * (s.rd GRP_STAT_ID + 1))).grpSend (.echo (s.rd GRP_STAT_ID)))) ∧
  (∀ (s : State), s.rd GRP_STAT_ROLE = 1 ∨ s.rd GRP_STAT_ROLE = 2 → exec (.grpPing (s.rd GRP_STAT_ID)) s = .next (s.grpSend (.ping (s.rd GRP_STAT_ID)))) ∧
  (∀ (k rt : Nat) (s : State), ((s.grp.pings.filter fun (x : Nat × Int) => x.1 = k).map Prod.snd).length < 63 →
    exec (.grpEcho k rt) s = .next { s with grp := { s.grp with
      pings := ((k, (rt : Int) - 12800 * (k + 1 : Nat)) :: s.grp.pings) } }) ∧
  (∀ (k rt : Nat) (s : State), k < 8 → ((s.grp.pings.filter fun (x : Nat × Int) => x.1 = k).map Prod.snd).length = 63 →
    ∃ t, exec (.grpEcho k rt) s = .next t ∧ t.rd (GRP_DLY_VALID k) = 1 ∧
      t.rd (GRP_DLY_DLY k) = (((((rt : Int) - 12800 * (k + 1 : Nat)) :: (s.grp.pings.filter fun (x : Nat × Int) => x.1 = k).map Prod.snd).foldl
        (· + ·) 0 + 64) / 128).toNat % 65536 ∧
      t = { s with regs := t.regs, grp := t.grp } ∧ t.grp.pings = s.grp.pings.filter fun x => x.1 ≠ k) ∧
  (∀ (k : Nat) (d : List Nat) (s : State), exec (.grpDelays k d) s = .next
    { s with grp := { s.grp with table := s.grp.table.set k d } }) ∧
  (∀ (c b : BitVec 64) (s : State), s.rd GRP_STAT_ROLE = 2 →
    exec (.grpTally c b) s = .next { s with grp := { s.grp with startAt := some (c, b) } }) ∧
  (∀ (c b : BitVec 64) (s : State), s.rd GRP_STAT_ROLE = 1 →
    exec (.grpTally c b) s = .next { s with grp := { s.grp with
      startAt := some (s.commonTally, b), sent := .tally s.commonTally b :: s.grp.sent } }) ∧
  (∀ s : State, ∃ top : DWord, s.commonTally = ((top >>> 32) + 1) <<< 32 ∧ s.mod.tally ≤ top ∧
    (∀ a ∈ s.grp.members, s.rd GRP_STAT_ACTIVE / 2 ^ a.id % 2 = 1 → a.tally ≤ top) ∧
    (top = s.mod.tally ∨ ∃ a ∈ s.grp.members, s.rd GRP_STAT_ACTIVE / 2 ^ a.id % 2 = 1 ∧ a.tally = top)) ∧
  (∀ (x : Byte) (ang inc : Word) (s : State), s.rd GRP_STAT_ROLE = 2 →
    ∃ (d : Int) (t : State), exec (.grpBoundary x ang inc) s = .next t ∧ t.grp.leaderInc = some inc ∧
      t.grp.lastBoundary = s.mod.tally ∧
      (let d0 := (s.now : Int) - 160 - s.dlyTicks (s.rd GRP_STAT_LEADER_ID) - ((s.lane s.lead).asc.frameTick : Int)
       let len := max 1 ((s.lane s.lead).rd ASC_FRAME_LEN_LAST_LEN : Int)
       d = if len < 2 * d0 then d0 - len else d0) ∧
      (d.natAbs ≤ 4 → t.grp.adjust = (if d = 0 then none else some d) ∧ t.grp.load = none) ∧
      (4 < d.natAbs → t.grp.adjust = none ∧ t.grp.load = some ang) ∧
      t = { s with regs := t.regs, eic := t.eic, laneA := t.laneA, laneB := t.laneB, journal := t.journal, grp := t.grp }) ∧
  (∀ (u : BitVec 4) (at_ : BitVec 64) (s : State), s.rd GRP_STAT_ROLE = 2 →
    exec (.grpStart u at_) s = .next (s.bothLanes fun l =>
      { l with traj := l.traj.mapIdx fun k x => if u.getLsbD k then { x with groupStart := x.groupStart ++ [at_] } else x })) ∧
  (∀ (k : Nat) (s : State), s.rd GRP_STAT_ROLE = 1 ∨ s.rd GRP_STAT_ROLE = 2 → 0x20 ≤ s.rd GRP_STAT_VER →
    k ≠ s.rd GRP_STAT_ID → s.laneA.rd REC_CFG_GRP_IN = 1 → s.laneA.recSt ≠ 2 → s.laneB.rd REC_CFG_GRP_IN ≠ 1 →
    exec (.grpTrig k) s = .next (s.modLane .a fun l => l.bumpSat REC_STAT_GRP_IGNORED)) ∧
  (∀ (k : Nat) (s : State), s.rd GRP_STAT_ROLE = 1 ∨ s.rd GRP_STAT_ROLE = 2 → 0x20 ≤ s.rd GRP_STAT_VER →
    k ≠ s.rd GRP_STAT_ID → s.laneA.rd REC_CFG_GRP_IN = 1 → s.laneA.recSt = 2 → s.laneB.rd REC_CFG_GRP_IN ≠ 1 →
    s.laneA.rec_.armedAt + 4000 * s.laneA.rd REC_WIN_PRE + s.dlyTicks k ≤ s.now → s.dlyTicks k ≤ s.frameOff .a →
    ∃ p : TrigPoint, p.frac = 0 ∧ p.past = false ∧ p.tick = s.now - s.dlyTicks k ∧ p.tally = s.mod.tally ∧
      p.off = s.frameOff .a - s.dlyTicks k ∧ exec (.grpTrig k) s = .next (s.recTake .a 16 p))

/-- R420: a follower without GRP_CLK, or without a BOUNDARY for three frames, runs alone with GRP code 0x3; the leader drops a
member not heard for 3 ms with code 0x2 and its ID. -/
def Sys2Proof.Claims.MembersLeaveTheGroup : Prop :=
  (∀ (s : State), s.rd GRP_STAT_ROLE = 2 →
    ∃ t, exec .grpClkAbsent s = .next t ∧ t.rd GRP_STAT_ROLE = 0 ∧ t.rd CLK_STAT_FLL_LOCK = 0 ∧ t.rd GRP_STAT_ACTIVE = 0 ∧
      t.rd (EIC_SRC_LOG_DATA 60) = 3 + 256 * s.rd GRP_STAT_LEADER_ID ∧ t.regs.get CLK_NDIV = s.regs.get CLK_NDIV ∧
      t.grp = { s.grp with forming := false, left := true, leaderInc := none, adjust := none, load := none, startAt := none } ∧
      t = { s with regs := t.regs, eic := t.eic, laneA := t.laneA, laneB := t.laneB, journal := t.journal, grp := t.grp }) ∧
  (∀ (s : State), s.rd GRP_STAT_ROLE ≠ 2 → exec .grpClkAbsent s = .next s ∧ exec .boundaryMissing s = .next s) ∧
  (∀ (s : State), s.rd GRP_STAT_ROLE = 2 → s.grp.forming = false → 3 ≤ (s.mod.tally - s.grp.lastBoundary).toNat →
    ∃ t, exec .boundaryMissing s = .next t ∧ exec .grpClkAbsent s = .next t) ∧
  (∀ (k : Nat) (s : State), s.rd GRP_STAT_ROLE = 1 → k ≠ s.rd GRP_STAT_ID → k < 8 → s.rd ⟨GRP_STAT, 8 + k, 8 + k⟩ = 1 →
    ∃ u t, u = s.passTo (s.grp.annAt.getD k 0 + 1200000) ∧ exec (.memberLost k) s = .next t ∧
      t.rd ⟨GRP_STAT, 8 + k, 8 + k⟩ = 0 ∧ t.rd (EIC_SRC_LOG_DATA 60) = 2 + 256 * k ∧
      t = { u with regs := t.regs, eic := t.eic, laneA := t.laneA, laneB := t.laneB, journal := t.journal })

/-- R414, R415, R420: announcements: the module sends its own where it is of a group or forms one; its own ID from another
excludes it while the group forms; the last member expected, or WAIT, lets the roles be taken; a loop that does not lock
excludes the follower. R414: of the members announced, the lowest ID with LEADER_EN leads; without one every member runs
alone; a member whose N or FRAME_SRC differs from the leader's is excluded. R420: a follower without GRP_CLK, or without a
BOUNDARY for three frames, runs alone with GRP code 0x3; the leader drops a member not heard for 3 ms with code 0x2 and its
ID. Completion, on conditions on the state and the operands alone, is stated for: fllLockTimeout, announce, groupWaitExpiry,
grpClkAbsent, boundaryMissing, memberLost. -/
def Obligations.GroupsFormElectALeaderAndLoseMembers : Prop := GroupsForm ∧ TheLowestIdWithLeaderEnLeads ∧ MembersLeaveTheGroup

/-! ### Control law engine -/

namespace Sys2Proof.Claims

/-- Register n of a datapath as a signed number (R104). -/
def dreg (d : DpState) (n : Nat) : Int := (d.d.getD n 0).toInt
/-- Operand a (R103). -/
def va (d : DpState) (w : CleWord) : Int := dreg d w.sa.toNat
/-- The register one above a (R107). -/
def va1 (d : DpState) (w : CleWord) : Int := dreg d (w.sa.toNat + 1)
/-- Operand b (R103). -/
def vb (d : DpState) (w : CleWord) : Int := dreg d w.sb.toNat
/-- Operand c (R103). -/
def vc (d : DpState) (w : CleWord) : Int := dreg d (w.imm.toNat % 32)
/-- The accumulator of the op. -/
def vacc (d : DpState) (w : CleWord) : Int := (d.acc.getD w.acc.toNat 0).toInt
/-- The immediate. -/
def vi (w : CleWord) : Int := w.imm.toInt
/-- The shift count. -/
def vsh (w : CleWord) : Nat := w.shift.toNat

/-- A number clamped to n bits, two's complement (R105). -/
def clamped (n : Nat) (x : Int) : Int :=
  if x < -(2 ^ (n - 1)) then -(2 ^ (n - 1)) else if 2 ^ (n - 1) ≤ x then 2 ^ (n - 1) - 1 else x

/-- A result at n bits: clamped with SAT, else its low bits (R105). -/
def narrow (n : Nat) (sat : Bool) (x : Int) : BitVec n := BitVec.ofInt n (if sat then clamped n x else x)

/-- A clamp occurs (R105). -/
def clamps (n : Nat) (sat : Bool) (x : Int) : Bool := sat && clamped n x ≠ x

/-- Register d of the op written. -/
def putD (d : DpState) (k : Nat) (v : Word) : DpState := { d with d := d.d.set k v }

/-- The lane after an op of some cycles: the run stands at its next word (R98, R107). -/
def ran (dp : Dp) (cyc : Nat) (l : Lane) : Lane :=
  l.modDp dp fun d => { d with run := d.run.map fun r => { r with pc := r.pc + 1, cycles := r.cycles + cyc, ops := r.ops + 1 } }

/-- The next program word of a run names an op with its operand fields, in a context that is not the law library's (R98, R103,
R114). -/
def names (l : Lane) (r : CtxRun) (op : Nat) (w : CleWord) : Prop := r.ctx ∉ l.cle.lib ∧ opOf (l.cle.progWord r.pc) = (op, w)

/-- The state at an op's issue: the tick after the run's start and the cycles before it, 16 ticks each on the reference (R98,
R401). -/
def issuedAt (s : State) (r : CtxRun) : State := s.passTo (r.since + (if s.rd CLK_STAT_ON_REF = 1 then 16 * r.cycles else r.cycles))

/-- What an op of a run does in its lane: where the run's program names it, it issues with the effect f on the lane as it stands
there; where no run's program names it, nothing happens. -/
def OpDoes (op : Nat) (c : LaneSel → Dp → CleWord → Instr) (cyc : Nat) (f : State → Lane → Dp → CtxRun → CleWord → Lane) : Prop :=
  (∀ (i : LaneId) (dp : Dp) (w : CleWord) (r : CtxRun) (s : State), ((s.lane i).dp dp).run = some r → names (s.lane i) r op w →
    ∃ u, u = issuedAt s r ∧ exec (c (inLane i) dp w) s = .next (u.setLane i (ran dp cyc (f u (u.lane i) dp r w)))) ∧
  (∀ (i : LaneId) (dp : Dp) (w : CleWord) (s : State), (∀ r, ((s.lane i).dp dp).run = some r → ¬ names (s.lane i) r op w) →
    exec (c (inLane i) dp w) s = .next s)

/-- An op with a result on the datapath, and the exact results whose clamp it reports in SATF (R105). -/
def DpDoes (op : Nat) (c : LaneSel → Dp → CleWord → Instr) (cyc : Nat) (f : DpState → CleWord → DpState)
    (bad : DpState → CleWord → Bool) : Prop :=
  OpDoes op c cyc fun _ l dp r w =>
    (fun l' : Lane => if bad (l.dp dp) w then l'.wr (CLE_CTX_STAT_SATF r.ctx) 1 else l') (l.modDp dp fun d => f d w)

/-- An op that writes res(x) to d. -/
def ResDoes (op : Nat) (c : LaneSel → Dp → CleWord → Instr) (cyc : Nat) (x : DpState → CleWord → Int) : Prop :=
  DpDoes op c cyc (fun d w => putD d w.dst.toNat (narrow 32 w.sat (x d w))) fun d w => clamps 32 w.sat (x d w)

/-- An op that writes a word to d. -/
def WordDoes (op : Nat) (c : LaneSel → Dp → CleWord → Instr) (x : DpState → CleWord → Word) : Prop :=
  DpDoes op c 1 (fun d w => putD d w.dst.toNat (x d w)) fun _ _ => false

/-- An op that writes acc(x) to its accumulator. -/
def AccDoes (op : Nat) (c : LaneSel → Dp → CleWord → Instr) (x : DpState → CleWord → Int) : Prop :=
  DpDoes op c 1 (fun d w => { d with acc := d.acc.set w.acc.toNat (narrow 48 w.sat (x d w)) }) fun d w => clamps 48 w.sat (x d w)

/-- The register of an operand as it stands. -/
def ua (d : DpState) (w : CleWord) : Word := d.d.getD w.sa.toNat 0
def ub (d : DpState) (w : CleWord) : Word := d.d.getD w.sb.toNat 0

end Sys2Proof.Claims

/-- R98, R103 to R107, R114, R401: the ops that work on registers and accumulators alone, where the program of a run names
them. Every right shift is arithmetic. A program word spells the op and its fields from OPC down to IMM. Completion, on
conditions on the state and the operands alone, is stated for: cleNop, cleLdi, cleMov, cleAdd, cleSub, cleAddi, cleNeg,
cleAbs, cleShl, cleShr, cleAnd, cleOr, cleXor, cleMul, cleMuli, cleMac, cleMsu, cleLda, cleClra, cleExa, cleSat, cleMin,
cleMax, cleCmp, cleSel. -/
def Obligations.ControlLawArithmetic : Prop :=
  (∀ (x : DWord) (op : Nat) (w : CleWord), opOf x = (op, w) ↔
    x.toNat = op * 2 ^ 58 + w.dst.toNat * 2 ^ 53 + w.sa.toNat * 2 ^ 48 + w.sb.toNat * 2 ^ 43 + w.acc.toNat * 2 ^ 41 +
      w.shift.toNat * 2 ^ 35 + b2n w.sat * 2 ^ 34 + w.mod.toNat * 2 ^ 32 + w.imm.toNat) ∧
  DpDoes 0x00 .cleNop 1 (fun d _ => d) (fun _ _ => false) ∧
  WordDoes 0x02 .cleLdi (fun _ w => w.imm) ∧
  WordDoes 0x03 .cleMov ua ∧
  ResDoes 0x04 .cleAdd 1 (fun d w => (va d w + vb d w) >>> vsh w) ∧
  ResDoes 0x05 .cleSub 1 (fun d w => (va d w - vb d w) >>> vsh w) ∧
  ResDoes 0x06 .cleAddi 1 (fun d w => (va d w + vi w) >>> vsh w) ∧
  ResDoes 0x07 .cleNeg 1 (fun d w => -va d w) ∧
  ResDoes 0x08 .cleAbs 1 (fun d w => if va d w < 0 then -va d w else va d w) ∧
  ResDoes 0x09 .cleShl 1 (fun d w => va d w * 2 ^ vsh w) ∧
  WordDoes 0x0A .cleShr (fun d w => (ua d w).sshiftRight (vsh w)) ∧
  WordDoes 0x0B .cleAnd (fun d w => ua d w &&& ub d w) ∧
  WordDoes 0x0C .cleOr (fun d w => ua d w ||| ub d w) ∧
  WordDoes 0x0D .cleXor (fun d w => ua d w ^^^ ub d w) ∧
  ResDoes 0x0E .cleMul 1 (fun d w => (va d w * vb d w) >>> vsh w) ∧
  ResDoes 0x0F .cleMuli 1 (fun d w => (va d w * vi w) >>> vsh w) ∧
  AccDoes 0x10 .cleMac (fun d w => vacc d w + (va d w * vb d w) >>> 16) ∧
  AccDoes 0x11 .cleMsu (fun d w => vacc d w - (va d w * vb d w) >>> 16) ∧
  AccDoes 0x12 .cleLda (fun d w => va d w * 2 ^ vsh w) ∧
  DpDoes 0x13 .cleClra 1 (fun d w => { d with acc := d.acc.set w.acc.toNat 0 }) (fun _ _ => false) ∧
  ResDoes 0x14 .cleExa 1 (fun d w => vacc d w >>> vsh w) ∧
  DpDoes 0x15 .cleSat 1 (fun d w =>
    if vb d w < va d w then { putD d w.dst.toNat (ub d w) with cf := true }
    else if va d w < vc d w then { putD d w.dst.toNat (d.d.getD (w.imm.toNat % 32) 0) with cf := true }
    else { putD d w.dst.toNat (ua d w) with cf := false }) (fun _ _ => false) ∧
  WordDoes 0x16 .cleMin (fun d w => BitVec.ofInt 32 (min (va d w) (vb d w))) ∧
  WordDoes 0x17 .cleMax (fun d w => BitVec.ofInt 32 (max (va d w) (vb d w))) ∧
  DpDoes 0x18 .cleCmp 1 (fun d w => { d with cf :=
    (if w.mod = 0 then decide (vb d w < va d w) else if w.mod = 1 then decide (vb d w ≤ va d w)
    else if w.mod = 2 then decide (va d w = vb d w) else decide (va d w ≠ vb d w)) }) (fun _ _ => false) ∧
  WordDoes 0x19 .cleSel (fun d w => if d.cf then ua d w else ub d w)

/-- R111: SQRT gives the integer root with CF = 0, and 0 with CF = 1 of a negative; DIV truncates toward zero, and by zero
gives the extreme of the sign of a, or 0, and sets DIVZ. Completion, on conditions on the state and the operands alone, is
stated for: cleSqrt, cleDiv. -/
def Obligations.RootAndDivisionCorners : Prop :=
  (∀ (i : LaneId) (dp : Dp) (w : CleWord) (r : CtxRun) (s : State), ((s.lane i).dp dp).run = some r → names (s.lane i) r 0x21 w →
    ∃ u d, u = issuedAt s r ∧ d = (u.lane i).dp dp ∧
      (va d w < 0 → exec (.cleSqrt (inLane i) dp w) s = .next (u.setLane i (ran dp 18
        ((u.lane i).modDp dp fun _ => { putD d w.dst.toNat 0 with cf := true })))) ∧
      (0 ≤ va d w → ∃ q : Nat, q * q ≤ (va d w).toNat * 2 ^ vsh w ∧ (va d w).toNat * 2 ^ vsh w < (q + 1) * (q + 1) ∧
        ∃ l, l = (u.lane i).modDp dp (fun _ => { putD d w.dst.toNat (narrow 32 w.sat q) with cf := false }) ∧
          exec (.cleSqrt (inLane i) dp w) s = .next (u.setLane i (ran dp 18
            (if clamps 32 w.sat q then l.wr (CLE_CTX_STAT_SATF r.ctx) 1 else l))))) ∧
  (∀ (i : LaneId) (dp : Dp) (w : CleWord) (r : CtxRun) (s : State), ((s.lane i).dp dp).run = some r → names (s.lane i) r 0x22 w →
    ∃ u d, u = issuedAt s r ∧ d = (u.lane i).dp dp ∧
      (vb d w = 0 → exec (.cleDiv (inLane i) dp w) s = .next (u.setLane i (ran dp 36
        (((u.lane i).modDp dp fun _ => putD d w.dst.toNat
          (if 0 < va d w then 0x7FFFFFFF else if va d w < 0 then 0x80000000 else 0)).wr (CLE_CTX_STAT_DIVZ r.ctx) 1)))) ∧
      (vb d w ≠ 0 → ∃ q rem : Int, va d w * 2 ^ vsh w = q * vb d w + rem ∧ rem.natAbs < (vb d w).natAbs ∧
        (0 ≤ va d w → 0 ≤ rem) ∧ (va d w ≤ 0 → rem ≤ 0) ∧
        ∃ l, l = (u.lane i).modDp dp (fun _ => putD d w.dst.toNat (narrow 32 w.sat q)) ∧
          exec (.cleDiv (inLane i) dp w) s = .next (u.setLane i (ran dp 36
            (if clamps 32 w.sat q then l.wr (CLE_CTX_STAT_SATF r.ctx) 1 else l)))))

namespace Sys2Proof.Claims

/-- The offset o of a memory operand (R112). -/
def offset (w : CleWord) : Nat := w.imm.toNat % 2 ^ 15

/-- The word that [S+o] names (R112). -/
def stateWord (l : Lane) (r : CtxRun) (w : CleWord) : Nat := l.cle.stateBase r.ctx + offset w

/-- The word that MOD and o name (R112): the state region, the bank that the run began with, the other bank, or the state
region of context IMM[23:16]. -/
def memWord (l : Lane) (r : CtxRun) (w : CleWord) : Nat :=
  if w.mod = 0 then stateWord l r w
  else if w.mod = 1 then l.cle.coefBase r.ctx r.bank + offset w
  else if w.mod = 2 then l.cle.coefBase r.ctx (!r.bank) + offset w
  else l.cle.stateBase (w.imm.toNat / 2 ^ 16 % 256) + offset w

/-- A word of a lane's data memory written in a tick, in which reads still see what it held (R102). -/
def putM (u : State) (l : Lane) (x : Nat) (v : Word) : Lane :=
  { l with cle := { l.cle with data := memWr l.cle.data x v,
                               wrote := (u.now, x, memRd l.cle.data x) :: l.cle.wrote.filter fun p => p.1 = u.now } }

/-- A word of a lane's data memory as an op reads it in a tick: what it held before the writes of the tick (R102). -/
def getM (u : State) (l : Lane) (x : Nat) : Word :=
  match l.cle.wrote.find? fun p => p.1 = u.now && p.2.1 = x with
  | some p => p.2.2
  | none => memRd l.cle.data x

/-- A word of the coefficient table of a LUT (R110): the last interval is flat. -/
def lutWord (u : State) (l : Lane) (r : CtxRun) (w : CleWord) (k : Nat) : Int :=
  (getM u l (l.cle.coefBase r.ctx r.bank + offset w + min k 255)).toInt

/-- The words by which the CLE reads state of the module in a run (R115, R66): an input binding's value and flags. -/
def bound (s : State) (i : LaneId) (r : CtxRun) (w : CleWord) : Word × BitVec 4 := s.binding i r.ctx w.imm.toNat

end Sys2Proof.Claims

/-- R66, R107, R109, R110, R112, R115, R124: the ops over memory, bindings and latched angles. A memory word is changed by
INTEG, LPF1 and ST alone, in the state region; INTEG always wraps and shows it; OUT holds its word for its group. Completion,
on conditions on the state and the operands alone, is stated for: cleInteg, cleLpf1, cleLut, cleLd, cleSt, cleIn, cleOut,
cleAng. -/
def Obligations.ControlLawMemoryAndBindings : Prop :=
  OpDoes 0x1A .cleInteg 2 (fun u l dp r w =>
    let sum := (getM u l (stateWord l r w)).toInt + (va (l.dp dp) w * vb (l.dp dp) w) >>> vsh w
    let l' := (putM u l (stateWord l r w) (BitVec.ofInt 32 sum)).modDp dp fun d => putD d w.dst.toNat (BitVec.ofInt 32 sum)
    if clamped 32 sum = sum then l' else (l'.wr (CLE_CTX_STAT_WRAP r.ctx) 1).bumpSat (CLE_CTX_STAT_WRAP_CNT r.ctx)) ∧
  OpDoes 0x1B .cleLpf1 2 (fun u l dp r w =>
    let m := (getM u l (stateWord l r w)).toInt
    let y := m + ((va (l.dp dp) w - m) * vb (l.dp dp) w) >>> vsh w
    let l' := (putM u l (stateWord l r w) (narrow 32 w.sat y)).modDp dp fun d => putD d w.dst.toNat (narrow 32 w.sat y)
    if clamps 32 w.sat y then l'.wr (CLE_CTX_STAT_SATF r.ctx) 1 else l') ∧
  OpDoes 0x23 .cleLut 3 (fun u l dp r w =>
    let p := (ua (l.dp dp) w).toNat
    let y := lutWord u l r w (p / 2 ^ 24)
    l.modDp dp fun d => putD d w.dst.toNat
      (BitVec.ofInt 32 (y + ((lutWord u l r w (p / 2 ^ 24 + 1) - y) * (p % 2 ^ 24 : Nat)) >>> 24))) ∧
  OpDoes 0x24 .cleLd 1 (fun u l dp r w => l.modDp dp fun d => putD d w.dst.toNat (getM u l (memWord l r w))) ∧
  OpDoes 0x25 .cleSt 1 (fun u l dp r w => putM u l (stateWord l r w) (ua (l.dp dp) w)) ∧
  (∀ (i : LaneId) (dp : Dp) (w : CleWord) (r : CtxRun) (s : State), ((s.lane i).dp dp).run = some r → names (s.lane i) r 0x26 w →
    ∃ u b, u = issuedAt s r ∧ b = u.binding i r.ctx w.imm.toNat ∧
      exec (.cleIn (inLane i) dp w) s = .next (u.setLane i (ran dp 1
        (((u.lane i).modDp dp fun d => { putD d w.dst.toNat b.1 with cf := b.2.getLsbD w.mod.toNat }).noteIn r.ctx w.imm.toNat
          u.now b.1.toNat)))) ∧
  OpDoes 0x27 .cleOut 1 (fun _ l dp r w =>
    l.modGroup r.group fun g => { g with held := g.held ++
      [{ ctx := r.ctx, seq := r.ops, bind := l.cle.outBind r.ctx w.imm.toNat, val := ua (l.dp dp) w }] }) ∧
  OpDoes 0x28 .cleAng 1 (fun _ l dp r w => l.modDp dp fun d => putD d w.dst.toNat
    (if w.mod = 1 then ((l.asc.grpLatch.getD r.group []).getD (w.imm.toNat % 4) (0, 0)).2
     else ((l.asc.grpLatch.getD r.group []).getD (w.imm.toNat % 4) (0, 0)).1))

namespace Sys2Proof.Claims

/-- An op with two exact results x, y that stand within its bounds of the exact result, passed through res() into d and d1;
`ok` says what those bounds are. -/
def PairBound (op : Nat) (c : LaneSel → Dp → CleWord → Instr) (cyc : Nat) (ok : DpState → CleWord → Int → Int → Prop) : Prop :=
  ∀ (i : LaneId) (dp : Dp) (w : CleWord) (r : CtxRun) (s : State), ((s.lane i).dp dp).run = some r → names (s.lane i) r op w →
    ∃ u d x y, u = issuedAt s r ∧ d = (u.lane i).dp dp ∧ ok d w x y ∧
      ∃ l, l = (u.lane i).modDp dp (fun _ =>
          putD (putD d w.dst.toNat (narrow 32 w.sat x)) (w.dst.toNat + 1) (narrow 32 w.sat y)) ∧
        exec (c (inLane i) dp w) s = .next (u.setLane i (ran dp cyc
          (if clamps 32 w.sat x || clamps 32 w.sat y then l.wr (CLE_CTX_STAT_SATF r.ctx) 1 else l)))

/-- |v − y/√3| ≤ 1, said without roots: (v − 1)√3 ≤ y ≤ (v + 1)√3. -/
def nearRoot3 (v y : Int) : Prop :=
  (0 ≤ y → 0 ≤ v + 1 ∧ y * y ≤ 3 * (v + 1) * (v + 1)) ∧ (y ≤ 0 → v - 1 ≤ 0 ∧ y * y ≤ 3 * (v - 1) * (v - 1)) ∧
  (0 < v - 1 → 0 ≤ y ∧ 3 * (v - 1) * (v - 1) ≤ y * y) ∧ (v + 1 < 0 → y ≤ 0 ∧ 3 * (v + 1) * (v + 1) ≤ y * y)

/-- |v − (y√3 − a)/2| ≤ 1, said without roots: 2v + a − 2 ≤ y√3 ≤ 2v + a + 2. -/
def nearHalf (v a y : Int) : Prop :=
  (0 ≤ y → 0 ≤ 2 * v + a + 2 ∧ 3 * y * y ≤ (2 * v + a + 2) * (2 * v + a + 2)) ∧
  (y ≤ 0 → 2 * v + a - 2 ≤ 0 ∧ 3 * y * y ≤ (2 * v + a - 2) * (2 * v + a - 2)) ∧
  (0 < 2 * v + a - 2 → 0 ≤ y ∧ (2 * v + a - 2) * (2 * v + a - 2) ≤ 3 * y * y) ∧
  (2 * v + a + 2 < 0 → y ≤ 0 ∧ (2 * v + a + 2) * (2 * v + a + 2) ≤ 3 * y * y)

/-- |v − x / 2^n| ≤ e − 2^-16, which leaves the error of the model's sine and cosine its room: x is a sum of products with sines and
cosines in units of 2^-n. -/
def nearTrig (n : Nat) (e v x : Int) : Prop := (v - e) * 2 ^ n + 2 ^ (n - 16) ≤ x ∧ x ≤ (v + e) * 2 ^ n - 2 ^ (n - 16)

end Sys2Proof.Claims

/-- R107, R108: the geometric ops return values within their bounds of the exact result: 1 LSB for CLARKE and ICLARKE, 3 for
SINCOS, 4 for PARK and IPARK. Which value they return is open (log 12); sines and cosines stand for the sum of the series
that the model takes (`sinBt`, `cosBt`, in units of 2^-60). SINCOS passes its results through no res(). Completion, on
conditions on the state and the operands alone, is stated for: cleClarke, cleIclarke, clePark, cleIpark, cleSincos. -/
def Obligations.GeometricOpsKeepTheirBounds : Prop :=
  PairBound 0x1C .cleClarke 2 (fun d w x y =>
    3 * (x - 1) ≤ 2 * va d w - vb d w - vc d w ∧ 2 * va d w - vb d w - vc d w ≤ 3 * (x + 1) ∧ nearRoot3 y (vb d w - vc d w)) ∧
  (∀ (i : LaneId) (dp : Dp) (w : CleWord) (r : CtxRun) (s : State), ((s.lane i).dp dp).run = some r → names (s.lane i) r 0x1D w →
    ∃ u d x y, u = issuedAt s r ∧ d = (u.lane i).dp dp ∧ nearHalf x (va d w) (va1 d w) ∧
      nearHalf y (va d w) (-va1 d w) ∧
      ∃ l, l = (u.lane i).modDp dp (fun _ => putD (putD (putD d w.dst.toNat (ua d w)) (w.dst.toNat + 1) (narrow 32 w.sat x))
          (w.dst.toNat + 2) (narrow 32 w.sat y)) ∧
        exec (.cleIclarke (inLane i) dp w) s = .next (u.setLane i (ran dp 2
          (if clamps 32 w.sat x || clamps 32 w.sat y then l.wr (CLE_CTX_STAT_SATF r.ctx) 1 else l)))) ∧
  PairBound 0x1E .clePark 3 (fun d w x y =>
    nearTrig 60 4 x (va d w * cosBt (ub d w) + va1 d w * sinBt (ub d w)) ∧
    nearTrig 60 4 y (va1 d w * cosBt (ub d w) - va d w * sinBt (ub d w))) ∧
  PairBound 0x1F .cleIpark 3 (fun d w x y =>
    nearTrig 60 4 x (va d w * cosBt (ub d w) - va1 d w * sinBt (ub d w)) ∧
    nearTrig 60 4 y (va d w * sinBt (ub d w) + va1 d w * cosBt (ub d w))) ∧
  (∀ (i : LaneId) (dp : Dp) (w : CleWord) (r : CtxRun) (s : State), ((s.lane i).dp dp).run = some r → names (s.lane i) r 0x20 w →
    ∃ u d x y, u = issuedAt s r ∧ d = (u.lane i).dp dp ∧ nearTrig 31 3 x (sinBt (ua d w)) ∧
      nearTrig 31 3 y (cosBt (ua d w)) ∧
      exec (.cleSincos (inLane i) dp w) s = .next (u.setLane i (ran dp 2 ((u.lane i).modDp dp fun _ =>
        putD (putD d w.dst.toNat (BitVec.ofInt 32 x)) (w.dst.toNat + 1) (BitVec.ofInt 32 y)))))

/-- R107, R116, R120, R124 to R127, R130, R132: END of a rebase segment goes on at the entry and clears REBASE_PEND, END of a
main segment ends the run; a group still running at its deadline has missed it, once, and is an overrun; a context that is
not done within its budget is stopped, with its BUDGET flag, and its launch is an overrun. A group that has missed its
deadline discards what it holds; one that completes after it without having missed it is an overrun too; one in time
publishes; and in the tick of a boundary a group completes after the boundary. The run of a library context ends after its
WCET with the effect of its law. Completion, on conditions on the state and the operands alone, is stated for: cleEnd,
groupDeadline, budgetStop. -/
def Obligations.ContextRunsEndAndOverrun : Prop :=
  (∀ (i : LaneId) (dp : Dp) (w : CleWord) (r : CtxRun) (s : State), ((s.lane i).dp dp).run = some r → r.ctx ∈ (s.lane i).cle.lib →
    ∃ u, u = s.passTo (r.since + s.laneTicks ((s.lane i).cle.wcetOf r.ctx - 1)) ∧
      exec (.cleEnd (inLane i) dp w) s = .next (((u.modLane i fun l =>
        if r.rebase then l.wr (CLE_CTX_STAT_REBASE_PEND r.ctx) 0 else l).lawEnd i r).runDone i dp r)) ∧
  (∀ (i : LaneId) (dp : Dp) (w : CleWord) (r : CtxRun) (s : State), ((s.lane i).dp dp).run = some r → names (s.lane i) r 0x01 w →
    ∃ u, u = issuedAt s r ∧
      (r.rebase = true → exec (.cleEnd (inLane i) dp w) s = .next (u.setLane i
        (((u.lane i).modDp dp fun d => { d with run := d.run.map fun x =>
          { x with rebase := false, pc := (u.lane i).cle.entry x.ctx, cycles := x.cycles + 1, ops := x.ops + 1 } }).wr
          (CLE_CTX_STAT_REBASE_PEND r.ctx) 0))) ∧
      (r.rebase = false → exec (.cleEnd (inLane i) dp w) s = .next (u.runDone i dp r))) ∧
  (∀ (i : LaneId) (g : Nat) (s : State), ((s.lane i).group g).running = true → ((s.lane i).group g).missed = false →
    exec (.groupDeadline (inLane i) g) s = .next (((s.passTo ((s.lane i).group g).deadline).modLane i fun l =>
      l.modGroup g fun x => { x with missed := true }).overrun i g)) ∧
  (∀ (i : LaneId) (dp : Dp) (r : CtxRun) (s : State), ((s.lane i).dp dp).run = some r →
    ∃ u v, u = s.passTo (r.since + s.laneTicks ((s.lane i).cle.budget r.ctx)) ∧
      v = (u.modLane i fun l => (l.wr (CLE_CTX_STAT_BUDGET r.ctx) 1).modGroup r.group fun x => { x with missed := true }) ∧
      exec (.budgetStop (inLane i) dp) s =
        .next ((if ((u.lane i).group r.group).missed then v else v.overrun i r.group).runDone i dp r)) ∧
  (∀ (i : LaneId) (g : Nat) (s : State), s.boundaryDue = true → s.groupDone i g = s) ∧
  (∀ (i : LaneId) (g : Nat) (s : State), s.boundaryDue = false →
    ∃ v : List Held → State, (∀ out, v out = s.modLane i fun l => (l.modGroup g fun x =>
        { x with running := false, left := [], held := [], missed := false, doneAt := some s.now, done := out }).cleStat) ∧
      (((s.lane i).group g).missed = true → s.groupDone i g = v []) ∧
      (((s.lane i).group g).missed = false → ((s.lane i).group g).deadline < s.now → s.groupDone i g = (v []).overrun i g) ∧
      (((s.lane i).group g).missed = false → s.now ≤ ((s.lane i).group g).deadline →
        ∃ out, out = ((s.lane i).group g).held.foldl (fun acc h => insertHeld h acc) [] ∧
          s.groupDone i g = ((out.foldl (fun x h => x.publish i h) (v out)).republish i g).inTime i g))

/-! ### Angle scheduler and measurement chain -/

namespace Sys2Proof.Claims

/-- The queue entry of a crossing: a copy of the words of the entry, as they stand (R64). -/
def entryOf (s : State) (i : LaneId) (src idx : Nat) (late : Bool) : QEntry :=
  { idx := idx, late := late, src := src, at_ := s.now,
    words := { w0 := (s.lane i).regs.get (SCHED_W0 idx), w1 := (s.lane i).regs.get (SCHED_W1 idx),
               w2 := (s.lane i).regs.get (SCHED_W2 idx) } }

/-- The queue after a crossed entry has joined: it stands behind the entries of earlier ticks and behind those of its own tick
with an index up to its own (R64). -/
def queueWith (s : State) (i : LaneId) (src idx : Nat) (late : Bool) : List QEntry :=
  (s.lane i).asc.queue.takeWhile (fun e => e.at_ < s.now || e.idx ≤ idx) ++
    entryOf s i src idx late :: (s.lane i).asc.queue.dropWhile (fun e => e.at_ < s.now || e.idx ≤ idx)

/-- A crossed entry joins the queue of 32, whose high-water mark follows; of more than 32 the last is lost, which is counted and
raises SCHED_SKIP (R64). -/
def joins (s : State) (i : LaneId) (src idx : Nat) (late : Bool) : State :=
  ((queueWith s i src idx late).drop 32).foldl
    (fun u x => (u.modLane i fun l => (l.bumpSat ASC_SCHED_STAT_OVF_CNT).bump (ASC_S_CNT_SKIP_CNT_SKIP x.src)).raiseFrom i 25
      x.src)
    (s.modLane i fun l =>
      (l.modAsc fun a => { a with queue := (queueWith s i src idx late).take 32 }).wr ASC_SCHED_STAT_Q_HWM
        (max (l.rd ASC_SCHED_STAT_Q_HWM) (min 32 (l.asc.queue.length + 1))))

/-- An entry joins the queue a number of times, once for each crossing. -/
def joinsN (i : LaneId) (src idx : Nat) (late : Bool) (n : Nat) (s : State) : State :=
  (List.range n).foldl (fun u _ => joins u i src idx late) s

/-- The crossings of lower index in the same jump (R52). -/
def before (s : State) (i : LaneId) (src idx : Nat) : Nat :=
  (((s.lane i).entries.filter fun j => j < idx).map fun j => (s.lane i).marks s.now src j).sum

/-- The entry has been taken in this tick. -/
def taken (s : State) (i : LaneId) (idx : Nat) : Prop := (s.lane i).asc.crossedAt = s.now ∧ idx ∈ (s.lane i).asc.crossed

/-- The entry is noted as taken in this tick. -/
def noted (s : State) (i : LaneId) (idx : Nat) : State :=
  s.modLane i fun l => l.modAsc fun a =>
    { a with crossedAt := s.now, crossed := idx :: (if a.crossedAt = s.now then a.crossed else []) }

/-- The samples of a channel with one more behind them; a FREE channel counts its fill, and with its DEC-th sample a window is
due at the end of the channel's next slot, with FIR one round later (R78 to R80). -/
def sampled (l : Lane) (now u k : Nat) (x : ChanSample) : Lane :=
  if l.locked k then l.modChan k fun c => { c with samples := c.samples ++ [x] }
  else if (l.chan k).fill + 1 < l.chDec k then
    l.modChan k fun c => { c with samples := c.samples ++ [x], fill := c.fill + 1 }
  else l.modChan k fun c =>
    { c with samples := c.samples ++ [x], fill := 0,
             due := c.due ++ [{ cut := now + 1, ready := l.slotEnd now u k now + (if l.chFir k = 0 then 0 else 80 * u),
                                out := false }] }

/-- A core takes a conversion of a channel that starts at a tick; the input is sampled 2 ticks later, shifted by TIME_TRIM fine
steps (R70, R74). -/
def converting (l : Lane) (m k : Nat) (late : Bool) (t : Nat) : Lane :=
  l.modCore m fun _ => { chan := some k, late := late, startAt := some t,
                         sampledAt := 32 * ((t : Int) + 2) + signed 5 (l.rd (MEAS_CORE_TRIM1_TIME_TRIM m)) }

/-- A sync line of a lane. -/
def syncLine (l : Lane) (n : Nat) : SyncLine := l.asc.sync.getD n { level := false, until_ := none }

end Sys2Proof.Claims

/-- R51 to R53, R60, R64: the crossing of an entry. Once the Angle Schedulers have started, the ticks that the increment takes
to it pass. An entry that the tick does not cross, or that has been taken in it, changes nothing more; in an ordinary movement
it joins the queue in table index order, once for each of its marks that the front passes; in a jump the first eight crossings
join LATE, every further one is counted as skipped, and the ninth raises SCHED_SKIP; in a resynchronisation none fires. -/
def Sys2Proof.Claims.EntriesCrossIntoTheQueue : Prop :=
  ∀ (i : LaneId) (src idx : Nat) (s : State),
    ∃ u m, u = s.pass (if s.mod.started then (s.lane i).ticksToCross s.now src idx else 0) ∧
      m = (u.lane i).marks u.now src idx ∧
      (m = 0 ∨ taken u i idx → exec (.entryCrossing (inLane i) src idx) s = .next u) ∧
      (0 < m → ¬ taken u i idx →
        exec (.entryCrossing (inLane i) src idx) s = .next (match (u.lane i).moveNow src with
          | .jump =>
            let v := (joinsN i src idx true (min m (8 - before u i src idx)) (noted u i idx)).modLane i fun l =>
              l.wr (ASC_S_CNT_SKIP_CNT_SKIP src) (l.rd (ASC_S_CNT_SKIP_CNT_SKIP src) + (m - (8 - before u i src idx)))
            if before u i src idx ≤ 8 ∧ 8 < before u i src idx + m then v.raiseFrom i 25 src else v
          | .resync => noted u i idx
          | .ordinary => joinsN i src idx false m (noted u i idx)
          | .held => joinsN i src idx false m (noted u i idx)))

/-- R61, R64, R65: the queue of a lane dispatches its oldest entry, in a later tick than that of its crossing and one a tick;
FIRE_CNT and LATE_LAST of the entry and CNT_LATE of its source follow; its action starts conversions, latches outputs, launches
a context group, loads a PWM group, takes a snapshot, raises an event or drives a sync line; the pulse of a sync line ends at its
time. -/
def Sys2Proof.Claims.QueueDispatchesOneEntryATick : Prop :=
  (∀ (i : LaneId) (s : State), (s.lane i).asc.queue = [] → exec (.entryDispatch (inLane i)) s = .next s) ∧
  (∀ (i : LaneId) (e : QEntry) (rest : List QEntry) (s : State), (s.lane i).asc.queue = e :: rest → e.at_ < s.now →
    (s.lane i).asc.lastDisp ≠ some s.now →
    exec (.entryDispatch (inLane i)) s = .next ((s.modLane i fun l =>
      (fun l' : Lane => if e.late then l'.bump (ASC_S_CNT_LATE_CNT_LATE e.src) else l')
        (((l.modAsc fun a => { a with queue := rest, lastDisp := some s.now }).bump (SCHED_W3_FIRE_CNT e.idx)).wr
          (SCHED_W3_LATE_LAST e.idx) (if e.late then 1 else 0))).fire i e)) ∧
  (∀ (i : LaneId) (e : QEntry) (rest : List QEntry) (s : State), (s.lane i).asc.queue = e :: rest →
    s.now ≤ e.at_ ∨ (s.lane i).asc.lastDisp = some s.now →
    exec (.entryDispatch (inLane i)) s = .next ((s.pass 1).dispatchOne i)) ∧
  (∀ (i : LaneId) (e : QEntry) (s : State),
    ∃ arg w2, arg = e.words.w1.toNat % 65536 ∧ w2 = e.words.w2.toNat % 65536 ∧
      s.fire i e =
        if e.words.w1.toNat / 2 ^ 20 % 16 = 1 then s.convStart i arg e.late
        else if e.words.w1.toNat / 2 ^ 20 % 16 = 2 then s.modLane i fun l => l.filtLatch s.now arg e.late
        else if e.words.w1.toNat / 2 ^ 20 % 16 = 3 then s.launch i arg
        else if e.words.w1.toNat / 2 ^ 20 % 16 = 4 then s.modLane i fun l => l.pwmLoad arg
        else if e.words.w1.toNat / 2 ^ 20 % 16 = 5 then s.schedSnap i arg e.late
        else if e.words.w1.toNat / 2 ^ 20 % 16 = 6 then s.raiseFrom i (28 + arg % 8) w2
        else if e.words.w1.toNat / 2 ^ 20 % 16 = 7 then
          (s.modLane i fun l => l.modAsc fun a => { a with sync := updAt a.sync (arg % 8) fun x =>
            (if w2 = 0 then { level := !x.level, until_ := none } else { level := true, until_ := some (s.now + w2) }) }).syncWatch
            i (s.lane i)
        else s) ∧
  (∀ (i : LaneId) (line : Nat) (s : State), (syncLine (s.lane i) line).until_ = none →
    exec (.syncPulseEnd (inLane i) line) s = .next s) ∧
  (∀ (i : LaneId) (line t : Nat) (s : State), (syncLine (s.lane i) line).until_ = some t →
    ∃ u, u = s.passTo t ∧
      exec (.syncPulseEnd (inLane i) line) s = .next ((u.modLane i fun l => l.modAsc fun a =>
        { a with sync := updAt a.sync line fun _ => { level := false, until_ := none } }).syncWatch i (u.lane i)))

/-- R70 to R74, R76, R79, R80, R95: conversions and filter windows. A core's result is ready 80 ticks after its start and,
corrected by its trims, enters the direct path or the chain, and the core's next pending channel starts; a grid instant
starts a conversion on a core that may take one, and with none sets RATE_OVER, counts it and takes the previous sample again;
a sampling edge takes its bit as +1 or −1, and the other edge nothing; a window closes at its slot, and makes an output where
it has its samples and none where it has not. Completion, on conditions on the state and the operands alone, is stated for:
conversionDone, gridConversion, filterOutput, convTrigger, sdclkEdge. -/
def Obligations.ConversionsAndFilterWindows : Prop :=
  (∀ (i : LaneId) (m : Nat) (raw : BitVec 16) (s : State),
    ((s.lane i).core m).chan = none ∨ ((s.lane i).core m).startAt = none →
    exec (.conversionDone (inLane i) m raw) s = .next s) ∧
  (∀ (i : LaneId) (m k t : Nat) (raw : BitVec 16) (s : State), ((s.lane i).core m).chan = some k →
    ((s.lane i).core m).startAt = some t →
    ∃ u code l l' v, u = s.passTo (t + 80) ∧ code = (u.lane i).corrected m raw ∧
      l = (u.lane i).modCore m (fun x => { x with chan := none }) ∧
      l' = (match l.nextPend m with
        | some j => (converting l m j ((l.chan j).pendLate.getD false) (max u.now (l.coreFrom u.doze m))).modChan j fun c =>
            { c with pendLate := none }
        | none => l) ∧
      v = (u.setLane i (l'.modChan k fun c => { c with
          raw := BitVec.ofInt 16 code,
          lateMark := c.lateMark || ((u.lane i).direct k && ((s.lane i).core m).late) })).recSample i 0 k
        ((BitVec.ofInt 16 code).setWidth 32) ((s.lane i).core m).late ∧
      exec (.conversionDone (inLane i) m raw) s = .next
        (if (v.lane i).direct k then v.output i k ((v.lane i).gained k code) false
         else v.setLane i (sampled (v.lane i) v.now v.slotLen k
          { at_ := t, val := code, late := ((s.lane i).core m).late }))) ∧
  (∀ (i : LaneId) (k : Nat) (s : State), 32 ≤ k ∨ (s.lane i).chMode k ≠ 1 ∨ s.converts k = false ∨
      (s.lane i).popGrid s.now s.slotLen k = none →
    exec (.gridConversion (inLane i) k) s = .next s) ∧
  (∀ (i : LaneId) (k t : Nat) (l : Lane) (s : State), k < 32 → (s.lane i).chMode k = 1 → s.converts k = true →
    (s.lane i).popGrid s.now s.slotLen k = some (t, l) →
    ∃ u r, u = (s.setLane i l).passTo t ∧ r = (u.lane i).modChan k (fun c => { c with pairTurn := !c.pairTurn }) ∧
      (∀ m, (u.lane i).gridCore u.doze u.now k = some m →
        exec (.gridConversion (inLane i) k) s = .next (u.setLane i (converting r m k false u.now))) ∧
      ((u.lane i).gridCore u.doze u.now k = none →
        exec (.gridConversion (inLane i) k) s = .next (u.setLane i
          (sampled ((r.wr MEAS_STAT_RATE_OVER 1).bumpSat MEAS_STAT_CONV_DROP) u.now u.slotLen k
            { at_ := u.now, val := ((u.lane i).chan k).raw.toInt, late := false })))) ∧
  (∀ (i : LaneId) (k : Nat) (rising bit : Bool) (s : State),
    k < 32 ∨ (s.lane i).chMode k ≠ 1 ∨ s.converts k = false ∨ rising = (s.lane i).on (MEAS_CH_CFG_EDGE k) ∨
      s.nextClock i k = none →
    exec (.sdclkEdge (inLane i) k ⟨rising, bit⟩) s = .next s) ∧
  (∀ (i : LaneId) (k t : Nat) (rising bit : Bool) (s : State), 32 ≤ k → (s.lane i).chMode k = 1 → s.converts k = true →
    rising ≠ (s.lane i).on (MEAS_CH_CFG_EDGE k) → s.nextClock i k = some t →
    ∃ u l, u = s.passTo t ∧ l = (u.lane i).fillSkips u.slotLen k (u.now - 1) ∧
      exec (.sdclkEdge (inLane i) k ⟨rising, bit⟩) s = .next ((u.setLane i
        (sampled (l.modChan k fun c => { c with prevBit := bit, edgeAt := u.now }) u.now u.slotLen k
          { at_ := u.now, val := if bit then 1 else -1, late := false })).recSample i 2 k (if bit then 1 else 0) false)) ∧
  (∀ (i : LaneId) (k : Nat) (s : State), (s.lane i).popWindow s.now s.slotLen k = none →
    exec (.filterOutput (inLane i) k) s = .next s) ∧
  (∀ (i : LaneId) (k : Nat) (w : Window) (l : Lane) (s : State), (s.lane i).popWindow s.now s.slotLen k = some (w, l) →
    ∃ u l' x v, u = (s.setLane i l).passTo w.ready ∧ l' = (u.lane i).fillSkips s.slotLen k (w.cut - 1) ∧
      x = (if l'.chScs k = true then l'.closeScs s.slotLen k w else l'.closeWindow k w) ∧ v = u.setLane i x.1 ∧
      (x.2 = none → exec (.filterOutput (inLane i) k) s = .next v) ∧
      ∀ y b, x.2 = some (y, b) → exec (.filterOutput (inLane i) k) s = .next
        (v.output i k (y * l'.rd (MEAS_CH_DEC_GAIN k) / 2 ^ 14) b)) ∧
  (∀ (i : LaneId) (cg t : Nat) (x : Nat × Nat × Nat) (s : State),
    (s.lane i).pwm.trigs.find? (fun y => y.1 = cg && y.2.1 = t) = some x →
    exec (.convTrigger (inLane i) cg t) s = .next (((s.passTo x.2.2).modLane i fun l => l.modPwm fun w =>
      { w with trigs := w.trigs.filter fun y => y ≠ x }).convStart i ([(s.lane i).rd (PWM_CG_TRIG_CGRP0 cg),
        (s.lane i).rd (PWM_CG_TRIG_CGRP1 cg), (s.lane i).rd (PWM_CG_TRIG_CGRP2 cg), (s.lane i).rd (PWM_CG_TRIG_CGRP3 cg)].getD t 0)
        false)) ∧
  (∀ (i : LaneId) (cg t : Nat) (s : State), (∀ y, y ∈ (s.lane i).pwm.trigs → ¬ (y.1 = cg ∧ y.2.1 = t)) →
    exec (.convTrigger (inLane i) cg t) s = .next s)

/-- R51 to R53, R60, R64: the crossing of an entry. Once the Angle Schedulers have started, the ticks that the increment
takes to it pass. An entry that the tick does not cross, or that has been taken in it, changes nothing more; in an ordinary
movement it joins the queue in table index order, once for each of its marks that the front passes; in a jump the first eight
crossings join LATE, every further one is counted as skipped, and the ninth raises SCHED_SKIP; in a resynchronisation none
fires. R61, R64, R65: the queue of a lane dispatches its oldest entry, in a later tick than that of its crossing and one a
tick; FIRE_CNT and LATE_LAST of the entry and CNT_LATE of its source follow; its action starts conversions, latches outputs,
launches a context group, loads a PWM group, takes a snapshot, raises an event or drives a sync line; the pulse of a sync
line ends at its time. Completion, on conditions on the state and the operands alone, is stated for: entryCrossing,
entryDispatch, syncPulseEnd. -/
def Obligations.EntriesCrossIntoTheQueueAndDispatch : Prop := EntriesCrossIntoTheQueue ∧ QueueDispatchesOneEntryATick

/-! ### Frames and duplex lanes -/

/-- R20, R67, R342, R456: a frame boundary. The ticks up to it pass; the Tally advances by one, unless a group's common Tally
is adopted there; the packages that wait, then staged commands and direct writes commit in staging order; angles, frames,
trajectories and records of both lanes follow; the set of edges compared for the new frame takes effect; the completions of
the boundary are written ahead of a change of the power state and of a SOFT reset. Completion, on conditions on the state and
the operands alone, is stated for: frameBoundary. -/
def Obligations.FrameBoundaryKeepsItsOrder : Prop :=
  (∀ (copy : CopyResult) (s : State), s.mod.started = false → exec (.frameBoundary copy) s = .next s) ∧
  (∀ (copy : CopyResult) (s : State), s.mod.started = true →
    ∃ p q u r t, p = s.passTo (s.now + (s.lane s.lead).ticksToEnd) ∧
      q = (p.endChans.bothLanes fun l => ((l.cutDeadlines p.now).endFrame).noteBefore) ∧
      u = (q.endHold.applyCopies copy).grpAhead ∧
      r = u.boundaryCommits ∧ t = r.1.boundaryMoves.boundarySluice.lateGroups.sendSnaps.refreshMirror ∧
      exec (.frameBoundary copy) s = .next (r.2.foldl (fun s x => s.finishCmd x.1 x.2) t).powerBoundary.softReset) ∧
  (∀ s : State, s.grp.startAt = none → s.boundaryCommits.1.mod.tally = s.mod.tally + 1) ∧
  (∀ s : State, s.boundaryMoves.duplex.compareDue = none ∧ s.boundaryMoves.duplex.nextSet = [] ∧
    s.boundaryMoves.mod.tally = s.mod.tally)

/-- R20, R249 to R252, R263, R269: EDGE_CUT, once in a frame, 2,000 ticks ahead of the predicted boundary: the verdict and
the role changes, then the sets of the live lanes, then the copy. SET_COMPARE 400 ticks after it: a verdict still missing at
the second EDGE_CUT counts as late there (the model's choice, log 51); while the outputs are held, or a verdict is pending,
the last accepted set is forwarded; a match of the ACTIVE and the SHADOW lane forwards the active lane's set, a mismatch
starts HOLD and forwards the last accepted set again; a RESYNC lane is compared but never forwarded, and without a SHADOW
lane a set of the active lane that has not arrived counts as an empty one (the model's choice, log 49). Completion, on
conditions on the state and the operands alone, is stated for: edgeCut, setCompare. -/
def Obligations.EdgeSetsAreCutAndCompared : Prop :=
  (∀ s : State, s.mod.started = false ∨ s.duplex.cutTally = some s.mod.tally → exec .edgeCut s = .next s) ∧
  (∀ s : State, s.mod.started = true → s.duplex.cutTally ≠ some s.mod.tally →
    ∃ u a b, u = (s.passTo (s.now + ((s.lane s.lead).ticksToEnd - 2000))).cutVerdict.cutRequest ∧
      a = (if u.laneLive .a then u.buildSet .a (u.lane u.active).ticksToEnd else u) ∧
      b = (if a.laneLive .b then a.buildSet .b (u.lane u.active).ticksToEnd else a) ∧
      exec .edgeCut s = .next (b.startCopy.modDuplex fun d =>
        { d with compareDue := some b.now, cutTally := some b.mod.tally })) ∧
  (∀ (arrA arrB : Bool) (s : State), s.duplex.compareDue = none → exec (.setCompare arrA arrB) s = .next s) ∧
  (∀ (arrA arrB : Bool) (cut : Nat) (s : State), s.duplex.compareDue = some cut →
    ∃ u setA setB act oth start len, u = ((s.passTo (cut + 400)).modDuplex (fun d => { d with compareDue := none })).lateVerdict ∧
      setA = (if arrA && u.laneLive .a then u.laneA.pwm.set else none) ∧
      setB = (if arrB && u.laneLive .b then u.laneB.pwm.set else none) ∧
      act = (if u.active = .a then setA else setB) ∧ oth = (if u.active = .a then setB else setA) ∧
      start = u.now + (u.lane u.lead).ticksToEnd ∧ len = (u.lane u.lead).pwm.len ∧
      (u.duplex.held = true ∨ u.rd LANE_STAT_VERDICT_PEND = 1 →
        ∃ v, v = (if u.laneState u.active = 1 ∧ u.laneState (LaneId.other u.active) = 2 ∧ (u.compareSets act oth).isSome = true then
            u.bump LANE_CNT_MISMATCHES else u) ∧
        exec (.setCompare arrA arrB) s = .next (v.forward u.duplex.lastSet [] start len)) ∧
      (u.duplex.held = false → u.rd LANE_STAT_VERDICT_PEND = 0 → u.laneState u.active = 1 →
        u.laneState (LaneId.other u.active) = 2 →
        (u.compareSets act oth = none → exec (.setCompare arrA arrB) s = .next
          ((u.modDuplex fun d => { d with matched := true }).accept act start len)) ∧
        (∀ d, u.compareSets act oth = some d → exec (.setCompare arrA arrB) s = .next
          ((((u.modDuplex fun x => { x with matched := false }).bump LANE_CNT_MISMATCHES).mismatch d).forward
            u.duplex.lastSet [] start len))) ∧
      (u.duplex.held = false → u.rd LANE_STAT_VERDICT_PEND = 0 → u.laneState u.active = 1 →
        u.laneState (LaneId.other u.active) = 3 → exec (.setCompare arrA arrB) s = .next
          (((u.modDuplex fun x => { x with matched := (u.compareSets act oth).isNone }).compareResync (LaneId.other u.active)
            (u.compareSets act oth)).accept act start len)) ∧
      (u.duplex.held = false → u.rd LANE_STAT_VERDICT_PEND = 0 →
        u.laneState u.active ≠ 1 ∨ (u.laneState (LaneId.other u.active) ≠ 2 ∧ u.laneState (LaneId.other u.active) ≠ 3) →
        exec (.setCompare arrA arrB) s = .next (u.accept act start len)))

/-- R250, R269: in RESYNC a matching set counts, up to 1,000, and a mismatch counts, clears the count and retires the lane with
cause 7; after 1,000 matches the lane is SHADOW at the boundary. -/
def Sys2Proof.Claims.ResyncLanesProveThemselves : Prop :=
  (∀ (o : LaneId) (s : State), s.rd LANE_STAT_MATCH_CNT < 1000 → ∃ t, t = s.compareResync o none ∧
    t.rd LANE_STAT_MATCH_CNT = s.rd LANE_STAT_MATCH_CNT + 1 ∧ t = { s with regs := t.regs }) ∧
  (∀ (o : LaneId) (d : Diff) (s : State), s.compareResync o (some d) =
    ((s.bump LANE_CNT_MISMATCHES).wr LANE_STAT_MATCH_CNT 0).retire o 7) ∧
  (∀ s : State, s.laneState (LaneId.other s.active) = 3 → 1000 ≤ s.rd LANE_STAT_MATCH_CNT →
    s.promote = ((s.setLaneState (LaneId.other s.active) 2 0).recAdopt (LaneId.other s.active)).updModule 0) ∧
  (∀ s : State, s.laneState (LaneId.other s.active) ≠ 3 ∨ s.rd LANE_STAT_MATCH_CNT < 1000 → s.promote = s)

/-- R246, R247, R264, R286: a change of a lane's state: LANE_STAT shows it, RETIRED with its cause and ACTIVE with the lane; the
Sluice takes over the series switches of a lane that is OFF, RESYNC or RETIRED and of no other. -/
def Sys2Proof.Claims.LaneStatesAreShown : Prop :=
  ∀ (i : LaneId) (new cause : Nat) (s : State), new < 5 → cause < 16 → ∃ t, t = s.setLaneState i new cause ∧
    t.laneState i = new ∧ (new = 4 → t.rd (retCauseFld i) = cause) ∧ (new = 1 → t.active = i) ∧ (new ≠ 1 → t.active = s.active) ∧
    ((if i = .a then t.safe.takeoverA else t.safe.takeoverB) = decide (new = 0 ∨ new = 3 ∨ new = 4)) ∧
    t.laneState (LaneId.other i) = s.laneState (LaneId.other i) ∧ t.mod = s.mod ∧ t.now = s.now

/-- R253 to R255, R263, R264, R267, R268, R425: what comes from a lane. A self-check's verdict is kept until the second
lane's or the second EDGE_CUT; a watchdog that expires resets and retires its lane; an error report of the only live lane
blocks the module with LANE_VERDICT; the bulk copy and its time limit belong to the lane that restarts. Completion, on
conditions on the state and the operands alone, is stated for: selfCheckVerdict, wdtExpiry, laneErrorReport, bulkCopyDone,
resyncTimeout. -/
def Obligations.LanesReportAndRestart : Prop :=
  (∀ (i : LaneId) (g0 g1 : BitVec 64) (s : State), s.rd LANE_STAT_VERDICT_PEND = 1 →
    s.duplex.verdicts.getD (LaneId.num i) none = none → s.laneLive i = true →
    (s.lane i).cle.dp0.sigPend = false → (s.lane i).cle.dp1.sigPend = false →
    ∃ u, u = s.passTo (max (s.lane i).cle.dp0.sigUntil (s.lane i).cle.dp1.sigUntil) ∧
    exec (.selfCheckVerdict i g0 g1) s = .next ((u.modLane i fun l => { l with lockstep := false, ecc := false }).modDuplex fun d =>
      { d with verdicts := d.verdicts.set (LaneId.num i) (some
          ((if g0 = Config.expectedSignature 0xA1 ∧ g1 = Config.expectedSignature 0xA1 then 0 else 1) +
            (if (u.lane i).lockstep then 2 else 0) + (if (u.lane i).ecc then 4 else 0))) })) ∧
  (∀ (i : LaneId) (g0 g1 : BitVec 64) (s : State), s.rd LANE_STAT_VERDICT_PEND ≠ 1 ∨
    s.duplex.verdicts.getD (LaneId.num i) none ≠ none ∨ s.laneLive i = false ∨ (s.lane i).cle.dp0.sigPend = true ∨
    (s.lane i).cle.dp1.sigPend = true → exec (.selfCheckVerdict i g0 g1) s = .next s) ∧
  (∀ (i : LaneId) (s : State), (s.lane i).fwAt = none → exec (.wdtExpiry i) s = .next s) ∧
  (∀ (i : LaneId) (s : State), (s.lane i).fwAt ≠ none →
    ∃ u v w x, u = s.passTo ((s.lane i).wdtAt + 400000 * s.rd PWR_CFG_WDT_MS) ∧
      v = ((if u.mod.phase = .run then u else u.bootFail).laneReset i 1).modDuplex
        (fun d => { d with restart := d.restart.filter fun r => r.lane ≠ i }) ∧
      w = (if u.laneState i = 1 ∨ u.laneState i = 2 ∨ u.laneState i = 3 then v.retire i 5 else v) ∧
      x = (if u.laneState i ≠ 1 then w
        else if u.laneState (LaneId.other i) = 2 then (if w.hold then w else w.startHold)
        else if u.laneState (LaneId.other i) = 3 then
          (w.setLaneState (LaneId.other i) 1 5).cause 0x0E 1 .module 0 none false
        else w.cause 0x0E 1 .module 0 none false) ∧
      exec (.wdtExpiry i) s = .next (if x.on LANE_CFG_AUTO_RESYNC && decide (x.laneState i = 4) then x.startRestart i else x)) ∧
  (∀ (i : LaneId) (ecc : Bool) (s : State),
    ∃ u, u = s.modLane i (fun l => if ecc then { l with ecc := true } else { l with lockstep := true }) ∧
      exec (.laneErrorReport i ecc) s = .next (if u.laneState i = 1 ∧ u.laneState (LaneId.other i) ≠ 2 then
        u.cause 0x0E 1 .module 0 none false else u)) ∧
  (∀ (i : LaneId) (us : Nat) (r : Restart) (s : State), s.duplex.restart = some r → r.lane = i → r.bulkDone = false →
    ∃ u v w, u = s.passTo (r.since + 400 * us) ∧ v = u.modLane i (fun l => l.takeBulk (u.lane u.active)) ∧
      exec (.bulkCopyDone i us) s = .next ((w : State).modDuplex fun d => { d with restart := some { r with bulkDone := true } }) ∧
      w = { v with regs := w.regs, free := v.free + 1 } ∧ regsBut v.regs w.regs [LANE_RESYNC]) ∧
  (∀ (i : LaneId) (r : Restart) (s : State), s.duplex.restart = some r → r.lane = i →
    exec (.resyncTimeout i) s = .next (((s.passTo (r.since + 20000000)).wr LANE_RESYNC_PROGRESS 0).retire i 8)) ∧
  (∀ (i : LaneId) (us : Nat) (s : State), (∀ r, s.duplex.restart = some r → r.lane ≠ i) →
    exec (.bulkCopyDone i us) s = .next s ∧ exec (.resyncTimeout i) s = .next s)

/-- R246, R247, R264, R286: a change of a lane's state: LANE_STAT shows it, RETIRED with its cause and ACTIVE with the lane;
the Sluice takes over the series switches of a lane that is OFF, RESYNC or RETIRED and of no other. R250, R269: in RESYNC a
matching set counts, up to 1,000, and a mismatch counts, clears the count and retires the lane with cause 7; after 1,000
matches the lane is SHADOW at the boundary. -/
def Obligations.LaneStatesAreShownAndResyncIsProved : Prop := LaneStatesAreShown ∧ ResyncLanesProveThemselves

/-! ### Recorder, Rake, injection and journal -/

namespace Sys2Proof.Claims

/-- A fraction of the angle of its source lies in the window of a trigger unit: from ANG_A_LO to ANG_A_HI, through 0 where the
lower bound is the greater (R376). -/
def inWindow (l : Lane) (u : Nat) : Bool :=
  let a := ((l.src (l.rd (REC_TRIG_CFG_ANG_SRC u))).front).toNat
  let lo := l.rd (REC_TRIG_ANG_A_LO u) * 2 ^ 16
  let hi := l.rd (REC_TRIG_ANG_A_HI u) * 2 ^ 16
  (decide (lo ≤ hi) && decide (lo ≤ a) && decide (a ≤ hi)) || (decide (hi < lo) && (decide (lo ≤ a) || decide (a ≤ hi)))

end Sys2Proof.Claims

/-- R376, R378, R379: a trigger unit that is off, or that has no firing due and stands outside its angle window, does nothing; a
firing counts; in ARMED the
firing of a unit in TRIG_MASK becomes the capture's trigger, with CAP_SEQ, POST and the event REC_TRIG, and every other firing is
counted as ignored. -/
def Sys2Proof.Claims.TriggerUnitsFireOnce : Prop :=
  ∀ (i : LaneId) (u frac : Nat) (s : State),
    ∃ d c v, d = ((s.lane i).rec_.units.getD u TrigUnit.reset).due ∧
      c = d.getD { frac := frac, tick := s.now, past := decide (frac ≠ 0), tally := s.mod.tally,
                   off := s.now - (s.lane i).asc.frameTick } ∧
      v = s.modLane i (fun l => l.modRec fun r => { r with units := updAt r.units u fun x => { x with due := none } }) ∧
      ((s.lane i).rd (REC_TRIG_CFG_TYPE u) = 0 ∨
          (d = none ∧ (s.lane i).rd (REC_TRIG_CFG_ANG_EN u) = 1 ∧ inWindow (s.lane i) u = false) →
        exec (.triggerUnitFire (inLane i) u frac) s = .next v) ∧
      ((s.lane i).rd (REC_TRIG_CFG_TYPE u) ≠ 0 →
          (d ≠ none ∨ (s.lane i).rd (REC_TRIG_CFG_ANG_EN u) ≠ 1 ∨ inWindow (s.lane i) u = true) →
        ((s.lane i).rd REC_STAT_STATE = 2 ∧ (s.lane i).rd REC_CFG_TRIG_MASK / 2 ^ u % 2 = 1 →
          exec (.triggerUnitFire (inLane i) u frac) s =
            .next ((v.modLane i fun l => l.bump (REC_TRIG_STAT_FIRED u)).recTake i u c)) ∧
        ((s.lane i).rd REC_STAT_STATE ≠ 2 ∨ (s.lane i).rd REC_CFG_TRIG_MASK / 2 ^ u % 2 = 0 →
          exec (.triggerUnitFire (inLane i) u frac) s = .next
            ((v.modLane i fun l => l.bump (REC_TRIG_STAT_FIRED u)).modLane i fun l => l.bump (REC_TRIG_STAT_IGNORED u))))

/-- R379 to R381, R386, R389: the recorder goes from FILLING to ARMED after PRE, closes its capture POST after the trigger point,
reports REC_DONE when ring 0 has taken a capture and is then IDLE with nothing left of captures or continuous records, and re-arms from WAIT_SPACE when a whole
window has room. Rake stops after FRAMES frames with its event. An injection whose end has come clears its RUN bit and reports
why: 2 its frames, 3 a fault or a thread that left SWITCHING. -/
def Sys2Proof.Claims.RecorderRakeAndInjectionEnd : Prop :=
  (∀ (i : LaneId) (s : State),
    ((s.lane i).rd REC_STAT_STATE = 1 ∧ (s.lane i).rd REC_CFG_MODE = 0 → exec (.recPreDone (inLane i)) s = .next
      ((s.passTo ((s.lane i).rec_.armedAt + 4000 * (s.lane i).rd REC_WIN_PRE)).modLane i fun l => l.wr REC_STAT_STATE 2)) ∧
    ((s.lane i).rd REC_STAT_STATE ≠ 1 ∨ (s.lane i).rd REC_CFG_MODE = 1 → exec (.recPreDone (inLane i)) s = .next s)) ∧
  (∀ (i : LaneId) (s : State),
    ((s.lane i).rec_.cap = none → exec (.recPostDone (inLane i)) s = .next s) ∧
    ∀ c, (s.lane i).rec_.cap = some c → exec (.recPostDone (inLane i)) s = .next
      ((s.passTo (c.point.tick + 4000 * (s.lane i).rd REC_WIN_POST)).recClose i false)) ∧
  (∀ (i : LaneId) (s : State),
    ((s.lane i).rec_.stored = [] → exec (.recDrained (inLane i)) s = .next
      (if (s.lane i).rd REC_STAT_STATE = 4 ∧ s.contLeft i = false then s.modLane i fun l => l.wr REC_STAT_STATE 0 else s)) ∧
    (∀ c rest, (s.lane i).rec_.stored = c :: rest → s.capLeft i c.1 = true → exec (.recDrained (inLane i)) s = .next s) ∧
    (∀ c rest, (s.lane i).rec_.stored = c :: rest → s.capLeft i c.1 = false →
      ∃ u, u = (s.modLane i fun l => l.modRec fun r => { r with stored := rest }).raiseFromOpen i 52 ∧
        exec (.recDrained (inLane i)) s = .next
          (if (s.lane i).rd REC_STAT_STATE = 4 ∧ rest = [] ∧ u.contLeft i = false then u.modLane i fun l => l.wr REC_STAT_STATE 0 else u))) ∧
  (∀ (i : LaneId) (s : State), exec (.waitSpace (inLane i)) s = .next
    (if (s.lane i).rd REC_STAT_STATE = 5 ∧ (s.lane i).roomForWindow = true then s.recFill i else s)) ∧
  (∀ (i : LaneId) (s : State),
    ((s.lane i).rd RAKE_STAT_RUN = 1 ∧ (s.lane i).rec_.rakeFrames ≠ 0 ∧ (s.lane i).rec_.rakeFrames.toNat ≤ s.rakeCount i →
      exec (.rakeFramesDone (inLane i)) s = .next (((s.rakeFlush i).modLane i fun l => l.wr RAKE_STAT_RUN 0).raiseFrom i 53 1)) ∧
    ((s.lane i).rd RAKE_STAT_RUN ≠ 1 ∨ (s.lane i).rec_.rakeFrames = 0 ∨ s.rakeCount i < (s.lane i).rec_.rakeFrames.toNat →
      exec (.rakeFramesDone (inLane i)) s = .next s)) ∧
  (∀ (i : LaneId) (n : Nat) (s : State),
    ((s.lane i).rec_.inject.getD n none = none → exec (.injectionEnd (inLane i) n) s = .next s) ∧
    ∀ j, (s.lane i).rec_.inject.getD n none = some j → exec (.injectionEnd (inLane i) n) s = .next
      (match j.over_, s.injectOver j with
        | none, none => s
        | none, some code => ((s.modLane i fun l => (l.wr ⟨RAKE_STAT, n, n⟩ 0).modRec fun r =>
            { r with inject := r.inject.set n none }).raiseFrom i 53 (256 * n + code))
        | some code, _ => ((s.modLane i fun l => (l.wr ⟨RAKE_STAT, n, n⟩ 0).modRec fun r =>
            { r with inject := r.inject.set n none }).raiseFrom i 53 (256 * n + code)))) ∧
  (∀ (j : Inject) (s : State),
    (s.injectOver j = some 2 → j.body.frames.toNat ≤ (s.mod.tally - j.start).toNat) ∧
    (s.injectOver j = none → (s.mod.tally - j.start).toNat < j.body.frames.toNat ∧
      ∀ n, n < 8 → j.body.thrMask.getLsbD n = true → s.rd (SYS_THREAD_STATE_T n) = 2 ∨ n ∉ s.maskOrAll j.body.thrMask.toNat))

/-- R40, R390 to R394, R259: a journal record gets the next SEQ, and with 64 uncommitted records the newest of them is lost
and counted; a commit writes the whole queue, in order, to a store that keeps the newest 16,384, leaves none pending, and
records the Tally in MRAM; firmware records stall within 5 µs, are taken from the active lane, withheld in HOLD, and taken
from another lane only with SHADOW_FW. Completion, on conditions on the state and the operands alone, is stated for:
jrnlFwCode, journalCommit. -/
def Obligations.JournalKeepsItsRecords : Prop :=
  (∀ (src code flags : Nat) (data : List Byte) (s : State), ∃ t r, t = s.journalAdd src code flags data ∧
    t.journal.queue = (if 64 ≤ s.journal.queue.length then s.journal.queue.dropLast else s.journal.queue) ++ [r] ∧
    r.seq = s.journal.created + 1 ∧ t.journal.created = s.journal.created + 1 ∧ r.tally = s.mod.tally ∧
    r.data.length = 32 ∧ t.rd JRNL_STAT_PEND = t.journal.queue.length % 128 ∧
    t = { s with regs := t.regs, journal := t.journal } ∧ regsBut s.regs t.regs [JRNL_STAT] ∧
    t.rd JRNL_STAT_LOST = (if 64 ≤ s.journal.queue.length then min (s.rd JRNL_STAT_LOST + 1) 255 else s.rd JRNL_STAT_LOST)) ∧
  (∀ s : State, s.journal.store.length ≤ 16384 → ∃ t, t = s.commitJournal ∧ t.journal.queue = [] ∧
    t.journal.store = (s.journal.store ++ s.journal.queue).drop (s.journal.store.length + s.journal.queue.length - 16384) ∧
    t.mod = { s.mod with recorded := s.mod.tally } ∧ t.rd JRNL_STAT_PEND = 0) ∧
  (∀ s : State, s.power.shutdown = none → exec .journalCommit s = .next s.commitJournal) ∧
  (∀ (i : LaneId) (code : BitVec 16) (s : State),
    ∃ u data, u = (match (s.lane i).fwRec with
        | some t => s.passTo (t + 2000)
        | none => s).modLane i (fun l => { l with fwRec := some (match (s.lane i).fwRec with
          | some t => max s.now (t + 2000)
          | none => s.now) }) ∧
      data = (List.range 8).flatMap (fun k => bytesOf ((u.lane i).regs.get (JRNL_FW_DATA k))) ∧
      (u.active = i ∨ u.rd JRNL_CFG_SHADOW_FW ≠ 1 → u.hold = true → exec (.jrnlFwCode i code) s = .next
        (u.modDuplex fun d => { d with withheld := d.withheld ++ [(i, .fwRecord code data)] })) ∧
      (u.active = i → u.hold = false → exec (.jrnlFwCode i code) s =
        .next (u.journalAdd 0x0A code.toNat (if i = .a then 0 else 2) data)) ∧
      (u.active ≠ i → u.rd JRNL_CFG_SHADOW_FW = 1 → exec (.jrnlFwCode i code) s =
        .next (u.journalAdd 0x0A code.toNat (if i = .a then 4 else 6) data)) ∧
      (u.active ≠ i → u.rd JRNL_CFG_SHADOW_FW ≠ 1 → u.hold = false → exec (.jrnlFwCode i code) s = .next u))

/-- R376, R378, R379: a trigger unit that is off, or that has no firing due and stands outside its angle window, does
nothing; a firing counts; in ARMED the firing of a unit in TRIG_MASK becomes the capture's trigger, with CAP_SEQ, POST and
the event REC_TRIG, and every other firing is counted as ignored. R379 to R381, R386, R389: the recorder goes from FILLING to
ARMED after PRE, closes its capture POST after the trigger point, reports REC_DONE when ring 0 has taken a capture and is
then IDLE with nothing left of captures or continuous records, and re-arms from WAIT_SPACE when a whole window has room. Rake
stops after FRAMES frames with its event. An injection whose end has come clears its RUN bit and reports why: 2 its frames, 3
a fault or a thread that left SWITCHING. Completion, on conditions on the state and the operands alone, is stated for:
triggerUnitFire, recPreDone, recPostDone, recDrained, waitSpace, rakeFramesDone, injectionEnd. -/
def Obligations.TriggersRecorderRakeAndInjection : Prop := TriggerUnitsFireOnce ∧ RecorderRakeAndInjectionEnd

/-! ### Host commands -/

namespace Sys2Proof.Claims

/-- The state with the place in staging order that a command takes. -/
def placed (s : State) : State := s.modHost fun x => { x with order := x.order + 1 }

/-- The command that a host-command row stands for. -/
def cmdOf (s : State) (h : Hdr) (c : HostCmd) : Cmd :=
  { tag := 1000, head := (if h.sq < 16 then s.rd (HQ_SQ_STAT_HEAD h.sq) else 0), hdr := h, cmd := c, staged := true,
    order := s.host.order, refusal := none, fetched := s.mod.tally, at_ := s.now, xid := 0, netSrc := 0, netMinor := 3,
    netMajor := 2, got := 0 }

/-- A command outside a commit group finds the commit stage open, and its staging finds nothing to refuse (R342, R343). -/
def Ready (s : State) (h : Hdr) (c : HostCmd) : Prop :=
  h.group = false ∧ s.mod.phase = .run ∧ s.hold = false ∧ s.power.exiting = none ∧ s.rd SYS_STATE_CHECK_FAIL ≠ 1 ∧
    (placed s).stageCheck (cmdOf s h c) = none

/-- The command commits with an effect, turns off in safe order the legs that it has disabled, and starts again as OFF those
that it has enabled, and completes with a result; a SOFT reset that it asked for follows its completion (R195, R342, R451). -/
def Commits (i : Instr) (s : State) (h : Hdr) (c : HostCmd) (f : State → State) (r : Result) : Prop :=
  exec i s = .next (((placed s).legsAfter (f (placed s))).complete (cmdOf s h c) r).softReset

/-- The command is refused with a status and changes nothing but for its completion (R338). -/
def Refuses (i : Instr) (s : State) (h : Hdr) (c : HostCmd) (status : Nat) : Prop :=
  exec i s = .next ((placed s).complete (cmdOf s h c) (Result.of status)).softReset

/-- The threads that a mask names. -/
def named (m : BitVec 8) (t : Nat) : Prop := m.getLsbD t = true

/-- A mask names threads that are not configured (R30). -/
def absent (s : State) (m : BitVec 8) : Prop := ∃ t, t < 8 ∧ named m t ∧ s.present t = false

end Sys2Proof.Claims

/-- R26, R30 to R32, R36, R195, R225, R230, R338, R341: the commands that move threads. ARM takes OFF threads to ARMED,
DISARM takes ARMED and SWITCHING threads to OFF, SET_MODE with a run mode takes ARMED threads to SWITCHING and with STOP asks
SWITCHING threads to stop; a mask with an absent thread is refused with RANGE, another state with STATE, and a refused
command moves no thread. A thread not named stays. Completion, on conditions on the state and the operands alone, is stated
for: setMode, arm, disarm. -/
def Obligations.ThreadCommandsMoveThreads : Prop :=
  (∀ (h : Hdr) (thr : BitVec 8) (s : State), Ready s h (.arm thr) →
    (absent s thr → Refuses (.arm h thr) s h (.arm thr) 0x05) ∧
    (¬ absent s thr → s.armRefused = true ∨ (∃ t, t < 8 ∧ named thr t ∧ s.armable t = false) →
      Refuses (.arm h thr) s h (.arm thr) 0x04) ∧
    (¬ absent s thr → s.armRefused = false → (∀ t, t < 8 → named thr t → s.armable t = true) →
      ∃ f, Commits (.arm h thr) s h (.arm thr) f Result.ok ∧
        (∀ t, t < 8 → named thr t → (f (placed s)).thread t = 1 ∧ ∀ g, g ∈ legsOf t →
          (f (placed s)).faults.pulseBlock.getD g false = false) ∧
        (∀ t, t < 8 → ¬ named thr t → (f (placed s)).thread t = s.thread t))) ∧
  (∀ (h : Hdr) (thr : BitVec 8) (s : State), Ready s h (.disarm thr) →
    (absent s thr → Refuses (.disarm h thr) s h (.disarm thr) 0x05) ∧
    (¬ absent s thr → (∃ t, t < 8 ∧ named thr t ∧ s.thread t ≠ 1 ∧ s.thread t ≠ 2) → Refuses (.disarm h thr) s h (.disarm thr) 0x04) ∧
    (¬ absent s thr → (∀ t, t < 8 → named thr t → s.thread t = 1 ∨ s.thread t = 2) →
      ∃ f, Commits (.disarm h thr) s h (.disarm thr) f Result.ok ∧
        (∀ t, t < 8 → named thr t → (f (placed s)).thread t = 0 ∧ t ∉ (f (placed s)).mod.stopPend) ∧
        (∀ t, t < 8 → ¬ named thr t → (f (placed s)).thread t = s.thread t))) ∧
  (∀ (h : Hdr) (thr : BitVec 8) (mode : BitVec 16) (s : State), Ready s h (.setMode thr mode) →
    (absent s thr → Refuses (.setMode h thr mode) s h (.setMode thr mode) 0x05) ∧
    (¬ absent s thr → (∃ t, t < 8 ∧ named thr t ∧ s.thread t ≠ (if mode.toNat % 16 = 0 then 2 else 1)) →
      Refuses (.setMode h thr mode) s h (.setMode thr mode) 0x04) ∧
    (¬ absent s thr → (∀ t, t < 8 → named thr t → s.thread t = (if mode.toNat % 16 = 0 then 2 else 1)) →
      ∃ f, Commits (.setMode h thr mode) s h (.setMode thr mode) f Result.ok ∧
        (∀ t, t < 8 → named thr t → (f (placed s)).thread t = 2 ∧
          memRd (f (placed s)).mod.setpoints (47 + 16 * t) = mode.setWidth 32 ∧
          (t ∈ (f (placed s)).mod.stopPend ↔ mode.toNat % 16 = 0)) ∧
        (∀ t, t < 8 → ¬ named thr t → (f (placed s)).thread t = s.thread t)))

/-- R139, R165, R166, R172, R173, R320, R321, R338, R341, R407: commands that carry values. NOP changes nothing; SET_SETPOINT
writes its words with the Tally of the boundary; TRAJ_SEGMENT finds its unit as the stops and ends of that boundary leave it
and joins its unit's queue in both lanes, or is refused with RANGE or NO_SPACE; TRAJ_STOP stops the named units; GROUP_START
needs eight frames of notice, and a module that follows no leader; IO_WRITE is refused while a field channel is silent;
TIME_ADJUST and LANE_CONTROL act at the boundary. Completion, on conditions on the state and the operands alone, is stated
for: nop, setSetpoint, trajSegment, trajStop, ioWrite, timeAdjust, groupStart, laneControl. -/
def Obligations.ValueCommandsTakeEffect : Prop :=
  (∀ (h : Hdr) (s : State), Ready s h .nop → Commits (.nop h) s h .nop id Result.ok) ∧
  (∀ (h : Hdr) (ps : List (Nat × Nat × Word)) (s : State), Ready s h (.setSetpoint ps) →
    Commits (.setSetpoint h ps) s h (.setSetpoint ps) (fun u => ps.foldl (fun v p => v.writeSetpoint p.2.1 p.2.2) u) Result.ok) ∧
  (∀ (k : Nat) (v : Word) (s : State), ∃ t, t = s.writeSetpoint k v ∧ memRd t.mod.setpoints k = v ∧
    (∀ j, j ≠ k → memRd t.mod.setpoints j = memRd s.mod.setpoints j) ∧
    (∃ x, x ∈ t.mod.setpointAt ∧ x.key = k ∧ x.tally = s.mod.tally ∧ x.at_ = s.now) ∧
    t = { s with mod := { s.mod with setpoints := t.mod.setpoints, setpointAt := t.mod.setpointAt } }) ∧
  (∀ (h : Hdr) (b : SegBody) (s : State), Ready s h (.trajSegment b) →
    ∃ v, v = (fun i => (placed s).aheadUnit i b.unit.toNat) ∧
      ((v s.active).segCheck b false = 0 → Commits (.trajSegment h b) s h (.trajSegment b)
        (fun u => (u.modLane .a fun l => l.queueSeg (v .a) b u.mod.tally).modLane .b fun l => l.queueSeg (v .b) b u.mod.tally)
        Result.ok) ∧
      ((v s.active).segCheck b false = 1 → Refuses (.trajSegment h b) s h (.trajSegment b) 0x05) ∧
      (1 < (v s.active).segCheck b false → Refuses (.trajSegment h b) s h (.trajSegment b) 0x09)) ∧
  (∀ (h : Hdr) (units : BitVec 4) (s : State), Ready s h (.trajStop units) →
    Commits (.trajStop h units) s h (.trajStop units) (fun u => u.bothLanes fun l =>
      { l with traj := l.traj.mapIdx fun k t => if units.getLsbD k then { t with stopReq := some u.mod.tally } else t }) Result.ok) ∧
  (∀ (h : Hdr) (units : BitVec 4) (at_ : BitVec 64) (s : State), Ready s h (.groupStart units at_) →
    (at_.toNat < s.mod.tally.toNat + 8 → Refuses (.groupStart h units at_) s h (.groupStart units at_) 0x05) ∧
    (s.mod.tally.toNat + 8 ≤ at_.toNat → s.rd GRP_STAT_ROLE = 2 → Refuses (.groupStart h units at_) s h (.groupStart units at_) 0x04) ∧
    (s.mod.tally.toNat + 8 ≤ at_.toNat → s.rd GRP_STAT_ROLE ≠ 2 →
      Commits (.groupStart h units at_) s h (.groupStart units at_) (fun u => if s.rd GRP_STAT_ROLE = 1 then
        (u.scheduleStart units at_).grpSend (.start units at_) else u.scheduleStart units at_) Result.ok)) ∧
  (∀ (h : Hdr) (mask val : BitVec 16) (s : State), Ready s h (.ioWrite mask val) →
    (s.anySilent = true → Refuses (.ioWrite h mask val) s h (.ioWrite mask val) 0x04) ∧
    (s.anySilent = false → Commits (.ioWrite h mask val) s h (.ioWrite mask val) (fun u =>
      (u.commitDo mask val false).modHost fun x => { x with ioBits := x.ioBits ||| mask }) Result.ok)) ∧
  (∀ (h : Hdr) (mode : Nat) (sec : BitVec 64) (nsec : Word) (s : State), Ready s h (.timeAdjust mode sec nsec) →
    Commits (.timeAdjust h mode sec nsec) s h (.timeAdjust mode sec nsec) (fun u => u.timeAdjust mode sec nsec) Result.ok) ∧
  (∀ (h : Hdr) (i : LaneId) (action : Nat) (s : State), Ready s h (.laneControl i action) →
    (s.laneControlOk i action = false → Refuses (.laneControl h i action) s h (.laneControl i action) 0x04) ∧
    (s.laneControlOk i action = true → Commits (.laneControl h i action) s h (.laneControl i action)
      (fun u => u.laneControl i action) Result.ok))

/-- R62, R117, R128 to R130, R338, R341, R348, R375, R379, R380, R386, R387: commands on registers, snapshots, laws, and
records. WRITE_REGS gives each write of MEAS_FIR_DATA its tap as it is staged and checks every pair before it applies any;
LOAD_COEFF writes an inactive bank of both lanes; SWAP_BANK changes the active banks, once at a boundary; LOAD_PROGRAM loads
an image that passes every check; SCHED_WRITE writes entries; READ_SNAPSHOT returns the kept snapshot, or one of this
boundary; the recorder, Rake and the injections start and stop in both lanes. Completion, on conditions on the state and the
operands alone, is stated for: writeRegs, readSnapshot, loadCoeff, swapBank, loadProgram, schedWrite, recArm, recStop,
rakeStart, injectStart. -/
def Obligations.LawAndRecordCommandsTakeEffect : Prop :=
  (∀ (h : Hdr) (buf : Bool) (ps : List (Nat × Word)) (s : State), Ready s h (.writeRegs buf ps) →
    ∃ p q, p = (placed s).stagePairs ps ∧ q = p.1.mergePairs p.2 ∧
      ((∀ x, x ∈ p.2 → p.1.pairStatus q x = 0) → exec (.writeRegs h buf ps) s = .next
        ((p.1.legsAfter (p.2.foldl State.commitPair p.1)).complete (cmdOf s h (.writeRegs buf p.2)) Result.ok).softReset) ∧
      ((∃ x, x ∈ p.2 ∧ p.1.pairStatus q x ≠ 0) → ∃ st k, st ≠ 0 ∧
        (∃ x, p.2[k]? = some x ∧ p.1.pairStatus q x = st) ∧
        (∀ x, x ∈ p.2 → p.1.pairStatus q x ≠ 0 → statusRank st ≤ statusRank (p.1.pairStatus q x)) ∧
        exec (.writeRegs h buf ps) s = .next (p.1.complete (cmdOf s h (.writeRegs buf p.2))
          (if st = 0x05 then { status := 0x05, detail := min 127 (k + 1), index := k }
           else { status := st, detail := 0, index := k })).softReset)) ∧
  (∀ (off : Nat) (v : Word) (ps : List (Nat × Word)) (u : State),
    (off ≠ MEAS_FIR_DATA → u.stagePairs ((off, v) :: ps) = ((u.stagePairs ps).1, (off, v) :: (u.stagePairs ps).2)) ∧
    (off = MEAS_FIR_DATA → ∃ w, w = u.wr MEAS_FIR_ADDR_TAP ((u.rd MEAS_FIR_ADDR_TAP + 1) % 32) ∧
      u.stagePairs ((off, v) :: ps) = ((w.stagePairs ps).1,
        (2 ^ 32 + 32 * u.rd MEAS_FIR_ADDR_SET + u.rd MEAS_FIR_ADDR_TAP % 32, v) :: (w.stagePairs ps).2))) ∧
  (∀ (h : Hdr) (ctx bank off : Nat) (ws : List Word) (s : State), Ready s h (.loadCoeff ctx bank off ws) →
    (s.lane s.active).cle.coefLen ctx < off + ws.length → Refuses (.loadCoeff h ctx bank off ws) s h (.loadCoeff ctx bank off ws) 0x05) ∧
  (∀ (h : Hdr) (ctx bank off : Nat) (ws : List Word) (s : State), Ready s h (.loadCoeff ctx bank off ws) →
    off + ws.length ≤ (s.lane s.active).cle.coefLen ctx → s.host.swapped = [] →
    (bank = (s.lane s.active).rd (CLE_CTX_STAT_BANK ctx) ∨ (s.lane s.active).rd (CLE_CTX_STAT_REBASE_PEND ctx) = 1 →
      Refuses (.loadCoeff h ctx bank off ws) s h (.loadCoeff ctx bank off ws) 0x04) ∧
    (bank ≠ (s.lane s.active).rd (CLE_CTX_STAT_BANK ctx) → (s.lane s.active).rd (CLE_CTX_STAT_REBASE_PEND ctx) ≠ 1 →
      Commits (.loadCoeff h ctx bank off ws) s h (.loadCoeff ctx bank off ws) (fun u => (u.bothLanes fun l =>
        ws.zipIdx.foldl (fun l' w => l'.modCle fun c =>
          { c with data := memWr c.data (l.cle.coefBase ctx (bank = 1) + off + w.2) w.1 }) l).renewRegion) Result.ok)) ∧
  (∀ (h : Hdr) (cs : List Nat) (bumpless : Bool) (s : State), Ready s h (.swapBank cs bumpless) →
    (bumpless = true → (∃ c, c ∈ cs ∧ (s.lane s.active).cle.rebEn c = false) → Refuses (.swapBank h cs bumpless) s h (.swapBank cs bumpless) 0x05) ∧
    (bumpless = false ∨ (∀ c, c ∈ cs → (s.lane s.active).cle.rebEn c = true) →
      ((∃ c, c ∈ cs ∧ ∃ x, x ∈ s.host.swapped ∧ x.1 = c) → Refuses (.swapBank h cs bumpless) s h (.swapBank cs bumpless) 0x04) ∧
      ((∀ c, c ∈ cs → ∀ x, x ∈ s.host.swapped → x.1 ≠ c) → ∃ f, Commits (.swapBank h cs bumpless) s h (.swapBank cs bumpless) f Result.ok ∧
        ∀ u, f u = (u.bothLanes fun l => cs.foldl (fun l c =>
            if bumpless then (l.swapBank c).wr (CLE_CTX_STAT_REBASE_PEND c) 1 else l.swapBank c) l).modHost fun x =>
          { x with swapped := (cs.map fun c => (c, (u.lane u.active).on (CLE_CTX_STAT_REBASE_PEND c))) ++ x.swapped }))) ∧
  (∀ (h : Hdr) (img : Image) (s : State), Ready s h (.loadProgram img) →
    (∀ ctx k, (s.lane s.active).cle.loadCause img = some (ctx, k) → Commits (.loadProgram h img) s h (.loadProgram img) (fun u =>
      u.bothLanes fun l => (l.wr CLE_LOAD_STAT_CTX ctx).wr CLE_LOAD_STAT_CAUSE k) { status := 0x08, detail := 3, index := 0 }) ∧
    ((s.lane s.active).cle.loadCause img = none → (∃ c, c ∈ imgCtxs img ∧ (s.lane s.active).rd (CLE_CTX_CFG_EN c) = 1) →
      Refuses (.loadProgram h img) s h (.loadProgram img) 0x04) ∧
    ((s.lane s.active).cle.loadCause img = none → (∀ c, c ∈ imgCtxs img → (s.lane s.active).rd (CLE_CTX_CFG_EN c) ≠ 1) →
      Commits (.loadProgram h img) s h (.loadProgram img) (fun u =>
        (u.bothLanes fun l => { l with cle := l.cle.load img }).renewRegion) Result.ok)) ∧
  (∀ (h : Hdr) (first : Nat) (es : List EntryWords) (s : State), Ready s h (.schedWrite first es) →
    ((∀ e, e ∈ es → entryBad (s.lane s.active).asc.nInForce e = false) → Commits (.schedWrite h first es) s h (.schedWrite first es)
      (fun u => es.zipIdx.foldl (fun v e => ((v.commitReg .host (SCHED_W0 (first + e.2)) e.1.w0).commitReg .host
        (SCHED_W1 (first + e.2)) e.1.w1).commitReg .host (SCHED_W2 (first + e.2)) e.1.w2) u) Result.ok) ∧
    (∀ k, es.findIdx? (entryBad (s.lane s.active).asc.nInForce) = some k → Commits (.schedWrite h first es) s h
      (.schedWrite first es) id { status := 0x05, detail := min 127 (k + 1), index := k })) ∧
  (∀ (h : Hdr) (set len : Nat) (s : State), Ready s h (.readSnapshot set 1 len) →
    (len < s.snapLen set → Refuses (.readSnapshot h set 1 len) s h (.readSnapshot set 1 len) 0x05) ∧
    (s.snapLen set ≤ len → s.host.snaps.getD set none = none → Refuses (.readSnapshot h set 1 len) s h (.readSnapshot set 1 len) 0x04) ∧
    (s.snapLen set ≤ len → ∀ x, s.host.snaps.getD set none = some x → Commits (.readSnapshot h set 1 len) s h (.readSnapshot set 1 len)
      (fun u => u.returnData (cmdOf s h (.readSnapshot set 1 len)) x.bytes) Result.ok)) ∧
  (∀ (h : Hdr) (set len : Nat) (s : State), Ready s h (.readSnapshot set 0 len) → s.snapLen set ≤ len →
    exec (.readSnapshot h set 0 len) s = .next ((placed s).snapNow (cmdOf s h (.readSnapshot set 0 len)) set).softReset) ∧
  (∀ (h : Hdr) (s : State), Ready s h .recArm →
    (2 ^ 23 < (s.lane s.active).windowSize → Refuses (.recArm h) s h .recArm 0x05) ∧
    ((s.lane s.active).windowSize ≤ 2 ^ 23 → (s.lane s.active).rd REC_STAT_STATE ≠ 0 → Refuses (.recArm h) s h .recArm 0x04) ∧
    ((s.lane s.active).windowSize ≤ 2 ^ 23 → (s.lane s.active).rd REC_STAT_STATE = 0 →
      Commits (.recArm h) s h .recArm (fun u => (u.recFill .a).recFill .b) Result.ok)) ∧
  (∀ (h : Hdr) (s : State), Ready s h .recStop →
    Commits (.recStop h) s h .recStop (fun u => (u.recStop .a).recStop .b) Result.ok) ∧
  (∀ (h : Hdr) (frames : Word) (s : State), Ready s h (.rakeStart frames) →
    Commits (.rakeStart h frames) s h (.rakeStart frames) (fun u => (u.rakeStart .a frames).rakeStart .b frames) Result.ok) ∧
  (∀ (h : Hdr) (b : InjBody) (s : State), Ready s h (.injectStart b) →
    (s.injectOk b = false ∨ absent s b.thrMask → Refuses (.injectStart h b) s h (.injectStart b) 0x05) ∧
    (s.injectOk b = true → ¬ absent s b.thrMask →
      ((∃ t, t ∈ s.maskOrAll b.thrMask.toNat ∧ s.thread t ≠ 2) ∨ (b.kind ≠ 0 ∧ (s.lane s.active).injecting b.node = true) →
        Refuses (.injectStart h b) s h (.injectStart b) 0x04) ∧
      ((∀ t, t ∈ s.maskOrAll b.thrMask.toNat → s.thread t = 2) → (b.kind = 0 ∨ (s.lane s.active).injecting b.node = false) →
        Commits (.injectStart h b) s h (.injectStart b) (fun u => (u.injectStart .a b).injectStart .b b) Result.ok)))

/-- R242 to R245, R391, R426 to R431, R436, R338, R343: fault and security commands. CLEAR_FAULT is refused with LOCKED under
class L, and else clears each target whose causes have gone, with OK, PARTIAL or TRIP_ACTIVE by what it cleared and refused;
LOCKOUT_RESET ends class L by its tag; JOURNAL_READ, ATTEST and FW_STAGE are completed by the Sluice itself in every state.
Completion, on conditions on the state and the operands alone, is stated for: journalRead, clearFault, attest, fwStage,
lockoutReset. -/
def Obligations.FaultAndSecurityCommandsTakeEffect : Prop :=
  (∀ (h : Hdr) (thr : BitVec 8) (aux : BitVec 4) (m : Bool) (s : State), Ready s h (.clearFault thr aux m) →
    (absent s thr → Refuses (.clearFault h thr aux m) s h (.clearFault thr aux m) 0x05) ∧
    (¬ absent s thr → s.faults.classL = true → Refuses (.clearFault h thr aux m) s h (.clearFault thr aux m) 0x07) ∧
    (¬ absent s thr → s.faults.classL = false → ∃ a b c d r,
      a = (List.range 8).foldl (fun u t => if thr.getLsbD t then u.clearTarget (.thread t) ⟨SLC_CLEAR_RES, 24 + t, 24 + t⟩
        ⟨SLC_CLEAR_RES, 16 + t, 16 + t⟩ (fun u => u.clearThread t) else u)
        { placed s with regs := (placed s).regs.set SLC_CLEAR_RES 0 } ∧
      b = (List.range 4).foldl (fun u n => if aux.getLsbD n then u.clearTarget (.aux n) ⟨SLC_CLEAR_RES, 12 + n, 12 + n⟩
        ⟨SLC_CLEAR_RES, 8 + n, 8 + n⟩ (fun u => (u.dropCauses (.aux n)).clearAux n) else u) a ∧
      c = (if m then b.clearTarget .module SLC_CLEAR_RES_MOD_CLEARED SLC_CLEAR_RES_MOD_REFUSED State.clearModule else b) ∧
      d = c.updCauseBits.updModule 0 ∧ Commits (.clearFault h thr aux m) s h (.clearFault thr aux m) (fun _ => d) r ∧
      r = Result.of (if c.rd SLC_CLEAR_RES_THR_REFUSED = 0 ∧ c.rd SLC_CLEAR_RES_AUX_REFUSED = 0 ∧ c.rd SLC_CLEAR_RES_MOD_REFUSED = 0
          then 0
        else if c.rd SLC_CLEAR_RES_THR_CLEARED = 0 ∧ c.rd SLC_CLEAR_RES_AUX_CLEARED = 0 ∧ c.rd SLC_CLEAR_RES_MOD_CLEARED = 0 then 0x06
        else 0x0A))) ∧
  (∀ (scope : Scope) (x y : Fld) (f : State → State) (s : State),
    (s.clearable scope = none → s.clearTarget scope x y f = s) ∧
    (s.clearable scope = some true → s.clearTarget scope x y f = (f s).wr x 1) ∧
    (s.clearable scope = some false → s.clearTarget scope x y f = s.wr y 1)) ∧
  (∀ (h : Hdr) (tag : Word) (s : State), Ready s h (.lockoutReset tag) → s.lockoutStatus = 0 →
    (s.faults.classL = false ∨ tag = s.faults.lockTag → Commits (.lockoutReset h tag) s h (.lockoutReset tag) State.endLockout Result.ok) ∧
    (s.faults.classL = true → tag ≠ s.faults.lockTag → Commits (.lockoutReset h tag) s h (.lockoutReset tag)
      (fun u => u.lockoutRefused 0x08) { status := 0x08, detail := 4, index := 0 })) ∧
  (∀ (h : Hdr) (first : Word) (count len : Nat) (s : State), h.group = false →
    (placed s).stageCheck (cmdOf s h (.journalRead first count len)) = none →
    ∃ u x, exec (.journalRead h first count len) s = .next (((u : State).returnData (cmdOf s h (.journalRead first count len))
        (bytesOf x ++ leBytes 4 ((s.journal.store.filter fun r => first.toNat ≤ r.seq.toNat).take count).length ++
          bytesOf (s.regs.get JRNL_OLDEST) ++ bytesOf (s.regs.get JRNL_NEWEST) ++
          ((s.journal.store.filter fun r => first.toNat ≤ r.seq.toNat).take count).flatMap JRec.bytes)).complete
            (cmdOf s h (.journalRead first count len)) Result.ok) ∧
      (∀ r, ((s.journal.store.filter fun r => first.toNat ≤ r.seq.toNat).take count).head? = some r → x = r.seq ∧ u = placed s) ∧
      (u = placed s ∨ u = { placed s with free := s.free + 1 })) ∧
  (∀ (h : Hdr) (nonce : List Byte) (mode len : Nat) (s : State), h.group = false →
    (placed s).stageCheck (cmdOf s h (.attest nonce mode len)) = none →
    ∃ c, c = cmdOf s h (.attest nonce mode len) ∧
      (s.sec.identity = false → exec (.attest h nonce mode len) s = .next ((placed s).secDone c 0 0 (Result.of 0x04))) ∧
      (s.sec.identity = true → mode = 0 → 4 ≤ s.attWaiting →
        exec (.attest h nonce mode len) s = .next ((placed s).secDone c 0 0 (Result.of 0x09))) ∧
      (s.sec.identity = true → mode ≠ 0 ∨ s.attWaiting < 4 →
        exec (.attest h nonce mode len) s = .next (((placed s).dropCmd c).attest c nonce mode))) ∧
  (∀ (h : Hdr) (type action : Nat) (pkg : Package) (s : State), h.group = false →
    (placed s).stageCheck (cmdOf s h (.fwStage type action pkg)) = none →
    ∃ c, c = cmdOf s h (.fwStage type action pkg) ∧
      (action = 2 → s.rd (slotFld (type - 1) (s.rd (SEC_SLOT_IN_FORCE (type - 1)))) ≠ 2 →
        exec (.fwStage h type action pkg) s = .next ((placed s).secDone c type 0 (Result.of 0x04))) ∧
      (action ≠ 2 ∨ s.rd (slotFld (type - 1) (s.rd (SEC_SLOT_IN_FORCE (type - 1)))) = 2 →
        exec (.fwStage h type action pkg) s = .next (((placed s).dropCmd c).fwStage c type action pkg)))

/-- R35, R338, R342 to R344, R353, R435: what staging and the commit stage do with a command ahead of its effect. Staging reports
the refusal of the highest priority: the opcode, the version, the port's authority, the data read, the ranges; a refused command
has no effect; with CHECK_FAIL every command is refused with STATE; a member of a commit group, and any command while nothing
commits, waits. -/
def Obligations.StagingRefusesByPriority : Prop :=
  (∀ (op : Byte) (c : Cmd) (s : State), c.cmd = .bad op → s.stageCheck c = some (Result.of 0x01)) ∧
  (∀ (c : Cmd) (s : State), (∀ op, c.cmd ≠ .bad op) → needVersion c.hdr c.cmd ≠ (0, 0) →
    verHas (s.cmdVersion c) (needVersion c.hdr c.cmd).1 (needVersion c.hdr c.cmd).2 = false → s.stageCheck c = some (Result.of 0x02)) ∧
  (∀ (c : Cmd) (s : State), (∀ op, c.cmd ≠ .bad op) → (needVersion c.hdr c.cmd = (0, 0) ∨
      verHas (s.cmdVersion c) (needVersion c.hdr c.cmd).1 (needVersion c.hdr c.cmd).2 = true) →
    (∀ r, authCheck c.hdr.sq c.cmd = some r → s.stageCheck c = some r ∧ r.status = 0x03) ∧
    (authCheck c.hdr.sq c.cmd = none → readsBuffer c.hdr c.cmd = true →
      (c.hdr.data = .timeout → s.stageCheck c = some { status := 0x0B, detail := 2, index := 0 }) ∧
      (c.hdr.data = .error → s.stageCheck c = some { status := 0x08, detail := 1, index := 0 })) ∧
    (authCheck c.hdr.sq c.cmd = none → readsBuffer c.hdr c.cmd = false ∨ (c.hdr.data ≠ .timeout ∧ c.hdr.data ≠ .error) →
      s.stageCheck c = s.rangeCheck c)) ∧
  (∀ (h : Hdr) (thr : BitVec 8) (s : State),
    ∃ u c, c = (({ cmdOf s h (.arm thr) with refusal := (placed s).stageCheck (cmdOf s h (.arm thr)) } : Cmd)) ∧
      u = (if c.refusal.any (fun r => r.status = 0x03) then (placed s).noteAuth c else placed s) ∧
      (u.rd SYS_STATE_CHECK_FAIL = 1 → exec (.arm h thr) s = .next (u.complete c (c.refusal.getD (Result.of 0x04)))) ∧
      (u.rd SYS_STATE_CHECK_FAIL ≠ 1 → h.group = true ∨ u.mod.phase ≠ .run ∨ u.hold = true ∨ u.power.exiting ≠ none →
        exec (.arm h thr) s = .next (u.modHost fun x => { x with cmds := x.cmds ++ [c] })) ∧
      (u.rd SYS_STATE_CHECK_FAIL ≠ 1 → h.group = false → u.mod.phase = .run → u.hold = false → u.power.exiting = none →
        ∀ r, c.refusal = some r → exec (.arm h thr) s = .next (u.complete c r).softReset))

/-! ### Rings -/

namespace Sys2Proof.Claims

/-- A stream ring's FLUSH of 0 keeps the one before (R349). -/
def keepFlush (k : QueueKind) (old w : Word) : Word :=
  match k with
  | .str => if w.toNat / 256 % 256 = 0 then withBits w 15 8 (bitsOf old 15 8) else w
  | .sq => w
  | .cq => w

/-- The entries from one pointer of a queue to another (R332, R333). -/
def dist (depth a b : Nat) : Nat := (b + 2 ^ depth - a % 2 ^ depth) % 2 ^ depth

end Sys2Proof.Claims

/-- R332, R333, R344, R353: doorbells and configuration. A tail or a head inside its queue is taken, one beyond what the
queue allows puts it in FAULT with DB_RANGE; the doorbell of a queue that is disabled or in FAULT does nothing; IF_EN applies
the highest version that both sides hold, and none without a common one; while a queue is enabled HQ_CFG keeps IF_EN.
Completion, on conditions on the state and the operands alone, is stated for: sqTail, cqHead, queueEnable, ifEn. -/
def Obligations.DoorbellsAndQueueEnables : Prop :=
  (∀ (q v : Nat) (s : State), s.rd (HQ_SQ_CFG_EN q) ≠ 1 ∨ s.rd (HQ_SQ_STAT_FAULT q) = 1 → exec (.sqTail q v) s = .next s) ∧
  (∀ (q v d n : Nat) (s : State), s.mod.phase ≠ .boot → s.rd (HQ_SQ_CFG_EN q) = 1 → s.rd (HQ_SQ_STAT_FAULT q) ≠ 1 → d = s.rd (HQ_SQ_CFG_DEPTH q) →
    n = dist d (s.rd (HQ_SQ_STAT_HEAD q)) (s.host.sqTail.getD q 0) + dist d (s.host.sqTail.getD q 0) v →
    (v < 2 ^ d ∧ n < 2 ^ d → exec (.sqTail q v) s = .next { s with host := { s.host with sqTail := s.host.sqTail.set q v } }) ∧
    (2 ^ d ≤ v ∨ 2 ^ d ≤ n → exec (.sqTail q v) s = .next
      (((s.wr (HQ_SQ_STAT_FAULT q) 1).wr (HQ_SQ_STAT_CAUSE q) 1).raise 23 q))) ∧
  (∀ (q v : Nat) (s : State), s.rd (HQ_CQ_CFG_EN q) ≠ 1 ∨ s.rd (HQ_CQ_STAT_FAULT q) = 1 → exec (.cqHead q v) s = .next s) ∧
  (∀ (q v d n : Nat) (s : State), s.mod.phase ≠ .boot → s.rd (HQ_CQ_CFG_EN q) = 1 → s.rd (HQ_CQ_STAT_FAULT q) ≠ 1 → d = s.rd (HQ_CQ_CFG_DEPTH q) →
    n = dist d (s.host.cqHead.getD q 0) v →
    (v < 2 ^ d → n < s.cqUsed q → exec (.cqHead q v) s =
      .next { s with host := { s.host with cqHead := s.host.cqHead.set q v } }) ∧
    (v < 2 ^ d → n = s.cqUsed q → exec (.cqHead q v) s =
      .next ((s.modHost fun h => { h with cqHead := h.cqHead.set q v }).levelOff q)) ∧
    (2 ^ d ≤ v ∨ s.cqUsed q < n → exec (.cqHead q v) s = .next
      (((s.wr (HQ_CQ_STAT_FAULT q) 1).wr (HQ_CQ_STAT_CAUSE q) 1).raise 23 (16 + q)))) ∧
  (∀ (v : Word) (s : State), s.mod.phase ≠ .boot → ∃ u, u = (if v.toNat % 65536 = 0 then s else s.wr HQ_CFG_GROUP_TIMEOUT (v.toNat % 65536)) ∧
    (s.anyQueue = true → exec (.ifEn v) s = .next u) ∧
    (s.anyQueue = false → v.toNat / 2 ^ 31 = 0 → exec (.ifEn v) s = .next (u.wr HQ_CFG_IF_EN 0)) ∧
    (s.anyQueue = false → v.toNat / 2 ^ 31 = 1 →
      ∃ lo hi, lo = (u.rd HQ_IF_HOST_LO_MAJ, u.rd HQ_IF_HOST_LO_MIN) ∧ hi = (u.rd HQ_IF_HOST_HI_MAJ, u.rd HQ_IF_HOST_HI_MIN) ∧
        (negotiated lo hi = none → exec (.ifEn v) s = .next ((u.wr HQ_CFG_IF_EN 0).wr HQ_IF_STAT_NO_COMMON 1)) ∧
        ∀ x, negotiated lo hi = some x → ∃ off, exec (.ifEn v) s = .next
          (((((u.wr HQ_CFG_IF_EN 1).wr HQ_IF_STAT_NO_COMMON 0).wr HQ_IF_STAT_MAJ x.1).wr HQ_IF_STAT_MIN x.2).wr HQ_IF_STAT_FEAT_OFF off) ∧
          ∀ k, k < 8 → (off / 2 ^ k % 2 = 1 ↔ x.2 < k ∧ k ≤ (if x.1 = 1 then 4 else 3)))) ∧
  (∀ (k : QueueKind) (q : Nat) (v mask : Word) (s : State),
    s.mod.phase ≠ .boot → mask = (match k with | .sq => 0x0FFFC00F | .cq => 0x001F000F | .str => 0x001FFF0F) →
    ∃ w on, on = v.getLsbD 31 ∧
      w = keepFlush k (s.regs.get (cfgOff k q)) (if (v.toNat % 16) < 4 ∨ 12 < v.toNat % 16 then
            withBits (v &&& (mask ||| 0x80000000)) 3 0 (bitsOf (s.regs.get (cfgOff k q)) 3 0) else v &&& (mask ||| 0x80000000)) ∧
      ((s.regs.get (cfgOff k q)).getLsbD 31 = true → v &&& mask ≠ s.regs.get (cfgOff k q) &&& mask →
        exec (.queueEnable k q v) s = .next s) ∧
      ((s.regs.get (cfgOff k q)).getLsbD 31 = true → v &&& mask = s.regs.get (cfgOff k q) &&& mask →
        exec (.queueEnable k q v) s = .next (if on then { s with regs := s.regs.set (cfgOff k q) w }
          else ({ s with regs := s.regs.set (cfgOff k q) w } : State).disableQueue k q)) ∧
      ((s.regs.get (cfgOff k q)).getLsbD 31 = false → on = true → s.mayEnable k q w = true →
        exec (.queueEnable k q v) s = .next (({ s with regs := s.regs.set (cfgOff k q) w } : State).enableQueue k q)) ∧
      ((s.regs.get (cfgOff k q)).getLsbD 31 = false → on = false ∨ s.mayEnable k q w = false →
        exec (.queueEnable k q v) s = .next { s with regs := s.regs.set (cfgOff k q) (withBits w 31 31 0) }))

/-- R333, R334, R337, R342, R344, R349 to R351, R458: commands and streams in the rings. The device fetches from the queue
that its round robin serves among those that R334 allows, and the descriptor, read from its bytes, takes a tag, its place in
its SQ and an entry of its CQ; a failed read puts the SQ in FAULT; staging finishes when the data are read, and not during an
exit from a power state; an open commit group is marked when its time has passed; stream records go into posted buffers until
there is none, and a flush closes the open buffer. Completion, on conditions on the state and the operands alone, is stated
for: strTail, descriptorFetch, stagingDone, commitGroupTimeout, streamRecordWrite, streamFlush. -/
def Obligations.RingsFetchStageAndStream : Prop :=
  (∀ s : State, (∀ q, q < 16 → s.mayFetch q = false) → s.host.turn < 16 → s.nextSq = none) ∧
  (∀ (q : Nat) (s : State), s.nextSq = some q → s.mayFetch q = true ∧
    (q ≠ s.host.turn → s.mayFetch s.host.turn = false ∨ s.rd (HQ_SQ_CFG_WEIGHT s.host.turn) < s.host.served)) ∧
  (∀ (q : Nat) (d : Descriptor) (s : State), s.nextSq ≠ some q → exec (.descriptorFetch q d) s = .next s) ∧
  (∀ (q : Nat) (s : State), s.nextSq = some q → exec (.descriptorFetch q .failed) s = .next
    ((((s.serve q).wr (HQ_SQ_STAT_FAULT q) 1).wr (HQ_SQ_STAT_CAUSE q) 2).raise 23 q)) ∧
  (∀ (q tag : Nat) (bytes : List Byte) (buf : DataBuf) (s : State), s.nextSq = some q → s.freeTagIn 0 128 = some tag →
    exec (.descriptorFetch q (.read bytes buf)) s = .next
      (((s.serve q).fetch q tag (descAt q bytes buf).1 (descAt q bytes buf).2).startExit none)) ∧
  (∀ (q : Nat) (bytes : List Byte) (buf : DataBuf), ∃ h, h = (descAt q bytes buf).1 ∧ h.sq = q ∧
    h.cmdId.toNat = (bytes.getD 2 0).toNat + 256 * (bytes.getD 3 0).toNat ∧
    h.group = (bytes.getD 1 0).getLsbD 0 ∧ h.last = (bytes.getD 1 0).getLsbD 1 ∧
    h.commitId.toNat = (bytes.getD 4 0).toNat + 2 ^ 8 * (bytes.getD 5 0).toNat + 2 ^ 16 * (bytes.getD 6 0).toNat +
      2 ^ 24 * (bytes.getD 7 0).toNat) ∧
  (∀ (q : Nat) (s : State), ∃ t, t = s.serve q ∧ t.host.turn = q ∧
    t.host.served = (if s.host.turn = q ∧ s.host.served ≤ s.rd (HQ_SQ_CFG_WEIGHT q) then s.host.served + 1 else 1)) ∧
  (∀ (q tag : Nat) (h : Hdr) (cmd : HostCmd) (s : State), q < 16 → s.mayFetch q = true → s.freeTagIn 0 128 = some tag →
    ∃ c t, t = s.fetch q tag h cmd ∧ t.host.cmds = s.host.cmds ++ [c] ∧ c.tag = tag ∧ tag < 128 ∧
      (∀ x, x ∈ s.openCmds → x.tag ≠ tag) ∧ c.cmd = cmd ∧ c.hdr = { h with sq := q } ∧ c.staged = false ∧
      c.fetched = s.mod.tally ∧ t.rd (HQ_SQ_STAT_HEAD q) = (s.rd (HQ_SQ_STAT_HEAD q) + 1) % 2 ^ s.rd (HQ_SQ_CFG_DEPTH q) % 4096 ∧
      t = { s with regs := t.regs, host := t.host }) ∧
  (∀ (tag : Nat) (data : DataRead) (s : State), (∀ c, c ∈ s.host.cmds → ¬ (c.tag = tag ∧ tag < 128 ∧ c.staged = false)) →
    exec (.stagingDone tag data) s = .next s) ∧
  (∀ (tag : Nat) (data : DataRead) (c : Cmd) (s : State),
    s.host.cmds.find? (fun c => c.tag = tag && c.tag < 128 && !c.staged) = some c →
    exec (.stagingDone tag data) s = .next (if s.power.exiting = none then s.stageCmd c data else s)) ∧
  (∀ (q : Nat) (s : State), (∀ u, u ∈ s.sqUnits q → u.closed = true) → exec (.commitGroupTimeout q) s = .next s) ∧
  (∀ (q : Nat) (u : CmdUnit) (c : Cmd) (s : State), (s.sqUnits q).find? (fun x => !x.closed) = some u → u.cmds.head? = some c →
    exec (.commitGroupTimeout q) s = .next
      (if c.fetched.toNat + s.rd HQ_CFG_GROUP_TIMEOUT ≤ s.mod.tally.toNat + 1 then s.timeOut u else s)) ∧
  (∀ (r v : Nat) (posted : List PostedBuf) (s : State), s.rd (HQ_STR_CFG_EN r) ≠ 1 ∨ 2 ^ s.rd (HQ_STR_CFG_DEPTH r) ≤ v →
    exec (.strTail r v posted) s = .next s) ∧
  (∀ (r v : Nat) (posted : List PostedBuf) (s : State), s.mod.phase ≠ .boot → s.rd (HQ_STR_CFG_EN r) = 1 → v < 2 ^ s.rd (HQ_STR_CFG_DEPTH r) →
    (∀ b, b ∈ posted → PostedBuf.ok b = true) →
    exec (.strTail r v posted) s = .next (s.modHost fun h => { h with rings := updAt h.rings r fun x =>
      { x with tail := v, posted := x.posted ++
          posted.take (dist (s.rd (HQ_STR_CFG_DEPTH r)) (s.host.rings.getD r StrRing.reset).tail v) } })) ∧
  (∀ (r v : Nat) (b : PostedBuf) (s : State), s.mod.phase ≠ .boot → s.rd (HQ_STR_CFG_EN r) = 1 → v < 2 ^ s.rd (HQ_STR_CFG_DEPTH r) →
    dist (s.rd (HQ_STR_CFG_DEPTH r)) (s.host.rings.getD r StrRing.reset).tail v = 1 → PostedBuf.ok b = false →
    ∃ u e, u = s.modHost (fun h => { h with rings := updAt h.rings r fun x => { x with tail := v, posted := x.posted ++ [b] } }) ∧
      e = (s.host.rings.getD r StrRing.reset).tail % 2 ^ s.rd (HQ_STR_CFG_DEPTH r) ∧
      exec (.strTail r v [b]) s = .next (u.writeEntry r b.addr
        { ring := r, entry := e, used := 0, recs := 0, gap := false, flushed := false, bad := true, phase := u.strPhase r e })) ∧
  (∀ (r : Nat) (s : State), s.rd (HQ_STR_CFG_EN r) ≠ 1 ∨ (s.ring r).store = [] ∨
    ((s.ring r).open_ = none ∧ (s.ring r).posted = []) → exec (.streamRecordWrite r) s = .next s) ∧
  (∀ (r : Nat) (x : StrRec) (rest : List StrRec) (b : OpenBuf) (s : State), s.rd (HQ_STR_CFG_EN r) = 1 →
    (s.ring r).store = x :: rest → (s.ring r).open_ = some b →
    (b.used + x.bytes ≤ b.buf.len → exec (.streamRecordWrite r) s =
      .next ((s.modRing r fun y => { y with store := rest }).putRec r b x)) ∧
    (b.buf.len < b.used + x.bytes → exec (.streamRecordWrite r) s =
      .next (State.takeRec ((s.ring r).posted.length + 3) (s.closeBuf r false) r))) ∧
  (∀ (r : Nat) (s : State), (s.ring r).open_ = none → exec (.streamFlush r) s = .next s) ∧
  (∀ (r : Nat) (b : OpenBuf) (s : State), (s.ring r).open_ = some b → exec (.streamFlush r) s = .next
    (if b.recs = 0 then s else (s.passTo (b.since + 400000 * s.rd (HQ_STR_CFG_FLUSH r))).closeBuf r true))

/-! ### Register writes and reads -/

namespace Sys2Proof.Claims

/-- A write stages for the next boundary, behind what has been staged before it (R329). -/
def stagedAt (s : State) (off : Nat) (v : Word) : State :=
  s.modHost fun h => { h with order := h.order + 1, staged := h.staged ++ [{ order := h.order, off := off, val := v }] }

/-- What a row that writes an RWS, RWL or WO register of the coherent window does: nothing during BOOT and from a core of a lane
that is not active; a writer without authority is refused with AUTH_PORT, and every write with STATE under CHECK_FAIL; else the
write is staged (R26, R35, R329, R435, R468, R470). -/
def StagesAt (row : Writer → Word → Instr) (off : Nat) : Prop :=
  ∀ (who : Writer) (v : Word) (s : State),
    (s.mod.phase = .boot → exec (row who v) s = .next s) ∧
    (s.mod.phase ≠ .boot → who = .debug → exec (row who v) s = .next (s.mmioRefuse off 0x03)) ∧
    (s.mod.phase ≠ .boot → ∀ i, coreLane who = some i → i ≠ s.active → exec (row who v) s = .next s) ∧
    (s.mod.phase ≠ .boot → coreLane who = some s.active → needsMore off = true →
      exec (row who v) s = .next (s.mmioRefuse off 0x03)) ∧
    (s.mod.phase ≠ .boot → heard s who off → s.rd SYS_STATE_CHECK_FAIL = 1 → exec (row who v) s = .next (s.mmioRefuse off 0x04)) ∧
    (s.mod.phase ≠ .boot → heard s who off → s.rd SYS_STATE_CHECK_FAIL ≠ 1 → exec (row who v) s = .next (stagedAt s off v))

end Sys2Proof.Claims

/-- R20, R26, R35, R49, R176, R195, R201, R212, R219, R294, R314, R323, R329, R398, R399, R414, R435, R451, R470: the register
writes with a row of their own stage for the next boundary, in order. -/
def Sys2Proof.Claims.RegisterRowsStage : Prop :=
  (∀ n, n < 4 → StagesAt (fun who v => .angStep who n v) (ASC_S_STEP n)) ∧
  (∀ n, n < 4 → StagesAt (fun who v => .angLoad who n v) (ASC_S_LOAD_CTRL n)) ∧
  StagesAt .preset TRAJ_PRESET_SEL ∧
  StagesAt (fun who v => .legDis who false v) PWM_LEG_DIS0 ∧
  StagesAt (fun who v => .legDis who true v) PWM_LEG_DIS1 ∧
  StagesAt .disAll PWM_CTRL ∧
  StagesAt .glReneg GL_RENEG ∧
  (∀ n, n < 4 → StagesAt (fun who v => .auxRun who n v) (AUX_CH_CTRL n)) ∧
  StagesAt .envelopeLock SLC_ENV_LOCK ∧
  (∀ n, n < 4 → StagesAt (fun who v => .soReq who n v) (SAFE_SO_CTRL n)) ∧
  StagesAt .doOut FIO_DO_OUT ∧
  StagesAt .doRearm FIO_DO_REARM ∧
  StagesAt .clkNdiv CLK_NDIV ∧
  StagesAt .clkDither CLK_DITHER ∧
  StagesAt .grpRestart GRP_CTRL ∧
  StagesAt .softReset PWR_RESET ∧
  (∀ (p : Port) (v : Word) (s : State), p ≠ .host → p ≠ .service → exec (.maintReq p v) s = .next s) ∧
  (∀ (p : Port) (v : Word) (s : State), p = .host ∨ p = .service → s.mod.phase ≠ .boot → s.rd SYS_STATE_CHECK_FAIL ≠ 1 →
    exec (.maintReq p v) s = .next (stagedAt s SYS_CTRL v)) ∧
  (∀ (v : Word) (s : State), s.mod.phase ≠ .boot → s.rd SYS_STATE_CHECK_FAIL ≠ 1 →
    ∃ t tap, tap = 2 ^ 32 + 32 * s.rd MEAS_FIR_ADDR_SET + s.rd MEAS_FIR_ADDR_TAP % 32 ∧
      exec (.firDataWrite .host v) s = .next t ∧
      t.host.staged = s.host.staged ++ [{ order := s.host.order, off := tap, val := v }] ∧
      t.rd MEAS_FIR_ADDR_TAP = (s.rd MEAS_FIR_ADDR_TAP + 1) % 32 ∧ t.rd MEAS_FIR_ADDR_SET = s.rd MEAS_FIR_ADDR_SET ∧
      t = { s with regs := t.regs, host := { s.host with staged := t.host.staged, order := s.host.order + 1 } })

/-- R36, R49, R195, R201, R212, R219, R294, R314, R323, R398, R399, R414, R419, R451: what those writes do at their commit: a step
adds to the steps that wait, in both lanes, and not on the frame source of a
follower or on an encoder's source; MAINT is accepted in READY only and left by
clearing the request; the envelope lock is set and never cleared; the others reach their unit. -/
def Sys2Proof.Claims.CommittedWritesTakeEffect : Prop :=
  (∀ (who : Writer) (n : Nat) (v : Word) (s : State), n < 4 → s.followsSrc .a n = false → s.followsSrc .b n = false →
    s.laneA.srcMode n = 0 → s.laneB.srcMode n = 0 → s.commitReg who (ASC_S_STEP n) v = s.bothLanes fun l =>
      { l with regs := l.regs.set (ASC_S_STEP n) (l.regs.get (ASC_S_STEP n) + v) }) ∧
  (∀ (who : Writer) (n : Nat) (v : Word) (s : State), n < 4 → s.followsSrc .a n = true ∨ s.laneA.srcMode n ≠ 0 →
    s.followsSrc .b n = true ∨ s.laneB.srcMode n ≠ 0 → s.commitReg who (ASC_S_STEP n) v = s ∧ s.commitReg who (ASC_S_LOAD_CTRL n) v = s) ∧
  (∀ (who : Writer) (v : Word) (s : State),
    ∃ ok : Bool, (ok = true ↔ v.getLsbD 0 = true ∧ (s.mod.maint = true ∨ s.rd SYS_STATE_STATE = 2)) ∧
      s.commitReg who SYS_CTRL v = ((s.wr SYS_CTRL_MAINT_REQ (if ok then 1 else 0)).modMod fun m => { m with maint := ok }).updModule 0) ∧
  (∀ (who : Writer) (v : Word) (s : State), ∃ t, t = s.commitReg who SLC_ENV_LOCK v ∧
    t.rd SLC_ENV_LOCK_ENVELOPE_LOCK = (if v.getLsbD 0 then 1 else s.rd SLC_ENV_LOCK_ENVELOPE_LOCK) ∧
    t = { s with regs := t.regs } ∧ regsBut s.regs t.regs [SLC_ENV_LOCK]) ∧
  (∀ (who : Writer) (v : Word) (s : State), s.commitReg who GL_RENEG v =
    (List.range 8).foldl (fun u t => if v.getLsbD t then u.negotiateThread t else u) s) ∧
  (∀ (who : Writer) (n : Nat) (v : Word) (s : State), n < 4 →
    s.commitReg who (AUX_CH_CTRL n) v = s.setAuxRun n (v.getLsbD 0)) ∧
  (∀ (n : Nat) (s : State), n < 4 → ∃ t, t = s.setAuxRun n false ∧ t.rd (AUX_CH_CTRL_RUN n) = 0 ∧
    ∀ k, (t.aux.getD n Aux.reset).pins.getD k false = false) ∧
  (∀ (who : Writer) (v : Word) (s : State), s.commitReg who FIO_DO_OUT v = s.commitDo (~~~s.host.ioBits) (v.setWidth 16) true) ∧
  (∀ (who : Writer) (v : Word) (s : State), s.commitReg who FIO_DO_REARM v =
    { s with field := { s.field with rearm := s.field.rearm ||| v.setWidth 16 } }) ∧
  (∀ (who : Writer) (v : Word) (s : State), s.clock.nAt ≠ 0 → s.now < s.clock.nAt + 4000 →
    s.commitReg who CLK_NDIV v = { s with regs := s.regs.set CLK_NDIV v, clock := { s.clock with nWait := some v.toNat } }) ∧
  (∀ (who : Writer) (v : Word) (s : State), s.clock.nAt + 4000 ≤ s.now →
    s.commitReg who CLK_NDIV v = { s with regs := s.regs.set CLK_NDIV v,
                                          clock := { s.clock with nInForce := v.toNat, nAt := s.now, nWait := none } }) ∧
  (∀ (who : Writer) (v : Word) (s : State), ∃ t, t = s.commitReg who CLK_DITHER v ∧
    t.clock = { s.clock with seed := BitVec.ofNat 23 (t.rd CLK_DITHER_SEED), seedAt := s.now } ∧ regsBut s.regs t.regs [CLK_DITHER]) ∧
  (∀ (who : Writer) (v : Word) (s : State), s.commitReg who GRP_CTRL v = if v.getLsbD 0 then s.startForming else s) ∧
  (∀ (who : Writer) (v : Word) (s : State), s.commitReg who PWR_RESET v =
    if v.getLsbD 0 = true ∧ v.toNat / 2 ^ 16 = 0x50F7 then { s with power := { s.power with softPend := true } } else s)

/-- R44, R85, R326, R327, R330, R435, R453, R467, R470: reads with an effect, the watchdog, the lane views and plain writes.
Before the end of BOOT the windows discard writes and read ones; a writer without authority is refused with AUTH_PORT, and a
core of the lane that is not active is not heard. SYS_TALLY_LO latches the high half for its reader, whose first read of
SYS_TALLY_HI after it takes that half, and every further one the live half; a read of MEAS_FIR_DATA gives the tap and
advances TAP; a watchdog service starts its time again; a lane view takes host writes in MAINT only, and an access of BAR0
that is misaligned or of another size is discarded and recorded, the read returning ones; one of 64 bits is two of 32, the
lower address first. Completion, on conditions on the state and the operands alone, is stated for: sqTail, cqHead, strTail,
preSleep, queueEnable, ifEn, tallyLoRead, firDataRead, tsNsRead, tsSRead, ptpStampRead, claim, complete, pendWrite, vecIdle,
timerWrite, msixUnmask, timeIncNs, timeNowNsRead, cmpArm, cmpTargetWrite, syncWrite, wdtService, laneViewWrite, regWrite. -/
def Obligations.ReadsViewsAndPlainWrites : Prop :=
  (∀ (q v : Nat) (posted : List PostedBuf) (k : QueueKind) (w : Word) (s : State), s.mod.phase = .boot →
    exec (.sqTail q v) s = .next s ∧ exec (.cqHead q v) s = .next s ∧ exec (.strTail q v posted) s = .next s ∧
    exec .preSleep s = .next s ∧ exec (.queueEnable k q w) s = .next s ∧ exec (.ifEn w) s = .next s ∧
    exec (.complete (.vec q) v) s = .next s ∧ exec (.pendWrite q w) s = .next s ∧ exec (.vecIdle q w) s = .next s ∧
    exec (.timerWrite w) s = .next s ∧ exec (.msixUnmask q) s = .next s) ∧
  (∀ (n : Nat) (who : Requester) (s : State), s.mod.phase = .boot →
    ∃ t, t = { s with readData := [0xFFFFFFFF] } ∧ exec (.tallyLoRead who) s = .next t ∧ exec (.firDataRead who) s = .next t ∧
      exec .tsNsRead s = .next t ∧ exec .tsSRead s = .next t ∧ exec (.ptpStampRead n) s = .next t ∧
      exec (.timeNowNsRead who) s = .next t ∧ exec (.claim (.vec n)) s = .next t) ∧
  (∀ (who : Writer) (c : Nat) (v : Word) (s : State), c < 4 →
    s.mod.phase = .boot ∨ (∃ i, coreLane who = some i ∧ i ≠ s.active) →
    exec (.timeIncNs who v) s = .next s ∧ exec (.syncWrite who v) s = .next s ∧ exec (.cmpArm who c v) s = .next s ∧
      ∀ part, exec (.cmpTargetWrite who c part v) s = .next s) ∧
  (∀ (c : Nat) (v : Word) (s : State), c < 4 → s.mod.phase ≠ .boot →
    exec (.timeIncNs .debug v) s = .next (s.mmioRefuse TIME_INC_NS 0x03) ∧
    exec (.syncWrite .debug v) s = .next (s.mmioRefuse TIME_CTRL 0x03) ∧
    exec (.cmpArm .debug c v) s = .next (s.mmioRefuse (TIME_CMP_CTRL c) 0x03) ∧
    exec (.cmpTargetWrite .debug c .sLo v) s = .next (s.mmioRefuse (TIME_CMP_S_LO c) 0x03) ∧
    exec (.cmpTargetWrite .debug c .sHi v) s = .next (s.mmioRefuse (TIME_CMP_S_HI c) 0x03) ∧
    exec (.cmpTargetWrite .debug c .ns v) s = .next (s.mmioRefuse (TIME_CMP_NS c) 0x03)) ∧
  (∀ (who : Requester) (s : State), s.mod.phase ≠ .boot → exec (.tallyLoRead who) s = .next { s with
    readData := [BitVec.ofNat 32 s.mod.tally.toNat],
    mod := { s.mod with latch := (who, BitVec.ofNat 32 (s.mod.tally.toNat / 2 ^ 32)) :: s.mod.latch.filter fun x => x.1 ≠ who } }) ∧
  (∀ (who : Requester) (s : State), s.mod.phase ≠ .boot → ∃ t, exec (.firDataRead who) s = .next t ∧
    t.rd MEAS_FIR_ADDR_TAP = (s.rd MEAS_FIR_ADDR_TAP + 1) % 32 ∧ regsBut s.regs t.regs [MEAS_FIR_ADDR] ∧
    t = { s with regs := t.regs,
                 readData := [memRd (s.lane s.active).meas.fir (32 * s.rd MEAS_FIR_ADDR_SET + s.rd MEAS_FIR_ADDR_TAP % 32)] }) ∧
  (∀ (i : LaneId) (s : State), exec (.wdtService i) s = .next (s.modLane i fun l => { l with wdtAt := s.now })) ∧
  (∀ (who : Writer) (i : LaneId) (off : Nat) (v : Word) (s : State),
    (s.mod.phase = .boot → exec (.laneViewWrite who i off v) s = .next s) ∧
    (s.mod.phase ≠ .boot → who = .host →
      (s.viewStatus i off v = 0 → exec (.laneViewWrite who i off v) s = .next (s.writeView i off v)) ∧
      (s.viewStatus i off v ≠ 0 → exec (.laneViewWrite who i off v) s = .next
        (s.mmioRecord ((if i = .a then 0x40000 else 0x80000) + off) (s.viewStatus i off v)))) ∧
    (s.mod.phase ≠ .boot → ∀ j, coreLane who = some j → j ≠ i → exec (.laneViewWrite who i off v) s = .next s) ∧
    (s.mod.phase ≠ .boot → coreLane who = some i → s.viewStatus i off v = 0 →
      exec (.laneViewWrite who i off v) s = .next (s.writeView i off v))) ∧
  (∀ (i : LaneId) (off : Nat) (v : Word) (s : State), s.rd SYS_STATE_STATE ≠ 8 → s.viewStatus i off v ≠ 0) ∧
  (∀ (who : Writer) (off size : Nat) (v : BitVec 64) (s : State),
    (s.mod.phase = .boot ∨ 0x100000 ≤ off → exec (.regWrite who off size v) s = .next s) ∧
    (s.mod.phase ≠ .boot → off < 0x100000 →
      (size = 32 → off % 4 = 0 → exec (.regWrite who off size v) s = .next (s.barWrite who off (v.setWidth 32))) ∧
      (size = 64 → off % 8 = 0 → exec (.regWrite who off size v) s = .next
        ((s.barWrite who off (v.setWidth 32)).barWrite who (off + 4) ((v >>> 32).setWidth 32))) ∧
      ((size ≠ 32 ∨ off % 4 ≠ 0) → (size ≠ 64 ∨ off % 8 ≠ 0) →
        exec (.regWrite who off size v) s = .next (s.mmioRecord off 0x05)))) ∧
  (∀ (who : Requester) (s u : State), s.mod.phase ≠ .boot → u.mod.phase ≠ .boot →
    ∃ t, exec (.tallyLoRead who) s = .next t ∧ (u.mod.latch = t.mod.latch →
      (u.read who SYS_TALLY_HI 32).readData = [BitVec.ofNat 32 (s.mod.tally.toNat / 2 ^ 32)] ∧
      ((u.read who SYS_TALLY_HI 32).read who SYS_TALLY_HI 32).readData = [BitVec.ofNat 32 (u.mod.tally.toNat / 2 ^ 32)])) ∧
  (∀ (who : Requester) (off size : Nat) (s : State), s.mod.phase ≠ .boot → (size ≠ 32 ∨ off % 4 ≠ 0) → (size ≠ 64 ∨ off % 8 ≠ 0) →
    s.read who off size = { s.mmioRecord off 0x05 with readData := [0xFFFFFFFF] }) ∧
  (∀ (who : Requester) (off : Nat) (s : State), s.mod.phase ≠ .boot → off % 8 = 0 →
    ∃ lo hi, lo = s.read who off 32 ∧ hi = lo.read who (off + 4) 32 ∧
      s.read who off 64 = { hi with readData := lo.readData ++ hi.readData })

/-- R20, R26, R35, R49, R176, R195, R201, R212, R219, R294, R314, R323, R329, R398, R399, R414, R435, R451, R470: the
register writes with a row of their own stage for the next boundary, in order. R36, R49, R195, R201, R212, R219, R294, R314,
R323, R398, R399, R414, R419, R451: what those writes do at their commit: a step adds to the steps that wait, in both lanes,
and not on the frame source of a follower or on an encoder's source; MAINT is accepted in READY only and left by clearing the
request; the envelope lock is set and never cleared; the others reach their unit. Completion, on conditions on the state and
the operands alone, is stated for: maintReq, angStep, angLoad, firDataWrite, preset, legDis, disAll, glReneg, auxRun,
envelopeLock, soReq, doOut, doRearm, clkNdiv, clkDither, grpRestart, softReset. -/
def Obligations.RegisterRowsStageAndTakeEffect : Prop := RegisterRowsStage ∧ CommittedWritesTakeEffect

/-- R36, R44, R49, R176, R195, R201, R212, R219, R294, R314, R323, R329, R332, R333, R344, R353, R372, R398, R399, R414,
R451, R453: the rows of the host and of the cores on their ordinary operands. A write of the host to a staged register of its
own row stages, in READY as in any state behind BOOT without CHECK_FAIL; a doorbell inside its queue, the enables of an
interface and of its queues, the message of a vector ahead of sleep, the latched read and the watchdog service take effect at
once. Completion, on conditions on the state and the operands alone, is stated for: sqTail, cqHead, preSleep, queueEnable,
ifEn, maintReq, tallyLoRead, angStep, angLoad, preset, legDis, disAll, glReneg, auxRun, envelopeLock, soReq, doOut, doRearm,
clkNdiv, clkDither, grpRestart, softReset, wdtService. -/
def Obligations.RowsCompleteOnOrdinaryOperands : Prop :=
  (∀ (n : Nat) (v : Word) (s : State), n < 4 → s.mod.phase ≠ .boot → s.rd SYS_STATE_CHECK_FAIL ≠ 1 →
    exec (.angStep .host n v) s = .next (stagedAt s (ASC_S_STEP n) v) ∧
    exec (.angLoad .host n v) s = .next (stagedAt s (ASC_S_LOAD_CTRL n) v) ∧
    exec (.auxRun .host n v) s = .next (stagedAt s (AUX_CH_CTRL n) v) ∧
    exec (.soReq .host n v) s = .next (stagedAt s (SAFE_SO_CTRL n) v)) ∧
  (∀ (v : Word) (s : State), s.mod.phase ≠ .boot → s.rd SYS_STATE_CHECK_FAIL ≠ 1 →
    exec (.maintReq .host v) s = .next (stagedAt s SYS_CTRL v) ∧
    exec (.maintReq .service v) s = .next (stagedAt s SYS_CTRL v) ∧
    exec (.preset .host v) s = .next (stagedAt s TRAJ_PRESET_SEL v) ∧
    exec (.legDis .host false v) s = .next (stagedAt s PWM_LEG_DIS0 v) ∧
    exec (.legDis .host true v) s = .next (stagedAt s PWM_LEG_DIS1 v) ∧
    exec (.disAll .host v) s = .next (stagedAt s PWM_CTRL v) ∧
    exec (.glReneg .host v) s = .next (stagedAt s GL_RENEG v) ∧
    exec (.envelopeLock .host v) s = .next (stagedAt s SLC_ENV_LOCK v) ∧
    exec (.doOut .host v) s = .next (stagedAt s FIO_DO_OUT v) ∧
    exec (.doRearm .host v) s = .next (stagedAt s FIO_DO_REARM v) ∧
    exec (.clkNdiv .host v) s = .next (stagedAt s CLK_NDIV v) ∧
    exec (.clkDither .host v) s = .next (stagedAt s CLK_DITHER v) ∧
    exec (.grpRestart .host v) s = .next (stagedAt s GRP_CTRL v) ∧
    exec (.softReset .host v) s = .next (stagedAt s PWR_RESET v)) ∧
  (∀ (q v d : Nat) (s : State), s.mod.phase ≠ .boot → s.rd (HQ_SQ_CFG_EN q) = 1 → s.rd (HQ_SQ_STAT_FAULT q) = 0 → d = s.rd (HQ_SQ_CFG_DEPTH q) →
    s.rd (HQ_SQ_STAT_HEAD q) ≤ s.host.sqTail.getD q 0 → s.host.sqTail.getD q 0 ≤ v → v < 2 ^ d →
    exec (.sqTail q v) s = .next { s with host := { s.host with sqTail := s.host.sqTail.set q v } }) ∧
  (∀ (q v d : Nat) (s : State), s.mod.phase ≠ .boot → s.rd (HQ_CQ_CFG_EN q) = 1 → s.rd (HQ_CQ_STAT_FAULT q) = 0 → d = s.rd (HQ_CQ_CFG_DEPTH q) →
    s.host.cqHead.getD q 0 ≤ v → v < s.rd (HQ_CQ_STAT_TAIL q) → s.rd (HQ_CQ_STAT_TAIL q) < 2 ^ d →
    exec (.cqHead q v) s = .next { s with host := { s.host with cqHead := s.host.cqHead.set q v } }) ∧
  (∀ (s : State), (∀ v, v < 32 → (s.vec v).count = 0) → exec .preSleep s = .next s) ∧
  (∀ (v : Nat) (s : State), v < 32 → s.eic.vecs.length = 32 → 0 < (s.vec v).count →
    (∀ x, x < 32 → x ≠ v → (s.vec x).count = 0) → s.mod.phase ≠ .boot → exec .preSleep s = .next (s.sendVec v)) ∧
  (∀ (v : Word) (s : State), s.mod.phase ≠ .boot → s.anyQueue = false → v.toNat < 2 ^ 31 → v.toNat % 65536 ≠ 0 →
    exec (.ifEn v) s = .next ((s.wr HQ_CFG_GROUP_TIMEOUT (v.toNat % 65536)).wr HQ_CFG_IF_EN 0)) ∧
  (∀ (q : Nat) (s : State), s.mod.phase ≠ .boot → s.rd HQ_CFG_IF_EN = 1 → q < 8 → (s.regs.get (HQ_CQ_CFG q)).getLsbD 31 = false →
    exec (.queueEnable .cq q 0x80000008) s = .next
      ((({ s with regs := s.regs.set (HQ_CQ_CFG q) 0x80000008 } : State).enableQueue .cq q))) ∧
  (∀ (who : Requester) (s : State), s.mod.phase ≠ .boot → ∃ t, exec (.tallyLoRead who) s = .next t ∧
    t.readData = [BitVec.ofNat 32 s.mod.tally.toNat] ∧ (who, BitVec.ofNat 32 (s.mod.tally.toNat / 2 ^ 32)) ∈ t.mod.latch ∧
    t = { s with readData := t.readData, mod := { s.mod with latch := t.mod.latch } }) ∧
  (∀ (i : LaneId) (s : State), exec (.wdtService i) s = .next (s.modLane i fun l => { l with wdtAt := s.now }))

/-! ### Security and network ports -/

/-- R423 to R428, R432, R433: the engine ends a package check: a package that fails a step is recorded and completes with
CHECK_FAIL and that step, and nothing else of it takes effect; a checked firmware package is written to the slot not in
force, which is EMPTY meanwhile, STAGED and preferred at the end, and no longer about it than R428 says; a debug token is
taken with every thread OFF, for its minutes; packages of the other types wait for a boundary, where they apply with every
thread OFF and complete with STATE otherwise; a token in force ends at its time or with a reset of any kind. Completion, on
conditions on the state and the operands alone, is stated for: packageCheckDone, debugTokenExpiry. -/
def Obligations.PackagesAreCheckedBeforeUse : Prop :=
  (∀ s : State, (∀ c type action pkg rest, s.sec.queue ≠ .check c type action pkg :: rest) → exec .packageCheckDone s = .next s) ∧
  (∀ (c : Cmd) (type action : Nat) (pkg : Package) (rest : List EngOp) (s : State), s.sec.queue = .check c type action pkg :: rest →
    ∃ u, u = s.engineNext (960000 + 400000 * pkg.len / 2 ^ 20) ∧
      (u.checkStep type pkg ≠ 0 → exec .packageCheckDone s = .next
        (((((u.wr SEC_LAST_STATUS 0x08).wr SEC_LAST_TYPE type).wr SEC_LAST_STEP (u.checkStep type pkg)).journalAdd 0x09
          (u.checkStep type pkg) 0 [BitVec.ofNat 8 type] |> fun v => if type ≠ 0 then v.raise 65 0x08 else v).complete c
            { status := 0x08, detail := 4, index := 0 })) ∧
      (u.checkStep type pkg = 0 → type ≤ 4 → exec .packageCheckDone s = .next (u.startWrite c type pkg)) ∧
      (u.checkStep type pkg = 0 → 4 < type → ∀ nonce scope minutes, pkg.content = .debugToken nonce scope minutes →
        exec .packageCheckDone s = .next (if u.allOff then (u.acceptToken scope minutes).secDone c type 0 Result.ok
          else u.secDone c type 0 (Result.of 0x04))) ∧
      (u.checkStep type pkg = 0 → 4 < type → (∀ nonce scope minutes, pkg.content ≠ .debugToken nonce scope minutes) →
        exec .packageCheckDone s = .next { u with sec := { u.sec with waiting := u.sec.waiting ++ [(c, pkg)] } })) ∧
  (∀ (n : Nat) (s : State), ∃ u, u = s.passTo (s.sec.engineAt + n) ∧ s.engineNext n =
    (({ u with sec := { u.sec with queue := u.sec.queue.drop 1, engineAt := u.now } } : State).wr SEC_ATT_STAT_QUEUED
      (({ u with sec := { u.sec with queue := u.sec.queue.drop 1, engineAt := u.now } } : State).attWaiting))) ∧
  (∀ (c : Cmd) (type : Nat) (pkg : Package) (s : State), 1 ≤ type → type ≤ 4 →
    ∃ u d, u = s.startWrite c type pkg ∧ d ≤ 4000000 + 3200000 * (8672 + pkg.len) / 2 ^ 20 - (960000 + 400000 * pkg.len / 2 ^ 20) ∧
      u.sec.writing = s.sec.writing ++ [{ cmd := some c, type := type, pkg := pkg, until_ := s.now + d }] ∧
      u.slotPkg (type - 1) (1 - s.rd (SEC_SLOT_IN_FORCE (type - 1))) = none ∧
      u.rd (slotFld (type - 1) (1 - s.rd (SEC_SLOT_IN_FORCE (type - 1)))) = 0 ∧
      u.rd (SEC_SLOT_PREFERRED (type - 1)) = s.rd (SEC_SLOT_IN_FORCE (type - 1))) ∧
  (∀ (w : SlotWrite) (s : State), s.sec.writing = [w] →
    (s.now < w.until_ → s.endWrites = s) ∧
    (w.until_ ≤ s.now → ∃ u, u = ({ s with sec := { s.sec with writing := [] } } : State).writeSlot (w.type - 1) w.pkg ∧
      (w.cmd = none → s.endWrites = u) ∧ ∀ c, w.cmd = some c → s.endWrites = u.secDone c w.type 0 Result.ok)) ∧
  (∀ (t : Nat) (pkg : Package) (s : State), t < 4 → s.sec.slotA.length = 4 → s.sec.slotB.length = 4 →
    ∃ u b, u = s.writeSlot t pkg ∧ b = 1 - s.rd (SEC_SLOT_IN_FORCE t) ∧ u.slotPkg t b = some pkg ∧ u.rd (slotFld t b) = 1 ∧
      u.rd (SEC_SLOT_PREFERRED t) = b ∧ u.rd (SEC_SLOT_FAIL_CNT t) = 0 ∧
      u.rd (SEC_SLOT_IN_FORCE t) = s.rd (SEC_SLOT_IN_FORCE t) ∧ u.slotPkg t (1 - b) = s.slotPkg t (1 - b)) ∧
  (∀ (type : Nat) (pkg : Package) (s : State), s.checkStep type pkg = 0 →
    pkg.layoutOk = true ∧ pkg.type = type ∧ pkg.svn ≤ 128 ∧ pkg.rootOk = true ∧ pkg.keyIdx ≤ 15 ∧
      s.rd SEC_REVOKE_KEY / 2 ^ pkg.keyIdx % 2 = 0 ∧ pkg.keySigOk = true ∧ pkg.pkgSigOk = true ∧ pkg.hashOk = true ∧
      (pkg.device = s.deviceId ∨ (pkg.device = 0 ∧ type < 7)) ∧ s.svnFloor type ≤ pkg.svn ∧ s.ownChecks pkg = true) ∧
  (∀ s : State, s.sec.tokenEnd = none → exec .debugTokenExpiry s = .next s) ∧
  (∀ (t : Nat) (s : State), s.sec.tokenEnd = some t → exec .debugTokenExpiry s = .next (s.passTo t).endToken) ∧
  (∀ (i : LaneId) (kind : Nat) (s : State), (s.laneReset i kind).sec.tokenEnd = none ∧ s.endpointReset.sec.tokenEnd = none) ∧
  (∀ (c : Cmd) (pkg : Package) (s : State), s.allOff = false → s.applyPkg c pkg = s.secDone c pkg.type 0 (Result.of 0x04))

/-- R430, R431, R437, R458: quotes and the network ports. A signing ends after the time of its rounds, and its ATTEST
completes at most 1 ms later: within 256 rounds it returns the quote and completes OK, beyond them with TIMEOUT and no quote;
a descriptor frame of a port that is off or with another EtherType is discarded, a seventeenth open transaction gets
NO_SPACE, and one whose data are complete is staged; a transaction whose data do not come within 10 ms is staged with the
failed read. Completion, on conditions on the state and the operands alone, is stated for: signingDone, netDescriptor,
netDataFragment, netDataTimeout. -/
def Obligations.QuotesAndNetworkTransactions : Prop :=
  (∀ (rounds late : Nat) (s : State), (∀ c body rest, s.sec.queue ≠ .sign c body :: rest) → exec (.signingDone rounds late) s = .next s) ∧
  (∀ (rounds late : Nat) (c : Cmd) (body : List Byte) (rest : List EngOp) (s : State), s.sec.queue = .sign c body :: rest →
    ∃ ms e w u v, ms = (600 + 680 * min rounds 256 + 999) / 1000 ∧ e = s.engineNext (400 * (600 + 680 * min rounds 256)) ∧
      w = e.passTo (e.now + 400 * min late 1000) ∧
      u = { w with sec := { w.sec with nonces := w.sec.nonces + 1 } } ∧
      v = ((u.wr SEC_LAST_ROUNDS (min rounds 255)).wr SEC_ATT_STAT_LAST_MS (min ms 255)).wr SEC_ATT_STAT_MAX_MS
        (max (u.rd SEC_ATT_STAT_MAX_MS) (min ms 255)) ∧
      (256 < rounds → exec (.signingDone rounds late) s = .next (v.secDone c 0 0 { status := 0x0B, detail := 3, index := 0 })) ∧
      (rounds ≤ 256 → exec (.signingDone rounds late) s = .next
        ((v.returnData c (body ++ padTo 3309 0 (Config.signature body u.sec.nonces))).secDone c 0 0 Result.ok))) ∧
  (∀ (f : NetFrame) (s : State), s.rd SEC_NET_CFG_PORT_EN / 2 ^ NetPort.num f.port % 2 = 0 ∨ f.etype.toNat ≠ s.rd SEC_NET_CFG_ETYPE →
    exec (.netDescriptor f) s = .next s) ∧
  (∀ (f : NetFrame) (s : State), s.rd SEC_NET_CFG_PORT_EN / 2 ^ NetPort.num f.port % 2 = 1 → f.etype.toNat = s.rd SEC_NET_CFG_ETYPE →
    ∃ (u : State) (c : Cmd), u = (s.startExit none).modHost (fun h => { h with order := h.order + 1 }) ∧
      c = { tag := c.tag, head := 0, hdr := (descAt (16 + NetPort.num f.port) f.bytes f.buf).1,
            cmd := (descAt (16 + NetPort.num f.port) f.bytes f.buf).2, staged := false, order := s.host.order, refusal := none, fetched := s.mod.tally, at_ := s.now,
            xid := f.xid, netSrc := f.src, netMinor := f.verMin.toNat, netMajor := f.verMaj.toNat, got := 0 } ∧
      (u.freeTagIn (128 + 16 * NetPort.num f.port) 16 = none → c.tag = 999 ∧
        exec (.netDescriptor f) s = .next (u.complete c (Result.of 0x09))) ∧
      (∀ tag, u.freeTagIn (128 + 16 * NetPort.num f.port) 16 = some tag → c.tag = tag ∧
        ∃ v, v = u.modHost (fun h => { h with cmds := h.cmds ++ [c] }) ∧
          (netVersionOk f.verMaj f.verMin = false → exec (.netDescriptor f) s = .next (v.putCmd
            { c with refusal := some (Result.of (match c.cmd with | .bad _ => 0x01 | _ => 0x02)), staged := true })) ∧
          (netVersionOk f.verMaj f.verMin = true → readsBuffer c.hdr c.cmd = true → noData c.hdr = false →
            exec (.netDescriptor f) s = .next v) ∧
          (netVersionOk f.verMaj f.verMin = true → (readsBuffer c.hdr c.cmd = false ∨ noData c.hdr = true) →
            exec (.netDescriptor f) s = .next (v.stageCmd c .none)))) ∧
  (∀ (p : NetPort) (xid : Word) (off len : Nat) (last : Bool) (s : State), s.netWaiting p xid = none →
    exec (.netDataFragment p xid off len last) s = .next s ∧ exec (.netDataTimeout p xid) s = .next s) ∧
  (∀ (p : NetPort) (xid : Word) (off len : Nat) (last : Bool) (c : Cmd) (s : State), s.netWaiting p xid = some c →
    (1472 < len ∨ c.got < off → exec (.netDataFragment p xid off len last) s = .next s) ∧
    (len ≤ 1472 → off ≤ c.got → ∃ d, d = { c with got := max c.got (off + len) } ∧
      exec (.netDataFragment p xid off len last) s = .next
        (if max (bufferLen c.cmd) c.hdr.dataAddr.toNat ≤ max c.got (off + len) then s.stageCmd d .ok else s.putCmd d)) ∧
    exec (.netDataTimeout p xid) s = .next ((s.passTo (c.at_ + 4000000)).stageCmd c .timeout))

/-! ### Power, resets and start-up -/

/-- R441, R443, R445 to R449: the supplies. PGOOD falling, or VDD33 below the reset level, starts the power-loss shutdown of
a running module, which blocks every leg, writes the Tally to MRAM and ends at 0.41 ms; VDD33 below its warning level raises
BOD_WARN and commits the journal, and the class B cause BOD after 1 ms; its return ends both. Completion, on conditions on
the state and the operands alone, is stated for: journalCommit, pgoodFall, vholdLow, bodWarn, bod, bor, bodRecovery, vbatLow.
-/
def Obligations.SupplyEventsStopTheModule : Prop :=
  (∀ s : State, s.power.pgood = true → ∃ u, u = { s with power := { s.power with pgood := false } } ∧
    (s.power.inReset = true ∨ s.power.shelved = true ∨ s.power.shutdown ≠ none → exec .pgoodFall s = .next u) ∧
    (s.power.inReset = false → s.power.shelved = false → s.power.shutdown = none → exec .pgoodFall s = .next (u.startShutdown 0))) ∧
  (∀ s : State, s.power.pgood = false → exec .pgoodFall s = .next s) ∧
  (∀ (cause : Nat) (s : State), ∃ t, t = s.startShutdown cause ∧ t.power.shutdown = some s.now ∧ t.power.shutCause = cause ∧
    t.mod.recorded = s.mod.tally ∧ t.mod.tally = s.mod.tally ∧ t.journal.crust.tally = s.mod.tally ∧
    t.journal.crust.flags.getLsbD 0 = true) ∧
  (∀ (t0 : Nat) (s : State), s.power.shutdown = some t0 →
    ∃ u v, u = (s.passTo (t0 + 160000)).commitJournal ∧
      v = u.modJournal (fun j => { j with crust := { j.crust with flags := j.crust.flags ||| 2 } }) ∧
      exec .journalCommit s = .next (v.passTo (t0 + 164000)).endShutdown) ∧
  (∀ s : State, s.power.shutdown ≠ none → exec .vholdLow s = .next s.endShutdown) ∧
  (∀ s : State, s.power.shutdown = none → ∃ t, exec .vholdLow s = .next t ∧ t.rd PWR_VHOLD_HOLD_OK = 0 ∧
    t.rd PWR_VHOLD_VHOLD < 500 ∧ regsBut s.regs t.regs [PWR_VHOLD] ∧ t = { s with regs := t.regs, free := s.free + 1 }) ∧
  (∀ (mv : Nat) (s : State), s.power.inReset = true → exec (.bodWarn mv) s = .next s) ∧
  (∀ (mv : Nat) (s : State), s.power.inReset = false → s.power.warnSince ≠ none →
    exec (.bodWarn mv) s = .next { s with power := { s.power with lowest := min s.power.lowest mv } }) ∧
  (∀ (mv : Nat) (s : State), s.power.inReset = false → s.power.warnSince = none →
    ∃ u, u = ((((s.modPower fun p => { p with warnSince := some s.now, dips := p.dips + 1, lowest := min p.lowest mv }).wr
        PWR_BOD_WARN_LIVE 1).wr PWR_BOD_SEEN 1).bump PWR_BOD_WARN_CNT).levelOn 63 0 ∧
      ((∃ t, s.power.warnRecAt = some t ∧ s.now ≤ t + 40000000) →
        exec (.bodWarn mv) s = .next (u.raise 21 (0x40 + 256 * 3)).commitJournal) ∧
      ((∀ t, s.power.warnRecAt = some t → t + 40000000 < s.now) → ∃ v, v = (u.cause 0x40 3 .module 0 none true).journalAdd 0x08
          0x0006 0 (leBytes 4 (min (2 ^ 32 - 1) u.power.dips) ++
            leBytes 2 (min 65535 u.power.lowest)) ∧
        exec (.bodWarn mv) s = .next (v.modPower fun p =>
          { p with warnRecAt := some v.now, dips := 0, lowest := 3300 }).commitJournal)) ∧
  (∀ (t : Nat) (s : State), s.power.warnSince = some t → s.power.inReset = false → s.causeActive 0x10 0 = false →
    exec .bod s = .next ((s.passTo (t + 400000)).cause 0x10 1 .module 0 none true)) ∧
  (∀ s : State, s.power.warnSince = none ∨ s.power.inReset = true ∨ s.causeActive 0x10 0 = true → exec .bod s = .next s) ∧
  (∀ s : State, exec .bodRecovery s = .next
    (((({ s with power := { s.power with warnSince := none } } : State).wr PWR_BOD_WARN_LIVE 0).levelOff 63).causeEnd 0x10 0)) ∧
  (∀ s : State,
    (s.power.shutdown ≠ none → exec .bor s = .next { s with power := { s.power with heldReset := some 2 } }) ∧
    (s.power.shutdown = none → s.power.inReset = true ∨ s.power.shelved = true →
      exec .bor s = .next { s with power := { s.power with bor := true } }) ∧
    (s.power.shutdown = none → s.power.inReset = false → s.power.shelved = false → exec .bor s = .next
      ((if s.causeActive 0x10 0 then s else s.cause 0x10 1 .module 0 none true).startShutdown 1))) ∧
  (∀ s : State, exec .vbatLow s = .next { s with journal := { s.journal with
    crust := { s.journal.crust with flags := s.journal.crust.flags ||| 8 } } })

/-- R34, R40, R354, R445, R449 to R455, R460, R496: resets. A reset boots the module with its cause, with the Tally at the
next multiple of 2^32 above the one in MRAM, in BOOT, with nothing waiting; RST_N blocks the legs, commits the journal and
holds the module in reset until it rises; held for 10 s it is recorded, and by the policy released and ignored until it has
been high for 100 ms; an endpoint reset clears the HOST port alone. Completion, on conditions on the state and the operands
alone, is stated for: por, pinReset, rstNRelease, stuckReset, rstNRearm, perst, flr, shelvedExit, borRelease. -/
def Obligations.ResetsBootTheModule : Prop :=
  (∀ (cause low : Nat) (stuck : Bool) (s : State), cause < 8 → ∃ t, t = s.boot cause stuck low ∧
    t.mod.tally = ((s.mod.recorded >>> 32) + 1) <<< 32 ∧ t.mod.phase = .boot ∧ t.mod.started = false ∧ t.mod.configured = 0 ∧
    t.mod.setpoints = [] ∧ t.host.cmds = [] ∧ t.host.staged = [] ∧ t.sec.queue = [] ∧ t.power.inReset = false ∧
    t.power.shelved = false ∧ t.rd PWR_RST_CAUSE = cause ∧ t.pending = s.pending ∧ t.now = s.now) ∧
  (∀ s : State,
    (s.power.pgood = true → exec .por s = .next s) ∧
    (s.power.pgood = false → ∃ u, u = { s with power := { s.power with pgood := true } } ∧
      (s.power.shutdown ≠ none → exec .por s = .next u.finishShutdown) ∧
      (s.power.shutdown = none → s.power.bor = true → exec .por s = .next u) ∧
      (s.power.shutdown = none → s.power.bor = false → s.power.shelved = true → exec .por s = .next (u.boot 5 false 0)) ∧
      (s.power.shutdown = none → s.power.bor = false → s.power.shelved = false →
        (s.power.rstLowAt ≠ none → s.power.rstIgnore = false →
          exec .por s = .next { u with power := { u.power with nextCause := 1 } }) ∧
        (s.power.rstLowAt = none ∨ s.power.rstIgnore = true → exec .por s = .next (u.boot 1 false 0))))) ∧
  (∀ s : State, s.power.shutdown = none →
    (s.power.bor = false ∨ s.power.pgood = false → exec .borRelease s = .next s) ∧
    (s.power.bor = true → s.power.pgood = true → s.power.rstLowAt = none ∨ s.power.rstIgnore = true →
      exec .borRelease s = .next (s.boot 2 false 0)) ∧
    (s.power.bor = true → s.power.pgood = true → s.power.rstLowAt ≠ none → s.power.rstIgnore = false →
      exec .borRelease s = .next { s with power := { s.power with bor := false, nextCause := 2 } })) ∧
  (∀ s : State, s.power.rstLowAt ≠ none → exec .pinReset s = .next s) ∧
  (∀ s : State, s.power.rstLowAt = none → ∃ u, u = { s with power := { s.power with rstLowAt := some (s.now - 400) } } ∧
    (s.power.rstIgnore = true → exec .pinReset s = .next u) ∧
    (s.power.rstIgnore = false → s.power.shelved = true → exec .pinReset s = .next (s.boot 5 false 0)) ∧
    (s.power.rstIgnore = false → s.power.shelved = false → s.power.shutdown ≠ none → exec .pinReset s = .next
      { u with power := { u.power with heldReset := some (s.power.heldReset.getD 3) } }) ∧
    (s.power.rstIgnore = false → s.power.shelved = false → s.power.shutdown = none → s.power.inReset = true →
      exec .pinReset s = .next u) ∧
    (s.power.rstIgnore = false → s.power.shelved = false → s.power.shutdown = none → s.power.inReset = false →
      exec .pinReset s = .next (((u.blockAll).pass (2000 * u.blockAll.journal.queue.length)).commitJournal.enterReset 3))) ∧
  (∀ s : State, s.power.rstLowAt = none → exec .rstNRelease s = .next s ∧ exec .stuckReset s = .next s) ∧
  (∀ (t : Nat) (s : State), s.power.rstLowAt = some t → ∃ u, u = { s with power := { s.power with rstLowAt := none, stuck := false } } ∧
    (s.power.rstIgnore = true ∨ s.power.inReset = false ∨ s.power.pgood = false ∨ s.power.bor = true →
      exec .rstNRelease s = .next u) ∧
    (s.power.rstIgnore = false → s.power.inReset = true → s.power.pgood = true → s.power.bor = false →
      exec .rstNRelease s = .next (u.boot s.power.nextCause s.power.stuck ((s.now - t) / 400000)))) ∧
  (∀ (t : Nat) (s : State), s.power.rstLowAt = some t → s.power.rstIgnore = false → s.power.inReset = true → s.power.stuck = false →
    ∃ u v, u = s.passTo (t + 4000000000) ∧ v = (u.modJournal fun j => { j with crust := { j.crust with flags := j.crust.flags ||| 4 } }).modPower
        (fun p => { p with stuck := true }) ∧
      exec .stuckReset s = .next (if v.on PWR_CFG_STUCK_POLICY || !v.power.pgood || v.power.bor then v
        else (v.modPower fun p => { p with rstIgnore := true }).boot 6 true 10000)) ∧
  (∀ s : State, exec .rstNRearm s = .next
    (if s.power.rstLowAt = none then { s with power := { s.power with rstIgnore := false } } else s)) ∧
  (∀ s : State, exec .flr s = .next s.endpointReset ∧
    exec .perst s = .next (if s.power.shelved then s.boot 5 false 0 else s.endpointReset)) ∧
  (∀ s : State, ∃ t, t = s.endpointReset ∧ (∀ c, c ∈ t.host.cmds ↔ c ∈ s.host.cmds ∧ 16 ≤ c.hdr.sq) ∧ t.host.staged = s.host.staged ∧
    t.mod = s.mod ∧ t.eic.msixMask = 0xFFFFFFFF ∧ t.eic.msixEn = false ∧ t.eic.busMaster = false ∧ t.field = s.field ∧
    t.power = s.power) ∧
  (∀ s : State, exec .shelvedExit s = .next (if s.power.shelved then
    ({ s with power := { s.power with pgood := true } } : State).boot 5 false 0 else s))

/-- R19, R34, R35, R40, R248, R368, R424, R425, R443, R456, R458, R459, R463: start-up and power states. The images lead from
BOOT to CHECK, the self-tests and the Irolo handshake to live lanes, and the end of the order to READY, unless a group still
forms; at an exit from Doze a returning lane whose report differs from the declared version is retired; a failing lane is
retired, and both set CHECK_FAIL; a boot that does not end in 5 s counts as failed. In Doze a wake slot starts the exit,
which ends in Full. Completion, on conditions on the state and the operands alone, is stated for: iroloHandshake, wake,
bootAttemptTimeout, laneImagesLoaded, laneSelfTestDone, startUpDone, powerStateExitDone. -/
def Obligations.StartUpAndPowerStates : Prop :=
  (∀ s : State, s.mod.phase ≠ .boot ∨ s.power.inReset = true ∨ s.power.shelved = true ∨ s.power.pgood = false →
    exec .laneImagesLoaded s = .next s) ∧
  (∀ s : State, s.mod.phase = .boot → s.power.inReset = false → s.power.shelved = false → s.power.pgood = true →
    ∃ t, exec .laneImagesLoaded s = .next t ∧ t.mod.phase = .check ∧ t.rd HQ_STAT_READY = 1 ∧ t.mod.tally = s.mod.tally ∧
      (s.slotOk 0 0 = false → s.slotOk 0 1 = false → t.rd SYS_STATE_CHECK_FAIL = 1)) ∧
  (∀ (i : LaneId) (ok : Bool) (s : State), s.mod.phase ≠ .check ∨ s.rd SYS_STATE_CHECK_FAIL = 1 ∨
    (s.mod.selfTest.getD (LaneId.num i) none).isSome = true → exec (.laneSelfTestDone i ok) s = .next s) ∧
  (∀ (i : LaneId) (ok : Bool) (s : State), s.mod.phase = .check → s.rd SYS_STATE_CHECK_FAIL ≠ 1 →
    s.mod.selfTest.getD (LaneId.num i) none = none →
    ∃ u v, u = (s.modMod fun m => { m with selfTest := m.selfTest.set (LaneId.num i) (some ok) }).noteStep 4 ∧
      v = (if ok then u else u.setLaneState i 4 2) ∧
      exec (.laneSelfTestDone i ok) s = .next (if v.mod.selfTest.all (· = some false) then v.bothFailed.bootFail else v)) ∧
  (∀ (va vb : BitVec 8) (s : State), s.mod.phase ≠ .run → s.mod.phase ≠ .check ∨ s.rd SYS_STATE_CHECK_FAIL = 1 ∨
    s.mod.started = true ∨ (∃ x, x ∈ s.mod.selfTest ∧ x = none) → exec (.iroloHandshake va vb) s = .next s) ∧
  (∀ (va vb : BitVec 8) (s : State) (o : LaneId), s.mod.phase = .run → o = LaneId.other s.active →
    (s.power.exiting = none ∨ s.rd PWR_STAT_STATE ≠ 3 ∨ s.laneState o ≠ 0 → exec (.iroloHandshake va vb) s = .next s) ∧
    (∀ (t0 : Nat) (ok : Bool), s.power.exiting = some t0 → s.rd PWR_STAT_STATE = 3 → s.laneState o = 0 →
      ok = decide ((if o = .a then va else vb) = s.declaredIrolo) →
      ∃ u, u = (s.passTo (t0 + 400000)).modMod (fun m => { m with irolo := m.irolo.set (LaneId.num o) (some ok) }) ∧
        exec (.iroloHandshake va vb) s = .next (if ok then u else u.setLaneState o 4 3))) ∧
  (∀ (va vb : BitVec 8) (s : State), s.mod.phase = .check → s.rd SYS_STATE_CHECK_FAIL ≠ 1 → s.mod.started = false →
    s.mod.selfTest = [some true, some true] →
    (va = s.declaredIrolo → vb = s.declaredIrolo → ∃ t, exec (.iroloHandshake va vb) s = .next t ∧ t.mod.started = true ∧
      t.laneState .a = 1 ∧ t.laneState .b = 2 ∧ t.active = .a ∧ t.rd LANE_IROLO_VER = s.declaredIrolo.toNat) ∧
    (va ≠ s.declaredIrolo → vb ≠ s.declaredIrolo → ∃ t, exec (.iroloHandshake va vb) s = .next t ∧ t.mod.started = false ∧
      t.rd SYS_STATE_CHECK_FAIL = 1)) ∧
  (∀ s : State, s.mod.phase ≠ .check ∨ s.mod.started = false ∨ s.rd SYS_STATE_CHECK_FAIL = 1 ∨ s.grp.forming = true →
    exec .startUpDone s = .next s) ∧
  (∀ s : State, s.mod.phase = .check → s.mod.started = true → s.rd SYS_STATE_CHECK_FAIL ≠ 1 → s.grp.forming = false →
    ∃ t, exec .startUpDone s = .next t ∧ t.mod.phase = .run ∧ 1176 ≤ t.rd PWR_VHOLD_VHOLD ∧ t.rd PWR_VHOLD_VHOLD ≤ 1224 ∧
      t.rd SYS_STATE_STATE = t.moduleStateOf) ∧
  (∀ s : State, s.mod.phase ≠ .run → s.power.inReset = false → s.power.shelved = false →
    exec .bootAttemptTimeout s = .next (s.passTo (s.mod.bootAt + 2000000000)).bootFail) ∧
  (∀ s : State, s.mod.phase = .run ∨ s.power.inReset = true ∨ s.power.shelved = true → exec .bootAttemptTimeout s = .next s) ∧
  (∀ s : State, s.mod.bootFailed = true → s.bootFail = s) ∧
  (∀ (kind index : Nat) (s : State), s.rd PWR_STAT_STATE ≠ 3 ∨ (∀ w, w < 16 → s.wakes kind index w = false) →
    exec (.wake kind index) s = .next s) ∧
  (∀ (kind index w : Nat) (s : State), s.rd PWR_STAT_STATE = 3 → w < 16 → s.wakes kind index w = true →
    (∀ x, x < w → s.wakes kind index x = false) → s.power.wakeSlot = none → s.power.exiting = none →
    ∃ t, exec (.wake kind index) s = .next t ∧ t.rd ⟨EIC_WAKE_STAT, 16 + w, 16 + w⟩ = 1 ∧ t.rd EIC_WAKE_STAT_FIRST = w ∧
      t.rd EIC_WAKE_STAT_VALID = 1 ∧ t.rd PWR_STAT_EXITING = 1 ∧ t = { s with
        regs := t.regs, power := { s.power with exiting := some s.now, wakeSlot := some w }
        mod := { s.mod with irolo := s.mod.irolo.set (LaneId.num (LaneId.other s.active)) none } }) ∧
  (∀ s : State, s.power.exiting = none → exec .powerStateExitDone s = .next s) ∧
  (∀ (t0 : Nat) (s : State), s.power.exiting = some t0 → s.rd PWR_STAT_STATE ≠ 3 →
    ∃ u v, u = s.passTo (t0 + 80000) ∧ v = (((u.notePower 0).wr PWR_STAT_STATE 0).wr PWR_STAT_EXITING 0).modPower
        (fun p => { p with exiting := none, wakeSlot := none }) ∧
      exec .powerStateExitDone s = .next (match u.power.wakeSlot with
        | some n => v.raise 93 n
        | none => v)) ∧
  (∀ (t0 : Nat) (s : State), s.power.exiting = some t0 → s.rd PWR_STAT_STATE = 3 →
    ∃ u v, u = ((s.passTo (t0 + 3600000)).modLane (s.passTo (t0 + 3600000)).active fun l =>
          (List.range 80).foldl Lane.clearChan l).returnLane ∧
      v = (((u.notePower 0).wr PWR_STAT_STATE 0).wr PWR_STAT_EXITING 0).modPower (fun p => { p with exiting := none, wakeSlot := none }) ∧
      exec .powerStateExitDone s = .next (match u.power.wakeSlot with
        | some n => v.raise 93 n
        | none => v))

/-! ### The block as a whole -/

/-- A step takes the command at the front of the queue and runs it on the state with the queue's rest; on an empty queue one tick
passes (log 1). -/
def Obligations.StepRunsTheFrontCommand : Prop :=
  (∀ (c : Instr) (rest : List Instr) (s : State), step { s with pending := c :: rest } = exec c { s with pending := rest }) ∧
  (∀ s : State, s.pending = [] → step s = .next (tick s))

/-- Reset leaves every register at its reset word (R472), in BOOT with every thread OFF, the Tally at the first boot value, nothing
waiting, no cause standing, every safety output off, every auxiliary pin low, no journal record, both lanes OFF and power state
Full; and every register file and memory in its canonical form. That nothing was recorded before, that the safety outputs await REQ
and that no slot holds a package are the model's choices (log 8). -/
def Obligations.ResetLeavesEveryRegisterAtItsResetWord : Prop :=
  (∀ off, State.reset.regs.get off = resetWord off ∧ State.reset.laneA.regs.get off = resetWord off ∧
    State.reset.laneB.regs.get off = resetWord off) ∧
  resetWord (ASC_S_INC 3) = 0x0218DEF4 ∧
  (∀ off d, regDesc off = some d → off ≠ ASC_S_INC 3 → off ∉ [SEC_DEV_ID 0, SEC_DEV_ID 1, SEC_DEV_ID 2, SEC_DEV_ID 3,
    SEC_DEBUG_NONCE0, SEC_DEBUG_NONCE1] → resetWord off = BitVec.ofNat 32 d.reset) ∧
  State.reset.pending = [] ∧ State.reset.mod.phase = .boot ∧ State.reset.rd SYS_STATE_STATE = 0 ∧
  State.reset.mod.tally = 0x100000000 ∧ (∀ n, n < 8 → State.reset.present n = false) ∧
  State.reset.host.cmds = [] ∧ State.reset.host.staged = [] ∧ State.reset.faults.causes = [] ∧ State.reset.faults.classL = false ∧
  (∀ g, g < 48 → State.reset.faults.pulseBlock.getD g false = true) ∧
  (∀ a, a ∈ State.reset.aux → a.pins = List.replicate 6 false) ∧
  (∀ o, o ∈ State.reset.field.sos → o.swA = false ∧ o.swB = false) ∧ State.reset.field.doOn = 0 ∧
  State.reset.journal.queue = [] ∧ State.reset.journal.store = [] ∧ State.reset.sec.queue = [] ∧
  State.reset.laneState .a = 0 ∧ State.reset.laneState .b = 0 ∧ State.reset.rd PWR_STAT_STATE = 0 ∧ State.reset.wf = true

/-- Every command completes, with an effect or without, in every state: no command of the block ends in a fault or a refusal; and a
command leaves the queue of the commands that wait as it is. -/
def Obligations.EveryCommandCompletesAndLeavesTheQueue : Prop :=
  ∀ (c : Instr) (s : State), ∃ t, exec c s = .next t ∧ t.pending = s.pending

/-- R432: the identity key that a SCRAP package has erased never returns: no step brings it back, whatever command it runs. -/
def Obligations.AnErasedIdentityKeyStaysErased : Prop :=
  ∀ s t : State, s.sec.identity = false → step s = .next t → t.sec.identity = false

/-- R39, R40, R42: the Tally changes in a frame boundary alone, where it advances by one or takes a greater common Tally of the
group, and at a boot, which starts it at a value whose low half is 0 and whose high half exceeds that of the Tally in MRAM by one. -/
def Obligations.OnlyBoundariesAndBootsMoveTheTally : Prop :=
  (∀ (c : Instr) (s t : State), (∀ copy, c ≠ .frameBoundary copy) → exec c s = .next t →
    t.mod.tally = s.mod.tally ∨ t.mod.tally.setWidth 32 = 0) ∧
  (∀ s t : State, s.pending = [] → step s = .next t → t.mod.tally = s.mod.tally ∨ t.mod.tally.setWidth 32 = 0) ∧
  (∀ s : State, s.boundaryCommits.1.mod.tally = s.mod.tally + 1 ∨
    (s.mod.tally + 1 < s.boundaryCommits.1.mod.tally ∧ ∃ c b, s.grp.startAt = some (c, b) ∧ s.boundaryCommits.1.mod.tally = c)) ∧
  (∀ (cause low : Nat) (stuck : Bool) (s : State), (s.boot cause stuck low).mod.tally = ((s.mod.recorded >>> 32) + 1) <<< 32)

/-- Every step keeps the canonical form of every register file and every addressed memory: rising addresses, and no entry equal to
what an unlisted address reads as. -/
def Obligations.EveryStepKeepsTheCanonicalForm : Prop :=
  ∀ s t : State, s.wf = true → step s = .next t → t.wf = true
end

