-- ==== Sys2Proof/Laws/State.lean ====
section
/-! SUPPORT. The fields of the state after each named update of a part of it: one lemma for each field and update, true by
unfolding the update. Later proofs read a field through them and unfold no record update. -/
namespace Sys2Proof.Machine

/-! ### State.modMod -/

@[simp] theorem State.modMod_pending (s : State) (g : ModState → ModState) : (s.modMod g).pending = s.pending := (rfl)
@[simp] theorem State.modMod_now (s : State) (g : ModState → ModState) : (s.modMod g).now = s.now := (rfl)
@[simp] theorem State.modMod_free (s : State) (g : ModState → ModState) : (s.modMod g).free = s.free := (rfl)
@[simp] theorem State.modMod_readData (s : State) (g : ModState → ModState) : (s.modMod g).readData = s.readData := (rfl)
@[simp] theorem State.modMod_regs (s : State) (g : ModState → ModState) : (s.modMod g).regs = s.regs := (rfl)
@[simp] theorem State.modMod_mirror (s : State) (g : ModState → ModState) : (s.modMod g).mirror = s.mirror := (rfl)
@[simp] theorem State.modMod_laneA (s : State) (g : ModState → ModState) : (s.modMod g).laneA = s.laneA := (rfl)
@[simp] theorem State.modMod_laneB (s : State) (g : ModState → ModState) : (s.modMod g).laneB = s.laneB := (rfl)
@[simp] theorem State.modMod_mod (s : State) (g : ModState → ModState) : (s.modMod g).mod = g s.mod := (rfl)
@[simp] theorem State.modMod_host (s : State) (g : ModState → ModState) : (s.modMod g).host = s.host := (rfl)
@[simp] theorem State.modMod_eic (s : State) (g : ModState → ModState) : (s.modMod g).eic = s.eic := (rfl)
@[simp] theorem State.modMod_journal (s : State) (g : ModState → ModState) : (s.modMod g).journal = s.journal := (rfl)
@[simp] theorem State.modMod_faults (s : State) (g : ModState → ModState) : (s.modMod g).faults = s.faults := (rfl)
@[simp] theorem State.modMod_duplex (s : State) (g : ModState → ModState) : (s.modMod g).duplex = s.duplex := (rfl)
@[simp] theorem State.modMod_gl (s : State) (g : ModState → ModState) : (s.modMod g).gl = s.gl := (rfl)
@[simp] theorem State.modMod_aux (s : State) (g : ModState → ModState) : (s.modMod g).aux = s.aux := (rfl)
@[simp] theorem State.modMod_field (s : State) (g : ModState → ModState) : (s.modMod g).field = s.field := (rfl)
@[simp] theorem State.modMod_safe (s : State) (g : ModState → ModState) : (s.modMod g).safe = s.safe := (rfl)
@[simp] theorem State.modMod_clock (s : State) (g : ModState → ModState) : (s.modMod g).clock = s.clock := (rfl)
@[simp] theorem State.modMod_grp (s : State) (g : ModState → ModState) : (s.modMod g).grp = s.grp := (rfl)
@[simp] theorem State.modMod_sec (s : State) (g : ModState → ModState) : (s.modMod g).sec = s.sec := (rfl)
@[simp] theorem State.modMod_power (s : State) (g : ModState → ModState) : (s.modMod g).power = s.power := (rfl)

/-! ### State.modHost -/

@[simp] theorem State.modHost_pending (s : State) (g : HostIf → HostIf) : (s.modHost g).pending = s.pending := (rfl)
@[simp] theorem State.modHost_now (s : State) (g : HostIf → HostIf) : (s.modHost g).now = s.now := (rfl)
@[simp] theorem State.modHost_free (s : State) (g : HostIf → HostIf) : (s.modHost g).free = s.free := (rfl)
@[simp] theorem State.modHost_readData (s : State) (g : HostIf → HostIf) : (s.modHost g).readData = s.readData := (rfl)
@[simp] theorem State.modHost_regs (s : State) (g : HostIf → HostIf) : (s.modHost g).regs = s.regs := (rfl)
@[simp] theorem State.modHost_mirror (s : State) (g : HostIf → HostIf) : (s.modHost g).mirror = s.mirror := (rfl)
@[simp] theorem State.modHost_laneA (s : State) (g : HostIf → HostIf) : (s.modHost g).laneA = s.laneA := (rfl)
@[simp] theorem State.modHost_laneB (s : State) (g : HostIf → HostIf) : (s.modHost g).laneB = s.laneB := (rfl)
@[simp] theorem State.modHost_mod (s : State) (g : HostIf → HostIf) : (s.modHost g).mod = s.mod := (rfl)
@[simp] theorem State.modHost_host (s : State) (g : HostIf → HostIf) : (s.modHost g).host = g s.host := (rfl)
@[simp] theorem State.modHost_eic (s : State) (g : HostIf → HostIf) : (s.modHost g).eic = s.eic := (rfl)
@[simp] theorem State.modHost_journal (s : State) (g : HostIf → HostIf) : (s.modHost g).journal = s.journal := (rfl)
@[simp] theorem State.modHost_faults (s : State) (g : HostIf → HostIf) : (s.modHost g).faults = s.faults := (rfl)
@[simp] theorem State.modHost_duplex (s : State) (g : HostIf → HostIf) : (s.modHost g).duplex = s.duplex := (rfl)
@[simp] theorem State.modHost_gl (s : State) (g : HostIf → HostIf) : (s.modHost g).gl = s.gl := (rfl)
@[simp] theorem State.modHost_aux (s : State) (g : HostIf → HostIf) : (s.modHost g).aux = s.aux := (rfl)
@[simp] theorem State.modHost_field (s : State) (g : HostIf → HostIf) : (s.modHost g).field = s.field := (rfl)
@[simp] theorem State.modHost_safe (s : State) (g : HostIf → HostIf) : (s.modHost g).safe = s.safe := (rfl)
@[simp] theorem State.modHost_clock (s : State) (g : HostIf → HostIf) : (s.modHost g).clock = s.clock := (rfl)
@[simp] theorem State.modHost_grp (s : State) (g : HostIf → HostIf) : (s.modHost g).grp = s.grp := (rfl)
@[simp] theorem State.modHost_sec (s : State) (g : HostIf → HostIf) : (s.modHost g).sec = s.sec := (rfl)
@[simp] theorem State.modHost_power (s : State) (g : HostIf → HostIf) : (s.modHost g).power = s.power := (rfl)

/-! ### State.modEic -/

@[simp] theorem State.modEic_pending (s : State) (g : Eic → Eic) : (s.modEic g).pending = s.pending := (rfl)
@[simp] theorem State.modEic_now (s : State) (g : Eic → Eic) : (s.modEic g).now = s.now := (rfl)
@[simp] theorem State.modEic_free (s : State) (g : Eic → Eic) : (s.modEic g).free = s.free := (rfl)
@[simp] theorem State.modEic_readData (s : State) (g : Eic → Eic) : (s.modEic g).readData = s.readData := (rfl)
@[simp] theorem State.modEic_regs (s : State) (g : Eic → Eic) : (s.modEic g).regs = s.regs := (rfl)
@[simp] theorem State.modEic_mirror (s : State) (g : Eic → Eic) : (s.modEic g).mirror = s.mirror := (rfl)
@[simp] theorem State.modEic_laneA (s : State) (g : Eic → Eic) : (s.modEic g).laneA = s.laneA := (rfl)
@[simp] theorem State.modEic_laneB (s : State) (g : Eic → Eic) : (s.modEic g).laneB = s.laneB := (rfl)
@[simp] theorem State.modEic_mod (s : State) (g : Eic → Eic) : (s.modEic g).mod = s.mod := (rfl)
@[simp] theorem State.modEic_host (s : State) (g : Eic → Eic) : (s.modEic g).host = s.host := (rfl)
@[simp] theorem State.modEic_eic (s : State) (g : Eic → Eic) : (s.modEic g).eic = g s.eic := (rfl)
@[simp] theorem State.modEic_journal (s : State) (g : Eic → Eic) : (s.modEic g).journal = s.journal := (rfl)
@[simp] theorem State.modEic_faults (s : State) (g : Eic → Eic) : (s.modEic g).faults = s.faults := (rfl)
@[simp] theorem State.modEic_duplex (s : State) (g : Eic → Eic) : (s.modEic g).duplex = s.duplex := (rfl)
@[simp] theorem State.modEic_gl (s : State) (g : Eic → Eic) : (s.modEic g).gl = s.gl := (rfl)
@[simp] theorem State.modEic_aux (s : State) (g : Eic → Eic) : (s.modEic g).aux = s.aux := (rfl)
@[simp] theorem State.modEic_field (s : State) (g : Eic → Eic) : (s.modEic g).field = s.field := (rfl)
@[simp] theorem State.modEic_safe (s : State) (g : Eic → Eic) : (s.modEic g).safe = s.safe := (rfl)
@[simp] theorem State.modEic_clock (s : State) (g : Eic → Eic) : (s.modEic g).clock = s.clock := (rfl)
@[simp] theorem State.modEic_grp (s : State) (g : Eic → Eic) : (s.modEic g).grp = s.grp := (rfl)
@[simp] theorem State.modEic_sec (s : State) (g : Eic → Eic) : (s.modEic g).sec = s.sec := (rfl)
@[simp] theorem State.modEic_power (s : State) (g : Eic → Eic) : (s.modEic g).power = s.power := (rfl)

/-! ### State.modJournal -/

@[simp] theorem State.modJournal_pending (s : State) (g : Journal → Journal) : (s.modJournal g).pending = s.pending := (rfl)
@[simp] theorem State.modJournal_now (s : State) (g : Journal → Journal) : (s.modJournal g).now = s.now := (rfl)
@[simp] theorem State.modJournal_free (s : State) (g : Journal → Journal) : (s.modJournal g).free = s.free := (rfl)
@[simp] theorem State.modJournal_readData (s : State) (g : Journal → Journal) : (s.modJournal g).readData = s.readData := (rfl)
@[simp] theorem State.modJournal_regs (s : State) (g : Journal → Journal) : (s.modJournal g).regs = s.regs := (rfl)
@[simp] theorem State.modJournal_mirror (s : State) (g : Journal → Journal) : (s.modJournal g).mirror = s.mirror := (rfl)
@[simp] theorem State.modJournal_laneA (s : State) (g : Journal → Journal) : (s.modJournal g).laneA = s.laneA := (rfl)
@[simp] theorem State.modJournal_laneB (s : State) (g : Journal → Journal) : (s.modJournal g).laneB = s.laneB := (rfl)
@[simp] theorem State.modJournal_mod (s : State) (g : Journal → Journal) : (s.modJournal g).mod = s.mod := (rfl)
@[simp] theorem State.modJournal_host (s : State) (g : Journal → Journal) : (s.modJournal g).host = s.host := (rfl)
@[simp] theorem State.modJournal_eic (s : State) (g : Journal → Journal) : (s.modJournal g).eic = s.eic := (rfl)
@[simp] theorem State.modJournal_journal (s : State) (g : Journal → Journal) : (s.modJournal g).journal = g s.journal := (rfl)
@[simp] theorem State.modJournal_faults (s : State) (g : Journal → Journal) : (s.modJournal g).faults = s.faults := (rfl)
@[simp] theorem State.modJournal_duplex (s : State) (g : Journal → Journal) : (s.modJournal g).duplex = s.duplex := (rfl)
@[simp] theorem State.modJournal_gl (s : State) (g : Journal → Journal) : (s.modJournal g).gl = s.gl := (rfl)
@[simp] theorem State.modJournal_aux (s : State) (g : Journal → Journal) : (s.modJournal g).aux = s.aux := (rfl)
@[simp] theorem State.modJournal_field (s : State) (g : Journal → Journal) : (s.modJournal g).field = s.field := (rfl)
@[simp] theorem State.modJournal_safe (s : State) (g : Journal → Journal) : (s.modJournal g).safe = s.safe := (rfl)
@[simp] theorem State.modJournal_clock (s : State) (g : Journal → Journal) : (s.modJournal g).clock = s.clock := (rfl)
@[simp] theorem State.modJournal_grp (s : State) (g : Journal → Journal) : (s.modJournal g).grp = s.grp := (rfl)
@[simp] theorem State.modJournal_sec (s : State) (g : Journal → Journal) : (s.modJournal g).sec = s.sec := (rfl)
@[simp] theorem State.modJournal_power (s : State) (g : Journal → Journal) : (s.modJournal g).power = s.power := (rfl)

/-! ### State.modFaults -/

@[simp] theorem State.modFaults_pending (s : State) (g : Faults → Faults) : (s.modFaults g).pending = s.pending := (rfl)
@[simp] theorem State.modFaults_now (s : State) (g : Faults → Faults) : (s.modFaults g).now = s.now := (rfl)
@[simp] theorem State.modFaults_free (s : State) (g : Faults → Faults) : (s.modFaults g).free = s.free := (rfl)
@[simp] theorem State.modFaults_readData (s : State) (g : Faults → Faults) : (s.modFaults g).readData = s.readData := (rfl)
@[simp] theorem State.modFaults_regs (s : State) (g : Faults → Faults) : (s.modFaults g).regs = s.regs := (rfl)
@[simp] theorem State.modFaults_mirror (s : State) (g : Faults → Faults) : (s.modFaults g).mirror = s.mirror := (rfl)
@[simp] theorem State.modFaults_laneA (s : State) (g : Faults → Faults) : (s.modFaults g).laneA = s.laneA := (rfl)
@[simp] theorem State.modFaults_laneB (s : State) (g : Faults → Faults) : (s.modFaults g).laneB = s.laneB := (rfl)
@[simp] theorem State.modFaults_mod (s : State) (g : Faults → Faults) : (s.modFaults g).mod = s.mod := (rfl)
@[simp] theorem State.modFaults_host (s : State) (g : Faults → Faults) : (s.modFaults g).host = s.host := (rfl)
@[simp] theorem State.modFaults_eic (s : State) (g : Faults → Faults) : (s.modFaults g).eic = s.eic := (rfl)
@[simp] theorem State.modFaults_journal (s : State) (g : Faults → Faults) : (s.modFaults g).journal = s.journal := (rfl)
@[simp] theorem State.modFaults_faults (s : State) (g : Faults → Faults) : (s.modFaults g).faults = g s.faults := (rfl)
@[simp] theorem State.modFaults_duplex (s : State) (g : Faults → Faults) : (s.modFaults g).duplex = s.duplex := (rfl)
@[simp] theorem State.modFaults_gl (s : State) (g : Faults → Faults) : (s.modFaults g).gl = s.gl := (rfl)
@[simp] theorem State.modFaults_aux (s : State) (g : Faults → Faults) : (s.modFaults g).aux = s.aux := (rfl)
@[simp] theorem State.modFaults_field (s : State) (g : Faults → Faults) : (s.modFaults g).field = s.field := (rfl)
@[simp] theorem State.modFaults_safe (s : State) (g : Faults → Faults) : (s.modFaults g).safe = s.safe := (rfl)
@[simp] theorem State.modFaults_clock (s : State) (g : Faults → Faults) : (s.modFaults g).clock = s.clock := (rfl)
@[simp] theorem State.modFaults_grp (s : State) (g : Faults → Faults) : (s.modFaults g).grp = s.grp := (rfl)
@[simp] theorem State.modFaults_sec (s : State) (g : Faults → Faults) : (s.modFaults g).sec = s.sec := (rfl)
@[simp] theorem State.modFaults_power (s : State) (g : Faults → Faults) : (s.modFaults g).power = s.power := (rfl)

/-! ### State.modDuplex -/

@[simp] theorem State.modDuplex_pending (s : State) (g : Duplex → Duplex) : (s.modDuplex g).pending = s.pending := (rfl)
@[simp] theorem State.modDuplex_now (s : State) (g : Duplex → Duplex) : (s.modDuplex g).now = s.now := (rfl)
@[simp] theorem State.modDuplex_free (s : State) (g : Duplex → Duplex) : (s.modDuplex g).free = s.free := (rfl)
@[simp] theorem State.modDuplex_readData (s : State) (g : Duplex → Duplex) : (s.modDuplex g).readData = s.readData := (rfl)
@[simp] theorem State.modDuplex_regs (s : State) (g : Duplex → Duplex) : (s.modDuplex g).regs = s.regs := (rfl)
@[simp] theorem State.modDuplex_mirror (s : State) (g : Duplex → Duplex) : (s.modDuplex g).mirror = s.mirror := (rfl)
@[simp] theorem State.modDuplex_laneA (s : State) (g : Duplex → Duplex) : (s.modDuplex g).laneA = s.laneA := (rfl)
@[simp] theorem State.modDuplex_laneB (s : State) (g : Duplex → Duplex) : (s.modDuplex g).laneB = s.laneB := (rfl)
@[simp] theorem State.modDuplex_mod (s : State) (g : Duplex → Duplex) : (s.modDuplex g).mod = s.mod := (rfl)
@[simp] theorem State.modDuplex_host (s : State) (g : Duplex → Duplex) : (s.modDuplex g).host = s.host := (rfl)
@[simp] theorem State.modDuplex_eic (s : State) (g : Duplex → Duplex) : (s.modDuplex g).eic = s.eic := (rfl)
@[simp] theorem State.modDuplex_journal (s : State) (g : Duplex → Duplex) : (s.modDuplex g).journal = s.journal := (rfl)
@[simp] theorem State.modDuplex_faults (s : State) (g : Duplex → Duplex) : (s.modDuplex g).faults = s.faults := (rfl)
@[simp] theorem State.modDuplex_duplex (s : State) (g : Duplex → Duplex) : (s.modDuplex g).duplex = g s.duplex := (rfl)
@[simp] theorem State.modDuplex_gl (s : State) (g : Duplex → Duplex) : (s.modDuplex g).gl = s.gl := (rfl)
@[simp] theorem State.modDuplex_aux (s : State) (g : Duplex → Duplex) : (s.modDuplex g).aux = s.aux := (rfl)
@[simp] theorem State.modDuplex_field (s : State) (g : Duplex → Duplex) : (s.modDuplex g).field = s.field := (rfl)
@[simp] theorem State.modDuplex_safe (s : State) (g : Duplex → Duplex) : (s.modDuplex g).safe = s.safe := (rfl)
@[simp] theorem State.modDuplex_clock (s : State) (g : Duplex → Duplex) : (s.modDuplex g).clock = s.clock := (rfl)
@[simp] theorem State.modDuplex_grp (s : State) (g : Duplex → Duplex) : (s.modDuplex g).grp = s.grp := (rfl)
@[simp] theorem State.modDuplex_sec (s : State) (g : Duplex → Duplex) : (s.modDuplex g).sec = s.sec := (rfl)
@[simp] theorem State.modDuplex_power (s : State) (g : Duplex → Duplex) : (s.modDuplex g).power = s.power := (rfl)

/-! ### State.modGl -/

@[simp] theorem State.modGl_pending (s : State) (g : Gl → Gl) : (s.modGl g).pending = s.pending := (rfl)
@[simp] theorem State.modGl_now (s : State) (g : Gl → Gl) : (s.modGl g).now = s.now := (rfl)
@[simp] theorem State.modGl_free (s : State) (g : Gl → Gl) : (s.modGl g).free = s.free := (rfl)
@[simp] theorem State.modGl_readData (s : State) (g : Gl → Gl) : (s.modGl g).readData = s.readData := (rfl)
@[simp] theorem State.modGl_regs (s : State) (g : Gl → Gl) : (s.modGl g).regs = s.regs := (rfl)
@[simp] theorem State.modGl_mirror (s : State) (g : Gl → Gl) : (s.modGl g).mirror = s.mirror := (rfl)
@[simp] theorem State.modGl_laneA (s : State) (g : Gl → Gl) : (s.modGl g).laneA = s.laneA := (rfl)
@[simp] theorem State.modGl_laneB (s : State) (g : Gl → Gl) : (s.modGl g).laneB = s.laneB := (rfl)
@[simp] theorem State.modGl_mod (s : State) (g : Gl → Gl) : (s.modGl g).mod = s.mod := (rfl)
@[simp] theorem State.modGl_host (s : State) (g : Gl → Gl) : (s.modGl g).host = s.host := (rfl)
@[simp] theorem State.modGl_eic (s : State) (g : Gl → Gl) : (s.modGl g).eic = s.eic := (rfl)
@[simp] theorem State.modGl_journal (s : State) (g : Gl → Gl) : (s.modGl g).journal = s.journal := (rfl)
@[simp] theorem State.modGl_faults (s : State) (g : Gl → Gl) : (s.modGl g).faults = s.faults := (rfl)
@[simp] theorem State.modGl_duplex (s : State) (g : Gl → Gl) : (s.modGl g).duplex = s.duplex := (rfl)
@[simp] theorem State.modGl_gl (s : State) (g : Gl → Gl) : (s.modGl g).gl = g s.gl := (rfl)
@[simp] theorem State.modGl_aux (s : State) (g : Gl → Gl) : (s.modGl g).aux = s.aux := (rfl)
@[simp] theorem State.modGl_field (s : State) (g : Gl → Gl) : (s.modGl g).field = s.field := (rfl)
@[simp] theorem State.modGl_safe (s : State) (g : Gl → Gl) : (s.modGl g).safe = s.safe := (rfl)
@[simp] theorem State.modGl_clock (s : State) (g : Gl → Gl) : (s.modGl g).clock = s.clock := (rfl)
@[simp] theorem State.modGl_grp (s : State) (g : Gl → Gl) : (s.modGl g).grp = s.grp := (rfl)
@[simp] theorem State.modGl_sec (s : State) (g : Gl → Gl) : (s.modGl g).sec = s.sec := (rfl)
@[simp] theorem State.modGl_power (s : State) (g : Gl → Gl) : (s.modGl g).power = s.power := (rfl)

/-! ### State.modField -/

@[simp] theorem State.modField_pending (s : State) (g : FieldDie → FieldDie) : (s.modField g).pending = s.pending := (rfl)
@[simp] theorem State.modField_now (s : State) (g : FieldDie → FieldDie) : (s.modField g).now = s.now := (rfl)
@[simp] theorem State.modField_free (s : State) (g : FieldDie → FieldDie) : (s.modField g).free = s.free := (rfl)
@[simp] theorem State.modField_readData (s : State) (g : FieldDie → FieldDie) : (s.modField g).readData = s.readData := (rfl)
@[simp] theorem State.modField_regs (s : State) (g : FieldDie → FieldDie) : (s.modField g).regs = s.regs := (rfl)
@[simp] theorem State.modField_mirror (s : State) (g : FieldDie → FieldDie) : (s.modField g).mirror = s.mirror := (rfl)
@[simp] theorem State.modField_laneA (s : State) (g : FieldDie → FieldDie) : (s.modField g).laneA = s.laneA := (rfl)
@[simp] theorem State.modField_laneB (s : State) (g : FieldDie → FieldDie) : (s.modField g).laneB = s.laneB := (rfl)
@[simp] theorem State.modField_mod (s : State) (g : FieldDie → FieldDie) : (s.modField g).mod = s.mod := (rfl)
@[simp] theorem State.modField_host (s : State) (g : FieldDie → FieldDie) : (s.modField g).host = s.host := (rfl)
@[simp] theorem State.modField_eic (s : State) (g : FieldDie → FieldDie) : (s.modField g).eic = s.eic := (rfl)
@[simp] theorem State.modField_journal (s : State) (g : FieldDie → FieldDie) : (s.modField g).journal = s.journal := (rfl)
@[simp] theorem State.modField_faults (s : State) (g : FieldDie → FieldDie) : (s.modField g).faults = s.faults := (rfl)
@[simp] theorem State.modField_duplex (s : State) (g : FieldDie → FieldDie) : (s.modField g).duplex = s.duplex := (rfl)
@[simp] theorem State.modField_gl (s : State) (g : FieldDie → FieldDie) : (s.modField g).gl = s.gl := (rfl)
@[simp] theorem State.modField_aux (s : State) (g : FieldDie → FieldDie) : (s.modField g).aux = s.aux := (rfl)
@[simp] theorem State.modField_field (s : State) (g : FieldDie → FieldDie) : (s.modField g).field = g s.field := (rfl)
@[simp] theorem State.modField_safe (s : State) (g : FieldDie → FieldDie) : (s.modField g).safe = s.safe := (rfl)
@[simp] theorem State.modField_clock (s : State) (g : FieldDie → FieldDie) : (s.modField g).clock = s.clock := (rfl)
@[simp] theorem State.modField_grp (s : State) (g : FieldDie → FieldDie) : (s.modField g).grp = s.grp := (rfl)
@[simp] theorem State.modField_sec (s : State) (g : FieldDie → FieldDie) : (s.modField g).sec = s.sec := (rfl)
@[simp] theorem State.modField_power (s : State) (g : FieldDie → FieldDie) : (s.modField g).power = s.power := (rfl)

/-! ### State.modSafe -/

@[simp] theorem State.modSafe_pending (s : State) (g : Safe → Safe) : (s.modSafe g).pending = s.pending := (rfl)
@[simp] theorem State.modSafe_now (s : State) (g : Safe → Safe) : (s.modSafe g).now = s.now := (rfl)
@[simp] theorem State.modSafe_free (s : State) (g : Safe → Safe) : (s.modSafe g).free = s.free := (rfl)
@[simp] theorem State.modSafe_readData (s : State) (g : Safe → Safe) : (s.modSafe g).readData = s.readData := (rfl)
@[simp] theorem State.modSafe_regs (s : State) (g : Safe → Safe) : (s.modSafe g).regs = s.regs := (rfl)
@[simp] theorem State.modSafe_mirror (s : State) (g : Safe → Safe) : (s.modSafe g).mirror = s.mirror := (rfl)
@[simp] theorem State.modSafe_laneA (s : State) (g : Safe → Safe) : (s.modSafe g).laneA = s.laneA := (rfl)
@[simp] theorem State.modSafe_laneB (s : State) (g : Safe → Safe) : (s.modSafe g).laneB = s.laneB := (rfl)
@[simp] theorem State.modSafe_mod (s : State) (g : Safe → Safe) : (s.modSafe g).mod = s.mod := (rfl)
@[simp] theorem State.modSafe_host (s : State) (g : Safe → Safe) : (s.modSafe g).host = s.host := (rfl)
@[simp] theorem State.modSafe_eic (s : State) (g : Safe → Safe) : (s.modSafe g).eic = s.eic := (rfl)
@[simp] theorem State.modSafe_journal (s : State) (g : Safe → Safe) : (s.modSafe g).journal = s.journal := (rfl)
@[simp] theorem State.modSafe_faults (s : State) (g : Safe → Safe) : (s.modSafe g).faults = s.faults := (rfl)
@[simp] theorem State.modSafe_duplex (s : State) (g : Safe → Safe) : (s.modSafe g).duplex = s.duplex := (rfl)
@[simp] theorem State.modSafe_gl (s : State) (g : Safe → Safe) : (s.modSafe g).gl = s.gl := (rfl)
@[simp] theorem State.modSafe_aux (s : State) (g : Safe → Safe) : (s.modSafe g).aux = s.aux := (rfl)
@[simp] theorem State.modSafe_field (s : State) (g : Safe → Safe) : (s.modSafe g).field = s.field := (rfl)
@[simp] theorem State.modSafe_safe (s : State) (g : Safe → Safe) : (s.modSafe g).safe = g s.safe := (rfl)
@[simp] theorem State.modSafe_clock (s : State) (g : Safe → Safe) : (s.modSafe g).clock = s.clock := (rfl)
@[simp] theorem State.modSafe_grp (s : State) (g : Safe → Safe) : (s.modSafe g).grp = s.grp := (rfl)
@[simp] theorem State.modSafe_sec (s : State) (g : Safe → Safe) : (s.modSafe g).sec = s.sec := (rfl)
@[simp] theorem State.modSafe_power (s : State) (g : Safe → Safe) : (s.modSafe g).power = s.power := (rfl)

/-! ### State.modClock -/

@[simp] theorem State.modClock_pending (s : State) (g : Clock → Clock) : (s.modClock g).pending = s.pending := (rfl)
@[simp] theorem State.modClock_now (s : State) (g : Clock → Clock) : (s.modClock g).now = s.now := (rfl)
@[simp] theorem State.modClock_free (s : State) (g : Clock → Clock) : (s.modClock g).free = s.free := (rfl)
@[simp] theorem State.modClock_readData (s : State) (g : Clock → Clock) : (s.modClock g).readData = s.readData := (rfl)
@[simp] theorem State.modClock_regs (s : State) (g : Clock → Clock) : (s.modClock g).regs = s.regs := (rfl)
@[simp] theorem State.modClock_mirror (s : State) (g : Clock → Clock) : (s.modClock g).mirror = s.mirror := (rfl)
@[simp] theorem State.modClock_laneA (s : State) (g : Clock → Clock) : (s.modClock g).laneA = s.laneA := (rfl)
@[simp] theorem State.modClock_laneB (s : State) (g : Clock → Clock) : (s.modClock g).laneB = s.laneB := (rfl)
@[simp] theorem State.modClock_mod (s : State) (g : Clock → Clock) : (s.modClock g).mod = s.mod := (rfl)
@[simp] theorem State.modClock_host (s : State) (g : Clock → Clock) : (s.modClock g).host = s.host := (rfl)
@[simp] theorem State.modClock_eic (s : State) (g : Clock → Clock) : (s.modClock g).eic = s.eic := (rfl)
@[simp] theorem State.modClock_journal (s : State) (g : Clock → Clock) : (s.modClock g).journal = s.journal := (rfl)
@[simp] theorem State.modClock_faults (s : State) (g : Clock → Clock) : (s.modClock g).faults = s.faults := (rfl)
@[simp] theorem State.modClock_duplex (s : State) (g : Clock → Clock) : (s.modClock g).duplex = s.duplex := (rfl)
@[simp] theorem State.modClock_gl (s : State) (g : Clock → Clock) : (s.modClock g).gl = s.gl := (rfl)
@[simp] theorem State.modClock_aux (s : State) (g : Clock → Clock) : (s.modClock g).aux = s.aux := (rfl)
@[simp] theorem State.modClock_field (s : State) (g : Clock → Clock) : (s.modClock g).field = s.field := (rfl)
@[simp] theorem State.modClock_safe (s : State) (g : Clock → Clock) : (s.modClock g).safe = s.safe := (rfl)
@[simp] theorem State.modClock_clock (s : State) (g : Clock → Clock) : (s.modClock g).clock = g s.clock := (rfl)
@[simp] theorem State.modClock_grp (s : State) (g : Clock → Clock) : (s.modClock g).grp = s.grp := (rfl)
@[simp] theorem State.modClock_sec (s : State) (g : Clock → Clock) : (s.modClock g).sec = s.sec := (rfl)
@[simp] theorem State.modClock_power (s : State) (g : Clock → Clock) : (s.modClock g).power = s.power := (rfl)

/-! ### State.modGrp -/

@[simp] theorem State.modGrp_pending (s : State) (g : Grp → Grp) : (s.modGrp g).pending = s.pending := (rfl)
@[simp] theorem State.modGrp_now (s : State) (g : Grp → Grp) : (s.modGrp g).now = s.now := (rfl)
@[simp] theorem State.modGrp_free (s : State) (g : Grp → Grp) : (s.modGrp g).free = s.free := (rfl)
@[simp] theorem State.modGrp_readData (s : State) (g : Grp → Grp) : (s.modGrp g).readData = s.readData := (rfl)
@[simp] theorem State.modGrp_regs (s : State) (g : Grp → Grp) : (s.modGrp g).regs = s.regs := (rfl)
@[simp] theorem State.modGrp_mirror (s : State) (g : Grp → Grp) : (s.modGrp g).mirror = s.mirror := (rfl)
@[simp] theorem State.modGrp_laneA (s : State) (g : Grp → Grp) : (s.modGrp g).laneA = s.laneA := (rfl)
@[simp] theorem State.modGrp_laneB (s : State) (g : Grp → Grp) : (s.modGrp g).laneB = s.laneB := (rfl)
@[simp] theorem State.modGrp_mod (s : State) (g : Grp → Grp) : (s.modGrp g).mod = s.mod := (rfl)
@[simp] theorem State.modGrp_host (s : State) (g : Grp → Grp) : (s.modGrp g).host = s.host := (rfl)
@[simp] theorem State.modGrp_eic (s : State) (g : Grp → Grp) : (s.modGrp g).eic = s.eic := (rfl)
@[simp] theorem State.modGrp_journal (s : State) (g : Grp → Grp) : (s.modGrp g).journal = s.journal := (rfl)
@[simp] theorem State.modGrp_faults (s : State) (g : Grp → Grp) : (s.modGrp g).faults = s.faults := (rfl)
@[simp] theorem State.modGrp_duplex (s : State) (g : Grp → Grp) : (s.modGrp g).duplex = s.duplex := (rfl)
@[simp] theorem State.modGrp_gl (s : State) (g : Grp → Grp) : (s.modGrp g).gl = s.gl := (rfl)
@[simp] theorem State.modGrp_aux (s : State) (g : Grp → Grp) : (s.modGrp g).aux = s.aux := (rfl)
@[simp] theorem State.modGrp_field (s : State) (g : Grp → Grp) : (s.modGrp g).field = s.field := (rfl)
@[simp] theorem State.modGrp_safe (s : State) (g : Grp → Grp) : (s.modGrp g).safe = s.safe := (rfl)
@[simp] theorem State.modGrp_clock (s : State) (g : Grp → Grp) : (s.modGrp g).clock = s.clock := (rfl)
@[simp] theorem State.modGrp_grp (s : State) (g : Grp → Grp) : (s.modGrp g).grp = g s.grp := (rfl)
@[simp] theorem State.modGrp_sec (s : State) (g : Grp → Grp) : (s.modGrp g).sec = s.sec := (rfl)
@[simp] theorem State.modGrp_power (s : State) (g : Grp → Grp) : (s.modGrp g).power = s.power := (rfl)

/-! ### State.modSec -/

@[simp] theorem State.modSec_pending (s : State) (g : Sec → Sec) : (s.modSec g).pending = s.pending := (rfl)
@[simp] theorem State.modSec_now (s : State) (g : Sec → Sec) : (s.modSec g).now = s.now := (rfl)
@[simp] theorem State.modSec_free (s : State) (g : Sec → Sec) : (s.modSec g).free = s.free := (rfl)
@[simp] theorem State.modSec_readData (s : State) (g : Sec → Sec) : (s.modSec g).readData = s.readData := (rfl)
@[simp] theorem State.modSec_regs (s : State) (g : Sec → Sec) : (s.modSec g).regs = s.regs := (rfl)
@[simp] theorem State.modSec_mirror (s : State) (g : Sec → Sec) : (s.modSec g).mirror = s.mirror := (rfl)
@[simp] theorem State.modSec_laneA (s : State) (g : Sec → Sec) : (s.modSec g).laneA = s.laneA := (rfl)
@[simp] theorem State.modSec_laneB (s : State) (g : Sec → Sec) : (s.modSec g).laneB = s.laneB := (rfl)
@[simp] theorem State.modSec_mod (s : State) (g : Sec → Sec) : (s.modSec g).mod = s.mod := (rfl)
@[simp] theorem State.modSec_host (s : State) (g : Sec → Sec) : (s.modSec g).host = s.host := (rfl)
@[simp] theorem State.modSec_eic (s : State) (g : Sec → Sec) : (s.modSec g).eic = s.eic := (rfl)
@[simp] theorem State.modSec_journal (s : State) (g : Sec → Sec) : (s.modSec g).journal = s.journal := (rfl)
@[simp] theorem State.modSec_faults (s : State) (g : Sec → Sec) : (s.modSec g).faults = s.faults := (rfl)
@[simp] theorem State.modSec_duplex (s : State) (g : Sec → Sec) : (s.modSec g).duplex = s.duplex := (rfl)
@[simp] theorem State.modSec_gl (s : State) (g : Sec → Sec) : (s.modSec g).gl = s.gl := (rfl)
@[simp] theorem State.modSec_aux (s : State) (g : Sec → Sec) : (s.modSec g).aux = s.aux := (rfl)
@[simp] theorem State.modSec_field (s : State) (g : Sec → Sec) : (s.modSec g).field = s.field := (rfl)
@[simp] theorem State.modSec_safe (s : State) (g : Sec → Sec) : (s.modSec g).safe = s.safe := (rfl)
@[simp] theorem State.modSec_clock (s : State) (g : Sec → Sec) : (s.modSec g).clock = s.clock := (rfl)
@[simp] theorem State.modSec_grp (s : State) (g : Sec → Sec) : (s.modSec g).grp = s.grp := (rfl)
@[simp] theorem State.modSec_sec (s : State) (g : Sec → Sec) : (s.modSec g).sec = g s.sec := (rfl)
@[simp] theorem State.modSec_power (s : State) (g : Sec → Sec) : (s.modSec g).power = s.power := (rfl)

/-! ### State.modPower -/

@[simp] theorem State.modPower_pending (s : State) (g : Power → Power) : (s.modPower g).pending = s.pending := (rfl)
@[simp] theorem State.modPower_now (s : State) (g : Power → Power) : (s.modPower g).now = s.now := (rfl)
@[simp] theorem State.modPower_free (s : State) (g : Power → Power) : (s.modPower g).free = s.free := (rfl)
@[simp] theorem State.modPower_readData (s : State) (g : Power → Power) : (s.modPower g).readData = s.readData := (rfl)
@[simp] theorem State.modPower_regs (s : State) (g : Power → Power) : (s.modPower g).regs = s.regs := (rfl)
@[simp] theorem State.modPower_mirror (s : State) (g : Power → Power) : (s.modPower g).mirror = s.mirror := (rfl)
@[simp] theorem State.modPower_laneA (s : State) (g : Power → Power) : (s.modPower g).laneA = s.laneA := (rfl)
@[simp] theorem State.modPower_laneB (s : State) (g : Power → Power) : (s.modPower g).laneB = s.laneB := (rfl)
@[simp] theorem State.modPower_mod (s : State) (g : Power → Power) : (s.modPower g).mod = s.mod := (rfl)
@[simp] theorem State.modPower_host (s : State) (g : Power → Power) : (s.modPower g).host = s.host := (rfl)
@[simp] theorem State.modPower_eic (s : State) (g : Power → Power) : (s.modPower g).eic = s.eic := (rfl)
@[simp] theorem State.modPower_journal (s : State) (g : Power → Power) : (s.modPower g).journal = s.journal := (rfl)
@[simp] theorem State.modPower_faults (s : State) (g : Power → Power) : (s.modPower g).faults = s.faults := (rfl)
@[simp] theorem State.modPower_duplex (s : State) (g : Power → Power) : (s.modPower g).duplex = s.duplex := (rfl)
@[simp] theorem State.modPower_gl (s : State) (g : Power → Power) : (s.modPower g).gl = s.gl := (rfl)
@[simp] theorem State.modPower_aux (s : State) (g : Power → Power) : (s.modPower g).aux = s.aux := (rfl)
@[simp] theorem State.modPower_field (s : State) (g : Power → Power) : (s.modPower g).field = s.field := (rfl)
@[simp] theorem State.modPower_safe (s : State) (g : Power → Power) : (s.modPower g).safe = s.safe := (rfl)
@[simp] theorem State.modPower_clock (s : State) (g : Power → Power) : (s.modPower g).clock = s.clock := (rfl)
@[simp] theorem State.modPower_grp (s : State) (g : Power → Power) : (s.modPower g).grp = s.grp := (rfl)
@[simp] theorem State.modPower_sec (s : State) (g : Power → Power) : (s.modPower g).sec = s.sec := (rfl)
@[simp] theorem State.modPower_power (s : State) (g : Power → Power) : (s.modPower g).power = g s.power := (rfl)

/-! ### State.wr -/

@[simp] theorem State.wr_pending (s : State) (a : Fld) (v : Nat) : (s.wr a v).pending = s.pending := (rfl)
@[simp] theorem State.wr_now (s : State) (a : Fld) (v : Nat) : (s.wr a v).now = s.now := (rfl)
@[simp] theorem State.wr_free (s : State) (a : Fld) (v : Nat) : (s.wr a v).free = s.free := (rfl)
@[simp] theorem State.wr_readData (s : State) (a : Fld) (v : Nat) : (s.wr a v).readData = s.readData := (rfl)
@[simp] theorem State.wr_regs (s : State) (a : Fld) (v : Nat) : (s.wr a v).regs = s.regs.wr a v := (rfl)
@[simp] theorem State.wr_mirror (s : State) (a : Fld) (v : Nat) : (s.wr a v).mirror = s.mirror := (rfl)
@[simp] theorem State.wr_laneA (s : State) (a : Fld) (v : Nat) : (s.wr a v).laneA = s.laneA := (rfl)
@[simp] theorem State.wr_laneB (s : State) (a : Fld) (v : Nat) : (s.wr a v).laneB = s.laneB := (rfl)
@[simp] theorem State.wr_mod (s : State) (a : Fld) (v : Nat) : (s.wr a v).mod = s.mod := (rfl)
@[simp] theorem State.wr_host (s : State) (a : Fld) (v : Nat) : (s.wr a v).host = s.host := (rfl)
@[simp] theorem State.wr_eic (s : State) (a : Fld) (v : Nat) : (s.wr a v).eic = s.eic := (rfl)
@[simp] theorem State.wr_journal (s : State) (a : Fld) (v : Nat) : (s.wr a v).journal = s.journal := (rfl)
@[simp] theorem State.wr_faults (s : State) (a : Fld) (v : Nat) : (s.wr a v).faults = s.faults := (rfl)
@[simp] theorem State.wr_duplex (s : State) (a : Fld) (v : Nat) : (s.wr a v).duplex = s.duplex := (rfl)
@[simp] theorem State.wr_gl (s : State) (a : Fld) (v : Nat) : (s.wr a v).gl = s.gl := (rfl)
@[simp] theorem State.wr_aux (s : State) (a : Fld) (v : Nat) : (s.wr a v).aux = s.aux := (rfl)
@[simp] theorem State.wr_field (s : State) (a : Fld) (v : Nat) : (s.wr a v).field = s.field := (rfl)
@[simp] theorem State.wr_safe (s : State) (a : Fld) (v : Nat) : (s.wr a v).safe = s.safe := (rfl)
@[simp] theorem State.wr_clock (s : State) (a : Fld) (v : Nat) : (s.wr a v).clock = s.clock := (rfl)
@[simp] theorem State.wr_grp (s : State) (a : Fld) (v : Nat) : (s.wr a v).grp = s.grp := (rfl)
@[simp] theorem State.wr_sec (s : State) (a : Fld) (v : Nat) : (s.wr a v).sec = s.sec := (rfl)
@[simp] theorem State.wr_power (s : State) (a : Fld) (v : Nat) : (s.wr a v).power = s.power := (rfl)

/-! ### State.bothLanes -/

@[simp] theorem State.bothLanes_pending (s : State) (g : Lane → Lane) : (s.bothLanes g).pending = s.pending := (rfl)
@[simp] theorem State.bothLanes_now (s : State) (g : Lane → Lane) : (s.bothLanes g).now = s.now := (rfl)
@[simp] theorem State.bothLanes_free (s : State) (g : Lane → Lane) : (s.bothLanes g).free = s.free := (rfl)
@[simp] theorem State.bothLanes_readData (s : State) (g : Lane → Lane) : (s.bothLanes g).readData = s.readData := (rfl)
@[simp] theorem State.bothLanes_regs (s : State) (g : Lane → Lane) : (s.bothLanes g).regs = s.regs := (rfl)
@[simp] theorem State.bothLanes_mirror (s : State) (g : Lane → Lane) : (s.bothLanes g).mirror = s.mirror := (rfl)
@[simp] theorem State.bothLanes_laneA (s : State) (g : Lane → Lane) : (s.bothLanes g).laneA = g s.laneA := (rfl)
@[simp] theorem State.bothLanes_laneB (s : State) (g : Lane → Lane) : (s.bothLanes g).laneB = g s.laneB := (rfl)
@[simp] theorem State.bothLanes_mod (s : State) (g : Lane → Lane) : (s.bothLanes g).mod = s.mod := (rfl)
@[simp] theorem State.bothLanes_host (s : State) (g : Lane → Lane) : (s.bothLanes g).host = s.host := (rfl)
@[simp] theorem State.bothLanes_eic (s : State) (g : Lane → Lane) : (s.bothLanes g).eic = s.eic := (rfl)
@[simp] theorem State.bothLanes_journal (s : State) (g : Lane → Lane) : (s.bothLanes g).journal = s.journal := (rfl)
@[simp] theorem State.bothLanes_faults (s : State) (g : Lane → Lane) : (s.bothLanes g).faults = s.faults := (rfl)
@[simp] theorem State.bothLanes_duplex (s : State) (g : Lane → Lane) : (s.bothLanes g).duplex = s.duplex := (rfl)
@[simp] theorem State.bothLanes_gl (s : State) (g : Lane → Lane) : (s.bothLanes g).gl = s.gl := (rfl)
@[simp] theorem State.bothLanes_aux (s : State) (g : Lane → Lane) : (s.bothLanes g).aux = s.aux := (rfl)
@[simp] theorem State.bothLanes_field (s : State) (g : Lane → Lane) : (s.bothLanes g).field = s.field := (rfl)
@[simp] theorem State.bothLanes_safe (s : State) (g : Lane → Lane) : (s.bothLanes g).safe = s.safe := (rfl)
@[simp] theorem State.bothLanes_clock (s : State) (g : Lane → Lane) : (s.bothLanes g).clock = s.clock := (rfl)
@[simp] theorem State.bothLanes_grp (s : State) (g : Lane → Lane) : (s.bothLanes g).grp = s.grp := (rfl)
@[simp] theorem State.bothLanes_sec (s : State) (g : Lane → Lane) : (s.bothLanes g).sec = s.sec := (rfl)
@[simp] theorem State.bothLanes_power (s : State) (g : Lane → Lane) : (s.bothLanes g).power = s.power := (rfl)

/-! ### State.setLane and State.modLane -/

@[simp] theorem State.setLane_pending (s : State) (i : LaneId) (l : Lane) : (s.setLane i l).pending = s.pending := by cases i <;> rfl
@[simp] theorem State.modLane_pending (s : State) (i : LaneId) (g : Lane → Lane) : (s.modLane i g).pending = s.pending := by cases i <;> rfl
@[simp] theorem State.setLane_now (s : State) (i : LaneId) (l : Lane) : (s.setLane i l).now = s.now := by cases i <;> rfl
@[simp] theorem State.modLane_now (s : State) (i : LaneId) (g : Lane → Lane) : (s.modLane i g).now = s.now := by cases i <;> rfl
@[simp] theorem State.setLane_free (s : State) (i : LaneId) (l : Lane) : (s.setLane i l).free = s.free := by cases i <;> rfl
@[simp] theorem State.modLane_free (s : State) (i : LaneId) (g : Lane → Lane) : (s.modLane i g).free = s.free := by cases i <;> rfl
@[simp] theorem State.setLane_readData (s : State) (i : LaneId) (l : Lane) : (s.setLane i l).readData = s.readData := by cases i <;> rfl
@[simp] theorem State.modLane_readData (s : State) (i : LaneId) (g : Lane → Lane) : (s.modLane i g).readData = s.readData := by cases i <;> rfl
@[simp] theorem State.setLane_regs (s : State) (i : LaneId) (l : Lane) : (s.setLane i l).regs = s.regs := by cases i <;> rfl
@[simp] theorem State.modLane_regs (s : State) (i : LaneId) (g : Lane → Lane) : (s.modLane i g).regs = s.regs := by cases i <;> rfl
@[simp] theorem State.setLane_mirror (s : State) (i : LaneId) (l : Lane) : (s.setLane i l).mirror = s.mirror := by cases i <;> rfl
@[simp] theorem State.modLane_mirror (s : State) (i : LaneId) (g : Lane → Lane) : (s.modLane i g).mirror = s.mirror := by cases i <;> rfl
@[simp] theorem State.setLane_mod (s : State) (i : LaneId) (l : Lane) : (s.setLane i l).mod = s.mod := by cases i <;> rfl
@[simp] theorem State.modLane_mod (s : State) (i : LaneId) (g : Lane → Lane) : (s.modLane i g).mod = s.mod := by cases i <;> rfl
@[simp] theorem State.setLane_host (s : State) (i : LaneId) (l : Lane) : (s.setLane i l).host = s.host := by cases i <;> rfl
@[simp] theorem State.modLane_host (s : State) (i : LaneId) (g : Lane → Lane) : (s.modLane i g).host = s.host := by cases i <;> rfl
@[simp] theorem State.setLane_eic (s : State) (i : LaneId) (l : Lane) : (s.setLane i l).eic = s.eic := by cases i <;> rfl
@[simp] theorem State.modLane_eic (s : State) (i : LaneId) (g : Lane → Lane) : (s.modLane i g).eic = s.eic := by cases i <;> rfl
@[simp] theorem State.setLane_journal (s : State) (i : LaneId) (l : Lane) : (s.setLane i l).journal = s.journal := by cases i <;> rfl
@[simp] theorem State.modLane_journal (s : State) (i : LaneId) (g : Lane → Lane) : (s.modLane i g).journal = s.journal := by cases i <;> rfl
@[simp] theorem State.setLane_faults (s : State) (i : LaneId) (l : Lane) : (s.setLane i l).faults = s.faults := by cases i <;> rfl
@[simp] theorem State.modLane_faults (s : State) (i : LaneId) (g : Lane → Lane) : (s.modLane i g).faults = s.faults := by cases i <;> rfl
@[simp] theorem State.setLane_duplex (s : State) (i : LaneId) (l : Lane) : (s.setLane i l).duplex = s.duplex := by cases i <;> rfl
@[simp] theorem State.modLane_duplex (s : State) (i : LaneId) (g : Lane → Lane) : (s.modLane i g).duplex = s.duplex := by cases i <;> rfl
@[simp] theorem State.setLane_gl (s : State) (i : LaneId) (l : Lane) : (s.setLane i l).gl = s.gl := by cases i <;> rfl
@[simp] theorem State.modLane_gl (s : State) (i : LaneId) (g : Lane → Lane) : (s.modLane i g).gl = s.gl := by cases i <;> rfl
@[simp] theorem State.setLane_aux (s : State) (i : LaneId) (l : Lane) : (s.setLane i l).aux = s.aux := by cases i <;> rfl
@[simp] theorem State.modLane_aux (s : State) (i : LaneId) (g : Lane → Lane) : (s.modLane i g).aux = s.aux := by cases i <;> rfl
@[simp] theorem State.setLane_field (s : State) (i : LaneId) (l : Lane) : (s.setLane i l).field = s.field := by cases i <;> rfl
@[simp] theorem State.modLane_field (s : State) (i : LaneId) (g : Lane → Lane) : (s.modLane i g).field = s.field := by cases i <;> rfl
@[simp] theorem State.setLane_safe (s : State) (i : LaneId) (l : Lane) : (s.setLane i l).safe = s.safe := by cases i <;> rfl
@[simp] theorem State.modLane_safe (s : State) (i : LaneId) (g : Lane → Lane) : (s.modLane i g).safe = s.safe := by cases i <;> rfl
@[simp] theorem State.setLane_clock (s : State) (i : LaneId) (l : Lane) : (s.setLane i l).clock = s.clock := by cases i <;> rfl
@[simp] theorem State.modLane_clock (s : State) (i : LaneId) (g : Lane → Lane) : (s.modLane i g).clock = s.clock := by cases i <;> rfl
@[simp] theorem State.setLane_grp (s : State) (i : LaneId) (l : Lane) : (s.setLane i l).grp = s.grp := by cases i <;> rfl
@[simp] theorem State.modLane_grp (s : State) (i : LaneId) (g : Lane → Lane) : (s.modLane i g).grp = s.grp := by cases i <;> rfl
@[simp] theorem State.setLane_sec (s : State) (i : LaneId) (l : Lane) : (s.setLane i l).sec = s.sec := by cases i <;> rfl
@[simp] theorem State.modLane_sec (s : State) (i : LaneId) (g : Lane → Lane) : (s.modLane i g).sec = s.sec := by cases i <;> rfl
@[simp] theorem State.setLane_power (s : State) (i : LaneId) (l : Lane) : (s.setLane i l).power = s.power := by cases i <;> rfl
@[simp] theorem State.modLane_power (s : State) (i : LaneId) (g : Lane → Lane) : (s.modLane i g).power = s.power := by cases i <;> rfl

/-! ### The named lane after an update -/

@[simp] theorem State.lane_setLane (s : State) (i : LaneId) (l : Lane) : (s.setLane i l).lane i = l := by cases i <;> rfl
@[simp] theorem State.lane_modLane (s : State) (i : LaneId) (g : Lane → Lane) : (s.modLane i g).lane i = g (s.lane i) := by
  cases i <;> rfl
@[simp] theorem State.lane_bothLanes (s : State) (i : LaneId) (g : Lane → Lane) : (s.bothLanes g).lane i = g (s.lane i) := by
  cases i <;> rfl
/-- The other lane is left alone. -/
theorem State.lane_setLane_ne (s : State) {i j : LaneId} (l : Lane) (h : j ≠ i) : (s.setLane i l).lane j = s.lane j := by
  cases i <;> cases j <;> first | rfl | exact absurd rfl h
/-- The other lane is left alone. -/
theorem State.lane_modLane_ne (s : State) {i j : LaneId} (g : Lane → Lane) (h : j ≠ i) : (s.modLane i g).lane j = s.lane j := by
  cases i <;> cases j <;> first | rfl | exact absurd rfl h
@[simp] theorem State.lane_wr (s : State) (i : LaneId) (a : Fld) (v : Nat) : (s.wr a v).lane i = s.lane i := by cases i <;> rfl
@[simp] theorem State.lane_modMod (s : State) (i : LaneId) (g : ModState → ModState) : (s.modMod g).lane i = s.lane i := by
  cases i <;> rfl
@[simp] theorem State.lane_modHost (s : State) (i : LaneId) (g : HostIf → HostIf) : (s.modHost g).lane i = s.lane i := by
  cases i <;> rfl
@[simp] theorem State.lane_modEic (s : State) (i : LaneId) (g : Eic → Eic) : (s.modEic g).lane i = s.lane i := by
  cases i <;> rfl
@[simp] theorem State.lane_modJournal (s : State) (i : LaneId) (g : Journal → Journal) : (s.modJournal g).lane i = s.lane i := by
  cases i <;> rfl
@[simp] theorem State.lane_modFaults (s : State) (i : LaneId) (g : Faults → Faults) : (s.modFaults g).lane i = s.lane i := by
  cases i <;> rfl
@[simp] theorem State.lane_modDuplex (s : State) (i : LaneId) (g : Duplex → Duplex) : (s.modDuplex g).lane i = s.lane i := by
  cases i <;> rfl
@[simp] theorem State.lane_modGl (s : State) (i : LaneId) (g : Gl → Gl) : (s.modGl g).lane i = s.lane i := by
  cases i <;> rfl
@[simp] theorem State.lane_modField (s : State) (i : LaneId) (g : FieldDie → FieldDie) : (s.modField g).lane i = s.lane i := by
  cases i <;> rfl
@[simp] theorem State.lane_modSafe (s : State) (i : LaneId) (g : Safe → Safe) : (s.modSafe g).lane i = s.lane i := by
  cases i <;> rfl
@[simp] theorem State.lane_modClock (s : State) (i : LaneId) (g : Clock → Clock) : (s.modClock g).lane i = s.lane i := by
  cases i <;> rfl
@[simp] theorem State.lane_modGrp (s : State) (i : LaneId) (g : Grp → Grp) : (s.modGrp g).lane i = s.lane i := by
  cases i <;> rfl
@[simp] theorem State.lane_modSec (s : State) (i : LaneId) (g : Sec → Sec) : (s.modSec g).lane i = s.lane i := by
  cases i <;> rfl
@[simp] theorem State.lane_modPower (s : State) (i : LaneId) (g : Power → Power) : (s.modPower g).lane i = s.lane i := by
  cases i <;> rfl

/-! ### Register fields after an update -/

@[simp] theorem State.rd_modMod (s : State) (x : Fld) (g : ModState → ModState) : (s.modMod g).rd x = s.rd x := (rfl)
@[simp] theorem State.rd_modHost (s : State) (x : Fld) (g : HostIf → HostIf) : (s.modHost g).rd x = s.rd x := (rfl)
@[simp] theorem State.rd_modEic (s : State) (x : Fld) (g : Eic → Eic) : (s.modEic g).rd x = s.rd x := (rfl)
@[simp] theorem State.rd_modJournal (s : State) (x : Fld) (g : Journal → Journal) : (s.modJournal g).rd x = s.rd x := (rfl)
@[simp] theorem State.rd_modFaults (s : State) (x : Fld) (g : Faults → Faults) : (s.modFaults g).rd x = s.rd x := (rfl)
@[simp] theorem State.rd_modDuplex (s : State) (x : Fld) (g : Duplex → Duplex) : (s.modDuplex g).rd x = s.rd x := (rfl)
@[simp] theorem State.rd_modGl (s : State) (x : Fld) (g : Gl → Gl) : (s.modGl g).rd x = s.rd x := (rfl)
@[simp] theorem State.rd_modField (s : State) (x : Fld) (g : FieldDie → FieldDie) : (s.modField g).rd x = s.rd x := (rfl)
@[simp] theorem State.rd_modSafe (s : State) (x : Fld) (g : Safe → Safe) : (s.modSafe g).rd x = s.rd x := (rfl)
@[simp] theorem State.rd_modClock (s : State) (x : Fld) (g : Clock → Clock) : (s.modClock g).rd x = s.rd x := (rfl)
@[simp] theorem State.rd_modGrp (s : State) (x : Fld) (g : Grp → Grp) : (s.modGrp g).rd x = s.rd x := (rfl)
@[simp] theorem State.rd_modSec (s : State) (x : Fld) (g : Sec → Sec) : (s.modSec g).rd x = s.rd x := (rfl)
@[simp] theorem State.rd_modPower (s : State) (x : Fld) (g : Power → Power) : (s.modPower g).rd x = s.rd x := (rfl)
@[simp] theorem State.rd_bothLanes (s : State) (x : Fld) (g : Lane → Lane) : (s.bothLanes g).rd x = s.rd x := (rfl)
@[simp] theorem State.rd_setLane (s : State) (x : Fld) (i : LaneId) (l : Lane) : (s.setLane i l).rd x = s.rd x := by
  cases i <;> rfl
@[simp] theorem State.rd_modLane (s : State) (x : Fld) (i : LaneId) (g : Lane → Lane) : (s.modLane i g).rd x = s.rd x := by
  cases i <;> rfl

end Sys2Proof.Machine
end

