-- ==== Sys2Proof/Laws/Regs.lean ====
section
/-! SUPPORT. Reading back what was written: bit fields, sparse memories and register files, with the lemma that every
operation on them keeps the canonical form. -/
namespace Sys2Proof.Machine

/-! ### Sparse lists -/

@[simp] theorem memFind_memPut {α : Type} (m : List (Nat × α)) (x : Nat) (w : α) : memFind (memPut m x w) x = some w := by
  induction m with
  | nil => simp [memPut, memFind]
  | cons p t ih =>
    obtain ⟨a, v⟩ := p
    simp only [memPut]
    split
    · simp [memFind]
    · split
      · simp [memFind]
      · rename_i h1 h2
        simp [memFind, Ne.symm h2, ih]

theorem memFind_memPut_ne {α : Type} (m : List (Nat × α)) {x y : Nat} (w : α) (h : y ≠ x) :
    memFind (memPut m x w) y = memFind m y := by
  induction m with
  | nil => simp [memPut, memFind, Ne.symm h]
  | cons p t ih =>
    obtain ⟨a, v⟩ := p
    simp only [memPut]
    split
    · simp [memFind, Ne.symm h]
    · split
      · rename_i h1 h2
        subst h2
        simp [memFind, Ne.symm h]
      · simp only [memFind, ih]

@[simp] theorem memFind_memDrop {α : Type} (m : List (Nat × α)) (x : Nat) : memFind (memDrop m x) x = none := by
  induction m with
  | nil => rfl
  | cons p t ih =>
    obtain ⟨a, v⟩ := p
    simp only [memDrop]
    split
    · exact ih
    · rename_i h
      simp [memFind, h, ih]

theorem memFind_memDrop_ne {α : Type} (m : List (Nat × α)) {x y : Nat} (h : y ≠ x) : memFind (memDrop m x) y = memFind m y := by
  induction m with
  | nil => rfl
  | cons p t ih =>
    obtain ⟨a, v⟩ := p
    simp only [memDrop]
    split
    · rename_i h1
      subst h1
      simp [memFind, Ne.symm h, ih]
    · simp only [memFind, ih]

/-- A word reads back where it was written. -/
@[simp] theorem memRd_memWr (m : WordMem) (x : Nat) (w : Word) : memRd (memWr m x w) x = w := by
  simp only [memRd, memWr]
  split
  · rename_i h
    simp [h]
  · simp

/-- A write leaves every other word of the memory alone. -/
theorem memRd_memWr_ne (m : WordMem) {x y : Nat} (w : Word) (h : y ≠ x) : memRd (memWr m x w) y = memRd m y := by
  simp only [memRd, memWr]
  split
  · rw [memFind_memDrop_ne m h]
  · rw [memFind_memPut_ne m w h]

/-! ### Register files -/

/-- A register reads back what was written. -/
@[simp] theorem RegFile.get_set (f : RegFile) (x : Nat) (w : Word) : (f.set x w).get x = w := by
  simp only [RegFile.get, RegFile.set]
  split
  · rename_i h
    split at h <;> simp_all
  · rename_i h
    split at h <;> simp_all

/-- A write leaves every other register alone. -/
theorem RegFile.get_set_ne (f : RegFile) {x y : Nat} (w : Word) (h : y ≠ x) : (f.set x w).get y = f.get y := by
  have e : memFind (f.set x w) y = memFind f y := by
    simp only [RegFile.set]
    split
    · exact memFind_memDrop_ne f h
    · exact memFind_memPut_ne f w h
  simp only [RegFile.get, e]

/-! ### Bit fields -/

theorem maskOf_getLsbD (hi lo i : Nat) (hh : hi < 32) : (maskOf hi lo).getLsbD i = (decide (lo ≤ i) && decide (i ≤ hi)) := by
  simp only [maskOf, BitVec.getLsbD_and, BitVec.getLsbD_ushiftRight, BitVec.getLsbD_allOnes, BitVec.getLsbD_shiftLeft]
  by_cases h1 : i ≤ hi <;> by_cases h2 : lo ≤ i <;> simp [h1, h2] <;> omega

theorem withBits_getLsbD (w : Word) (hi lo v i : Nat) (hh : hi < 32) (hi32 : i < 32) :
    (withBits w hi lo v).getLsbD i = if lo ≤ i ∧ i ≤ hi then v.testBit (i - lo) else w.getLsbD i := by
  simp only [withBits, BitVec.getLsbD_or, BitVec.getLsbD_and, BitVec.getLsbD_not, maskOf_getLsbD _ _ _ hh,
    BitVec.getLsbD_shiftLeft, BitVec.getLsbD_ofNat]
  have e : i - lo < 32 := by omega
  by_cases h1 : lo ≤ i <;> by_cases h2 : i ≤ hi <;> simp [h1, h2, hi32, e]

theorem bitsOf_testBit (w : Word) (hi lo i : Nat) (h : lo ≤ hi) :
    (bitsOf w hi lo).testBit i = (decide (i ≤ hi - lo) && w.getLsbD (lo + i)) := by
  simp only [bitsOf, ← Nat.shiftRight_eq_div_pow, Nat.testBit_mod_two_pow, Nat.testBit_shiftRight]
  have e : (decide (i < hi + 1 - lo)) = decide (i ≤ hi - lo) := by
    by_cases hx : i ≤ hi - lo <;> simp [hx] <;> omega
  rw [e]; rfl

/-- A field reads back what was written, cut to its width. -/
theorem bitsOf_withBits (w : Word) (hi lo v : Nat) (h : lo ≤ hi) (hh : hi < 32) :
    bitsOf (withBits w hi lo v) hi lo = v % 2 ^ (hi + 1 - lo) := by
  apply Nat.eq_of_testBit_eq
  intro i
  rw [bitsOf_testBit _ _ _ _ h, Nat.testBit_mod_two_pow]
  by_cases hx : i ≤ hi - lo
  · rw [withBits_getLsbD _ _ _ _ _ hh (by omega), if_pos (by omega)]
    have e : lo + i - lo = i := by omega
    have e2 : i < hi + 1 - lo := by omega
    simp [hx, e, e2]
  · have e2 : ¬ i < hi + 1 - lo := by omega
    simp [hx, e2]

/-- A field apart from the written one is left alone. -/
theorem bitsOf_withBits_ne (w : Word) (hi lo v hi' lo' : Nat) (hh : hi < 32) (h' : lo' ≤ hi') (hh' : hi' < 32)
    (h : hi < lo' ∨ hi' < lo) : bitsOf (withBits w hi lo v) hi' lo' = bitsOf w hi' lo' := by
  apply Nat.eq_of_testBit_eq
  intro i
  rw [bitsOf_testBit _ _ _ _ h', bitsOf_testBit _ _ _ _ h']
  by_cases hx : i ≤ hi' - lo'
  · rw [withBits_getLsbD _ _ _ _ _ hh (by omega), if_neg (by omega)]
  · simp [hx]

/-- A field of a file reads back what was written, cut to its width. -/
theorem RegFile.rd_wr (f : RegFile) (x : Fld) (v : Nat) (h : x.lo ≤ x.hi) (hh : x.hi < 32) :
    (f.wr x v).rd x = v % 2 ^ (x.hi + 1 - x.lo) := by
  simp [RegFile.rd, RegFile.wr, bitsOf_withBits _ _ _ _ h hh]

/-- A field of another register is left alone. -/
theorem RegFile.rd_wr_off (f : RegFile) {x y : Fld} (v : Nat) (h : y.off ≠ x.off) : (f.wr x v).rd y = f.rd y := by
  simp [RegFile.rd, RegFile.wr, RegFile.get_set_ne _ _ h]

/-- Another field of the same register is left alone. -/
theorem RegFile.rd_wr_bits (f : RegFile) {x y : Fld} (v : Nat) (ho : y.off = x.off) (hx : x.hi < 32) (hy : y.lo ≤ y.hi)
    (hyh : y.hi < 32) (h : x.hi < y.lo ∨ y.hi < x.lo) : (f.wr x v).rd y = f.rd y := by
  simp only [RegFile.rd, RegFile.wr, ho, RegFile.get_set]
  exact bitsOf_withBits_ne _ _ _ _ _ _ hx hy hyh h

theorem State.rd_wr (s : State) (x : Fld) (v : Nat) (h : x.lo ≤ x.hi) (hh : x.hi < 32) :
    (s.wr x v).rd x = v % 2 ^ (x.hi + 1 - x.lo) := RegFile.rd_wr _ _ _ h hh
theorem State.rd_wr_off (s : State) {x y : Fld} (v : Nat) (h : y.off ≠ x.off) : (s.wr x v).rd y = s.rd y :=
  RegFile.rd_wr_off _ _ h
theorem State.rd_wr_bits (s : State) {x y : Fld} (v : Nat) (ho : y.off = x.off) (hx : x.hi < 32) (hy : y.lo ≤ y.hi)
    (hyh : y.hi < 32) (h : x.hi < y.lo ∨ y.hi < x.lo) : (s.wr x v).rd y = s.rd y :=
  RegFile.rd_wr_bits _ _ ho hx hy hyh h
theorem Lane.rd_wr (l : Lane) (x : Fld) (v : Nat) (h : x.lo ≤ x.hi) (hh : x.hi < 32) :
    (l.wr x v).rd x = v % 2 ^ (x.hi + 1 - x.lo) := RegFile.rd_wr _ _ _ h hh
theorem Lane.rd_wr_off (l : Lane) {x y : Fld} (v : Nat) (h : y.off ≠ x.off) : (l.wr x v).rd y = l.rd y :=
  RegFile.rd_wr_off _ _ h
theorem Lane.rd_wr_bits (l : Lane) {x y : Fld} (v : Nat) (ho : y.off = x.off) (hx : x.hi < 32) (hy : y.lo ≤ y.hi)
    (hyh : y.hi < 32) (h : x.hi < y.lo ∨ y.hi < x.lo) : (l.wr x v).rd y = l.rd y :=
  RegFile.rd_wr_bits _ _ ho hx hy hyh h

end Sys2Proof.Machine
end

