-- ==== Sys2Proof/Laws/Runs.lean ====
section
/-! SUPPORT. What a choice and a run over a list leave alone: a field that every branch or every step keeps is kept. -/
namespace Sys2Proof.Machine

theorem foldl_keep {σ α β : Type} (p : σ → β) (g : σ → α → σ) (h : ∀ s a, p (g s a) = p s) (l : List α) (s : σ) :
    p (l.foldl g s) = p s := by
  induction l generalizing s with
  | nil => rfl
  | cons a t ih => rw [List.foldl_cons, ih, h]

@[simp] theorem State.ite_pending (c : Prop) [Decidable c] (s t : State) : (if c then s else t).pending = if c then s.pending else t.pending :=
  apply_ite State.pending c s t
@[simp] theorem State.ite_now (c : Prop) [Decidable c] (s t : State) : (if c then s else t).now = if c then s.now else t.now :=
  apply_ite State.now c s t
@[simp] theorem State.ite_free (c : Prop) [Decidable c] (s t : State) : (if c then s else t).free = if c then s.free else t.free :=
  apply_ite State.free c s t
@[simp] theorem State.ite_readData (c : Prop) [Decidable c] (s t : State) : (if c then s else t).readData = if c then s.readData else t.readData :=
  apply_ite State.readData c s t
@[simp] theorem State.ite_regs (c : Prop) [Decidable c] (s t : State) : (if c then s else t).regs = if c then s.regs else t.regs :=
  apply_ite State.regs c s t
@[simp] theorem State.ite_mirror (c : Prop) [Decidable c] (s t : State) : (if c then s else t).mirror = if c then s.mirror else t.mirror :=
  apply_ite State.mirror c s t
@[simp] theorem State.ite_laneA (c : Prop) [Decidable c] (s t : State) : (if c then s else t).laneA = if c then s.laneA else t.laneA :=
  apply_ite State.laneA c s t
@[simp] theorem State.ite_laneB (c : Prop) [Decidable c] (s t : State) : (if c then s else t).laneB = if c then s.laneB else t.laneB :=
  apply_ite State.laneB c s t
@[simp] theorem State.ite_mod (c : Prop) [Decidable c] (s t : State) : (if c then s else t).mod = if c then s.mod else t.mod :=
  apply_ite State.mod c s t
@[simp] theorem State.ite_host (c : Prop) [Decidable c] (s t : State) : (if c then s else t).host = if c then s.host else t.host :=
  apply_ite State.host c s t
@[simp] theorem State.ite_eic (c : Prop) [Decidable c] (s t : State) : (if c then s else t).eic = if c then s.eic else t.eic :=
  apply_ite State.eic c s t
@[simp] theorem State.ite_journal (c : Prop) [Decidable c] (s t : State) : (if c then s else t).journal = if c then s.journal else t.journal :=
  apply_ite State.journal c s t
@[simp] theorem State.ite_faults (c : Prop) [Decidable c] (s t : State) : (if c then s else t).faults = if c then s.faults else t.faults :=
  apply_ite State.faults c s t
@[simp] theorem State.ite_duplex (c : Prop) [Decidable c] (s t : State) : (if c then s else t).duplex = if c then s.duplex else t.duplex :=
  apply_ite State.duplex c s t
@[simp] theorem State.ite_gl (c : Prop) [Decidable c] (s t : State) : (if c then s else t).gl = if c then s.gl else t.gl :=
  apply_ite State.gl c s t
@[simp] theorem State.ite_aux (c : Prop) [Decidable c] (s t : State) : (if c then s else t).aux = if c then s.aux else t.aux :=
  apply_ite State.aux c s t
@[simp] theorem State.ite_field (c : Prop) [Decidable c] (s t : State) : (if c then s else t).field = if c then s.field else t.field :=
  apply_ite State.field c s t
@[simp] theorem State.ite_safe (c : Prop) [Decidable c] (s t : State) : (if c then s else t).safe = if c then s.safe else t.safe :=
  apply_ite State.safe c s t
@[simp] theorem State.ite_clock (c : Prop) [Decidable c] (s t : State) : (if c then s else t).clock = if c then s.clock else t.clock :=
  apply_ite State.clock c s t
@[simp] theorem State.ite_grp (c : Prop) [Decidable c] (s t : State) : (if c then s else t).grp = if c then s.grp else t.grp :=
  apply_ite State.grp c s t
@[simp] theorem State.ite_sec (c : Prop) [Decidable c] (s t : State) : (if c then s else t).sec = if c then s.sec else t.sec :=
  apply_ite State.sec c s t
@[simp] theorem State.ite_power (c : Prop) [Decidable c] (s t : State) : (if c then s else t).power = if c then s.power else t.power :=
  apply_ite State.power c s t
@[simp] theorem State.foldl_pending {α : Type} (g : State → α → State) (h : ∀ s a, (g s a).pending = s.pending) (l : List α) (s : State) :
    (l.foldl g s).pending = s.pending := foldl_keep State.pending g h l s
@[simp] theorem State.foldl_now {α : Type} (g : State → α → State) (h : ∀ s a, (g s a).now = s.now) (l : List α) (s : State) :
    (l.foldl g s).now = s.now := foldl_keep State.now g h l s
@[simp] theorem State.foldl_free {α : Type} (g : State → α → State) (h : ∀ s a, (g s a).free = s.free) (l : List α) (s : State) :
    (l.foldl g s).free = s.free := foldl_keep State.free g h l s
@[simp] theorem State.foldl_readData {α : Type} (g : State → α → State) (h : ∀ s a, (g s a).readData = s.readData) (l : List α) (s : State) :
    (l.foldl g s).readData = s.readData := foldl_keep State.readData g h l s
@[simp] theorem State.foldl_regs {α : Type} (g : State → α → State) (h : ∀ s a, (g s a).regs = s.regs) (l : List α) (s : State) :
    (l.foldl g s).regs = s.regs := foldl_keep State.regs g h l s
@[simp] theorem State.foldl_mirror {α : Type} (g : State → α → State) (h : ∀ s a, (g s a).mirror = s.mirror) (l : List α) (s : State) :
    (l.foldl g s).mirror = s.mirror := foldl_keep State.mirror g h l s
@[simp] theorem State.foldl_laneA {α : Type} (g : State → α → State) (h : ∀ s a, (g s a).laneA = s.laneA) (l : List α) (s : State) :
    (l.foldl g s).laneA = s.laneA := foldl_keep State.laneA g h l s
@[simp] theorem State.foldl_laneB {α : Type} (g : State → α → State) (h : ∀ s a, (g s a).laneB = s.laneB) (l : List α) (s : State) :
    (l.foldl g s).laneB = s.laneB := foldl_keep State.laneB g h l s
@[simp] theorem State.foldl_mod {α : Type} (g : State → α → State) (h : ∀ s a, (g s a).mod = s.mod) (l : List α) (s : State) :
    (l.foldl g s).mod = s.mod := foldl_keep State.mod g h l s
@[simp] theorem State.foldl_host {α : Type} (g : State → α → State) (h : ∀ s a, (g s a).host = s.host) (l : List α) (s : State) :
    (l.foldl g s).host = s.host := foldl_keep State.host g h l s
@[simp] theorem State.foldl_eic {α : Type} (g : State → α → State) (h : ∀ s a, (g s a).eic = s.eic) (l : List α) (s : State) :
    (l.foldl g s).eic = s.eic := foldl_keep State.eic g h l s
@[simp] theorem State.foldl_journal {α : Type} (g : State → α → State) (h : ∀ s a, (g s a).journal = s.journal) (l : List α) (s : State) :
    (l.foldl g s).journal = s.journal := foldl_keep State.journal g h l s
@[simp] theorem State.foldl_faults {α : Type} (g : State → α → State) (h : ∀ s a, (g s a).faults = s.faults) (l : List α) (s : State) :
    (l.foldl g s).faults = s.faults := foldl_keep State.faults g h l s
@[simp] theorem State.foldl_duplex {α : Type} (g : State → α → State) (h : ∀ s a, (g s a).duplex = s.duplex) (l : List α) (s : State) :
    (l.foldl g s).duplex = s.duplex := foldl_keep State.duplex g h l s
@[simp] theorem State.foldl_gl {α : Type} (g : State → α → State) (h : ∀ s a, (g s a).gl = s.gl) (l : List α) (s : State) :
    (l.foldl g s).gl = s.gl := foldl_keep State.gl g h l s
@[simp] theorem State.foldl_aux {α : Type} (g : State → α → State) (h : ∀ s a, (g s a).aux = s.aux) (l : List α) (s : State) :
    (l.foldl g s).aux = s.aux := foldl_keep State.aux g h l s
@[simp] theorem State.foldl_field {α : Type} (g : State → α → State) (h : ∀ s a, (g s a).field = s.field) (l : List α) (s : State) :
    (l.foldl g s).field = s.field := foldl_keep State.field g h l s
@[simp] theorem State.foldl_safe {α : Type} (g : State → α → State) (h : ∀ s a, (g s a).safe = s.safe) (l : List α) (s : State) :
    (l.foldl g s).safe = s.safe := foldl_keep State.safe g h l s
@[simp] theorem State.foldl_clock {α : Type} (g : State → α → State) (h : ∀ s a, (g s a).clock = s.clock) (l : List α) (s : State) :
    (l.foldl g s).clock = s.clock := foldl_keep State.clock g h l s
@[simp] theorem State.foldl_grp {α : Type} (g : State → α → State) (h : ∀ s a, (g s a).grp = s.grp) (l : List α) (s : State) :
    (l.foldl g s).grp = s.grp := foldl_keep State.grp g h l s
@[simp] theorem State.foldl_sec {α : Type} (g : State → α → State) (h : ∀ s a, (g s a).sec = s.sec) (l : List α) (s : State) :
    (l.foldl g s).sec = s.sec := foldl_keep State.sec g h l s
@[simp] theorem State.foldl_power {α : Type} (g : State → α → State) (h : ∀ s a, (g s a).power = s.power) (l : List α) (s : State) :
    (l.foldl g s).power = s.power := foldl_keep State.power g h l s
@[simp] theorem State.foldl_fst_pending {α β : Type} (g : State × β → α → State × β) (h : ∀ p a, (g p a).1.pending = p.1.pending) (l : List α)
    (p : State × β) : (l.foldl g p).1.pending = p.1.pending := foldl_keep (fun p => p.1.pending) g h l p
@[simp] theorem State.foldl_fst_now {α β : Type} (g : State × β → α → State × β) (h : ∀ p a, (g p a).1.now = p.1.now) (l : List α)
    (p : State × β) : (l.foldl g p).1.now = p.1.now := foldl_keep (fun p => p.1.now) g h l p
@[simp] theorem State.foldl_fst_free {α β : Type} (g : State × β → α → State × β) (h : ∀ p a, (g p a).1.free = p.1.free) (l : List α)
    (p : State × β) : (l.foldl g p).1.free = p.1.free := foldl_keep (fun p => p.1.free) g h l p
@[simp] theorem State.foldl_fst_readData {α β : Type} (g : State × β → α → State × β) (h : ∀ p a, (g p a).1.readData = p.1.readData) (l : List α)
    (p : State × β) : (l.foldl g p).1.readData = p.1.readData := foldl_keep (fun p => p.1.readData) g h l p
@[simp] theorem State.foldl_fst_regs {α β : Type} (g : State × β → α → State × β) (h : ∀ p a, (g p a).1.regs = p.1.regs) (l : List α)
    (p : State × β) : (l.foldl g p).1.regs = p.1.regs := foldl_keep (fun p => p.1.regs) g h l p
@[simp] theorem State.foldl_fst_mirror {α β : Type} (g : State × β → α → State × β) (h : ∀ p a, (g p a).1.mirror = p.1.mirror) (l : List α)
    (p : State × β) : (l.foldl g p).1.mirror = p.1.mirror := foldl_keep (fun p => p.1.mirror) g h l p
@[simp] theorem State.foldl_fst_laneA {α β : Type} (g : State × β → α → State × β) (h : ∀ p a, (g p a).1.laneA = p.1.laneA) (l : List α)
    (p : State × β) : (l.foldl g p).1.laneA = p.1.laneA := foldl_keep (fun p => p.1.laneA) g h l p
@[simp] theorem State.foldl_fst_laneB {α β : Type} (g : State × β → α → State × β) (h : ∀ p a, (g p a).1.laneB = p.1.laneB) (l : List α)
    (p : State × β) : (l.foldl g p).1.laneB = p.1.laneB := foldl_keep (fun p => p.1.laneB) g h l p
@[simp] theorem State.foldl_fst_mod {α β : Type} (g : State × β → α → State × β) (h : ∀ p a, (g p a).1.mod = p.1.mod) (l : List α)
    (p : State × β) : (l.foldl g p).1.mod = p.1.mod := foldl_keep (fun p => p.1.mod) g h l p
@[simp] theorem State.foldl_fst_host {α β : Type} (g : State × β → α → State × β) (h : ∀ p a, (g p a).1.host = p.1.host) (l : List α)
    (p : State × β) : (l.foldl g p).1.host = p.1.host := foldl_keep (fun p => p.1.host) g h l p
@[simp] theorem State.foldl_fst_eic {α β : Type} (g : State × β → α → State × β) (h : ∀ p a, (g p a).1.eic = p.1.eic) (l : List α)
    (p : State × β) : (l.foldl g p).1.eic = p.1.eic := foldl_keep (fun p => p.1.eic) g h l p
@[simp] theorem State.foldl_fst_journal {α β : Type} (g : State × β → α → State × β) (h : ∀ p a, (g p a).1.journal = p.1.journal) (l : List α)
    (p : State × β) : (l.foldl g p).1.journal = p.1.journal := foldl_keep (fun p => p.1.journal) g h l p
@[simp] theorem State.foldl_fst_faults {α β : Type} (g : State × β → α → State × β) (h : ∀ p a, (g p a).1.faults = p.1.faults) (l : List α)
    (p : State × β) : (l.foldl g p).1.faults = p.1.faults := foldl_keep (fun p => p.1.faults) g h l p
@[simp] theorem State.foldl_fst_duplex {α β : Type} (g : State × β → α → State × β) (h : ∀ p a, (g p a).1.duplex = p.1.duplex) (l : List α)
    (p : State × β) : (l.foldl g p).1.duplex = p.1.duplex := foldl_keep (fun p => p.1.duplex) g h l p
@[simp] theorem State.foldl_fst_gl {α β : Type} (g : State × β → α → State × β) (h : ∀ p a, (g p a).1.gl = p.1.gl) (l : List α)
    (p : State × β) : (l.foldl g p).1.gl = p.1.gl := foldl_keep (fun p => p.1.gl) g h l p
@[simp] theorem State.foldl_fst_aux {α β : Type} (g : State × β → α → State × β) (h : ∀ p a, (g p a).1.aux = p.1.aux) (l : List α)
    (p : State × β) : (l.foldl g p).1.aux = p.1.aux := foldl_keep (fun p => p.1.aux) g h l p
@[simp] theorem State.foldl_fst_field {α β : Type} (g : State × β → α → State × β) (h : ∀ p a, (g p a).1.field = p.1.field) (l : List α)
    (p : State × β) : (l.foldl g p).1.field = p.1.field := foldl_keep (fun p => p.1.field) g h l p
@[simp] theorem State.foldl_fst_safe {α β : Type} (g : State × β → α → State × β) (h : ∀ p a, (g p a).1.safe = p.1.safe) (l : List α)
    (p : State × β) : (l.foldl g p).1.safe = p.1.safe := foldl_keep (fun p => p.1.safe) g h l p
@[simp] theorem State.foldl_fst_clock {α β : Type} (g : State × β → α → State × β) (h : ∀ p a, (g p a).1.clock = p.1.clock) (l : List α)
    (p : State × β) : (l.foldl g p).1.clock = p.1.clock := foldl_keep (fun p => p.1.clock) g h l p
@[simp] theorem State.foldl_fst_grp {α β : Type} (g : State × β → α → State × β) (h : ∀ p a, (g p a).1.grp = p.1.grp) (l : List α)
    (p : State × β) : (l.foldl g p).1.grp = p.1.grp := foldl_keep (fun p => p.1.grp) g h l p
@[simp] theorem State.foldl_fst_sec {α β : Type} (g : State × β → α → State × β) (h : ∀ p a, (g p a).1.sec = p.1.sec) (l : List α)
    (p : State × β) : (l.foldl g p).1.sec = p.1.sec := foldl_keep (fun p => p.1.sec) g h l p
@[simp] theorem State.foldl_fst_power {α β : Type} (g : State × β → α → State × β) (h : ∀ p a, (g p a).1.power = p.1.power) (l : List α)
    (p : State × β) : (l.foldl g p).1.power = p.1.power := foldl_keep (fun p => p.1.power) g h l p
@[simp] theorem ModState.ite_tally (c : Prop) [Decidable c] (a b : ModState) : (if c then a else b).tally = if c then a.tally else b.tally :=
  apply_ite ModState.tally c a b
@[simp] theorem State.foldl_mod_tally {α : Type} (g : State → α → State) (h : ∀ s a, (g s a).mod.tally = s.mod.tally) (l : List α) (s : State) :
    (l.foldl g s).mod.tally = s.mod.tally := foldl_keep (fun s => s.mod.tally) g h l s
@[simp] theorem State.foldl_fst_mod_tally {α β : Type} (g : State × β → α → State × β)
    (h : ∀ p a, (g p a).1.mod.tally = p.1.mod.tally) (l : List α) (p : State × β) : (l.foldl g p).1.mod.tally = p.1.mod.tally :=
  foldl_keep (fun p => p.1.mod.tally) g h l p
@[simp] theorem State.onLanes_mod_tally (s : State) (ln : LaneSel) (g : State → LaneId → State)
    (h : ∀ s i, (g s i).mod.tally = s.mod.tally) : (s.onLanes ln g).mod.tally = s.mod.tally := by cases ln <;> simp [State.onLanes, h]
@[simp] theorem Sec.ite_identity (c : Prop) [Decidable c] (a b : Sec) : (if c then a else b).identity = if c then a.identity else b.identity :=
  apply_ite Sec.identity c a b
@[simp] theorem State.foldl_sec_identity {α : Type} (g : State → α → State) (h : ∀ s a, (g s a).sec.identity = s.sec.identity) (l : List α) (s : State) :
    (l.foldl g s).sec.identity = s.sec.identity := foldl_keep (fun s => s.sec.identity) g h l s
@[simp] theorem State.foldl_fst_sec_identity {α β : Type} (g : State × β → α → State × β)
    (h : ∀ p a, (g p a).1.sec.identity = p.1.sec.identity) (l : List α) (p : State × β) : (l.foldl g p).1.sec.identity = p.1.sec.identity :=
  foldl_keep (fun p => p.1.sec.identity) g h l p
@[simp] theorem State.onLanes_sec_identity (s : State) (ln : LaneSel) (g : State → LaneId → State)
    (h : ∀ s i, (g s i).sec.identity = s.sec.identity) : (s.onLanes ln g).sec.identity = s.sec.identity := by cases ln <;> simp [State.onLanes, h]
@[simp] theorem State.onLanes_pending (s : State) (ln : LaneSel) (g : State → LaneId → State) (h : ∀ s i, (g s i).pending = s.pending) :
    (s.onLanes ln g).pending = s.pending := by cases ln <;> simp [State.onLanes, h]
@[simp] theorem State.onLanes_now (s : State) (ln : LaneSel) (g : State → LaneId → State) (h : ∀ s i, (g s i).now = s.now) :
    (s.onLanes ln g).now = s.now := by cases ln <;> simp [State.onLanes, h]
@[simp] theorem State.onLanes_free (s : State) (ln : LaneSel) (g : State → LaneId → State) (h : ∀ s i, (g s i).free = s.free) :
    (s.onLanes ln g).free = s.free := by cases ln <;> simp [State.onLanes, h]
@[simp] theorem State.onLanes_readData (s : State) (ln : LaneSel) (g : State → LaneId → State) (h : ∀ s i, (g s i).readData = s.readData) :
    (s.onLanes ln g).readData = s.readData := by cases ln <;> simp [State.onLanes, h]
@[simp] theorem State.onLanes_regs (s : State) (ln : LaneSel) (g : State → LaneId → State) (h : ∀ s i, (g s i).regs = s.regs) :
    (s.onLanes ln g).regs = s.regs := by cases ln <;> simp [State.onLanes, h]
@[simp] theorem State.onLanes_mirror (s : State) (ln : LaneSel) (g : State → LaneId → State) (h : ∀ s i, (g s i).mirror = s.mirror) :
    (s.onLanes ln g).mirror = s.mirror := by cases ln <;> simp [State.onLanes, h]
@[simp] theorem State.onLanes_laneA (s : State) (ln : LaneSel) (g : State → LaneId → State) (h : ∀ s i, (g s i).laneA = s.laneA) :
    (s.onLanes ln g).laneA = s.laneA := by cases ln <;> simp [State.onLanes, h]
@[simp] theorem State.onLanes_laneB (s : State) (ln : LaneSel) (g : State → LaneId → State) (h : ∀ s i, (g s i).laneB = s.laneB) :
    (s.onLanes ln g).laneB = s.laneB := by cases ln <;> simp [State.onLanes, h]
@[simp] theorem State.onLanes_mod (s : State) (ln : LaneSel) (g : State → LaneId → State) (h : ∀ s i, (g s i).mod = s.mod) :
    (s.onLanes ln g).mod = s.mod := by cases ln <;> simp [State.onLanes, h]
@[simp] theorem State.onLanes_host (s : State) (ln : LaneSel) (g : State → LaneId → State) (h : ∀ s i, (g s i).host = s.host) :
    (s.onLanes ln g).host = s.host := by cases ln <;> simp [State.onLanes, h]
@[simp] theorem State.onLanes_eic (s : State) (ln : LaneSel) (g : State → LaneId → State) (h : ∀ s i, (g s i).eic = s.eic) :
    (s.onLanes ln g).eic = s.eic := by cases ln <;> simp [State.onLanes, h]
@[simp] theorem State.onLanes_journal (s : State) (ln : LaneSel) (g : State → LaneId → State) (h : ∀ s i, (g s i).journal = s.journal) :
    (s.onLanes ln g).journal = s.journal := by cases ln <;> simp [State.onLanes, h]
@[simp] theorem State.onLanes_faults (s : State) (ln : LaneSel) (g : State → LaneId → State) (h : ∀ s i, (g s i).faults = s.faults) :
    (s.onLanes ln g).faults = s.faults := by cases ln <;> simp [State.onLanes, h]
@[simp] theorem State.onLanes_duplex (s : State) (ln : LaneSel) (g : State → LaneId → State) (h : ∀ s i, (g s i).duplex = s.duplex) :
    (s.onLanes ln g).duplex = s.duplex := by cases ln <;> simp [State.onLanes, h]
@[simp] theorem State.onLanes_gl (s : State) (ln : LaneSel) (g : State → LaneId → State) (h : ∀ s i, (g s i).gl = s.gl) :
    (s.onLanes ln g).gl = s.gl := by cases ln <;> simp [State.onLanes, h]
@[simp] theorem State.onLanes_aux (s : State) (ln : LaneSel) (g : State → LaneId → State) (h : ∀ s i, (g s i).aux = s.aux) :
    (s.onLanes ln g).aux = s.aux := by cases ln <;> simp [State.onLanes, h]
@[simp] theorem State.onLanes_field (s : State) (ln : LaneSel) (g : State → LaneId → State) (h : ∀ s i, (g s i).field = s.field) :
    (s.onLanes ln g).field = s.field := by cases ln <;> simp [State.onLanes, h]
@[simp] theorem State.onLanes_safe (s : State) (ln : LaneSel) (g : State → LaneId → State) (h : ∀ s i, (g s i).safe = s.safe) :
    (s.onLanes ln g).safe = s.safe := by cases ln <;> simp [State.onLanes, h]
@[simp] theorem State.onLanes_clock (s : State) (ln : LaneSel) (g : State → LaneId → State) (h : ∀ s i, (g s i).clock = s.clock) :
    (s.onLanes ln g).clock = s.clock := by cases ln <;> simp [State.onLanes, h]
@[simp] theorem State.onLanes_grp (s : State) (ln : LaneSel) (g : State → LaneId → State) (h : ∀ s i, (g s i).grp = s.grp) :
    (s.onLanes ln g).grp = s.grp := by cases ln <;> simp [State.onLanes, h]
@[simp] theorem State.onLanes_sec (s : State) (ln : LaneSel) (g : State → LaneId → State) (h : ∀ s i, (g s i).sec = s.sec) :
    (s.onLanes ln g).sec = s.sec := by cases ln <;> simp [State.onLanes, h]
@[simp] theorem State.onLanes_power (s : State) (ln : LaneSel) (g : State → LaneId → State) (h : ∀ s i, (g s i).power = s.power) :
    (s.onLanes ln g).power = s.power := by cases ln <;> simp [State.onLanes, h]

end Sys2Proof.Machine
end

