-- ==== Sys2Proof/Laws/OpsFrames.lean ====
section
/-! SUPPORT. What the operations of Machine/Ops.lean leave alone: for each, the parts of the state that it keeps. -/
namespace Sys2Proof.Machine

@[simp] theorem State.bump_frame (s : State) (x : Fld) :
    (s.bump x).pending = s.pending ∧ (s.bump x).now = s.now ∧ (s.bump x).free = s.free ∧
    (s.bump x).readData = s.readData ∧ (s.bump x).mirror = s.mirror ∧ (s.bump x).laneA = s.laneA ∧
    (s.bump x).laneB = s.laneB ∧ (s.bump x).mod = s.mod ∧ (s.bump x).host = s.host ∧ (s.bump x).eic = s.eic ∧
    (s.bump x).journal = s.journal ∧ (s.bump x).faults = s.faults ∧ (s.bump x).duplex = s.duplex ∧
    (s.bump x).gl = s.gl ∧ (s.bump x).aux = s.aux ∧ (s.bump x).field = s.field ∧ (s.bump x).safe = s.safe ∧
    (s.bump x).clock = s.clock ∧ (s.bump x).grp = s.grp ∧ (s.bump x).sec = s.sec ∧ (s.bump x).power = s.power := by
  simp [State.bump]

@[simp] theorem State.bumpSat_frame (s : State) (x : Fld) :
    (s.bumpSat x).pending = s.pending ∧ (s.bumpSat x).now = s.now ∧ (s.bumpSat x).free = s.free ∧
    (s.bumpSat x).readData = s.readData ∧ (s.bumpSat x).mirror = s.mirror ∧ (s.bumpSat x).laneA = s.laneA ∧
    (s.bumpSat x).laneB = s.laneB ∧ (s.bumpSat x).mod = s.mod ∧ (s.bumpSat x).host = s.host ∧
    (s.bumpSat x).eic = s.eic ∧ (s.bumpSat x).journal = s.journal ∧ (s.bumpSat x).faults = s.faults ∧
    (s.bumpSat x).duplex = s.duplex ∧ (s.bumpSat x).gl = s.gl ∧ (s.bumpSat x).aux = s.aux ∧
    (s.bumpSat x).field = s.field ∧ (s.bumpSat x).safe = s.safe ∧ (s.bumpSat x).clock = s.clock ∧
    (s.bumpSat x).grp = s.grp ∧ (s.bumpSat x).sec = s.sec ∧ (s.bumpSat x).power = s.power := by
  simp [State.bumpSat]

@[simp] theorem State.fresh_frame (s : State) :
    s.fresh.2.pending = s.pending ∧ s.fresh.2.now = s.now ∧ s.fresh.2.readData = s.readData ∧
    s.fresh.2.regs = s.regs ∧ s.fresh.2.mirror = s.mirror ∧ s.fresh.2.laneA = s.laneA ∧ s.fresh.2.laneB = s.laneB ∧
    s.fresh.2.mod = s.mod ∧ s.fresh.2.host = s.host ∧ s.fresh.2.eic = s.eic ∧ s.fresh.2.journal = s.journal ∧
    s.fresh.2.faults = s.faults ∧ s.fresh.2.duplex = s.duplex ∧ s.fresh.2.gl = s.gl ∧ s.fresh.2.aux = s.aux ∧
    s.fresh.2.field = s.field ∧ s.fresh.2.safe = s.safe ∧ s.fresh.2.clock = s.clock ∧ s.fresh.2.grp = s.grp ∧
    s.fresh.2.sec = s.sec ∧ s.fresh.2.power = s.power := by
  simp [State.fresh]

@[simp] theorem State.setVec_frame (s : State) (v : Nat) (x : VecSt) :
    (s.setVec v x).pending = s.pending ∧ (s.setVec v x).now = s.now ∧ (s.setVec v x).free = s.free ∧
    (s.setVec v x).readData = s.readData ∧ (s.setVec v x).regs = s.regs ∧ (s.setVec v x).mirror = s.mirror ∧
    (s.setVec v x).laneA = s.laneA ∧ (s.setVec v x).laneB = s.laneB ∧ (s.setVec v x).mod = s.mod ∧
    (s.setVec v x).host = s.host ∧ (s.setVec v x).journal = s.journal ∧ (s.setVec v x).faults = s.faults ∧
    (s.setVec v x).duplex = s.duplex ∧ (s.setVec v x).gl = s.gl ∧ (s.setVec v x).aux = s.aux ∧
    (s.setVec v x).field = s.field ∧ (s.setVec v x).safe = s.safe ∧ (s.setVec v x).clock = s.clock ∧
    (s.setVec v x).grp = s.grp ∧ (s.setVec v x).sec = s.sec ∧ (s.setVec v x).power = s.power := by
  simp [State.setVec]

@[simp] theorem State.mmioRecord_frame (s : State) (off status : Nat) :
    (s.mmioRecord off status).pending = s.pending ∧ (s.mmioRecord off status).now = s.now ∧
    (s.mmioRecord off status).free = s.free ∧ (s.mmioRecord off status).readData = s.readData ∧
    (s.mmioRecord off status).mirror = s.mirror ∧ (s.mmioRecord off status).laneA = s.laneA ∧
    (s.mmioRecord off status).laneB = s.laneB ∧ (s.mmioRecord off status).mod = s.mod ∧
    (s.mmioRecord off status).host = s.host ∧ (s.mmioRecord off status).eic = s.eic ∧
    (s.mmioRecord off status).journal = s.journal ∧ (s.mmioRecord off status).faults = s.faults ∧
    (s.mmioRecord off status).duplex = s.duplex ∧ (s.mmioRecord off status).gl = s.gl ∧
    (s.mmioRecord off status).aux = s.aux ∧ (s.mmioRecord off status).field = s.field ∧
    (s.mmioRecord off status).safe = s.safe ∧ (s.mmioRecord off status).clock = s.clock ∧
    (s.mmioRecord off status).grp = s.grp ∧ (s.mmioRecord off status).sec = s.sec ∧
    (s.mmioRecord off status).power = s.power := by
  simp [State.mmioRecord]

@[simp] theorem State.endToken_frame (s : State) :
    s.endToken.pending = s.pending ∧ s.endToken.now = s.now ∧ s.endToken.free = s.free ∧
    s.endToken.readData = s.readData ∧ s.endToken.mirror = s.mirror ∧ s.endToken.laneA = s.laneA ∧
    s.endToken.laneB = s.laneB ∧ s.endToken.mod = s.mod ∧ s.endToken.host = s.host ∧ s.endToken.eic = s.eic ∧
    s.endToken.journal = s.journal ∧ s.endToken.faults = s.faults ∧ s.endToken.duplex = s.duplex ∧
    s.endToken.gl = s.gl ∧ s.endToken.aux = s.aux ∧ s.endToken.field = s.field ∧ s.endToken.safe = s.safe ∧
    s.endToken.clock = s.clock ∧ s.endToken.grp = s.grp ∧ s.endToken.power = s.power ∧
    s.endToken.sec.identity = s.sec.identity := by
  simp [State.endToken]

@[simp] theorem State.returned_frame (s : State) (ws : List Word) :
    (s.returned ws).pending = s.pending ∧ (s.returned ws).now = s.now ∧ (s.returned ws).free = s.free ∧
    (s.returned ws).regs = s.regs ∧ (s.returned ws).mirror = s.mirror ∧ (s.returned ws).laneA = s.laneA ∧
    (s.returned ws).laneB = s.laneB ∧ (s.returned ws).mod = s.mod ∧ (s.returned ws).host = s.host ∧
    (s.returned ws).eic = s.eic ∧ (s.returned ws).journal = s.journal ∧ (s.returned ws).faults = s.faults ∧
    (s.returned ws).duplex = s.duplex ∧ (s.returned ws).gl = s.gl ∧ (s.returned ws).aux = s.aux ∧
    (s.returned ws).field = s.field ∧ (s.returned ws).safe = s.safe ∧ (s.returned ws).clock = s.clock ∧
    (s.returned ws).grp = s.grp ∧ (s.returned ws).sec = s.sec ∧ (s.returned ws).power = s.power := by
  simp [State.returned]

@[simp] theorem State.levelOff_frame (s : State) (src : Nat) :
    (s.levelOff src).pending = s.pending ∧ (s.levelOff src).now = s.now ∧ (s.levelOff src).free = s.free ∧
    (s.levelOff src).readData = s.readData ∧ (s.levelOff src).mirror = s.mirror ∧ (s.levelOff src).mod = s.mod ∧
    (s.levelOff src).host = s.host ∧ (s.levelOff src).eic = s.eic ∧ (s.levelOff src).journal = s.journal ∧
    (s.levelOff src).faults = s.faults ∧ (s.levelOff src).duplex = s.duplex ∧ (s.levelOff src).gl = s.gl ∧
    (s.levelOff src).aux = s.aux ∧ (s.levelOff src).field = s.field ∧ (s.levelOff src).safe = s.safe ∧
    (s.levelOff src).clock = s.clock ∧ (s.levelOff src).grp = s.grp ∧ (s.levelOff src).sec = s.sec ∧
    (s.levelOff src).power = s.power := by
  simp [State.levelOff]

@[simp] theorem State.setThread_frame (s : State) (t code : Nat) :
    (s.setThread t code).pending = s.pending ∧ (s.setThread t code).now = s.now ∧
    (s.setThread t code).free = s.free ∧ (s.setThread t code).readData = s.readData ∧
    (s.setThread t code).mirror = s.mirror ∧ (s.setThread t code).laneA = s.laneA ∧
    (s.setThread t code).laneB = s.laneB ∧ (s.setThread t code).host = s.host ∧ (s.setThread t code).eic = s.eic ∧
    (s.setThread t code).journal = s.journal ∧ (s.setThread t code).faults = s.faults ∧
    (s.setThread t code).duplex = s.duplex ∧ (s.setThread t code).gl = s.gl ∧ (s.setThread t code).aux = s.aux ∧
    (s.setThread t code).field = s.field ∧ (s.setThread t code).safe = s.safe ∧
    (s.setThread t code).clock = s.clock ∧ (s.setThread t code).grp = s.grp ∧ (s.setThread t code).sec = s.sec ∧
    (s.setThread t code).power = s.power ∧ (s.setThread t code).mod.tally = s.mod.tally := by
  simp [State.setThread]

@[simp] theorem State.glSend_frame (s : State) (n type : Nat) (payload : List Byte) :
    (s.glSend n type payload).pending = s.pending ∧ (s.glSend n type payload).now = s.now ∧
    (s.glSend n type payload).free = s.free ∧ (s.glSend n type payload).readData = s.readData ∧
    (s.glSend n type payload).regs = s.regs ∧ (s.glSend n type payload).mirror = s.mirror ∧
    (s.glSend n type payload).laneA = s.laneA ∧ (s.glSend n type payload).laneB = s.laneB ∧
    (s.glSend n type payload).mod = s.mod ∧ (s.glSend n type payload).host = s.host ∧
    (s.glSend n type payload).eic = s.eic ∧ (s.glSend n type payload).journal = s.journal ∧
    (s.glSend n type payload).faults = s.faults ∧ (s.glSend n type payload).duplex = s.duplex ∧
    (s.glSend n type payload).aux = s.aux ∧ (s.glSend n type payload).field = s.field ∧
    (s.glSend n type payload).safe = s.safe ∧ (s.glSend n type payload).clock = s.clock ∧
    (s.glSend n type payload).grp = s.grp ∧ (s.glSend n type payload).sec = s.sec ∧
    (s.glSend n type payload).power = s.power := by
  simp [State.glSend]

@[simp] theorem State.modAux_frame (s : State) (n : Nat) (f : Aux → Aux) :
    (s.modAux n f).pending = s.pending ∧ (s.modAux n f).now = s.now ∧ (s.modAux n f).free = s.free ∧
    (s.modAux n f).readData = s.readData ∧ (s.modAux n f).regs = s.regs ∧ (s.modAux n f).mirror = s.mirror ∧
    (s.modAux n f).laneA = s.laneA ∧ (s.modAux n f).laneB = s.laneB ∧ (s.modAux n f).mod = s.mod ∧
    (s.modAux n f).host = s.host ∧ (s.modAux n f).eic = s.eic ∧ (s.modAux n f).journal = s.journal ∧
    (s.modAux n f).faults = s.faults ∧ (s.modAux n f).duplex = s.duplex ∧ (s.modAux n f).gl = s.gl ∧
    (s.modAux n f).field = s.field ∧ (s.modAux n f).safe = s.safe ∧ (s.modAux n f).clock = s.clock ∧
    (s.modAux n f).grp = s.grp ∧ (s.modAux n f).sec = s.sec ∧ (s.modAux n f).power = s.power := by
  simp [State.modAux]

@[simp] theorem State.updSo_frame (s : State) :
    s.updSo.pending = s.pending ∧ s.updSo.now = s.now ∧ s.updSo.free = s.free ∧ s.updSo.readData = s.readData ∧
    s.updSo.regs = s.regs ∧ s.updSo.mirror = s.mirror ∧ s.updSo.mod = s.mod ∧ s.updSo.host = s.host ∧
    s.updSo.eic = s.eic ∧ s.updSo.journal = s.journal ∧ s.updSo.faults = s.faults ∧ s.updSo.duplex = s.duplex ∧
    s.updSo.gl = s.gl ∧ s.updSo.aux = s.aux ∧ s.updSo.field = s.field ∧ s.updSo.safe = s.safe ∧
    s.updSo.clock = s.clock ∧ s.updSo.grp = s.grp ∧ s.updSo.sec = s.sec ∧ s.updSo.power = s.power := by
  unfold State.updSo
  exact ⟨State.foldl_pending _ (by intros; (try dsimp only); (repeat' split) <;> simp) _ _,
    State.foldl_now _ (by intros; (try dsimp only); (repeat' split) <;> simp) _ _,
    State.foldl_free _ (by intros; (try dsimp only); (repeat' split) <;> simp) _ _,
    State.foldl_readData _ (by intros; (try dsimp only); (repeat' split) <;> simp) _ _,
    State.foldl_regs _ (by intros; (try dsimp only); (repeat' split) <;> simp) _ _,
    State.foldl_mirror _ (by intros; (try dsimp only); (repeat' split) <;> simp) _ _,
    State.foldl_mod _ (by intros; (try dsimp only); (repeat' split) <;> simp) _ _,
    State.foldl_host _ (by intros; (try dsimp only); (repeat' split) <;> simp) _ _,
    State.foldl_eic _ (by intros; (try dsimp only); (repeat' split) <;> simp) _ _,
    State.foldl_journal _ (by intros; (try dsimp only); (repeat' split) <;> simp) _ _,
    State.foldl_faults _ (by intros; (try dsimp only); (repeat' split) <;> simp) _ _,
    State.foldl_duplex _ (by intros; (try dsimp only); (repeat' split) <;> simp) _ _,
    State.foldl_gl _ (by intros; (try dsimp only); (repeat' split) <;> simp) _ _,
    State.foldl_aux _ (by intros; (try dsimp only); (repeat' split) <;> simp) _ _,
    State.foldl_field _ (by intros; (try dsimp only); (repeat' split) <;> simp) _ _,
    State.foldl_safe _ (by intros; (try dsimp only); (repeat' split) <;> simp) _ _,
    State.foldl_clock _ (by intros; (try dsimp only); (repeat' split) <;> simp) _ _,
    State.foldl_grp _ (by intros; (try dsimp only); (repeat' split) <;> simp) _ _,
    State.foldl_sec _ (by intros; (try dsimp only); (repeat' split) <;> simp) _ _,
    State.foldl_power _ (by intros; (try dsimp only); (repeat' split) <;> simp) _ _⟩

@[simp] theorem State.noteFirst_frame (s : State) (k : Nat) :
    (s.noteFirst k).pending = s.pending ∧ (s.noteFirst k).now = s.now ∧ (s.noteFirst k).free = s.free ∧
    (s.noteFirst k).readData = s.readData ∧ (s.noteFirst k).regs = s.regs ∧ (s.noteFirst k).mirror = s.mirror ∧
    (s.noteFirst k).laneA = s.laneA ∧ (s.noteFirst k).laneB = s.laneB ∧ (s.noteFirst k).mod = s.mod ∧
    (s.noteFirst k).host = s.host ∧ (s.noteFirst k).eic = s.eic ∧ (s.noteFirst k).journal = s.journal ∧
    (s.noteFirst k).duplex = s.duplex ∧ (s.noteFirst k).gl = s.gl ∧ (s.noteFirst k).aux = s.aux ∧
    (s.noteFirst k).field = s.field ∧ (s.noteFirst k).safe = s.safe ∧ (s.noteFirst k).clock = s.clock ∧
    (s.noteFirst k).grp = s.grp ∧ (s.noteFirst k).sec = s.sec ∧ (s.noteFirst k).power = s.power := by
  simp [State.noteFirst]

@[simp] theorem State.updCauseBits_frame (s : State) :
    s.updCauseBits.pending = s.pending ∧ s.updCauseBits.now = s.now ∧ s.updCauseBits.free = s.free ∧
    s.updCauseBits.readData = s.readData ∧ s.updCauseBits.mirror = s.mirror ∧ s.updCauseBits.laneA = s.laneA ∧
    s.updCauseBits.laneB = s.laneB ∧ s.updCauseBits.mod = s.mod ∧ s.updCauseBits.host = s.host ∧
    s.updCauseBits.eic = s.eic ∧ s.updCauseBits.journal = s.journal ∧ s.updCauseBits.faults = s.faults ∧
    s.updCauseBits.duplex = s.duplex ∧ s.updCauseBits.gl = s.gl ∧ s.updCauseBits.aux = s.aux ∧
    s.updCauseBits.field = s.field ∧ s.updCauseBits.safe = s.safe ∧ s.updCauseBits.clock = s.clock ∧
    s.updCauseBits.grp = s.grp ∧ s.updCauseBits.sec = s.sec ∧ s.updCauseBits.power = s.power := by
  simp [State.updCauseBits]

@[simp] theorem State.endHoldByFault_frame (s : State) :
    s.endHoldByFault.pending = s.pending ∧ s.endHoldByFault.now = s.now ∧ s.endHoldByFault.free = s.free ∧
    s.endHoldByFault.readData = s.readData ∧ s.endHoldByFault.mirror = s.mirror ∧ s.endHoldByFault.laneA = s.laneA ∧
    s.endHoldByFault.laneB = s.laneB ∧ s.endHoldByFault.mod = s.mod ∧ s.endHoldByFault.host = s.host ∧
    s.endHoldByFault.eic = s.eic ∧ s.endHoldByFault.journal = s.journal ∧ s.endHoldByFault.faults = s.faults ∧
    s.endHoldByFault.gl = s.gl ∧ s.endHoldByFault.aux = s.aux ∧ s.endHoldByFault.field = s.field ∧
    s.endHoldByFault.safe = s.safe ∧ s.endHoldByFault.clock = s.clock ∧ s.endHoldByFault.grp = s.grp ∧
    s.endHoldByFault.sec = s.sec ∧ s.endHoldByFault.power = s.power := by
  simp [State.endHoldByFault]

@[simp] theorem State.startExit_frame (s : State) (slot : Option Nat) :
    (s.startExit slot).pending = s.pending ∧ (s.startExit slot).now = s.now ∧ (s.startExit slot).free = s.free ∧
    (s.startExit slot).readData = s.readData ∧ (s.startExit slot).mirror = s.mirror ∧
    (s.startExit slot).laneA = s.laneA ∧ (s.startExit slot).laneB = s.laneB ∧ (s.startExit slot).host = s.host ∧
    (s.startExit slot).eic = s.eic ∧ (s.startExit slot).journal = s.journal ∧ (s.startExit slot).faults = s.faults ∧
    (s.startExit slot).duplex = s.duplex ∧ (s.startExit slot).gl = s.gl ∧ (s.startExit slot).aux = s.aux ∧
    (s.startExit slot).field = s.field ∧ (s.startExit slot).safe = s.safe ∧ (s.startExit slot).clock = s.clock ∧
    (s.startExit slot).grp = s.grp ∧ (s.startExit slot).sec = s.sec ∧
    (s.startExit slot).mod.tally = s.mod.tally := by
  simp [State.startExit]

@[simp] theorem State.writeSetpoint_frame (s : State) (k : Nat) (v : Word) :
    (s.writeSetpoint k v).pending = s.pending ∧ (s.writeSetpoint k v).now = s.now ∧
    (s.writeSetpoint k v).free = s.free ∧ (s.writeSetpoint k v).readData = s.readData ∧
    (s.writeSetpoint k v).regs = s.regs ∧ (s.writeSetpoint k v).mirror = s.mirror ∧
    (s.writeSetpoint k v).laneA = s.laneA ∧ (s.writeSetpoint k v).laneB = s.laneB ∧
    (s.writeSetpoint k v).host = s.host ∧ (s.writeSetpoint k v).eic = s.eic ∧
    (s.writeSetpoint k v).journal = s.journal ∧ (s.writeSetpoint k v).faults = s.faults ∧
    (s.writeSetpoint k v).duplex = s.duplex ∧ (s.writeSetpoint k v).gl = s.gl ∧ (s.writeSetpoint k v).aux = s.aux ∧
    (s.writeSetpoint k v).field = s.field ∧ (s.writeSetpoint k v).safe = s.safe ∧
    (s.writeSetpoint k v).clock = s.clock ∧ (s.writeSetpoint k v).grp = s.grp ∧ (s.writeSetpoint k v).sec = s.sec ∧
    (s.writeSetpoint k v).power = s.power ∧ (s.writeSetpoint k v).mod.tally = s.mod.tally := by
  simp [State.writeSetpoint]

@[simp] theorem State.sendVec_frame (s : State) (v : Nat) :
    (s.sendVec v).pending = s.pending ∧ (s.sendVec v).now = s.now ∧ (s.sendVec v).free = s.free ∧
    (s.sendVec v).readData = s.readData ∧ (s.sendVec v).mirror = s.mirror ∧ (s.sendVec v).laneA = s.laneA ∧
    (s.sendVec v).laneB = s.laneB ∧ (s.sendVec v).mod = s.mod ∧ (s.sendVec v).host = s.host ∧
    (s.sendVec v).journal = s.journal ∧ (s.sendVec v).faults = s.faults ∧ (s.sendVec v).duplex = s.duplex ∧
    (s.sendVec v).gl = s.gl ∧ (s.sendVec v).aux = s.aux ∧ (s.sendVec v).field = s.field ∧
    (s.sendVec v).safe = s.safe ∧ (s.sendVec v).clock = s.clock ∧ (s.sendVec v).grp = s.grp ∧
    (s.sendVec v).sec = s.sec ∧ (s.sendVec v).power = s.power := by
  simp [State.sendVec]

@[simp] theorem State.renewNonce_frame (s : State) :
    s.renewNonce.pending = s.pending ∧ s.renewNonce.now = s.now ∧ s.renewNonce.readData = s.readData ∧
    s.renewNonce.mirror = s.mirror ∧ s.renewNonce.laneA = s.laneA ∧ s.renewNonce.laneB = s.laneB ∧
    s.renewNonce.mod = s.mod ∧ s.renewNonce.host = s.host ∧ s.renewNonce.eic = s.eic ∧
    s.renewNonce.journal = s.journal ∧ s.renewNonce.faults = s.faults ∧ s.renewNonce.duplex = s.duplex ∧
    s.renewNonce.gl = s.gl ∧ s.renewNonce.aux = s.aux ∧ s.renewNonce.field = s.field ∧ s.renewNonce.safe = s.safe ∧
    s.renewNonce.clock = s.clock ∧ s.renewNonce.grp = s.grp ∧ s.renewNonce.sec = s.sec ∧
    s.renewNonce.power = s.power := by
  simp [State.renewNonce]

@[simp] theorem State.journalAdd_frame (s : State) (source : Nat) (code : Nat) (flags : Nat) (data : List Byte) :
    (s.journalAdd source code flags data).pending = s.pending ∧ (s.journalAdd source code flags data).now = s.now ∧
    (s.journalAdd source code flags data).free = s.free ∧
    (s.journalAdd source code flags data).readData = s.readData ∧
    (s.journalAdd source code flags data).mirror = s.mirror ∧
    (s.journalAdd source code flags data).laneA = s.laneA ∧ (s.journalAdd source code flags data).laneB = s.laneB ∧
    (s.journalAdd source code flags data).mod = s.mod ∧ (s.journalAdd source code flags data).host = s.host ∧
    (s.journalAdd source code flags data).eic = s.eic ∧ (s.journalAdd source code flags data).faults = s.faults ∧
    (s.journalAdd source code flags data).duplex = s.duplex ∧ (s.journalAdd source code flags data).gl = s.gl ∧
    (s.journalAdd source code flags data).aux = s.aux ∧ (s.journalAdd source code flags data).field = s.field ∧
    (s.journalAdd source code flags data).safe = s.safe ∧ (s.journalAdd source code flags data).clock = s.clock ∧
    (s.journalAdd source code flags data).grp = s.grp ∧ (s.journalAdd source code flags data).sec = s.sec ∧
    (s.journalAdd source code flags data).power = s.power := by
  simp [State.journalAdd]

@[simp] theorem State.setThreads_frame (s : State) (ts : List Nat) (code : Nat) :
    (s.setThreads ts code).pending = s.pending ∧ (s.setThreads ts code).now = s.now ∧
    (s.setThreads ts code).free = s.free ∧ (s.setThreads ts code).readData = s.readData ∧
    (s.setThreads ts code).mirror = s.mirror ∧ (s.setThreads ts code).laneA = s.laneA ∧
    (s.setThreads ts code).laneB = s.laneB ∧ (s.setThreads ts code).host = s.host ∧
    (s.setThreads ts code).eic = s.eic ∧ (s.setThreads ts code).journal = s.journal ∧
    (s.setThreads ts code).faults = s.faults ∧ (s.setThreads ts code).duplex = s.duplex ∧
    (s.setThreads ts code).gl = s.gl ∧ (s.setThreads ts code).aux = s.aux ∧ (s.setThreads ts code).field = s.field ∧
    (s.setThreads ts code).safe = s.safe ∧ (s.setThreads ts code).clock = s.clock ∧
    (s.setThreads ts code).grp = s.grp ∧ (s.setThreads ts code).sec = s.sec ∧
    (s.setThreads ts code).power = s.power ∧ (s.setThreads ts code).mod.tally = s.mod.tally := by
  simp [State.setThreads]

@[simp] theorem State.sendBlock_frame (s : State) (leg : Nat) (offs : List (Nat × Int)) :
    (s.sendBlock leg offs).pending = s.pending ∧ (s.sendBlock leg offs).now = s.now ∧
    (s.sendBlock leg offs).free = s.free ∧ (s.sendBlock leg offs).readData = s.readData ∧
    (s.sendBlock leg offs).regs = s.regs ∧ (s.sendBlock leg offs).mirror = s.mirror ∧
    (s.sendBlock leg offs).laneA = s.laneA ∧ (s.sendBlock leg offs).laneB = s.laneB ∧
    (s.sendBlock leg offs).mod = s.mod ∧ (s.sendBlock leg offs).host = s.host ∧ (s.sendBlock leg offs).eic = s.eic ∧
    (s.sendBlock leg offs).journal = s.journal ∧ (s.sendBlock leg offs).faults = s.faults ∧
    (s.sendBlock leg offs).duplex = s.duplex ∧ (s.sendBlock leg offs).aux = s.aux ∧
    (s.sendBlock leg offs).field = s.field ∧ (s.sendBlock leg offs).safe = s.safe ∧
    (s.sendBlock leg offs).clock = s.clock ∧ (s.sendBlock leg offs).grp = s.grp ∧
    (s.sendBlock leg offs).sec = s.sec ∧ (s.sendBlock leg offs).power = s.power := by
  simp [State.sendBlock]

@[simp] theorem State.sosOff_frame (s : State) (keep : Nat → Bool) :
    (s.sosOff keep).pending = s.pending ∧ (s.sosOff keep).now = s.now ∧ (s.sosOff keep).free = s.free ∧
    (s.sosOff keep).readData = s.readData ∧ (s.sosOff keep).regs = s.regs ∧ (s.sosOff keep).mirror = s.mirror ∧
    (s.sosOff keep).mod = s.mod ∧ (s.sosOff keep).host = s.host ∧ (s.sosOff keep).eic = s.eic ∧
    (s.sosOff keep).journal = s.journal ∧ (s.sosOff keep).faults = s.faults ∧ (s.sosOff keep).duplex = s.duplex ∧
    (s.sosOff keep).gl = s.gl ∧ (s.sosOff keep).aux = s.aux ∧ (s.sosOff keep).safe = s.safe ∧
    (s.sosOff keep).clock = s.clock ∧ (s.sosOff keep).grp = s.grp ∧ (s.sosOff keep).sec = s.sec ∧
    (s.sosOff keep).power = s.power := by
  simp [State.sosOff]

@[simp] theorem State.firstCause_frame (s : State) (code : Nat) (scope : Scope) (leg : Option Nat) :
    (s.firstCause code scope leg).pending = s.pending ∧ (s.firstCause code scope leg).now = s.now ∧
    (s.firstCause code scope leg).free = s.free ∧ (s.firstCause code scope leg).readData = s.readData ∧
    (s.firstCause code scope leg).mirror = s.mirror ∧ (s.firstCause code scope leg).laneA = s.laneA ∧
    (s.firstCause code scope leg).laneB = s.laneB ∧ (s.firstCause code scope leg).mod = s.mod ∧
    (s.firstCause code scope leg).host = s.host ∧ (s.firstCause code scope leg).eic = s.eic ∧
    (s.firstCause code scope leg).journal = s.journal ∧ (s.firstCause code scope leg).duplex = s.duplex ∧
    (s.firstCause code scope leg).gl = s.gl ∧ (s.firstCause code scope leg).aux = s.aux ∧
    (s.firstCause code scope leg).field = s.field ∧ (s.firstCause code scope leg).safe = s.safe ∧
    (s.firstCause code scope leg).clock = s.clock ∧ (s.firstCause code scope leg).grp = s.grp ∧
    (s.firstCause code scope leg).sec = s.sec ∧ (s.firstCause code scope leg).power = s.power := by
  simp only [State.firstCause]
  (repeat' split) <;> simp

@[simp] theorem State.causeEnd_frame (s : State) (code key : Nat) :
    (s.causeEnd code key).pending = s.pending ∧ (s.causeEnd code key).now = s.now ∧
    (s.causeEnd code key).free = s.free ∧ (s.causeEnd code key).readData = s.readData ∧
    (s.causeEnd code key).mirror = s.mirror ∧ (s.causeEnd code key).laneA = s.laneA ∧
    (s.causeEnd code key).laneB = s.laneB ∧ (s.causeEnd code key).mod = s.mod ∧
    (s.causeEnd code key).host = s.host ∧ (s.causeEnd code key).eic = s.eic ∧
    (s.causeEnd code key).journal = s.journal ∧ (s.causeEnd code key).duplex = s.duplex ∧
    (s.causeEnd code key).gl = s.gl ∧ (s.causeEnd code key).aux = s.aux ∧ (s.causeEnd code key).field = s.field ∧
    (s.causeEnd code key).safe = s.safe ∧ (s.causeEnd code key).clock = s.clock ∧
    (s.causeEnd code key).grp = s.grp ∧ (s.causeEnd code key).sec = s.sec ∧
    (s.causeEnd code key).power = s.power := by
  simp [State.causeEnd]

@[simp] theorem State.stopThread_frame (s : State) (t : Nat) :
    (s.stopThread t).pending = s.pending ∧ (s.stopThread t).now = s.now ∧ (s.stopThread t).free = s.free ∧
    (s.stopThread t).readData = s.readData ∧ (s.stopThread t).regs = s.regs ∧ (s.stopThread t).mirror = s.mirror ∧
    (s.stopThread t).laneA = s.laneA ∧ (s.stopThread t).laneB = s.laneB ∧ (s.stopThread t).host = s.host ∧
    (s.stopThread t).eic = s.eic ∧ (s.stopThread t).journal = s.journal ∧ (s.stopThread t).faults = s.faults ∧
    (s.stopThread t).duplex = s.duplex ∧ (s.stopThread t).gl = s.gl ∧ (s.stopThread t).aux = s.aux ∧
    (s.stopThread t).field = s.field ∧ (s.stopThread t).safe = s.safe ∧ (s.stopThread t).clock = s.clock ∧
    (s.stopThread t).grp = s.grp ∧ (s.stopThread t).sec = s.sec ∧ (s.stopThread t).power = s.power ∧
    (s.stopThread t).mod.tally = s.mod.tally := by
  simp [State.stopThread]

@[simp] theorem State.countVec_frame (s : State) (v n : Nat) :
    (s.countVec v n).pending = s.pending ∧ (s.countVec v n).now = s.now ∧ (s.countVec v n).free = s.free ∧
    (s.countVec v n).readData = s.readData ∧ (s.countVec v n).mirror = s.mirror ∧ (s.countVec v n).laneA = s.laneA ∧
    (s.countVec v n).laneB = s.laneB ∧ (s.countVec v n).mod = s.mod ∧ (s.countVec v n).host = s.host ∧
    (s.countVec v n).journal = s.journal ∧ (s.countVec v n).faults = s.faults ∧ (s.countVec v n).duplex = s.duplex ∧
    (s.countVec v n).gl = s.gl ∧ (s.countVec v n).aux = s.aux ∧ (s.countVec v n).field = s.field ∧
    (s.countVec v n).safe = s.safe ∧ (s.countVec v n).clock = s.clock ∧ (s.countVec v n).grp = s.grp ∧
    (s.countVec v n).sec = s.sec ∧ (s.countVec v n).power = s.power := by
  simp [State.countVec]

@[simp] theorem State.resetToken_frame (s : State) :
    s.resetToken.pending = s.pending ∧ s.resetToken.now = s.now ∧ s.resetToken.readData = s.readData ∧
    s.resetToken.mirror = s.mirror ∧ s.resetToken.laneA = s.laneA ∧ s.resetToken.laneB = s.laneB ∧
    s.resetToken.mod = s.mod ∧ s.resetToken.host = s.host ∧ s.resetToken.eic = s.eic ∧
    s.resetToken.journal = s.journal ∧ s.resetToken.faults = s.faults ∧ s.resetToken.duplex = s.duplex ∧
    s.resetToken.gl = s.gl ∧ s.resetToken.aux = s.aux ∧ s.resetToken.field = s.field ∧ s.resetToken.safe = s.safe ∧
    s.resetToken.clock = s.clock ∧ s.resetToken.grp = s.grp ∧ s.resetToken.power = s.power ∧
    s.resetToken.sec.identity = s.sec.identity := by
  simp [State.resetToken]

@[simp] theorem State.blockLeg_frame (s : State) (leg : Nat) :
    (s.blockLeg leg).pending = s.pending ∧ (s.blockLeg leg).now = s.now ∧ (s.blockLeg leg).free = s.free ∧
    (s.blockLeg leg).readData = s.readData ∧ (s.blockLeg leg).regs = s.regs ∧ (s.blockLeg leg).mirror = s.mirror ∧
    (s.blockLeg leg).laneA = s.laneA ∧ (s.blockLeg leg).laneB = s.laneB ∧ (s.blockLeg leg).mod = s.mod ∧
    (s.blockLeg leg).host = s.host ∧ (s.blockLeg leg).eic = s.eic ∧ (s.blockLeg leg).journal = s.journal ∧
    (s.blockLeg leg).aux = s.aux ∧ (s.blockLeg leg).field = s.field ∧ (s.blockLeg leg).safe = s.safe ∧
    (s.blockLeg leg).clock = s.clock ∧ (s.blockLeg leg).grp = s.grp ∧ (s.blockLeg leg).sec = s.sec ∧
    (s.blockLeg leg).power = s.power := by
  simp [State.blockLeg]

@[simp] theorem State.vecEvent_frame (s : State) (src : Nat) :
    (s.vecEvent src).pending = s.pending ∧ (s.vecEvent src).now = s.now ∧ (s.vecEvent src).free = s.free ∧
    (s.vecEvent src).readData = s.readData ∧ (s.vecEvent src).mirror = s.mirror ∧ (s.vecEvent src).laneA = s.laneA ∧
    (s.vecEvent src).laneB = s.laneB ∧ (s.vecEvent src).mod = s.mod ∧ (s.vecEvent src).host = s.host ∧
    (s.vecEvent src).journal = s.journal ∧ (s.vecEvent src).faults = s.faults ∧ (s.vecEvent src).duplex = s.duplex ∧
    (s.vecEvent src).gl = s.gl ∧ (s.vecEvent src).aux = s.aux ∧ (s.vecEvent src).field = s.field ∧
    (s.vecEvent src).safe = s.safe ∧ (s.vecEvent src).clock = s.clock ∧ (s.vecEvent src).grp = s.grp ∧
    (s.vecEvent src).sec = s.sec ∧ (s.vecEvent src).power = s.power := by
  simp [State.vecEvent]

@[simp] theorem State.blockLegs_frame (s : State) (legs : List Nat) :
    (s.blockLegs legs).pending = s.pending ∧ (s.blockLegs legs).now = s.now ∧ (s.blockLegs legs).free = s.free ∧
    (s.blockLegs legs).readData = s.readData ∧ (s.blockLegs legs).regs = s.regs ∧
    (s.blockLegs legs).mirror = s.mirror ∧ (s.blockLegs legs).laneA = s.laneA ∧ (s.blockLegs legs).laneB = s.laneB ∧
    (s.blockLegs legs).mod = s.mod ∧ (s.blockLegs legs).host = s.host ∧ (s.blockLegs legs).eic = s.eic ∧
    (s.blockLegs legs).journal = s.journal ∧ (s.blockLegs legs).aux = s.aux ∧ (s.blockLegs legs).field = s.field ∧
    (s.blockLegs legs).safe = s.safe ∧ (s.blockLegs legs).clock = s.clock ∧ (s.blockLegs legs).grp = s.grp ∧
    (s.blockLegs legs).sec = s.sec ∧ (s.blockLegs legs).power = s.power := by
  simp [State.blockLegs]

@[simp] theorem State.occurHost_frame (s : State) (src data : Nat) :
    (s.occurHost src data).pending = s.pending ∧ (s.occurHost src data).now = s.now ∧
    (s.occurHost src data).free = s.free ∧ (s.occurHost src data).readData = s.readData ∧
    (s.occurHost src data).mirror = s.mirror ∧ (s.occurHost src data).laneA = s.laneA ∧
    (s.occurHost src data).laneB = s.laneB ∧ (s.occurHost src data).mod = s.mod ∧
    (s.occurHost src data).host = s.host ∧ (s.occurHost src data).journal = s.journal ∧
    (s.occurHost src data).faults = s.faults ∧ (s.occurHost src data).duplex = s.duplex ∧
    (s.occurHost src data).gl = s.gl ∧ (s.occurHost src data).aux = s.aux ∧ (s.occurHost src data).field = s.field ∧
    (s.occurHost src data).safe = s.safe ∧ (s.occurHost src data).clock = s.clock ∧
    (s.occurHost src data).grp = s.grp ∧ (s.occurHost src data).sec = s.sec ∧
    (s.occurHost src data).power = s.power := by
  simp [State.occurHost]

@[simp] theorem State.blockThread_frame (s : State) (t : Nat) :
    (s.blockThread t).pending = s.pending ∧ (s.blockThread t).now = s.now ∧ (s.blockThread t).free = s.free ∧
    (s.blockThread t).readData = s.readData ∧ (s.blockThread t).regs = s.regs ∧
    (s.blockThread t).mirror = s.mirror ∧ (s.blockThread t).laneA = s.laneA ∧ (s.blockThread t).laneB = s.laneB ∧
    (s.blockThread t).mod = s.mod ∧ (s.blockThread t).host = s.host ∧ (s.blockThread t).eic = s.eic ∧
    (s.blockThread t).journal = s.journal ∧ (s.blockThread t).aux = s.aux ∧ (s.blockThread t).field = s.field ∧
    (s.blockThread t).safe = s.safe ∧ (s.blockThread t).clock = s.clock ∧ (s.blockThread t).grp = s.grp ∧
    (s.blockThread t).sec = s.sec ∧ (s.blockThread t).power = s.power := by
  simp [State.blockThread]

@[simp] theorem State.raise_frame (s : State) (src data : Nat) :
    (s.raise src data).pending = s.pending ∧ (s.raise src data).now = s.now ∧ (s.raise src data).free = s.free ∧
    (s.raise src data).readData = s.readData ∧ (s.raise src data).mirror = s.mirror ∧
    (s.raise src data).mod = s.mod ∧ (s.raise src data).host = s.host ∧ (s.raise src data).journal = s.journal ∧
    (s.raise src data).faults = s.faults ∧ (s.raise src data).duplex = s.duplex ∧ (s.raise src data).gl = s.gl ∧
    (s.raise src data).aux = s.aux ∧ (s.raise src data).field = s.field ∧ (s.raise src data).safe = s.safe ∧
    (s.raise src data).clock = s.clock ∧ (s.raise src data).grp = s.grp ∧ (s.raise src data).sec = s.sec ∧
    (s.raise src data).power = s.power := by
  simp [State.raise]

@[simp] theorem State.raiseFrom_frame (s : State) (i : LaneId) (src data : Nat) :
    (s.raiseFrom i src data).pending = s.pending ∧ (s.raiseFrom i src data).now = s.now ∧
    (s.raiseFrom i src data).free = s.free ∧ (s.raiseFrom i src data).readData = s.readData ∧
    (s.raiseFrom i src data).mirror = s.mirror ∧ (s.raiseFrom i src data).mod = s.mod ∧
    (s.raiseFrom i src data).host = s.host ∧ (s.raiseFrom i src data).journal = s.journal ∧
    (s.raiseFrom i src data).faults = s.faults ∧ (s.raiseFrom i src data).gl = s.gl ∧
    (s.raiseFrom i src data).aux = s.aux ∧ (s.raiseFrom i src data).field = s.field ∧
    (s.raiseFrom i src data).safe = s.safe ∧ (s.raiseFrom i src data).clock = s.clock ∧
    (s.raiseFrom i src data).grp = s.grp ∧ (s.raiseFrom i src data).sec = s.sec ∧
    (s.raiseFrom i src data).power = s.power := by
  simp [State.raiseFrom]

@[simp] theorem State.blockAll_frame (s : State) :
    s.blockAll.pending = s.pending ∧ s.blockAll.now = s.now ∧ s.blockAll.free = s.free ∧
    s.blockAll.readData = s.readData ∧ s.blockAll.regs = s.regs ∧ s.blockAll.mirror = s.mirror ∧
    s.blockAll.laneA = s.laneA ∧ s.blockAll.laneB = s.laneB ∧ s.blockAll.mod = s.mod ∧ s.blockAll.host = s.host ∧
    s.blockAll.eic = s.eic ∧ s.blockAll.journal = s.journal ∧ s.blockAll.aux = s.aux ∧ s.blockAll.field = s.field ∧
    s.blockAll.safe = s.safe ∧ s.blockAll.clock = s.clock ∧ s.blockAll.grp = s.grp ∧ s.blockAll.sec = s.sec ∧
    s.blockAll.power = s.power := by
  simp [State.blockAll]

@[simp] theorem State.mmioRefuse_frame (s : State) (off status : Nat) :
    (s.mmioRefuse off status).pending = s.pending ∧ (s.mmioRefuse off status).now = s.now ∧
    (s.mmioRefuse off status).free = s.free ∧ (s.mmioRefuse off status).readData = s.readData ∧
    (s.mmioRefuse off status).mirror = s.mirror ∧ (s.mmioRefuse off status).mod = s.mod ∧
    (s.mmioRefuse off status).host = s.host ∧ (s.mmioRefuse off status).journal = s.journal ∧
    (s.mmioRefuse off status).faults = s.faults ∧ (s.mmioRefuse off status).duplex = s.duplex ∧
    (s.mmioRefuse off status).gl = s.gl ∧ (s.mmioRefuse off status).aux = s.aux ∧
    (s.mmioRefuse off status).field = s.field ∧ (s.mmioRefuse off status).safe = s.safe ∧
    (s.mmioRefuse off status).clock = s.clock ∧ (s.mmioRefuse off status).grp = s.grp ∧
    (s.mmioRefuse off status).sec = s.sec ∧ (s.mmioRefuse off status).power = s.power := by
  simp [State.mmioRefuse]

@[simp] theorem State.raiseOpen_frame (s : State) (src : Nat) :
    (s.raiseOpen src).pending = s.pending ∧ (s.raiseOpen src).now = s.now ∧
    (s.raiseOpen src).readData = s.readData ∧ (s.raiseOpen src).mirror = s.mirror ∧ (s.raiseOpen src).mod = s.mod ∧
    (s.raiseOpen src).host = s.host ∧ (s.raiseOpen src).journal = s.journal ∧ (s.raiseOpen src).faults = s.faults ∧
    (s.raiseOpen src).duplex = s.duplex ∧ (s.raiseOpen src).gl = s.gl ∧ (s.raiseOpen src).aux = s.aux ∧
    (s.raiseOpen src).field = s.field ∧ (s.raiseOpen src).safe = s.safe ∧ (s.raiseOpen src).clock = s.clock ∧
    (s.raiseOpen src).grp = s.grp ∧ (s.raiseOpen src).sec = s.sec ∧ (s.raiseOpen src).power = s.power := by
  simp [State.raiseOpen]

@[simp] theorem State.raiseFromOpen_frame (s : State) (i : LaneId) (src : Nat) :
    (s.raiseFromOpen i src).pending = s.pending ∧ (s.raiseFromOpen i src).now = s.now ∧
    (s.raiseFromOpen i src).readData = s.readData ∧ (s.raiseFromOpen i src).mirror = s.mirror ∧
    (s.raiseFromOpen i src).mod = s.mod ∧ (s.raiseFromOpen i src).host = s.host ∧
    (s.raiseFromOpen i src).journal = s.journal ∧ (s.raiseFromOpen i src).faults = s.faults ∧
    (s.raiseFromOpen i src).gl = s.gl ∧ (s.raiseFromOpen i src).aux = s.aux ∧
    (s.raiseFromOpen i src).field = s.field ∧ (s.raiseFromOpen i src).safe = s.safe ∧
    (s.raiseFromOpen i src).clock = s.clock ∧ (s.raiseFromOpen i src).grp = s.grp ∧
    (s.raiseFromOpen i src).sec = s.sec ∧ (s.raiseFromOpen i src).power = s.power := by
  simp [State.raiseFromOpen]

@[simp] theorem State.levelOn_frame (s : State) (src data : Nat) :
    (s.levelOn src data).pending = s.pending ∧ (s.levelOn src data).now = s.now ∧
    (s.levelOn src data).free = s.free ∧ (s.levelOn src data).readData = s.readData ∧
    (s.levelOn src data).mirror = s.mirror ∧ (s.levelOn src data).mod = s.mod ∧ (s.levelOn src data).host = s.host ∧
    (s.levelOn src data).journal = s.journal ∧ (s.levelOn src data).faults = s.faults ∧
    (s.levelOn src data).duplex = s.duplex ∧ (s.levelOn src data).gl = s.gl ∧ (s.levelOn src data).aux = s.aux ∧
    (s.levelOn src data).field = s.field ∧ (s.levelOn src data).safe = s.safe ∧
    (s.levelOn src data).clock = s.clock ∧ (s.levelOn src data).grp = s.grp ∧ (s.levelOn src data).sec = s.sec ∧
    (s.levelOn src data).power = s.power := by
  simp [State.levelOn]

@[simp] theorem State.safeEvent_frame (s : State) (old : Nat) :
    (s.safeEvent old).pending = s.pending ∧ (s.safeEvent old).now = s.now ∧ (s.safeEvent old).free = s.free ∧
    (s.safeEvent old).readData = s.readData ∧ (s.safeEvent old).mirror = s.mirror ∧ (s.safeEvent old).mod = s.mod ∧
    (s.safeEvent old).host = s.host ∧ (s.safeEvent old).journal = s.journal ∧ (s.safeEvent old).faults = s.faults ∧
    (s.safeEvent old).duplex = s.duplex ∧ (s.safeEvent old).gl = s.gl ∧ (s.safeEvent old).aux = s.aux ∧
    (s.safeEvent old).field = s.field ∧ (s.safeEvent old).safe = s.safe ∧ (s.safeEvent old).clock = s.clock ∧
    (s.safeEvent old).grp = s.grp ∧ (s.safeEvent old).sec = s.sec ∧ (s.safeEvent old).power = s.power := by
  simp [State.safeEvent]

@[simp] theorem State.applyB_frame (s : State) (scope : Scope) :
    (s.applyB scope).pending = s.pending ∧ (s.applyB scope).now = s.now ∧ (s.applyB scope).free = s.free ∧
    (s.applyB scope).readData = s.readData ∧ (s.applyB scope).mirror = s.mirror ∧ (s.applyB scope).laneA = s.laneA ∧
    (s.applyB scope).laneB = s.laneB ∧ (s.applyB scope).host = s.host ∧ (s.applyB scope).eic = s.eic ∧
    (s.applyB scope).journal = s.journal ∧ (s.applyB scope).field = s.field ∧ (s.applyB scope).safe = s.safe ∧
    (s.applyB scope).clock = s.clock ∧ (s.applyB scope).grp = s.grp ∧ (s.applyB scope).sec = s.sec ∧
    (s.applyB scope).power = s.power ∧ (s.applyB scope).mod.tally = s.mod.tally := by
  simp only [State.applyB]
  (repeat' split) <;> simp

@[simp] theorem State.applyL_frame (s : State) (code : Nat) :
    (s.applyL code).pending = s.pending ∧ (s.applyL code).now = s.now ∧ (s.applyL code).free = s.free ∧
    (s.applyL code).readData = s.readData ∧ (s.applyL code).mirror = s.mirror ∧ (s.applyL code).host = s.host ∧
    (s.applyL code).eic = s.eic ∧ (s.applyL code).journal = s.journal ∧ (s.applyL code).safe = s.safe ∧
    (s.applyL code).clock = s.clock ∧ (s.applyL code).grp = s.grp ∧ (s.applyL code).sec = s.sec ∧
    (s.applyL code).power = s.power ∧ (s.applyL code).mod.tally = s.mod.tally := by
  simp [State.applyL]

@[simp] theorem State.setSafe_frame (s : State) (x : Fld) (v : Nat) :
    (s.setSafe x v).pending = s.pending ∧ (s.setSafe x v).now = s.now ∧ (s.setSafe x v).free = s.free ∧
    (s.setSafe x v).readData = s.readData ∧ (s.setSafe x v).mirror = s.mirror ∧ (s.setSafe x v).mod = s.mod ∧
    (s.setSafe x v).host = s.host ∧ (s.setSafe x v).journal = s.journal ∧ (s.setSafe x v).faults = s.faults ∧
    (s.setSafe x v).duplex = s.duplex ∧ (s.setSafe x v).gl = s.gl ∧ (s.setSafe x v).aux = s.aux ∧
    (s.setSafe x v).field = s.field ∧ (s.setSafe x v).safe = s.safe ∧ (s.setSafe x v).clock = s.clock ∧
    (s.setSafe x v).grp = s.grp ∧ (s.setSafe x v).sec = s.sec ∧ (s.setSafe x v).power = s.power := by
  simp [State.setSafe]

@[simp] theorem State.updDegraded_frame (s : State) :
    s.updDegraded.pending = s.pending ∧ s.updDegraded.now = s.now ∧ s.updDegraded.free = s.free ∧
    s.updDegraded.readData = s.readData ∧ s.updDegraded.mirror = s.mirror ∧ s.updDegraded.mod = s.mod ∧
    s.updDegraded.host = s.host ∧ s.updDegraded.journal = s.journal ∧ s.updDegraded.faults = s.faults ∧
    s.updDegraded.duplex = s.duplex ∧ s.updDegraded.gl = s.gl ∧ s.updDegraded.aux = s.aux ∧
    s.updDegraded.field = s.field ∧ s.updDegraded.clock = s.clock ∧ s.updDegraded.grp = s.grp ∧
    s.updDegraded.sec = s.sec ∧ s.updDegraded.power = s.power := by
  simp [State.updDegraded]

@[simp] theorem State.stoOn_frame (s : State) :
    s.stoOn.pending = s.pending ∧ s.stoOn.now = s.now ∧ s.stoOn.free = s.free ∧ s.stoOn.readData = s.readData ∧
    s.stoOn.mirror = s.mirror ∧ s.stoOn.mod = s.mod ∧ s.stoOn.host = s.host ∧ s.stoOn.journal = s.journal ∧
    s.stoOn.duplex = s.duplex ∧ s.stoOn.gl = s.gl ∧ s.stoOn.aux = s.aux ∧ s.stoOn.safe = s.safe ∧
    s.stoOn.clock = s.clock ∧ s.stoOn.grp = s.grp ∧ s.stoOn.sec = s.sec ∧ s.stoOn.power = s.power := by
  simp [State.stoOn]

@[simp] theorem State.updSto_frame (s : State) :
    s.updSto.pending = s.pending ∧ s.updSto.now = s.now ∧ s.updSto.free = s.free ∧ s.updSto.readData = s.readData ∧
    s.updSto.mirror = s.mirror ∧ s.updSto.mod = s.mod ∧ s.updSto.host = s.host ∧ s.updSto.journal = s.journal ∧
    s.updSto.duplex = s.duplex ∧ s.updSto.gl = s.gl ∧ s.updSto.aux = s.aux ∧ s.updSto.field = s.field ∧
    s.updSto.safe = s.safe ∧ s.updSto.clock = s.clock ∧ s.updSto.grp = s.grp ∧ s.updSto.sec = s.sec ∧
    s.updSto.power = s.power := by
  simp [State.updSto]

@[simp] theorem State.noteModule_frame (s : State) (old new cause : Nat) :
    (s.noteModule old new cause).pending = s.pending ∧ (s.noteModule old new cause).now = s.now ∧
    (s.noteModule old new cause).free = s.free ∧ (s.noteModule old new cause).readData = s.readData ∧
    (s.noteModule old new cause).mirror = s.mirror ∧ (s.noteModule old new cause).host = s.host ∧
    (s.noteModule old new cause).faults = s.faults ∧ (s.noteModule old new cause).duplex = s.duplex ∧
    (s.noteModule old new cause).gl = s.gl ∧ (s.noteModule old new cause).aux = s.aux ∧
    (s.noteModule old new cause).field = s.field ∧ (s.noteModule old new cause).safe = s.safe ∧
    (s.noteModule old new cause).clock = s.clock ∧ (s.noteModule old new cause).grp = s.grp ∧
    (s.noteModule old new cause).sec = s.sec ∧ (s.noteModule old new cause).power = s.power ∧
    (s.noteModule old new cause).mod.tally = s.mod.tally := by
  simp [State.noteModule]

@[simp] theorem State.raiseModule_frame (s : State) (seq : Word) (new cause : Nat) :
    (s.raiseModule seq new cause).pending = s.pending ∧ (s.raiseModule seq new cause).now = s.now ∧
    (s.raiseModule seq new cause).free = s.free ∧ (s.raiseModule seq new cause).readData = s.readData ∧
    (s.raiseModule seq new cause).mirror = s.mirror ∧ (s.raiseModule seq new cause).laneA = s.laneA ∧
    (s.raiseModule seq new cause).laneB = s.laneB ∧ (s.raiseModule seq new cause).mod = s.mod ∧
    (s.raiseModule seq new cause).host = s.host ∧ (s.raiseModule seq new cause).eic = s.eic ∧
    (s.raiseModule seq new cause).faults = s.faults ∧ (s.raiseModule seq new cause).duplex = s.duplex ∧
    (s.raiseModule seq new cause).gl = s.gl ∧ (s.raiseModule seq new cause).aux = s.aux ∧
    (s.raiseModule seq new cause).field = s.field ∧ (s.raiseModule seq new cause).safe = s.safe ∧
    (s.raiseModule seq new cause).clock = s.clock ∧ (s.raiseModule seq new cause).grp = s.grp ∧
    (s.raiseModule seq new cause).sec = s.sec ∧ (s.raiseModule seq new cause).power = s.power := by
  simp [State.raiseModule]

@[simp] theorem State.updModule_frame (s : State) (cause : Nat) :
    (s.updModule cause).pending = s.pending ∧ (s.updModule cause).now = s.now ∧ (s.updModule cause).free = s.free ∧
    (s.updModule cause).readData = s.readData ∧ (s.updModule cause).mirror = s.mirror ∧
    (s.updModule cause).host = s.host ∧ (s.updModule cause).faults = s.faults ∧
    (s.updModule cause).duplex = s.duplex ∧ (s.updModule cause).gl = s.gl ∧ (s.updModule cause).aux = s.aux ∧
    (s.updModule cause).field = s.field ∧ (s.updModule cause).clock = s.clock ∧ (s.updModule cause).grp = s.grp ∧
    (s.updModule cause).sec = s.sec ∧ (s.updModule cause).power = s.power ∧
    (s.updModule cause).mod.tally = s.mod.tally := by
  simp only [State.updModule]
  (repeat' split) <;> simp

@[simp] theorem State.cause_frame (s : State) (code cls : Nat) (scope : Scope) (key : Nat) (leg : Option Nat) (active : Bool) :
    (s.cause code cls scope key leg active).pending = s.pending ∧
    (s.cause code cls scope key leg active).now = s.now ∧ (s.cause code cls scope key leg active).free = s.free ∧
    (s.cause code cls scope key leg active).readData = s.readData ∧
    (s.cause code cls scope key leg active).mirror = s.mirror ∧
    (s.cause code cls scope key leg active).host = s.host ∧
    (s.cause code cls scope key leg active).clock = s.clock ∧ (s.cause code cls scope key leg active).grp = s.grp ∧
    (s.cause code cls scope key leg active).sec = s.sec ∧
    (s.cause code cls scope key leg active).mod.tally = s.mod.tally := by
  simp [State.cause]

end Sys2Proof.Machine
end

