-- ==== Sys2Proof/Laws/TimeFrames.lean ====
section
/-! SUPPORT. What the operations of Machine/Time.lean leave alone: for each, the parts of the state that it keeps. -/
namespace Sys2Proof.Machine

@[simp] theorem State.resync_frame (s : State) (i : LaneId) (n : Nat) (before : Word) :
    (s.resync i n before).pending = s.pending ∧ (s.resync i n before).now = s.now ∧
    (s.resync i n before).free = s.free ∧ (s.resync i n before).readData = s.readData ∧
    (s.resync i n before).mirror = s.mirror ∧ (s.resync i n before).mod = s.mod ∧
    (s.resync i n before).host = s.host ∧ (s.resync i n before).faults = s.faults ∧
    (s.resync i n before).gl = s.gl ∧ (s.resync i n before).aux = s.aux ∧ (s.resync i n before).field = s.field ∧
    (s.resync i n before).safe = s.safe ∧ (s.resync i n before).clock = s.clock ∧
    (s.resync i n before).grp = s.grp ∧ (s.resync i n before).sec = s.sec ∧
    (s.resync i n before).power = s.power := by
  simp [State.resync]

@[simp] theorem State.settleSrc_frame (s : State) (i : LaneId) (n : Nat) :
    (s.settleSrc i n).pending = s.pending ∧ (s.settleSrc i n).now = s.now ∧ (s.settleSrc i n).free = s.free ∧
    (s.settleSrc i n).readData = s.readData ∧ (s.settleSrc i n).mirror = s.mirror ∧ (s.settleSrc i n).mod = s.mod ∧
    (s.settleSrc i n).host = s.host ∧ (s.settleSrc i n).faults = s.faults ∧ (s.settleSrc i n).gl = s.gl ∧
    (s.settleSrc i n).aux = s.aux ∧ (s.settleSrc i n).field = s.field ∧ (s.settleSrc i n).safe = s.safe ∧
    (s.settleSrc i n).clock = s.clock ∧ (s.settleSrc i n).grp = s.grp ∧ (s.settleSrc i n).sec = s.sec ∧
    (s.settleSrc i n).power = s.power := by
  simp [State.settleSrc]

@[simp] theorem State.settle_frame (s : State) :
    s.settle.pending = s.pending ∧ s.settle.now = s.now ∧ s.settle.free = s.free ∧ s.settle.readData = s.readData ∧
    s.settle.mirror = s.mirror ∧ s.settle.mod = s.mod ∧ s.settle.host = s.host ∧ s.settle.faults = s.faults ∧
    s.settle.gl = s.gl ∧ s.settle.aux = s.aux ∧ s.settle.field = s.field ∧ s.settle.safe = s.safe ∧
    s.settle.clock = s.clock ∧ s.settle.grp = s.grp ∧ s.settle.sec = s.sec ∧ s.settle.power = s.power := by
  simp [State.settle]

@[simp] theorem State.advance_frame (s : State) (k : Nat) :
    (s.advance k).pending = s.pending ∧ (s.advance k).free = s.free ∧ (s.advance k).readData = s.readData ∧
    (s.advance k).mirror = s.mirror ∧ (s.advance k).mod = s.mod ∧ (s.advance k).host = s.host ∧
    (s.advance k).faults = s.faults ∧ (s.advance k).gl = s.gl ∧ (s.advance k).field = s.field ∧
    (s.advance k).safe = s.safe ∧ (s.advance k).grp = s.grp ∧ (s.advance k).sec = s.sec ∧
    (s.advance k).power = s.power := by
  simp [State.advance]

end Sys2Proof.Machine
end

