-- ==== Sys2Proof/Laws/SnapFrames.lean ====
section
/-! SUPPORT. What the operations of Machine/Snap.lean leave alone: for each, the parts of the state that it keeps. -/
namespace Sys2Proof.Machine

@[simp] theorem State.strAdd_frame (s : State) (ring : Nat) (r : StrRec) :
    (s.strAdd ring r).pending = s.pending ∧ (s.strAdd ring r).now = s.now ∧ (s.strAdd ring r).free = s.free ∧
    (s.strAdd ring r).readData = s.readData ∧ (s.strAdd ring r).regs = s.regs ∧
    (s.strAdd ring r).mirror = s.mirror ∧ (s.strAdd ring r).laneA = s.laneA ∧ (s.strAdd ring r).laneB = s.laneB ∧
    (s.strAdd ring r).mod = s.mod ∧ (s.strAdd ring r).eic = s.eic ∧ (s.strAdd ring r).journal = s.journal ∧
    (s.strAdd ring r).faults = s.faults ∧ (s.strAdd ring r).duplex = s.duplex ∧ (s.strAdd ring r).gl = s.gl ∧
    (s.strAdd ring r).aux = s.aux ∧ (s.strAdd ring r).field = s.field ∧ (s.strAdd ring r).safe = s.safe ∧
    (s.strAdd ring r).clock = s.clock ∧ (s.strAdd ring r).grp = s.grp ∧ (s.strAdd ring r).sec = s.sec ∧
    (s.strAdd ring r).power = s.power := by
  simp [State.strAdd]

@[simp] theorem State.takeSnap_frame (s : State) (i : LaneId) (set : Nat) (late sched : Bool) :
    (s.takeSnap i set late sched).2.pending = s.pending ∧ (s.takeSnap i set late sched).2.now = s.now ∧
    (s.takeSnap i set late sched).2.free = s.free ∧ (s.takeSnap i set late sched).2.readData = s.readData ∧
    (s.takeSnap i set late sched).2.regs = s.regs ∧ (s.takeSnap i set late sched).2.mirror = s.mirror ∧
    (s.takeSnap i set late sched).2.laneA = s.laneA ∧ (s.takeSnap i set late sched).2.laneB = s.laneB ∧
    (s.takeSnap i set late sched).2.mod = s.mod ∧ (s.takeSnap i set late sched).2.eic = s.eic ∧
    (s.takeSnap i set late sched).2.journal = s.journal ∧ (s.takeSnap i set late sched).2.faults = s.faults ∧
    (s.takeSnap i set late sched).2.duplex = s.duplex ∧ (s.takeSnap i set late sched).2.gl = s.gl ∧
    (s.takeSnap i set late sched).2.aux = s.aux ∧ (s.takeSnap i set late sched).2.field = s.field ∧
    (s.takeSnap i set late sched).2.safe = s.safe ∧ (s.takeSnap i set late sched).2.clock = s.clock ∧
    (s.takeSnap i set late sched).2.grp = s.grp ∧ (s.takeSnap i set late sched).2.sec = s.sec ∧
    (s.takeSnap i set late sched).2.power = s.power := by
  simp [State.takeSnap]

@[simp] theorem State.keepSnap_frame (s : State) (x : Snapshot) :
    (s.keepSnap x).pending = s.pending ∧ (s.keepSnap x).now = s.now ∧ (s.keepSnap x).free = s.free ∧
    (s.keepSnap x).readData = s.readData ∧ (s.keepSnap x).regs = s.regs ∧ (s.keepSnap x).mirror = s.mirror ∧
    (s.keepSnap x).laneA = s.laneA ∧ (s.keepSnap x).laneB = s.laneB ∧ (s.keepSnap x).mod = s.mod ∧
    (s.keepSnap x).eic = s.eic ∧ (s.keepSnap x).journal = s.journal ∧ (s.keepSnap x).faults = s.faults ∧
    (s.keepSnap x).duplex = s.duplex ∧ (s.keepSnap x).gl = s.gl ∧ (s.keepSnap x).aux = s.aux ∧
    (s.keepSnap x).field = s.field ∧ (s.keepSnap x).safe = s.safe ∧ (s.keepSnap x).clock = s.clock ∧
    (s.keepSnap x).grp = s.grp ∧ (s.keepSnap x).sec = s.sec ∧ (s.keepSnap x).power = s.power := by
  simp [State.keepSnap]

@[simp] theorem State.placeSnap_frame (s : State) (i : LaneId) (x : Snapshot) :
    (s.placeSnap i x).pending = s.pending ∧ (s.placeSnap i x).now = s.now ∧ (s.placeSnap i x).free = s.free ∧
    (s.placeSnap i x).readData = s.readData ∧ (s.placeSnap i x).regs = s.regs ∧
    (s.placeSnap i x).mirror = s.mirror ∧ (s.placeSnap i x).laneA = s.laneA ∧ (s.placeSnap i x).laneB = s.laneB ∧
    (s.placeSnap i x).mod = s.mod ∧ (s.placeSnap i x).eic = s.eic ∧ (s.placeSnap i x).journal = s.journal ∧
    (s.placeSnap i x).faults = s.faults ∧ (s.placeSnap i x).duplex = s.duplex ∧ (s.placeSnap i x).gl = s.gl ∧
    (s.placeSnap i x).aux = s.aux ∧ (s.placeSnap i x).field = s.field ∧ (s.placeSnap i x).safe = s.safe ∧
    (s.placeSnap i x).clock = s.clock ∧ (s.placeSnap i x).grp = s.grp ∧ (s.placeSnap i x).sec = s.sec ∧
    (s.placeSnap i x).power = s.power := by
  simp [State.placeSnap]

@[simp] theorem State.fillSnaps_frame (s : State) (i : LaneId) (ctx : Nat) :
    (s.fillSnaps i ctx).pending = s.pending ∧ (s.fillSnaps i ctx).now = s.now ∧ (s.fillSnaps i ctx).free = s.free ∧
    (s.fillSnaps i ctx).readData = s.readData ∧ (s.fillSnaps i ctx).regs = s.regs ∧
    (s.fillSnaps i ctx).mirror = s.mirror ∧ (s.fillSnaps i ctx).laneA = s.laneA ∧
    (s.fillSnaps i ctx).laneB = s.laneB ∧ (s.fillSnaps i ctx).mod = s.mod ∧ (s.fillSnaps i ctx).eic = s.eic ∧
    (s.fillSnaps i ctx).journal = s.journal ∧ (s.fillSnaps i ctx).faults = s.faults ∧
    (s.fillSnaps i ctx).gl = s.gl ∧ (s.fillSnaps i ctx).aux = s.aux ∧ (s.fillSnaps i ctx).field = s.field ∧
    (s.fillSnaps i ctx).safe = s.safe ∧ (s.fillSnaps i ctx).clock = s.clock ∧ (s.fillSnaps i ctx).grp = s.grp ∧
    (s.fillSnaps i ctx).sec = s.sec ∧ (s.fillSnaps i ctx).power = s.power := by
  simp [State.fillSnaps]

@[simp] theorem State.schedSnap_frame (s : State) (i : LaneId) (set : Nat) (late : Bool) :
    (s.schedSnap i set late).pending = s.pending ∧ (s.schedSnap i set late).now = s.now ∧
    (s.schedSnap i set late).free = s.free ∧ (s.schedSnap i set late).readData = s.readData ∧
    (s.schedSnap i set late).regs = s.regs ∧ (s.schedSnap i set late).mirror = s.mirror ∧
    (s.schedSnap i set late).laneA = s.laneA ∧ (s.schedSnap i set late).laneB = s.laneB ∧
    (s.schedSnap i set late).mod = s.mod ∧ (s.schedSnap i set late).eic = s.eic ∧
    (s.schedSnap i set late).journal = s.journal ∧ (s.schedSnap i set late).faults = s.faults ∧
    (s.schedSnap i set late).gl = s.gl ∧ (s.schedSnap i set late).aux = s.aux ∧
    (s.schedSnap i set late).field = s.field ∧ (s.schedSnap i set late).safe = s.safe ∧
    (s.schedSnap i set late).clock = s.clock ∧ (s.schedSnap i set late).grp = s.grp ∧
    (s.schedSnap i set late).sec = s.sec ∧ (s.schedSnap i set late).power = s.power := by
  simp [State.schedSnap]

@[simp] theorem State.releaseSnap_frame (s : State) (x : Snapshot) :
    (s.releaseSnap x).pending = s.pending ∧ (s.releaseSnap x).now = s.now ∧ (s.releaseSnap x).free = s.free ∧
    (s.releaseSnap x).readData = s.readData ∧ (s.releaseSnap x).regs = s.regs ∧
    (s.releaseSnap x).mirror = s.mirror ∧ (s.releaseSnap x).laneA = s.laneA ∧ (s.releaseSnap x).laneB = s.laneB ∧
    (s.releaseSnap x).mod = s.mod ∧ (s.releaseSnap x).eic = s.eic ∧ (s.releaseSnap x).journal = s.journal ∧
    (s.releaseSnap x).faults = s.faults ∧ (s.releaseSnap x).duplex = s.duplex ∧ (s.releaseSnap x).gl = s.gl ∧
    (s.releaseSnap x).aux = s.aux ∧ (s.releaseSnap x).field = s.field ∧ (s.releaseSnap x).safe = s.safe ∧
    (s.releaseSnap x).clock = s.clock ∧ (s.releaseSnap x).grp = s.grp ∧ (s.releaseSnap x).sec = s.sec ∧
    (s.releaseSnap x).power = s.power := by
  simp [State.releaseSnap]

end Sys2Proof.Machine
end

