-- ==== Sys2Proof/Laws/AuxDriveFrames.lean ====
section
/-! SUPPORT. What the operations of Machine/AuxDrive.lean leave alone: for each, the parts of the state that it keeps. -/
namespace Sys2Proof.Machine

@[simp] theorem State.auxBit_frame (s : State) (n : Nat) (x : Fld) :
    (s.auxBit n x).pending = s.pending ∧ (s.auxBit n x).now = s.now ∧ (s.auxBit n x).free = s.free ∧
    (s.auxBit n x).readData = s.readData ∧ (s.auxBit n x).mirror = s.mirror ∧ (s.auxBit n x).mod = s.mod ∧
    (s.auxBit n x).host = s.host ∧ (s.auxBit n x).journal = s.journal ∧ (s.auxBit n x).faults = s.faults ∧
    (s.auxBit n x).duplex = s.duplex ∧ (s.auxBit n x).gl = s.gl ∧ (s.auxBit n x).aux = s.aux ∧
    (s.auxBit n x).field = s.field ∧ (s.auxBit n x).safe = s.safe ∧ (s.auxBit n x).clock = s.clock ∧
    (s.auxBit n x).grp = s.grp ∧ (s.auxBit n x).sec = s.sec ∧ (s.auxBit n x).power = s.power := by
  simp [State.auxBit]

@[simp] theorem State.drive_frame (s : State) (n : Nat) :
    (s.drive n).pending = s.pending ∧ (s.drive n).now = s.now ∧ (s.drive n).free = s.free ∧
    (s.drive n).readData = s.readData ∧ (s.drive n).regs = s.regs ∧ (s.drive n).mirror = s.mirror ∧
    (s.drive n).laneA = s.laneA ∧ (s.drive n).laneB = s.laneB ∧ (s.drive n).mod = s.mod ∧
    (s.drive n).host = s.host ∧ (s.drive n).eic = s.eic ∧ (s.drive n).journal = s.journal ∧
    (s.drive n).faults = s.faults ∧ (s.drive n).duplex = s.duplex ∧ (s.drive n).gl = s.gl ∧
    (s.drive n).field = s.field ∧ (s.drive n).safe = s.safe ∧ (s.drive n).clock = s.clock ∧
    (s.drive n).grp = s.grp ∧ (s.drive n).sec = s.sec ∧ (s.drive n).power = s.power := by
  simp only [State.drive]
  (repeat' split) <;> simp

@[simp] theorem State.precharge_frame (s : State) (n : Nat) :
    (s.precharge n).pending = s.pending ∧ (s.precharge n).now = s.now ∧ (s.precharge n).free = s.free ∧
    (s.precharge n).readData = s.readData ∧ (s.precharge n).regs = s.regs ∧ (s.precharge n).mirror = s.mirror ∧
    (s.precharge n).laneA = s.laneA ∧ (s.precharge n).laneB = s.laneB ∧ (s.precharge n).mod = s.mod ∧
    (s.precharge n).host = s.host ∧ (s.precharge n).eic = s.eic ∧ (s.precharge n).journal = s.journal ∧
    (s.precharge n).faults = s.faults ∧ (s.precharge n).duplex = s.duplex ∧ (s.precharge n).gl = s.gl ∧
    (s.precharge n).field = s.field ∧ (s.precharge n).safe = s.safe ∧ (s.precharge n).clock = s.clock ∧
    (s.precharge n).grp = s.grp ∧ (s.precharge n).sec = s.sec ∧ (s.precharge n).power = s.power := by
  simp [State.precharge]

@[simp] theorem State.setAuxRun_frame (s : State) (n : Nat) (on : Bool) :
    (s.setAuxRun n on).pending = s.pending ∧ (s.setAuxRun n on).now = s.now ∧ (s.setAuxRun n on).free = s.free ∧
    (s.setAuxRun n on).readData = s.readData ∧ (s.setAuxRun n on).mirror = s.mirror ∧
    (s.setAuxRun n on).laneA = s.laneA ∧ (s.setAuxRun n on).laneB = s.laneB ∧ (s.setAuxRun n on).mod = s.mod ∧
    (s.setAuxRun n on).host = s.host ∧ (s.setAuxRun n on).eic = s.eic ∧ (s.setAuxRun n on).journal = s.journal ∧
    (s.setAuxRun n on).faults = s.faults ∧ (s.setAuxRun n on).duplex = s.duplex ∧ (s.setAuxRun n on).gl = s.gl ∧
    (s.setAuxRun n on).field = s.field ∧ (s.setAuxRun n on).safe = s.safe ∧ (s.setAuxRun n on).clock = s.clock ∧
    (s.setAuxRun n on).grp = s.grp ∧ (s.setAuxRun n on).sec = s.sec ∧ (s.setAuxRun n on).power = s.power := by
  simp [State.setAuxRun]

@[simp] theorem State.clearAux_frame (s : State) (n : Nat) :
    (s.clearAux n).pending = s.pending ∧ (s.clearAux n).now = s.now ∧ (s.clearAux n).free = s.free ∧
    (s.clearAux n).readData = s.readData ∧ (s.clearAux n).mirror = s.mirror ∧ (s.clearAux n).laneA = s.laneA ∧
    (s.clearAux n).laneB = s.laneB ∧ (s.clearAux n).mod = s.mod ∧ (s.clearAux n).host = s.host ∧
    (s.clearAux n).eic = s.eic ∧ (s.clearAux n).journal = s.journal ∧ (s.clearAux n).faults = s.faults ∧
    (s.clearAux n).duplex = s.duplex ∧ (s.clearAux n).gl = s.gl ∧ (s.clearAux n).field = s.field ∧
    (s.clearAux n).safe = s.safe ∧ (s.clearAux n).clock = s.clock ∧ (s.clearAux n).grp = s.grp ∧
    (s.clearAux n).sec = s.sec ∧ (s.clearAux n).power = s.power := by
  simp [State.clearAux]

@[simp] theorem State.auxConfigured_frame (s : State) (n : Nat) :
    (s.auxConfigured n).pending = s.pending ∧ (s.auxConfigured n).now = s.now ∧ (s.auxConfigured n).free = s.free ∧
    (s.auxConfigured n).readData = s.readData ∧ (s.auxConfigured n).regs = s.regs ∧
    (s.auxConfigured n).mirror = s.mirror ∧ (s.auxConfigured n).laneA = s.laneA ∧
    (s.auxConfigured n).laneB = s.laneB ∧ (s.auxConfigured n).mod = s.mod ∧ (s.auxConfigured n).host = s.host ∧
    (s.auxConfigured n).eic = s.eic ∧ (s.auxConfigured n).journal = s.journal ∧
    (s.auxConfigured n).faults = s.faults ∧ (s.auxConfigured n).duplex = s.duplex ∧ (s.auxConfigured n).gl = s.gl ∧
    (s.auxConfigured n).field = s.field ∧ (s.auxConfigured n).safe = s.safe ∧ (s.auxConfigured n).clock = s.clock ∧
    (s.auxConfigured n).grp = s.grp ∧ (s.auxConfigured n).sec = s.sec ∧ (s.auxConfigured n).power = s.power := by
  simp [State.auxConfigured]

@[simp] theorem State.auxFault_frame (s : State) (n code : Nat) (x : Fld) :
    (s.auxFault n code x).pending = s.pending ∧ (s.auxFault n code x).now = s.now ∧
    (s.auxFault n code x).free = s.free ∧ (s.auxFault n code x).readData = s.readData ∧
    (s.auxFault n code x).mirror = s.mirror ∧ (s.auxFault n code x).host = s.host ∧
    (s.auxFault n code x).clock = s.clock ∧ (s.auxFault n code x).grp = s.grp ∧ (s.auxFault n code x).sec = s.sec ∧
    (s.auxFault n code x).mod.tally = s.mod.tally := by
  simp [State.auxFault]

@[simp] theorem State.auxTrip_frame (s : State) (n : Nat) :
    (s.auxTrip n).pending = s.pending ∧ (s.auxTrip n).now = s.now ∧ (s.auxTrip n).free = s.free ∧
    (s.auxTrip n).readData = s.readData ∧ (s.auxTrip n).mirror = s.mirror ∧ (s.auxTrip n).host = s.host ∧
    (s.auxTrip n).clock = s.clock ∧ (s.auxTrip n).grp = s.grp ∧ (s.auxTrip n).sec = s.sec ∧
    (s.auxTrip n).mod.tally = s.mod.tally := by
  simp [State.auxTrip]

end Sys2Proof.Machine
end

