-- ==== Sys2Proof/Laws/TripsFrames.lean ====
section
/-! SUPPORT. What the operations of Machine/Trips.lean leave alone: for each, the parts of the state that it keeps. -/
namespace Sys2Proof.Machine

@[simp] theorem State.maskCause_frame (s : State) (code cls mask key : Nat) :
    (s.maskCause code cls mask key).pending = s.pending ∧ (s.maskCause code cls mask key).now = s.now ∧
    (s.maskCause code cls mask key).free = s.free ∧ (s.maskCause code cls mask key).readData = s.readData ∧
    (s.maskCause code cls mask key).mirror = s.mirror ∧ (s.maskCause code cls mask key).host = s.host ∧
    (s.maskCause code cls mask key).clock = s.clock ∧ (s.maskCause code cls mask key).grp = s.grp ∧
    (s.maskCause code cls mask key).sec = s.sec ∧ (s.maskCause code cls mask key).mod.tally = s.mod.tally := by
  simp [State.maskCause]

@[simp] theorem State.legCause_frame (s : State) (code leg key : Nat) (shoot : Bool) :
    (s.legCause code leg key shoot).pending = s.pending ∧ (s.legCause code leg key shoot).now = s.now ∧
    (s.legCause code leg key shoot).free = s.free ∧ (s.legCause code leg key shoot).readData = s.readData ∧
    (s.legCause code leg key shoot).mirror = s.mirror ∧ (s.legCause code leg key shoot).host = s.host ∧
    (s.legCause code leg key shoot).clock = s.clock ∧ (s.legCause code leg key shoot).grp = s.grp ∧
    (s.legCause code leg key shoot).sec = s.sec ∧ (s.legCause code leg key shoot).mod.tally = s.mod.tally := by
  simp [State.legCause]

@[simp] theorem State.dropCauses_frame (s : State) (scope : Scope) :
    (s.dropCauses scope).pending = s.pending ∧ (s.dropCauses scope).now = s.now ∧
    (s.dropCauses scope).free = s.free ∧ (s.dropCauses scope).readData = s.readData ∧
    (s.dropCauses scope).mirror = s.mirror ∧ (s.dropCauses scope).mod = s.mod ∧ (s.dropCauses scope).host = s.host ∧
    (s.dropCauses scope).journal = s.journal ∧ (s.dropCauses scope).duplex = s.duplex ∧
    (s.dropCauses scope).gl = s.gl ∧ (s.dropCauses scope).aux = s.aux ∧ (s.dropCauses scope).field = s.field ∧
    (s.dropCauses scope).safe = s.safe ∧ (s.dropCauses scope).clock = s.clock ∧ (s.dropCauses scope).grp = s.grp ∧
    (s.dropCauses scope).sec = s.sec ∧ (s.dropCauses scope).power = s.power := by
  simp [State.dropCauses]

@[simp] theorem State.resetSum_frame (s : State) (t : Nat) :
    (s.resetSum t).pending = s.pending ∧ (s.resetSum t).now = s.now ∧ (s.resetSum t).free = s.free ∧
    (s.resetSum t).readData = s.readData ∧ (s.resetSum t).mirror = s.mirror ∧ (s.resetSum t).laneA = s.laneA ∧
    (s.resetSum t).laneB = s.laneB ∧ (s.resetSum t).mod = s.mod ∧ (s.resetSum t).host = s.host ∧
    (s.resetSum t).eic = s.eic ∧ (s.resetSum t).journal = s.journal ∧ (s.resetSum t).duplex = s.duplex ∧
    (s.resetSum t).gl = s.gl ∧ (s.resetSum t).aux = s.aux ∧ (s.resetSum t).field = s.field ∧
    (s.resetSum t).safe = s.safe ∧ (s.resetSum t).clock = s.clock ∧ (s.resetSum t).grp = s.grp ∧
    (s.resetSum t).sec = s.sec ∧ (s.resetSum t).power = s.power := by
  simp [State.resetSum]

@[simp] theorem State.unblock_frame (s : State) (t : Nat) :
    (s.unblock t).pending = s.pending ∧ (s.unblock t).now = s.now ∧ (s.unblock t).free = s.free ∧
    (s.unblock t).readData = s.readData ∧ (s.unblock t).mirror = s.mirror ∧ (s.unblock t).laneA = s.laneA ∧
    (s.unblock t).laneB = s.laneB ∧ (s.unblock t).host = s.host ∧ (s.unblock t).eic = s.eic ∧
    (s.unblock t).journal = s.journal ∧ (s.unblock t).faults = s.faults ∧ (s.unblock t).duplex = s.duplex ∧
    (s.unblock t).gl = s.gl ∧ (s.unblock t).aux = s.aux ∧ (s.unblock t).field = s.field ∧
    (s.unblock t).safe = s.safe ∧ (s.unblock t).clock = s.clock ∧ (s.unblock t).grp = s.grp ∧
    (s.unblock t).sec = s.sec ∧ (s.unblock t).power = s.power ∧ (s.unblock t).mod.tally = s.mod.tally := by
  simp [State.unblock]

@[simp] theorem State.lockoutRefused_frame (s : State) (status : Nat) :
    (s.lockoutRefused status).pending = s.pending ∧ (s.lockoutRefused status).now = s.now ∧
    (s.lockoutRefused status).free = s.free ∧ (s.lockoutRefused status).readData = s.readData ∧
    (s.lockoutRefused status).mirror = s.mirror ∧ (s.lockoutRefused status).laneA = s.laneA ∧
    (s.lockoutRefused status).laneB = s.laneB ∧ (s.lockoutRefused status).mod = s.mod ∧
    (s.lockoutRefused status).host = s.host ∧ (s.lockoutRefused status).eic = s.eic ∧
    (s.lockoutRefused status).faults = s.faults ∧ (s.lockoutRefused status).duplex = s.duplex ∧
    (s.lockoutRefused status).gl = s.gl ∧ (s.lockoutRefused status).aux = s.aux ∧
    (s.lockoutRefused status).field = s.field ∧ (s.lockoutRefused status).safe = s.safe ∧
    (s.lockoutRefused status).clock = s.clock ∧ (s.lockoutRefused status).grp = s.grp ∧
    (s.lockoutRefused status).sec = s.sec ∧ (s.lockoutRefused status).power = s.power := by
  simp [State.lockoutRefused]

@[simp] theorem State.endLockout_frame (s : State) :
    s.endLockout.pending = s.pending ∧ s.endLockout.now = s.now ∧ s.endLockout.free = s.free ∧
    s.endLockout.readData = s.readData ∧ s.endLockout.mirror = s.mirror ∧ s.endLockout.host = s.host ∧
    s.endLockout.duplex = s.duplex ∧ s.endLockout.gl = s.gl ∧ s.endLockout.clock = s.clock ∧
    s.endLockout.grp = s.grp ∧ s.endLockout.sec = s.sec ∧ s.endLockout.power = s.power ∧
    s.endLockout.mod.tally = s.mod.tally := by
  simp [State.endLockout]

@[simp] theorem State.updFastCmp_frame (s : State) (i : Nat) :
    (s.updFastCmp i).pending = s.pending ∧ (s.updFastCmp i).now = s.now ∧ (s.updFastCmp i).free = s.free ∧
    (s.updFastCmp i).readData = s.readData ∧ (s.updFastCmp i).mirror = s.mirror ∧ (s.updFastCmp i).host = s.host ∧
    (s.updFastCmp i).clock = s.clock ∧ (s.updFastCmp i).grp = s.grp ∧ (s.updFastCmp i).sec = s.sec ∧
    (s.updFastCmp i).mod.tally = s.mod.tally := by
  simp [State.updFastCmp]

@[simp] theorem State.updMeasTrip_frame (s : State) :
    s.updMeasTrip.pending = s.pending ∧ s.updMeasTrip.now = s.now ∧ s.updMeasTrip.free = s.free ∧
    s.updMeasTrip.readData = s.readData ∧ s.updMeasTrip.mirror = s.mirror ∧ s.updMeasTrip.host = s.host ∧
    s.updMeasTrip.clock = s.clock ∧ s.updMeasTrip.grp = s.grp ∧ s.updMeasTrip.sec = s.sec ∧
    s.updMeasTrip.mod.tally = s.mod.tally := by
  simp [State.updMeasTrip]

@[simp] theorem State.clearThread_frame (s : State) (t : Nat) :
    (s.clearThread t).pending = s.pending ∧ (s.clearThread t).now = s.now ∧ (s.clearThread t).free = s.free ∧
    (s.clearThread t).readData = s.readData ∧ (s.clearThread t).mirror = s.mirror ∧
    (s.clearThread t).host = s.host ∧ (s.clearThread t).journal = s.journal ∧ (s.clearThread t).duplex = s.duplex ∧
    (s.clearThread t).gl = s.gl ∧ (s.clearThread t).aux = s.aux ∧ (s.clearThread t).field = s.field ∧
    (s.clearThread t).safe = s.safe ∧ (s.clearThread t).clock = s.clock ∧ (s.clearThread t).grp = s.grp ∧
    (s.clearThread t).sec = s.sec ∧ (s.clearThread t).power = s.power ∧
    (s.clearThread t).mod.tally = s.mod.tally := by
  simp [State.clearThread]

@[simp] theorem State.clearModule_frame (s : State) :
    s.clearModule.pending = s.pending ∧ s.clearModule.now = s.now ∧ s.clearModule.free = s.free ∧
    s.clearModule.readData = s.readData ∧ s.clearModule.mirror = s.mirror ∧ s.clearModule.host = s.host ∧
    s.clearModule.journal = s.journal ∧ s.clearModule.duplex = s.duplex ∧ s.clearModule.gl = s.gl ∧
    s.clearModule.aux = s.aux ∧ s.clearModule.field = s.field ∧ s.clearModule.safe = s.safe ∧
    s.clearModule.clock = s.clock ∧ s.clearModule.grp = s.grp ∧ s.clearModule.sec = s.sec ∧
    s.clearModule.power = s.power ∧ s.clearModule.mod.tally = s.mod.tally := by
  simp [State.clearModule]

@[simp] theorem State.levelsWritten_frame (s : State) (i : Nat) :
    (s.levelsWritten i).pending = s.pending ∧ (s.levelsWritten i).now = s.now ∧ (s.levelsWritten i).free = s.free ∧
    (s.levelsWritten i).readData = s.readData ∧ (s.levelsWritten i).mirror = s.mirror ∧
    (s.levelsWritten i).host = s.host ∧ (s.levelsWritten i).clock = s.clock ∧ (s.levelsWritten i).grp = s.grp ∧
    (s.levelsWritten i).sec = s.sec ∧ (s.levelsWritten i).mod.tally = s.mod.tally := by
  simp [State.levelsWritten]

end Sys2Proof.Machine
end

