-- ==== Sys2Proof/Laws/LibraryFrames.lean ====
section
/-! SUPPORT. What the operations of Machine/Library.lean leave alone: for each, the parts of the state that it keeps. -/
namespace Sys2Proof.Machine

@[simp] theorem State.lawEnd_frame (s : State) (i : LaneId) (r : CtxRun) :
    (s.lawEnd i r).pending = s.pending ∧ (s.lawEnd i r).now = s.now ∧ (s.lawEnd i r).free = s.free ∧
    (s.lawEnd i r).readData = s.readData ∧ (s.lawEnd i r).regs = s.regs ∧ (s.lawEnd i r).mirror = s.mirror ∧
    (s.lawEnd i r).mod = s.mod ∧ (s.lawEnd i r).host = s.host ∧ (s.lawEnd i r).eic = s.eic ∧
    (s.lawEnd i r).journal = s.journal ∧ (s.lawEnd i r).faults = s.faults ∧ (s.lawEnd i r).duplex = s.duplex ∧
    (s.lawEnd i r).gl = s.gl ∧ (s.lawEnd i r).aux = s.aux ∧ (s.lawEnd i r).field = s.field ∧
    (s.lawEnd i r).safe = s.safe ∧ (s.lawEnd i r).clock = s.clock ∧ (s.lawEnd i r).grp = s.grp ∧
    (s.lawEnd i r).sec = s.sec ∧ (s.lawEnd i r).power = s.power := by
  simp [State.lawEnd]

@[simp] theorem State.lawModeSet_frame (s : State) (mode : BitVec 16) :
    (s.lawModeSet mode).pending = s.pending ∧ (s.lawModeSet mode).now = s.now ∧ (s.lawModeSet mode).free = s.free ∧
    (s.lawModeSet mode).readData = s.readData ∧ (s.lawModeSet mode).mirror = s.mirror ∧
    (s.lawModeSet mode).mod = s.mod ∧ (s.lawModeSet mode).host = s.host ∧ (s.lawModeSet mode).journal = s.journal ∧
    (s.lawModeSet mode).faults = s.faults ∧ (s.lawModeSet mode).gl = s.gl ∧ (s.lawModeSet mode).aux = s.aux ∧
    (s.lawModeSet mode).field = s.field ∧ (s.lawModeSet mode).safe = s.safe ∧ (s.lawModeSet mode).clock = s.clock ∧
    (s.lawModeSet mode).grp = s.grp ∧ (s.lawModeSet mode).sec = s.sec ∧ (s.lawModeSet mode).power = s.power := by
  simp [State.lawModeSet]

end Sys2Proof.Machine
end

