-- ==== Sys2Proof/Laws/CleRunFrames.lean ====
section
/-! SUPPORT. What the operations of Machine/CleRun.lean leave alone: for each, the parts of the state that it keeps. -/
namespace Sys2Proof.Machine

@[simp] theorem State.overrun_frame (s : State) (i : LaneId) (g : Nat) :
    (s.overrun i g).pending = s.pending ∧ (s.overrun i g).now = s.now ∧ (s.overrun i g).free = s.free ∧
    (s.overrun i g).readData = s.readData ∧ (s.overrun i g).mirror = s.mirror ∧ (s.overrun i g).host = s.host ∧
    (s.overrun i g).clock = s.clock ∧ (s.overrun i g).grp = s.grp ∧ (s.overrun i g).sec = s.sec ∧
    (s.overrun i g).mod.tally = s.mod.tally := by
  simp [State.overrun]

@[simp] theorem State.inTime_frame (s : State) (i : LaneId) (g : Nat) :
    (s.inTime i g).pending = s.pending ∧ (s.inTime i g).now = s.now ∧ (s.inTime i g).free = s.free ∧
    (s.inTime i g).readData = s.readData ∧ (s.inTime i g).mirror = s.mirror ∧ (s.inTime i g).mod = s.mod ∧
    (s.inTime i g).host = s.host ∧ (s.inTime i g).eic = s.eic ∧ (s.inTime i g).journal = s.journal ∧
    (s.inTime i g).duplex = s.duplex ∧ (s.inTime i g).gl = s.gl ∧ (s.inTime i g).aux = s.aux ∧
    (s.inTime i g).field = s.field ∧ (s.inTime i g).safe = s.safe ∧ (s.inTime i g).clock = s.clock ∧
    (s.inTime i g).grp = s.grp ∧ (s.inTime i g).sec = s.sec ∧ (s.inTime i g).power = s.power := by
  simp [State.inTime]

@[simp] theorem State.stopDone_frame (s : State) (data : Nat) :
    (s.stopDone data).pending = s.pending ∧ (s.stopDone data).now = s.now ∧ (s.stopDone data).free = s.free ∧
    (s.stopDone data).readData = s.readData ∧ (s.stopDone data).mirror = s.mirror ∧
    (s.stopDone data).host = s.host ∧ (s.stopDone data).faults = s.faults ∧ (s.stopDone data).duplex = s.duplex ∧
    (s.stopDone data).gl = s.gl ∧ (s.stopDone data).aux = s.aux ∧ (s.stopDone data).field = s.field ∧
    (s.stopDone data).clock = s.clock ∧ (s.stopDone data).grp = s.grp ∧ (s.stopDone data).sec = s.sec ∧
    (s.stopDone data).power = s.power ∧ (s.stopDone data).mod.tally = s.mod.tally := by
  simp [State.stopDone]

@[simp] theorem State.laneEvent_frame (s : State) (i : LaneId) (src data : Nat) :
    (s.laneEvent i src data).pending = s.pending ∧ (s.laneEvent i src data).now = s.now ∧
    (s.laneEvent i src data).free = s.free ∧ (s.laneEvent i src data).readData = s.readData ∧
    (s.laneEvent i src data).mirror = s.mirror ∧ (s.laneEvent i src data).host = s.host ∧
    (s.laneEvent i src data).faults = s.faults ∧ (s.laneEvent i src data).gl = s.gl ∧
    (s.laneEvent i src data).aux = s.aux ∧ (s.laneEvent i src data).field = s.field ∧
    (s.laneEvent i src data).clock = s.clock ∧ (s.laneEvent i src data).grp = s.grp ∧
    (s.laneEvent i src data).sec = s.sec ∧ (s.laneEvent i src data).power = s.power ∧
    (s.laneEvent i src data).mod.tally = s.mod.tally := by
  simp [State.laneEvent]

@[simp] theorem State.publish_frame (s : State) (i : LaneId) (h : Held) :
    (s.publish i h).pending = s.pending ∧ (s.publish i h).now = s.now ∧ (s.publish i h).free = s.free ∧
    (s.publish i h).readData = s.readData ∧ (s.publish i h).mirror = s.mirror ∧ (s.publish i h).host = s.host ∧
    (s.publish i h).faults = s.faults ∧ (s.publish i h).gl = s.gl ∧ (s.publish i h).aux = s.aux ∧
    (s.publish i h).field = s.field ∧ (s.publish i h).clock = s.clock ∧ (s.publish i h).grp = s.grp ∧
    (s.publish i h).sec = s.sec ∧ (s.publish i h).power = s.power ∧ (s.publish i h).mod.tally = s.mod.tally := by
  simp only [State.publish]
  (repeat' split) <;> simp

@[simp] theorem State.republish_frame (s : State) (i : LaneId) (g : Nat) :
    (s.republish i g).pending = s.pending ∧ (s.republish i g).now = s.now ∧ (s.republish i g).free = s.free ∧
    (s.republish i g).readData = s.readData ∧ (s.republish i g).mirror = s.mirror ∧
    (s.republish i g).host = s.host ∧ (s.republish i g).faults = s.faults ∧ (s.republish i g).gl = s.gl ∧
    (s.republish i g).aux = s.aux ∧ (s.republish i g).field = s.field ∧ (s.republish i g).clock = s.clock ∧
    (s.republish i g).grp = s.grp ∧ (s.republish i g).sec = s.sec ∧ (s.republish i g).power = s.power ∧
    (s.republish i g).mod.tally = s.mod.tally := by
  simp [State.republish]

@[simp] theorem State.groupDone_frame (s : State) (i : LaneId) (g : Nat) :
    (s.groupDone i g).pending = s.pending ∧ (s.groupDone i g).now = s.now ∧ (s.groupDone i g).free = s.free ∧
    (s.groupDone i g).readData = s.readData ∧ (s.groupDone i g).mirror = s.mirror ∧
    (s.groupDone i g).host = s.host ∧ (s.groupDone i g).clock = s.clock ∧ (s.groupDone i g).grp = s.grp ∧
    (s.groupDone i g).sec = s.sec ∧ (s.groupDone i g).mod.tally = s.mod.tally := by
  simp [State.groupDone]

@[simp] theorem State.lateGroups_frame (s : State) :
    s.lateGroups.pending = s.pending ∧ s.lateGroups.now = s.now ∧ s.lateGroups.free = s.free ∧
    s.lateGroups.readData = s.readData ∧ s.lateGroups.mirror = s.mirror ∧ s.lateGroups.host = s.host ∧
    s.lateGroups.clock = s.clock ∧ s.lateGroups.grp = s.grp ∧ s.lateGroups.sec = s.sec ∧
    s.lateGroups.mod.tally = s.mod.tally := by
  simp [State.lateGroups]

@[simp] theorem State.launch_frame (s : State) (i : LaneId) (g : Nat) :
    (s.launch i g).pending = s.pending ∧ (s.launch i g).now = s.now ∧ (s.launch i g).free = s.free ∧
    (s.launch i g).readData = s.readData ∧ (s.launch i g).mirror = s.mirror ∧ (s.launch i g).host = s.host ∧
    (s.launch i g).clock = s.clock ∧ (s.launch i g).grp = s.grp ∧ (s.launch i g).sec = s.sec ∧
    (s.launch i g).mod.tally = s.mod.tally := by
  simp [State.launch]

@[simp] theorem State.runDone_frame (s : State) (i : LaneId) (dp : Dp) (r : CtxRun) :
    (s.runDone i dp r).pending = s.pending ∧ (s.runDone i dp r).now = s.now ∧ (s.runDone i dp r).free = s.free ∧
    (s.runDone i dp r).readData = s.readData ∧ (s.runDone i dp r).mirror = s.mirror ∧
    (s.runDone i dp r).clock = s.clock ∧ (s.runDone i dp r).grp = s.grp ∧ (s.runDone i dp r).sec = s.sec ∧
    (s.runDone i dp r).mod.tally = s.mod.tally := by
  simp [State.runDone]

end Sys2Proof.Machine
end

