-- ==== Sys2Proof/Laws/RecorderFrames.lean ====
section
/-! SUPPORT. What the operations of Machine/Recorder.lean leave alone: for each, the parts of the state that it keeps. -/
namespace Sys2Proof.Machine

@[simp] theorem State.recStream_frame (s : State) (i : LaneId) (ring : Nat) (r : StrRec) :
    (s.recStream i ring r).pending = s.pending ∧ (s.recStream i ring r).now = s.now ∧
    (s.recStream i ring r).free = s.free ∧ (s.recStream i ring r).readData = s.readData ∧
    (s.recStream i ring r).regs = s.regs ∧ (s.recStream i ring r).mirror = s.mirror ∧
    (s.recStream i ring r).laneA = s.laneA ∧ (s.recStream i ring r).laneB = s.laneB ∧
    (s.recStream i ring r).mod = s.mod ∧ (s.recStream i ring r).eic = s.eic ∧
    (s.recStream i ring r).journal = s.journal ∧ (s.recStream i ring r).faults = s.faults ∧
    (s.recStream i ring r).gl = s.gl ∧ (s.recStream i ring r).aux = s.aux ∧ (s.recStream i ring r).field = s.field ∧
    (s.recStream i ring r).safe = s.safe ∧ (s.recStream i ring r).clock = s.clock ∧
    (s.recStream i ring r).grp = s.grp ∧ (s.recStream i ring r).sec = s.sec ∧
    (s.recStream i ring r).power = s.power := by
  simp [State.recStream]

@[simp] theorem State.watch_frame (s : State) (i : LaneId) (kind index : Nat) (x : Int) :
    (s.watch i kind index x).pending = s.pending ∧ (s.watch i kind index x).now = s.now ∧
    (s.watch i kind index x).free = s.free ∧ (s.watch i kind index x).readData = s.readData ∧
    (s.watch i kind index x).regs = s.regs ∧ (s.watch i kind index x).mirror = s.mirror ∧
    (s.watch i kind index x).mod = s.mod ∧ (s.watch i kind index x).host = s.host ∧
    (s.watch i kind index x).eic = s.eic ∧ (s.watch i kind index x).journal = s.journal ∧
    (s.watch i kind index x).faults = s.faults ∧ (s.watch i kind index x).duplex = s.duplex ∧
    (s.watch i kind index x).gl = s.gl ∧ (s.watch i kind index x).aux = s.aux ∧
    (s.watch i kind index x).field = s.field ∧ (s.watch i kind index x).safe = s.safe ∧
    (s.watch i kind index x).clock = s.clock ∧ (s.watch i kind index x).grp = s.grp ∧
    (s.watch i kind index x).sec = s.sec ∧ (s.watch i kind index x).power = s.power := by
  simp [State.watch]

@[simp] theorem State.syncWatch_frame (s : State) (i : LaneId) (old : Lane) :
    (s.syncWatch i old).pending = s.pending ∧ (s.syncWatch i old).now = s.now ∧ (s.syncWatch i old).free = s.free ∧
    (s.syncWatch i old).readData = s.readData ∧ (s.syncWatch i old).regs = s.regs ∧
    (s.syncWatch i old).mirror = s.mirror ∧ (s.syncWatch i old).mod = s.mod ∧ (s.syncWatch i old).host = s.host ∧
    (s.syncWatch i old).eic = s.eic ∧ (s.syncWatch i old).journal = s.journal ∧
    (s.syncWatch i old).faults = s.faults ∧ (s.syncWatch i old).duplex = s.duplex ∧ (s.syncWatch i old).gl = s.gl ∧
    (s.syncWatch i old).aux = s.aux ∧ (s.syncWatch i old).field = s.field ∧ (s.syncWatch i old).safe = s.safe ∧
    (s.syncWatch i old).clock = s.clock ∧ (s.syncWatch i old).grp = s.grp ∧ (s.syncWatch i old).sec = s.sec ∧
    (s.syncWatch i old).power = s.power := by
  simp only [State.syncWatch]
  (repeat' split) <;> simp

@[simp] theorem State.setRec_frame (s : State) (i : LaneId) (st : Nat) :
    (s.setRec i st).pending = s.pending ∧ (s.setRec i st).now = s.now ∧ (s.setRec i st).free = s.free ∧
    (s.setRec i st).readData = s.readData ∧ (s.setRec i st).regs = s.regs ∧ (s.setRec i st).mirror = s.mirror ∧
    (s.setRec i st).mod = s.mod ∧ (s.setRec i st).host = s.host ∧ (s.setRec i st).eic = s.eic ∧
    (s.setRec i st).journal = s.journal ∧ (s.setRec i st).faults = s.faults ∧ (s.setRec i st).duplex = s.duplex ∧
    (s.setRec i st).gl = s.gl ∧ (s.setRec i st).aux = s.aux ∧ (s.setRec i st).field = s.field ∧
    (s.setRec i st).safe = s.safe ∧ (s.setRec i st).clock = s.clock ∧ (s.setRec i st).grp = s.grp ∧
    (s.setRec i st).sec = s.sec ∧ (s.setRec i st).power = s.power := by
  simp [State.setRec]

@[simp] theorem State.recRetire_frame (s : State) (i : LaneId) :
    (s.recRetire i).pending = s.pending ∧ (s.recRetire i).now = s.now ∧ (s.recRetire i).free = s.free ∧
    (s.recRetire i).readData = s.readData ∧ (s.recRetire i).regs = s.regs ∧ (s.recRetire i).mirror = s.mirror ∧
    (s.recRetire i).laneA = s.laneA ∧ (s.recRetire i).laneB = s.laneB ∧ (s.recRetire i).mod = s.mod ∧
    (s.recRetire i).eic = s.eic ∧ (s.recRetire i).journal = s.journal ∧ (s.recRetire i).faults = s.faults ∧
    (s.recRetire i).duplex = s.duplex ∧ (s.recRetire i).gl = s.gl ∧ (s.recRetire i).aux = s.aux ∧
    (s.recRetire i).field = s.field ∧ (s.recRetire i).safe = s.safe ∧ (s.recRetire i).clock = s.clock ∧
    (s.recRetire i).grp = s.grp ∧ (s.recRetire i).sec = s.sec ∧ (s.recRetire i).power = s.power := by
  simp [State.recRetire]

@[simp] theorem State.recAdopt_frame (s : State) (i : LaneId) :
    (s.recAdopt i).pending = s.pending ∧ (s.recAdopt i).now = s.now ∧ (s.recAdopt i).free = s.free ∧
    (s.recAdopt i).readData = s.readData ∧ (s.recAdopt i).regs = s.regs ∧ (s.recAdopt i).mirror = s.mirror ∧
    (s.recAdopt i).mod = s.mod ∧ (s.recAdopt i).host = s.host ∧ (s.recAdopt i).eic = s.eic ∧
    (s.recAdopt i).journal = s.journal ∧ (s.recAdopt i).faults = s.faults ∧ (s.recAdopt i).duplex = s.duplex ∧
    (s.recAdopt i).gl = s.gl ∧ (s.recAdopt i).aux = s.aux ∧ (s.recAdopt i).field = s.field ∧
    (s.recAdopt i).safe = s.safe ∧ (s.recAdopt i).clock = s.clock ∧ (s.recAdopt i).grp = s.grp ∧
    (s.recAdopt i).sec = s.sec ∧ (s.recAdopt i).power = s.power := by
  simp [State.recAdopt]

@[simp] theorem State.injectEnd_frame (s : State) (i : LaneId) (n code : Nat) :
    (s.injectEnd i n code).pending = s.pending ∧ (s.injectEnd i n code).now = s.now ∧
    (s.injectEnd i n code).free = s.free ∧ (s.injectEnd i n code).readData = s.readData ∧
    (s.injectEnd i n code).mirror = s.mirror ∧ (s.injectEnd i n code).mod = s.mod ∧
    (s.injectEnd i n code).host = s.host ∧ (s.injectEnd i n code).journal = s.journal ∧
    (s.injectEnd i n code).faults = s.faults ∧ (s.injectEnd i n code).gl = s.gl ∧
    (s.injectEnd i n code).aux = s.aux ∧ (s.injectEnd i n code).field = s.field ∧
    (s.injectEnd i n code).safe = s.safe ∧ (s.injectEnd i n code).clock = s.clock ∧
    (s.injectEnd i n code).grp = s.grp ∧ (s.injectEnd i n code).sec = s.sec ∧
    (s.injectEnd i n code).power = s.power := by
  simp [State.injectEnd]

@[simp] theorem State.injectBoundary_frame (s : State) (i : LaneId) :
    (s.injectBoundary i).pending = s.pending ∧ (s.injectBoundary i).now = s.now ∧
    (s.injectBoundary i).free = s.free ∧ (s.injectBoundary i).readData = s.readData ∧
    (s.injectBoundary i).regs = s.regs ∧ (s.injectBoundary i).mirror = s.mirror ∧ (s.injectBoundary i).mod = s.mod ∧
    (s.injectBoundary i).host = s.host ∧ (s.injectBoundary i).eic = s.eic ∧
    (s.injectBoundary i).journal = s.journal ∧ (s.injectBoundary i).faults = s.faults ∧
    (s.injectBoundary i).duplex = s.duplex ∧ (s.injectBoundary i).gl = s.gl ∧ (s.injectBoundary i).aux = s.aux ∧
    (s.injectBoundary i).field = s.field ∧ (s.injectBoundary i).safe = s.safe ∧
    (s.injectBoundary i).clock = s.clock ∧ (s.injectBoundary i).grp = s.grp ∧ (s.injectBoundary i).sec = s.sec ∧
    (s.injectBoundary i).power = s.power := by
  unfold State.injectBoundary
  exact ⟨State.foldl_pending _ (by intros; (try dsimp only); (repeat' split) <;> simp) _ _,
    State.foldl_now _ (by intros; (try dsimp only); (repeat' split) <;> simp) _ _,
    State.foldl_free _ (by intros; (try dsimp only); (repeat' split) <;> simp) _ _,
    State.foldl_readData _ (by intros; (try dsimp only); (repeat' split) <;> simp) _ _,
    State.foldl_regs _ (by intros; (try dsimp only); (repeat' split) <;> simp) _ _,
    State.foldl_mirror _ (by intros; (try dsimp only); (repeat' split) <;> simp) _ _,
    State.foldl_mod _ (by intros; (try dsimp only); (repeat' split) <;> simp) _ _,
    State.foldl_host _ (by intros; (try dsimp only); (repeat' split) <;> simp) _ _,
    State.foldl_eic _ (by intros; (try dsimp only); (repeat' split) <;> simp) _ _,
    State.foldl_journal _ (by intros; (try dsimp only); (repeat' split) <;> simp) _ _,
    State.foldl_faults _ (by intros; (try dsimp only); (repeat' split) <;> simp) _ _,
    State.foldl_duplex _ (by intros; (try dsimp only); (repeat' split) <;> simp) _ _,
    State.foldl_gl _ (by intros; (try dsimp only); (repeat' split) <;> simp) _ _,
    State.foldl_aux _ (by intros; (try dsimp only); (repeat' split) <;> simp) _ _,
    State.foldl_field _ (by intros; (try dsimp only); (repeat' split) <;> simp) _ _,
    State.foldl_safe _ (by intros; (try dsimp only); (repeat' split) <;> simp) _ _,
    State.foldl_clock _ (by intros; (try dsimp only); (repeat' split) <;> simp) _ _,
    State.foldl_grp _ (by intros; (try dsimp only); (repeat' split) <;> simp) _ _,
    State.foldl_sec _ (by intros; (try dsimp only); (repeat' split) <;> simp) _ _,
    State.foldl_power _ (by intros; (try dsimp only); (repeat' split) <;> simp) _ _⟩

@[simp] theorem State.updJrnl_frame (s : State) :
    s.updJrnl.pending = s.pending ∧ s.updJrnl.now = s.now ∧ s.updJrnl.free = s.free ∧
    s.updJrnl.readData = s.readData ∧ s.updJrnl.mirror = s.mirror ∧ s.updJrnl.laneA = s.laneA ∧
    s.updJrnl.laneB = s.laneB ∧ s.updJrnl.mod = s.mod ∧ s.updJrnl.host = s.host ∧ s.updJrnl.eic = s.eic ∧
    s.updJrnl.journal = s.journal ∧ s.updJrnl.faults = s.faults ∧ s.updJrnl.duplex = s.duplex ∧
    s.updJrnl.gl = s.gl ∧ s.updJrnl.aux = s.aux ∧ s.updJrnl.field = s.field ∧ s.updJrnl.safe = s.safe ∧
    s.updJrnl.clock = s.clock ∧ s.updJrnl.grp = s.grp ∧ s.updJrnl.sec = s.sec ∧ s.updJrnl.power = s.power := by
  simp [State.updJrnl]

@[simp] theorem State.commitRecord_frame (s : State) (r : JRec) :
    (s.commitRecord r).pending = s.pending ∧ (s.commitRecord r).now = s.now ∧ (s.commitRecord r).free = s.free ∧
    (s.commitRecord r).readData = s.readData ∧ (s.commitRecord r).mirror = s.mirror ∧
    (s.commitRecord r).mod = s.mod ∧ (s.commitRecord r).faults = s.faults ∧ (s.commitRecord r).duplex = s.duplex ∧
    (s.commitRecord r).gl = s.gl ∧ (s.commitRecord r).aux = s.aux ∧ (s.commitRecord r).field = s.field ∧
    (s.commitRecord r).safe = s.safe ∧ (s.commitRecord r).clock = s.clock ∧ (s.commitRecord r).grp = s.grp ∧
    (s.commitRecord r).sec = s.sec ∧ (s.commitRecord r).power = s.power := by
  simp [State.commitRecord]

@[simp] theorem State.slotSample_frame (s : State) (i : LaneId) (n kind : Nat) (x : Sample) :
    (s.slotSample i n kind x).pending = s.pending ∧ (s.slotSample i n kind x).now = s.now ∧
    (s.slotSample i n kind x).free = s.free ∧ (s.slotSample i n kind x).readData = s.readData ∧
    (s.slotSample i n kind x).regs = s.regs ∧ (s.slotSample i n kind x).mirror = s.mirror ∧
    (s.slotSample i n kind x).mod = s.mod ∧ (s.slotSample i n kind x).eic = s.eic ∧
    (s.slotSample i n kind x).journal = s.journal ∧ (s.slotSample i n kind x).faults = s.faults ∧
    (s.slotSample i n kind x).gl = s.gl ∧ (s.slotSample i n kind x).aux = s.aux ∧
    (s.slotSample i n kind x).field = s.field ∧ (s.slotSample i n kind x).safe = s.safe ∧
    (s.slotSample i n kind x).clock = s.clock ∧ (s.slotSample i n kind x).grp = s.grp ∧
    (s.slotSample i n kind x).sec = s.sec ∧ (s.slotSample i n kind x).power = s.power := by
  simp only [State.slotSample]
  (repeat' split) <;> simp

@[simp] theorem State.recFill_frame (s : State) (i : LaneId) :
    (s.recFill i).pending = s.pending ∧ (s.recFill i).now = s.now ∧ (s.recFill i).free = s.free ∧
    (s.recFill i).readData = s.readData ∧ (s.recFill i).regs = s.regs ∧ (s.recFill i).mirror = s.mirror ∧
    (s.recFill i).mod = s.mod ∧ (s.recFill i).host = s.host ∧ (s.recFill i).eic = s.eic ∧
    (s.recFill i).journal = s.journal ∧ (s.recFill i).faults = s.faults ∧ (s.recFill i).duplex = s.duplex ∧
    (s.recFill i).gl = s.gl ∧ (s.recFill i).aux = s.aux ∧ (s.recFill i).field = s.field ∧
    (s.recFill i).safe = s.safe ∧ (s.recFill i).clock = s.clock ∧ (s.recFill i).grp = s.grp ∧
    (s.recFill i).sec = s.sec ∧ (s.recFill i).power = s.power := by
  simp [State.recFill]

@[simp] theorem State.recTake_frame (s : State) (i : LaneId) (unit : Nat) (pt : TrigPoint) :
    (s.recTake i unit pt).pending = s.pending ∧ (s.recTake i unit pt).now = s.now ∧
    (s.recTake i unit pt).readData = s.readData ∧ (s.recTake i unit pt).mirror = s.mirror ∧
    (s.recTake i unit pt).mod = s.mod ∧ (s.recTake i unit pt).host = s.host ∧
    (s.recTake i unit pt).journal = s.journal ∧ (s.recTake i unit pt).faults = s.faults ∧
    (s.recTake i unit pt).gl = s.gl ∧ (s.recTake i unit pt).aux = s.aux ∧ (s.recTake i unit pt).field = s.field ∧
    (s.recTake i unit pt).safe = s.safe ∧ (s.recTake i unit pt).clock = s.clock ∧
    (s.recTake i unit pt).sec = s.sec ∧ (s.recTake i unit pt).power = s.power := by
  simp [State.recTake]

@[simp] theorem State.rakeFlush_frame (s : State) (i : LaneId) :
    (s.rakeFlush i).pending = s.pending ∧ (s.rakeFlush i).now = s.now ∧ (s.rakeFlush i).free = s.free ∧
    (s.rakeFlush i).readData = s.readData ∧ (s.rakeFlush i).regs = s.regs ∧ (s.rakeFlush i).mirror = s.mirror ∧
    (s.rakeFlush i).mod = s.mod ∧ (s.rakeFlush i).eic = s.eic ∧ (s.rakeFlush i).journal = s.journal ∧
    (s.rakeFlush i).faults = s.faults ∧ (s.rakeFlush i).gl = s.gl ∧ (s.rakeFlush i).aux = s.aux ∧
    (s.rakeFlush i).field = s.field ∧ (s.rakeFlush i).safe = s.safe ∧ (s.rakeFlush i).clock = s.clock ∧
    (s.rakeFlush i).grp = s.grp ∧ (s.rakeFlush i).sec = s.sec ∧ (s.rakeFlush i).power = s.power := by
  simp only [State.rakeFlush]
  (repeat' split) <;> simp

@[simp] theorem State.injectReport_frame (s : State) (i : LaneId) (n : Nat) :
    (s.injectReport i n).pending = s.pending ∧ (s.injectReport i n).now = s.now ∧
    (s.injectReport i n).free = s.free ∧ (s.injectReport i n).readData = s.readData ∧
    (s.injectReport i n).mirror = s.mirror ∧ (s.injectReport i n).mod = s.mod ∧ (s.injectReport i n).host = s.host ∧
    (s.injectReport i n).journal = s.journal ∧ (s.injectReport i n).faults = s.faults ∧
    (s.injectReport i n).gl = s.gl ∧ (s.injectReport i n).aux = s.aux ∧ (s.injectReport i n).field = s.field ∧
    (s.injectReport i n).safe = s.safe ∧ (s.injectReport i n).clock = s.clock ∧ (s.injectReport i n).grp = s.grp ∧
    (s.injectReport i n).sec = s.sec ∧ (s.injectReport i n).power = s.power := by
  simp only [State.injectReport]
  (repeat' split) <;> simp

@[simp] theorem State.commitJournal_frame (s : State) :
    s.commitJournal.pending = s.pending ∧ s.commitJournal.now = s.now ∧ s.commitJournal.free = s.free ∧
    s.commitJournal.readData = s.readData ∧ s.commitJournal.mirror = s.mirror ∧ s.commitJournal.faults = s.faults ∧
    s.commitJournal.duplex = s.duplex ∧ s.commitJournal.gl = s.gl ∧ s.commitJournal.aux = s.aux ∧
    s.commitJournal.field = s.field ∧ s.commitJournal.safe = s.safe ∧ s.commitJournal.clock = s.clock ∧
    s.commitJournal.grp = s.grp ∧ s.commitJournal.sec = s.sec ∧ s.commitJournal.power = s.power ∧
    s.commitJournal.mod.tally = s.mod.tally := by
  simp [State.commitJournal]

@[simp] theorem State.recSample_frame (s : State) (i : LaneId) (kind index : Nat) (val : Word) (late : Bool) :
    (s.recSample i kind index val late).pending = s.pending ∧ (s.recSample i kind index val late).now = s.now ∧
    (s.recSample i kind index val late).free = s.free ∧ (s.recSample i kind index val late).readData = s.readData ∧
    (s.recSample i kind index val late).regs = s.regs ∧ (s.recSample i kind index val late).mirror = s.mirror ∧
    (s.recSample i kind index val late).mod = s.mod ∧ (s.recSample i kind index val late).eic = s.eic ∧
    (s.recSample i kind index val late).journal = s.journal ∧
    (s.recSample i kind index val late).faults = s.faults ∧ (s.recSample i kind index val late).gl = s.gl ∧
    (s.recSample i kind index val late).aux = s.aux ∧ (s.recSample i kind index val late).field = s.field ∧
    (s.recSample i kind index val late).safe = s.safe ∧ (s.recSample i kind index val late).clock = s.clock ∧
    (s.recSample i kind index val late).grp = s.grp ∧ (s.recSample i kind index val late).sec = s.sec ∧
    (s.recSample i kind index val late).power = s.power := by
  simp only [State.recSample]
  (repeat' split) <;> simp

@[simp] theorem State.recClose_frame (s : State) (i : LaneId) (trunc : Bool) :
    (s.recClose i trunc).pending = s.pending ∧ (s.recClose i trunc).now = s.now ∧
    (s.recClose i trunc).free = s.free ∧ (s.recClose i trunc).readData = s.readData ∧
    (s.recClose i trunc).regs = s.regs ∧ (s.recClose i trunc).mirror = s.mirror ∧ (s.recClose i trunc).mod = s.mod ∧
    (s.recClose i trunc).eic = s.eic ∧ (s.recClose i trunc).journal = s.journal ∧
    (s.recClose i trunc).faults = s.faults ∧ (s.recClose i trunc).gl = s.gl ∧ (s.recClose i trunc).aux = s.aux ∧
    (s.recClose i trunc).field = s.field ∧ (s.recClose i trunc).safe = s.safe ∧
    (s.recClose i trunc).clock = s.clock ∧ (s.recClose i trunc).grp = s.grp ∧ (s.recClose i trunc).sec = s.sec ∧
    (s.recClose i trunc).power = s.power := by
  simp only [State.recClose]
  (repeat' split) <;> simp

@[simp] theorem State.rakeStart_frame (s : State) (i : LaneId) (frames : Word) :
    (s.rakeStart i frames).pending = s.pending ∧ (s.rakeStart i frames).now = s.now ∧
    (s.rakeStart i frames).free = s.free ∧ (s.rakeStart i frames).readData = s.readData ∧
    (s.rakeStart i frames).mirror = s.mirror ∧ (s.rakeStart i frames).mod = s.mod ∧
    (s.rakeStart i frames).journal = s.journal ∧ (s.rakeStart i frames).faults = s.faults ∧
    (s.rakeStart i frames).gl = s.gl ∧ (s.rakeStart i frames).aux = s.aux ∧ (s.rakeStart i frames).field = s.field ∧
    (s.rakeStart i frames).safe = s.safe ∧ (s.rakeStart i frames).clock = s.clock ∧
    (s.rakeStart i frames).grp = s.grp ∧ (s.rakeStart i frames).sec = s.sec ∧
    (s.rakeStart i frames).power = s.power := by
  simp [State.rakeStart]

@[simp] theorem State.rakeBoundary_frame (s : State) (i : LaneId) :
    (s.rakeBoundary i).pending = s.pending ∧ (s.rakeBoundary i).now = s.now ∧ (s.rakeBoundary i).free = s.free ∧
    (s.rakeBoundary i).readData = s.readData ∧ (s.rakeBoundary i).regs = s.regs ∧
    (s.rakeBoundary i).mirror = s.mirror ∧ (s.rakeBoundary i).mod = s.mod ∧ (s.rakeBoundary i).eic = s.eic ∧
    (s.rakeBoundary i).journal = s.journal ∧ (s.rakeBoundary i).faults = s.faults ∧ (s.rakeBoundary i).gl = s.gl ∧
    (s.rakeBoundary i).aux = s.aux ∧ (s.rakeBoundary i).field = s.field ∧ (s.rakeBoundary i).safe = s.safe ∧
    (s.rakeBoundary i).clock = s.clock ∧ (s.rakeBoundary i).grp = s.grp ∧ (s.rakeBoundary i).sec = s.sec ∧
    (s.rakeBoundary i).power = s.power := by
  simp [State.rakeBoundary]

@[simp] theorem State.recStop_frame (s : State) (i : LaneId) :
    (s.recStop i).pending = s.pending ∧ (s.recStop i).now = s.now ∧ (s.recStop i).free = s.free ∧
    (s.recStop i).readData = s.readData ∧ (s.recStop i).regs = s.regs ∧ (s.recStop i).mirror = s.mirror ∧
    (s.recStop i).mod = s.mod ∧ (s.recStop i).eic = s.eic ∧ (s.recStop i).journal = s.journal ∧
    (s.recStop i).faults = s.faults ∧ (s.recStop i).gl = s.gl ∧ (s.recStop i).aux = s.aux ∧
    (s.recStop i).field = s.field ∧ (s.recStop i).safe = s.safe ∧ (s.recStop i).clock = s.clock ∧
    (s.recStop i).grp = s.grp ∧ (s.recStop i).sec = s.sec ∧ (s.recStop i).power = s.power := by
  simp only [State.recStop]
  (repeat' split) <;> simp

@[simp] theorem State.injectStart_frame (s : State) (i : LaneId) (b : InjBody) :
    (s.injectStart i b).pending = s.pending ∧ (s.injectStart i b).now = s.now ∧ (s.injectStart i b).free = s.free ∧
    (s.injectStart i b).readData = s.readData ∧ (s.injectStart i b).mirror = s.mirror ∧
    (s.injectStart i b).mod = s.mod ∧ (s.injectStart i b).journal = s.journal ∧
    (s.injectStart i b).faults = s.faults ∧ (s.injectStart i b).gl = s.gl ∧ (s.injectStart i b).aux = s.aux ∧
    (s.injectStart i b).field = s.field ∧ (s.injectStart i b).safe = s.safe ∧ (s.injectStart i b).clock = s.clock ∧
    (s.injectStart i b).grp = s.grp ∧ (s.injectStart i b).sec = s.sec ∧ (s.injectStart i b).power = s.power := by
  simp [State.injectStart]

end Sys2Proof.Machine
end

