-- ==== Sys2Proof/Laws/AngleFrames.lean ====
section
/-! SUPPORT. What the operations of Machine/Angle.lean leave alone: for each, the parts of the state that it keeps. -/
namespace Sys2Proof.Machine

@[simp] theorem State.boundaryAngles_frame (s : State) (i : LaneId) :
    (s.boundaryAngles i).pending = s.pending ∧ (s.boundaryAngles i).now = s.now ∧
    (s.boundaryAngles i).free = s.free ∧ (s.boundaryAngles i).readData = s.readData ∧
    (s.boundaryAngles i).mirror = s.mirror ∧ (s.boundaryAngles i).mod = s.mod ∧ (s.boundaryAngles i).host = s.host ∧
    (s.boundaryAngles i).faults = s.faults ∧ (s.boundaryAngles i).gl = s.gl ∧ (s.boundaryAngles i).aux = s.aux ∧
    (s.boundaryAngles i).field = s.field ∧ (s.boundaryAngles i).safe = s.safe ∧
    (s.boundaryAngles i).clock = s.clock ∧ (s.boundaryAngles i).grp = s.grp ∧ (s.boundaryAngles i).sec = s.sec ∧
    (s.boundaryAngles i).power = s.power := by
  simp [State.boundaryAngles]

@[simp] theorem State.startAngles_frame (s : State) :
    s.startAngles.pending = s.pending ∧ s.startAngles.now = s.now ∧ s.startAngles.free = s.free ∧
    s.startAngles.readData = s.readData ∧ s.startAngles.regs = s.regs ∧ s.startAngles.mirror = s.mirror ∧
    s.startAngles.host = s.host ∧ s.startAngles.eic = s.eic ∧ s.startAngles.journal = s.journal ∧
    s.startAngles.faults = s.faults ∧ s.startAngles.duplex = s.duplex ∧ s.startAngles.gl = s.gl ∧
    s.startAngles.aux = s.aux ∧ s.startAngles.field = s.field ∧ s.startAngles.safe = s.safe ∧
    s.startAngles.clock = s.clock ∧ s.startAngles.grp = s.grp ∧ s.startAngles.sec = s.sec ∧
    s.startAngles.power = s.power ∧ s.startAngles.mod.tally = s.mod.tally := by
  simp [State.startAngles]

@[simp] theorem State.enqueue_frame (s : State) (i : LaneId) (n idx : Nat) (late : Bool) :
    (s.enqueue i n idx late).pending = s.pending ∧ (s.enqueue i n idx late).now = s.now ∧
    (s.enqueue i n idx late).free = s.free ∧ (s.enqueue i n idx late).readData = s.readData ∧
    (s.enqueue i n idx late).mirror = s.mirror ∧ (s.enqueue i n idx late).mod = s.mod ∧
    (s.enqueue i n idx late).host = s.host ∧ (s.enqueue i n idx late).journal = s.journal ∧
    (s.enqueue i n idx late).faults = s.faults ∧ (s.enqueue i n idx late).gl = s.gl ∧
    (s.enqueue i n idx late).aux = s.aux ∧ (s.enqueue i n idx late).field = s.field ∧
    (s.enqueue i n idx late).safe = s.safe ∧ (s.enqueue i n idx late).clock = s.clock ∧
    (s.enqueue i n idx late).grp = s.grp ∧ (s.enqueue i n idx late).sec = s.sec ∧
    (s.enqueue i n idx late).power = s.power := by
  simp [State.enqueue]

end Sys2Proof.Machine
end

