-- ==== Sys2Proof/Laws/Canon.lean ====
section
/-! SUPPORT. The canonical form of the addressed memories and the register files: every
write keeps it. What the addresses read as afterwards stands in Regs. -/
namespace Sys2Proof.Machine

/-- Rising addresses, as a relation of every two entries. -/
theorem risingKeys_iff (l : List (Nat × Word)) : risingKeys l = true ↔ l.Pairwise fun x y => x.1 < y.1 := by
  induction l with
  | nil => simp [risingKeys]
  | cons x t ih =>
    cases t with
    | nil => simp [risingKeys]
    | cons y t =>
      simp only [risingKeys, Bool.and_eq_true, decide_eq_true_eq, ih, List.pairwise_cons]
      constructor
      · rintro ⟨h, g, k⟩
        refine ⟨fun z hz => ?_, g, k⟩
        rcases List.mem_cons.1 hz with rfl | hz
        · exact h
        · exact Nat.lt_trans h (g z hz)
      · rintro ⟨h, g, k⟩
        exact ⟨h y (by simp), g, k⟩

/-- An entry after a write is the new one, or was there under another address. -/
theorem mem_memPut {m : List (Nat × Word)} {x : Nat} {w : Word} {e : Nat × Word} (h : e ∈ memPut m x w) : e = (x, w) ∨ e ∈ m := by
  induction m with
  | nil => simpa [memPut] using h
  | cons a t ih =>
    simp only [memPut] at h
    split at h
    · simpa using h
    · split at h
      · simp only [List.mem_cons] at h ⊢
        exact h.imp_right .inr
      · simp only [List.mem_cons] at h ⊢
        rcases h with h | h
        · exact .inr (.inl h)
        · exact (ih h).imp_right .inr

theorem memPut_rising {m : List (Nat × Word)} {x : Nat} {w : Word} (h : m.Pairwise fun a b => a.1 < b.1) :
    (memPut m x w).Pairwise fun a b => a.1 < b.1 := by
  induction m with
  | nil => simp [memPut]
  | cons a t ih =>
    obtain ⟨g, k⟩ := List.pairwise_cons.1 h
    simp only [memPut]
    split
    · rename_i l
      refine List.pairwise_cons.2 ⟨fun e he => ?_, h⟩
      rcases List.mem_cons.1 he with rfl | he
      · exact l
      · exact Nat.lt_trans l (g e he)
    · split
      · rename_i e
        subst e
        exact List.pairwise_cons.2 ⟨g, k⟩
      · refine List.pairwise_cons.2 ⟨fun e he => ?_, ih k⟩
        rcases mem_memPut he with rfl | he
        · show a.1 < x
          omega
        · exact g e he

theorem memDrop_sublist {α : Type} (m : List (Nat × α)) (x : Nat) : (memDrop m x).Sublist m := by
  induction m with
  | nil => exact .slnil
  | cons a t ih =>
    simp only [memDrop]
    split
    · exact ih.cons _
    · exact ih.cons_cons _

/-- A write to an addressed memory keeps its canonical form. -/
theorem memWr_wf {m : WordMem} (x : Nat) (w : Word) (h : Memory.wf m = true) : Memory.wf (memWr m x w) = true := by
  simp only [Memory.wf, Bool.and_eq_true, risingKeys_iff, List.all_eq_true] at *
  unfold memWr
  split
  · exact ⟨h.1.sublist (memDrop_sublist m x), fun e he => h.2 e ((memDrop_sublist m x).subset he)⟩
  · rename_i z
    refine ⟨memPut_rising h.1, fun e he => ?_⟩
    rcases mem_memPut he with rfl | he
    · simpa using z
    · exact h.2 e he

/-- A write to a register file keeps its canonical form. -/
theorem RegFile.set_wf {f : RegFile} (x : Nat) (w : Word) (h : f.wf = true) : (f.set x w).wf = true := by
  simp only [RegFile.wf, Bool.and_eq_true, risingKeys_iff, List.all_eq_true] at *
  unfold RegFile.set
  split
  · exact ⟨h.1.sublist (memDrop_sublist f x), fun e he => h.2 e ((memDrop_sublist f x).subset he)⟩
  · rename_i z
    refine ⟨memPut_rising h.1, fun e he => ?_⟩
    rcases mem_memPut he with rfl | he
    · simpa using z
    · exact h.2 e he

/-- A field written in a register file keeps its canonical form. -/
theorem RegFile.wr_wf {f : RegFile} (x : Fld) (v : Nat) (h : f.wf = true) : (f.wr x v).wf = true := RegFile.set_wf _ _ h

end Sys2Proof.Machine
end

