-- ==== Sys2Proof/Laws/ClocksFrames.lean ====
section
/-! SUPPORT. What the operations of Machine/Clocks.lean leave alone: for each, the parts of the state that it keeps. -/
namespace Sys2Proof.Machine

@[simp] theorem State.clkEvent_frame (s : State) (code : Nat) :
    (s.clkEvent code).pending = s.pending ∧ (s.clkEvent code).now = s.now ∧ (s.clkEvent code).free = s.free ∧
    (s.clkEvent code).readData = s.readData ∧ (s.clkEvent code).mirror = s.mirror ∧ (s.clkEvent code).mod = s.mod ∧
    (s.clkEvent code).host = s.host ∧ (s.clkEvent code).faults = s.faults ∧ (s.clkEvent code).duplex = s.duplex ∧
    (s.clkEvent code).gl = s.gl ∧ (s.clkEvent code).aux = s.aux ∧ (s.clkEvent code).field = s.field ∧
    (s.clkEvent code).safe = s.safe ∧ (s.clkEvent code).clock = s.clock ∧ (s.clkEvent code).grp = s.grp ∧
    (s.clkEvent code).sec = s.sec ∧ (s.clkEvent code).power = s.power := by
  simp [State.clkEvent]

@[simp] theorem State.loadSeed_frame (s : State) :
    s.loadSeed.pending = s.pending ∧ s.loadSeed.now = s.now ∧ s.loadSeed.free = s.free ∧
    s.loadSeed.readData = s.readData ∧ s.loadSeed.regs = s.regs ∧ s.loadSeed.mirror = s.mirror ∧
    s.loadSeed.laneA = s.laneA ∧ s.loadSeed.laneB = s.laneB ∧ s.loadSeed.mod = s.mod ∧ s.loadSeed.host = s.host ∧
    s.loadSeed.eic = s.eic ∧ s.loadSeed.journal = s.journal ∧ s.loadSeed.faults = s.faults ∧
    s.loadSeed.duplex = s.duplex ∧ s.loadSeed.gl = s.gl ∧ s.loadSeed.aux = s.aux ∧ s.loadSeed.field = s.field ∧
    s.loadSeed.safe = s.safe ∧ s.loadSeed.grp = s.grp ∧ s.loadSeed.sec = s.sec ∧ s.loadSeed.power = s.power := by
  simp [State.loadSeed]

@[simp] theorem State.changeRate_frame (s : State) (slow : Bool) :
    (s.changeRate slow).pending = s.pending ∧ (s.changeRate slow).now = s.now ∧ (s.changeRate slow).free = s.free ∧
    (s.changeRate slow).readData = s.readData ∧ (s.changeRate slow).mirror = s.mirror ∧
    (s.changeRate slow).mod = s.mod ∧ (s.changeRate slow).host = s.host ∧ (s.changeRate slow).eic = s.eic ∧
    (s.changeRate slow).journal = s.journal ∧ (s.changeRate slow).faults = s.faults ∧
    (s.changeRate slow).duplex = s.duplex ∧ (s.changeRate slow).gl = s.gl ∧ (s.changeRate slow).aux = s.aux ∧
    (s.changeRate slow).field = s.field ∧ (s.changeRate slow).safe = s.safe ∧ (s.changeRate slow).clock = s.clock ∧
    (s.changeRate slow).grp = s.grp ∧ (s.changeRate slow).sec = s.sec ∧ (s.changeRate slow).power = s.power := by
  simp [State.changeRate]

@[simp] theorem State.setSync_frame (s : State) (v : Nat) :
    (s.setSync v).pending = s.pending ∧ (s.setSync v).now = s.now ∧ (s.setSync v).free = s.free ∧
    (s.setSync v).readData = s.readData ∧ (s.setSync v).mirror = s.mirror ∧ (s.setSync v).mod = s.mod ∧
    (s.setSync v).host = s.host ∧ (s.setSync v).journal = s.journal ∧ (s.setSync v).faults = s.faults ∧
    (s.setSync v).duplex = s.duplex ∧ (s.setSync v).gl = s.gl ∧ (s.setSync v).aux = s.aux ∧
    (s.setSync v).field = s.field ∧ (s.setSync v).safe = s.safe ∧ (s.setSync v).clock = s.clock ∧
    (s.setSync v).grp = s.grp ∧ (s.setSync v).sec = s.sec ∧ (s.setSync v).power = s.power := by
  simp [State.setSync]

@[simp] theorem State.writeNdiv_frame (s : State) (n : Nat) :
    (s.writeNdiv n).pending = s.pending ∧ (s.writeNdiv n).now = s.now ∧ (s.writeNdiv n).free = s.free ∧
    (s.writeNdiv n).readData = s.readData ∧ (s.writeNdiv n).mirror = s.mirror ∧ (s.writeNdiv n).laneA = s.laneA ∧
    (s.writeNdiv n).laneB = s.laneB ∧ (s.writeNdiv n).mod = s.mod ∧ (s.writeNdiv n).host = s.host ∧
    (s.writeNdiv n).eic = s.eic ∧ (s.writeNdiv n).journal = s.journal ∧ (s.writeNdiv n).faults = s.faults ∧
    (s.writeNdiv n).duplex = s.duplex ∧ (s.writeNdiv n).gl = s.gl ∧ (s.writeNdiv n).aux = s.aux ∧
    (s.writeNdiv n).field = s.field ∧ (s.writeNdiv n).safe = s.safe ∧ (s.writeNdiv n).grp = s.grp ∧
    (s.writeNdiv n).sec = s.sec ∧ (s.writeNdiv n).power = s.power := by
  simp [State.writeNdiv]

@[simp] theorem State.moveTarget_frame (s : State) (c : Nat) (d : Int) :
    (s.moveTarget c d).pending = s.pending ∧ (s.moveTarget c d).now = s.now ∧ (s.moveTarget c d).free = s.free ∧
    (s.moveTarget c d).readData = s.readData ∧ (s.moveTarget c d).mirror = s.mirror ∧
    (s.moveTarget c d).laneA = s.laneA ∧ (s.moveTarget c d).laneB = s.laneB ∧ (s.moveTarget c d).mod = s.mod ∧
    (s.moveTarget c d).host = s.host ∧ (s.moveTarget c d).eic = s.eic ∧ (s.moveTarget c d).journal = s.journal ∧
    (s.moveTarget c d).faults = s.faults ∧ (s.moveTarget c d).duplex = s.duplex ∧ (s.moveTarget c d).gl = s.gl ∧
    (s.moveTarget c d).aux = s.aux ∧ (s.moveTarget c d).field = s.field ∧ (s.moveTarget c d).safe = s.safe ∧
    (s.moveTarget c d).clock = s.clock ∧ (s.moveTarget c d).grp = s.grp ∧ (s.moveTarget c d).sec = s.sec ∧
    (s.moveTarget c d).power = s.power := by
  simp [State.moveTarget]

@[simp] theorem State.noteReached_frame (s : State) (c : Nat) (late : Bool) :
    (s.noteReached c late).pending = s.pending ∧ (s.noteReached c late).now = s.now ∧
    (s.noteReached c late).free = s.free ∧ (s.noteReached c late).readData = s.readData ∧
    (s.noteReached c late).regs = s.regs ∧ (s.noteReached c late).mirror = s.mirror ∧
    (s.noteReached c late).laneA = s.laneA ∧ (s.noteReached c late).laneB = s.laneB ∧
    (s.noteReached c late).mod = s.mod ∧ (s.noteReached c late).host = s.host ∧ (s.noteReached c late).eic = s.eic ∧
    (s.noteReached c late).journal = s.journal ∧ (s.noteReached c late).faults = s.faults ∧
    (s.noteReached c late).duplex = s.duplex ∧ (s.noteReached c late).gl = s.gl ∧
    (s.noteReached c late).aux = s.aux ∧ (s.noteReached c late).field = s.field ∧
    (s.noteReached c late).safe = s.safe ∧ (s.noteReached c late).grp = s.grp ∧ (s.noteReached c late).sec = s.sec ∧
    (s.noteReached c late).power = s.power := by
  simp [State.noteReached]

@[simp] theorem State.showStamp_frame (s : State) (p : Nat) :
    (s.showStamp p).pending = s.pending ∧ (s.showStamp p).now = s.now ∧ (s.showStamp p).free = s.free ∧
    (s.showStamp p).readData = s.readData ∧ (s.showStamp p).mirror = s.mirror ∧ (s.showStamp p).laneA = s.laneA ∧
    (s.showStamp p).laneB = s.laneB ∧ (s.showStamp p).mod = s.mod ∧ (s.showStamp p).host = s.host ∧
    (s.showStamp p).eic = s.eic ∧ (s.showStamp p).journal = s.journal ∧ (s.showStamp p).faults = s.faults ∧
    (s.showStamp p).duplex = s.duplex ∧ (s.showStamp p).gl = s.gl ∧ (s.showStamp p).aux = s.aux ∧
    (s.showStamp p).field = s.field ∧ (s.showStamp p).safe = s.safe ∧ (s.showStamp p).clock = s.clock ∧
    (s.showStamp p).grp = s.grp ∧ (s.showStamp p).sec = s.sec ∧ (s.showStamp p).power = s.power := by
  simp only [State.showStamp]
  (repeat' split) <;> simp

@[simp] theorem State.loseLock_frame (s : State) :
    s.loseLock.pending = s.pending ∧ s.loseLock.now = s.now ∧ s.loseLock.free = s.free ∧
    s.loseLock.readData = s.readData ∧ s.loseLock.mirror = s.mirror ∧ s.loseLock.host = s.host ∧
    s.loseLock.clock = s.clock ∧ s.loseLock.grp = s.grp ∧ s.loseLock.sec = s.sec ∧
    s.loseLock.mod.tally = s.mod.tally := by
  simp [State.loseLock]

@[simp] theorem State.takeLock_frame (s : State) :
    s.takeLock.pending = s.pending ∧ s.takeLock.now = s.now ∧ s.takeLock.free = s.free ∧
    s.takeLock.readData = s.readData ∧ s.takeLock.mirror = s.mirror ∧ s.takeLock.mod = s.mod ∧
    s.takeLock.host = s.host ∧ s.takeLock.duplex = s.duplex ∧ s.takeLock.gl = s.gl ∧ s.takeLock.aux = s.aux ∧
    s.takeLock.field = s.field ∧ s.takeLock.safe = s.safe ∧ s.takeLock.grp = s.grp ∧ s.takeLock.sec = s.sec ∧
    s.takeLock.power = s.power := by
  simp [State.takeLock]

@[simp] theorem State.fireCmp_frame (s : State) (c data : Nat) :
    (s.fireCmp c data).pending = s.pending ∧ (s.fireCmp c data).now = s.now ∧ (s.fireCmp c data).free = s.free ∧
    (s.fireCmp c data).readData = s.readData ∧ (s.fireCmp c data).mirror = s.mirror ∧
    (s.fireCmp c data).mod = s.mod ∧ (s.fireCmp c data).host = s.host ∧ (s.fireCmp c data).journal = s.journal ∧
    (s.fireCmp c data).faults = s.faults ∧ (s.fireCmp c data).duplex = s.duplex ∧ (s.fireCmp c data).gl = s.gl ∧
    (s.fireCmp c data).aux = s.aux ∧ (s.fireCmp c data).field = s.field ∧ (s.fireCmp c data).safe = s.safe ∧
    (s.fireCmp c data).grp = s.grp ∧ (s.fireCmp c data).sec = s.sec ∧ (s.fireCmp c data).power = s.power := by
  simp [State.fireCmp]

@[simp] theorem State.cmpAdjusted_frame (s : State) (before : State) (c : Nat) :
    (s.cmpAdjusted before c).pending = s.pending ∧ (s.cmpAdjusted before c).now = s.now ∧
    (s.cmpAdjusted before c).free = s.free ∧ (s.cmpAdjusted before c).readData = s.readData ∧
    (s.cmpAdjusted before c).mirror = s.mirror ∧ (s.cmpAdjusted before c).mod = s.mod ∧
    (s.cmpAdjusted before c).host = s.host ∧ (s.cmpAdjusted before c).journal = s.journal ∧
    (s.cmpAdjusted before c).faults = s.faults ∧ (s.cmpAdjusted before c).duplex = s.duplex ∧
    (s.cmpAdjusted before c).gl = s.gl ∧ (s.cmpAdjusted before c).aux = s.aux ∧
    (s.cmpAdjusted before c).field = s.field ∧ (s.cmpAdjusted before c).safe = s.safe ∧
    (s.cmpAdjusted before c).grp = s.grp ∧ (s.cmpAdjusted before c).sec = s.sec ∧
    (s.cmpAdjusted before c).power = s.power := by
  simp [State.cmpAdjusted]

@[simp] theorem State.timeAdjust_frame (s : State) (mode : Nat) (sec : BitVec 64) (nsec : Word) :
    (s.timeAdjust mode sec nsec).pending = s.pending ∧ (s.timeAdjust mode sec nsec).now = s.now ∧
    (s.timeAdjust mode sec nsec).free = s.free ∧ (s.timeAdjust mode sec nsec).readData = s.readData ∧
    (s.timeAdjust mode sec nsec).mirror = s.mirror ∧ (s.timeAdjust mode sec nsec).mod = s.mod ∧
    (s.timeAdjust mode sec nsec).host = s.host ∧ (s.timeAdjust mode sec nsec).journal = s.journal ∧
    (s.timeAdjust mode sec nsec).faults = s.faults ∧ (s.timeAdjust mode sec nsec).duplex = s.duplex ∧
    (s.timeAdjust mode sec nsec).gl = s.gl ∧ (s.timeAdjust mode sec nsec).aux = s.aux ∧
    (s.timeAdjust mode sec nsec).field = s.field ∧ (s.timeAdjust mode sec nsec).safe = s.safe ∧
    (s.timeAdjust mode sec nsec).grp = s.grp ∧ (s.timeAdjust mode sec nsec).sec = s.sec ∧
    (s.timeAdjust mode sec nsec).power = s.power := by
  simp [State.timeAdjust]

end Sys2Proof.Machine
end

