-- ==== Sys2Proof/Laws/MeasureFrames.lean ====
section
/-! SUPPORT. What the operations of Machine/Measure.lean leave alone: for each, the parts of the state that it keeps. -/
namespace Sys2Proof.Machine

@[simp] theorem State.endChans_frame (s : State) :
    s.endChans.pending = s.pending ∧ s.endChans.now = s.now ∧ s.endChans.free = s.free ∧
    s.endChans.readData = s.readData ∧ s.endChans.regs = s.regs ∧ s.endChans.mirror = s.mirror ∧
    s.endChans.mod = s.mod ∧ s.endChans.host = s.host ∧ s.endChans.eic = s.eic ∧ s.endChans.journal = s.journal ∧
    s.endChans.faults = s.faults ∧ s.endChans.duplex = s.duplex ∧ s.endChans.gl = s.gl ∧ s.endChans.aux = s.aux ∧
    s.endChans.field = s.field ∧ s.endChans.safe = s.safe ∧ s.endChans.clock = s.clock ∧ s.endChans.grp = s.grp ∧
    s.endChans.sec = s.sec ∧ s.endChans.power = s.power := by
  simp [State.endChans]

@[simp] theorem State.output_frame (s : State) (i : LaneId) (k : Nat) (v : Int) (settling : Bool) :
    (s.output i k v settling).pending = s.pending ∧ (s.output i k v settling).now = s.now ∧
    (s.output i k v settling).free = s.free ∧ (s.output i k v settling).readData = s.readData ∧
    (s.output i k v settling).mirror = s.mirror ∧ (s.output i k v settling).clock = s.clock ∧
    (s.output i k v settling).grp = s.grp ∧ (s.output i k v settling).sec = s.sec ∧
    (s.output i k v settling).mod.tally = s.mod.tally := by
  simp [State.output]

@[simp] theorem State.convStart_frame (s : State) (i : LaneId) (g : Nat) (late : Bool) :
    (s.convStart i g late).pending = s.pending ∧ (s.convStart i g late).now = s.now ∧
    (s.convStart i g late).free = s.free ∧ (s.convStart i g late).readData = s.readData ∧
    (s.convStart i g late).regs = s.regs ∧ (s.convStart i g late).mirror = s.mirror ∧
    (s.convStart i g late).mod = s.mod ∧ (s.convStart i g late).host = s.host ∧ (s.convStart i g late).eic = s.eic ∧
    (s.convStart i g late).journal = s.journal ∧ (s.convStart i g late).faults = s.faults ∧
    (s.convStart i g late).duplex = s.duplex ∧ (s.convStart i g late).gl = s.gl ∧
    (s.convStart i g late).aux = s.aux ∧ (s.convStart i g late).field = s.field ∧
    (s.convStart i g late).safe = s.safe ∧ (s.convStart i g late).clock = s.clock ∧
    (s.convStart i g late).grp = s.grp ∧ (s.convStart i g late).sec = s.sec ∧
    (s.convStart i g late).power = s.power := by
  simp [State.convStart]

end Sys2Proof.Machine
end

