-- ==== Sys2Proof/Laws/PwmFrames.lean ====
section
/-! SUPPORT. What the operations of Machine/Pwm.lean leave alone: for each, the parts of the state that it keeps. -/
namespace Sys2Proof.Machine

@[simp] theorem State.startCarriers_frame (s : State) :
    s.startCarriers.pending = s.pending ∧ s.startCarriers.now = s.now ∧ s.startCarriers.free = s.free ∧
    s.startCarriers.readData = s.readData ∧ s.startCarriers.regs = s.regs ∧ s.startCarriers.mirror = s.mirror ∧
    s.startCarriers.host = s.host ∧ s.startCarriers.eic = s.eic ∧ s.startCarriers.journal = s.journal ∧
    s.startCarriers.faults = s.faults ∧ s.startCarriers.duplex = s.duplex ∧ s.startCarriers.gl = s.gl ∧
    s.startCarriers.aux = s.aux ∧ s.startCarriers.field = s.field ∧ s.startCarriers.safe = s.safe ∧
    s.startCarriers.clock = s.clock ∧ s.startCarriers.grp = s.grp ∧ s.startCarriers.sec = s.sec ∧
    s.startCarriers.power = s.power ∧ s.startCarriers.mod.tally = s.mod.tally := by
  simp [State.startCarriers]

@[simp] theorem State.buildSet_frame (s : State) (i : LaneId) (k : Nat) :
    (s.buildSet i k).pending = s.pending ∧ (s.buildSet i k).now = s.now ∧ (s.buildSet i k).free = s.free ∧
    (s.buildSet i k).readData = s.readData ∧ (s.buildSet i k).mirror = s.mirror ∧ (s.buildSet i k).mod = s.mod ∧
    (s.buildSet i k).host = s.host ∧ (s.buildSet i k).journal = s.journal ∧ (s.buildSet i k).faults = s.faults ∧
    (s.buildSet i k).gl = s.gl ∧ (s.buildSet i k).aux = s.aux ∧ (s.buildSet i k).field = s.field ∧
    (s.buildSet i k).safe = s.safe ∧ (s.buildSet i k).clock = s.clock ∧ (s.buildSet i k).grp = s.grp ∧
    (s.buildSet i k).sec = s.sec ∧ (s.buildSet i k).power = s.power := by
  simp [State.buildSet]

end Sys2Proof.Machine
end

