-- ==== Sys2Proof/Laws/EdgeSetFrames.lean ====
section
/-! SUPPORT. What the operations of Machine/EdgeSet.lean leave alone: for each, the parts of the state that it keeps. -/
namespace Sys2Proof.Machine

@[simp] theorem State.countCorr_frame (s : State) (t : Nat) (n : List Nat) :
    (s.countCorr t n).pending = s.pending ∧ (s.countCorr t n).now = s.now ∧ (s.countCorr t n).free = s.free ∧
    (s.countCorr t n).readData = s.readData ∧ (s.countCorr t n).mirror = s.mirror ∧
    (s.countCorr t n).laneA = s.laneA ∧ (s.countCorr t n).laneB = s.laneB ∧ (s.countCorr t n).mod = s.mod ∧
    (s.countCorr t n).host = s.host ∧ (s.countCorr t n).eic = s.eic ∧ (s.countCorr t n).journal = s.journal ∧
    (s.countCorr t n).duplex = s.duplex ∧ (s.countCorr t n).gl = s.gl ∧ (s.countCorr t n).aux = s.aux ∧
    (s.countCorr t n).field = s.field ∧ (s.countCorr t n).safe = s.safe ∧ (s.countCorr t n).clock = s.clock ∧
    (s.countCorr t n).grp = s.grp ∧ (s.countCorr t n).sec = s.sec ∧ (s.countCorr t n).power = s.power := by
  simp [State.countCorr]

@[simp] theorem State.checkCorr_frame (s : State) :
    s.checkCorr.pending = s.pending ∧ s.checkCorr.now = s.now ∧ s.checkCorr.free = s.free ∧
    s.checkCorr.readData = s.readData ∧ s.checkCorr.mirror = s.mirror ∧ s.checkCorr.host = s.host ∧
    s.checkCorr.clock = s.clock ∧ s.checkCorr.grp = s.grp ∧ s.checkCorr.sec = s.sec ∧
    s.checkCorr.mod.tally = s.mod.tally := by
  simp [State.checkCorr]

@[simp] theorem State.driveLine_frame (s : State) (leg : Nat) (on : List Bool) (edges later : List Edge) :
    (s.driveLine leg on edges later).pending = s.pending ∧ (s.driveLine leg on edges later).now = s.now ∧
    (s.driveLine leg on edges later).free = s.free ∧ (s.driveLine leg on edges later).readData = s.readData ∧
    (s.driveLine leg on edges later).regs = s.regs ∧ (s.driveLine leg on edges later).mirror = s.mirror ∧
    (s.driveLine leg on edges later).laneA = s.laneA ∧ (s.driveLine leg on edges later).laneB = s.laneB ∧
    (s.driveLine leg on edges later).mod = s.mod ∧ (s.driveLine leg on edges later).host = s.host ∧
    (s.driveLine leg on edges later).eic = s.eic ∧ (s.driveLine leg on edges later).journal = s.journal ∧
    (s.driveLine leg on edges later).faults = s.faults ∧ (s.driveLine leg on edges later).duplex = s.duplex ∧
    (s.driveLine leg on edges later).aux = s.aux ∧ (s.driveLine leg on edges later).field = s.field ∧
    (s.driveLine leg on edges later).safe = s.safe ∧ (s.driveLine leg on edges later).clock = s.clock ∧
    (s.driveLine leg on edges later).grp = s.grp ∧ (s.driveLine leg on edges later).sec = s.sec ∧
    (s.driveLine leg on edges later).power = s.power := by
  simp [State.driveLine]

@[simp] theorem State.sendEdges_frame (s : State) (leg : Nat) (on : List Bool) (edges later : List Edge) :
    (s.sendEdges leg on edges later).pending = s.pending ∧ (s.sendEdges leg on edges later).now = s.now ∧
    (s.sendEdges leg on edges later).free = s.free ∧ (s.sendEdges leg on edges later).readData = s.readData ∧
    (s.sendEdges leg on edges later).mirror = s.mirror ∧ (s.sendEdges leg on edges later).host = s.host ∧
    (s.sendEdges leg on edges later).clock = s.clock ∧ (s.sendEdges leg on edges later).grp = s.grp ∧
    (s.sendEdges leg on edges later).sec = s.sec ∧ (s.sendEdges leg on edges later).mod.tally = s.mod.tally := by
  simp [State.sendEdges]

@[simp] theorem State.forward_frame (s : State) (set extra : List Edge) (start len : Nat) :
    (s.forward set extra start len).pending = s.pending ∧ (s.forward set extra start len).now = s.now ∧
    (s.forward set extra start len).free = s.free ∧ (s.forward set extra start len).readData = s.readData ∧
    (s.forward set extra start len).mirror = s.mirror ∧ (s.forward set extra start len).host = s.host ∧
    (s.forward set extra start len).clock = s.clock ∧ (s.forward set extra start len).grp = s.grp ∧
    (s.forward set extra start len).sec = s.sec ∧ (s.forward set extra start len).mod.tally = s.mod.tally := by
  simp [State.forward]

end Sys2Proof.Machine
end

