-- ==== Sys2Proof/Laws/LanesFrames.lean ====
section
/-! SUPPORT. What the operations of Machine/Lanes.lean leave alone: for each, the parts of the state that it keeps. -/
namespace Sys2Proof.Machine

@[simp] theorem State.takeover_frame (s : State) (i : LaneId) (on : Bool) :
    (s.takeover i on).pending = s.pending ∧ (s.takeover i on).now = s.now ∧ (s.takeover i on).free = s.free ∧
    (s.takeover i on).readData = s.readData ∧ (s.takeover i on).mirror = s.mirror ∧ (s.takeover i on).mod = s.mod ∧
    (s.takeover i on).host = s.host ∧ (s.takeover i on).journal = s.journal ∧ (s.takeover i on).faults = s.faults ∧
    (s.takeover i on).duplex = s.duplex ∧ (s.takeover i on).gl = s.gl ∧ (s.takeover i on).aux = s.aux ∧
    (s.takeover i on).field = s.field ∧ (s.takeover i on).clock = s.clock ∧ (s.takeover i on).grp = s.grp ∧
    (s.takeover i on).sec = s.sec ∧ (s.takeover i on).power = s.power := by
  simp only [State.takeover]
  (repeat' split) <;> simp

@[simp] theorem State.updSingle_frame (s : State) :
    s.updSingle.pending = s.pending ∧ s.updSingle.now = s.now ∧ s.updSingle.free = s.free ∧
    s.updSingle.readData = s.readData ∧ s.updSingle.mirror = s.mirror ∧ s.updSingle.laneA = s.laneA ∧
    s.updSingle.laneB = s.laneB ∧ s.updSingle.mod = s.mod ∧ s.updSingle.host = s.host ∧ s.updSingle.eic = s.eic ∧
    s.updSingle.journal = s.journal ∧ s.updSingle.faults = s.faults ∧ s.updSingle.duplex = s.duplex ∧
    s.updSingle.gl = s.gl ∧ s.updSingle.aux = s.aux ∧ s.updSingle.field = s.field ∧ s.updSingle.safe = s.safe ∧
    s.updSingle.clock = s.clock ∧ s.updSingle.grp = s.grp ∧ s.updSingle.sec = s.sec ∧
    s.updSingle.power = s.power := by
  simp [State.updSingle]

@[simp] theorem State.laneReset_frame (s : State) (i : LaneId) (kind : Nat) :
    (s.laneReset i kind).pending = s.pending ∧ (s.laneReset i kind).now = s.now ∧
    (s.laneReset i kind).readData = s.readData ∧ (s.laneReset i kind).mirror = s.mirror ∧
    (s.laneReset i kind).host = s.host ∧ (s.laneReset i kind).clock = s.clock ∧ (s.laneReset i kind).grp = s.grp ∧
    (s.laneReset i kind).mod.tally = s.mod.tally ∧ (s.laneReset i kind).sec.identity = s.sec.identity := by
  simp [State.laneReset]

@[simp] theorem State.release_frame (s : State) (w : Withheld) :
    (s.release w).pending = s.pending ∧ (s.release w).now = s.now ∧ (s.release w).free = s.free ∧
    (s.release w).readData = s.readData ∧ (s.release w).mirror = s.mirror ∧ (s.release w).faults = s.faults ∧
    (s.release w).duplex = s.duplex ∧ (s.release w).gl = s.gl ∧ (s.release w).aux = s.aux ∧
    (s.release w).field = s.field ∧ (s.release w).clock = s.clock ∧ (s.release w).grp = s.grp ∧
    (s.release w).sec = s.sec ∧ (s.release w).power = s.power ∧ (s.release w).mod.tally = s.mod.tally := by
  simp only [State.release]
  (repeat' split) <;> simp

@[simp] theorem State.startHold_frame (s : State) :
    s.startHold.pending = s.pending ∧ s.startHold.now = s.now ∧ s.startHold.free = s.free ∧
    s.startHold.readData = s.readData ∧ s.startHold.mirror = s.mirror ∧ s.startHold.host = s.host ∧
    s.startHold.faults = s.faults ∧ s.startHold.gl = s.gl ∧ s.startHold.aux = s.aux ∧ s.startHold.field = s.field ∧
    s.startHold.clock = s.clock ∧ s.startHold.grp = s.grp ∧ s.startHold.sec = s.sec ∧ s.startHold.power = s.power ∧
    s.startHold.mod.tally = s.mod.tally := by
  simp [State.startHold]

@[simp] theorem State.updRepeats_frame (s : State) :
    s.updRepeats.pending = s.pending ∧ s.updRepeats.now = s.now ∧ s.updRepeats.free = s.free ∧
    s.updRepeats.readData = s.readData ∧ s.updRepeats.mirror = s.mirror ∧ s.updRepeats.laneA = s.laneA ∧
    s.updRepeats.laneB = s.laneB ∧ s.updRepeats.mod = s.mod ∧ s.updRepeats.host = s.host ∧
    s.updRepeats.eic = s.eic ∧ s.updRepeats.journal = s.journal ∧ s.updRepeats.faults = s.faults ∧
    s.updRepeats.gl = s.gl ∧ s.updRepeats.aux = s.aux ∧ s.updRepeats.field = s.field ∧ s.updRepeats.safe = s.safe ∧
    s.updRepeats.clock = s.clock ∧ s.updRepeats.grp = s.grp ∧ s.updRepeats.sec = s.sec ∧
    s.updRepeats.power = s.power := by
  simp [State.updRepeats]

@[simp] theorem State.verdictDraw_frame (s : State) :
    s.verdictDraw.pending = s.pending ∧ s.verdictDraw.now = s.now ∧ s.verdictDraw.free = s.free ∧
    s.verdictDraw.readData = s.readData ∧ s.verdictDraw.mirror = s.mirror ∧ s.verdictDraw.host = s.host ∧
    s.verdictDraw.clock = s.clock ∧ s.verdictDraw.grp = s.grp ∧ s.verdictDraw.sec = s.sec ∧
    s.verdictDraw.mod.tally = s.mod.tally := by
  simp [State.verdictDraw]

@[simp] theorem State.startCopy_frame (s : State) :
    s.startCopy.pending = s.pending ∧ s.startCopy.now = s.now ∧ s.startCopy.free = s.free ∧
    s.startCopy.readData = s.readData ∧ s.startCopy.regs = s.regs ∧ s.startCopy.mirror = s.mirror ∧
    s.startCopy.laneA = s.laneA ∧ s.startCopy.laneB = s.laneB ∧ s.startCopy.mod = s.mod ∧
    s.startCopy.host = s.host ∧ s.startCopy.eic = s.eic ∧ s.startCopy.journal = s.journal ∧
    s.startCopy.faults = s.faults ∧ s.startCopy.gl = s.gl ∧ s.startCopy.aux = s.aux ∧ s.startCopy.field = s.field ∧
    s.startCopy.safe = s.safe ∧ s.startCopy.clock = s.clock ∧ s.startCopy.grp = s.grp ∧ s.startCopy.sec = s.sec ∧
    s.startCopy.power = s.power := by
  simp [State.startCopy]

@[simp] theorem State.accept_frame (s : State) (set : Option (List Edge)) (start len : Nat) :
    (s.accept set start len).pending = s.pending ∧ (s.accept set start len).now = s.now ∧
    (s.accept set start len).free = s.free ∧ (s.accept set start len).readData = s.readData ∧
    (s.accept set start len).mirror = s.mirror ∧ (s.accept set start len).host = s.host ∧
    (s.accept set start len).clock = s.clock ∧ (s.accept set start len).grp = s.grp ∧
    (s.accept set start len).sec = s.sec ∧ (s.accept set start len).mod.tally = s.mod.tally := by
  simp [State.accept]

@[simp] theorem State.renewRegion_frame (s : State) :
    s.renewRegion.pending = s.pending ∧ s.renewRegion.now = s.now ∧ s.renewRegion.readData = s.readData ∧
    s.renewRegion.mirror = s.mirror ∧ s.renewRegion.laneA = s.laneA ∧ s.renewRegion.laneB = s.laneB ∧
    s.renewRegion.mod = s.mod ∧ s.renewRegion.host = s.host ∧ s.renewRegion.eic = s.eic ∧
    s.renewRegion.journal = s.journal ∧ s.renewRegion.faults = s.faults ∧ s.renewRegion.duplex = s.duplex ∧
    s.renewRegion.gl = s.gl ∧ s.renewRegion.aux = s.aux ∧ s.renewRegion.field = s.field ∧
    s.renewRegion.safe = s.safe ∧ s.renewRegion.clock = s.clock ∧ s.renewRegion.grp = s.grp ∧
    s.renewRegion.sec = s.sec ∧ s.renewRegion.power = s.power := by
  simp only [State.renewRegion]
  (repeat' split) <;> simp

@[simp] theorem State.failSlot_frame (s : State) (t b : Nat) :
    (s.failSlot t b).pending = s.pending ∧ (s.failSlot t b).now = s.now ∧ (s.failSlot t b).free = s.free ∧
    (s.failSlot t b).readData = s.readData ∧ (s.failSlot t b).mirror = s.mirror ∧ (s.failSlot t b).laneA = s.laneA ∧
    (s.failSlot t b).laneB = s.laneB ∧ (s.failSlot t b).mod = s.mod ∧ (s.failSlot t b).host = s.host ∧
    (s.failSlot t b).eic = s.eic ∧ (s.failSlot t b).journal = s.journal ∧ (s.failSlot t b).faults = s.faults ∧
    (s.failSlot t b).duplex = s.duplex ∧ (s.failSlot t b).gl = s.gl ∧ (s.failSlot t b).aux = s.aux ∧
    (s.failSlot t b).field = s.field ∧ (s.failSlot t b).safe = s.safe ∧ (s.failSlot t b).clock = s.clock ∧
    (s.failSlot t b).grp = s.grp ∧ (s.failSlot t b).sec = s.sec ∧ (s.failSlot t b).power = s.power := by
  simp [State.failSlot]

@[simp] theorem State.setLaneState_frame (s : State) (i : LaneId) (new cause : Nat) :
    (s.setLaneState i new cause).pending = s.pending ∧ (s.setLaneState i new cause).now = s.now ∧
    (s.setLaneState i new cause).free = s.free ∧ (s.setLaneState i new cause).readData = s.readData ∧
    (s.setLaneState i new cause).mirror = s.mirror ∧ (s.setLaneState i new cause).mod = s.mod ∧
    (s.setLaneState i new cause).duplex = s.duplex ∧ (s.setLaneState i new cause).gl = s.gl ∧
    (s.setLaneState i new cause).aux = s.aux ∧ (s.setLaneState i new cause).field = s.field ∧
    (s.setLaneState i new cause).clock = s.clock ∧ (s.setLaneState i new cause).grp = s.grp ∧
    (s.setLaneState i new cause).sec = s.sec ∧ (s.setLaneState i new cause).power = s.power := by
  simp [State.setLaneState]

@[simp] theorem State.releaseHeld_frame (s : State) :
    s.releaseHeld.pending = s.pending ∧ s.releaseHeld.now = s.now ∧ s.releaseHeld.free = s.free ∧
    s.releaseHeld.readData = s.readData ∧ s.releaseHeld.mirror = s.mirror ∧ s.releaseHeld.faults = s.faults ∧
    s.releaseHeld.gl = s.gl ∧ s.releaseHeld.aux = s.aux ∧ s.releaseHeld.field = s.field ∧
    s.releaseHeld.clock = s.clock ∧ s.releaseHeld.grp = s.grp ∧ s.releaseHeld.sec = s.sec ∧
    s.releaseHeld.power = s.power ∧ s.releaseHeld.mod.tally = s.mod.tally := by
  simp [State.releaseHeld]

@[simp] theorem State.mismatch_frame (s : State) (d : Diff) :
    (s.mismatch d).pending = s.pending ∧ (s.mismatch d).now = s.now ∧ (s.mismatch d).free = s.free ∧
    (s.mismatch d).readData = s.readData ∧ (s.mismatch d).mirror = s.mirror ∧ (s.mismatch d).host = s.host ∧
    (s.mismatch d).faults = s.faults ∧ (s.mismatch d).gl = s.gl ∧ (s.mismatch d).aux = s.aux ∧
    (s.mismatch d).field = s.field ∧ (s.mismatch d).clock = s.clock ∧ (s.mismatch d).grp = s.grp ∧
    (s.mismatch d).sec = s.sec ∧ (s.mismatch d).power = s.power ∧ (s.mismatch d).mod.tally = s.mod.tally := by
  simp [State.mismatch]

@[simp] theorem State.startRestart_frame (s : State) (i : LaneId) :
    (s.startRestart i).pending = s.pending ∧ (s.startRestart i).now = s.now ∧
    (s.startRestart i).readData = s.readData ∧ (s.startRestart i).mirror = s.mirror ∧
    (s.startRestart i).host = s.host ∧ (s.startRestart i).clock = s.clock ∧ (s.startRestart i).grp = s.grp ∧
    (s.startRestart i).mod.tally = s.mod.tally ∧ (s.startRestart i).sec.identity = s.sec.identity := by
  simp [State.startRestart]

@[simp] theorem State.bootFail_frame (s : State) :
    s.bootFail.pending = s.pending ∧ s.bootFail.now = s.now ∧ s.bootFail.free = s.free ∧
    s.bootFail.readData = s.readData ∧ s.bootFail.mirror = s.mirror ∧ s.bootFail.laneA = s.laneA ∧
    s.bootFail.laneB = s.laneB ∧ s.bootFail.host = s.host ∧ s.bootFail.eic = s.eic ∧
    s.bootFail.journal = s.journal ∧ s.bootFail.faults = s.faults ∧ s.bootFail.duplex = s.duplex ∧
    s.bootFail.gl = s.gl ∧ s.bootFail.aux = s.aux ∧ s.bootFail.field = s.field ∧ s.bootFail.safe = s.safe ∧
    s.bootFail.clock = s.clock ∧ s.bootFail.grp = s.grp ∧ s.bootFail.sec = s.sec ∧ s.bootFail.power = s.power ∧
    s.bootFail.mod.tally = s.mod.tally := by
  simp [State.bootFail]

@[simp] theorem State.endHold_frame (s : State) :
    s.endHold.pending = s.pending ∧ s.endHold.now = s.now ∧ s.endHold.free = s.free ∧
    s.endHold.readData = s.readData ∧ s.endHold.mirror = s.mirror ∧ s.endHold.faults = s.faults ∧
    s.endHold.gl = s.gl ∧ s.endHold.aux = s.aux ∧ s.endHold.field = s.field ∧ s.endHold.clock = s.clock ∧
    s.endHold.grp = s.grp ∧ s.endHold.sec = s.sec ∧ s.endHold.power = s.power ∧
    s.endHold.mod.tally = s.mod.tally := by
  simp [State.endHold]

@[simp] theorem State.survive_frame (s : State) (i : LaneId) :
    (s.survive i).pending = s.pending ∧ (s.survive i).now = s.now ∧ (s.survive i).free = s.free ∧
    (s.survive i).readData = s.readData ∧ (s.survive i).mirror = s.mirror ∧ (s.survive i).gl = s.gl ∧
    (s.survive i).aux = s.aux ∧ (s.survive i).field = s.field ∧ (s.survive i).clock = s.clock ∧
    (s.survive i).grp = s.grp ∧ (s.survive i).sec = s.sec ∧ (s.survive i).power = s.power ∧
    (s.survive i).mod.tally = s.mod.tally := by
  simp [State.survive]

@[simp] theorem State.retire_frame (s : State) (i : LaneId) (cause : Nat) :
    (s.retire i cause).pending = s.pending ∧ (s.retire i cause).now = s.now ∧ (s.retire i cause).free = s.free ∧
    (s.retire i cause).readData = s.readData ∧ (s.retire i cause).mirror = s.mirror ∧ (s.retire i cause).gl = s.gl ∧
    (s.retire i cause).aux = s.aux ∧ (s.retire i cause).field = s.field ∧ (s.retire i cause).clock = s.clock ∧
    (s.retire i cause).grp = s.grp ∧ (s.retire i cause).sec = s.sec ∧ (s.retire i cause).power = s.power ∧
    (s.retire i cause).mod.tally = s.mod.tally := by
  simp [State.retire]

@[simp] theorem State.roleChange_frame (s : State) (r : LaneId × Nat) :
    (s.roleChange r).pending = s.pending ∧ (s.roleChange r).now = s.now ∧ (s.roleChange r).free = s.free ∧
    (s.roleChange r).readData = s.readData ∧ (s.roleChange r).mirror = s.mirror ∧ (s.roleChange r).mod = s.mod ∧
    (s.roleChange r).duplex = s.duplex ∧ (s.roleChange r).gl = s.gl ∧ (s.roleChange r).aux = s.aux ∧
    (s.roleChange r).field = s.field ∧ (s.roleChange r).clock = s.clock ∧ (s.roleChange r).grp = s.grp ∧
    (s.roleChange r).sec = s.sec ∧ (s.roleChange r).power = s.power := by
  simp [State.roleChange]

@[simp] theorem State.promote_frame (s : State) :
    s.promote.pending = s.pending ∧ s.promote.now = s.now ∧ s.promote.free = s.free ∧
    s.promote.readData = s.readData ∧ s.promote.mirror = s.mirror ∧ s.promote.duplex = s.duplex ∧
    s.promote.gl = s.gl ∧ s.promote.aux = s.aux ∧ s.promote.field = s.field ∧ s.promote.clock = s.clock ∧
    s.promote.grp = s.grp ∧ s.promote.sec = s.sec ∧ s.promote.power = s.power ∧
    s.promote.mod.tally = s.mod.tally := by
  simp [State.promote]

@[simp] theorem State.applyVerdict_frame (s : State) :
    s.applyVerdict.pending = s.pending ∧ s.applyVerdict.now = s.now ∧ s.applyVerdict.free = s.free ∧
    s.applyVerdict.readData = s.readData ∧ s.applyVerdict.mirror = s.mirror ∧ s.applyVerdict.clock = s.clock ∧
    s.applyVerdict.grp = s.grp ∧ s.applyVerdict.sec = s.sec ∧ s.applyVerdict.mod.tally = s.mod.tally := by
  simp [State.applyVerdict]

@[simp] theorem State.laneControl_frame (s : State) (i : LaneId) (action : Nat) :
    (s.laneControl i action).pending = s.pending ∧ (s.laneControl i action).now = s.now ∧
    (s.laneControl i action).readData = s.readData ∧ (s.laneControl i action).mirror = s.mirror ∧
    (s.laneControl i action).clock = s.clock ∧ (s.laneControl i action).grp = s.grp ∧
    (s.laneControl i action).mod.tally = s.mod.tally ∧ (s.laneControl i action).sec.identity = s.sec.identity := by
  simp only [State.laneControl]
  (repeat' split) <;> simp

@[simp] theorem State.cutRequest_frame (s : State) :
    s.cutRequest.pending = s.pending ∧ s.cutRequest.now = s.now ∧ s.cutRequest.free = s.free ∧
    s.cutRequest.readData = s.readData ∧ s.cutRequest.mirror = s.mirror ∧ s.cutRequest.mod = s.mod ∧
    s.cutRequest.gl = s.gl ∧ s.cutRequest.aux = s.aux ∧ s.cutRequest.field = s.field ∧
    s.cutRequest.clock = s.clock ∧ s.cutRequest.grp = s.grp ∧ s.cutRequest.sec = s.sec ∧
    s.cutRequest.power = s.power := by
  simp [State.cutRequest]

@[simp] theorem State.compareResync_frame (s : State) (o : LaneId) (d : Option Diff) :
    (s.compareResync o d).pending = s.pending ∧ (s.compareResync o d).now = s.now ∧
    (s.compareResync o d).free = s.free ∧ (s.compareResync o d).readData = s.readData ∧
    (s.compareResync o d).mirror = s.mirror ∧ (s.compareResync o d).gl = s.gl ∧ (s.compareResync o d).aux = s.aux ∧
    (s.compareResync o d).field = s.field ∧ (s.compareResync o d).clock = s.clock ∧
    (s.compareResync o d).grp = s.grp ∧ (s.compareResync o d).sec = s.sec ∧ (s.compareResync o d).power = s.power ∧
    (s.compareResync o d).mod.tally = s.mod.tally := by
  simp only [State.compareResync]
  (repeat' split) <;> simp

@[simp] theorem State.applyCopies_frame (s : State) (copy : CopyResult) :
    (s.applyCopies copy).pending = s.pending ∧ (s.applyCopies copy).now = s.now ∧
    (s.applyCopies copy).free = s.free ∧ (s.applyCopies copy).readData = s.readData ∧
    (s.applyCopies copy).mirror = s.mirror ∧ (s.applyCopies copy).gl = s.gl ∧ (s.applyCopies copy).aux = s.aux ∧
    (s.applyCopies copy).field = s.field ∧ (s.applyCopies copy).clock = s.clock ∧ (s.applyCopies copy).grp = s.grp ∧
    (s.applyCopies copy).sec = s.sec ∧ (s.applyCopies copy).power = s.power ∧
    (s.applyCopies copy).mod.tally = s.mod.tally := by
  simp only [State.applyCopies]
  (repeat' split) <;> simp

@[simp] theorem State.cutVerdict_frame (s : State) :
    s.cutVerdict.pending = s.pending ∧ s.cutVerdict.now = s.now ∧ s.cutVerdict.free = s.free ∧
    s.cutVerdict.readData = s.readData ∧ s.cutVerdict.mirror = s.mirror ∧ s.cutVerdict.clock = s.clock ∧
    s.cutVerdict.grp = s.grp ∧ s.cutVerdict.sec = s.sec ∧ s.cutVerdict.mod.tally = s.mod.tally := by
  simp [State.cutVerdict]

@[simp] theorem State.lateVerdict_frame (s : State) :
    s.lateVerdict.pending = s.pending ∧ s.lateVerdict.now = s.now ∧ s.lateVerdict.free = s.free ∧
    s.lateVerdict.readData = s.readData ∧ s.lateVerdict.mirror = s.mirror ∧ s.lateVerdict.clock = s.clock ∧
    s.lateVerdict.grp = s.grp ∧ s.lateVerdict.sec = s.sec ∧ s.lateVerdict.mod.tally = s.mod.tally := by
  simp [State.lateVerdict]

end Sys2Proof.Machine
end

