-- ==== Sys2Proof/Laws/GroupFrames.lean ====
section
/-! SUPPORT. What the operations of Machine/Group.lean leave alone: for each, the parts of the state that it keeps. -/
namespace Sys2Proof.Machine

@[simp] theorem State.grpSend_frame (s : State) (f : GrpFrame) :
    (s.grpSend f).pending = s.pending ∧ (s.grpSend f).now = s.now ∧ (s.grpSend f).free = s.free ∧
    (s.grpSend f).readData = s.readData ∧ (s.grpSend f).regs = s.regs ∧ (s.grpSend f).mirror = s.mirror ∧
    (s.grpSend f).laneA = s.laneA ∧ (s.grpSend f).laneB = s.laneB ∧ (s.grpSend f).mod = s.mod ∧
    (s.grpSend f).host = s.host ∧ (s.grpSend f).eic = s.eic ∧ (s.grpSend f).journal = s.journal ∧
    (s.grpSend f).faults = s.faults ∧ (s.grpSend f).duplex = s.duplex ∧ (s.grpSend f).gl = s.gl ∧
    (s.grpSend f).aux = s.aux ∧ (s.grpSend f).field = s.field ∧ (s.grpSend f).safe = s.safe ∧
    (s.grpSend f).clock = s.clock ∧ (s.grpSend f).sec = s.sec ∧ (s.grpSend f).power = s.power := by
  simp [State.grpSend]

@[simp] theorem State.grpEvent_frame (s : State) (code id : Nat) :
    (s.grpEvent code id).pending = s.pending ∧ (s.grpEvent code id).now = s.now ∧
    (s.grpEvent code id).free = s.free ∧ (s.grpEvent code id).readData = s.readData ∧
    (s.grpEvent code id).mirror = s.mirror ∧ (s.grpEvent code id).mod = s.mod ∧ (s.grpEvent code id).host = s.host ∧
    (s.grpEvent code id).faults = s.faults ∧ (s.grpEvent code id).duplex = s.duplex ∧
    (s.grpEvent code id).gl = s.gl ∧ (s.grpEvent code id).aux = s.aux ∧ (s.grpEvent code id).field = s.field ∧
    (s.grpEvent code id).safe = s.safe ∧ (s.grpEvent code id).clock = s.clock ∧ (s.grpEvent code id).grp = s.grp ∧
    (s.grpEvent code id).sec = s.sec ∧ (s.grpEvent code id).power = s.power := by
  simp [State.grpEvent]

@[simp] theorem State.startForming_frame (s : State) :
    s.startForming.pending = s.pending ∧ s.startForming.now = s.now ∧ s.startForming.free = s.free ∧
    s.startForming.readData = s.readData ∧ s.startForming.mirror = s.mirror ∧ s.startForming.laneA = s.laneA ∧
    s.startForming.laneB = s.laneB ∧ s.startForming.mod = s.mod ∧ s.startForming.host = s.host ∧
    s.startForming.eic = s.eic ∧ s.startForming.journal = s.journal ∧ s.startForming.faults = s.faults ∧
    s.startForming.duplex = s.duplex ∧ s.startForming.gl = s.gl ∧ s.startForming.aux = s.aux ∧
    s.startForming.field = s.field ∧ s.startForming.safe = s.safe ∧ s.startForming.clock = s.clock ∧
    s.startForming.sec = s.sec ∧ s.startForming.power = s.power := by
  simp [State.startForming]

@[simp] theorem State.grpTally_frame (s : State) :
    s.grpTally.pending = s.pending ∧ s.grpTally.now = s.now ∧ s.grpTally.free = s.free ∧
    s.grpTally.readData = s.readData ∧ s.grpTally.regs = s.regs ∧ s.grpTally.mirror = s.mirror ∧
    s.grpTally.laneA = s.laneA ∧ s.grpTally.laneB = s.laneB ∧ s.grpTally.host = s.host ∧ s.grpTally.eic = s.eic ∧
    s.grpTally.journal = s.journal ∧ s.grpTally.faults = s.faults ∧ s.grpTally.duplex = s.duplex ∧
    s.grpTally.gl = s.gl ∧ s.grpTally.aux = s.aux ∧ s.grpTally.field = s.field ∧ s.grpTally.safe = s.safe ∧
    s.grpTally.clock = s.clock ∧ s.grpTally.sec = s.sec ∧ s.grpTally.power = s.power := by
  simp only [State.grpTally]
  (repeat' split) <;> simp

@[simp] theorem State.scheduleStart_frame (s : State) (units : BitVec 4) (at_ : DWord) :
    (s.scheduleStart units at_).pending = s.pending ∧ (s.scheduleStart units at_).now = s.now ∧
    (s.scheduleStart units at_).free = s.free ∧ (s.scheduleStart units at_).readData = s.readData ∧
    (s.scheduleStart units at_).regs = s.regs ∧ (s.scheduleStart units at_).mirror = s.mirror ∧
    (s.scheduleStart units at_).mod = s.mod ∧ (s.scheduleStart units at_).host = s.host ∧
    (s.scheduleStart units at_).eic = s.eic ∧ (s.scheduleStart units at_).journal = s.journal ∧
    (s.scheduleStart units at_).faults = s.faults ∧ (s.scheduleStart units at_).duplex = s.duplex ∧
    (s.scheduleStart units at_).gl = s.gl ∧ (s.scheduleStart units at_).aux = s.aux ∧
    (s.scheduleStart units at_).field = s.field ∧ (s.scheduleStart units at_).safe = s.safe ∧
    (s.scheduleStart units at_).clock = s.clock ∧ (s.scheduleStart units at_).grp = s.grp ∧
    (s.scheduleStart units at_).sec = s.sec ∧ (s.scheduleStart units at_).power = s.power := by
  simp [State.scheduleStart]

@[simp] theorem State.sendAnnounce_frame (s : State) :
    s.sendAnnounce.pending = s.pending ∧ s.sendAnnounce.now = s.now ∧ s.sendAnnounce.free = s.free ∧
    s.sendAnnounce.readData = s.readData ∧ s.sendAnnounce.regs = s.regs ∧ s.sendAnnounce.mirror = s.mirror ∧
    s.sendAnnounce.laneA = s.laneA ∧ s.sendAnnounce.laneB = s.laneB ∧ s.sendAnnounce.mod = s.mod ∧
    s.sendAnnounce.host = s.host ∧ s.sendAnnounce.eic = s.eic ∧ s.sendAnnounce.journal = s.journal ∧
    s.sendAnnounce.faults = s.faults ∧ s.sendAnnounce.duplex = s.duplex ∧ s.sendAnnounce.gl = s.gl ∧
    s.sendAnnounce.aux = s.aux ∧ s.sendAnnounce.field = s.field ∧ s.sendAnnounce.safe = s.safe ∧
    s.sendAnnounce.clock = s.clock ∧ s.sendAnnounce.sec = s.sec ∧ s.sendAnnounce.power = s.power := by
  simp [State.sendAnnounce]

@[simp] theorem State.exclude_frame (s : State) (cause : Nat) :
    (s.exclude cause).pending = s.pending ∧ (s.exclude cause).now = s.now ∧ (s.exclude cause).free = s.free ∧
    (s.exclude cause).readData = s.readData ∧ (s.exclude cause).mirror = s.mirror ∧ (s.exclude cause).mod = s.mod ∧
    (s.exclude cause).host = s.host ∧ (s.exclude cause).faults = s.faults ∧ (s.exclude cause).duplex = s.duplex ∧
    (s.exclude cause).gl = s.gl ∧ (s.exclude cause).aux = s.aux ∧ (s.exclude cause).field = s.field ∧
    (s.exclude cause).safe = s.safe ∧ (s.exclude cause).clock = s.clock ∧ (s.exclude cause).sec = s.sec ∧
    (s.exclude cause).power = s.power := by
  simp [State.exclude]

@[simp] theorem State.grpAhead_frame (s : State) :
    s.grpAhead.pending = s.pending ∧ s.grpAhead.now = s.now ∧ s.grpAhead.free = s.free ∧
    s.grpAhead.readData = s.readData ∧ s.grpAhead.mirror = s.mirror ∧ s.grpAhead.mod = s.mod ∧
    s.grpAhead.host = s.host ∧ s.grpAhead.faults = s.faults ∧ s.grpAhead.duplex = s.duplex ∧ s.grpAhead.gl = s.gl ∧
    s.grpAhead.aux = s.aux ∧ s.grpAhead.field = s.field ∧ s.grpAhead.safe = s.safe ∧ s.grpAhead.clock = s.clock ∧
    s.grpAhead.sec = s.sec ∧ s.grpAhead.power = s.power := by
  simp only [State.grpAhead]
  (repeat' split) <;> simp

@[simp] theorem State.grpBoundary_frame (s : State) :
    s.grpBoundary.pending = s.pending ∧ s.grpBoundary.now = s.now ∧ s.grpBoundary.free = s.free ∧
    s.grpBoundary.readData = s.readData ∧ s.grpBoundary.mirror = s.mirror ∧ s.grpBoundary.mod = s.mod ∧
    s.grpBoundary.host = s.host ∧ s.grpBoundary.faults = s.faults ∧ s.grpBoundary.duplex = s.duplex ∧
    s.grpBoundary.gl = s.gl ∧ s.grpBoundary.aux = s.aux ∧ s.grpBoundary.field = s.field ∧
    s.grpBoundary.safe = s.safe ∧ s.grpBoundary.clock = s.clock ∧ s.grpBoundary.sec = s.sec ∧
    s.grpBoundary.power = s.power := by
  simp only [State.grpBoundary]
  (repeat' split) <;> simp

@[simp] theorem State.leaveGroup_frame (s : State) :
    s.leaveGroup.pending = s.pending ∧ s.leaveGroup.now = s.now ∧ s.leaveGroup.free = s.free ∧
    s.leaveGroup.readData = s.readData ∧ s.leaveGroup.mirror = s.mirror ∧ s.leaveGroup.mod = s.mod ∧
    s.leaveGroup.host = s.host ∧ s.leaveGroup.faults = s.faults ∧ s.leaveGroup.duplex = s.duplex ∧
    s.leaveGroup.gl = s.gl ∧ s.leaveGroup.aux = s.aux ∧ s.leaveGroup.field = s.field ∧ s.leaveGroup.safe = s.safe ∧
    s.leaveGroup.clock = s.clock ∧ s.leaveGroup.sec = s.sec ∧ s.leaveGroup.power = s.power := by
  simp [State.leaveGroup]

@[simp] theorem State.elect_frame (s : State) :
    s.elect.pending = s.pending ∧ s.elect.now = s.now ∧ s.elect.free = s.free ∧ s.elect.readData = s.readData ∧
    s.elect.mirror = s.mirror ∧ s.elect.mod = s.mod ∧ s.elect.host = s.host ∧ s.elect.faults = s.faults ∧
    s.elect.duplex = s.duplex ∧ s.elect.gl = s.gl ∧ s.elect.aux = s.aux ∧ s.elect.field = s.field ∧
    s.elect.safe = s.safe ∧ s.elect.clock = s.clock ∧ s.elect.sec = s.sec ∧ s.elect.power = s.power := by
  simp only [State.elect]
  (repeat' split) <;> simp

@[simp] theorem State.tryElect_frame (s : State) :
    s.tryElect.pending = s.pending ∧ s.tryElect.now = s.now ∧ s.tryElect.free = s.free ∧
    s.tryElect.readData = s.readData ∧ s.tryElect.mirror = s.mirror ∧ s.tryElect.mod = s.mod ∧
    s.tryElect.host = s.host ∧ s.tryElect.faults = s.faults ∧ s.tryElect.duplex = s.duplex ∧ s.tryElect.gl = s.gl ∧
    s.tryElect.aux = s.aux ∧ s.tryElect.field = s.field ∧ s.tryElect.safe = s.safe ∧ s.tryElect.clock = s.clock ∧
    s.tryElect.sec = s.sec ∧ s.tryElect.power = s.power := by
  simp [State.tryElect]

end Sys2Proof.Machine
end

