-- ==== Sys2Proof/Laws/SafetyFrames.lean ====
section
/-! SUPPORT. What the operations of Machine/Safety.lean leave alone: for each, the parts of the state that it keeps. -/
namespace Sys2Proof.Machine

@[simp] theorem State.safetyInstant_frame (s : State) (code cls : Nat) :
    (s.safetyInstant code cls).pending = s.pending ∧ (s.safetyInstant code cls).now = s.now ∧
    (s.safetyInstant code cls).free = s.free ∧ (s.safetyInstant code cls).readData = s.readData ∧
    (s.safetyInstant code cls).mirror = s.mirror ∧ (s.safetyInstant code cls).host = s.host ∧
    (s.safetyInstant code cls).clock = s.clock ∧ (s.safetyInstant code cls).grp = s.grp ∧
    (s.safetyInstant code cls).sec = s.sec ∧ (s.safetyInstant code cls).mod.tally = s.mod.tally := by
  simp [State.safetyInstant]

@[simp] theorem State.syncDemands_frame (s : State) :
    s.syncDemands.pending = s.pending ∧ s.syncDemands.now = s.now ∧ s.syncDemands.free = s.free ∧
    s.syncDemands.readData = s.readData ∧ s.syncDemands.mirror = s.mirror ∧ s.syncDemands.host = s.host ∧
    s.syncDemands.clock = s.clock ∧ s.syncDemands.grp = s.grp ∧ s.syncDemands.sec = s.sec ∧
    s.syncDemands.mod.tally = s.mod.tally := by
  simp [State.syncDemands]

@[simp] theorem State.rotor_frame (s : State) (i : LaneId) (n : Nat) :
    (s.rotor i n).pending = s.pending ∧ (s.rotor i n).now = s.now ∧ (s.rotor i n).free = s.free ∧
    (s.rotor i n).readData = s.readData ∧ (s.rotor i n).regs = s.regs ∧ (s.rotor i n).mirror = s.mirror ∧
    (s.rotor i n).mod = s.mod ∧ (s.rotor i n).host = s.host ∧ (s.rotor i n).eic = s.eic ∧
    (s.rotor i n).journal = s.journal ∧ (s.rotor i n).faults = s.faults ∧ (s.rotor i n).duplex = s.duplex ∧
    (s.rotor i n).gl = s.gl ∧ (s.rotor i n).aux = s.aux ∧ (s.rotor i n).field = s.field ∧
    (s.rotor i n).safe = s.safe ∧ (s.rotor i n).clock = s.clock ∧ (s.rotor i n).grp = s.grp ∧
    (s.rotor i n).sec = s.sec ∧ (s.rotor i n).power = s.power := by
  simp [State.rotor]

@[simp] theorem State.siLane_frame (s : State) (i : LaneId) (raws : Nat → Bool) :
    (s.siLane i raws).1.pending = s.pending ∧ (s.siLane i raws).1.now = s.now ∧ (s.siLane i raws).1.free = s.free ∧
    (s.siLane i raws).1.readData = s.readData ∧ (s.siLane i raws).1.regs = s.regs ∧
    (s.siLane i raws).1.mirror = s.mirror ∧ (s.siLane i raws).1.mod = s.mod ∧ (s.siLane i raws).1.host = s.host ∧
    (s.siLane i raws).1.eic = s.eic ∧ (s.siLane i raws).1.journal = s.journal ∧
    (s.siLane i raws).1.faults = s.faults ∧ (s.siLane i raws).1.duplex = s.duplex ∧ (s.siLane i raws).1.gl = s.gl ∧
    (s.siLane i raws).1.aux = s.aux ∧ (s.siLane i raws).1.field = s.field ∧ (s.siLane i raws).1.safe = s.safe ∧
    (s.siLane i raws).1.clock = s.clock ∧ (s.siLane i raws).1.grp = s.grp ∧ (s.siLane i raws).1.sec = s.sec ∧
    (s.siLane i raws).1.power = s.power := by
  simp [State.siLane]

@[simp] theorem State.orFree_frame (s : State) (x : Option Int) :
    (s.orFree x).2.pending = s.pending ∧ (s.orFree x).2.now = s.now ∧ (s.orFree x).2.readData = s.readData ∧
    (s.orFree x).2.regs = s.regs ∧ (s.orFree x).2.mirror = s.mirror ∧ (s.orFree x).2.laneA = s.laneA ∧
    (s.orFree x).2.laneB = s.laneB ∧ (s.orFree x).2.mod = s.mod ∧ (s.orFree x).2.host = s.host ∧
    (s.orFree x).2.eic = s.eic ∧ (s.orFree x).2.journal = s.journal ∧ (s.orFree x).2.faults = s.faults ∧
    (s.orFree x).2.duplex = s.duplex ∧ (s.orFree x).2.gl = s.gl ∧ (s.orFree x).2.aux = s.aux ∧
    (s.orFree x).2.field = s.field ∧ (s.orFree x).2.safe = s.safe ∧ (s.orFree x).2.clock = s.clock ∧
    (s.orFree x).2.grp = s.grp ∧ (s.orFree x).2.sec = s.sec ∧ (s.orFree x).2.power = s.power := by
  simp only [State.orFree]
  (repeat' split) <;> simp

@[simp] theorem State.posOf_frame (s : State) (l : Lane) (n : Nat) :
    (s.posOf l n).2.pending = s.pending ∧ (s.posOf l n).2.now = s.now ∧ (s.posOf l n).2.readData = s.readData ∧
    (s.posOf l n).2.regs = s.regs ∧ (s.posOf l n).2.mirror = s.mirror ∧ (s.posOf l n).2.laneA = s.laneA ∧
    (s.posOf l n).2.laneB = s.laneB ∧ (s.posOf l n).2.mod = s.mod ∧ (s.posOf l n).2.host = s.host ∧
    (s.posOf l n).2.eic = s.eic ∧ (s.posOf l n).2.journal = s.journal ∧ (s.posOf l n).2.faults = s.faults ∧
    (s.posOf l n).2.duplex = s.duplex ∧ (s.posOf l n).2.gl = s.gl ∧ (s.posOf l n).2.aux = s.aux ∧
    (s.posOf l n).2.field = s.field ∧ (s.posOf l n).2.safe = s.safe ∧ (s.posOf l n).2.clock = s.clock ∧
    (s.posOf l n).2.grp = s.grp ∧ (s.posOf l n).2.sec = s.sec ∧ (s.posOf l n).2.power = s.power := by
  simp only [State.posOf]
  (repeat' split) <;> simp

@[simp] theorem State.autoReturn_frame (s : State) :
    s.autoReturn.pending = s.pending ∧ s.autoReturn.now = s.now ∧ s.autoReturn.free = s.free ∧
    s.autoReturn.readData = s.readData ∧ s.autoReturn.regs = s.regs ∧ s.autoReturn.mirror = s.mirror ∧
    s.autoReturn.laneA = s.laneA ∧ s.autoReturn.laneB = s.laneB ∧ s.autoReturn.mod = s.mod ∧
    s.autoReturn.host = s.host ∧ s.autoReturn.eic = s.eic ∧ s.autoReturn.journal = s.journal ∧
    s.autoReturn.faults = s.faults ∧ s.autoReturn.duplex = s.duplex ∧ s.autoReturn.gl = s.gl ∧
    s.autoReturn.aux = s.aux ∧ s.autoReturn.safe = s.safe ∧ s.autoReturn.clock = s.clock ∧
    s.autoReturn.grp = s.grp ∧ s.autoReturn.sec = s.sec ∧ s.autoReturn.power = s.power := by
  simp [State.autoReturn]

@[simp] theorem State.updSi_frame (s : State) :
    s.updSi.pending = s.pending ∧ s.updSi.now = s.now ∧ s.updSi.free = s.free ∧ s.updSi.readData = s.readData ∧
    s.updSi.mirror = s.mirror ∧ s.updSi.mod = s.mod ∧ s.updSi.host = s.host ∧ s.updSi.journal = s.journal ∧
    s.updSi.faults = s.faults ∧ s.updSi.duplex = s.duplex ∧ s.updSi.gl = s.gl ∧ s.updSi.aux = s.aux ∧
    s.updSi.field = s.field ∧ s.updSi.safe = s.safe ∧ s.updSi.clock = s.clock ∧ s.updSi.grp = s.grp ∧
    s.updSi.sec = s.sec ∧ s.updSi.power = s.power := by
  simp [State.updSi]

@[simp] theorem State.commitStops_frame (s : State) :
    s.commitStops.pending = s.pending ∧ s.commitStops.now = s.now ∧ s.commitStops.free = s.free ∧
    s.commitStops.readData = s.readData ∧ s.commitStops.regs = s.regs ∧ s.commitStops.mirror = s.mirror ∧
    s.commitStops.laneA = s.laneA ∧ s.commitStops.laneB = s.laneB ∧ s.commitStops.host = s.host ∧
    s.commitStops.eic = s.eic ∧ s.commitStops.journal = s.journal ∧ s.commitStops.faults = s.faults ∧
    s.commitStops.duplex = s.duplex ∧ s.commitStops.gl = s.gl ∧ s.commitStops.aux = s.aux ∧
    s.commitStops.field = s.field ∧ s.commitStops.clock = s.clock ∧ s.commitStops.grp = s.grp ∧
    s.commitStops.sec = s.sec ∧ s.commitStops.power = s.power ∧ s.commitStops.mod.tally = s.mod.tally := by
  simp [State.commitStops]

@[simp] theorem State.smonInstant_frame (s : State) (i : LaneId) (code cls : Nat) :
    (s.smonInstant i code cls).pending = s.pending ∧ (s.smonInstant i code cls).now = s.now ∧
    (s.smonInstant i code cls).free = s.free ∧ (s.smonInstant i code cls).readData = s.readData ∧
    (s.smonInstant i code cls).mirror = s.mirror ∧ (s.smonInstant i code cls).host = s.host ∧
    (s.smonInstant i code cls).clock = s.clock ∧ (s.smonInstant i code cls).grp = s.grp ∧
    (s.smonInstant i code cls).sec = s.sec ∧ (s.smonInstant i code cls).mod.tally = s.mod.tally := by
  simp [State.smonInstant]

@[simp] theorem State.smonCycle_frame (s : State) (i : LaneId) :
    (s.smonCycle i).pending = s.pending ∧ (s.smonCycle i).now = s.now ∧ (s.smonCycle i).readData = s.readData ∧
    (s.smonCycle i).mirror = s.mirror ∧ (s.smonCycle i).mod = s.mod ∧ (s.smonCycle i).host = s.host ∧
    (s.smonCycle i).journal = s.journal ∧ (s.smonCycle i).faults = s.faults ∧ (s.smonCycle i).duplex = s.duplex ∧
    (s.smonCycle i).gl = s.gl ∧ (s.smonCycle i).aux = s.aux ∧ (s.smonCycle i).field = s.field ∧
    (s.smonCycle i).safe = s.safe ∧ (s.smonCycle i).clock = s.clock ∧ (s.smonCycle i).grp = s.grp ∧
    (s.smonCycle i).sec = s.sec ∧ (s.smonCycle i).power = s.power := by
  simp [State.smonCycle]

@[simp] theorem State.compareReports_frame (s : State) :
    s.compareReports.pending = s.pending ∧ s.compareReports.now = s.now ∧ s.compareReports.free = s.free ∧
    s.compareReports.readData = s.readData ∧ s.compareReports.mirror = s.mirror ∧ s.compareReports.host = s.host ∧
    s.compareReports.clock = s.clock ∧ s.compareReports.grp = s.grp ∧ s.compareReports.sec = s.sec ∧
    s.compareReports.mod.tally = s.mod.tally := by
  simp [State.compareReports]

end Sys2Proof.Machine
end

