-- ==== Sys2Proof/Laws/SafeOutFrames.lean ====
section
/-! SUPPORT. What the operations of Machine/SafeOut.lean leave alone: for each, the parts of the state that it keeps. -/
namespace Sys2Proof.Machine

@[simp] theorem State.modSo_frame (s : State) (n : Nat) (f : So → So) :
    (s.modSo n f).pending = s.pending ∧ (s.modSo n f).now = s.now ∧ (s.modSo n f).free = s.free ∧
    (s.modSo n f).readData = s.readData ∧ (s.modSo n f).regs = s.regs ∧ (s.modSo n f).mirror = s.mirror ∧
    (s.modSo n f).mod = s.mod ∧ (s.modSo n f).host = s.host ∧ (s.modSo n f).eic = s.eic ∧
    (s.modSo n f).journal = s.journal ∧ (s.modSo n f).faults = s.faults ∧ (s.modSo n f).duplex = s.duplex ∧
    (s.modSo n f).gl = s.gl ∧ (s.modSo n f).aux = s.aux ∧ (s.modSo n f).safe = s.safe ∧
    (s.modSo n f).clock = s.clock ∧ (s.modSo n f).grp = s.grp ∧ (s.modSo n f).sec = s.sec ∧
    (s.modSo n f).power = s.power := by
  simp [State.modSo]

@[simp] theorem State.silenceLane_frame (s : State) (i : LaneId) :
    (s.silenceLane i).pending = s.pending ∧ (s.silenceLane i).now = s.now ∧ (s.silenceLane i).free = s.free ∧
    (s.silenceLane i).readData = s.readData ∧ (s.silenceLane i).regs = s.regs ∧
    (s.silenceLane i).mirror = s.mirror ∧ (s.silenceLane i).mod = s.mod ∧ (s.silenceLane i).host = s.host ∧
    (s.silenceLane i).eic = s.eic ∧ (s.silenceLane i).journal = s.journal ∧ (s.silenceLane i).faults = s.faults ∧
    (s.silenceLane i).duplex = s.duplex ∧ (s.silenceLane i).gl = s.gl ∧ (s.silenceLane i).aux = s.aux ∧
    (s.silenceLane i).safe = s.safe ∧ (s.silenceLane i).clock = s.clock ∧ (s.silenceLane i).grp = s.grp ∧
    (s.silenceLane i).sec = s.sec ∧ (s.silenceLane i).power = s.power := by
  simp [State.silenceLane]

@[simp] theorem State.moveSw_frame (s : State) (i : LaneId) (n : Nat) (v : Bool) :
    (s.moveSw i n v).pending = s.pending ∧ (s.moveSw i n v).now = s.now ∧ (s.moveSw i n v).free = s.free ∧
    (s.moveSw i n v).readData = s.readData ∧ (s.moveSw i n v).regs = s.regs ∧ (s.moveSw i n v).mirror = s.mirror ∧
    (s.moveSw i n v).mod = s.mod ∧ (s.moveSw i n v).host = s.host ∧ (s.moveSw i n v).eic = s.eic ∧
    (s.moveSw i n v).journal = s.journal ∧ (s.moveSw i n v).faults = s.faults ∧ (s.moveSw i n v).duplex = s.duplex ∧
    (s.moveSw i n v).gl = s.gl ∧ (s.moveSw i n v).aux = s.aux ∧ (s.moveSw i n v).safe = s.safe ∧
    (s.moveSw i n v).clock = s.clock ∧ (s.moveSw i n v).grp = s.grp ∧ (s.moveSw i n v).sec = s.sec ∧
    (s.moveSw i n v).power = s.power := by
  simp [State.moveSw]

@[simp] theorem State.soRequest_frame (s : State) (n : Nat) (v : Word) :
    (s.soRequest n v).pending = s.pending ∧ (s.soRequest n v).now = s.now ∧ (s.soRequest n v).free = s.free ∧
    (s.soRequest n v).readData = s.readData ∧ (s.soRequest n v).regs = s.regs ∧
    (s.soRequest n v).mirror = s.mirror ∧ (s.soRequest n v).mod = s.mod ∧ (s.soRequest n v).host = s.host ∧
    (s.soRequest n v).eic = s.eic ∧ (s.soRequest n v).journal = s.journal ∧ (s.soRequest n v).faults = s.faults ∧
    (s.soRequest n v).duplex = s.duplex ∧ (s.soRequest n v).gl = s.gl ∧ (s.soRequest n v).aux = s.aux ∧
    (s.soRequest n v).safe = s.safe ∧ (s.soRequest n v).clock = s.clock ∧ (s.soRequest n v).grp = s.grp ∧
    (s.soRequest n v).sec = s.sec ∧ (s.soRequest n v).power = s.power := by
  simp [State.soRequest]

@[simp] theorem State.soOverload_frame (s : State) (n : Nat) :
    (s.soOverload n).pending = s.pending ∧ (s.soOverload n).now = s.now ∧ (s.soOverload n).free = s.free ∧
    (s.soOverload n).readData = s.readData ∧ (s.soOverload n).mirror = s.mirror ∧ (s.soOverload n).host = s.host ∧
    (s.soOverload n).clock = s.clock ∧ (s.soOverload n).grp = s.grp ∧ (s.soOverload n).sec = s.sec ∧
    (s.soOverload n).mod.tally = s.mod.tally := by
  simp [State.soOverload]

@[simp] theorem State.moveSws_frame (s : State) (i : LaneId) (cmd : BitVec 4) :
    (s.moveSws i cmd).pending = s.pending ∧ (s.moveSws i cmd).now = s.now ∧ (s.moveSws i cmd).free = s.free ∧
    (s.moveSws i cmd).readData = s.readData ∧ (s.moveSws i cmd).regs = s.regs ∧
    (s.moveSws i cmd).mirror = s.mirror ∧ (s.moveSws i cmd).mod = s.mod ∧ (s.moveSws i cmd).host = s.host ∧
    (s.moveSws i cmd).eic = s.eic ∧ (s.moveSws i cmd).journal = s.journal ∧ (s.moveSws i cmd).faults = s.faults ∧
    (s.moveSws i cmd).duplex = s.duplex ∧ (s.moveSws i cmd).gl = s.gl ∧ (s.moveSws i cmd).aux = s.aux ∧
    (s.moveSws i cmd).safe = s.safe ∧ (s.moveSws i cmd).clock = s.clock ∧ (s.moveSws i cmd).grp = s.grp ∧
    (s.moveSws i cmd).sec = s.sec ∧ (s.moveSws i cmd).power = s.power := by
  simp [State.moveSws]

@[simp] theorem State.laneFrame_frame (s : State) (i : LaneId) :
    (s.laneFrame i).pending = s.pending ∧ (s.laneFrame i).now = s.now ∧ (s.laneFrame i).free = s.free ∧
    (s.laneFrame i).readData = s.readData ∧ (s.laneFrame i).mirror = s.mirror ∧ (s.laneFrame i).mod = s.mod ∧
    (s.laneFrame i).host = s.host ∧ (s.laneFrame i).eic = s.eic ∧ (s.laneFrame i).journal = s.journal ∧
    (s.laneFrame i).duplex = s.duplex ∧ (s.laneFrame i).gl = s.gl ∧ (s.laneFrame i).aux = s.aux ∧
    (s.laneFrame i).safe = s.safe ∧ (s.laneFrame i).clock = s.clock ∧ (s.laneFrame i).grp = s.grp ∧
    (s.laneFrame i).sec = s.sec ∧ (s.laneFrame i).power = s.power := by
  simp [State.laneFrame]

@[simp] theorem State.takeoverFrame_frame (s : State) :
    s.takeoverFrame.pending = s.pending ∧ s.takeoverFrame.now = s.now ∧ s.takeoverFrame.free = s.free ∧
    s.takeoverFrame.readData = s.readData ∧ s.takeoverFrame.regs = s.regs ∧ s.takeoverFrame.mirror = s.mirror ∧
    s.takeoverFrame.mod = s.mod ∧ s.takeoverFrame.host = s.host ∧ s.takeoverFrame.eic = s.eic ∧
    s.takeoverFrame.journal = s.journal ∧ s.takeoverFrame.faults = s.faults ∧ s.takeoverFrame.duplex = s.duplex ∧
    s.takeoverFrame.gl = s.gl ∧ s.takeoverFrame.aux = s.aux ∧ s.takeoverFrame.safe = s.safe ∧
    s.takeoverFrame.clock = s.clock ∧ s.takeoverFrame.grp = s.grp ∧ s.takeoverFrame.sec = s.sec ∧
    s.takeoverFrame.power = s.power := by
  simp [State.takeoverFrame]

end Sys2Proof.Machine
end

