-- ==== Sys2Proof/Laws/FieldIoFrames.lean ====
section
/-! SUPPORT. What the operations of Machine/FieldIo.lean leave alone: for each, the parts of the state that it keeps. -/
namespace Sys2Proof.Machine

@[simp] theorem State.updDo1_frame (s : State) (n : Nat) :
    (s.updDo1 n).pending = s.pending ∧ (s.updDo1 n).now = s.now ∧ (s.updDo1 n).free = s.free ∧
    (s.updDo1 n).readData = s.readData ∧ (s.updDo1 n).mirror = s.mirror ∧ (s.updDo1 n).laneA = s.laneA ∧
    (s.updDo1 n).laneB = s.laneB ∧ (s.updDo1 n).mod = s.mod ∧ (s.updDo1 n).host = s.host ∧
    (s.updDo1 n).eic = s.eic ∧ (s.updDo1 n).journal = s.journal ∧ (s.updDo1 n).faults = s.faults ∧
    (s.updDo1 n).duplex = s.duplex ∧ (s.updDo1 n).gl = s.gl ∧ (s.updDo1 n).aux = s.aux ∧
    (s.updDo1 n).safe = s.safe ∧ (s.updDo1 n).clock = s.clock ∧ (s.updDo1 n).grp = s.grp ∧
    (s.updDo1 n).sec = s.sec ∧ (s.updDo1 n).power = s.power := by
  simp [State.updDo1]

@[simp] theorem State.doFault_frame (s : State) (n code : Nat) :
    (s.doFault n code).pending = s.pending ∧ (s.doFault n code).now = s.now ∧ (s.doFault n code).free = s.free ∧
    (s.doFault n code).readData = s.readData ∧ (s.doFault n code).mirror = s.mirror ∧
    (s.doFault n code).mod = s.mod ∧ (s.doFault n code).host = s.host ∧ (s.doFault n code).faults = s.faults ∧
    (s.doFault n code).duplex = s.duplex ∧ (s.doFault n code).gl = s.gl ∧ (s.doFault n code).aux = s.aux ∧
    (s.doFault n code).field = s.field ∧ (s.doFault n code).safe = s.safe ∧ (s.doFault n code).clock = s.clock ∧
    (s.doFault n code).grp = s.grp ∧ (s.doFault n code).sec = s.sec ∧ (s.doFault n code).power = s.power := by
  simp [State.doFault]

@[simp] theorem State.commitDo_frame (s : State) (mask val : BitVec 16) (all : Bool) :
    (s.commitDo mask val all).pending = s.pending ∧ (s.commitDo mask val all).now = s.now ∧
    (s.commitDo mask val all).free = s.free ∧ (s.commitDo mask val all).readData = s.readData ∧
    (s.commitDo mask val all).mirror = s.mirror ∧ (s.commitDo mask val all).laneA = s.laneA ∧
    (s.commitDo mask val all).laneB = s.laneB ∧ (s.commitDo mask val all).mod = s.mod ∧
    (s.commitDo mask val all).host = s.host ∧ (s.commitDo mask val all).eic = s.eic ∧
    (s.commitDo mask val all).journal = s.journal ∧ (s.commitDo mask val all).faults = s.faults ∧
    (s.commitDo mask val all).duplex = s.duplex ∧ (s.commitDo mask val all).gl = s.gl ∧
    (s.commitDo mask val all).aux = s.aux ∧ (s.commitDo mask val all).safe = s.safe ∧
    (s.commitDo mask val all).clock = s.clock ∧ (s.commitDo mask val all).grp = s.grp ∧
    (s.commitDo mask val all).sec = s.sec ∧ (s.commitDo mask val all).power = s.power := by
  simp [State.commitDo]

@[simp] theorem State.commitRearm_frame (s : State) (v : BitVec 16) :
    (s.commitRearm v).pending = s.pending ∧ (s.commitRearm v).now = s.now ∧ (s.commitRearm v).free = s.free ∧
    (s.commitRearm v).readData = s.readData ∧ (s.commitRearm v).regs = s.regs ∧
    (s.commitRearm v).mirror = s.mirror ∧ (s.commitRearm v).laneA = s.laneA ∧ (s.commitRearm v).laneB = s.laneB ∧
    (s.commitRearm v).mod = s.mod ∧ (s.commitRearm v).host = s.host ∧ (s.commitRearm v).eic = s.eic ∧
    (s.commitRearm v).journal = s.journal ∧ (s.commitRearm v).faults = s.faults ∧
    (s.commitRearm v).duplex = s.duplex ∧ (s.commitRearm v).gl = s.gl ∧ (s.commitRearm v).aux = s.aux ∧
    (s.commitRearm v).safe = s.safe ∧ (s.commitRearm v).clock = s.clock ∧ (s.commitRearm v).grp = s.grp ∧
    (s.commitRearm v).sec = s.sec ∧ (s.commitRearm v).power = s.power := by
  simp [State.commitRearm]

@[simp] theorem State.updDisup_frame (s : State) :
    s.updDisup.pending = s.pending ∧ s.updDisup.now = s.now ∧ s.updDisup.free = s.free ∧
    s.updDisup.readData = s.readData ∧ s.updDisup.mirror = s.mirror ∧ s.updDisup.laneA = s.laneA ∧
    s.updDisup.laneB = s.laneB ∧ s.updDisup.mod = s.mod ∧ s.updDisup.host = s.host ∧ s.updDisup.eic = s.eic ∧
    s.updDisup.journal = s.journal ∧ s.updDisup.faults = s.faults ∧ s.updDisup.duplex = s.duplex ∧
    s.updDisup.gl = s.gl ∧ s.updDisup.aux = s.aux ∧ s.updDisup.field = s.field ∧ s.updDisup.safe = s.safe ∧
    s.updDisup.clock = s.clock ∧ s.updDisup.grp = s.grp ∧ s.updDisup.sec = s.sec ∧ s.updDisup.power = s.power := by
  simp [State.updDisup]

@[simp] theorem State.modDi_frame (s : State) (n : Nat) (f : Di → Di) :
    (s.modDi n f).pending = s.pending ∧ (s.modDi n f).now = s.now ∧ (s.modDi n f).free = s.free ∧
    (s.modDi n f).readData = s.readData ∧ (s.modDi n f).regs = s.regs ∧ (s.modDi n f).mirror = s.mirror ∧
    (s.modDi n f).laneA = s.laneA ∧ (s.modDi n f).laneB = s.laneB ∧ (s.modDi n f).mod = s.mod ∧
    (s.modDi n f).host = s.host ∧ (s.modDi n f).eic = s.eic ∧ (s.modDi n f).journal = s.journal ∧
    (s.modDi n f).faults = s.faults ∧ (s.modDi n f).duplex = s.duplex ∧ (s.modDi n f).gl = s.gl ∧
    (s.modDi n f).aux = s.aux ∧ (s.modDi n f).safe = s.safe ∧ (s.modDi n f).clock = s.clock ∧
    (s.modDi n f).grp = s.grp ∧ (s.modDi n f).sec = s.sec ∧ (s.modDi n f).power = s.power := by
  simp [State.modDi]

@[simp] theorem State.showLevel_frame (s : State) (n : Nat) :
    (s.showLevel n).pending = s.pending ∧ (s.showLevel n).now = s.now ∧ (s.showLevel n).free = s.free ∧
    (s.showLevel n).readData = s.readData ∧ (s.showLevel n).mirror = s.mirror ∧ (s.showLevel n).laneA = s.laneA ∧
    (s.showLevel n).laneB = s.laneB ∧ (s.showLevel n).mod = s.mod ∧ (s.showLevel n).host = s.host ∧
    (s.showLevel n).eic = s.eic ∧ (s.showLevel n).journal = s.journal ∧ (s.showLevel n).faults = s.faults ∧
    (s.showLevel n).duplex = s.duplex ∧ (s.showLevel n).gl = s.gl ∧ (s.showLevel n).aux = s.aux ∧
    (s.showLevel n).field = s.field ∧ (s.showLevel n).safe = s.safe ∧ (s.showLevel n).clock = s.clock ∧
    (s.showLevel n).grp = s.grp ∧ (s.showLevel n).sec = s.sec ∧ (s.showLevel n).power = s.power := by
  simp [State.showLevel]

@[simp] theorem State.takeDo_frame (s : State) (n : Nat) :
    (s.takeDo n).pending = s.pending ∧ (s.takeDo n).now = s.now ∧ (s.takeDo n).free = s.free ∧
    (s.takeDo n).readData = s.readData ∧ (s.takeDo n).mirror = s.mirror ∧ (s.takeDo n).laneA = s.laneA ∧
    (s.takeDo n).laneB = s.laneB ∧ (s.takeDo n).mod = s.mod ∧ (s.takeDo n).host = s.host ∧
    (s.takeDo n).eic = s.eic ∧ (s.takeDo n).journal = s.journal ∧ (s.takeDo n).faults = s.faults ∧
    (s.takeDo n).duplex = s.duplex ∧ (s.takeDo n).gl = s.gl ∧ (s.takeDo n).aux = s.aux ∧
    (s.takeDo n).safe = s.safe ∧ (s.takeDo n).clock = s.clock ∧ (s.takeDo n).grp = s.grp ∧
    (s.takeDo n).sec = s.sec ∧ (s.takeDo n).power = s.power := by
  simp [State.takeDo]

@[simp] theorem State.reportSupply_frame (s : State) (k : Nat) :
    (s.reportSupply k).pending = s.pending ∧ (s.reportSupply k).now = s.now ∧
    (s.reportSupply k).readData = s.readData ∧ (s.reportSupply k).mirror = s.mirror ∧
    (s.reportSupply k).mod = s.mod ∧ (s.reportSupply k).host = s.host ∧ (s.reportSupply k).faults = s.faults ∧
    (s.reportSupply k).duplex = s.duplex ∧ (s.reportSupply k).gl = s.gl ∧ (s.reportSupply k).aux = s.aux ∧
    (s.reportSupply k).field = s.field ∧ (s.reportSupply k).safe = s.safe ∧ (s.reportSupply k).clock = s.clock ∧
    (s.reportSupply k).grp = s.grp ∧ (s.reportSupply k).sec = s.sec ∧ (s.reportSupply k).power = s.power := by
  simp [State.reportSupply]

@[simp] theorem State.vf2Enter_frame (s : State) :
    s.vf2Enter.pending = s.pending ∧ s.vf2Enter.now = s.now ∧ s.vf2Enter.free = s.free ∧
    s.vf2Enter.readData = s.readData ∧ s.vf2Enter.mirror = s.mirror ∧ s.vf2Enter.host = s.host ∧
    s.vf2Enter.clock = s.clock ∧ s.vf2Enter.grp = s.grp ∧ s.vf2Enter.sec = s.sec ∧
    s.vf2Enter.mod.tally = s.mod.tally := by
  simp [State.vf2Enter]

@[simp] theorem State.fieldOff_frame (s : State) :
    s.fieldOff.pending = s.pending ∧ s.fieldOff.now = s.now ∧ s.fieldOff.free = s.free ∧
    s.fieldOff.readData = s.readData ∧ s.fieldOff.regs = s.regs ∧ s.fieldOff.mirror = s.mirror ∧
    s.fieldOff.mod = s.mod ∧ s.fieldOff.host = s.host ∧ s.fieldOff.eic = s.eic ∧ s.fieldOff.journal = s.journal ∧
    s.fieldOff.faults = s.faults ∧ s.fieldOff.duplex = s.duplex ∧ s.fieldOff.gl = s.gl ∧ s.fieldOff.aux = s.aux ∧
    s.fieldOff.safe = s.safe ∧ s.fieldOff.clock = s.clock ∧ s.fieldOff.grp = s.grp ∧ s.fieldOff.sec = s.sec ∧
    s.fieldOff.power = s.power := by
  simp only [State.fieldOff]
  (repeat' split) <;> simp

@[simp] theorem State.diDiag_frame (s : State) (n : Nat) (x : Fld) (code : Nat) :
    (s.diDiag n x code).pending = s.pending ∧ (s.diDiag n x code).now = s.now ∧ (s.diDiag n x code).free = s.free ∧
    (s.diDiag n x code).readData = s.readData ∧ (s.diDiag n x code).mirror = s.mirror ∧
    (s.diDiag n x code).mod = s.mod ∧ (s.diDiag n x code).host = s.host ∧ (s.diDiag n x code).faults = s.faults ∧
    (s.diDiag n x code).duplex = s.duplex ∧ (s.diDiag n x code).gl = s.gl ∧ (s.diDiag n x code).aux = s.aux ∧
    (s.diDiag n x code).field = s.field ∧ (s.diDiag n x code).safe = s.safe ∧ (s.diDiag n x code).clock = s.clock ∧
    (s.diDiag n x code).grp = s.grp ∧ (s.diDiag n x code).sec = s.sec ∧ (s.diDiag n x code).power = s.power := by
  simp [State.diDiag]

@[simp] theorem State.updDo_frame (s : State) :
    s.updDo.pending = s.pending ∧ s.updDo.now = s.now ∧ s.updDo.free = s.free ∧ s.updDo.readData = s.readData ∧
    s.updDo.mirror = s.mirror ∧ s.updDo.laneA = s.laneA ∧ s.updDo.laneB = s.laneB ∧ s.updDo.mod = s.mod ∧
    s.updDo.host = s.host ∧ s.updDo.eic = s.eic ∧ s.updDo.journal = s.journal ∧ s.updDo.faults = s.faults ∧
    s.updDo.duplex = s.duplex ∧ s.updDo.gl = s.gl ∧ s.updDo.aux = s.aux ∧ s.updDo.safe = s.safe ∧
    s.updDo.clock = s.clock ∧ s.updDo.grp = s.grp ∧ s.updDo.sec = s.sec ∧ s.updDo.power = s.power := by
  simp [State.updDo]

@[simp] theorem State.takeDiCfg_frame (s : State) (n : Nat) :
    (s.takeDiCfg n).pending = s.pending ∧ (s.takeDiCfg n).now = s.now ∧ (s.takeDiCfg n).free = s.free ∧
    (s.takeDiCfg n).readData = s.readData ∧ (s.takeDiCfg n).mirror = s.mirror ∧ (s.takeDiCfg n).laneA = s.laneA ∧
    (s.takeDiCfg n).laneB = s.laneB ∧ (s.takeDiCfg n).mod = s.mod ∧ (s.takeDiCfg n).host = s.host ∧
    (s.takeDiCfg n).eic = s.eic ∧ (s.takeDiCfg n).journal = s.journal ∧ (s.takeDiCfg n).faults = s.faults ∧
    (s.takeDiCfg n).duplex = s.duplex ∧ (s.takeDiCfg n).gl = s.gl ∧ (s.takeDiCfg n).aux = s.aux ∧
    (s.takeDiCfg n).safe = s.safe ∧ (s.takeDiCfg n).clock = s.clock ∧ (s.takeDiCfg n).grp = s.grp ∧
    (s.takeDiCfg n).sec = s.sec ∧ (s.takeDiCfg n).power = s.power := by
  simp [State.takeDiCfg]

@[simp] theorem State.storeChange_frame (s : State) (n : Nat) (level : Bool) :
    (s.storeChange n level).pending = s.pending ∧ (s.storeChange n level).now = s.now ∧
    (s.storeChange n level).free = s.free ∧ (s.storeChange n level).readData = s.readData ∧
    (s.storeChange n level).mirror = s.mirror ∧ (s.storeChange n level).mod = s.mod ∧
    (s.storeChange n level).host = s.host ∧ (s.storeChange n level).journal = s.journal ∧
    (s.storeChange n level).faults = s.faults ∧ (s.storeChange n level).duplex = s.duplex ∧
    (s.storeChange n level).gl = s.gl ∧ (s.storeChange n level).aux = s.aux ∧
    (s.storeChange n level).safe = s.safe ∧ (s.storeChange n level).clock = s.clock ∧
    (s.storeChange n level).grp = s.grp ∧ (s.storeChange n level).sec = s.sec ∧
    (s.storeChange n level).power = s.power := by
  simp [State.storeChange]

@[simp] theorem State.enterSafe_frame (s : State) :
    s.enterSafe.pending = s.pending ∧ s.enterSafe.now = s.now ∧ s.enterSafe.free = s.free ∧
    s.enterSafe.readData = s.readData ∧ s.enterSafe.mirror = s.mirror ∧ s.enterSafe.laneA = s.laneA ∧
    s.enterSafe.laneB = s.laneB ∧ s.enterSafe.mod = s.mod ∧ s.enterSafe.host = s.host ∧ s.enterSafe.eic = s.eic ∧
    s.enterSafe.journal = s.journal ∧ s.enterSafe.faults = s.faults ∧ s.enterSafe.duplex = s.duplex ∧
    s.enterSafe.gl = s.gl ∧ s.enterSafe.aux = s.aux ∧ s.enterSafe.safe = s.safe ∧ s.enterSafe.clock = s.clock ∧
    s.enterSafe.grp = s.grp ∧ s.enterSafe.sec = s.sec ∧ s.enterSafe.power = s.power := by
  simp [State.enterSafe]

@[simp] theorem State.vf1Enter_frame (s : State) :
    s.vf1Enter.pending = s.pending ∧ s.vf1Enter.now = s.now ∧ s.vf1Enter.free = s.free ∧
    s.vf1Enter.readData = s.readData ∧ s.vf1Enter.mirror = s.mirror ∧ s.vf1Enter.mod = s.mod ∧
    s.vf1Enter.host = s.host ∧ s.vf1Enter.faults = s.faults ∧ s.vf1Enter.duplex = s.duplex ∧ s.vf1Enter.gl = s.gl ∧
    s.vf1Enter.aux = s.aux ∧ s.vf1Enter.safe = s.safe ∧ s.vf1Enter.clock = s.clock ∧ s.vf1Enter.grp = s.grp ∧
    s.vf1Enter.sec = s.sec ∧ s.vf1Enter.power = s.power := by
  simp [State.vf1Enter]

@[simp] theorem State.vf1Leave_frame (s : State) :
    s.vf1Leave.pending = s.pending ∧ s.vf1Leave.now = s.now ∧ s.vf1Leave.free = s.free ∧
    s.vf1Leave.readData = s.readData ∧ s.vf1Leave.mirror = s.mirror ∧ s.vf1Leave.laneA = s.laneA ∧
    s.vf1Leave.laneB = s.laneB ∧ s.vf1Leave.mod = s.mod ∧ s.vf1Leave.host = s.host ∧ s.vf1Leave.eic = s.eic ∧
    s.vf1Leave.journal = s.journal ∧ s.vf1Leave.faults = s.faults ∧ s.vf1Leave.duplex = s.duplex ∧
    s.vf1Leave.gl = s.gl ∧ s.vf1Leave.aux = s.aux ∧ s.vf1Leave.safe = s.safe ∧ s.vf1Leave.clock = s.clock ∧
    s.vf1Leave.grp = s.grp ∧ s.vf1Leave.sec = s.sec ∧ s.vf1Leave.power = s.power := by
  simp [State.vf1Leave]

@[simp] theorem State.setSupply_frame (s : State) (sup : Supply) (new : Nat) :
    (s.setSupply sup new).pending = s.pending ∧ (s.setSupply sup new).now = s.now ∧
    (s.setSupply sup new).readData = s.readData ∧ (s.setSupply sup new).mirror = s.mirror ∧
    (s.setSupply sup new).host = s.host ∧ (s.setSupply sup new).clock = s.clock ∧
    (s.setSupply sup new).grp = s.grp ∧ (s.setSupply sup new).sec = s.sec ∧
    (s.setSupply sup new).mod.tally = s.mod.tally := by
  simp only [State.setSupply]
  (repeat' split) <;> simp

@[simp] theorem State.measureSupply_frame (s : State) (sup : Supply) (v : Int) :
    (s.measureSupply sup v).pending = s.pending ∧ (s.measureSupply sup v).now = s.now ∧
    (s.measureSupply sup v).readData = s.readData ∧ (s.measureSupply sup v).mirror = s.mirror ∧
    (s.measureSupply sup v).host = s.host ∧ (s.measureSupply sup v).clock = s.clock ∧
    (s.measureSupply sup v).grp = s.grp ∧ (s.measureSupply sup v).sec = s.sec ∧
    (s.measureSupply sup v).mod.tally = s.mod.tally := by
  simp [State.measureSupply]

end Sys2Proof.Machine
end

