-- ==== Sys2Proof/Laws/EventsCtlFrames.lean ====
section
/-! SUPPORT. What the operations of Machine/EventsCtl.lean leave alone: for each, the parts of the state that it keeps. -/
namespace Sys2Proof.Machine

@[simp] theorem State.claimVec_frame (s : State) (v : Nat) :
    (s.claimVec v).pending = s.pending ∧ (s.claimVec v).now = s.now ∧ (s.claimVec v).free = s.free ∧
    (s.claimVec v).mirror = s.mirror ∧ (s.claimVec v).laneA = s.laneA ∧ (s.claimVec v).laneB = s.laneB ∧
    (s.claimVec v).mod = s.mod ∧ (s.claimVec v).host = s.host ∧ (s.claimVec v).journal = s.journal ∧
    (s.claimVec v).faults = s.faults ∧ (s.claimVec v).duplex = s.duplex ∧ (s.claimVec v).gl = s.gl ∧
    (s.claimVec v).aux = s.aux ∧ (s.claimVec v).field = s.field ∧ (s.claimVec v).safe = s.safe ∧
    (s.claimVec v).clock = s.clock ∧ (s.claimVec v).grp = s.grp ∧ (s.claimVec v).sec = s.sec ∧
    (s.claimVec v).power = s.power := by
  simp only [State.claimVec]
  (repeat' split) <;> simp

@[simp] theorem State.claimPair_frame (s : State) (i : LaneId) (p : Nat) :
    (s.claimPair i p).pending = s.pending ∧ (s.claimPair i p).now = s.now ∧ (s.claimPair i p).free = s.free ∧
    (s.claimPair i p).regs = s.regs ∧ (s.claimPair i p).mirror = s.mirror ∧ (s.claimPair i p).mod = s.mod ∧
    (s.claimPair i p).host = s.host ∧ (s.claimPair i p).eic = s.eic ∧ (s.claimPair i p).journal = s.journal ∧
    (s.claimPair i p).faults = s.faults ∧ (s.claimPair i p).duplex = s.duplex ∧ (s.claimPair i p).gl = s.gl ∧
    (s.claimPair i p).aux = s.aux ∧ (s.claimPair i p).field = s.field ∧ (s.claimPair i p).safe = s.safe ∧
    (s.claimPair i p).clock = s.clock ∧ (s.claimPair i p).grp = s.grp ∧ (s.claimPair i p).sec = s.sec ∧
    (s.claimPair i p).power = s.power := by
  simp only [State.claimPair]
  (repeat' split) <;> simp

@[simp] theorem State.completeVec_frame (s : State) (v n : Nat) :
    (s.completeVec v n).pending = s.pending ∧ (s.completeVec v n).now = s.now ∧ (s.completeVec v n).free = s.free ∧
    (s.completeVec v n).readData = s.readData ∧ (s.completeVec v n).mirror = s.mirror ∧
    (s.completeVec v n).laneA = s.laneA ∧ (s.completeVec v n).laneB = s.laneB ∧ (s.completeVec v n).mod = s.mod ∧
    (s.completeVec v n).host = s.host ∧ (s.completeVec v n).journal = s.journal ∧
    (s.completeVec v n).faults = s.faults ∧ (s.completeVec v n).duplex = s.duplex ∧ (s.completeVec v n).gl = s.gl ∧
    (s.completeVec v n).aux = s.aux ∧ (s.completeVec v n).field = s.field ∧ (s.completeVec v n).safe = s.safe ∧
    (s.completeVec v n).clock = s.clock ∧ (s.completeVec v n).grp = s.grp ∧ (s.completeVec v n).sec = s.sec ∧
    (s.completeVec v n).power = s.power := by
  simp [State.completeVec]

@[simp] theorem State.completePair_frame (s : State) (i : LaneId) (p n : Nat) :
    (s.completePair i p n).pending = s.pending ∧ (s.completePair i p n).now = s.now ∧
    (s.completePair i p n).free = s.free ∧ (s.completePair i p n).readData = s.readData ∧
    (s.completePair i p n).regs = s.regs ∧ (s.completePair i p n).mirror = s.mirror ∧
    (s.completePair i p n).mod = s.mod ∧ (s.completePair i p n).host = s.host ∧ (s.completePair i p n).eic = s.eic ∧
    (s.completePair i p n).journal = s.journal ∧ (s.completePair i p n).faults = s.faults ∧
    (s.completePair i p n).duplex = s.duplex ∧ (s.completePair i p n).gl = s.gl ∧
    (s.completePair i p n).aux = s.aux ∧ (s.completePair i p n).field = s.field ∧
    (s.completePair i p n).safe = s.safe ∧ (s.completePair i p n).clock = s.clock ∧
    (s.completePair i p n).grp = s.grp ∧ (s.completePair i p n).sec = s.sec ∧
    (s.completePair i p n).power = s.power := by
  simp [State.completePair]

@[simp] theorem State.withholdFw_frame (s : State) (n : Nat) :
    (s.withholdFw n).pending = s.pending ∧ (s.withholdFw n).now = s.now ∧ (s.withholdFw n).free = s.free ∧
    (s.withholdFw n).readData = s.readData ∧ (s.withholdFw n).regs = s.regs ∧ (s.withholdFw n).mirror = s.mirror ∧
    (s.withholdFw n).mod = s.mod ∧ (s.withholdFw n).host = s.host ∧ (s.withholdFw n).eic = s.eic ∧
    (s.withholdFw n).journal = s.journal ∧ (s.withholdFw n).faults = s.faults ∧ (s.withholdFw n).gl = s.gl ∧
    (s.withholdFw n).aux = s.aux ∧ (s.withholdFw n).field = s.field ∧ (s.withholdFw n).safe = s.safe ∧
    (s.withholdFw n).clock = s.clock ∧ (s.withholdFw n).grp = s.grp ∧ (s.withholdFw n).sec = s.sec ∧
    (s.withholdFw n).power = s.power := by
  simp [State.withholdFw]

@[simp] theorem State.writeHmask_frame (s : State) (j : Nat) (v : Word) :
    (s.writeHmask j v).pending = s.pending ∧ (s.writeHmask j v).now = s.now ∧ (s.writeHmask j v).free = s.free ∧
    (s.writeHmask j v).readData = s.readData ∧ (s.writeHmask j v).mirror = s.mirror ∧
    (s.writeHmask j v).laneA = s.laneA ∧ (s.writeHmask j v).laneB = s.laneB ∧ (s.writeHmask j v).mod = s.mod ∧
    (s.writeHmask j v).host = s.host ∧ (s.writeHmask j v).journal = s.journal ∧
    (s.writeHmask j v).faults = s.faults ∧ (s.writeHmask j v).duplex = s.duplex ∧ (s.writeHmask j v).gl = s.gl ∧
    (s.writeHmask j v).aux = s.aux ∧ (s.writeHmask j v).field = s.field ∧ (s.writeHmask j v).safe = s.safe ∧
    (s.writeHmask j v).clock = s.clock ∧ (s.writeHmask j v).grp = s.grp ∧ (s.writeHmask j v).sec = s.sec ∧
    (s.writeHmask j v).power = s.power := by
  simp [State.writeHmask]

@[simp] theorem State.writePairMask_frame (s : State) (i : LaneId) (p j : Nat) (v : Word) :
    (s.writePairMask i p j v).pending = s.pending ∧ (s.writePairMask i p j v).now = s.now ∧
    (s.writePairMask i p j v).free = s.free ∧ (s.writePairMask i p j v).readData = s.readData ∧
    (s.writePairMask i p j v).regs = s.regs ∧ (s.writePairMask i p j v).mirror = s.mirror ∧
    (s.writePairMask i p j v).mod = s.mod ∧ (s.writePairMask i p j v).host = s.host ∧
    (s.writePairMask i p j v).eic = s.eic ∧ (s.writePairMask i p j v).journal = s.journal ∧
    (s.writePairMask i p j v).faults = s.faults ∧ (s.writePairMask i p j v).duplex = s.duplex ∧
    (s.writePairMask i p j v).gl = s.gl ∧ (s.writePairMask i p j v).aux = s.aux ∧
    (s.writePairMask i p j v).field = s.field ∧ (s.writePairMask i p j v).safe = s.safe ∧
    (s.writePairMask i p j v).clock = s.clock ∧ (s.writePairMask i p j v).grp = s.grp ∧
    (s.writePairMask i p j v).sec = s.sec ∧ (s.writePairMask i p j v).power = s.power := by
  simp [State.writePairMask]

@[simp] theorem State.writePairCfg_frame (s : State) (i : LaneId) (p : Nat) (w : Word) :
    (s.writePairCfg i p w).pending = s.pending ∧ (s.writePairCfg i p w).now = s.now ∧
    (s.writePairCfg i p w).free = s.free ∧ (s.writePairCfg i p w).readData = s.readData ∧
    (s.writePairCfg i p w).regs = s.regs ∧ (s.writePairCfg i p w).mirror = s.mirror ∧
    (s.writePairCfg i p w).mod = s.mod ∧ (s.writePairCfg i p w).host = s.host ∧ (s.writePairCfg i p w).eic = s.eic ∧
    (s.writePairCfg i p w).journal = s.journal ∧ (s.writePairCfg i p w).faults = s.faults ∧
    (s.writePairCfg i p w).duplex = s.duplex ∧ (s.writePairCfg i p w).gl = s.gl ∧
    (s.writePairCfg i p w).aux = s.aux ∧ (s.writePairCfg i p w).field = s.field ∧
    (s.writePairCfg i p w).safe = s.safe ∧ (s.writePairCfg i p w).clock = s.clock ∧
    (s.writePairCfg i p w).grp = s.grp ∧ (s.writePairCfg i p w).sec = s.sec ∧
    (s.writePairCfg i p w).power = s.power := by
  simp [State.writePairCfg]

@[simp] theorem State.sendHeld_frame (s : State) (v : Nat) :
    (s.sendHeld v).pending = s.pending ∧ (s.sendHeld v).now = s.now ∧ (s.sendHeld v).free = s.free ∧
    (s.sendHeld v).readData = s.readData ∧ (s.sendHeld v).mirror = s.mirror ∧ (s.sendHeld v).laneA = s.laneA ∧
    (s.sendHeld v).laneB = s.laneB ∧ (s.sendHeld v).mod = s.mod ∧ (s.sendHeld v).host = s.host ∧
    (s.sendHeld v).journal = s.journal ∧ (s.sendHeld v).faults = s.faults ∧ (s.sendHeld v).duplex = s.duplex ∧
    (s.sendHeld v).gl = s.gl ∧ (s.sendHeld v).aux = s.aux ∧ (s.sendHeld v).field = s.field ∧
    (s.sendHeld v).safe = s.safe ∧ (s.sendHeld v).clock = s.clock ∧ (s.sendHeld v).grp = s.grp ∧
    (s.sendHeld v).sec = s.sec ∧ (s.sendHeld v).power = s.power := by
  simp [State.sendHeld]

@[simp] theorem State.pendOne_frame (s : State) (n : Nat) :
    (s.pendOne n).pending = s.pending ∧ (s.pendOne n).now = s.now ∧ (s.pendOne n).free = s.free ∧
    (s.pendOne n).readData = s.readData ∧ (s.pendOne n).mirror = s.mirror ∧ (s.pendOne n).mod = s.mod ∧
    (s.pendOne n).host = s.host ∧ (s.pendOne n).journal = s.journal ∧ (s.pendOne n).faults = s.faults ∧
    (s.pendOne n).gl = s.gl ∧ (s.pendOne n).aux = s.aux ∧ (s.pendOne n).field = s.field ∧
    (s.pendOne n).safe = s.safe ∧ (s.pendOne n).clock = s.clock ∧ (s.pendOne n).grp = s.grp ∧
    (s.pendOne n).sec = s.sec ∧ (s.pendOne n).power = s.power := by
  simp [State.pendOne]

@[simp] theorem State.pendBitWrite_frame (s : State) (n : Nat) (v : Bool) :
    (s.pendBitWrite n v).pending = s.pending ∧ (s.pendBitWrite n v).now = s.now ∧
    (s.pendBitWrite n v).free = s.free ∧ (s.pendBitWrite n v).readData = s.readData ∧
    (s.pendBitWrite n v).mirror = s.mirror ∧ (s.pendBitWrite n v).mod = s.mod ∧ (s.pendBitWrite n v).host = s.host ∧
    (s.pendBitWrite n v).journal = s.journal ∧ (s.pendBitWrite n v).faults = s.faults ∧
    (s.pendBitWrite n v).gl = s.gl ∧ (s.pendBitWrite n v).aux = s.aux ∧ (s.pendBitWrite n v).field = s.field ∧
    (s.pendBitWrite n v).safe = s.safe ∧ (s.pendBitWrite n v).clock = s.clock ∧ (s.pendBitWrite n v).grp = s.grp ∧
    (s.pendBitWrite n v).sec = s.sec ∧ (s.pendBitWrite n v).power = s.power := by
  simp [State.pendBitWrite]

end Sys2Proof.Machine
end

