-- ==== Sys2Proof/Laws/GateLinkFrames.lean ====
section
/-! SUPPORT. What the operations of Machine/GateLink.lean leave alone: for each, the parts of the state that it keeps. -/
namespace Sys2Proof.Machine

@[simp] theorem State.modLink_frame (s : State) (n : Nat) (f : Link → Link) :
    (s.modLink n f).pending = s.pending ∧ (s.modLink n f).now = s.now ∧ (s.modLink n f).free = s.free ∧
    (s.modLink n f).readData = s.readData ∧ (s.modLink n f).regs = s.regs ∧ (s.modLink n f).mirror = s.mirror ∧
    (s.modLink n f).laneA = s.laneA ∧ (s.modLink n f).laneB = s.laneB ∧ (s.modLink n f).mod = s.mod ∧
    (s.modLink n f).host = s.host ∧ (s.modLink n f).eic = s.eic ∧ (s.modLink n f).journal = s.journal ∧
    (s.modLink n f).faults = s.faults ∧ (s.modLink n f).duplex = s.duplex ∧ (s.modLink n f).aux = s.aux ∧
    (s.modLink n f).field = s.field ∧ (s.modLink n f).safe = s.safe ∧ (s.modLink n f).clock = s.clock ∧
    (s.modLink n f).grp = s.grp ∧ (s.modLink n f).sec = s.sec ∧ (s.modLink n f).power = s.power := by
  simp [State.modLink]

@[simp] theorem State.setLink_frame (s : State) (n st : Nat) :
    (s.setLink n st).pending = s.pending ∧ (s.setLink n st).now = s.now ∧ (s.setLink n st).free = s.free ∧
    (s.setLink n st).readData = s.readData ∧ (s.setLink n st).mirror = s.mirror ∧ (s.setLink n st).mod = s.mod ∧
    (s.setLink n st).host = s.host ∧ (s.setLink n st).journal = s.journal ∧ (s.setLink n st).faults = s.faults ∧
    (s.setLink n st).duplex = s.duplex ∧ (s.setLink n st).gl = s.gl ∧ (s.setLink n st).aux = s.aux ∧
    (s.setLink n st).field = s.field ∧ (s.setLink n st).safe = s.safe ∧ (s.setLink n st).clock = s.clock ∧
    (s.setLink n st).grp = s.grp ∧ (s.setLink n st).sec = s.sec ∧ (s.setLink n st).power = s.power := by
  simp [State.setLink]

@[simp] theorem State.updLat_frame (s : State) :
    s.updLat.pending = s.pending ∧ s.updLat.now = s.now ∧ s.updLat.free = s.free ∧ s.updLat.readData = s.readData ∧
    s.updLat.mirror = s.mirror ∧ s.updLat.laneA = s.laneA ∧ s.updLat.laneB = s.laneB ∧ s.updLat.mod = s.mod ∧
    s.updLat.host = s.host ∧ s.updLat.eic = s.eic ∧ s.updLat.journal = s.journal ∧ s.updLat.faults = s.faults ∧
    s.updLat.duplex = s.duplex ∧ s.updLat.gl = s.gl ∧ s.updLat.aux = s.aux ∧ s.updLat.field = s.field ∧
    s.updLat.safe = s.safe ∧ s.updLat.clock = s.clock ∧ s.updLat.grp = s.grp ∧ s.updLat.sec = s.sec ∧
    s.updLat.power = s.power := by
  simp [State.updLat]

@[simp] theorem State.sendSync_frame (s : State) (n : Nat) :
    (s.sendSync n).pending = s.pending ∧ (s.sendSync n).now = s.now ∧ (s.sendSync n).free = s.free ∧
    (s.sendSync n).readData = s.readData ∧ (s.sendSync n).regs = s.regs ∧ (s.sendSync n).mirror = s.mirror ∧
    (s.sendSync n).laneA = s.laneA ∧ (s.sendSync n).laneB = s.laneB ∧ (s.sendSync n).mod = s.mod ∧
    (s.sendSync n).host = s.host ∧ (s.sendSync n).eic = s.eic ∧ (s.sendSync n).journal = s.journal ∧
    (s.sendSync n).faults = s.faults ∧ (s.sendSync n).duplex = s.duplex ∧ (s.sendSync n).aux = s.aux ∧
    (s.sendSync n).field = s.field ∧ (s.sendSync n).safe = s.safe ∧ (s.sendSync n).clock = s.clock ∧
    (s.sendSync n).grp = s.grp ∧ (s.sendSync n).sec = s.sec ∧ (s.sendSync n).power = s.power := by
  simp [State.sendSync]

@[simp] theorem State.badFrame_frame (s : State) (n : Nat) :
    (s.badFrame n).pending = s.pending ∧ (s.badFrame n).now = s.now ∧ (s.badFrame n).free = s.free ∧
    (s.badFrame n).readData = s.readData ∧ (s.badFrame n).mirror = s.mirror ∧ (s.badFrame n).laneA = s.laneA ∧
    (s.badFrame n).laneB = s.laneB ∧ (s.badFrame n).mod = s.mod ∧ (s.badFrame n).host = s.host ∧
    (s.badFrame n).eic = s.eic ∧ (s.badFrame n).journal = s.journal ∧ (s.badFrame n).faults = s.faults ∧
    (s.badFrame n).duplex = s.duplex ∧ (s.badFrame n).gl = s.gl ∧ (s.badFrame n).aux = s.aux ∧
    (s.badFrame n).field = s.field ∧ (s.badFrame n).safe = s.safe ∧ (s.badFrame n).clock = s.clock ∧
    (s.badFrame n).grp = s.grp ∧ (s.badFrame n).sec = s.sec ∧ (s.badFrame n).power = s.power := by
  simp [State.badFrame]

@[simp] theorem State.linkLoss_frame (s : State) (n : Nat) :
    (s.linkLoss n).pending = s.pending ∧ (s.linkLoss n).now = s.now ∧ (s.linkLoss n).free = s.free ∧
    (s.linkLoss n).readData = s.readData ∧ (s.linkLoss n).mirror = s.mirror ∧ (s.linkLoss n).host = s.host ∧
    (s.linkLoss n).clock = s.clock ∧ (s.linkLoss n).grp = s.grp ∧ (s.linkLoss n).sec = s.sec ∧
    (s.linkLoss n).mod.tally = s.mod.tally := by
  simp [State.linkLoss]

@[simp] theorem State.negotiate_frame (s : State) (n : Nat) :
    (s.negotiate n).pending = s.pending ∧ (s.negotiate n).now = s.now ∧ (s.negotiate n).free = s.free ∧
    (s.negotiate n).readData = s.readData ∧ (s.negotiate n).mirror = s.mirror ∧ (s.negotiate n).mod = s.mod ∧
    (s.negotiate n).host = s.host ∧ (s.negotiate n).journal = s.journal ∧ (s.negotiate n).faults = s.faults ∧
    (s.negotiate n).duplex = s.duplex ∧ (s.negotiate n).aux = s.aux ∧ (s.negotiate n).field = s.field ∧
    (s.negotiate n).safe = s.safe ∧ (s.negotiate n).clock = s.clock ∧ (s.negotiate n).grp = s.grp ∧
    (s.negotiate n).sec = s.sec ∧ (s.negotiate n).power = s.power := by
  simp [State.negotiate]

@[simp] theorem State.linkFail_frame (s : State) (n cause : Nat) :
    (s.linkFail n cause).pending = s.pending ∧ (s.linkFail n cause).now = s.now ∧
    (s.linkFail n cause).free = s.free ∧ (s.linkFail n cause).readData = s.readData ∧
    (s.linkFail n cause).mirror = s.mirror ∧ (s.linkFail n cause).mod = s.mod ∧ (s.linkFail n cause).host = s.host ∧
    (s.linkFail n cause).faults = s.faults ∧ (s.linkFail n cause).duplex = s.duplex ∧
    (s.linkFail n cause).gl = s.gl ∧ (s.linkFail n cause).aux = s.aux ∧ (s.linkFail n cause).field = s.field ∧
    (s.linkFail n cause).safe = s.safe ∧ (s.linkFail n cause).clock = s.clock ∧ (s.linkFail n cause).grp = s.grp ∧
    (s.linkFail n cause).sec = s.sec ∧ (s.linkFail n cause).power = s.power := by
  simp [State.linkFail]

@[simp] theorem State.sendHelloReq_frame (s : State) (n : Nat) :
    (s.sendHelloReq n).pending = s.pending ∧ (s.sendHelloReq n).now = s.now ∧ (s.sendHelloReq n).free = s.free ∧
    (s.sendHelloReq n).readData = s.readData ∧ (s.sendHelloReq n).regs = s.regs ∧
    (s.sendHelloReq n).mirror = s.mirror ∧ (s.sendHelloReq n).laneA = s.laneA ∧ (s.sendHelloReq n).laneB = s.laneB ∧
    (s.sendHelloReq n).mod = s.mod ∧ (s.sendHelloReq n).host = s.host ∧ (s.sendHelloReq n).eic = s.eic ∧
    (s.sendHelloReq n).journal = s.journal ∧ (s.sendHelloReq n).faults = s.faults ∧
    (s.sendHelloReq n).duplex = s.duplex ∧ (s.sendHelloReq n).aux = s.aux ∧ (s.sendHelloReq n).field = s.field ∧
    (s.sendHelloReq n).safe = s.safe ∧ (s.sendHelloReq n).clock = s.clock ∧ (s.sendHelloReq n).grp = s.grp ∧
    (s.sendHelloReq n).sec = s.sec ∧ (s.sendHelloReq n).power = s.power := by
  simp [State.sendHelloReq]

@[simp] theorem State.sendConfig_frame (s : State) (n ver sw : Nat) :
    (s.sendConfig n ver sw).pending = s.pending ∧ (s.sendConfig n ver sw).now = s.now ∧
    (s.sendConfig n ver sw).free = s.free ∧ (s.sendConfig n ver sw).readData = s.readData ∧
    (s.sendConfig n ver sw).regs = s.regs ∧ (s.sendConfig n ver sw).mirror = s.mirror ∧
    (s.sendConfig n ver sw).laneA = s.laneA ∧ (s.sendConfig n ver sw).laneB = s.laneB ∧
    (s.sendConfig n ver sw).mod = s.mod ∧ (s.sendConfig n ver sw).host = s.host ∧
    (s.sendConfig n ver sw).eic = s.eic ∧ (s.sendConfig n ver sw).journal = s.journal ∧
    (s.sendConfig n ver sw).faults = s.faults ∧ (s.sendConfig n ver sw).duplex = s.duplex ∧
    (s.sendConfig n ver sw).aux = s.aux ∧ (s.sendConfig n ver sw).field = s.field ∧
    (s.sendConfig n ver sw).safe = s.safe ∧ (s.sendConfig n ver sw).clock = s.clock ∧
    (s.sendConfig n ver sw).grp = s.grp ∧ (s.sendConfig n ver sw).sec = s.sec ∧
    (s.sendConfig n ver sw).power = s.power := by
  simp [State.sendConfig]

@[simp] theorem State.tlmFlag_frame (s : State) (n code : Nat) (on : Bool) :
    (s.tlmFlag n code on).pending = s.pending ∧ (s.tlmFlag n code on).now = s.now ∧
    (s.tlmFlag n code on).free = s.free ∧ (s.tlmFlag n code on).readData = s.readData ∧
    (s.tlmFlag n code on).mirror = s.mirror ∧ (s.tlmFlag n code on).host = s.host ∧
    (s.tlmFlag n code on).clock = s.clock ∧ (s.tlmFlag n code on).grp = s.grp ∧ (s.tlmFlag n code on).sec = s.sec ∧
    (s.tlmFlag n code on).mod.tally = s.mod.tally := by
  simp [State.tlmFlag]

@[simp] theorem State.negotiateThread_frame (s : State) (t : Nat) :
    (s.negotiateThread t).pending = s.pending ∧ (s.negotiateThread t).now = s.now ∧
    (s.negotiateThread t).free = s.free ∧ (s.negotiateThread t).readData = s.readData ∧
    (s.negotiateThread t).mirror = s.mirror ∧ (s.negotiateThread t).mod = s.mod ∧
    (s.negotiateThread t).host = s.host ∧ (s.negotiateThread t).journal = s.journal ∧
    (s.negotiateThread t).faults = s.faults ∧ (s.negotiateThread t).duplex = s.duplex ∧
    (s.negotiateThread t).aux = s.aux ∧ (s.negotiateThread t).field = s.field ∧
    (s.negotiateThread t).safe = s.safe ∧ (s.negotiateThread t).clock = s.clock ∧
    (s.negotiateThread t).grp = s.grp ∧ (s.negotiateThread t).sec = s.sec ∧
    (s.negotiateThread t).power = s.power := by
  simp [State.negotiateThread]

@[simp] theorem State.linkUp_frame (s : State) (n st d : Nat) :
    (s.linkUp n st d).pending = s.pending ∧ (s.linkUp n st d).now = s.now ∧ (s.linkUp n st d).free = s.free ∧
    (s.linkUp n st d).readData = s.readData ∧ (s.linkUp n st d).mirror = s.mirror ∧ (s.linkUp n st d).mod = s.mod ∧
    (s.linkUp n st d).host = s.host ∧ (s.linkUp n st d).faults = s.faults ∧ (s.linkUp n st d).duplex = s.duplex ∧
    (s.linkUp n st d).aux = s.aux ∧ (s.linkUp n st d).field = s.field ∧ (s.linkUp n st d).safe = s.safe ∧
    (s.linkUp n st d).clock = s.clock ∧ (s.linkUp n st d).grp = s.grp ∧ (s.linkUp n st d).sec = s.sec ∧
    (s.linkUp n st d).power = s.power := by
  simp [State.linkUp]

end Sys2Proof.Machine
end

