-- ==== Sys2Proof/Laws/RingsFrames.lean ====
section
/-! SUPPORT. What the operations of Machine/Rings.lean leave alone: for each, the parts of the state that it keeps. -/
namespace Sys2Proof.Machine

@[simp] theorem State.enableQueue_frame (s : State) (kind : QueueKind) (q : Nat) :
    (s.enableQueue kind q).pending = s.pending ∧ (s.enableQueue kind q).now = s.now ∧
    (s.enableQueue kind q).free = s.free ∧ (s.enableQueue kind q).readData = s.readData ∧
    (s.enableQueue kind q).mirror = s.mirror ∧ (s.enableQueue kind q).mod = s.mod ∧
    (s.enableQueue kind q).eic = s.eic ∧ (s.enableQueue kind q).journal = s.journal ∧
    (s.enableQueue kind q).faults = s.faults ∧ (s.enableQueue kind q).duplex = s.duplex ∧
    (s.enableQueue kind q).gl = s.gl ∧ (s.enableQueue kind q).aux = s.aux ∧ (s.enableQueue kind q).field = s.field ∧
    (s.enableQueue kind q).safe = s.safe ∧ (s.enableQueue kind q).clock = s.clock ∧
    (s.enableQueue kind q).grp = s.grp ∧ (s.enableQueue kind q).sec = s.sec ∧
    (s.enableQueue kind q).power = s.power := by
  simp only [State.enableQueue]
  (repeat' split) <;> simp

@[simp] theorem State.disableQueue_frame (s : State) (kind : QueueKind) (q : Nat) :
    (s.disableQueue kind q).pending = s.pending ∧ (s.disableQueue kind q).now = s.now ∧
    (s.disableQueue kind q).free = s.free ∧ (s.disableQueue kind q).readData = s.readData ∧
    (s.disableQueue kind q).mirror = s.mirror ∧ (s.disableQueue kind q).mod = s.mod ∧
    (s.disableQueue kind q).host = s.host ∧ (s.disableQueue kind q).eic = s.eic ∧
    (s.disableQueue kind q).journal = s.journal ∧ (s.disableQueue kind q).faults = s.faults ∧
    (s.disableQueue kind q).duplex = s.duplex ∧ (s.disableQueue kind q).gl = s.gl ∧
    (s.disableQueue kind q).aux = s.aux ∧ (s.disableQueue kind q).field = s.field ∧
    (s.disableQueue kind q).safe = s.safe ∧ (s.disableQueue kind q).clock = s.clock ∧
    (s.disableQueue kind q).grp = s.grp ∧ (s.disableQueue kind q).sec = s.sec ∧
    (s.disableQueue kind q).power = s.power := by
  simp only [State.disableQueue]
  (repeat' split) <;> simp

@[simp] theorem State.queueFault_frame (s : State) (kind : QueueKind) (q cause : Nat) :
    (s.queueFault kind q cause).pending = s.pending ∧ (s.queueFault kind q cause).now = s.now ∧
    (s.queueFault kind q cause).free = s.free ∧ (s.queueFault kind q cause).readData = s.readData ∧
    (s.queueFault kind q cause).mirror = s.mirror ∧ (s.queueFault kind q cause).mod = s.mod ∧
    (s.queueFault kind q cause).host = s.host ∧ (s.queueFault kind q cause).journal = s.journal ∧
    (s.queueFault kind q cause).faults = s.faults ∧ (s.queueFault kind q cause).duplex = s.duplex ∧
    (s.queueFault kind q cause).gl = s.gl ∧ (s.queueFault kind q cause).aux = s.aux ∧
    (s.queueFault kind q cause).field = s.field ∧ (s.queueFault kind q cause).safe = s.safe ∧
    (s.queueFault kind q cause).clock = s.clock ∧ (s.queueFault kind q cause).grp = s.grp ∧
    (s.queueFault kind q cause).sec = s.sec ∧ (s.queueFault kind q cause).power = s.power := by
  simp only [State.queueFault]
  (repeat' split) <;> simp

@[simp] theorem State.dmaWrite_frame (s : State) (addr : DWord) (bytes : List Byte) :
    (s.dmaWrite addr bytes).pending = s.pending ∧ (s.dmaWrite addr bytes).now = s.now ∧
    (s.dmaWrite addr bytes).free = s.free ∧ (s.dmaWrite addr bytes).readData = s.readData ∧
    (s.dmaWrite addr bytes).regs = s.regs ∧ (s.dmaWrite addr bytes).mirror = s.mirror ∧
    (s.dmaWrite addr bytes).laneA = s.laneA ∧ (s.dmaWrite addr bytes).laneB = s.laneB ∧
    (s.dmaWrite addr bytes).mod = s.mod ∧ (s.dmaWrite addr bytes).eic = s.eic ∧
    (s.dmaWrite addr bytes).journal = s.journal ∧ (s.dmaWrite addr bytes).faults = s.faults ∧
    (s.dmaWrite addr bytes).duplex = s.duplex ∧ (s.dmaWrite addr bytes).gl = s.gl ∧
    (s.dmaWrite addr bytes).aux = s.aux ∧ (s.dmaWrite addr bytes).field = s.field ∧
    (s.dmaWrite addr bytes).safe = s.safe ∧ (s.dmaWrite addr bytes).clock = s.clock ∧
    (s.dmaWrite addr bytes).grp = s.grp ∧ (s.dmaWrite addr bytes).sec = s.sec ∧
    (s.dmaWrite addr bytes).power = s.power := by
  simp [State.dmaWrite]

@[simp] theorem State.noteErr_frame (s : State) (c : Cmd) (r : Result) :
    (s.noteErr c r).pending = s.pending ∧ (s.noteErr c r).now = s.now ∧ (s.noteErr c r).free = s.free ∧
    (s.noteErr c r).readData = s.readData ∧ (s.noteErr c r).mirror = s.mirror ∧ (s.noteErr c r).laneA = s.laneA ∧
    (s.noteErr c r).laneB = s.laneB ∧ (s.noteErr c r).mod = s.mod ∧ (s.noteErr c r).host = s.host ∧
    (s.noteErr c r).eic = s.eic ∧ (s.noteErr c r).journal = s.journal ∧ (s.noteErr c r).faults = s.faults ∧
    (s.noteErr c r).duplex = s.duplex ∧ (s.noteErr c r).gl = s.gl ∧ (s.noteErr c r).aux = s.aux ∧
    (s.noteErr c r).field = s.field ∧ (s.noteErr c r).safe = s.safe ∧ (s.noteErr c r).clock = s.clock ∧
    (s.noteErr c r).grp = s.grp ∧ (s.noteErr c r).sec = s.sec ∧ (s.noteErr c r).power = s.power := by
  simp [State.noteErr]

@[simp] theorem State.freeTag_frame (s : State) (c : Cmd) :
    (s.freeTag c).pending = s.pending ∧ (s.freeTag c).now = s.now ∧ (s.freeTag c).free = s.free ∧
    (s.freeTag c).readData = s.readData ∧ (s.freeTag c).mirror = s.mirror ∧ (s.freeTag c).laneA = s.laneA ∧
    (s.freeTag c).laneB = s.laneB ∧ (s.freeTag c).mod = s.mod ∧ (s.freeTag c).host = s.host ∧
    (s.freeTag c).eic = s.eic ∧ (s.freeTag c).journal = s.journal ∧ (s.freeTag c).faults = s.faults ∧
    (s.freeTag c).duplex = s.duplex ∧ (s.freeTag c).gl = s.gl ∧ (s.freeTag c).aux = s.aux ∧
    (s.freeTag c).field = s.field ∧ (s.freeTag c).safe = s.safe ∧ (s.freeTag c).clock = s.clock ∧
    (s.freeTag c).grp = s.grp ∧ (s.freeTag c).sec = s.sec ∧ (s.freeTag c).power = s.power := by
  simp [State.freeTag]

@[simp] theorem State.modRing_frame (s : State) (r : Nat) (f : StrRing → StrRing) :
    (s.modRing r f).pending = s.pending ∧ (s.modRing r f).now = s.now ∧ (s.modRing r f).free = s.free ∧
    (s.modRing r f).readData = s.readData ∧ (s.modRing r f).regs = s.regs ∧ (s.modRing r f).mirror = s.mirror ∧
    (s.modRing r f).laneA = s.laneA ∧ (s.modRing r f).laneB = s.laneB ∧ (s.modRing r f).mod = s.mod ∧
    (s.modRing r f).eic = s.eic ∧ (s.modRing r f).journal = s.journal ∧ (s.modRing r f).faults = s.faults ∧
    (s.modRing r f).duplex = s.duplex ∧ (s.modRing r f).gl = s.gl ∧ (s.modRing r f).aux = s.aux ∧
    (s.modRing r f).field = s.field ∧ (s.modRing r f).safe = s.safe ∧ (s.modRing r f).clock = s.clock ∧
    (s.modRing r f).grp = s.grp ∧ (s.modRing r f).sec = s.sec ∧ (s.modRing r f).power = s.power := by
  simp [State.modRing]

@[simp] theorem State.nextEntry_frame (s : State) (r : Nat) :
    (s.nextEntry r).pending = s.pending ∧ (s.nextEntry r).now = s.now ∧ (s.nextEntry r).free = s.free ∧
    (s.nextEntry r).readData = s.readData ∧ (s.nextEntry r).mirror = s.mirror ∧ (s.nextEntry r).laneA = s.laneA ∧
    (s.nextEntry r).laneB = s.laneB ∧ (s.nextEntry r).mod = s.mod ∧ (s.nextEntry r).host = s.host ∧
    (s.nextEntry r).eic = s.eic ∧ (s.nextEntry r).journal = s.journal ∧ (s.nextEntry r).faults = s.faults ∧
    (s.nextEntry r).duplex = s.duplex ∧ (s.nextEntry r).gl = s.gl ∧ (s.nextEntry r).aux = s.aux ∧
    (s.nextEntry r).field = s.field ∧ (s.nextEntry r).safe = s.safe ∧ (s.nextEntry r).clock = s.clock ∧
    (s.nextEntry r).grp = s.grp ∧ (s.nextEntry r).sec = s.sec ∧ (s.nextEntry r).power = s.power := by
  simp [State.nextEntry]

@[simp] theorem State.writeEntry_frame (s : State) (r : Nat) (addr : DWord) (x : StrEntry) :
    (s.writeEntry r addr x).pending = s.pending ∧ (s.writeEntry r addr x).now = s.now ∧
    (s.writeEntry r addr x).free = s.free ∧ (s.writeEntry r addr x).readData = s.readData ∧
    (s.writeEntry r addr x).mirror = s.mirror ∧ (s.writeEntry r addr x).mod = s.mod ∧
    (s.writeEntry r addr x).journal = s.journal ∧ (s.writeEntry r addr x).faults = s.faults ∧
    (s.writeEntry r addr x).duplex = s.duplex ∧ (s.writeEntry r addr x).gl = s.gl ∧
    (s.writeEntry r addr x).aux = s.aux ∧ (s.writeEntry r addr x).field = s.field ∧
    (s.writeEntry r addr x).safe = s.safe ∧ (s.writeEntry r addr x).clock = s.clock ∧
    (s.writeEntry r addr x).grp = s.grp ∧ (s.writeEntry r addr x).sec = s.sec ∧
    (s.writeEntry r addr x).power = s.power := by
  simp [State.writeEntry]

@[simp] theorem State.complete_frame (s : State) (c : Cmd) (r : Result) :
    (s.complete c r).pending = s.pending ∧ (s.complete c r).now = s.now ∧ (s.complete c r).free = s.free ∧
    (s.complete c r).readData = s.readData ∧ (s.complete c r).mirror = s.mirror ∧ (s.complete c r).mod = s.mod ∧
    (s.complete c r).journal = s.journal ∧ (s.complete c r).faults = s.faults ∧ (s.complete c r).duplex = s.duplex ∧
    (s.complete c r).gl = s.gl ∧ (s.complete c r).aux = s.aux ∧ (s.complete c r).field = s.field ∧
    (s.complete c r).safe = s.safe ∧ (s.complete c r).clock = s.clock ∧ (s.complete c r).grp = s.grp ∧
    (s.complete c r).power = s.power ∧ (s.complete c r).sec.identity = s.sec.identity := by
  simp [State.complete]

@[simp] theorem State.putRec_frame (s : State) (r : Nat) (b : OpenBuf) (x : StrRec) :
    (s.putRec r b x).pending = s.pending ∧ (s.putRec r b x).now = s.now ∧ (s.putRec r b x).free = s.free ∧
    (s.putRec r b x).readData = s.readData ∧ (s.putRec r b x).regs = s.regs ∧ (s.putRec r b x).mirror = s.mirror ∧
    (s.putRec r b x).laneA = s.laneA ∧ (s.putRec r b x).laneB = s.laneB ∧ (s.putRec r b x).mod = s.mod ∧
    (s.putRec r b x).eic = s.eic ∧ (s.putRec r b x).journal = s.journal ∧ (s.putRec r b x).faults = s.faults ∧
    (s.putRec r b x).duplex = s.duplex ∧ (s.putRec r b x).gl = s.gl ∧ (s.putRec r b x).aux = s.aux ∧
    (s.putRec r b x).field = s.field ∧ (s.putRec r b x).safe = s.safe ∧ (s.putRec r b x).clock = s.clock ∧
    (s.putRec r b x).grp = s.grp ∧ (s.putRec r b x).sec = s.sec ∧ (s.putRec r b x).power = s.power := by
  simp [State.putRec]

@[simp] theorem State.closeBuf_frame (s : State) (r : Nat) (flushed : Bool) :
    (s.closeBuf r flushed).pending = s.pending ∧ (s.closeBuf r flushed).now = s.now ∧
    (s.closeBuf r flushed).free = s.free ∧ (s.closeBuf r flushed).readData = s.readData ∧
    (s.closeBuf r flushed).mirror = s.mirror ∧ (s.closeBuf r flushed).mod = s.mod ∧
    (s.closeBuf r flushed).journal = s.journal ∧ (s.closeBuf r flushed).faults = s.faults ∧
    (s.closeBuf r flushed).duplex = s.duplex ∧ (s.closeBuf r flushed).gl = s.gl ∧
    (s.closeBuf r flushed).aux = s.aux ∧ (s.closeBuf r flushed).field = s.field ∧
    (s.closeBuf r flushed).safe = s.safe ∧ (s.closeBuf r flushed).clock = s.clock ∧
    (s.closeBuf r flushed).grp = s.grp ∧ (s.closeBuf r flushed).sec = s.sec ∧
    (s.closeBuf r flushed).power = s.power := by
  simp only [State.closeBuf]
  (repeat' split) <;> simp

@[simp] theorem State.openBuf_frame (s : State) (r : Nat) :
    (s.openBuf r).pending = s.pending ∧ (s.openBuf r).now = s.now ∧ (s.openBuf r).free = s.free ∧
    (s.openBuf r).readData = s.readData ∧ (s.openBuf r).mirror = s.mirror ∧ (s.openBuf r).laneA = s.laneA ∧
    (s.openBuf r).laneB = s.laneB ∧ (s.openBuf r).mod = s.mod ∧ (s.openBuf r).eic = s.eic ∧
    (s.openBuf r).journal = s.journal ∧ (s.openBuf r).faults = s.faults ∧ (s.openBuf r).duplex = s.duplex ∧
    (s.openBuf r).gl = s.gl ∧ (s.openBuf r).aux = s.aux ∧ (s.openBuf r).field = s.field ∧
    (s.openBuf r).safe = s.safe ∧ (s.openBuf r).clock = s.clock ∧ (s.openBuf r).grp = s.grp ∧
    (s.openBuf r).sec = s.sec ∧ (s.openBuf r).power = s.power := by
  simp only [State.openBuf]
  (repeat' split) <;> simp

end Sys2Proof.Machine
end

