-- ==== Sys2Proof/Laws/TrajFrames.lean ====
section
/-! SUPPORT. What the operations of Machine/Traj.lean leave alone: for each, the parts of the state that it keeps. -/
namespace Sys2Proof.Machine

@[simp] theorem State.unitBoundary_frame (s : State) (i : LaneId) (u : Nat) :
    (s.unitBoundary i u).pending = s.pending ∧ (s.unitBoundary i u).now = s.now ∧
    (s.unitBoundary i u).free = s.free ∧ (s.unitBoundary i u).readData = s.readData ∧
    (s.unitBoundary i u).mirror = s.mirror ∧ (s.unitBoundary i u).mod = s.mod ∧ (s.unitBoundary i u).host = s.host ∧
    (s.unitBoundary i u).journal = s.journal ∧ (s.unitBoundary i u).faults = s.faults ∧
    (s.unitBoundary i u).gl = s.gl ∧ (s.unitBoundary i u).aux = s.aux ∧ (s.unitBoundary i u).field = s.field ∧
    (s.unitBoundary i u).safe = s.safe ∧ (s.unitBoundary i u).clock = s.clock ∧ (s.unitBoundary i u).grp = s.grp ∧
    (s.unitBoundary i u).sec = s.sec ∧ (s.unitBoundary i u).power = s.power := by
  simp [State.unitBoundary]

@[simp] theorem State.trajBoundary_frame (s : State) :
    s.trajBoundary.pending = s.pending ∧ s.trajBoundary.now = s.now ∧ s.trajBoundary.free = s.free ∧
    s.trajBoundary.readData = s.readData ∧ s.trajBoundary.mirror = s.mirror ∧ s.trajBoundary.mod = s.mod ∧
    s.trajBoundary.host = s.host ∧ s.trajBoundary.journal = s.journal ∧ s.trajBoundary.faults = s.faults ∧
    s.trajBoundary.gl = s.gl ∧ s.trajBoundary.aux = s.aux ∧ s.trajBoundary.field = s.field ∧
    s.trajBoundary.safe = s.safe ∧ s.trajBoundary.clock = s.clock ∧ s.trajBoundary.grp = s.grp ∧
    s.trajBoundary.sec = s.sec ∧ s.trajBoundary.power = s.power := by
  simp [State.trajBoundary]

end Sys2Proof.Machine
end

