-- ==== Sys2Proof/Laws/RegCheckFrames.lean ====
section
/-! SUPPORT. What the operations of Machine/RegCheck.lean leave alone: for each, the parts of the state that it keeps. -/
namespace Sys2Proof.Machine

@[simp] theorem State.mergeWords_frame (s : State) (off : Nat) (v : Word) :
    (s.mergeWords off v).pending = s.pending ∧ (s.mergeWords off v).now = s.now ∧
    (s.mergeWords off v).free = s.free ∧ (s.mergeWords off v).readData = s.readData ∧
    (s.mergeWords off v).mirror = s.mirror ∧ (s.mergeWords off v).mod = s.mod ∧ (s.mergeWords off v).host = s.host ∧
    (s.mergeWords off v).eic = s.eic ∧ (s.mergeWords off v).journal = s.journal ∧
    (s.mergeWords off v).faults = s.faults ∧ (s.mergeWords off v).duplex = s.duplex ∧
    (s.mergeWords off v).gl = s.gl ∧ (s.mergeWords off v).aux = s.aux ∧ (s.mergeWords off v).field = s.field ∧
    (s.mergeWords off v).safe = s.safe ∧ (s.mergeWords off v).clock = s.clock ∧ (s.mergeWords off v).grp = s.grp ∧
    (s.mergeWords off v).sec = s.sec ∧ (s.mergeWords off v).power = s.power := by
  simp [State.mergeWords]

end Sys2Proof.Machine
end

