-- ==== Sys2Proof/Laws/RegCommitFrames.lean ====
section
/-! SUPPORT. What the operations of Machine/RegCommit.lean leave alone: for each, the parts of the state that it keeps. -/
namespace Sys2Proof.Machine

@[simp] theorem orStay_next (s t : State) : orStay s (.next t) = t := (rfl)

@[simp] theorem execTimeIncNs_frame (who : Writer) (v : Word) (s : State) :
    (orStay s (execTimeIncNs who v s)).pending = s.pending ∧ (orStay s (execTimeIncNs who v s)).now = s.now ∧
    (orStay s (execTimeIncNs who v s)).free = s.free ∧ (orStay s (execTimeIncNs who v s)).readData = s.readData ∧
    (orStay s (execTimeIncNs who v s)).mirror = s.mirror ∧ (orStay s (execTimeIncNs who v s)).mod = s.mod ∧
    (orStay s (execTimeIncNs who v s)).host = s.host ∧ (orStay s (execTimeIncNs who v s)).journal = s.journal ∧
    (orStay s (execTimeIncNs who v s)).faults = s.faults ∧ (orStay s (execTimeIncNs who v s)).duplex = s.duplex ∧
    (orStay s (execTimeIncNs who v s)).gl = s.gl ∧ (orStay s (execTimeIncNs who v s)).aux = s.aux ∧
    (orStay s (execTimeIncNs who v s)).field = s.field ∧ (orStay s (execTimeIncNs who v s)).safe = s.safe ∧
    (orStay s (execTimeIncNs who v s)).grp = s.grp ∧ (orStay s (execTimeIncNs who v s)).sec = s.sec ∧
    (orStay s (execTimeIncNs who v s)).power = s.power := by
  simp only [execTimeIncNs, State.afterBoot, State.heardWrite]
  (repeat' split) <;> simp

@[simp] theorem execTimeNowNsRead_frame (who : Requester) (s : State) :
    (orStay s (execTimeNowNsRead who s)).pending = s.pending ∧ (orStay s (execTimeNowNsRead who s)).now = s.now ∧
    (orStay s (execTimeNowNsRead who s)).free = s.free ∧ (orStay s (execTimeNowNsRead who s)).regs = s.regs ∧
    (orStay s (execTimeNowNsRead who s)).mirror = s.mirror ∧ (orStay s (execTimeNowNsRead who s)).laneA = s.laneA ∧
    (orStay s (execTimeNowNsRead who s)).laneB = s.laneB ∧ (orStay s (execTimeNowNsRead who s)).mod = s.mod ∧
    (orStay s (execTimeNowNsRead who s)).host = s.host ∧ (orStay s (execTimeNowNsRead who s)).eic = s.eic ∧
    (orStay s (execTimeNowNsRead who s)).journal = s.journal ∧
    (orStay s (execTimeNowNsRead who s)).faults = s.faults ∧
    (orStay s (execTimeNowNsRead who s)).duplex = s.duplex ∧ (orStay s (execTimeNowNsRead who s)).gl = s.gl ∧
    (orStay s (execTimeNowNsRead who s)).aux = s.aux ∧ (orStay s (execTimeNowNsRead who s)).field = s.field ∧
    (orStay s (execTimeNowNsRead who s)).safe = s.safe ∧ (orStay s (execTimeNowNsRead who s)).grp = s.grp ∧
    (orStay s (execTimeNowNsRead who s)).sec = s.sec ∧ (orStay s (execTimeNowNsRead who s)).power = s.power := by
  simp only [execTimeNowNsRead, State.readAfterBoot]
  (repeat' split) <;> simp

@[simp] theorem execSyncWrite_frame (who : Writer) (v : Word) (s : State) :
    (orStay s (execSyncWrite who v s)).pending = s.pending ∧ (orStay s (execSyncWrite who v s)).now = s.now ∧
    (orStay s (execSyncWrite who v s)).free = s.free ∧ (orStay s (execSyncWrite who v s)).readData = s.readData ∧
    (orStay s (execSyncWrite who v s)).mirror = s.mirror ∧ (orStay s (execSyncWrite who v s)).mod = s.mod ∧
    (orStay s (execSyncWrite who v s)).host = s.host ∧ (orStay s (execSyncWrite who v s)).journal = s.journal ∧
    (orStay s (execSyncWrite who v s)).faults = s.faults ∧ (orStay s (execSyncWrite who v s)).duplex = s.duplex ∧
    (orStay s (execSyncWrite who v s)).gl = s.gl ∧ (orStay s (execSyncWrite who v s)).aux = s.aux ∧
    (orStay s (execSyncWrite who v s)).field = s.field ∧ (orStay s (execSyncWrite who v s)).safe = s.safe ∧
    (orStay s (execSyncWrite who v s)).clock = s.clock ∧ (orStay s (execSyncWrite who v s)).grp = s.grp ∧
    (orStay s (execSyncWrite who v s)).sec = s.sec ∧ (orStay s (execSyncWrite who v s)).power = s.power := by
  simp only [execSyncWrite, State.afterBoot, State.heardWrite]
  (repeat' split) <;> simp

@[simp] theorem execCmpArm_frame (who : Writer) (c : Nat) (v : Word) (s : State) :
    (orStay s (execCmpArm who c v s)).pending = s.pending ∧ (orStay s (execCmpArm who c v s)).now = s.now ∧
    (orStay s (execCmpArm who c v s)).free = s.free ∧ (orStay s (execCmpArm who c v s)).readData = s.readData ∧
    (orStay s (execCmpArm who c v s)).mirror = s.mirror ∧ (orStay s (execCmpArm who c v s)).mod = s.mod ∧
    (orStay s (execCmpArm who c v s)).host = s.host ∧ (orStay s (execCmpArm who c v s)).journal = s.journal ∧
    (orStay s (execCmpArm who c v s)).faults = s.faults ∧ (orStay s (execCmpArm who c v s)).duplex = s.duplex ∧
    (orStay s (execCmpArm who c v s)).gl = s.gl ∧ (orStay s (execCmpArm who c v s)).aux = s.aux ∧
    (orStay s (execCmpArm who c v s)).field = s.field ∧ (orStay s (execCmpArm who c v s)).safe = s.safe ∧
    (orStay s (execCmpArm who c v s)).grp = s.grp ∧ (orStay s (execCmpArm who c v s)).sec = s.sec ∧
    (orStay s (execCmpArm who c v s)).power = s.power := by
  simp only [execCmpArm, State.afterBoot, State.heardWrite]
  (repeat' split) <;> simp

@[simp] theorem execCmpTargetWrite_frame (who : Writer) (c : Nat) (part : CmpPart) (v : Word) (s : State) :
    (orStay s (execCmpTargetWrite who c part v s)).pending = s.pending ∧
    (orStay s (execCmpTargetWrite who c part v s)).now = s.now ∧
    (orStay s (execCmpTargetWrite who c part v s)).free = s.free ∧
    (orStay s (execCmpTargetWrite who c part v s)).readData = s.readData ∧
    (orStay s (execCmpTargetWrite who c part v s)).mirror = s.mirror ∧
    (orStay s (execCmpTargetWrite who c part v s)).mod = s.mod ∧
    (orStay s (execCmpTargetWrite who c part v s)).host = s.host ∧
    (orStay s (execCmpTargetWrite who c part v s)).journal = s.journal ∧
    (orStay s (execCmpTargetWrite who c part v s)).faults = s.faults ∧
    (orStay s (execCmpTargetWrite who c part v s)).duplex = s.duplex ∧
    (orStay s (execCmpTargetWrite who c part v s)).gl = s.gl ∧
    (orStay s (execCmpTargetWrite who c part v s)).aux = s.aux ∧
    (orStay s (execCmpTargetWrite who c part v s)).field = s.field ∧
    (orStay s (execCmpTargetWrite who c part v s)).safe = s.safe ∧
    (orStay s (execCmpTargetWrite who c part v s)).grp = s.grp ∧
    (orStay s (execCmpTargetWrite who c part v s)).sec = s.sec ∧
    (orStay s (execCmpTargetWrite who c part v s)).power = s.power := by
  simp only [execCmpTargetWrite, State.afterBoot, State.heardWrite]
  (repeat' split) <;> simp

@[simp] theorem execPtpStampRead_frame (p : Nat) (s : State) :
    (orStay s (execPtpStampRead p s)).pending = s.pending ∧ (orStay s (execPtpStampRead p s)).now = s.now ∧
    (orStay s (execPtpStampRead p s)).free = s.free ∧ (orStay s (execPtpStampRead p s)).mirror = s.mirror ∧
    (orStay s (execPtpStampRead p s)).laneA = s.laneA ∧ (orStay s (execPtpStampRead p s)).laneB = s.laneB ∧
    (orStay s (execPtpStampRead p s)).mod = s.mod ∧ (orStay s (execPtpStampRead p s)).host = s.host ∧
    (orStay s (execPtpStampRead p s)).eic = s.eic ∧ (orStay s (execPtpStampRead p s)).journal = s.journal ∧
    (orStay s (execPtpStampRead p s)).faults = s.faults ∧ (orStay s (execPtpStampRead p s)).duplex = s.duplex ∧
    (orStay s (execPtpStampRead p s)).gl = s.gl ∧ (orStay s (execPtpStampRead p s)).aux = s.aux ∧
    (orStay s (execPtpStampRead p s)).field = s.field ∧ (orStay s (execPtpStampRead p s)).safe = s.safe ∧
    (orStay s (execPtpStampRead p s)).grp = s.grp ∧ (orStay s (execPtpStampRead p s)).sec = s.sec ∧
    (orStay s (execPtpStampRead p s)).power = s.power := by
  simp only [execPtpStampRead, State.readAfterBoot]
  (repeat' split) <;> simp

@[simp] theorem execClaim_frame (t : Target) (s : State) :
    (orStay s (execClaim t s)).pending = s.pending ∧ (orStay s (execClaim t s)).now = s.now ∧
    (orStay s (execClaim t s)).free = s.free ∧ (orStay s (execClaim t s)).mirror = s.mirror ∧
    (orStay s (execClaim t s)).mod = s.mod ∧ (orStay s (execClaim t s)).host = s.host ∧
    (orStay s (execClaim t s)).journal = s.journal ∧ (orStay s (execClaim t s)).faults = s.faults ∧
    (orStay s (execClaim t s)).duplex = s.duplex ∧ (orStay s (execClaim t s)).gl = s.gl ∧
    (orStay s (execClaim t s)).aux = s.aux ∧ (orStay s (execClaim t s)).field = s.field ∧
    (orStay s (execClaim t s)).safe = s.safe ∧ (orStay s (execClaim t s)).clock = s.clock ∧
    (orStay s (execClaim t s)).grp = s.grp ∧ (orStay s (execClaim t s)).sec = s.sec ∧
    (orStay s (execClaim t s)).power = s.power := by
  simp only [execClaim, State.readAfterBoot]
  (repeat' split) <;> simp

@[simp] theorem execComplete_frame (t : Target) (id : Nat) (s : State) :
    (orStay s (execComplete t id s)).pending = s.pending ∧ (orStay s (execComplete t id s)).now = s.now ∧
    (orStay s (execComplete t id s)).free = s.free ∧ (orStay s (execComplete t id s)).readData = s.readData ∧
    (orStay s (execComplete t id s)).mirror = s.mirror ∧ (orStay s (execComplete t id s)).mod = s.mod ∧
    (orStay s (execComplete t id s)).host = s.host ∧ (orStay s (execComplete t id s)).journal = s.journal ∧
    (orStay s (execComplete t id s)).faults = s.faults ∧ (orStay s (execComplete t id s)).duplex = s.duplex ∧
    (orStay s (execComplete t id s)).gl = s.gl ∧ (orStay s (execComplete t id s)).aux = s.aux ∧
    (orStay s (execComplete t id s)).field = s.field ∧ (orStay s (execComplete t id s)).safe = s.safe ∧
    (orStay s (execComplete t id s)).clock = s.clock ∧ (orStay s (execComplete t id s)).grp = s.grp ∧
    (orStay s (execComplete t id s)).sec = s.sec ∧ (orStay s (execComplete t id s)).power = s.power := by
  simp only [execComplete, State.afterBoot]
  (repeat' split) <;> simp

@[simp] theorem execPendWrite_frame (j : Nat) (v : Word) (s : State) :
    (orStay s (execPendWrite j v s)).pending = s.pending ∧ (orStay s (execPendWrite j v s)).now = s.now ∧
    (orStay s (execPendWrite j v s)).free = s.free ∧ (orStay s (execPendWrite j v s)).readData = s.readData ∧
    (orStay s (execPendWrite j v s)).mirror = s.mirror ∧ (orStay s (execPendWrite j v s)).mod = s.mod ∧
    (orStay s (execPendWrite j v s)).host = s.host ∧ (orStay s (execPendWrite j v s)).journal = s.journal ∧
    (orStay s (execPendWrite j v s)).faults = s.faults ∧ (orStay s (execPendWrite j v s)).gl = s.gl ∧
    (orStay s (execPendWrite j v s)).aux = s.aux ∧ (orStay s (execPendWrite j v s)).field = s.field ∧
    (orStay s (execPendWrite j v s)).safe = s.safe ∧ (orStay s (execPendWrite j v s)).clock = s.clock ∧
    (orStay s (execPendWrite j v s)).grp = s.grp ∧ (orStay s (execPendWrite j v s)).sec = s.sec ∧
    (orStay s (execPendWrite j v s)).power = s.power := by
  simp only [execPendWrite, State.afterBoot]
  (repeat' split) <;> simp

@[simp] theorem execVecIdle_frame (v : Nat) (w : Word) (s : State) :
    (orStay s (execVecIdle v w s)).pending = s.pending ∧ (orStay s (execVecIdle v w s)).now = s.now ∧
    (orStay s (execVecIdle v w s)).free = s.free ∧ (orStay s (execVecIdle v w s)).readData = s.readData ∧
    (orStay s (execVecIdle v w s)).mirror = s.mirror ∧ (orStay s (execVecIdle v w s)).laneA = s.laneA ∧
    (orStay s (execVecIdle v w s)).laneB = s.laneB ∧ (orStay s (execVecIdle v w s)).mod = s.mod ∧
    (orStay s (execVecIdle v w s)).host = s.host ∧ (orStay s (execVecIdle v w s)).journal = s.journal ∧
    (orStay s (execVecIdle v w s)).faults = s.faults ∧ (orStay s (execVecIdle v w s)).duplex = s.duplex ∧
    (orStay s (execVecIdle v w s)).gl = s.gl ∧ (orStay s (execVecIdle v w s)).aux = s.aux ∧
    (orStay s (execVecIdle v w s)).field = s.field ∧ (orStay s (execVecIdle v w s)).safe = s.safe ∧
    (orStay s (execVecIdle v w s)).clock = s.clock ∧ (orStay s (execVecIdle v w s)).grp = s.grp ∧
    (orStay s (execVecIdle v w s)).sec = s.sec ∧ (orStay s (execVecIdle v w s)).power = s.power := by
  simp only [execVecIdle, State.afterBoot]
  (repeat' split) <;> simp

@[simp] theorem execTimerWrite_frame (v : Word) (s : State) :
    (orStay s (execTimerWrite v s)).pending = s.pending ∧ (orStay s (execTimerWrite v s)).now = s.now ∧
    (orStay s (execTimerWrite v s)).free = s.free ∧ (orStay s (execTimerWrite v s)).readData = s.readData ∧
    (orStay s (execTimerWrite v s)).mirror = s.mirror ∧ (orStay s (execTimerWrite v s)).laneA = s.laneA ∧
    (orStay s (execTimerWrite v s)).laneB = s.laneB ∧ (orStay s (execTimerWrite v s)).mod = s.mod ∧
    (orStay s (execTimerWrite v s)).host = s.host ∧ (orStay s (execTimerWrite v s)).journal = s.journal ∧
    (orStay s (execTimerWrite v s)).faults = s.faults ∧ (orStay s (execTimerWrite v s)).duplex = s.duplex ∧
    (orStay s (execTimerWrite v s)).gl = s.gl ∧ (orStay s (execTimerWrite v s)).aux = s.aux ∧
    (orStay s (execTimerWrite v s)).field = s.field ∧ (orStay s (execTimerWrite v s)).safe = s.safe ∧
    (orStay s (execTimerWrite v s)).clock = s.clock ∧ (orStay s (execTimerWrite v s)).grp = s.grp ∧
    (orStay s (execTimerWrite v s)).sec = s.sec ∧ (orStay s (execTimerWrite v s)).power = s.power := by
  simp only [execTimerWrite, State.afterBoot]
  (repeat' split) <;> simp

@[simp] theorem execTsNsRead_frame (s : State) :
    (orStay s (execTsNsRead s)).pending = s.pending ∧ (orStay s (execTsNsRead s)).now = s.now ∧
    (orStay s (execTsNsRead s)).regs = s.regs ∧ (orStay s (execTsNsRead s)).mirror = s.mirror ∧
    (orStay s (execTsNsRead s)).laneA = s.laneA ∧ (orStay s (execTsNsRead s)).laneB = s.laneB ∧
    (orStay s (execTsNsRead s)).mod = s.mod ∧ (orStay s (execTsNsRead s)).host = s.host ∧
    (orStay s (execTsNsRead s)).eic = s.eic ∧ (orStay s (execTsNsRead s)).journal = s.journal ∧
    (orStay s (execTsNsRead s)).faults = s.faults ∧ (orStay s (execTsNsRead s)).duplex = s.duplex ∧
    (orStay s (execTsNsRead s)).gl = s.gl ∧ (orStay s (execTsNsRead s)).aux = s.aux ∧
    (orStay s (execTsNsRead s)).field = s.field ∧ (orStay s (execTsNsRead s)).safe = s.safe ∧
    (orStay s (execTsNsRead s)).clock = s.clock ∧ (orStay s (execTsNsRead s)).grp = s.grp ∧
    (orStay s (execTsNsRead s)).sec = s.sec ∧ (orStay s (execTsNsRead s)).power = s.power := by
  simp only [execTsNsRead, State.readAfterBoot]
  (repeat' split) <;> simp

@[simp] theorem execTsSRead_frame (s : State) :
    (orStay s (execTsSRead s)).pending = s.pending ∧ (orStay s (execTsSRead s)).now = s.now ∧
    (orStay s (execTsSRead s)).mirror = s.mirror ∧ (orStay s (execTsSRead s)).laneA = s.laneA ∧
    (orStay s (execTsSRead s)).laneB = s.laneB ∧ (orStay s (execTsSRead s)).mod = s.mod ∧
    (orStay s (execTsSRead s)).host = s.host ∧ (orStay s (execTsSRead s)).eic = s.eic ∧
    (orStay s (execTsSRead s)).journal = s.journal ∧ (orStay s (execTsSRead s)).faults = s.faults ∧
    (orStay s (execTsSRead s)).duplex = s.duplex ∧ (orStay s (execTsSRead s)).gl = s.gl ∧
    (orStay s (execTsSRead s)).aux = s.aux ∧ (orStay s (execTsSRead s)).safe = s.safe ∧
    (orStay s (execTsSRead s)).clock = s.clock ∧ (orStay s (execTsSRead s)).grp = s.grp ∧
    (orStay s (execTsSRead s)).sec = s.sec ∧ (orStay s (execTsSRead s)).power = s.power := by
  simp only [execTsSRead, State.readAfterBoot]
  (repeat' split) <;> simp

@[simp] theorem execIfEn_frame (v : Word) (s : State) :
    (orStay s (execIfEn v s)).pending = s.pending ∧ (orStay s (execIfEn v s)).now = s.now ∧
    (orStay s (execIfEn v s)).free = s.free ∧ (orStay s (execIfEn v s)).readData = s.readData ∧
    (orStay s (execIfEn v s)).mirror = s.mirror ∧ (orStay s (execIfEn v s)).laneA = s.laneA ∧
    (orStay s (execIfEn v s)).laneB = s.laneB ∧ (orStay s (execIfEn v s)).mod = s.mod ∧
    (orStay s (execIfEn v s)).host = s.host ∧ (orStay s (execIfEn v s)).eic = s.eic ∧
    (orStay s (execIfEn v s)).journal = s.journal ∧ (orStay s (execIfEn v s)).faults = s.faults ∧
    (orStay s (execIfEn v s)).duplex = s.duplex ∧ (orStay s (execIfEn v s)).gl = s.gl ∧
    (orStay s (execIfEn v s)).aux = s.aux ∧ (orStay s (execIfEn v s)).field = s.field ∧
    (orStay s (execIfEn v s)).safe = s.safe ∧ (orStay s (execIfEn v s)).clock = s.clock ∧
    (orStay s (execIfEn v s)).grp = s.grp ∧ (orStay s (execIfEn v s)).sec = s.sec ∧
    (orStay s (execIfEn v s)).power = s.power := by
  simp only [execIfEn, State.afterBoot]
  (repeat' split) <;> simp

@[simp] theorem execQueueEnable_frame (kind : QueueKind) (q : Nat) (v : Word) (s : State) :
    (orStay s (execQueueEnable kind q v s)).pending = s.pending ∧
    (orStay s (execQueueEnable kind q v s)).now = s.now ∧ (orStay s (execQueueEnable kind q v s)).free = s.free ∧
    (orStay s (execQueueEnable kind q v s)).readData = s.readData ∧
    (orStay s (execQueueEnable kind q v s)).mirror = s.mirror ∧
    (orStay s (execQueueEnable kind q v s)).mod = s.mod ∧ (orStay s (execQueueEnable kind q v s)).eic = s.eic ∧
    (orStay s (execQueueEnable kind q v s)).journal = s.journal ∧
    (orStay s (execQueueEnable kind q v s)).faults = s.faults ∧
    (orStay s (execQueueEnable kind q v s)).duplex = s.duplex ∧ (orStay s (execQueueEnable kind q v s)).gl = s.gl ∧
    (orStay s (execQueueEnable kind q v s)).aux = s.aux ∧ (orStay s (execQueueEnable kind q v s)).field = s.field ∧
    (orStay s (execQueueEnable kind q v s)).safe = s.safe ∧
    (orStay s (execQueueEnable kind q v s)).clock = s.clock ∧ (orStay s (execQueueEnable kind q v s)).grp = s.grp ∧
    (orStay s (execQueueEnable kind q v s)).sec = s.sec ∧
    (orStay s (execQueueEnable kind q v s)).power = s.power := by
  simp only [execQueueEnable, State.afterBoot]
  (repeat' split) <;> simp

@[simp] theorem execTripInput_frame (n : Nat) (level : Bool) (s : State) :
    (orStay s (execTripInput n level s)).pending = s.pending ∧ (orStay s (execTripInput n level s)).now = s.now ∧
    (orStay s (execTripInput n level s)).free = s.free ∧
    (orStay s (execTripInput n level s)).readData = s.readData ∧
    (orStay s (execTripInput n level s)).mirror = s.mirror ∧ (orStay s (execTripInput n level s)).host = s.host ∧
    (orStay s (execTripInput n level s)).clock = s.clock ∧ (orStay s (execTripInput n level s)).grp = s.grp ∧
    (orStay s (execTripInput n level s)).sec = s.sec ∧
    (orStay s (execTripInput n level s)).mod.tally = s.mod.tally := by
  simp [execTripInput]

@[simp] theorem State.writeRoute_frame (s : State) (off : Nat) (v : Word) :
    (s.writeRoute off v).pending = s.pending ∧ (s.writeRoute off v).now = s.now ∧
    (s.writeRoute off v).free = s.free ∧ (s.writeRoute off v).readData = s.readData ∧
    (s.writeRoute off v).mirror = s.mirror ∧ (s.writeRoute off v).mod = s.mod ∧ (s.writeRoute off v).host = s.host ∧
    (s.writeRoute off v).journal = s.journal ∧ (s.writeRoute off v).faults = s.faults ∧
    (s.writeRoute off v).duplex = s.duplex ∧ (s.writeRoute off v).gl = s.gl ∧ (s.writeRoute off v).aux = s.aux ∧
    (s.writeRoute off v).field = s.field ∧ (s.writeRoute off v).safe = s.safe ∧
    (s.writeRoute off v).clock = s.clock ∧ (s.writeRoute off v).grp = s.grp ∧ (s.writeRoute off v).sec = s.sec ∧
    (s.writeRoute off v).power = s.power := by
  simp [State.writeRoute]

@[simp] theorem State.writeLatTol_frame (s : State) (v : Word) :
    (s.writeLatTol v).pending = s.pending ∧ (s.writeLatTol v).now = s.now ∧ (s.writeLatTol v).free = s.free ∧
    (s.writeLatTol v).readData = s.readData ∧ (s.writeLatTol v).mirror = s.mirror ∧
    (s.writeLatTol v).laneA = s.laneA ∧ (s.writeLatTol v).laneB = s.laneB ∧ (s.writeLatTol v).host = s.host ∧
    (s.writeLatTol v).eic = s.eic ∧ (s.writeLatTol v).journal = s.journal ∧ (s.writeLatTol v).faults = s.faults ∧
    (s.writeLatTol v).duplex = s.duplex ∧ (s.writeLatTol v).gl = s.gl ∧ (s.writeLatTol v).aux = s.aux ∧
    (s.writeLatTol v).field = s.field ∧ (s.writeLatTol v).safe = s.safe ∧ (s.writeLatTol v).clock = s.clock ∧
    (s.writeLatTol v).grp = s.grp ∧ (s.writeLatTol v).sec = s.sec ∧ (s.writeLatTol v).mod.tally = s.mod.tally := by
  simp [State.writeLatTol]

@[simp] theorem State.writeAngle_frame (s : State) (i : LaneId) (off : Nat) (v : Word) :
    (s.writeAngle i off v).pending = s.pending ∧ (s.writeAngle i off v).now = s.now ∧
    (s.writeAngle i off v).free = s.free ∧ (s.writeAngle i off v).readData = s.readData ∧
    (s.writeAngle i off v).regs = s.regs ∧ (s.writeAngle i off v).mirror = s.mirror ∧
    (s.writeAngle i off v).mod = s.mod ∧ (s.writeAngle i off v).host = s.host ∧ (s.writeAngle i off v).eic = s.eic ∧
    (s.writeAngle i off v).journal = s.journal ∧ (s.writeAngle i off v).faults = s.faults ∧
    (s.writeAngle i off v).duplex = s.duplex ∧ (s.writeAngle i off v).gl = s.gl ∧
    (s.writeAngle i off v).aux = s.aux ∧ (s.writeAngle i off v).field = s.field ∧
    (s.writeAngle i off v).safe = s.safe ∧ (s.writeAngle i off v).clock = s.clock ∧
    (s.writeAngle i off v).grp = s.grp ∧ (s.writeAngle i off v).sec = s.sec ∧
    (s.writeAngle i off v).power = s.power := by
  simp only [State.writeAngle]
  (repeat' split) <;> simp

@[simp] theorem State.measWritten_frame (s : State) (off : Nat) :
    (s.measWritten off).pending = s.pending ∧ (s.measWritten off).now = s.now ∧ (s.measWritten off).free = s.free ∧
    (s.measWritten off).readData = s.readData ∧ (s.measWritten off).mirror = s.mirror ∧
    (s.measWritten off).host = s.host ∧ (s.measWritten off).clock = s.clock ∧ (s.measWritten off).grp = s.grp ∧
    (s.measWritten off).sec = s.sec ∧ (s.measWritten off).mod.tally = s.mod.tally := by
  simp [State.measWritten]

@[simp] theorem State.commitMaint_frame (s : State) (req : Bool) :
    (s.commitMaint req).pending = s.pending ∧ (s.commitMaint req).now = s.now ∧ (s.commitMaint req).free = s.free ∧
    (s.commitMaint req).readData = s.readData ∧ (s.commitMaint req).mirror = s.mirror ∧
    (s.commitMaint req).host = s.host ∧ (s.commitMaint req).faults = s.faults ∧
    (s.commitMaint req).duplex = s.duplex ∧ (s.commitMaint req).gl = s.gl ∧ (s.commitMaint req).aux = s.aux ∧
    (s.commitMaint req).field = s.field ∧ (s.commitMaint req).clock = s.clock ∧ (s.commitMaint req).grp = s.grp ∧
    (s.commitMaint req).sec = s.sec ∧ (s.commitMaint req).power = s.power ∧
    (s.commitMaint req).mod.tally = s.mod.tally := by
  simp [State.commitMaint]

@[simp] theorem State.nextTap_frame (s : State) :
    s.nextTap.pending = s.pending ∧ s.nextTap.now = s.now ∧ s.nextTap.free = s.free ∧
    s.nextTap.readData = s.readData ∧ s.nextTap.mirror = s.mirror ∧ s.nextTap.laneA = s.laneA ∧
    s.nextTap.laneB = s.laneB ∧ s.nextTap.mod = s.mod ∧ s.nextTap.host = s.host ∧ s.nextTap.eic = s.eic ∧
    s.nextTap.journal = s.journal ∧ s.nextTap.faults = s.faults ∧ s.nextTap.duplex = s.duplex ∧
    s.nextTap.gl = s.gl ∧ s.nextTap.aux = s.aux ∧ s.nextTap.field = s.field ∧ s.nextTap.safe = s.safe ∧
    s.nextTap.clock = s.clock ∧ s.nextTap.grp = s.grp ∧ s.nextTap.sec = s.sec ∧ s.nextTap.power = s.power := by
  simp [State.nextTap]

@[simp] theorem State.legChange_frame (s : State) (was : List Nat) (leg : Nat) :
    (s.legChange was leg).pending = s.pending ∧ (s.legChange was leg).now = s.now ∧
    (s.legChange was leg).free = s.free ∧ (s.legChange was leg).readData = s.readData ∧
    (s.legChange was leg).regs = s.regs ∧ (s.legChange was leg).mirror = s.mirror ∧
    (s.legChange was leg).mod = s.mod ∧ (s.legChange was leg).host = s.host ∧ (s.legChange was leg).eic = s.eic ∧
    (s.legChange was leg).journal = s.journal ∧ (s.legChange was leg).aux = s.aux ∧
    (s.legChange was leg).field = s.field ∧ (s.legChange was leg).safe = s.safe ∧
    (s.legChange was leg).clock = s.clock ∧ (s.legChange was leg).grp = s.grp ∧ (s.legChange was leg).sec = s.sec ∧
    (s.legChange was leg).power = s.power := by
  simp [State.legChange]

@[simp] theorem State.writeRing_frame (s : State) (off : Nat) (v : Word) :
    (s.writeRing off v).pending = s.pending ∧ (s.writeRing off v).now = s.now ∧ (s.writeRing off v).free = s.free ∧
    (s.writeRing off v).readData = s.readData ∧ (s.writeRing off v).mirror = s.mirror ∧
    (s.writeRing off v).mod = s.mod ∧ (s.writeRing off v).eic = s.eic ∧ (s.writeRing off v).journal = s.journal ∧
    (s.writeRing off v).faults = s.faults ∧ (s.writeRing off v).duplex = s.duplex ∧ (s.writeRing off v).gl = s.gl ∧
    (s.writeRing off v).aux = s.aux ∧ (s.writeRing off v).field = s.field ∧ (s.writeRing off v).safe = s.safe ∧
    (s.writeRing off v).clock = s.clock ∧ (s.writeRing off v).grp = s.grp ∧ (s.writeRing off v).sec = s.sec ∧
    (s.writeRing off v).power = s.power := by
  simp only [State.writeRing]
  (repeat' split) <;> simp

@[simp] theorem State.laneWrite_frame (s : State) (off : Nat) (v : Word) (i : LaneId) :
    (s.laneWrite off v i).pending = s.pending ∧ (s.laneWrite off v i).now = s.now ∧
    (s.laneWrite off v i).free = s.free ∧ (s.laneWrite off v i).readData = s.readData ∧
    (s.laneWrite off v i).regs = s.regs ∧ (s.laneWrite off v i).mirror = s.mirror ∧
    (s.laneWrite off v i).mod = s.mod ∧ (s.laneWrite off v i).host = s.host ∧ (s.laneWrite off v i).eic = s.eic ∧
    (s.laneWrite off v i).journal = s.journal ∧ (s.laneWrite off v i).faults = s.faults ∧
    (s.laneWrite off v i).duplex = s.duplex ∧ (s.laneWrite off v i).gl = s.gl ∧ (s.laneWrite off v i).aux = s.aux ∧
    (s.laneWrite off v i).field = s.field ∧ (s.laneWrite off v i).safe = s.safe ∧
    (s.laneWrite off v i).clock = s.clock ∧ (s.laneWrite off v i).grp = s.grp ∧ (s.laneWrite off v i).sec = s.sec ∧
    (s.laneWrite off v i).power = s.power := by
  simp [State.laneWrite]

@[simp] theorem State.sluiceCommit_frame (s : State) (off : Nat) (v : Word) :
    (s.sluiceCommit off v).pending = s.pending ∧ (s.sluiceCommit off v).now = s.now ∧
    (s.sluiceCommit off v).free = s.free ∧ (s.sluiceCommit off v).readData = s.readData ∧
    (s.sluiceCommit off v).mirror = s.mirror ∧ (s.sluiceCommit off v).sec = s.sec ∧
    (s.sluiceCommit off v).mod.tally = s.mod.tally := by
  simp only [State.sluiceCommit]
  (repeat' split) <;> simp

@[simp] theorem State.stageOff_frame (s : State) (off : Nat) :
    (s.stageOff off).2.pending = s.pending ∧ (s.stageOff off).2.now = s.now ∧ (s.stageOff off).2.free = s.free ∧
    (s.stageOff off).2.readData = s.readData ∧ (s.stageOff off).2.mirror = s.mirror ∧
    (s.stageOff off).2.laneA = s.laneA ∧ (s.stageOff off).2.laneB = s.laneB ∧ (s.stageOff off).2.mod = s.mod ∧
    (s.stageOff off).2.host = s.host ∧ (s.stageOff off).2.eic = s.eic ∧ (s.stageOff off).2.journal = s.journal ∧
    (s.stageOff off).2.faults = s.faults ∧ (s.stageOff off).2.duplex = s.duplex ∧ (s.stageOff off).2.gl = s.gl ∧
    (s.stageOff off).2.aux = s.aux ∧ (s.stageOff off).2.field = s.field ∧ (s.stageOff off).2.safe = s.safe ∧
    (s.stageOff off).2.clock = s.clock ∧ (s.stageOff off).2.grp = s.grp ∧ (s.stageOff off).2.sec = s.sec ∧
    (s.stageOff off).2.power = s.power := by
  simp only [State.stageOff]
  (repeat' split) <;> simp

@[simp] theorem execFirDataRead_frame (_who : Requester) (s : State) :
    (orStay s (execFirDataRead _who s)).pending = s.pending ∧ (orStay s (execFirDataRead _who s)).now = s.now ∧
    (orStay s (execFirDataRead _who s)).free = s.free ∧ (orStay s (execFirDataRead _who s)).mirror = s.mirror ∧
    (orStay s (execFirDataRead _who s)).laneA = s.laneA ∧ (orStay s (execFirDataRead _who s)).laneB = s.laneB ∧
    (orStay s (execFirDataRead _who s)).mod = s.mod ∧ (orStay s (execFirDataRead _who s)).host = s.host ∧
    (orStay s (execFirDataRead _who s)).eic = s.eic ∧ (orStay s (execFirDataRead _who s)).journal = s.journal ∧
    (orStay s (execFirDataRead _who s)).faults = s.faults ∧ (orStay s (execFirDataRead _who s)).duplex = s.duplex ∧
    (orStay s (execFirDataRead _who s)).gl = s.gl ∧ (orStay s (execFirDataRead _who s)).aux = s.aux ∧
    (orStay s (execFirDataRead _who s)).field = s.field ∧ (orStay s (execFirDataRead _who s)).safe = s.safe ∧
    (orStay s (execFirDataRead _who s)).clock = s.clock ∧ (orStay s (execFirDataRead _who s)).grp = s.grp ∧
    (orStay s (execFirDataRead _who s)).sec = s.sec ∧ (orStay s (execFirDataRead _who s)).power = s.power := by
  simp only [execFirDataRead, State.readAfterBoot]
  (repeat' split) <;> simp

@[simp] theorem State.writeNow_frame (s : State) (who : Writer) (off : Nat) (v : Word) :
    (s.writeNow who off v).pending = s.pending ∧ (s.writeNow who off v).now = s.now ∧
    (s.writeNow who off v).free = s.free ∧ (s.writeNow who off v).readData = s.readData ∧
    (s.writeNow who off v).mirror = s.mirror ∧ (s.writeNow who off v).journal = s.journal ∧
    (s.writeNow who off v).faults = s.faults ∧ (s.writeNow who off v).gl = s.gl ∧
    (s.writeNow who off v).aux = s.aux ∧ (s.writeNow who off v).field = s.field ∧
    (s.writeNow who off v).safe = s.safe ∧ (s.writeNow who off v).grp = s.grp ∧ (s.writeNow who off v).sec = s.sec ∧
    (s.writeNow who off v).mod.tally = s.mod.tally := by
  simp only [State.writeNow]
  (repeat' split) <;> simp

@[simp] theorem State.stage_frame (s : State) (off : Nat) (v : Word) :
    (s.stage off v).pending = s.pending ∧ (s.stage off v).now = s.now ∧ (s.stage off v).free = s.free ∧
    (s.stage off v).readData = s.readData ∧ (s.stage off v).mirror = s.mirror ∧ (s.stage off v).mod = s.mod ∧
    (s.stage off v).journal = s.journal ∧ (s.stage off v).faults = s.faults ∧ (s.stage off v).duplex = s.duplex ∧
    (s.stage off v).gl = s.gl ∧ (s.stage off v).aux = s.aux ∧ (s.stage off v).field = s.field ∧
    (s.stage off v).safe = s.safe ∧ (s.stage off v).clock = s.clock ∧ (s.stage off v).grp = s.grp ∧
    (s.stage off v).sec = s.sec ∧ (s.stage off v).power = s.power := by
  simp only [State.stage]
  (repeat' split) <;> simp

@[simp] theorem State.commitReg_frame (s : State) (who : Writer) (off : Nat) (v : Word) :
    (s.commitReg who off v).pending = s.pending ∧ (s.commitReg who off v).now = s.now ∧
    (s.commitReg who off v).free = s.free ∧ (s.commitReg who off v).readData = s.readData ∧
    (s.commitReg who off v).mirror = s.mirror ∧ (s.commitReg who off v).sec = s.sec ∧
    (s.commitReg who off v).mod.tally = s.mod.tally := by
  simp only [State.commitReg]
  (repeat' split) <;> simp

@[simp] theorem State.directWrite_frame (s : State) (who : Writer) (off : Nat) (v : Word) :
    (s.directWrite who off v).pending = s.pending ∧ (s.directWrite who off v).now = s.now ∧
    (s.directWrite who off v).free = s.free ∧ (s.directWrite who off v).readData = s.readData ∧
    (s.directWrite who off v).mirror = s.mirror ∧ (s.directWrite who off v).journal = s.journal ∧
    (s.directWrite who off v).faults = s.faults ∧ (s.directWrite who off v).gl = s.gl ∧
    (s.directWrite who off v).aux = s.aux ∧ (s.directWrite who off v).field = s.field ∧
    (s.directWrite who off v).safe = s.safe ∧ (s.directWrite who off v).grp = s.grp ∧
    (s.directWrite who off v).sec = s.sec ∧ (s.directWrite who off v).mod.tally = s.mod.tally := by
  simp only [State.directWrite, State.afterBoot, State.heardWrite]
  (repeat' split) <;> simp

@[simp] theorem State.commitStaged_frame (s : State) (w : StagedWrite) :
    (s.commitStaged w).pending = s.pending ∧ (s.commitStaged w).now = s.now ∧ (s.commitStaged w).free = s.free ∧
    (s.commitStaged w).readData = s.readData ∧ (s.commitStaged w).mirror = s.mirror ∧
    (s.commitStaged w).sec = s.sec ∧ (s.commitStaged w).mod.tally = s.mod.tally := by
  simp [State.commitStaged]

end Sys2Proof.Machine
end

