-- ==== Sys2Proof/Laws/SecurityFrames.lean ====
section
/-! SUPPORT. What the operations of Machine/Security.lean leave alone: for each, the parts of the state that it keeps. -/
namespace Sys2Proof.Machine

@[simp] theorem State.putEnvelope_frame (s : State) (ver : Nat) (dt pulse edge inner : Nat) (clamp : Bool) (bsOn bsOff corrMax : Nat) :
    (s.putEnvelope ver dt pulse edge inner clamp bsOn bsOff corrMax).pending = s.pending ∧
    (s.putEnvelope ver dt pulse edge inner clamp bsOn bsOff corrMax).now = s.now ∧
    (s.putEnvelope ver dt pulse edge inner clamp bsOn bsOff corrMax).free = s.free ∧
    (s.putEnvelope ver dt pulse edge inner clamp bsOn bsOff corrMax).readData = s.readData ∧
    (s.putEnvelope ver dt pulse edge inner clamp bsOn bsOff corrMax).mirror = s.mirror ∧
    (s.putEnvelope ver dt pulse edge inner clamp bsOn bsOff corrMax).laneA = s.laneA ∧
    (s.putEnvelope ver dt pulse edge inner clamp bsOn bsOff corrMax).laneB = s.laneB ∧
    (s.putEnvelope ver dt pulse edge inner clamp bsOn bsOff corrMax).mod = s.mod ∧
    (s.putEnvelope ver dt pulse edge inner clamp bsOn bsOff corrMax).host = s.host ∧
    (s.putEnvelope ver dt pulse edge inner clamp bsOn bsOff corrMax).eic = s.eic ∧
    (s.putEnvelope ver dt pulse edge inner clamp bsOn bsOff corrMax).journal = s.journal ∧
    (s.putEnvelope ver dt pulse edge inner clamp bsOn bsOff corrMax).faults = s.faults ∧
    (s.putEnvelope ver dt pulse edge inner clamp bsOn bsOff corrMax).duplex = s.duplex ∧
    (s.putEnvelope ver dt pulse edge inner clamp bsOn bsOff corrMax).gl = s.gl ∧
    (s.putEnvelope ver dt pulse edge inner clamp bsOn bsOff corrMax).aux = s.aux ∧
    (s.putEnvelope ver dt pulse edge inner clamp bsOn bsOff corrMax).field = s.field ∧
    (s.putEnvelope ver dt pulse edge inner clamp bsOn bsOff corrMax).safe = s.safe ∧
    (s.putEnvelope ver dt pulse edge inner clamp bsOn bsOff corrMax).clock = s.clock ∧
    (s.putEnvelope ver dt pulse edge inner clamp bsOn bsOff corrMax).grp = s.grp ∧
    (s.putEnvelope ver dt pulse edge inner clamp bsOn bsOff corrMax).sec = s.sec ∧
    (s.putEnvelope ver dt pulse edge inner clamp bsOn bsOff corrMax).power = s.power := by
  simp [State.putEnvelope]

@[simp] theorem State.putMinima_frame (s : State) (dt pulse edge inner : Nat) :
    (s.putMinima dt pulse edge inner).pending = s.pending ∧ (s.putMinima dt pulse edge inner).now = s.now ∧
    (s.putMinima dt pulse edge inner).free = s.free ∧ (s.putMinima dt pulse edge inner).readData = s.readData ∧
    (s.putMinima dt pulse edge inner).mirror = s.mirror ∧ (s.putMinima dt pulse edge inner).laneA = s.laneA ∧
    (s.putMinima dt pulse edge inner).laneB = s.laneB ∧ (s.putMinima dt pulse edge inner).mod = s.mod ∧
    (s.putMinima dt pulse edge inner).host = s.host ∧ (s.putMinima dt pulse edge inner).eic = s.eic ∧
    (s.putMinima dt pulse edge inner).journal = s.journal ∧ (s.putMinima dt pulse edge inner).faults = s.faults ∧
    (s.putMinima dt pulse edge inner).duplex = s.duplex ∧ (s.putMinima dt pulse edge inner).gl = s.gl ∧
    (s.putMinima dt pulse edge inner).aux = s.aux ∧ (s.putMinima dt pulse edge inner).field = s.field ∧
    (s.putMinima dt pulse edge inner).safe = s.safe ∧ (s.putMinima dt pulse edge inner).clock = s.clock ∧
    (s.putMinima dt pulse edge inner).grp = s.grp ∧ (s.putMinima dt pulse edge inner).sec = s.sec ∧
    (s.putMinima dt pulse edge inner).power = s.power := by
  simp [State.putMinima]

@[simp] theorem State.putSafety_frame (s : State) (regs : List (Nat × Word)) :
    (s.putSafety regs).pending = s.pending ∧ (s.putSafety regs).now = s.now ∧ (s.putSafety regs).free = s.free ∧
    (s.putSafety regs).readData = s.readData ∧ (s.putSafety regs).mirror = s.mirror ∧
    (s.putSafety regs).mod = s.mod ∧ (s.putSafety regs).host = s.host ∧ (s.putSafety regs).eic = s.eic ∧
    (s.putSafety regs).journal = s.journal ∧ (s.putSafety regs).faults = s.faults ∧
    (s.putSafety regs).duplex = s.duplex ∧ (s.putSafety regs).gl = s.gl ∧ (s.putSafety regs).aux = s.aux ∧
    (s.putSafety regs).field = s.field ∧ (s.putSafety regs).safe = s.safe ∧ (s.putSafety regs).clock = s.clock ∧
    (s.putSafety regs).grp = s.grp ∧ (s.putSafety regs).sec = s.sec ∧ (s.putSafety regs).power = s.power := by
  simp [State.putSafety]

@[simp] theorem State.startWrite_frame (s : State) (c : Cmd) (type : Nat) (pkg : Package) :
    (s.startWrite c type pkg).pending = s.pending ∧ (s.startWrite c type pkg).now = s.now ∧
    (s.startWrite c type pkg).readData = s.readData ∧ (s.startWrite c type pkg).mirror = s.mirror ∧
    (s.startWrite c type pkg).laneA = s.laneA ∧ (s.startWrite c type pkg).laneB = s.laneB ∧
    (s.startWrite c type pkg).mod = s.mod ∧ (s.startWrite c type pkg).host = s.host ∧
    (s.startWrite c type pkg).eic = s.eic ∧ (s.startWrite c type pkg).journal = s.journal ∧
    (s.startWrite c type pkg).faults = s.faults ∧ (s.startWrite c type pkg).duplex = s.duplex ∧
    (s.startWrite c type pkg).gl = s.gl ∧ (s.startWrite c type pkg).aux = s.aux ∧
    (s.startWrite c type pkg).field = s.field ∧ (s.startWrite c type pkg).safe = s.safe ∧
    (s.startWrite c type pkg).clock = s.clock ∧ (s.startWrite c type pkg).grp = s.grp ∧
    (s.startWrite c type pkg).power = s.power ∧ (s.startWrite c type pkg).sec.identity = s.sec.identity := by
  simp [State.startWrite]

@[simp] theorem State.writeSlot_frame (s : State) (t : Nat) (pkg : Package) :
    (s.writeSlot t pkg).pending = s.pending ∧ (s.writeSlot t pkg).now = s.now ∧ (s.writeSlot t pkg).free = s.free ∧
    (s.writeSlot t pkg).readData = s.readData ∧ (s.writeSlot t pkg).mirror = s.mirror ∧
    (s.writeSlot t pkg).laneA = s.laneA ∧ (s.writeSlot t pkg).laneB = s.laneB ∧ (s.writeSlot t pkg).mod = s.mod ∧
    (s.writeSlot t pkg).host = s.host ∧ (s.writeSlot t pkg).eic = s.eic ∧ (s.writeSlot t pkg).journal = s.journal ∧
    (s.writeSlot t pkg).faults = s.faults ∧ (s.writeSlot t pkg).duplex = s.duplex ∧ (s.writeSlot t pkg).gl = s.gl ∧
    (s.writeSlot t pkg).aux = s.aux ∧ (s.writeSlot t pkg).field = s.field ∧ (s.writeSlot t pkg).safe = s.safe ∧
    (s.writeSlot t pkg).clock = s.clock ∧ (s.writeSlot t pkg).grp = s.grp ∧ (s.writeSlot t pkg).power = s.power ∧
    (s.writeSlot t pkg).sec.identity = s.sec.identity := by
  simp [State.writeSlot]

@[simp] theorem State.secDone_frame (s : State) (c : Cmd) (type step : Nat) (r : Result) :
    (s.secDone c type step r).pending = s.pending ∧ (s.secDone c type step r).now = s.now ∧
    (s.secDone c type step r).free = s.free ∧ (s.secDone c type step r).readData = s.readData ∧
    (s.secDone c type step r).mirror = s.mirror ∧ (s.secDone c type step r).mod = s.mod ∧
    (s.secDone c type step r).faults = s.faults ∧ (s.secDone c type step r).duplex = s.duplex ∧
    (s.secDone c type step r).gl = s.gl ∧ (s.secDone c type step r).aux = s.aux ∧
    (s.secDone c type step r).field = s.field ∧ (s.secDone c type step r).safe = s.safe ∧
    (s.secDone c type step r).clock = s.clock ∧ (s.secDone c type step r).grp = s.grp ∧
    (s.secDone c type step r).power = s.power ∧ (s.secDone c type step r).sec.identity = s.sec.identity := by
  simp [State.secDone]

@[simp] theorem State.updEngine_frame (s : State) :
    s.updEngine.pending = s.pending ∧ s.updEngine.now = s.now ∧ s.updEngine.free = s.free ∧
    s.updEngine.readData = s.readData ∧ s.updEngine.mirror = s.mirror ∧ s.updEngine.laneA = s.laneA ∧
    s.updEngine.laneB = s.laneB ∧ s.updEngine.mod = s.mod ∧ s.updEngine.host = s.host ∧ s.updEngine.eic = s.eic ∧
    s.updEngine.journal = s.journal ∧ s.updEngine.faults = s.faults ∧ s.updEngine.duplex = s.duplex ∧
    s.updEngine.gl = s.gl ∧ s.updEngine.aux = s.aux ∧ s.updEngine.field = s.field ∧ s.updEngine.safe = s.safe ∧
    s.updEngine.clock = s.clock ∧ s.updEngine.grp = s.grp ∧ s.updEngine.sec = s.sec ∧
    s.updEngine.power = s.power := by
  simp [State.updEngine]

@[simp] theorem State.updToken_frame (s : State) :
    s.updToken.pending = s.pending ∧ s.updToken.now = s.now ∧ s.updToken.free = s.free ∧
    s.updToken.readData = s.readData ∧ s.updToken.mirror = s.mirror ∧ s.updToken.laneA = s.laneA ∧
    s.updToken.laneB = s.laneB ∧ s.updToken.mod = s.mod ∧ s.updToken.host = s.host ∧ s.updToken.eic = s.eic ∧
    s.updToken.journal = s.journal ∧ s.updToken.faults = s.faults ∧ s.updToken.duplex = s.duplex ∧
    s.updToken.gl = s.gl ∧ s.updToken.aux = s.aux ∧ s.updToken.field = s.field ∧ s.updToken.safe = s.safe ∧
    s.updToken.clock = s.clock ∧ s.updToken.grp = s.grp ∧ s.updToken.sec = s.sec ∧ s.updToken.power = s.power := by
  simp only [State.updToken]
  (repeat' split) <;> simp

@[simp] theorem State.acceptToken_frame (s : State) (scope : BitVec 4) (minutes : Nat) :
    (s.acceptToken scope minutes).pending = s.pending ∧ (s.acceptToken scope minutes).now = s.now ∧
    (s.acceptToken scope minutes).readData = s.readData ∧ (s.acceptToken scope minutes).mirror = s.mirror ∧
    (s.acceptToken scope minutes).laneA = s.laneA ∧ (s.acceptToken scope minutes).laneB = s.laneB ∧
    (s.acceptToken scope minutes).mod = s.mod ∧ (s.acceptToken scope minutes).host = s.host ∧
    (s.acceptToken scope minutes).eic = s.eic ∧ (s.acceptToken scope minutes).journal = s.journal ∧
    (s.acceptToken scope minutes).faults = s.faults ∧ (s.acceptToken scope minutes).duplex = s.duplex ∧
    (s.acceptToken scope minutes).gl = s.gl ∧ (s.acceptToken scope minutes).aux = s.aux ∧
    (s.acceptToken scope minutes).field = s.field ∧ (s.acceptToken scope minutes).safe = s.safe ∧
    (s.acceptToken scope minutes).clock = s.clock ∧ (s.acceptToken scope minutes).grp = s.grp ∧
    (s.acceptToken scope minutes).power = s.power ∧
    (s.acceptToken scope minutes).sec.identity = s.sec.identity := by
  simp [State.acceptToken]

@[simp] theorem State.returnData_frame (s : State) (c : Cmd) (bytes : List Byte) :
    (s.returnData c bytes).pending = s.pending ∧ (s.returnData c bytes).now = s.now ∧
    (s.returnData c bytes).free = s.free ∧ (s.returnData c bytes).readData = s.readData ∧
    (s.returnData c bytes).regs = s.regs ∧ (s.returnData c bytes).mirror = s.mirror ∧
    (s.returnData c bytes).laneA = s.laneA ∧ (s.returnData c bytes).laneB = s.laneB ∧
    (s.returnData c bytes).mod = s.mod ∧ (s.returnData c bytes).eic = s.eic ∧
    (s.returnData c bytes).journal = s.journal ∧ (s.returnData c bytes).faults = s.faults ∧
    (s.returnData c bytes).duplex = s.duplex ∧ (s.returnData c bytes).gl = s.gl ∧
    (s.returnData c bytes).aux = s.aux ∧ (s.returnData c bytes).field = s.field ∧
    (s.returnData c bytes).safe = s.safe ∧ (s.returnData c bytes).clock = s.clock ∧
    (s.returnData c bytes).grp = s.grp ∧ (s.returnData c bytes).power = s.power ∧
    (s.returnData c bytes).sec.identity = s.sec.identity := by
  simp [State.returnData]

@[simp] theorem State.noteAuth_frame (s : State) (c : Cmd) :
    (s.noteAuth c).pending = s.pending ∧ (s.noteAuth c).now = s.now ∧ (s.noteAuth c).free = s.free ∧
    (s.noteAuth c).readData = s.readData ∧ (s.noteAuth c).mirror = s.mirror ∧ (s.noteAuth c).laneA = s.laneA ∧
    (s.noteAuth c).laneB = s.laneB ∧ (s.noteAuth c).mod = s.mod ∧ (s.noteAuth c).host = s.host ∧
    (s.noteAuth c).eic = s.eic ∧ (s.noteAuth c).faults = s.faults ∧ (s.noteAuth c).duplex = s.duplex ∧
    (s.noteAuth c).gl = s.gl ∧ (s.noteAuth c).aux = s.aux ∧ (s.noteAuth c).field = s.field ∧
    (s.noteAuth c).safe = s.safe ∧ (s.noteAuth c).clock = s.clock ∧ (s.noteAuth c).grp = s.grp ∧
    (s.noteAuth c).power = s.power ∧ (s.noteAuth c).sec.identity = s.sec.identity := by
  simp only [State.noteAuth, State.noteAuth.record]
  (repeat' split) <;> simp

@[simp] theorem State.engineAdd_frame (s : State) (o : EngOp) :
    (s.engineAdd o).pending = s.pending ∧ (s.engineAdd o).now = s.now ∧ (s.engineAdd o).free = s.free ∧
    (s.engineAdd o).readData = s.readData ∧ (s.engineAdd o).mirror = s.mirror ∧ (s.engineAdd o).laneA = s.laneA ∧
    (s.engineAdd o).laneB = s.laneB ∧ (s.engineAdd o).mod = s.mod ∧ (s.engineAdd o).host = s.host ∧
    (s.engineAdd o).eic = s.eic ∧ (s.engineAdd o).journal = s.journal ∧ (s.engineAdd o).faults = s.faults ∧
    (s.engineAdd o).duplex = s.duplex ∧ (s.engineAdd o).gl = s.gl ∧ (s.engineAdd o).aux = s.aux ∧
    (s.engineAdd o).field = s.field ∧ (s.engineAdd o).safe = s.safe ∧ (s.engineAdd o).clock = s.clock ∧
    (s.engineAdd o).grp = s.grp ∧ (s.engineAdd o).power = s.power ∧
    (s.engineAdd o).sec.identity = s.sec.identity := by
  simp [State.engineAdd]

@[simp] theorem State.checkedPkg_frame (s : State) (c : Cmd) (type : Nat) (pkg : Package) :
    (s.checkedPkg c type pkg).pending = s.pending ∧ (s.checkedPkg c type pkg).now = s.now ∧
    (s.checkedPkg c type pkg).readData = s.readData ∧ (s.checkedPkg c type pkg).mirror = s.mirror ∧
    (s.checkedPkg c type pkg).mod = s.mod ∧ (s.checkedPkg c type pkg).faults = s.faults ∧
    (s.checkedPkg c type pkg).duplex = s.duplex ∧ (s.checkedPkg c type pkg).gl = s.gl ∧
    (s.checkedPkg c type pkg).aux = s.aux ∧ (s.checkedPkg c type pkg).field = s.field ∧
    (s.checkedPkg c type pkg).safe = s.safe ∧ (s.checkedPkg c type pkg).clock = s.clock ∧
    (s.checkedPkg c type pkg).grp = s.grp ∧ (s.checkedPkg c type pkg).power = s.power ∧
    (s.checkedPkg c type pkg).sec.identity = s.sec.identity := by
  simp only [State.checkedPkg]
  (repeat' split) <;> simp

@[simp] theorem State.endWrites_frame (s : State) :
    s.endWrites.pending = s.pending ∧ s.endWrites.now = s.now ∧ s.endWrites.free = s.free ∧
    s.endWrites.readData = s.readData ∧ s.endWrites.mirror = s.mirror ∧ s.endWrites.mod = s.mod ∧
    s.endWrites.faults = s.faults ∧ s.endWrites.duplex = s.duplex ∧ s.endWrites.gl = s.gl ∧
    s.endWrites.aux = s.aux ∧ s.endWrites.field = s.field ∧ s.endWrites.safe = s.safe ∧
    s.endWrites.clock = s.clock ∧ s.endWrites.grp = s.grp ∧ s.endWrites.power = s.power ∧
    s.endWrites.sec.identity = s.sec.identity := by
  unfold State.endWrites
  exact ⟨State.foldl_pending _ (by intros; (try dsimp only); (repeat' split) <;> simp) _ _,
    State.foldl_now _ (by intros; (try dsimp only); (repeat' split) <;> simp) _ _,
    State.foldl_free _ (by intros; (try dsimp only); (repeat' split) <;> simp) _ _,
    State.foldl_readData _ (by intros; (try dsimp only); (repeat' split) <;> simp) _ _,
    State.foldl_mirror _ (by intros; (try dsimp only); (repeat' split) <;> simp) _ _,
    State.foldl_mod _ (by intros; (try dsimp only); (repeat' split) <;> simp) _ _,
    State.foldl_faults _ (by intros; (try dsimp only); (repeat' split) <;> simp) _ _,
    State.foldl_duplex _ (by intros; (try dsimp only); (repeat' split) <;> simp) _ _,
    State.foldl_gl _ (by intros; (try dsimp only); (repeat' split) <;> simp) _ _,
    State.foldl_aux _ (by intros; (try dsimp only); (repeat' split) <;> simp) _ _,
    State.foldl_field _ (by intros; (try dsimp only); (repeat' split) <;> simp) _ _,
    State.foldl_safe _ (by intros; (try dsimp only); (repeat' split) <;> simp) _ _,
    State.foldl_clock _ (by intros; (try dsimp only); (repeat' split) <;> simp) _ _,
    State.foldl_grp _ (by intros; (try dsimp only); (repeat' split) <;> simp) _ _,
    State.foldl_power _ (by intros; (try dsimp only); (repeat' split) <;> simp) _ _,
    State.foldl_sec_identity _ (by intros; (try dsimp only); (repeat' split) <;> simp) _ _⟩

@[simp] theorem State.applyPkg_frame (s : State) (c : Cmd) (pkg : Package) :
    (s.applyPkg c pkg).pending = s.pending ∧ (s.applyPkg c pkg).now = s.now ∧ (s.applyPkg c pkg).free = s.free ∧
    (s.applyPkg c pkg).readData = s.readData ∧ (s.applyPkg c pkg).mirror = s.mirror ∧
    (s.applyPkg c pkg).faults = s.faults ∧ (s.applyPkg c pkg).duplex = s.duplex ∧ (s.applyPkg c pkg).gl = s.gl ∧
    (s.applyPkg c pkg).aux = s.aux ∧ (s.applyPkg c pkg).field = s.field ∧ (s.applyPkg c pkg).clock = s.clock ∧
    (s.applyPkg c pkg).grp = s.grp ∧ (s.applyPkg c pkg).power = s.power ∧
    (s.applyPkg c pkg).mod.tally = s.mod.tally := by
  simp only [State.applyPkg]
  (repeat' split) <;> simp

@[simp] theorem State.applyPackages_frame (s : State) :
    s.applyPackages.pending = s.pending ∧ s.applyPackages.now = s.now ∧ s.applyPackages.free = s.free ∧
    s.applyPackages.readData = s.readData ∧ s.applyPackages.mirror = s.mirror ∧ s.applyPackages.faults = s.faults ∧
    s.applyPackages.duplex = s.duplex ∧ s.applyPackages.gl = s.gl ∧ s.applyPackages.aux = s.aux ∧
    s.applyPackages.field = s.field ∧ s.applyPackages.clock = s.clock ∧ s.applyPackages.grp = s.grp ∧
    s.applyPackages.power = s.power ∧ s.applyPackages.mod.tally = s.mod.tally := by
  simp [State.applyPackages]

@[simp] theorem State.fwStage_frame (s : State) (c : Cmd) (type action : Nat) (pkg : Package) :
    (s.fwStage c type action pkg).pending = s.pending ∧ (s.fwStage c type action pkg).now = s.now ∧
    (s.fwStage c type action pkg).free = s.free ∧ (s.fwStage c type action pkg).readData = s.readData ∧
    (s.fwStage c type action pkg).mirror = s.mirror ∧ (s.fwStage c type action pkg).mod = s.mod ∧
    (s.fwStage c type action pkg).faults = s.faults ∧ (s.fwStage c type action pkg).duplex = s.duplex ∧
    (s.fwStage c type action pkg).gl = s.gl ∧ (s.fwStage c type action pkg).aux = s.aux ∧
    (s.fwStage c type action pkg).field = s.field ∧ (s.fwStage c type action pkg).safe = s.safe ∧
    (s.fwStage c type action pkg).clock = s.clock ∧ (s.fwStage c type action pkg).grp = s.grp ∧
    (s.fwStage c type action pkg).power = s.power ∧
    (s.fwStage c type action pkg).sec.identity = s.sec.identity := by
  simp [State.fwStage]

@[simp] theorem State.attest_frame (s : State) (c : Cmd) (nonce : List Byte) (mode : Nat) :
    (s.attest c nonce mode).pending = s.pending ∧ (s.attest c nonce mode).now = s.now ∧
    (s.attest c nonce mode).free = s.free ∧ (s.attest c nonce mode).readData = s.readData ∧
    (s.attest c nonce mode).mirror = s.mirror ∧ (s.attest c nonce mode).mod = s.mod ∧
    (s.attest c nonce mode).faults = s.faults ∧ (s.attest c nonce mode).duplex = s.duplex ∧
    (s.attest c nonce mode).gl = s.gl ∧ (s.attest c nonce mode).aux = s.aux ∧
    (s.attest c nonce mode).field = s.field ∧ (s.attest c nonce mode).safe = s.safe ∧
    (s.attest c nonce mode).clock = s.clock ∧ (s.attest c nonce mode).grp = s.grp ∧
    (s.attest c nonce mode).power = s.power ∧ (s.attest c nonce mode).sec.identity = s.sec.identity := by
  simp [State.attest]

end Sys2Proof.Machine
end

