-- ==== Sys2Proof/Laws/PowerFrames.lean ====
section
/-! SUPPORT. What the operations of Machine/Power.lean leave alone: for each, the parts of the state that it keeps. -/
namespace Sys2Proof.Machine

@[simp] theorem State.moduleReset_frame (s : State) (sticky : Bool) :
    (s.moduleReset sticky).pending = s.pending ∧ (s.moduleReset sticky).now = s.now ∧
    (s.moduleReset sticky).readData = s.readData ∧ (s.moduleReset sticky).power = s.power ∧
    (s.moduleReset sticky).mod.tally = s.mod.tally ∧ (s.moduleReset sticky).sec.identity = s.sec.identity := by
  simp [State.moduleReset]

@[simp] theorem State.startShutdown_frame (s : State) (cause : Nat) :
    (s.startShutdown cause).pending = s.pending ∧ (s.startShutdown cause).now = s.now ∧
    (s.startShutdown cause).free = s.free ∧ (s.startShutdown cause).readData = s.readData ∧
    (s.startShutdown cause).mirror = s.mirror ∧ (s.startShutdown cause).laneA = s.laneA ∧
    (s.startShutdown cause).laneB = s.laneB ∧ (s.startShutdown cause).host = s.host ∧
    (s.startShutdown cause).eic = s.eic ∧ (s.startShutdown cause).aux = s.aux ∧
    (s.startShutdown cause).field = s.field ∧ (s.startShutdown cause).safe = s.safe ∧
    (s.startShutdown cause).clock = s.clock ∧ (s.startShutdown cause).grp = s.grp ∧
    (s.startShutdown cause).sec = s.sec ∧ (s.startShutdown cause).mod.tally = s.mod.tally := by
  simp [State.startShutdown]

@[simp] theorem State.endpointReset_frame (s : State) :
    s.endpointReset.pending = s.pending ∧ s.endpointReset.now = s.now ∧ s.endpointReset.readData = s.readData ∧
    s.endpointReset.mirror = s.mirror ∧ s.endpointReset.mod = s.mod ∧ s.endpointReset.journal = s.journal ∧
    s.endpointReset.faults = s.faults ∧ s.endpointReset.duplex = s.duplex ∧ s.endpointReset.gl = s.gl ∧
    s.endpointReset.aux = s.aux ∧ s.endpointReset.field = s.field ∧ s.endpointReset.safe = s.safe ∧
    s.endpointReset.clock = s.clock ∧ s.endpointReset.grp = s.grp ∧ s.endpointReset.power = s.power ∧
    s.endpointReset.sec.identity = s.sec.identity := by
  simp [State.endpointReset]

@[simp] theorem State.slotFailed_frame (s : State) (t b : Nat) :
    (s.slotFailed t b).pending = s.pending ∧ (s.slotFailed t b).now = s.now ∧ (s.slotFailed t b).free = s.free ∧
    (s.slotFailed t b).readData = s.readData ∧ (s.slotFailed t b).mirror = s.mirror ∧
    (s.slotFailed t b).laneA = s.laneA ∧ (s.slotFailed t b).laneB = s.laneB ∧ (s.slotFailed t b).mod = s.mod ∧
    (s.slotFailed t b).host = s.host ∧ (s.slotFailed t b).eic = s.eic ∧ (s.slotFailed t b).journal = s.journal ∧
    (s.slotFailed t b).faults = s.faults ∧ (s.slotFailed t b).duplex = s.duplex ∧ (s.slotFailed t b).gl = s.gl ∧
    (s.slotFailed t b).aux = s.aux ∧ (s.slotFailed t b).field = s.field ∧ (s.slotFailed t b).safe = s.safe ∧
    (s.slotFailed t b).clock = s.clock ∧ (s.slotFailed t b).grp = s.grp ∧ (s.slotFailed t b).sec = s.sec ∧
    (s.slotFailed t b).power = s.power := by
  simp [State.slotFailed]

@[simp] theorem State.takeSlot_frame (s : State) (t b : Nat) (fallback : Bool) :
    (s.takeSlot t b fallback).pending = s.pending ∧ (s.takeSlot t b fallback).now = s.now ∧
    (s.takeSlot t b fallback).free = s.free ∧ (s.takeSlot t b fallback).readData = s.readData ∧
    (s.takeSlot t b fallback).mirror = s.mirror ∧ (s.takeSlot t b fallback).laneA = s.laneA ∧
    (s.takeSlot t b fallback).laneB = s.laneB ∧ (s.takeSlot t b fallback).mod = s.mod ∧
    (s.takeSlot t b fallback).host = s.host ∧ (s.takeSlot t b fallback).eic = s.eic ∧
    (s.takeSlot t b fallback).faults = s.faults ∧ (s.takeSlot t b fallback).duplex = s.duplex ∧
    (s.takeSlot t b fallback).gl = s.gl ∧ (s.takeSlot t b fallback).aux = s.aux ∧
    (s.takeSlot t b fallback).field = s.field ∧ (s.takeSlot t b fallback).safe = s.safe ∧
    (s.takeSlot t b fallback).clock = s.clock ∧ (s.takeSlot t b fallback).grp = s.grp ∧
    (s.takeSlot t b fallback).sec = s.sec ∧ (s.takeSlot t b fallback).power = s.power := by
  simp only [State.takeSlot]
  (repeat' split) <;> simp

@[simp] theorem State.raiseTrips_frame (s : State) :
    s.raiseTrips.pending = s.pending ∧ s.raiseTrips.now = s.now ∧ s.raiseTrips.free = s.free ∧
    s.raiseTrips.readData = s.readData ∧ s.raiseTrips.mirror = s.mirror ∧ s.raiseTrips.host = s.host ∧
    s.raiseTrips.clock = s.clock ∧ s.raiseTrips.grp = s.grp ∧ s.raiseTrips.sec = s.sec ∧
    s.raiseTrips.mod.tally = s.mod.tally := by
  simp [State.raiseTrips]

@[simp] theorem State.noteStep_frame (s : State) (k : Nat) :
    (s.noteStep k).pending = s.pending ∧ (s.noteStep k).now = s.now ∧ (s.noteStep k).free = s.free ∧
    (s.noteStep k).readData = s.readData ∧ (s.noteStep k).regs = s.regs ∧ (s.noteStep k).mirror = s.mirror ∧
    (s.noteStep k).laneA = s.laneA ∧ (s.noteStep k).laneB = s.laneB ∧ (s.noteStep k).host = s.host ∧
    (s.noteStep k).eic = s.eic ∧ (s.noteStep k).journal = s.journal ∧ (s.noteStep k).faults = s.faults ∧
    (s.noteStep k).duplex = s.duplex ∧ (s.noteStep k).gl = s.gl ∧ (s.noteStep k).aux = s.aux ∧
    (s.noteStep k).field = s.field ∧ (s.noteStep k).safe = s.safe ∧ (s.noteStep k).clock = s.clock ∧
    (s.noteStep k).grp = s.grp ∧ (s.noteStep k).sec = s.sec ∧ (s.noteStep k).power = s.power ∧
    (s.noteStep k).mod.tally = s.mod.tally := by
  simp [State.noteStep]

@[simp] theorem State.checkFailed_frame (s : State) :
    s.checkFailed.pending = s.pending ∧ s.checkFailed.now = s.now ∧ s.checkFailed.free = s.free ∧
    s.checkFailed.readData = s.readData ∧ s.checkFailed.mirror = s.mirror ∧ s.checkFailed.mod = s.mod ∧
    s.checkFailed.journal = s.journal ∧ s.checkFailed.faults = s.faults ∧ s.checkFailed.duplex = s.duplex ∧
    s.checkFailed.gl = s.gl ∧ s.checkFailed.aux = s.aux ∧ s.checkFailed.field = s.field ∧
    s.checkFailed.safe = s.safe ∧ s.checkFailed.clock = s.clock ∧ s.checkFailed.grp = s.grp ∧
    s.checkFailed.power = s.power ∧ s.checkFailed.sec.identity = s.sec.identity := by
  simp only [State.checkFailed]
  (repeat' split) <;> simp

@[simp] theorem State.proveSlots_frame (s : State) :
    s.proveSlots.pending = s.pending ∧ s.proveSlots.now = s.now ∧ s.proveSlots.free = s.free ∧
    s.proveSlots.readData = s.readData ∧ s.proveSlots.mirror = s.mirror ∧ s.proveSlots.laneA = s.laneA ∧
    s.proveSlots.laneB = s.laneB ∧ s.proveSlots.mod = s.mod ∧ s.proveSlots.host = s.host ∧
    s.proveSlots.eic = s.eic ∧ s.proveSlots.journal = s.journal ∧ s.proveSlots.faults = s.faults ∧
    s.proveSlots.duplex = s.duplex ∧ s.proveSlots.gl = s.gl ∧ s.proveSlots.aux = s.aux ∧
    s.proveSlots.field = s.field ∧ s.proveSlots.safe = s.safe ∧ s.proveSlots.clock = s.clock ∧
    s.proveSlots.grp = s.grp ∧ s.proveSlots.sec = s.sec ∧ s.proveSlots.power = s.power := by
  simp [State.proveSlots]

@[simp] theorem State.chargeHold_frame (s : State) :
    s.chargeHold.pending = s.pending ∧ s.chargeHold.now = s.now ∧ s.chargeHold.readData = s.readData ∧
    s.chargeHold.mirror = s.mirror ∧ s.chargeHold.laneA = s.laneA ∧ s.chargeHold.laneB = s.laneB ∧
    s.chargeHold.mod = s.mod ∧ s.chargeHold.host = s.host ∧ s.chargeHold.eic = s.eic ∧
    s.chargeHold.journal = s.journal ∧ s.chargeHold.faults = s.faults ∧ s.chargeHold.duplex = s.duplex ∧
    s.chargeHold.gl = s.gl ∧ s.chargeHold.aux = s.aux ∧ s.chargeHold.field = s.field ∧ s.chargeHold.safe = s.safe ∧
    s.chargeHold.clock = s.clock ∧ s.chargeHold.grp = s.grp ∧ s.chargeHold.sec = s.sec ∧
    s.chargeHold.power = s.power := by
  simp [State.chargeHold]

@[simp] theorem State.updHold_frame (s : State) :
    s.updHold.pending = s.pending ∧ s.updHold.now = s.now ∧ s.updHold.free = s.free ∧
    s.updHold.readData = s.readData ∧ s.updHold.mirror = s.mirror ∧ s.updHold.laneA = s.laneA ∧
    s.updHold.laneB = s.laneB ∧ s.updHold.mod = s.mod ∧ s.updHold.host = s.host ∧ s.updHold.eic = s.eic ∧
    s.updHold.journal = s.journal ∧ s.updHold.faults = s.faults ∧ s.updHold.duplex = s.duplex ∧
    s.updHold.gl = s.gl ∧ s.updHold.aux = s.aux ∧ s.updHold.field = s.field ∧ s.updHold.safe = s.safe ∧
    s.updHold.clock = s.clock ∧ s.updHold.grp = s.grp ∧ s.updHold.sec = s.sec ∧ s.updHold.power = s.power := by
  simp [State.updHold]

@[simp] theorem State.stepEnd_frame (s : State) (k : Nat) :
    (s.stepEnd k).2.pending = s.pending ∧ (s.stepEnd k).2.now = s.now ∧ (s.stepEnd k).2.readData = s.readData ∧
    (s.stepEnd k).2.regs = s.regs ∧ (s.stepEnd k).2.mirror = s.mirror ∧ (s.stepEnd k).2.laneA = s.laneA ∧
    (s.stepEnd k).2.laneB = s.laneB ∧ (s.stepEnd k).2.mod = s.mod ∧ (s.stepEnd k).2.host = s.host ∧
    (s.stepEnd k).2.eic = s.eic ∧ (s.stepEnd k).2.journal = s.journal ∧ (s.stepEnd k).2.faults = s.faults ∧
    (s.stepEnd k).2.duplex = s.duplex ∧ (s.stepEnd k).2.gl = s.gl ∧ (s.stepEnd k).2.aux = s.aux ∧
    (s.stepEnd k).2.field = s.field ∧ (s.stepEnd k).2.safe = s.safe ∧ (s.stepEnd k).2.clock = s.clock ∧
    (s.stepEnd k).2.grp = s.grp ∧ (s.stepEnd k).2.sec = s.sec ∧ (s.stepEnd k).2.power = s.power := by
  simp only [State.stepEnd]
  (repeat' split) <;> simp

@[simp] theorem State.notePower_frame (s : State) (new : Nat) :
    (s.notePower new).pending = s.pending ∧ (s.notePower new).now = s.now ∧ (s.notePower new).free = s.free ∧
    (s.notePower new).readData = s.readData ∧ (s.notePower new).mirror = s.mirror ∧ (s.notePower new).mod = s.mod ∧
    (s.notePower new).host = s.host ∧ (s.notePower new).faults = s.faults ∧ (s.notePower new).duplex = s.duplex ∧
    (s.notePower new).gl = s.gl ∧ (s.notePower new).aux = s.aux ∧ (s.notePower new).field = s.field ∧
    (s.notePower new).safe = s.safe ∧ (s.notePower new).clock = s.clock ∧ (s.notePower new).grp = s.grp ∧
    (s.notePower new).sec = s.sec ∧ (s.notePower new).power = s.power := by
  simp [State.notePower]

@[simp] theorem State.returnLane_frame (s : State) :
    s.returnLane.pending = s.pending ∧ s.returnLane.now = s.now ∧ s.returnLane.free = s.free ∧
    s.returnLane.readData = s.readData ∧ s.returnLane.mirror = s.mirror ∧ s.returnLane.mod = s.mod ∧
    s.returnLane.gl = s.gl ∧ s.returnLane.aux = s.aux ∧ s.returnLane.field = s.field ∧
    s.returnLane.clock = s.clock ∧ s.returnLane.grp = s.grp ∧ s.returnLane.sec = s.sec ∧
    s.returnLane.power = s.power := by
  simp [State.returnLane]

@[simp] theorem State.enterReset_frame (s : State) (cause : Nat) :
    (s.enterReset cause).pending = s.pending ∧ (s.enterReset cause).now = s.now ∧
    (s.enterReset cause).readData = s.readData ∧ (s.enterReset cause).mod.tally = s.mod.tally ∧
    (s.enterReset cause).sec.identity = s.sec.identity := by
  simp [State.enterReset]

@[simp] theorem State.chooseSlot_frame (s : State) (t : Nat) :
    (s.chooseSlot t).1.pending = s.pending ∧ (s.chooseSlot t).1.now = s.now ∧ (s.chooseSlot t).1.free = s.free ∧
    (s.chooseSlot t).1.readData = s.readData ∧ (s.chooseSlot t).1.mirror = s.mirror ∧
    (s.chooseSlot t).1.laneA = s.laneA ∧ (s.chooseSlot t).1.laneB = s.laneB ∧ (s.chooseSlot t).1.mod = s.mod ∧
    (s.chooseSlot t).1.host = s.host ∧ (s.chooseSlot t).1.eic = s.eic ∧ (s.chooseSlot t).1.faults = s.faults ∧
    (s.chooseSlot t).1.duplex = s.duplex ∧ (s.chooseSlot t).1.gl = s.gl ∧ (s.chooseSlot t).1.aux = s.aux ∧
    (s.chooseSlot t).1.field = s.field ∧ (s.chooseSlot t).1.safe = s.safe ∧ (s.chooseSlot t).1.clock = s.clock ∧
    (s.chooseSlot t).1.grp = s.grp ∧ (s.chooseSlot t).1.sec = s.sec ∧ (s.chooseSlot t).1.power = s.power := by
  simp only [State.chooseSlot]
  (repeat' split) <;> simp

@[simp] theorem State.loadPackages_frame (s : State) :
    s.loadPackages.pending = s.pending ∧ s.loadPackages.now = s.now ∧ s.loadPackages.free = s.free ∧
    s.loadPackages.readData = s.readData ∧ s.loadPackages.mirror = s.mirror ∧ s.loadPackages.host = s.host ∧
    s.loadPackages.clock = s.clock ∧ s.loadPackages.grp = s.grp ∧ s.loadPackages.sec = s.sec ∧
    s.loadPackages.mod.tally = s.mod.tally := by
  simp only [State.loadPackages]
  (repeat' split) <;> simp

@[simp] theorem State.bothFailed_frame (s : State) :
    s.bothFailed.pending = s.pending ∧ s.bothFailed.now = s.now ∧ s.bothFailed.free = s.free ∧
    s.bothFailed.readData = s.readData ∧ s.bothFailed.mirror = s.mirror ∧ s.bothFailed.mod = s.mod ∧
    s.bothFailed.journal = s.journal ∧ s.bothFailed.faults = s.faults ∧ s.bothFailed.duplex = s.duplex ∧
    s.bothFailed.gl = s.gl ∧ s.bothFailed.aux = s.aux ∧ s.bothFailed.field = s.field ∧ s.bothFailed.safe = s.safe ∧
    s.bothFailed.clock = s.clock ∧ s.bothFailed.grp = s.grp ∧ s.bothFailed.power = s.power ∧
    s.bothFailed.sec.identity = s.sec.identity := by
  simp [State.bothFailed]

@[simp] theorem State.shelve_frame (s : State) :
    s.shelve.pending = s.pending ∧ s.shelve.now = s.now ∧ s.shelve.readData = s.readData ∧
    s.shelve.mod.tally = s.mod.tally ∧ s.shelve.sec.identity = s.sec.identity := by
  simp [State.shelve]

@[simp] theorem State.enterPower_frame (s : State) (new : Nat) :
    (s.enterPower new).pending = s.pending ∧ (s.enterPower new).now = s.now ∧
    (s.enterPower new).readData = s.readData ∧ (s.enterPower new).mod.tally = s.mod.tally ∧
    (s.enterPower new).sec.identity = s.sec.identity := by
  simp [State.enterPower]

@[simp] theorem State.powerBoundary_frame (s : State) :
    s.powerBoundary.pending = s.pending ∧ s.powerBoundary.now = s.now ∧ s.powerBoundary.readData = s.readData ∧
    s.powerBoundary.mod.tally = s.mod.tally ∧ s.powerBoundary.sec.identity = s.sec.identity := by
  simp [State.powerBoundary]

end Sys2Proof.Machine
end

