-- ==== Sys2Proof/Laws/CommandsFrames.lean ====
section
/-! SUPPORT. What the operations of Machine/Commands.lean leave alone: for each, the parts of the state that it keeps. -/
namespace Sys2Proof.Machine

@[simp] theorem State.armThread_frame (s : State) (t : Nat) :
    (s.armThread t).pending = s.pending ∧ (s.armThread t).now = s.now ∧ (s.armThread t).free = s.free ∧
    (s.armThread t).readData = s.readData ∧ (s.armThread t).mirror = s.mirror ∧ (s.armThread t).host = s.host ∧
    (s.armThread t).eic = s.eic ∧ (s.armThread t).journal = s.journal ∧ (s.armThread t).duplex = s.duplex ∧
    (s.armThread t).gl = s.gl ∧ (s.armThread t).aux = s.aux ∧ (s.armThread t).field = s.field ∧
    (s.armThread t).safe = s.safe ∧ (s.armThread t).clock = s.clock ∧ (s.armThread t).grp = s.grp ∧
    (s.armThread t).sec = s.sec ∧ (s.armThread t).power = s.power ∧ (s.armThread t).mod.tally = s.mod.tally := by
  simp [State.armThread]

@[simp] theorem State.disarmThread_frame (s : State) (t : Nat) :
    (s.disarmThread t).pending = s.pending ∧ (s.disarmThread t).now = s.now ∧ (s.disarmThread t).free = s.free ∧
    (s.disarmThread t).readData = s.readData ∧ (s.disarmThread t).mirror = s.mirror ∧
    (s.disarmThread t).laneA = s.laneA ∧ (s.disarmThread t).laneB = s.laneB ∧ (s.disarmThread t).host = s.host ∧
    (s.disarmThread t).eic = s.eic ∧ (s.disarmThread t).journal = s.journal ∧ (s.disarmThread t).aux = s.aux ∧
    (s.disarmThread t).field = s.field ∧ (s.disarmThread t).safe = s.safe ∧ (s.disarmThread t).clock = s.clock ∧
    (s.disarmThread t).grp = s.grp ∧ (s.disarmThread t).sec = s.sec ∧ (s.disarmThread t).power = s.power ∧
    (s.disarmThread t).mod.tally = s.mod.tally := by
  simp [State.disarmThread]

@[simp] theorem State.modeThread_frame (s : State) (mode : BitVec 16) (t : Nat) :
    (s.modeThread mode t).pending = s.pending ∧ (s.modeThread mode t).now = s.now ∧
    (s.modeThread mode t).free = s.free ∧ (s.modeThread mode t).readData = s.readData ∧
    (s.modeThread mode t).mirror = s.mirror ∧ (s.modeThread mode t).laneA = s.laneA ∧
    (s.modeThread mode t).laneB = s.laneB ∧ (s.modeThread mode t).host = s.host ∧
    (s.modeThread mode t).eic = s.eic ∧ (s.modeThread mode t).journal = s.journal ∧
    (s.modeThread mode t).faults = s.faults ∧ (s.modeThread mode t).duplex = s.duplex ∧
    (s.modeThread mode t).gl = s.gl ∧ (s.modeThread mode t).aux = s.aux ∧ (s.modeThread mode t).field = s.field ∧
    (s.modeThread mode t).safe = s.safe ∧ (s.modeThread mode t).clock = s.clock ∧
    (s.modeThread mode t).grp = s.grp ∧ (s.modeThread mode t).sec = s.sec ∧ (s.modeThread mode t).power = s.power ∧
    (s.modeThread mode t).mod.tally = s.mod.tally := by
  simp [State.modeThread]

@[simp] theorem State.cmdSetpoint_frame (s : State) (ps : List (Nat × Nat × Word)) :
    (s.cmdSetpoint ps).1.pending = s.pending ∧ (s.cmdSetpoint ps).1.now = s.now ∧
    (s.cmdSetpoint ps).1.free = s.free ∧ (s.cmdSetpoint ps).1.readData = s.readData ∧
    (s.cmdSetpoint ps).1.regs = s.regs ∧ (s.cmdSetpoint ps).1.mirror = s.mirror ∧
    (s.cmdSetpoint ps).1.laneA = s.laneA ∧ (s.cmdSetpoint ps).1.laneB = s.laneB ∧
    (s.cmdSetpoint ps).1.host = s.host ∧ (s.cmdSetpoint ps).1.eic = s.eic ∧
    (s.cmdSetpoint ps).1.journal = s.journal ∧ (s.cmdSetpoint ps).1.faults = s.faults ∧
    (s.cmdSetpoint ps).1.duplex = s.duplex ∧ (s.cmdSetpoint ps).1.gl = s.gl ∧ (s.cmdSetpoint ps).1.aux = s.aux ∧
    (s.cmdSetpoint ps).1.field = s.field ∧ (s.cmdSetpoint ps).1.safe = s.safe ∧
    (s.cmdSetpoint ps).1.clock = s.clock ∧ (s.cmdSetpoint ps).1.grp = s.grp ∧ (s.cmdSetpoint ps).1.sec = s.sec ∧
    (s.cmdSetpoint ps).1.power = s.power ∧ (s.cmdSetpoint ps).1.mod.tally = s.mod.tally := by
  simp [State.cmdSetpoint]

@[simp] theorem State.cmdSegment_frame (s : State) (b : SegBody) :
    (s.cmdSegment b).1.pending = s.pending ∧ (s.cmdSegment b).1.now = s.now ∧ (s.cmdSegment b).1.free = s.free ∧
    (s.cmdSegment b).1.readData = s.readData ∧ (s.cmdSegment b).1.regs = s.regs ∧
    (s.cmdSegment b).1.mirror = s.mirror ∧ (s.cmdSegment b).1.mod = s.mod ∧ (s.cmdSegment b).1.host = s.host ∧
    (s.cmdSegment b).1.eic = s.eic ∧ (s.cmdSegment b).1.journal = s.journal ∧ (s.cmdSegment b).1.faults = s.faults ∧
    (s.cmdSegment b).1.duplex = s.duplex ∧ (s.cmdSegment b).1.gl = s.gl ∧ (s.cmdSegment b).1.aux = s.aux ∧
    (s.cmdSegment b).1.field = s.field ∧ (s.cmdSegment b).1.safe = s.safe ∧ (s.cmdSegment b).1.clock = s.clock ∧
    (s.cmdSegment b).1.grp = s.grp ∧ (s.cmdSegment b).1.sec = s.sec ∧ (s.cmdSegment b).1.power = s.power := by
  simp only [State.cmdSegment]
  (repeat' split) <;> simp

@[simp] theorem State.cmdTrajStop_frame (s : State) (u : BitVec 4) :
    (s.cmdTrajStop u).1.pending = s.pending ∧ (s.cmdTrajStop u).1.now = s.now ∧ (s.cmdTrajStop u).1.free = s.free ∧
    (s.cmdTrajStop u).1.readData = s.readData ∧ (s.cmdTrajStop u).1.regs = s.regs ∧
    (s.cmdTrajStop u).1.mirror = s.mirror ∧ (s.cmdTrajStop u).1.mod = s.mod ∧ (s.cmdTrajStop u).1.host = s.host ∧
    (s.cmdTrajStop u).1.eic = s.eic ∧ (s.cmdTrajStop u).1.journal = s.journal ∧
    (s.cmdTrajStop u).1.faults = s.faults ∧ (s.cmdTrajStop u).1.duplex = s.duplex ∧ (s.cmdTrajStop u).1.gl = s.gl ∧
    (s.cmdTrajStop u).1.aux = s.aux ∧ (s.cmdTrajStop u).1.field = s.field ∧ (s.cmdTrajStop u).1.safe = s.safe ∧
    (s.cmdTrajStop u).1.clock = s.clock ∧ (s.cmdTrajStop u).1.grp = s.grp ∧ (s.cmdTrajStop u).1.sec = s.sec ∧
    (s.cmdTrajStop u).1.power = s.power := by
  simp [State.cmdTrajStop]

@[simp] theorem State.cmdGroupStart_frame (s : State) (u : BitVec 4) (at_ : DWord) :
    (s.cmdGroupStart u at_).1.pending = s.pending ∧ (s.cmdGroupStart u at_).1.now = s.now ∧
    (s.cmdGroupStart u at_).1.free = s.free ∧ (s.cmdGroupStart u at_).1.readData = s.readData ∧
    (s.cmdGroupStart u at_).1.regs = s.regs ∧ (s.cmdGroupStart u at_).1.mirror = s.mirror ∧
    (s.cmdGroupStart u at_).1.mod = s.mod ∧ (s.cmdGroupStart u at_).1.host = s.host ∧
    (s.cmdGroupStart u at_).1.eic = s.eic ∧ (s.cmdGroupStart u at_).1.journal = s.journal ∧
    (s.cmdGroupStart u at_).1.faults = s.faults ∧ (s.cmdGroupStart u at_).1.duplex = s.duplex ∧
    (s.cmdGroupStart u at_).1.gl = s.gl ∧ (s.cmdGroupStart u at_).1.aux = s.aux ∧
    (s.cmdGroupStart u at_).1.field = s.field ∧ (s.cmdGroupStart u at_).1.safe = s.safe ∧
    (s.cmdGroupStart u at_).1.clock = s.clock ∧ (s.cmdGroupStart u at_).1.sec = s.sec ∧
    (s.cmdGroupStart u at_).1.power = s.power := by
  simp only [State.cmdGroupStart]
  (repeat' split) <;> simp

@[simp] theorem State.mergePairs_frame (s : State) (ps : List (Nat × Word)) :
    (s.mergePairs ps).pending = s.pending ∧ (s.mergePairs ps).now = s.now ∧ (s.mergePairs ps).free = s.free ∧
    (s.mergePairs ps).readData = s.readData ∧ (s.mergePairs ps).mirror = s.mirror ∧ (s.mergePairs ps).mod = s.mod ∧
    (s.mergePairs ps).host = s.host ∧ (s.mergePairs ps).eic = s.eic ∧ (s.mergePairs ps).journal = s.journal ∧
    (s.mergePairs ps).faults = s.faults ∧ (s.mergePairs ps).duplex = s.duplex ∧ (s.mergePairs ps).gl = s.gl ∧
    (s.mergePairs ps).aux = s.aux ∧ (s.mergePairs ps).field = s.field ∧ (s.mergePairs ps).safe = s.safe ∧
    (s.mergePairs ps).clock = s.clock ∧ (s.mergePairs ps).grp = s.grp ∧ (s.mergePairs ps).sec = s.sec ∧
    (s.mergePairs ps).power = s.power := by
  simp [State.mergePairs]

@[simp] theorem State.cmdIoWrite_frame (s : State) (mask val : BitVec 16) :
    (s.cmdIoWrite mask val).1.pending = s.pending ∧ (s.cmdIoWrite mask val).1.now = s.now ∧
    (s.cmdIoWrite mask val).1.free = s.free ∧ (s.cmdIoWrite mask val).1.readData = s.readData ∧
    (s.cmdIoWrite mask val).1.mirror = s.mirror ∧ (s.cmdIoWrite mask val).1.laneA = s.laneA ∧
    (s.cmdIoWrite mask val).1.laneB = s.laneB ∧ (s.cmdIoWrite mask val).1.mod = s.mod ∧
    (s.cmdIoWrite mask val).1.eic = s.eic ∧ (s.cmdIoWrite mask val).1.journal = s.journal ∧
    (s.cmdIoWrite mask val).1.faults = s.faults ∧ (s.cmdIoWrite mask val).1.duplex = s.duplex ∧
    (s.cmdIoWrite mask val).1.gl = s.gl ∧ (s.cmdIoWrite mask val).1.aux = s.aux ∧
    (s.cmdIoWrite mask val).1.safe = s.safe ∧ (s.cmdIoWrite mask val).1.clock = s.clock ∧
    (s.cmdIoWrite mask val).1.grp = s.grp ∧ (s.cmdIoWrite mask val).1.sec = s.sec ∧
    (s.cmdIoWrite mask val).1.power = s.power := by
  simp only [State.cmdIoWrite]
  (repeat' split) <;> simp

@[simp] theorem State.cmdReadSnapshot_frame (s : State) (c : Cmd) (set mode len : Nat) :
    (s.cmdReadSnapshot c set mode len).1.pending = s.pending ∧ (s.cmdReadSnapshot c set mode len).1.now = s.now ∧
    (s.cmdReadSnapshot c set mode len).1.free = s.free ∧
    (s.cmdReadSnapshot c set mode len).1.readData = s.readData ∧
    (s.cmdReadSnapshot c set mode len).1.regs = s.regs ∧ (s.cmdReadSnapshot c set mode len).1.mirror = s.mirror ∧
    (s.cmdReadSnapshot c set mode len).1.laneA = s.laneA ∧ (s.cmdReadSnapshot c set mode len).1.laneB = s.laneB ∧
    (s.cmdReadSnapshot c set mode len).1.mod = s.mod ∧ (s.cmdReadSnapshot c set mode len).1.eic = s.eic ∧
    (s.cmdReadSnapshot c set mode len).1.journal = s.journal ∧
    (s.cmdReadSnapshot c set mode len).1.faults = s.faults ∧
    (s.cmdReadSnapshot c set mode len).1.duplex = s.duplex ∧ (s.cmdReadSnapshot c set mode len).1.gl = s.gl ∧
    (s.cmdReadSnapshot c set mode len).1.aux = s.aux ∧ (s.cmdReadSnapshot c set mode len).1.field = s.field ∧
    (s.cmdReadSnapshot c set mode len).1.safe = s.safe ∧ (s.cmdReadSnapshot c set mode len).1.clock = s.clock ∧
    (s.cmdReadSnapshot c set mode len).1.grp = s.grp ∧ (s.cmdReadSnapshot c set mode len).1.power = s.power ∧
    (s.cmdReadSnapshot c set mode len).1.sec.identity = s.sec.identity := by
  simp only [State.cmdReadSnapshot]
  (repeat' split) <;> simp

@[simp] theorem State.cmdJournalRead_frame (s : State) (c : Cmd) (first : Word) (count : Nat) :
    (s.cmdJournalRead c first count).1.pending = s.pending ∧ (s.cmdJournalRead c first count).1.now = s.now ∧
    (s.cmdJournalRead c first count).1.readData = s.readData ∧ (s.cmdJournalRead c first count).1.regs = s.regs ∧
    (s.cmdJournalRead c first count).1.mirror = s.mirror ∧ (s.cmdJournalRead c first count).1.laneA = s.laneA ∧
    (s.cmdJournalRead c first count).1.laneB = s.laneB ∧ (s.cmdJournalRead c first count).1.mod = s.mod ∧
    (s.cmdJournalRead c first count).1.eic = s.eic ∧ (s.cmdJournalRead c first count).1.journal = s.journal ∧
    (s.cmdJournalRead c first count).1.faults = s.faults ∧ (s.cmdJournalRead c first count).1.duplex = s.duplex ∧
    (s.cmdJournalRead c first count).1.gl = s.gl ∧ (s.cmdJournalRead c first count).1.aux = s.aux ∧
    (s.cmdJournalRead c first count).1.field = s.field ∧ (s.cmdJournalRead c first count).1.safe = s.safe ∧
    (s.cmdJournalRead c first count).1.clock = s.clock ∧ (s.cmdJournalRead c first count).1.grp = s.grp ∧
    (s.cmdJournalRead c first count).1.power = s.power ∧
    (s.cmdJournalRead c first count).1.sec.identity = s.sec.identity := by
  simp only [State.cmdJournalRead]
  (repeat' split) <;> simp

@[simp] theorem State.cmdLoadCoeff_frame (s : State) (ctx bank off : Nat) (ws : List Word) :
    (s.cmdLoadCoeff ctx bank off ws).1.pending = s.pending ∧ (s.cmdLoadCoeff ctx bank off ws).1.now = s.now ∧
    (s.cmdLoadCoeff ctx bank off ws).1.readData = s.readData ∧
    (s.cmdLoadCoeff ctx bank off ws).1.mirror = s.mirror ∧ (s.cmdLoadCoeff ctx bank off ws).1.mod = s.mod ∧
    (s.cmdLoadCoeff ctx bank off ws).1.host = s.host ∧ (s.cmdLoadCoeff ctx bank off ws).1.eic = s.eic ∧
    (s.cmdLoadCoeff ctx bank off ws).1.journal = s.journal ∧ (s.cmdLoadCoeff ctx bank off ws).1.faults = s.faults ∧
    (s.cmdLoadCoeff ctx bank off ws).1.duplex = s.duplex ∧ (s.cmdLoadCoeff ctx bank off ws).1.gl = s.gl ∧
    (s.cmdLoadCoeff ctx bank off ws).1.aux = s.aux ∧ (s.cmdLoadCoeff ctx bank off ws).1.field = s.field ∧
    (s.cmdLoadCoeff ctx bank off ws).1.safe = s.safe ∧ (s.cmdLoadCoeff ctx bank off ws).1.clock = s.clock ∧
    (s.cmdLoadCoeff ctx bank off ws).1.grp = s.grp ∧ (s.cmdLoadCoeff ctx bank off ws).1.sec = s.sec ∧
    (s.cmdLoadCoeff ctx bank off ws).1.power = s.power := by
  simp only [State.cmdLoadCoeff]
  (repeat' split) <;> simp

@[simp] theorem State.cmdSwapBank_frame (s : State) (cs : List Nat) (bumpless : Bool) :
    (s.cmdSwapBank cs bumpless).1.pending = s.pending ∧ (s.cmdSwapBank cs bumpless).1.now = s.now ∧
    (s.cmdSwapBank cs bumpless).1.free = s.free ∧ (s.cmdSwapBank cs bumpless).1.readData = s.readData ∧
    (s.cmdSwapBank cs bumpless).1.regs = s.regs ∧ (s.cmdSwapBank cs bumpless).1.mirror = s.mirror ∧
    (s.cmdSwapBank cs bumpless).1.mod = s.mod ∧ (s.cmdSwapBank cs bumpless).1.eic = s.eic ∧
    (s.cmdSwapBank cs bumpless).1.journal = s.journal ∧ (s.cmdSwapBank cs bumpless).1.faults = s.faults ∧
    (s.cmdSwapBank cs bumpless).1.duplex = s.duplex ∧ (s.cmdSwapBank cs bumpless).1.gl = s.gl ∧
    (s.cmdSwapBank cs bumpless).1.aux = s.aux ∧ (s.cmdSwapBank cs bumpless).1.field = s.field ∧
    (s.cmdSwapBank cs bumpless).1.safe = s.safe ∧ (s.cmdSwapBank cs bumpless).1.clock = s.clock ∧
    (s.cmdSwapBank cs bumpless).1.grp = s.grp ∧ (s.cmdSwapBank cs bumpless).1.sec = s.sec ∧
    (s.cmdSwapBank cs bumpless).1.power = s.power := by
  simp only [State.cmdSwapBank]
  (repeat' split) <;> simp

@[simp] theorem State.cmdLoadProgram_frame (s : State) (img : Image) :
    (s.cmdLoadProgram img).1.pending = s.pending ∧ (s.cmdLoadProgram img).1.now = s.now ∧
    (s.cmdLoadProgram img).1.readData = s.readData ∧ (s.cmdLoadProgram img).1.mirror = s.mirror ∧
    (s.cmdLoadProgram img).1.mod = s.mod ∧ (s.cmdLoadProgram img).1.host = s.host ∧
    (s.cmdLoadProgram img).1.eic = s.eic ∧ (s.cmdLoadProgram img).1.journal = s.journal ∧
    (s.cmdLoadProgram img).1.faults = s.faults ∧ (s.cmdLoadProgram img).1.duplex = s.duplex ∧
    (s.cmdLoadProgram img).1.gl = s.gl ∧ (s.cmdLoadProgram img).1.aux = s.aux ∧
    (s.cmdLoadProgram img).1.field = s.field ∧ (s.cmdLoadProgram img).1.safe = s.safe ∧
    (s.cmdLoadProgram img).1.clock = s.clock ∧ (s.cmdLoadProgram img).1.grp = s.grp ∧
    (s.cmdLoadProgram img).1.sec = s.sec ∧ (s.cmdLoadProgram img).1.power = s.power := by
  simp only [State.cmdLoadProgram]
  (repeat' split) <;> simp

@[simp] theorem State.cmdSchedWrite_frame (s : State) (first : Nat) (es : List EntryWords) :
    (s.cmdSchedWrite first es).1.pending = s.pending ∧ (s.cmdSchedWrite first es).1.now = s.now ∧
    (s.cmdSchedWrite first es).1.free = s.free ∧ (s.cmdSchedWrite first es).1.readData = s.readData ∧
    (s.cmdSchedWrite first es).1.mirror = s.mirror ∧ (s.cmdSchedWrite first es).1.sec = s.sec ∧
    (s.cmdSchedWrite first es).1.mod.tally = s.mod.tally := by
  simp only [State.cmdSchedWrite]
  (repeat' split) <;> simp

@[simp] theorem State.cmdLockoutReset_frame (s : State) (tag : Word) :
    (s.cmdLockoutReset tag).1.pending = s.pending ∧ (s.cmdLockoutReset tag).1.now = s.now ∧
    (s.cmdLockoutReset tag).1.free = s.free ∧ (s.cmdLockoutReset tag).1.readData = s.readData ∧
    (s.cmdLockoutReset tag).1.mirror = s.mirror ∧ (s.cmdLockoutReset tag).1.host = s.host ∧
    (s.cmdLockoutReset tag).1.duplex = s.duplex ∧ (s.cmdLockoutReset tag).1.gl = s.gl ∧
    (s.cmdLockoutReset tag).1.clock = s.clock ∧ (s.cmdLockoutReset tag).1.grp = s.grp ∧
    (s.cmdLockoutReset tag).1.sec = s.sec ∧ (s.cmdLockoutReset tag).1.power = s.power ∧
    (s.cmdLockoutReset tag).1.mod.tally = s.mod.tally := by
  simp only [State.cmdLockoutReset]
  (repeat' split) <;> simp

@[simp] theorem State.cmdLaneControl_frame (s : State) (i : LaneId) (action : Nat) :
    (s.cmdLaneControl i action).1.pending = s.pending ∧ (s.cmdLaneControl i action).1.now = s.now ∧
    (s.cmdLaneControl i action).1.readData = s.readData ∧ (s.cmdLaneControl i action).1.mirror = s.mirror ∧
    (s.cmdLaneControl i action).1.clock = s.clock ∧ (s.cmdLaneControl i action).1.grp = s.grp ∧
    (s.cmdLaneControl i action).1.mod.tally = s.mod.tally ∧
    (s.cmdLaneControl i action).1.sec.identity = s.sec.identity := by
  simp only [State.cmdLaneControl]
  (repeat' split) <;> simp

@[simp] theorem State.cmdTimeAdjust_frame (s : State) (mode : Nat) (sec : BitVec 64) (nsec : Word) :
    (s.cmdTimeAdjust mode sec nsec).1.pending = s.pending ∧ (s.cmdTimeAdjust mode sec nsec).1.now = s.now ∧
    (s.cmdTimeAdjust mode sec nsec).1.free = s.free ∧ (s.cmdTimeAdjust mode sec nsec).1.readData = s.readData ∧
    (s.cmdTimeAdjust mode sec nsec).1.mirror = s.mirror ∧ (s.cmdTimeAdjust mode sec nsec).1.mod = s.mod ∧
    (s.cmdTimeAdjust mode sec nsec).1.host = s.host ∧ (s.cmdTimeAdjust mode sec nsec).1.journal = s.journal ∧
    (s.cmdTimeAdjust mode sec nsec).1.faults = s.faults ∧ (s.cmdTimeAdjust mode sec nsec).1.duplex = s.duplex ∧
    (s.cmdTimeAdjust mode sec nsec).1.gl = s.gl ∧ (s.cmdTimeAdjust mode sec nsec).1.aux = s.aux ∧
    (s.cmdTimeAdjust mode sec nsec).1.field = s.field ∧ (s.cmdTimeAdjust mode sec nsec).1.safe = s.safe ∧
    (s.cmdTimeAdjust mode sec nsec).1.grp = s.grp ∧ (s.cmdTimeAdjust mode sec nsec).1.sec = s.sec ∧
    (s.cmdTimeAdjust mode sec nsec).1.power = s.power := by
  simp [State.cmdTimeAdjust]

@[simp] theorem State.cmdAttest_frame (s : State) (mode : Nat) :
    (s.cmdAttest mode).1.pending = s.pending ∧ (s.cmdAttest mode).1.now = s.now ∧
    (s.cmdAttest mode).1.free = s.free ∧ (s.cmdAttest mode).1.readData = s.readData ∧
    (s.cmdAttest mode).1.regs = s.regs ∧ (s.cmdAttest mode).1.mirror = s.mirror ∧
    (s.cmdAttest mode).1.laneA = s.laneA ∧ (s.cmdAttest mode).1.laneB = s.laneB ∧ (s.cmdAttest mode).1.mod = s.mod ∧
    (s.cmdAttest mode).1.host = s.host ∧ (s.cmdAttest mode).1.eic = s.eic ∧
    (s.cmdAttest mode).1.journal = s.journal ∧ (s.cmdAttest mode).1.faults = s.faults ∧
    (s.cmdAttest mode).1.duplex = s.duplex ∧ (s.cmdAttest mode).1.gl = s.gl ∧ (s.cmdAttest mode).1.aux = s.aux ∧
    (s.cmdAttest mode).1.field = s.field ∧ (s.cmdAttest mode).1.safe = s.safe ∧
    (s.cmdAttest mode).1.clock = s.clock ∧ (s.cmdAttest mode).1.grp = s.grp ∧ (s.cmdAttest mode).1.sec = s.sec ∧
    (s.cmdAttest mode).1.power = s.power := by
  simp only [State.cmdAttest]
  (repeat' split) <;> simp

@[simp] theorem State.cmdFwStage_frame (s : State) (type action : Nat) :
    (s.cmdFwStage type action).1.pending = s.pending ∧ (s.cmdFwStage type action).1.now = s.now ∧
    (s.cmdFwStage type action).1.free = s.free ∧ (s.cmdFwStage type action).1.readData = s.readData ∧
    (s.cmdFwStage type action).1.regs = s.regs ∧ (s.cmdFwStage type action).1.mirror = s.mirror ∧
    (s.cmdFwStage type action).1.laneA = s.laneA ∧ (s.cmdFwStage type action).1.laneB = s.laneB ∧
    (s.cmdFwStage type action).1.mod = s.mod ∧ (s.cmdFwStage type action).1.host = s.host ∧
    (s.cmdFwStage type action).1.eic = s.eic ∧ (s.cmdFwStage type action).1.journal = s.journal ∧
    (s.cmdFwStage type action).1.faults = s.faults ∧ (s.cmdFwStage type action).1.duplex = s.duplex ∧
    (s.cmdFwStage type action).1.gl = s.gl ∧ (s.cmdFwStage type action).1.aux = s.aux ∧
    (s.cmdFwStage type action).1.field = s.field ∧ (s.cmdFwStage type action).1.safe = s.safe ∧
    (s.cmdFwStage type action).1.clock = s.clock ∧ (s.cmdFwStage type action).1.grp = s.grp ∧
    (s.cmdFwStage type action).1.sec = s.sec ∧ (s.cmdFwStage type action).1.power = s.power := by
  simp only [State.cmdFwStage]
  (repeat' split) <;> simp

@[simp] theorem State.dropCmd_frame (s : State) (c : Cmd) :
    (s.dropCmd c).pending = s.pending ∧ (s.dropCmd c).now = s.now ∧ (s.dropCmd c).free = s.free ∧
    (s.dropCmd c).readData = s.readData ∧ (s.dropCmd c).regs = s.regs ∧ (s.dropCmd c).mirror = s.mirror ∧
    (s.dropCmd c).laneA = s.laneA ∧ (s.dropCmd c).laneB = s.laneB ∧ (s.dropCmd c).mod = s.mod ∧
    (s.dropCmd c).eic = s.eic ∧ (s.dropCmd c).journal = s.journal ∧ (s.dropCmd c).faults = s.faults ∧
    (s.dropCmd c).duplex = s.duplex ∧ (s.dropCmd c).gl = s.gl ∧ (s.dropCmd c).aux = s.aux ∧
    (s.dropCmd c).field = s.field ∧ (s.dropCmd c).safe = s.safe ∧ (s.dropCmd c).clock = s.clock ∧
    (s.dropCmd c).grp = s.grp ∧ (s.dropCmd c).sec = s.sec ∧ (s.dropCmd c).power = s.power := by
  simp [State.dropCmd]

@[simp] theorem State.cmdArm_frame (s : State) (thr : BitVec 8) :
    (s.cmdArm thr).1.pending = s.pending ∧ (s.cmdArm thr).1.now = s.now ∧ (s.cmdArm thr).1.free = s.free ∧
    (s.cmdArm thr).1.readData = s.readData ∧ (s.cmdArm thr).1.mirror = s.mirror ∧ (s.cmdArm thr).1.host = s.host ∧
    (s.cmdArm thr).1.duplex = s.duplex ∧ (s.cmdArm thr).1.gl = s.gl ∧ (s.cmdArm thr).1.aux = s.aux ∧
    (s.cmdArm thr).1.field = s.field ∧ (s.cmdArm thr).1.clock = s.clock ∧ (s.cmdArm thr).1.grp = s.grp ∧
    (s.cmdArm thr).1.sec = s.sec ∧ (s.cmdArm thr).1.power = s.power ∧ (s.cmdArm thr).1.mod.tally = s.mod.tally := by
  simp only [State.cmdArm]
  (repeat' split) <;> simp

@[simp] theorem State.cmdDisarm_frame (s : State) (thr : BitVec 8) :
    (s.cmdDisarm thr).1.pending = s.pending ∧ (s.cmdDisarm thr).1.now = s.now ∧ (s.cmdDisarm thr).1.free = s.free ∧
    (s.cmdDisarm thr).1.readData = s.readData ∧ (s.cmdDisarm thr).1.mirror = s.mirror ∧
    (s.cmdDisarm thr).1.host = s.host ∧ (s.cmdDisarm thr).1.aux = s.aux ∧ (s.cmdDisarm thr).1.field = s.field ∧
    (s.cmdDisarm thr).1.clock = s.clock ∧ (s.cmdDisarm thr).1.grp = s.grp ∧ (s.cmdDisarm thr).1.sec = s.sec ∧
    (s.cmdDisarm thr).1.power = s.power ∧ (s.cmdDisarm thr).1.mod.tally = s.mod.tally := by
  simp only [State.cmdDisarm]
  (repeat' split) <;> simp

@[simp] theorem State.cmdSetMode_frame (s : State) (thr : BitVec 8) (mode : BitVec 16) :
    (s.cmdSetMode thr mode).1.pending = s.pending ∧ (s.cmdSetMode thr mode).1.now = s.now ∧
    (s.cmdSetMode thr mode).1.free = s.free ∧ (s.cmdSetMode thr mode).1.readData = s.readData ∧
    (s.cmdSetMode thr mode).1.mirror = s.mirror ∧ (s.cmdSetMode thr mode).1.host = s.host ∧
    (s.cmdSetMode thr mode).1.faults = s.faults ∧ (s.cmdSetMode thr mode).1.gl = s.gl ∧
    (s.cmdSetMode thr mode).1.aux = s.aux ∧ (s.cmdSetMode thr mode).1.field = s.field ∧
    (s.cmdSetMode thr mode).1.clock = s.clock ∧ (s.cmdSetMode thr mode).1.grp = s.grp ∧
    (s.cmdSetMode thr mode).1.sec = s.sec ∧ (s.cmdSetMode thr mode).1.power = s.power ∧
    (s.cmdSetMode thr mode).1.mod.tally = s.mod.tally := by
  simp only [State.cmdSetMode]
  (repeat' split) <;> simp

@[simp] theorem State.snapNow_frame (s : State) (c : Cmd) (set : Nat) :
    (s.snapNow c set).pending = s.pending ∧ (s.snapNow c set).now = s.now ∧ (s.snapNow c set).free = s.free ∧
    (s.snapNow c set).readData = s.readData ∧ (s.snapNow c set).mirror = s.mirror ∧ (s.snapNow c set).mod = s.mod ∧
    (s.snapNow c set).journal = s.journal ∧ (s.snapNow c set).faults = s.faults ∧
    (s.snapNow c set).duplex = s.duplex ∧ (s.snapNow c set).gl = s.gl ∧ (s.snapNow c set).aux = s.aux ∧
    (s.snapNow c set).field = s.field ∧ (s.snapNow c set).safe = s.safe ∧ (s.snapNow c set).clock = s.clock ∧
    (s.snapNow c set).grp = s.grp ∧ (s.snapNow c set).power = s.power ∧
    (s.snapNow c set).sec.identity = s.sec.identity := by
  simp [State.snapNow]

@[simp] theorem State.finishCmd_frame (s : State) (c : Cmd) (r : Option Result) :
    (s.finishCmd c r).pending = s.pending ∧ (s.finishCmd c r).now = s.now ∧ (s.finishCmd c r).free = s.free ∧
    (s.finishCmd c r).readData = s.readData ∧ (s.finishCmd c r).mirror = s.mirror ∧ (s.finishCmd c r).mod = s.mod ∧
    (s.finishCmd c r).faults = s.faults ∧ (s.finishCmd c r).duplex = s.duplex ∧ (s.finishCmd c r).gl = s.gl ∧
    (s.finishCmd c r).aux = s.aux ∧ (s.finishCmd c r).field = s.field ∧ (s.finishCmd c r).safe = s.safe ∧
    (s.finishCmd c r).clock = s.clock ∧ (s.finishCmd c r).grp = s.grp ∧ (s.finishCmd c r).power = s.power ∧
    (s.finishCmd c r).sec.identity = s.sec.identity := by
  simp only [State.finishCmd]
  (repeat' split) <;> simp

end Sys2Proof.Machine
end

