-- ==== Sys2Proof/Laws/FireFrames.lean ====
section
/-! SUPPORT. What the operations of Machine/Fire.lean leave alone: for each, the parts of the state that it keeps. -/
namespace Sys2Proof.Machine

@[simp] theorem State.fire_frame (s : State) (i : LaneId) (e : QEntry) :
    (s.fire i e).pending = s.pending ∧ (s.fire i e).now = s.now ∧ (s.fire i e).free = s.free ∧
    (s.fire i e).readData = s.readData ∧ (s.fire i e).mirror = s.mirror ∧ (s.fire i e).clock = s.clock ∧
    (s.fire i e).grp = s.grp ∧ (s.fire i e).sec = s.sec ∧ (s.fire i e).mod.tally = s.mod.tally := by
  simp only [State.fire]
  (repeat' split) <;> simp

@[simp] theorem State.dispatchOne_frame (s : State) (i : LaneId) :
    (s.dispatchOne i).pending = s.pending ∧ (s.dispatchOne i).now = s.now ∧ (s.dispatchOne i).free = s.free ∧
    (s.dispatchOne i).readData = s.readData ∧ (s.dispatchOne i).mirror = s.mirror ∧
    (s.dispatchOne i).clock = s.clock ∧ (s.dispatchOne i).grp = s.grp ∧ (s.dispatchOne i).sec = s.sec ∧
    (s.dispatchOne i).mod.tally = s.mod.tally := by
  simp only [State.dispatchOne]
  (repeat' split) <;> simp

end Sys2Proof.Machine
end

