-- ==== Sys2Proof/Laws/StagingFrames.lean ====
section
/-! SUPPORT. What the operations of Machine/Staging.lean leave alone: for each, the parts of the state that it keeps. -/
namespace Sys2Proof.Machine

@[simp] theorem State.serve_frame (s : State) (q : Nat) :
    (s.serve q).pending = s.pending ∧ (s.serve q).now = s.now ∧ (s.serve q).free = s.free ∧
    (s.serve q).readData = s.readData ∧ (s.serve q).regs = s.regs ∧ (s.serve q).mirror = s.mirror ∧
    (s.serve q).laneA = s.laneA ∧ (s.serve q).laneB = s.laneB ∧ (s.serve q).mod = s.mod ∧ (s.serve q).eic = s.eic ∧
    (s.serve q).journal = s.journal ∧ (s.serve q).faults = s.faults ∧ (s.serve q).duplex = s.duplex ∧
    (s.serve q).gl = s.gl ∧ (s.serve q).aux = s.aux ∧ (s.serve q).field = s.field ∧ (s.serve q).safe = s.safe ∧
    (s.serve q).clock = s.clock ∧ (s.serve q).grp = s.grp ∧ (s.serve q).sec = s.sec ∧
    (s.serve q).power = s.power := by
  simp [State.serve]

@[simp] theorem State.fetch_frame (s : State) (q tag : Nat) (h : Hdr) (cmd : HostCmd) :
    (s.fetch q tag h cmd).pending = s.pending ∧ (s.fetch q tag h cmd).now = s.now ∧
    (s.fetch q tag h cmd).free = s.free ∧ (s.fetch q tag h cmd).readData = s.readData ∧
    (s.fetch q tag h cmd).mirror = s.mirror ∧ (s.fetch q tag h cmd).laneA = s.laneA ∧
    (s.fetch q tag h cmd).laneB = s.laneB ∧ (s.fetch q tag h cmd).mod = s.mod ∧ (s.fetch q tag h cmd).eic = s.eic ∧
    (s.fetch q tag h cmd).journal = s.journal ∧ (s.fetch q tag h cmd).faults = s.faults ∧
    (s.fetch q tag h cmd).duplex = s.duplex ∧ (s.fetch q tag h cmd).gl = s.gl ∧ (s.fetch q tag h cmd).aux = s.aux ∧
    (s.fetch q tag h cmd).field = s.field ∧ (s.fetch q tag h cmd).safe = s.safe ∧
    (s.fetch q tag h cmd).clock = s.clock ∧ (s.fetch q tag h cmd).grp = s.grp ∧ (s.fetch q tag h cmd).sec = s.sec ∧
    (s.fetch q tag h cmd).power = s.power := by
  simp only [State.fetch]
  (repeat' split) <;> simp

@[simp] theorem State.putCmd_frame (s : State) (c : Cmd) :
    (s.putCmd c).pending = s.pending ∧ (s.putCmd c).now = s.now ∧ (s.putCmd c).free = s.free ∧
    (s.putCmd c).readData = s.readData ∧ (s.putCmd c).regs = s.regs ∧ (s.putCmd c).mirror = s.mirror ∧
    (s.putCmd c).laneA = s.laneA ∧ (s.putCmd c).laneB = s.laneB ∧ (s.putCmd c).mod = s.mod ∧
    (s.putCmd c).eic = s.eic ∧ (s.putCmd c).journal = s.journal ∧ (s.putCmd c).faults = s.faults ∧
    (s.putCmd c).duplex = s.duplex ∧ (s.putCmd c).gl = s.gl ∧ (s.putCmd c).aux = s.aux ∧
    (s.putCmd c).field = s.field ∧ (s.putCmd c).safe = s.safe ∧ (s.putCmd c).clock = s.clock ∧
    (s.putCmd c).grp = s.grp ∧ (s.putCmd c).sec = s.sec ∧ (s.putCmd c).power = s.power := by
  simp [State.putCmd]

@[simp] theorem State.timeOut_frame (s : State) (u : CmdUnit) :
    (s.timeOut u).pending = s.pending ∧ (s.timeOut u).now = s.now ∧ (s.timeOut u).free = s.free ∧
    (s.timeOut u).readData = s.readData ∧ (s.timeOut u).regs = s.regs ∧ (s.timeOut u).mirror = s.mirror ∧
    (s.timeOut u).laneA = s.laneA ∧ (s.timeOut u).laneB = s.laneB ∧ (s.timeOut u).mod = s.mod ∧
    (s.timeOut u).eic = s.eic ∧ (s.timeOut u).journal = s.journal ∧ (s.timeOut u).faults = s.faults ∧
    (s.timeOut u).duplex = s.duplex ∧ (s.timeOut u).gl = s.gl ∧ (s.timeOut u).aux = s.aux ∧
    (s.timeOut u).field = s.field ∧ (s.timeOut u).safe = s.safe ∧ (s.timeOut u).clock = s.clock ∧
    (s.timeOut u).grp = s.grp ∧ (s.timeOut u).sec = s.sec ∧ (s.timeOut u).power = s.power := by
  simp only [State.timeOut]
  (repeat' split) <;> simp

end Sys2Proof.Machine
end

