-- ==== Sys2Proof/Laws/PsfFrames.lean ====
section
/-! SUPPORT. What the operations of Machine/Psf.lean leave alone: for each, the parts of the state that it keeps. -/
namespace Sys2Proof.Machine

@[simp] theorem State.sendPsfStatus_frame (s : State) :
    s.sendPsfStatus.pending = s.pending ∧ s.sendPsfStatus.now = s.now ∧ s.sendPsfStatus.free = s.free ∧
    s.sendPsfStatus.readData = s.readData ∧ s.sendPsfStatus.regs = s.regs ∧ s.sendPsfStatus.mirror = s.mirror ∧
    s.sendPsfStatus.laneA = s.laneA ∧ s.sendPsfStatus.laneB = s.laneB ∧ s.sendPsfStatus.mod = s.mod ∧
    s.sendPsfStatus.host = s.host ∧ s.sendPsfStatus.eic = s.eic ∧ s.sendPsfStatus.journal = s.journal ∧
    s.sendPsfStatus.faults = s.faults ∧ s.sendPsfStatus.duplex = s.duplex ∧ s.sendPsfStatus.gl = s.gl ∧
    s.sendPsfStatus.aux = s.aux ∧ s.sendPsfStatus.field = s.field ∧ s.sendPsfStatus.clock = s.clock ∧
    s.sendPsfStatus.grp = s.grp ∧ s.sendPsfStatus.sec = s.sec ∧ s.sendPsfStatus.power = s.power := by
  simp [State.sendPsfStatus]

@[simp] theorem State.psfLockout_frame (s : State) (tag : Word) :
    (s.psfLockout tag).pending = s.pending ∧ (s.psfLockout tag).now = s.now ∧ (s.psfLockout tag).free = s.free ∧
    (s.psfLockout tag).readData = s.readData ∧ (s.psfLockout tag).mirror = s.mirror ∧
    (s.psfLockout tag).mod = s.mod ∧ (s.psfLockout tag).host = s.host ∧ (s.psfLockout tag).eic = s.eic ∧
    (s.psfLockout tag).faults = s.faults ∧ (s.psfLockout tag).duplex = s.duplex ∧ (s.psfLockout tag).gl = s.gl ∧
    (s.psfLockout tag).aux = s.aux ∧ (s.psfLockout tag).field = s.field ∧ (s.psfLockout tag).clock = s.clock ∧
    (s.psfLockout tag).grp = s.grp ∧ (s.psfLockout tag).sec = s.sec ∧ (s.psfLockout tag).power = s.power := by
  simp [State.psfLockout]

@[simp] theorem State.boundaryLockout_frame (s : State) :
    s.boundaryLockout.pending = s.pending ∧ s.boundaryLockout.now = s.now ∧ s.boundaryLockout.free = s.free ∧
    s.boundaryLockout.readData = s.readData ∧ s.boundaryLockout.mirror = s.mirror ∧
    s.boundaryLockout.host = s.host ∧ s.boundaryLockout.duplex = s.duplex ∧ s.boundaryLockout.gl = s.gl ∧
    s.boundaryLockout.clock = s.clock ∧ s.boundaryLockout.grp = s.grp ∧ s.boundaryLockout.sec = s.sec ∧
    s.boundaryLockout.power = s.power ∧ s.boundaryLockout.mod.tally = s.mod.tally := by
  simp only [State.boundaryLockout]
  (repeat' split) <;> simp

@[simp] theorem State.psfAccept_frame (s : State) (i : LaneId) (f : List Byte) :
    (s.psfAccept i f).pending = s.pending ∧ (s.psfAccept i f).now = s.now ∧ (s.psfAccept i f).free = s.free ∧
    (s.psfAccept i f).readData = s.readData ∧ (s.psfAccept i f).mirror = s.mirror ∧ (s.psfAccept i f).mod = s.mod ∧
    (s.psfAccept i f).host = s.host ∧ (s.psfAccept i f).eic = s.eic ∧ (s.psfAccept i f).faults = s.faults ∧
    (s.psfAccept i f).duplex = s.duplex ∧ (s.psfAccept i f).gl = s.gl ∧ (s.psfAccept i f).aux = s.aux ∧
    (s.psfAccept i f).field = s.field ∧ (s.psfAccept i f).clock = s.clock ∧ (s.psfAccept i f).grp = s.grp ∧
    (s.psfAccept i f).sec = s.sec ∧ (s.psfAccept i f).power = s.power := by
  simp [State.psfAccept]

@[simp] theorem State.psfFrame_frame (s : State) (i : LaneId) (f : List Byte) :
    (s.psfFrame i f).pending = s.pending ∧ (s.psfFrame i f).now = s.now ∧ (s.psfFrame i f).free = s.free ∧
    (s.psfFrame i f).readData = s.readData ∧ (s.psfFrame i f).mirror = s.mirror ∧ (s.psfFrame i f).host = s.host ∧
    (s.psfFrame i f).clock = s.clock ∧ (s.psfFrame i f).grp = s.grp ∧ (s.psfFrame i f).sec = s.sec ∧
    (s.psfFrame i f).mod.tally = s.mod.tally := by
  simp only [State.psfFrame]
  (repeat' split) <;> simp

end Sys2Proof.Machine
end

