-- ==== Sys2Proof/Laws/FrameFrames.lean ====
section
/-! SUPPORT. What the operations of Machine/Frame.lean leave alone: for each, the parts of the state that it keeps. -/
namespace Sys2Proof.Machine

@[simp] theorem State.laneRecords_frame (s : State) (i : LaneId) :
    (s.laneRecords i).pending = s.pending ∧ (s.laneRecords i).now = s.now ∧ (s.laneRecords i).free = s.free ∧
    (s.laneRecords i).readData = s.readData ∧ (s.laneRecords i).regs = s.regs ∧
    (s.laneRecords i).mirror = s.mirror ∧ (s.laneRecords i).mod = s.mod ∧ (s.laneRecords i).eic = s.eic ∧
    (s.laneRecords i).journal = s.journal ∧ (s.laneRecords i).faults = s.faults ∧ (s.laneRecords i).gl = s.gl ∧
    (s.laneRecords i).aux = s.aux ∧ (s.laneRecords i).field = s.field ∧ (s.laneRecords i).safe = s.safe ∧
    (s.laneRecords i).clock = s.clock ∧ (s.laneRecords i).grp = s.grp ∧ (s.laneRecords i).sec = s.sec ∧
    (s.laneRecords i).power = s.power := by
  simp [State.laneRecords]

@[simp] theorem State.laneAngles_frame (s : State) (i : LaneId) :
    (s.laneAngles i).pending = s.pending ∧ (s.laneAngles i).now = s.now ∧ (s.laneAngles i).free = s.free ∧
    (s.laneAngles i).readData = s.readData ∧ (s.laneAngles i).mirror = s.mirror ∧ (s.laneAngles i).mod = s.mod ∧
    (s.laneAngles i).host = s.host ∧ (s.laneAngles i).faults = s.faults ∧ (s.laneAngles i).gl = s.gl ∧
    (s.laneAngles i).aux = s.aux ∧ (s.laneAngles i).field = s.field ∧ (s.laneAngles i).safe = s.safe ∧
    (s.laneAngles i).clock = s.clock ∧ (s.laneAngles i).grp = s.grp ∧ (s.laneAngles i).sec = s.sec ∧
    (s.laneAngles i).power = s.power := by
  simp [State.laneAngles]

@[simp] theorem State.sendSnaps_frame (s : State) :
    s.sendSnaps.pending = s.pending ∧ s.sendSnaps.now = s.now ∧ s.sendSnaps.free = s.free ∧
    s.sendSnaps.readData = s.readData ∧ s.sendSnaps.mirror = s.mirror ∧ s.sendSnaps.mod = s.mod ∧
    s.sendSnaps.journal = s.journal ∧ s.sendSnaps.faults = s.faults ∧ s.sendSnaps.duplex = s.duplex ∧
    s.sendSnaps.gl = s.gl ∧ s.sendSnaps.aux = s.aux ∧ s.sendSnaps.field = s.field ∧ s.sendSnaps.safe = s.safe ∧
    s.sendSnaps.clock = s.clock ∧ s.sendSnaps.grp = s.grp ∧ s.sendSnaps.power = s.power ∧
    s.sendSnaps.sec.identity = s.sec.identity := by
  unfold State.sendSnaps
  exact ⟨State.foldl_pending _ (by intros; (try dsimp only); (repeat' split) <;> simp) _ _,
    State.foldl_now _ (by intros; (try dsimp only); (repeat' split) <;> simp) _ _,
    State.foldl_free _ (by intros; (try dsimp only); (repeat' split) <;> simp) _ _,
    State.foldl_readData _ (by intros; (try dsimp only); (repeat' split) <;> simp) _ _,
    State.foldl_mirror _ (by intros; (try dsimp only); (repeat' split) <;> simp) _ _,
    State.foldl_mod _ (by intros; (try dsimp only); (repeat' split) <;> simp) _ _,
    State.foldl_journal _ (by intros; (try dsimp only); (repeat' split) <;> simp) _ _,
    State.foldl_faults _ (by intros; (try dsimp only); (repeat' split) <;> simp) _ _,
    State.foldl_duplex _ (by intros; (try dsimp only); (repeat' split) <;> simp) _ _,
    State.foldl_gl _ (by intros; (try dsimp only); (repeat' split) <;> simp) _ _,
    State.foldl_aux _ (by intros; (try dsimp only); (repeat' split) <;> simp) _ _,
    State.foldl_field _ (by intros; (try dsimp only); (repeat' split) <;> simp) _ _,
    State.foldl_safe _ (by intros; (try dsimp only); (repeat' split) <;> simp) _ _,
    State.foldl_clock _ (by intros; (try dsimp only); (repeat' split) <;> simp) _ _,
    State.foldl_grp _ (by intros; (try dsimp only); (repeat' split) <;> simp) _ _,
    State.foldl_power _ (by intros; (try dsimp only); (repeat' split) <;> simp) _ _,
    State.foldl_sec_identity _ (by intros; (try dsimp only); (repeat' split) <;> simp) _ _⟩

@[simp] theorem State.refreshMirror_frame (s : State) :
    s.refreshMirror.pending = s.pending ∧ s.refreshMirror.now = s.now ∧ s.refreshMirror.free = s.free ∧
    s.refreshMirror.readData = s.readData ∧ s.refreshMirror.regs = s.regs ∧ s.refreshMirror.laneA = s.laneA ∧
    s.refreshMirror.laneB = s.laneB ∧ s.refreshMirror.mod = s.mod ∧ s.refreshMirror.host = s.host ∧
    s.refreshMirror.eic = s.eic ∧ s.refreshMirror.journal = s.journal ∧ s.refreshMirror.faults = s.faults ∧
    s.refreshMirror.duplex = s.duplex ∧ s.refreshMirror.gl = s.gl ∧ s.refreshMirror.aux = s.aux ∧
    s.refreshMirror.field = s.field ∧ s.refreshMirror.safe = s.safe ∧ s.refreshMirror.clock = s.clock ∧
    s.refreshMirror.grp = s.grp ∧ s.refreshMirror.sec = s.sec ∧ s.refreshMirror.power = s.power := by
  simp [State.refreshMirror]

@[simp] theorem State.boundarySluice_frame (s : State) :
    s.boundarySluice.pending = s.pending ∧ s.boundarySluice.now = s.now ∧ s.boundarySluice.free = s.free ∧
    s.boundarySluice.readData = s.readData ∧ s.boundarySluice.mirror = s.mirror ∧ s.boundarySluice.gl = s.gl ∧
    s.boundarySluice.aux = s.aux ∧ s.boundarySluice.field = s.field ∧ s.boundarySluice.clock = s.clock ∧
    s.boundarySluice.sec = s.sec ∧ s.boundarySluice.power = s.power ∧ s.boundarySluice.mod.tally = s.mod.tally := by
  simp [State.boundarySluice]

end Sys2Proof.Machine
end

