-- ==== Sys2Proof/Laws/ReadsFrames.lean ====
section
/-! SUPPORT. What the operations of Machine/Reads.lean leave alone: for each, the parts of the state that it keeps. -/
namespace Sys2Proof.Machine

@[simp] theorem State.readTallyLo_frame (s : State) (who : Requester) :
    (s.readTallyLo who).pending = s.pending ∧ (s.readTallyLo who).now = s.now ∧ (s.readTallyLo who).free = s.free ∧
    (s.readTallyLo who).regs = s.regs ∧ (s.readTallyLo who).mirror = s.mirror ∧
    (s.readTallyLo who).laneA = s.laneA ∧ (s.readTallyLo who).laneB = s.laneB ∧ (s.readTallyLo who).host = s.host ∧
    (s.readTallyLo who).eic = s.eic ∧ (s.readTallyLo who).journal = s.journal ∧
    (s.readTallyLo who).faults = s.faults ∧ (s.readTallyLo who).duplex = s.duplex ∧ (s.readTallyLo who).gl = s.gl ∧
    (s.readTallyLo who).aux = s.aux ∧ (s.readTallyLo who).field = s.field ∧ (s.readTallyLo who).safe = s.safe ∧
    (s.readTallyLo who).clock = s.clock ∧ (s.readTallyLo who).grp = s.grp ∧ (s.readTallyLo who).sec = s.sec ∧
    (s.readTallyLo who).power = s.power ∧ (s.readTallyLo who).mod.tally = s.mod.tally := by
  simp [State.readTallyLo]

@[simp] theorem State.readTallyHi_frame (s : State) (who : Requester) :
    (s.readTallyHi who).pending = s.pending ∧ (s.readTallyHi who).now = s.now ∧ (s.readTallyHi who).free = s.free ∧
    (s.readTallyHi who).regs = s.regs ∧ (s.readTallyHi who).mirror = s.mirror ∧
    (s.readTallyHi who).laneA = s.laneA ∧ (s.readTallyHi who).laneB = s.laneB ∧ (s.readTallyHi who).host = s.host ∧
    (s.readTallyHi who).eic = s.eic ∧ (s.readTallyHi who).journal = s.journal ∧
    (s.readTallyHi who).faults = s.faults ∧ (s.readTallyHi who).duplex = s.duplex ∧ (s.readTallyHi who).gl = s.gl ∧
    (s.readTallyHi who).aux = s.aux ∧ (s.readTallyHi who).field = s.field ∧ (s.readTallyHi who).safe = s.safe ∧
    (s.readTallyHi who).clock = s.clock ∧ (s.readTallyHi who).grp = s.grp ∧ (s.readTallyHi who).sec = s.sec ∧
    (s.readTallyHi who).power = s.power ∧ (s.readTallyHi who).mod.tally = s.mod.tally := by
  simp only [State.readTallyHi]
  (repeat' split) <;> simp

@[simp] theorem State.readTimePart_frame (s : State) (who : Requester) (part off : Nat) :
    (s.readTimePart who part off).pending = s.pending ∧ (s.readTimePart who part off).now = s.now ∧
    (s.readTimePart who part off).free = s.free ∧ (s.readTimePart who part off).regs = s.regs ∧
    (s.readTimePart who part off).mirror = s.mirror ∧ (s.readTimePart who part off).laneA = s.laneA ∧
    (s.readTimePart who part off).laneB = s.laneB ∧ (s.readTimePart who part off).mod = s.mod ∧
    (s.readTimePart who part off).host = s.host ∧ (s.readTimePart who part off).eic = s.eic ∧
    (s.readTimePart who part off).journal = s.journal ∧ (s.readTimePart who part off).faults = s.faults ∧
    (s.readTimePart who part off).duplex = s.duplex ∧ (s.readTimePart who part off).gl = s.gl ∧
    (s.readTimePart who part off).aux = s.aux ∧ (s.readTimePart who part off).field = s.field ∧
    (s.readTimePart who part off).safe = s.safe ∧ (s.readTimePart who part off).grp = s.grp ∧
    (s.readTimePart who part off).sec = s.sec ∧ (s.readTimePart who part off).power = s.power := by
  simp only [State.readTimePart]
  (repeat' split) <;> simp

@[simp] theorem State.readView_frame (s : State) (i : LaneId) (off : Nat) :
    (s.readView i off).pending = s.pending ∧ (s.readView i off).now = s.now ∧ (s.readView i off).free = s.free ∧
    (s.readView i off).regs = s.regs ∧ (s.readView i off).mirror = s.mirror ∧ (s.readView i off).mod = s.mod ∧
    (s.readView i off).host = s.host ∧ (s.readView i off).eic = s.eic ∧ (s.readView i off).journal = s.journal ∧
    (s.readView i off).faults = s.faults ∧ (s.readView i off).duplex = s.duplex ∧ (s.readView i off).gl = s.gl ∧
    (s.readView i off).aux = s.aux ∧ (s.readView i off).field = s.field ∧ (s.readView i off).safe = s.safe ∧
    (s.readView i off).clock = s.clock ∧ (s.readView i off).grp = s.grp ∧ (s.readView i off).sec = s.sec ∧
    (s.readView i off).power = s.power := by
  simp [State.readView]

@[simp] theorem State.readCoherent_frame (s : State) (who : Requester) (off : Nat) :
    (s.readCoherent who off).pending = s.pending ∧ (s.readCoherent who off).now = s.now ∧
    (s.readCoherent who off).mirror = s.mirror ∧ (s.readCoherent who off).host = s.host ∧
    (s.readCoherent who off).journal = s.journal ∧ (s.readCoherent who off).faults = s.faults ∧
    (s.readCoherent who off).duplex = s.duplex ∧ (s.readCoherent who off).gl = s.gl ∧
    (s.readCoherent who off).aux = s.aux ∧ (s.readCoherent who off).safe = s.safe ∧
    (s.readCoherent who off).grp = s.grp ∧ (s.readCoherent who off).sec = s.sec ∧
    (s.readCoherent who off).power = s.power ∧ (s.readCoherent who off).mod.tally = s.mod.tally := by
  simp only [State.readCoherent]
  (repeat' split) <;> simp

@[simp] theorem State.readBar_frame (s : State) (who : Requester) (off : Nat) :
    (s.readBar who off).pending = s.pending ∧ (s.readBar who off).now = s.now ∧
    (s.readBar who off).mirror = s.mirror ∧ (s.readBar who off).host = s.host ∧
    (s.readBar who off).journal = s.journal ∧ (s.readBar who off).faults = s.faults ∧
    (s.readBar who off).duplex = s.duplex ∧ (s.readBar who off).gl = s.gl ∧ (s.readBar who off).aux = s.aux ∧
    (s.readBar who off).safe = s.safe ∧ (s.readBar who off).grp = s.grp ∧ (s.readBar who off).sec = s.sec ∧
    (s.readBar who off).power = s.power ∧ (s.readBar who off).mod.tally = s.mod.tally := by
  simp [State.readBar]

@[simp] theorem State.read_frame (s : State) (who : Requester) (off size : Nat) :
    (s.read who off size).pending = s.pending ∧ (s.read who off size).now = s.now ∧
    (s.read who off size).mirror = s.mirror ∧ (s.read who off size).host = s.host ∧
    (s.read who off size).journal = s.journal ∧ (s.read who off size).faults = s.faults ∧
    (s.read who off size).duplex = s.duplex ∧ (s.read who off size).gl = s.gl ∧ (s.read who off size).aux = s.aux ∧
    (s.read who off size).safe = s.safe ∧ (s.read who off size).grp = s.grp ∧ (s.read who off size).sec = s.sec ∧
    (s.read who off size).power = s.power ∧ (s.read who off size).mod.tally = s.mod.tally := by
  simp only [State.read]
  (repeat' split) <;> simp

end Sys2Proof.Machine
end

