-- ==== Sys2Proof/WellFormed.lean ====
section
/-! DEFINITION. The ranges of the commands' operands that their types do not bound: instance numbers, the widths of
doorbell and body fields (R331, R340), and the sender numbers of the group bus. A command outside them cannot be sent. -/
namespace Sys2Proof

/-- The submission queue, or 16 to 18 for a network port (R437). -/
def wfHdr (h : Hdr) : Bool := h.sq < 19

/-- A vector of 0 to 31, or core pair 0 or 1 of a lane (R359). -/
def wfTarget : Target → Bool
  | .vec v => v < 32
  | .pair _ p => p < 2

/-- The number of rings of a kind (R332, R349). -/
def wfQueues : QueueKind → Nat
  | .sq => 16
  | .cq => 16
  | .str => 4

/-- A member number and protocol majors of an ANNOUNCE frame. -/
def wfAnnounce (a : Announce) : Bool := a.id < 8 && a.verLo < 256 && a.verHi < 256 && a.frameSrc < 4

/-- A segment names at most one target for each axis (R165). -/
def wfSeg (b : SegBody) : Bool := b.targets.length = 6

/-- An injection body within the widths of its fields (R387). -/
def wfInj (b : InjBody) : Bool := b.node < 256 && b.kind < 256 && b.order < 256 && b.hold < 256

/-- A command body within the widths of its fields (R340). -/
def wfCmd : HostCmd → Bool
  | .nop => true
  | .setSetpoint ps => (ps.map (·.1)).Pairwise (· < ·) && ps.all (fun p => p.1 < 8 && p.2.1 < 256)
  | .trajSegment b => wfSeg b
  | .trajStop _ => true
  | .setMode _ _ => true
  | .arm _ => true
  | .disarm _ => true
  | .writeRegs buf ps => (buf || ps.length ≤ 5) && ps.all (fun p => p.1 < 2 ^ 32)
  | .readSnapshot set mode len => set < 256 && mode < 256 && len < 2 ^ 32
  | .loadCoeff ctx bank off ws => ctx < 65536 && bank < 256 && off < 65536 && ws.length < 65536
  | .swapBank cs _ => cs.all (fun c => c < 160)
  | .loadProgram img => img.imgLen < 2 ^ 32
  | .schedWrite first es => first < 65536 && es.length < 65536
  | .recArm => true
  | .recStop => true
  | .rakeStart _ => true
  | .injectStart b => wfInj b
  | .journalRead _ count len => count < 2 ^ 32 && len < 2 ^ 32
  | .ioWrite _ _ => true
  | .clearFault _ _ _ => true
  | .attest nonce mode len => nonce.length = 32 && mode < 256 && len < 2 ^ 32
  | .timeAdjust mode _ _ => mode < 256
  | .groupStart _ _ => true
  | .laneControl _ action => action < 256
  | .fwStage type action _ => type < 256 && action < 256
  | .lockoutReset _ => true
  | .bad op => op = 0 || 0x1B ≤ op.toNat

/-- A descriptor that was read has 64 bytes (R332). -/
def wfDescriptor : Descriptor → Bool
  | .failed => true
  | .read bytes _ => bytes.length = 64

/-- A command that can be sent: every operand within the range that its rule gives. -/
def Instr.wf : Instr → Bool
  | .nop h => wfHdr h && wfCmd (.nop)
  | .setSetpoint h pairs => wfHdr h && wfCmd (.setSetpoint pairs)
  | .trajSegment h b => wfHdr h && wfCmd (.trajSegment b)
  | .trajStop h units => wfHdr h && wfCmd (.trajStop units)
  | .setMode h thr mode => wfHdr h && wfCmd (.setMode thr mode)
  | .arm h thr => wfHdr h && wfCmd (.arm thr)
  | .disarm h thr => wfHdr h && wfCmd (.disarm thr)
  | .writeRegs h buffered pairs => wfHdr h && wfCmd (.writeRegs buffered pairs)
  | .readSnapshot h set mode bufLen => wfHdr h && wfCmd (.readSnapshot set mode bufLen)
  | .loadCoeff h ctx bank offset words => wfHdr h && wfCmd (.loadCoeff ctx bank offset words)
  | .swapBank h ctxs bumpless => wfHdr h && wfCmd (.swapBank ctxs bumpless)
  | .loadProgram h img => wfHdr h && wfCmd (.loadProgram img)
  | .schedWrite h first entries => wfHdr h && wfCmd (.schedWrite first entries)
  | .recArm h => wfHdr h && wfCmd (.recArm)
  | .recStop h => wfHdr h && wfCmd (.recStop)
  | .rakeStart h frames => wfHdr h && wfCmd (.rakeStart frames)
  | .injectStart h b => wfHdr h && wfCmd (.injectStart b)
  | .journalRead h firstSeq count bufLen => wfHdr h && wfCmd (.journalRead firstSeq count bufLen)
  | .ioWrite h mask val => wfHdr h && wfCmd (.ioWrite mask val)
  | .clearFault h thr aux module => wfHdr h && wfCmd (.clearFault thr aux module)
  | .attest h nonce mode bufLen => wfHdr h && wfCmd (.attest nonce mode bufLen)
  | .timeAdjust h mode sec nsec => wfHdr h && wfCmd (.timeAdjust mode sec nsec)
  | .groupStart h units tStart => wfHdr h && wfCmd (.groupStart units tStart)
  | .laneControl h lane action => wfHdr h && wfCmd (.laneControl lane action)
  | .fwStage h type action pkg => wfHdr h && wfCmd (.fwStage type action pkg)
  | .lockoutReset h tag => wfHdr h && wfCmd (.lockoutReset tag)
  | .sqTail q v => q < 16 && v < 4096
  | .cqHead q v => q < 16 && v < 4096
  | .strTail r v posted => r < 4 && v < 4096 && posted.length < 4096
  | .preSleep => true
  | .descriptorFetch sq d => sq < 16 && wfDescriptor d
  | .stagingDone tag _ => tag < 128
  | .commitGroupTimeout sq => sq < 19
  | .queueEnable kind q _ => q < wfQueues kind
  | .ifEn _ => true
  | .streamRecordWrite r => r < 4
  | .streamFlush r => r < 4
  | .maintReq _ _ => true
  | .tallyLoRead _ => true
  | .angStep _ src _ => src < 3
  | .angLoad _ src _ => src < 3
  | .firDataWrite _ _ => true
  | .firDataRead _ => true
  | .preset _ _ => true
  | .legDis _ _ _ => true
  | .disAll _ _ => true
  | .glReneg _ _ => true
  | .auxRun _ ch _ => ch < 4
  | .envelopeLock _ _ => true
  | .soReq _ n _ => n < 4
  | .doOut _ _ => true
  | .doRearm _ _ => true
  | .tsNsRead => true
  | .tsSRead => true
  | .ptpStampRead p => p < 3
  | .claim t => wfTarget t
  | .complete t id => wfTarget t && id < 256
  | .pendWrite j _ => j < 3
  | .vecIdle v _ => v < 32
  | .timerWrite _ => true
  | .msixUnmask v => v < 32
  | .timeIncNs _ _ => true
  | .timeNowNsRead _ => true
  | .cmpArm _ c _ => c < 4
  | .cmpTargetWrite _ c _ _ => c < 4
  | .syncWrite _ _ => true
  | .clkNdiv _ _ => true
  | .clkDither _ _ => true
  | .grpRestart _ _ => true
  | .softReset _ _ => true
  | .wdtService _ => true
  | .jrnlFwCode _ _ => true
  | .laneViewWrite _ _ off _ => off < 0x40000
  | .regWrite _ off size _ => off < 0x100000 && 0 < size && size ≤ 64 && size % 8 = 0
  | .frameBoundary _ => true
  | .entryCrossing _ src idx => src < 4 && idx < 4096
  | .entryDispatch _ => true
  | .syncPulseEnd _ line => line < 8
  | .conversionDone _ core _ => core < 16
  | .gridConversion _ k => k < 80
  | .filterOutput _ k => k < 80
  | .convTrigger _ cg t => cg < 16 && t < 4
  | .fastCmp _ input _ => input < 32
  | .cleNop _ _ _ => true
  | .cleEnd _ _ _ => true
  | .cleLdi _ _ _ => true
  | .cleMov _ _ _ => true
  | .cleAdd _ _ _ => true
  | .cleSub _ _ _ => true
  | .cleAddi _ _ _ => true
  | .cleNeg _ _ _ => true
  | .cleAbs _ _ _ => true
  | .cleShl _ _ _ => true
  | .cleShr _ _ _ => true
  | .cleAnd _ _ _ => true
  | .cleOr _ _ _ => true
  | .cleXor _ _ _ => true
  | .cleMul _ _ _ => true
  | .cleMuli _ _ _ => true
  | .cleMac _ _ _ => true
  | .cleMsu _ _ _ => true
  | .cleLda _ _ _ => true
  | .cleClra _ _ _ => true
  | .cleExa _ _ _ => true
  | .cleSat _ _ _ => true
  | .cleMin _ _ _ => true
  | .cleMax _ _ _ => true
  | .cleCmp _ _ _ => true
  | .cleSel _ _ _ => true
  | .cleInteg _ _ _ => true
  | .cleLpf1 _ _ _ => true
  | .cleClarke _ _ _ => true
  | .cleIclarke _ _ _ => true
  | .clePark _ _ _ => true
  | .cleIpark _ _ _ => true
  | .cleSincos _ _ _ => true
  | .cleSqrt _ _ _ => true
  | .cleDiv _ _ _ => true
  | .cleLut _ _ _ => true
  | .cleLd _ _ _ => true
  | .cleSt _ _ _ => true
  | .cleIn _ _ _ => true
  | .cleOut _ _ _ => true
  | .cleAng _ _ _ => true
  | .groupDeadline _ g => g < 16
  | .budgetStop _ _ => true
  | .edgeCut => true
  | .setCompare _ _ => true
  | .corrWindowRoll => true
  | .selfCheckVerdict _ _ _ => true
  | .wdtExpiry _ => true
  | .laneErrorReport _ _ => true
  | .bulkCopyDone _ micros => micros < 2 ^ 32
  | .resyncTimeout _ => true
  | .iroloHandshake _ _ => true
  | .negotiationIdleEnd n => n < 48
  | .helloReqResend n => n < 48
  | .glHello rx _ _ sw _ => rx.link < 48 && sw < 256
  | .helloTimeout n => n < 48
  | .glEcho n _ => n < 48
  | .delayMeasured n => n < 48
  | .pingPeriodic n _ => n < 48
  | .glSyncSend n => n < 48
  | .glTlm n _ bytes => n < 48 && bytes.length ≤ 64
  | .tlmTimeout n => n < 48
  | .alignmentLoss n => n < 48
  | .charactersReturn n => n < 48
  | .glFault n _ _ _ => n < 48
  | .gl1Fault n _ => n < 48
  | .hallChange ch _ => ch < 4
  | .auxShuntTrip ch _ => ch < 4
  | .auxStall ch => ch < 4
  | .auxPrechargeEnd ch => ch < 4
  | .tripInput n _ => n < 8
  | .causeGone => true
  | .ackLow => true
  | .safetyCycle _ => true
  | .smonFault => true
  | .siSample _ _ => true
  | .siDisc _ pair => pair < 8
  | .spdDisc _ => true
  | .sltMot _ => true
  | .ssiReadStart n => n < 2
  | .ssiReadDone _ n _ _ => n < 2
  | .ssiReadTimeout _ n => n < 2
  | .encIndex _ n => n < 2
  | .degradedMinute => true
  | .degradedEnd => true
  | .testPulse n => n < 4
  | .soTestStart n => n < 4
  | .soTestEnd n _ => n < 4
  | .soTestRecheck n _ => n < 4
  | .soReadback n _ => n < 4
  | .soOverload n => n < 4
  | .psfCmd _ frame => frame.length < 256
  | .psfLockoutReset _ frame => frame.length < 256
  | .psfMatchWin _ => true
  | .psfTimeout _ => true
  | .fieldFrameS _ => true
  | .fieldFrameLane _ _ => true
  | .laneChannelSilence _ => true
  | .sSilence => true
  | .fioWdog => true
  | .fdDown => true
  | .fieldChan _ => true
  | .fdShutdown => true
  | .supplyMeasure _ _ => true
  | .supplyRecovery _ _ => true
  | .diSample n _ => n < 32
  | .diOpen n => n < 32
  | .supOvl j => j < 4
  | .disupRetry j => j < 4
  | .diOt n => n < 32
  | .doOverload n => n < 16
  | .doOt n _ => n < 16
  | .doBackfeed n _ => n < 16
  | .doOpen n => n < 16
  | .moderationTimer t => wfTarget t
  | .eicTimer => true
  | .wake kind index => kind < 256 && index < 256
  | .d0Return => true
  | .triggerUnitFire _ u frac => u < 16 && frac < 256
  | .recPreDone _ => true
  | .recPostDone _ => true
  | .recDrained _ => true
  | .waitSpace _ => true
  | .rakeFramesDone _ => true
  | .injectionEnd _ n => n < 16
  | .journalCommit => true
  | .pllLoss => true
  | .pllRelock count => count < 2 ^ 16
  | .relockFail => true
  | .refLoss => true
  | .refReturn => true
  | .ndivApply => true
  | .fllUpdate _ _ => true
  | .fllLockTimeout => true
  | .timeCmp c => c < 4
  | .ptpEventStamp p _ _ _ => p < 3
  | .announce a => wfAnnounce a
  | .groupWaitExpiry => true
  | .grpPing sender => sender < 8
  | .grpEcho k _ => k < 8
  | .grpDelays sender dly => sender < 8 && dly.length = 8 && dly.all (fun d => d < 2 ^ 16)
  | .grpTally _ _ => true
  | .grpBoundary _ _ _ => true
  | .grpStart _ _ => true
  | .grpTrig sender => sender < 8
  | .grpClkAbsent => true
  | .boundaryMissing => true
  | .memberLost k => k < 8
  | .packageCheckDone => true
  | .signingDone rounds _ => rounds < 2 ^ 16
  | .debugTokenExpiry => true
  | .netDescriptor f => f.bytes.length = 64
  | .netDataFragment _ _ offset len _ => offset < 2 ^ 32 && len < 2 ^ 16
  | .netDataTimeout _ _ => true
  | .por => true
  | .bootAttemptTimeout => true
  | .laneImagesLoaded => true
  | .laneSelfTestDone _ _ => true
  | .startUpDone => true
  | .pgoodFall => true
  | .vholdLow => true
  | .bodWarn millivolts => millivolts < 2 ^ 16
  | .bod => true
  | .bor => true
  | .pinReset => true
  | .rstNRelease => true
  | .stuckReset => true
  | .rstNRearm => true
  | .perst => true
  | .flr => true
  | .powerStateExitDone => true
  | .shelvedExit => true
  | .encEdge _ n _ => n < 2
  | .sdclkEdge _ k _ => k < 80
  | .choppingPeriod ch => ch < 4
  | .bodRecovery => true
  | .borRelease => true
  | .vbatLow => true
  | .d3hotEntry _ => true
  | .pcieLinkChange _ => true
  | .diCooled n => n < 32
  | .lockoutAckNEdge _ => true

end Sys2Proof
end

