-- ==== Sys2Proof/Tests/Slice0.lean ====
section
/-! SUPPORT. Tests: that the check of well-formedness refuses ill-formed commands, examples and tables of the spec worked
by hand, and for every obligation concrete states and operands that meet the hypotheses of its clauses. -/
namespace Sys2Proof.Tests
set_option Elab.async false
open Sys2Proof Sys2Proof.Machine Sys2Proof.Claims

/-! ### States for the tests -/

/-- The state after reset. -/
def w0 : State := State.reset

/-- A module that runs: lane A ACTIVE, lane B SHADOW, READY, host interface 2.3. -/
def run : State :=
  let s := ((((w0.wr LANE_STAT_STATE_A 1).wr LANE_STAT_STATE_B 2).wr SYS_STATE_STATE 2).wr HQ_IF_STAT_MAJ 2).wr HQ_IF_STAT_MIN 3
  { s with regs := s.regs.set SYS_THREAD_STATE 0, mod := { w0.mod with phase := .run, started := true, configured := 0xFF } }

/-- A running module at tick 5,000,000. -/
def late : State := { run with now := 5000000 }

/-- Lane A of a state changed. -/
def inA (s : State) (f : Lane → Lane) : State := s.modLane .a f

/-- A header of a command without data. -/
def hd (sq : Nat) : Hdr :=
  { sq := sq, cmdId := 7, group := false, last := false, commitId := 0, dataAddr := 0, rsvd := false, data := .none }

/-- A source is in service for no pair. -/
theorem no_service (l : List (Nat × Nat)) (n : Nat) : (∀ q, (n, q) ∉ l) ↔ n ∉ l.map Prod.fst := by
  simp

/-- A statement for every lane is one for lane A and lane B. -/
theorem each_lane {P : LaneId → Prop} : (∀ j, P j) ↔ P .a ∧ P .b :=
  ⟨fun h => ⟨h .a, h .b⟩, fun h j => by cases j <;> simp [h]⟩

/-! ### WellFormed: an ill-formed command for each check -/

def segOf (n : Nat) : SegBody :=
  { unit := 0, axmask := 1, rel := false, grp := false, tag := 0, blend := 0, rateScale := 0, tMin := 0, targets := List.replicate n 0 }
def injOf (node kind order hold : Nat) : InjBody :=
  { node := node, kind := kind, order := order, hold := hold, amp := 0, frames := 1, f0 := 0, f1 := 0, log := false, trace := false,
    thrMask := 1 }
def annOf (id lo hi src : Nat) : Announce :=
  { id := id, leaderEn := false, verLo := lo, verHi := hi, n := 0, frameSrc := src, tally := 0, atLocal := false }
def frameOf (n : Nat) : NetFrame :=
  { port := .service, etype := 0, verMaj := 2, verMin := 3, xid := 0, src := 1, bytes := List.replicate n 0, buf := .words [] }

theorem test_wf_header_queue : Instr.wf (.nop (hd 19)) = false ∧ Instr.wf (.nop (hd 18)) = true := by decide
theorem test_wf_setpoint_pairs :
    Instr.wf (.setSetpoint (hd 0) [(2, 0, 0), (2, 1, 0)]) = false ∧ Instr.wf (.setSetpoint (hd 0) [(8, 0, 0)]) = false ∧
    Instr.wf (.setSetpoint (hd 0) [(0, 256, 0)]) = false ∧ Instr.wf (.setSetpoint (hd 0) [(0, 255, 0), (7, 255, 1)]) = true := by decide
theorem test_wf_segment_and_register_pairs :
    Instr.wf (.trajSegment (hd 0) (segOf 5)) = false ∧ Instr.wf (.trajSegment (hd 0) (segOf 6)) = true ∧
    Instr.wf (.writeRegs (hd 0) false (List.replicate 6 (0, 0))) = false ∧
    Instr.wf (.writeRegs (hd 0) true [(2 ^ 32, 0)]) = false := by decide
theorem test_wf_snapshot_coefficients_banks :
    Instr.wf (.readSnapshot (hd 0) 256 0 0) = false ∧ Instr.wf (.readSnapshot (hd 0) 0 256 0) = false ∧
    Instr.wf (.readSnapshot (hd 0) 0 0 (2 ^ 32)) = false ∧ Instr.wf (.loadCoeff (hd 0) 65536 0 0 []) = false ∧
    Instr.wf (.loadCoeff (hd 0) 0 256 0 []) = false ∧ Instr.wf (.loadCoeff (hd 0) 0 0 65536 []) = false ∧
    Instr.wf (.swapBank (hd 0) [160] false) = false ∧ Instr.wf (.schedWrite (hd 0) 65536 []) = false := by decide
theorem test_wf_injection_journal_attest :
    Instr.wf (.injectStart (hd 0) (injOf 256 0 0 0)) = false ∧ Instr.wf (.injectStart (hd 0) (injOf 0 256 0 0)) = false ∧
    Instr.wf (.injectStart (hd 0) (injOf 0 0 256 0)) = false ∧ Instr.wf (.injectStart (hd 0) (injOf 0 0 0 256)) = false ∧
    Instr.wf (.journalRead (hd 0) 0 (2 ^ 32) 0) = false ∧ Instr.wf (.journalRead (hd 0) 0 0 (2 ^ 32)) = false ∧
    Instr.wf (.attest (hd 0) (List.replicate 31 0) 0 0) = false ∧ Instr.wf (.timeAdjust (hd 0) 256 0 0) = false ∧
    Instr.wf (.laneControl (hd 0) .a 256) = false := by decide
theorem test_wf_queues_and_descriptors :
    Instr.wf (.sqTail 16 0) = false ∧ Instr.wf (.cqHead 0 4096) = false ∧ Instr.wf (.strTail 4 0 []) = false ∧
    Instr.wf (.descriptorFetch 16 .failed) = false ∧ Instr.wf (.descriptorFetch 15 (.read (List.replicate 63 0) (.words []))) = false ∧
    Instr.wf (.stagingDone 128 .ok) = false ∧ Instr.wf (.commitGroupTimeout 19) = false ∧ Instr.wf (.queueEnable .str 4 0) = false ∧
    Instr.wf (.queueEnable .cq 16 0) = false ∧ Instr.wf (.queueEnable .sq 15 0) = true ∧ Instr.wf (.streamFlush 4) = false := by decide
theorem test_wf_register_accesses :
    Instr.wf (.regWrite .host 0x100000 32 0) = false ∧ Instr.wf (.regWrite .host 0 72 0) = false ∧ Instr.wf (.regWrite .host 0 12 0) = false ∧
    Instr.wf (.laneViewWrite .host .a 0x40000 0) = false ∧ Instr.wf (.angStep .host 3 0) = false ∧ Instr.wf (.pendWrite 3 0) = false := by
  decide
theorem test_wf_delivery_targets : Instr.wf (.claim (.vec 32)) = false ∧ Instr.wf (.claim (.pair .a 2)) = false ∧
    Instr.wf (.complete (.vec 0) 256) = false ∧ Instr.wf (.vecIdle 32 0) = false ∧ Instr.wf (.wake 256 0) = false := by decide
theorem test_wf_converters_links_and_triggers :
    Instr.wf (.conversionDone .both 16 0) = false ∧ Instr.wf (.gridConversion .both 80) = false ∧ Instr.wf (.convTrigger .both 16 0) = false ∧
    Instr.wf (.fastCmp .both 32 0) = false ∧ Instr.wf (.glTlm 0 true (List.replicate 65 0)) = false ∧ Instr.wf (.helloTimeout 48) = false ∧
    Instr.wf (.auxStall 4) = false ∧ Instr.wf (.tripInput 8 true) = false ∧ Instr.wf (.triggerUnitFire .both 16 0) = false := by decide
theorem test_wf_safety_and_field :
    Instr.wf (.siDisc .a 8) = false ∧ Instr.wf (.ssiReadStart 2) = false ∧ Instr.wf (.testPulse 4) = false ∧
    Instr.wf (.psfCmd .both (List.replicate 256 0)) = false ∧ Instr.wf (.diSample 32 true) = false ∧ Instr.wf (.supOvl 4) = false ∧
    Instr.wf (.doOverload 16) = false := by decide +kernel
theorem test_wf_groups_engine_and_network :
    Instr.wf (.announce (annOf 8 0 0 0)) = false ∧ Instr.wf (.announce (annOf 0 256 0 0)) = false ∧
    Instr.wf (.announce (annOf 0 0 256 0)) = false ∧ Instr.wf (.announce (annOf 0 0 0 4)) = false ∧ Instr.wf (.announce (annOf 7 1 1 3)) = true ∧
    Instr.wf (.grpDelays 0 (List.replicate 7 0)) = false ∧ Instr.wf (.grpDelays 0 (List.replicate 8 65536)) = false ∧
    Instr.wf (.memberLost 8) = false ∧ Instr.wf (.pllRelock 65536) = false ∧ Instr.wf (.netDescriptor (frameOf 63)) = false ∧
    Instr.wf (.netDescriptor (frameOf 64)) = true ∧ Instr.wf (.bodWarn 65536) = false ∧ Instr.wf (.ptpEventStamp 3 false 0 0) = false := by
  decide

/-! ### Examples of the spec -/

/-- R495, its example: the nine bytes "123456789". -/
theorem test_crc_of_nine_digits :
    crc32 [0x31, 0x32, 0x33, 0x34, 0x35, 0x36, 0x37, 0x38, 0x39] = 0xCBF43926 ∧
    crc32c 0xFFFFFFFF [0x31, 0x32, 0x33, 0x34, 0x35, 0x36, 0x37, 0x38, 0x39] = 0xE3069283 := by decide +kernel

/-- The register addresses that the chapters work out as examples of their tables. -/
theorem test_worked_register_addresses :
    ASC_S_CNT_LATE 2 = 0x101A8 ∧ MEAS_CH_THR 79 = 0x248FC ∧ TRAJ_U_AX_RANGE 2 5 = 0x2C378 ∧ PWM_CG_PERIOD 3 = 0x2E164 ∧
    PWM_LEG_STAT 47 = 0x2E9F8 ∧ SLC_THR_FAULT 7 = 0xC17C ∧ FIO_DI_CNT 31 = 0x382F8 ∧
    EIC_ROUTE_TARGET 49 = ⟨0x4130, 13, 8⟩ ∧ EIC_ROUTE_PRIO 49 = ⟨0x4130, 15, 14⟩ := by decide

/-- R203, its example: GL12's 4,589 fine steps set the latency, 240 ticks. -/
theorem test_latency_example : latOf 4589 = 240 ∧ latOf 1495 < 240 ∧ latOf 0 < 200 := by decide

/-- The worked example of the digital inputs (R315 to R318): FIO_DI12_CFG written 0xDC05_000A. -/
theorem test_limit_switch_example :
    (let s : State := { w0 with regs := w0.regs.set 0x381C0 0xDC05000A }
     s.rd (FIO_DI_CFG_EN 12) = 1 ∧ s.rd (FIO_DI_CFG_TYPE 12) = 1 ∧ s.rd (FIO_DI_CFG_EDGE 12) = 3 ∧ s.rd (FIO_DI_CFG_TS_COMP 12) = 1 ∧
       s.rd (FIO_DI_CFG_THRESH 12) = 5 ∧ s.rd (FIO_DI_CFG_SAMP 12) = 10) := by decide +kernel

/-- The race of R366: a write of 0x8000_0000 to EIC_PEND1 clears FIO_DI (source 49) and TIME_CMP0 (55), and not BOD (63), active. -/
theorem test_pending_race_example :
    (let t := orStay run (exec (.pendWrite 1 0x80000000) (((run.wr (pendBit 49) 1).wr (pendBit 55) 1).wr (pendBit 63) 1))
     t.rd (pendBit 49) = 0 ∧ t.rd (pendBit 55) = 0 ∧ t.rd (pendBit 63) = 1) := by decide +kernel

/-! ### Witnesses: the Event and Interrupt Controller, clocks -/

/-- A source routed to a vector, pending and unmasked. -/
def atVec (n v : Nat) : State := ((run.wr (EIC_ROUTE_TARGET n) v).wr (pendBit n) 1).wr (hmaskBit n) 0
/-- A source routed to a core pair of lane A, pending in the lane and unmasked. -/
def atPair (n p : Nat) : State :=
  inA (run.wr (EIC_ROUTE_TARGET n) (32 + p)) fun l => { l.wr (pairMaskBit p n) 0 with pend := [n] }

theorem test_claim_hypotheses : run.mod.phase ≠ .boot ∧ (atVec 94 31).mod.phase ≠ .boot ∧ (atVec 17 0).mod.phase ≠ .boot ∧ (∀ n < 96, ¬ VecCand run 31 n) ∧ Best (atVec 94 31) (VecCand (atVec 94 31) 31) 94 ∧
    Best (atVec 17 0) (VecCand (atVec 17 0) 0) 17 ∧ (∀ n < 96, ¬ PairCand run .b 1 n) ∧
    Best (atPair 94 1) (PairCand (atPair 94 1) .a 1) 94 := by
  simp only [Best, VecCand, PairCand, no_service]
  and_intros <;> decide +kernel

/-- Source 94 claimed by vector 31, and still pending or not. -/
def claimed94 (pend : Nat) : State :=
  { ((atVec 94 31).wr (pendBit 94) pend).wr (insvcBit 94) 1 with eic := { run.eic with claimed := [(94, 31)] } }
theorem test_complete_hypotheses : (claimed94 0).mod.phase ≠ .boot ∧ (claimed94 1).mod.phase ≠ .boot ∧ (94, 31) ∈ (claimed94 0).eic.claimed ∧
    (let u := { claimed94 0 with regs := (claimed94 0).regs.wr (insvcBit 94) 0, eic := { run.eic with claimed := [] } }
     ¬ VecCand u 31 94) ∧
    (let u := { claimed94 1 with regs := (claimed94 1).regs.wr (insvcBit 94) 0, eic := { run.eic with claimed := [] } }
     VecCand u 31 94) ∧
    (94, 1) ∈ ((inA run fun l => { l with insvc := [(94, 1)] }).lane .a).insvc ∧ ¬ PairCand run .a 1 94 ∧
    PairCand (atPair 94 1) .a 1 94 ∧ (95, 31) ∉ run.eic.claimed ∧ (95, 1) ∉ (run.lane .b).insvc := by
  simp only [VecCand, PairCand, no_service]
  and_intros <;> decide +kernel

theorem test_vector_event_hypotheses :
    (w0.eic.vecs.length = 32 ∧ w0.eic.d3hot = false ∧ (w0.vec 31).count + 1 < (w0.wr (EIC_VEC_CFG_CNT 31) 2).rd (EIC_VEC_CFG_CNT 31) ∧
      (w0.wr (EIC_VEC_CFG_CNT 31) 2).rd (EIC_VEC_CFG_MODE 31) = 0) ∧
    ((w0.wr (EIC_VEC_CFG_CNT 31) 1).rd (EIC_VEC_CFG_CNT 31) ≤ (w0.vec 31).count + 1 ∧ w0.vecMasked 31 = true) ∧
    (let s := { w0 with eic := { w0.eic with msixMask := 0, msixEn := true, busMaster := true } }
     s.vecMasked 31 = false ∧ s.eic.vecs.length = 32 ∧ s.eic.d3hot = false ∧
      ((s.wr (EIC_VEC_CFG_MODE 31) 1).wr (EIC_VEC_CFG_VEC_IDLE 31) 1).rd (EIC_VEC_CFG_MODE 31) = 1) := by
  decide

theorem test_occurrence_hypotheses : isLevel 95 = false ∧ isLevel 15 = true ∧ isLevel 16 = false ∧ isLevel 63 = true ∧
    isLevel 81 = true ∧ isLevel 82 = false ∧ run.rd (pendBit 84) = 0 ∧ (0x08100000 : Word).getLsbD 27 = true ∧
    (0x08100000 : Word).getLsbD 20 = true ∧ run.rd (pendBit 91) = 0 ∧ run.hold = false ∧ (run.wr LANE_STAT_HOLD 1).hold = true ∧
    (run.wr LANE_STAT_HOLD 1).rd (pendBit 91) = 0 := by
  decide

theorem test_eic_timer_hypotheses :
    ({ run with eic := { run.eic with vecs := run.eic.vecs.set 31 { count := 1, since := some 5 } } }.vec 31).since = some 5 ∧
    (((inA run fun l => { l with pairs := l.pairs.set 1 { count := 1, since := some 7, irq := false, idle := false } }).lane .a).pairs.getD
      1 PairSt.reset).since = some 7 ∧
    bitsOf 0x80000001 15 0 ≠ 0 ∧
    (let s := { run with eic := { run.eic with timerAt := some 0 } }
     s.eic.timerAt = some 0 ∧ s.power.shelved = false) := by
  decide

theorem test_host_sleep_hypotheses : run.mod.phase ≠ .boot ∧ ({ run with eic := { run.eic with d3hot := true } }).eic.d3hot = true ∧ run.eic.d3hot = false ∧
    run.eic.vecs.length = 32 := by
  decide

/-- A clock that is locked, and one that has lost its reference. -/
def locked : State := late.wr CLK_STAT_LOCK 1
def noRef : State := { late.wr CLK_STAT_LOCK 0 with clock := { late.clock with refPresent := false } }
theorem test_clock_hypotheses : locked.rd CLK_STAT_LOCK = 1 ∧ noRef.rd CLK_STAT_LOCK ≠ 1 ∧
    ((locked.wr CLK_STAT_LOCK 0).rd CLK_STAT_LOCK ≠ 1 ∧ locked.clock.refPresent = true) ∧ noRef.clock.refPresent = false := by
  decide

/-! ### Witnesses: time compares, stamps, field inputs and outputs -/

theorem test_follower_hypotheses :
    ({ w0 with clock := { w0.clock with nWait := some 9 } }).clock.nWait = some 9 ∧ w0.rd GRP_STAT_ROLE ≠ 2 ∧
    (let s := { late.wr GRP_STAT_ROLE 2 with clock := { late.clock with nInForce := 0x80000000 + 429496 - 137438 } }
     let v : Word := 0x80000000 + 429496
     s.rd GRP_STAT_ROLE = 2 ∧ ((v.toNat : Int) - 0x80000000).natAbs ≤ 429496 ∧
      ((v.toNat : Int) - s.clock.nInForce).natAbs ≤ 137438 ∧ s.clock.nAt + 4000 ≤ s.now) := by
  decide +kernel

theorem test_ptp_hypotheses : run.mod.phase ≠ .boot ∧ heard run .host TIME_INC_NS ∧ heard run .coreA TIME_CTRL ∧
    (let inc := bitsOf 2 3 0 * 2 ^ 32 + ((run.regs.set TIME_INC_FRAC 0x80000000).get TIME_INC_FRAC).toNat
     24 * 2 ^ 32 ≤ 10 * inc ∧ 10 * inc ≤ 26 * 2 ^ 32) ∧
    (let inc := bitsOf 2 3 0 * 2 ^ 32 + ((run.regs.set TIME_INC_FRAC 0x66666666).get TIME_INC_FRAC).toNat
     10 * inc < 24 * 2 ^ 32) := by
  simp only [heard]; decide +kernel

/-- A compare that is armed, with its target reached when it was. -/
def armed3 : State := { run.wr (TIME_CMP_CTRL_ARM 3) 1 with clock := { run.clock with lateArm := run.clock.lateArm.set 3 (some (5, true)) } }
theorem test_compare_hypotheses : heard run .coreA (TIME_CMP_CTRL 3) ∧ heard run .host (TIME_CMP_NS 3) ∧ bitsOf 0x80000001 29 0 ≠ 0 ∧ bitsOf 0 29 0 = 0 ∧ 1000000000 ≤ bitsOf 0x3B9ACA00 29 0 ∧ run.rd (TIME_CMP_CTRL_ARM 3) ≠ 1 ∧
    armed3.rd (TIME_CMP_CTRL_ARM 3) = 1 ∧ armed3.clock.lateArm.getD 3 none = some (5, true) := by
  simp only [heard]; decide +kernel

theorem test_stamp_hypotheses : run.rd (TIME_TS_CFG_EN 2) ≠ 1 ∧
    (let s := run.wr (TIME_TS_CFG_EN 2) 1
     s.rd (TIME_TS_CFG_EN 2) = 1 ∧ 2 < s.clock.stamps.length ∧ (s.clock.stamps.getD 2 []).length < 16) ∧
    (let x : Stamp := { tx := true, msg := 0, seqId := 1, sec := 0, ns := 0 }
     let s := { run.wr (TIME_TS_CFG_EN 2) 1 with clock := { run.clock with stamps := run.clock.stamps.set 2 (List.replicate 16 x) } }
     s.rd (TIME_TS_CFG_EN 2) = 1 ∧ 16 ≤ (s.clock.stamps.getD 2 []).length) := by
  decide +kernel

/-- Output 15 on, and with open-load detection. -/
def doOn15 : State := { w0 with field := { w0.field with doOn := 0x8000, doCfg := w0.field.doCfg.set 15 0x88000000 } }
theorem test_output_fault_hypotheses : doOn15.field.doOn.getLsbD 15 = true ∧ w0.field.doOn.getLsbD 15 = false ∧
    w0.rd (FIO_DO_STAT_SILENT 15) ≠ 1 ∧ (doOn15.field.doCfg.getD 15 0).getLsbD 27 = true ∧
    (w0.field.doCfg.getD 15 0).getLsbD 27 = false := by
  decide +kernel

theorem test_channel_hypotheses : (run.mod.phase ≠ .boot ∧ run.power.inReset = false ∧ run.power.shelved = false ∧
      (∃ v ∈ run.field.volts, 100 ≤ v)) ∧ w0.mod.phase = .boot ∧
    (∀ v ∈ ({ run with field := { run.field with volts := [99, 0] } }).field.volts, v < 100) ∧
    ({ run with field := { run.field with takeBack := true, release := 0x8000 } }).field.release.getLsbD 15 = true := by
  decide +kernel

theorem test_silence_hypotheses :
    ({ run with field := { run.field with laneSilent := [false, false] } }).field.laneSilent.getD (LaneId.num .b) true = false ∧
    (let s := { run with power := { run.power with pgood := false } }
     s.power.pgood = false ∧ ∃ v ∈ s.field.volts, 100 ≤ v) ∧ (run.wr FIO_STAT_FD_DOWN 0).rd FIO_STAT_FD_DOWN ≠ 1 ∧
    (run.field.doCfg.getD 15 0).getLsbD 30 = false ∧
    (({ run with field := { run.field with doCfg := run.field.doCfg.set 15 0x40000000 } }).field.doCfg.getD 15 0).getLsbD 30 = true ∧
    (let s := run.bothLanes fun l => l.wr SAFE_CFG_EN 1
     s.safeEn = true ∧ s.causeActive 0x2E 1 = false ∧ s.laneState .a = 1 ∧ s.laneState .b = 2) := by
  decide +kernel

/-- Field supply 1 in operation and lost, and back since a tick. -/
def vf (n st : Nat) (since : Option Nat) : State :=
  { run.wr (FIO_STAT_VF_ST n) st with field := { run.field with vfOkSince := run.field.vfOkSince.set n since } }
theorem test_input_hypotheses :
    (let s := { run with field := { run.field with diCfg := run.field.diCfg.set 31 0xA0FF03FF } }
     (s.field.diCfg.getD 31 0).getLsbD 31 = true ∧ (∃ v ∈ s.field.volts, 100 ≤ v) ∧ (s.field.diCfg.getD 31 0).getLsbD 29 = true) ∧
    run.field.supOff.getD 3 none = none ∧
    ({ run with field := { run.field with supOff := run.field.supOff.set 3 (some 8) } }).field.supOff.getD 3 none = some 8 := by
  decide +kernel

/-- Input 5 selected, its FIFO with one entry. -/
def five : Di := { count := 0, level := true, fifo := [(true, false, 3, 2 ^ 30 - 1)], ot := false }
def tsOne : State :=
  { run.wr FIO_TS_SEL_CH 5 with field := { run.field with dis := (run.field.dis.set 5 five) } }
theorem test_time_stamp_hypotheses : tsOne.mod.phase ≠ .boot ∧ (tsOne.di (tsOne.rd FIO_TS_SEL_CH)).fifo = (true, false, 3, 2 ^ 30 - 1) :: [] ∧
    2 ^ 30 - 1 < 2 ^ 30 ∧ (run.di (run.rd FIO_TS_SEL_CH)).fifo = [] := by
  decide +kernel

/-! ### Witnesses: safety -/

theorem test_encoder_hypotheses :
    (let s := inA run fun l => l.wr (SAFE_ENC_CFG_MODE 1) 1
     (s.lane .a).rd (SAFE_ENC_CFG_MODE 1) = 1 ∧ ((s.lane .a).enc 1).a ≠ true ∧ ((s.lane .a).enc 1).b ≠ true) ∧
    (let s := inA run fun l => ((l.wr (SAFE_ENC_CFG_MODE 1) 2).wr (SAFE_ENC_CFG_SSI_BITS 1) 25).modEnc 1 fun e => { e with ssi := some 9 }
     (s.lane .a).rd (SAFE_ENC_CFG_MODE 1) = 2 ∧ s.active = .a ∧ ((s.lane .a).enc 1).ssi = some 9 ∧
      0 < (s.lane .a).rd (SAFE_ENC_CFG_SSI_BITS 1)) := by
  decide +kernel

theorem test_safety_input_hypotheses : run.safeEn = false ∧
    ((inA run fun l => l.modSmon fun m => { m with discSince := m.discSince.set 7 (some 4) }).lane .a).smon.discSince.getD 7 none = some 4 ∧
    run.inPulse 3 80000 = false ∧ true ≠ SiChan.reset.level ∧ 10 * 0 ≤ SiChan.reset.count + 1 ∧
    SiChan.reset.count + 1 < 10 * 1 := by
  decide +kernel

theorem test_safety_time_hypotheses :
    ({ run with safe := { run.safe with diffSince := some 4 } }).safe.diffSince = some 4 ∧
    earlier ((inA run fun l => l.modSmon fun m => { m with posDiscSince := some 4 }).lane .a).smon.spdDiscSince
      ((inA run fun l => l.modSmon fun m => { m with posDiscSince := some 4 }).lane .a).smon.posDiscSince = some 4 ∧
    ((inA run fun l => l.modSmon fun m => { m with motSince := some 6 }).lane .a).smon.motSince = some 6 ∧
    (let s := inA run fun l => (l.wr SAFE_STAT_DEGRADED 1).wr SAFE_DEGRADED_REMAIN 1
     (s.lane s.active).rd SAFE_STAT_DEGRADED = 1 ∧ 0 < (s.lane s.active).rd SAFE_DEGRADED_REMAIN) ∧
    (let s := { run.bothLanes (fun l => l.wr SAFE_CFG_EN 1) with safe := { run.safe with stopAt := some 8 } }
     s.safe.stopAt = some 8 ∧ s.safeEn = true ∧ s.causeActive 0x26 0 = false) := by
  decide +kernel

/-- Safety output 3 with its switches closed, under test, or due for its recheck. -/
def so3 (on : Bool) (test : Option (LaneId × Nat)) (re : Bool) : State :=
  late.modField fun f => { f with sos := updAt f.sos 3 fun o => { o with swA := on, swB := on, test := test, recheck := re } }
theorem test_safety_output_hypotheses :
    ((so3 true none false).so 3).swA = true ∧ ((so3 true none false).so 3).swB = true ∧
    (∀ o ∈ (so3 true none false).field.sos, o.test = none) ∧ ((so3 true (some (.b, 3)) false).so 3).test = some (.b, 3) ∧
    ((so3 true none true).so 3).recheck = true ∧ ((so3 false none false).so 3).swA = false ∧
    (let s := (so3 false none false).bothLanes fun l => l.wr SAFE_CFG_EN 1
     s.safeEn = true ∧ s.causeActive 0x29 4 = false ∧ (s.so 3).offAt + 420000 ≤ s.now) ∧
    ((so3 true none false).so 3).onAt + 800 * (late.lane late.active).rd (SAFE_SO_CFG_TPW 3) + 400000 ≤ late.now := by
  decide +kernel

/-- The values of a CRC register byte by byte are those of a list. -/
def crcChain (poly : Word) : Word → List Byte → List Word → Bool
  | c, b :: t, d :: ds => crcStep poly 8 (c ^^^ b.zeroExtend 32) == d && crcChain poly d t ds
  | _, [], [] => true
  | _, _, _ => false
theorem crcRun_of_chain (poly : Word) (f : List Byte) : ∀ (c : Word) (l : List Word), crcChain poly c f l = true →
    crcRun poly c f = l.getLastD c := by
  induction f with
  | nil => intro c l h; cases l <;> simp_all [crcChain, crcRun]
  | cons b t ih =>
    intro c l h
    cases l with
    | nil => simp [crcChain] at h
    | cons d ds =>
      simp only [crcChain, Bool.and_eq_true, beq_iff_eq] at h
      rw [crcRun, h.1, ih d ds h.2]
      cases ds <;> simp [List.getLastD]
def chain1 : List Word := [
    0xE1C48FF7, 0xD52E4C12, 0xF1B099D4, 0x14B8C62D, 0x7DB43EA7, 0x76FC6573, 0x62BE5B9C, 0xDF898D9C, 0xDF34BA4A, 0x2A46013E,
    0x9CB1B097, 0x46FE294C, 0x0C7E2C45, 0x7486778C, 0xCFC172DF, 0x8D0F1CFD, 0x793A38A6, 0x84936876, 0x57BD208D, 0x3D89CA8B,
    0x1B421989, 0xFA5FA2AD, 0x1D99A6D7, 0x07041CE6, 0xC5964BEE, 0x4F8D8176, 0x57763E64, 0xA60B7243, 0x528DE53A, 0x5B53EC6C,
    0x2CDE0F5E, 0xFD71BBFB, 0x6A1AB5F5, 0xC6F561DC, 0x9E56DB1A, 0x7B22B98C, 0xCFCED611, 0xE2FA8ABA, 0xD915A07B, 0xE8C8EA96,
    0xB4E1D315, 0x251B32A0, 0xA26EAE94, 0x559005A6, 0x84BFC24B, 0xD8760945, 0x74527FA9, 0xDA8D3C15, 0x25755E4F, 0x1F4D54C6,
    0xE5338C78, 0xFBA43F4E, 0xEDF806A4, 0x653CDABF, 0xEC637237, 0xE4C54E28, 0xAA80135F, 0x0F9C66E4, 0x24A5A363, 0x72B2C535]
def chain2 : List Word := [
    0xE1C48FF7, 0xC67EBFE6, 0xC557314D, 0xFE96065E, 0x1F96B79E, 0x3ECFD587, 0x56029046, 0x678CF8C4, 0x04703D23, 0x33E90D17,
    0xC4A74A89, 0xFA8047FE, 0x5FEC5015, 0x25F03F23, 0x33C88D15, 0x259C1BFE, 0x6AC25855, 0x64BE0C97, 0x460626F0, 0xF3286953,
    0x4286014E, 0xED41249A, 0xF9A7950B, 0x99700CAE, 0x0EAA7A8D, 0x3DD0DDD1, 0x2185B275, 0x4448C5A3, 0xB15F0E97, 0x46D3C7F2,
    0x1213CC45, 0x74981A6C, 0x2CF1C4A8, 0x28BE1CAD, 0x1D4B4769, 0x196903E9, 0x9B9B1AD5, 0xE6B96EAD, 0x1D85401B, 0x89CAE914,
    0xD74D9A99, 0xEACD6A41, 0xB3FA53D5, 0xE6910FE4, 0x244CAE0A, 0x6BC66496, 0xB462DD9B, 0x0B9535F1, 0x010E7943, 0x522AE031,
    0xC2DAE052, 0xB0DC70C4, 0x04A76DAB, 0x3BC6B9F0, 0xF355A9CC, 0x8E3DBCBD, 0x0DB303A6, 0x84E7E14D, 0xFED7B68E, 0x2E7053E9]

/-- A safe frame of version 2 with its check code, and a lane that takes it. -/
def body (type : Nat) : List Byte :=
  leBytes 1 2 ++ leBytes 1 type ++ leBytes 2 0 ++ leBytes 4 17 ++ List.replicate 8 0 ++ leBytes 4 5 ++ List.replicate 40 0
def frame (type crc : Nat) : List Byte := body type ++ leBytes 4 crc
theorem crc_of_body (type crc : Nat) (l : List Word) (h : crcChain 0x82F63B78 0xFFFF0000 (body type) l = true)
    (e : (frame type crc).take 60 = body type) (v : l.getLastD 0xFFFF0000 ^^^ 0xFFFFFFFF = BitVec.ofNat 32 crc) :
    psfCrc 0 (frame type crc) = BitVec.ofNat 32 crc := by
  unfold psfCrc crc32c
  rw [e, ← v, ← crcRun_of_chain _ _ _ _ h]
  rfl
def psf (last : Option PsfLast) : State :=
  inA ((run.wr SEC_IF_CFG_PSF_VER 2).wr TIME_CTRL_SYNC 0) fun l =>
    (((l.wr SAFE_PSF_CFG_PSF_EN 1).wr SAFE_PSF_CONN_SEED 0).wr SAFE_PSF_CONN_CONN 0).modSmon fun m => { m with last := last }
def lastOne : PsfLast := { seq := 1, bytes := [], at_ := 0, matched := false }
def cmdFrame : List Byte := frame 1 0x8D4D3ACA
def lockFrame : List Byte := frame 2 0xD18FAC16
theorem test_safe_frames_are_sound :
    (psf (some lastOne)).psfSound ((psf (some lastOne)).lane .a) cmdFrame = true ∧
    (psf (some lastOne)).psfSound ((psf (some lastOne)).lane .a) lockFrame = true ∧
    (psf none).psfSound ((psf none).lane .a) lockFrame = true ∧ (psf none).psfSound ((psf none).lane .a) [] = false := by
  have c : psfCrc 0 cmdFrame = 0x8D4D3ACA := crc_of_body 1 _ chain1 (by decide +kernel) (by decide +kernel) (by decide +kernel)
  have d : psfCrc 0 lockFrame = 0xD18FAC16 := crc_of_body 2 _ chain2 (by decide +kernel) (by decide +kernel) (by decide +kernel)
  have h : ((psf none).lane .a).rd SAFE_PSF_CONN_SEED = 0 := by decide +kernel
  have k : ((psf (some lastOne)).lane .a).rd SAFE_PSF_CONN_SEED = 0 := by decide +kernel
  unfold State.psfSound
  rw [h, k, c, d]
  decide +kernel
theorem test_safe_frame_hypotheses : (w0.lane .a).rd SAFE_PSF_CFG_PSF_EN ≠ 1 ∧
    ((psf (some lastOne)).lane .a).rd SAFE_PSF_CFG_PSF_EN = 1 ∧ psfNum cmdFrame 1 1 = 1 ∧ psfNum lockFrame 1 1 = 2 ∧
    (psf (some lastOne)).psfInTime ((psf (some lastOne)).lane .a) cmdFrame = true ∧
    (psf (some lastOne)).psfInTime ((psf (some lastOne)).lane .a) lockFrame = true ∧
    ((psf (some lastOne)).lane .a).smon.last = some lastOne ∧
    (BitVec.ofNat 32 (psfNum cmdFrame 4 4) - lastOne.seq).toNat = 16 ∧
    (BitVec.ofNat 32 (psfNum lockFrame 4 4) - lastOne.seq).toNat = 16 ∧ ((psf none).lane .a).smon.last = none ∧
    (let s := (psf (some lastOne)).wr LANE_STAT_STATE_B 4
     s.laneLive .b = false ∧ s.laneLive .a = true) ∧
    lastOne.matched = false ∧ ((psf (some lastOne)).lane .a).smon.psfTimeout = false := by
  decide +kernel

/-! ### Witnesses: faults, trips, auxiliary drives -/

theorem test_cause_hypotheses : run.present 7 = true ∧ run.thread 7 ≠ 4 ∧ run.faults.classL = false ∧
    ({ run with faults := { run.faults with classL := true } }).faults.classL = true := by
  decide +kernel

/-- The causes of legs of thread 7 that stand as those of the last 10 µs. -/
def shoots7 (x : List (Nat × Nat)) : State := { run with faults := { run.faults with shoots := run.faults.shoots.set 7 x } }
theorem test_shoot_through_hypotheses :
    (let u (x : List (Nat × Nat)) := (shoots7 x).cause 0x03 1 (.thread 7) 47 (some 47) true
     (42, 0) ∈ (u [(42, 0)]).faults.shoots.getD 7 [] ∧ (u [(42, 0)]).now ≤ 0 + 4000 ∧
     (u [(47, 0)]).faults.shoots.getD 7 [] = [(47, 0)] ∧ (u []).faults.shoots.getD 7 [] = []) ∧
    (let u := ({ shoots7 [(42, 0)] with now := 4001 }).cause 0x03 1 (.thread 7) 47 (some 47) true
     u.faults.shoots.getD 7 [] = [(42, 0)] ∧ 0 + 4000 < u.now) := by
  decide +kernel

/-- Trip input 7 in use. -/
def trip7 (live : Bool) (cls : Nat) : State :=
  { (((run.wr (SLC_TRIP_CFG_EN 7) 1).wr (SLC_TRIP_CFG_POL 7) 1).wr (SLC_TRIP_CFG_CLASS 7) cls).wr (SLC_TRIP_CFG_THR_MASK 7) 0 with
    faults := { run.faults with trips := run.faults.trips.set 7 { live := live, cls := cls, mask := 0 } } }
theorem test_trip_hypotheses :
    ((trip7 false 1).rd (SLC_TRIP_CFG_EN 7) = 1 ∧ (trip7 false 1).rd (SLC_TRIP_CFG_POL 7) = 1 ∧
      ((trip7 false 1).faults.trips.getD 7 TripIn.reset).live = false ∧ (trip7 false 1).rd (SLC_TRIP_CFG_CLASS 7) = 1 ∧
      (trip7 false 1).rd (SLC_TRIP_CFG_THR_MASK 7) = 0 ∧ (trip7 false 2).rd (SLC_TRIP_CFG_CLASS 7) = 2) ∧
    ((trip7 true 1).faults.trips.getD 7 TripIn.reset).live = true ∧
    (let s := inA run fun l => ((l.wr (MEAS_FC_EN 7) 1).wr (MEAS_FC_LEG 7) 48).wr (MEAS_FC_HI 7) 0
     s.active = .a ∧ (s.lane .a).rd (MEAS_FC_EN 7) = 1 ∧ 48 ≤ (s.lane .a).rd (MEAS_FC_LEG 7) ∧ 7 < (s.lane .a).meas.cmps.length ∧
      s.causeActive 0x04 7 = false ∧ fcLevel ((s.lane .a).rd (MEAS_FC_HI 7)) < fcLevel 1) ∧
    run.goneTimes = [] ∧ (run.cause 0x06 1 .module 3 none false).goneTimes ≠ [] ∧
    ({ run with faults := { run.faults with ackLowSince := some 3 } }).faults.ackLowSince = some 3 ∧
    run.faults.ackLowSince = none := by
  decide +kernel

/-- Auxiliary drive 3 in use, with its mode and count of trips. -/
def aux3 (consec : Nat) (pre : Option Nat) : State :=
  { (((((run.wr (AUX_CH_CTRL_RUN 3) 1).wr (AUX_CH_CFG_MODE 3) 1).wr (AUX_CH_STAT_TRIP_CONSEC 3) consec).wr
      (AUX_CH_PWM_DUTY 3) 32768).wr (AUX_CH_PWM_PER 3) 20000).wr (AUX_CH_STAT_HALL 3) 1 with
    aux := run.aux.set 3 { (run.auxCh 3) with precharge := pre } }
theorem test_aux_hypotheses : hallStep (7 - (0 : BitVec 3).toNat) = none ∧ hallStep (0 : BitVec 3).toNat = none ∧
    (hallStep 1).isSome = true ∧ (hallStep 6).isSome = true ∧ ((aux3 0 (some 9)).auxCh 3).precharge = some 9 ∧
    ((aux3 0 none).auxDrives 3 = true ∧ (aux3 0 none).rd (AUX_CH_CFG_MODE 3) = 1 ∧ ((aux3 0 none).auxPattern 3).isSome = true ∧
      (aux3 0 none).rd (AUX_CH_CFG_AUX_DT 3) ≤ (aux3 0 none).rd (AUX_CH_PWM_DUTY 3) * (aux3 0 none).rd (AUX_CH_PWM_PER 3) / 65536 ∧
      0 < (aux3 0 none).rd (AUX_CH_PWM_DUTY 3) * (aux3 0 none).rd (AUX_CH_PWM_PER 3) / 65536) ∧
    ((aux3 6 none).auxRuns 3 = true ∧ (aux3 6 none).rd (AUX_CH_STAT_TRIP_CONSEC 3) < 7 ∧
      ∀ m < 4, m ≠ 3 → ((aux3 6 none).auxCh m).tripAt = none) ∧
    ((aux3 7 none).auxRuns 3 = true ∧ (aux3 7 none).rd (AUX_CH_STAT_TRIP_CONSEC 3) = 7) ∧
    ((aux3 0 none).rd (AUX_CH_CTRL_RUN 3) = 1 ∧ ((aux3 0 none).auxCh 3).stalled = false) := by
  decide +kernel

/-! ### Witnesses of the single clauses: clocks, Field die, safety, trips, drives, links, groups -/

/-- A run of the engine between its END's tick and now. -/
def inRun : State :=
  inA (late.wr CLK_STAT_ON_REF 0) fun l => l.modDp .dp0 fun d =>
    { d with run := some { ctx := 7, group := 1, pc := 0, since := 4900000, cycles := 200000, rebase := false,
                           bank := false, ops := 0 } }
theorem test_rate_change_hypotheses : inRun.rd CLK_STAT_ON_REF = 0 ∧
    (((inRun.lane .a).dp .dp0).run.map fun r => (r.since, r.cycles)) = some (4900000, 200000) ∧ 4900000 ≤ inRun.now ∧
    inRun.now ≤ 4900000 + 200000 ∧ 16 * (inRun.now - 4900000) ≤ inRun.now := by
  decide +kernel

theorem test_backfeed_hypotheses : w0.field.doOn.getLsbD 15 = false ∧ w0.field.doCmd.getLsbD 15 = false ∧
    doOn15.field.doOn.getLsbD 15 = true ∧ ({ w0 with field := { w0.field with doCmd := 0x8000 } }).field.doCmd.getLsbD 15 = true := by
  decide +kernel

/-- Field supplies at two voltages, in their classes. -/
def supplied (a b : Int) (c0 c1 : Nat) (since : Option Nat) : State :=
  { run with field := { run.field with volts := [a, b], cls := [c0, c1], vfOkSince := run.field.vfOkSince.set 1 since } }
theorem test_supply_class_hypotheses :
    (let s := supplied 100 99 1 1 none
     s.field.cls.length = 2 ∧ s.field.cls.getD 0 0 < 2 ∧ s.field.cls.getD 1 0 < 2 ∧ (∃ x ∈ s.field.volts.set 1 139, 100 ≤ x) ∧
      s.field.volts ≠ [] ∧ powered s ∧ (∀ x ∈ s.field.volts.set 0 (-11), x < 100) ∧ s.safeEn = false) ∧
    (∃ x ∈ (supplied 99 100 1 1 none).field.volts.set 0 139, 100 ≤ x) ∧
    (let s := supplied 240 240 2 3 (some 0)
     s.field.cls.length = 2 ∧ s.field.vfOkSince.getD (supplyNum .vf2) none = some 0 ∧ ∃ x ∈ s.field.volts.set (supplyNum .vf2) 160, 100 ≤ x) ∧
    ¬ powered (supplied 99 99 2 2 none) ∧ (supplied 240 240 0 0 none).field.supOff.getD 3 none = none ∧
    (supplied 240 240 0 0 none).field.cls.getD 0 0 < 2 ∧
    (∀ k < 2, (supplied 240 240 0 0 none).rd (FIO_STAT_VF_ST k) = (supplied 240 240 0 0 none).field.cls.getD k 0) ∧
    ({ run with field := { run.field with takeBack := true } }).field.takeBack = true ∧
    ((w0.di 31).ot = false ∧ ({ w0 with field := { w0.field with dis := w0.field.dis.set 31 { w0.di 31 with ot := true } } }.di 31).ot = true) := by
  simp only [powered]
  decide +kernel

theorem test_rotor_hypotheses :
    (let s := inA run fun l => ((l.wr (ASC_S_CFG_MODE 2) 1).wr (ASC_S_CFG_ENC_SEL 2) 1)
     s.mod.started = true ∧ (s.lane .a).srcMode 2 ≠ 0 ∧ (s.lane .a).rd (ASC_S_CFG_ENC_SEL 2) = 1) ∧ (run.lane .a).srcMode 2 = 0 := by
  decide +kernel

theorem test_test_pulse_hypotheses : 0 < 400000 * (run.lane run.active).rd SAFE_TP_CFG_TP_PER ∧ run.field.tpBase = none ∧
    ({ late with field := { late.field with tpBase := some 9 } }).field.tpBase = some 9 := by
  decide +kernel

theorem test_degraded_hypotheses :
    (let s (n : Nat) := run.bothLanes fun l => (l.wr SAFE_STAT_DEGRADED 1).wr SAFE_DEGRADED_REMAIN n
     (((s 1).lane .a).rd SAFE_STAT_DEGRADED = 1 ∧ ((s 1).lane .a).rd SAFE_DEGRADED_REMAIN - 1 = 0) ∧
      ((s 2).lane .a).rd SAFE_DEGRADED_REMAIN - 1 ≠ 0) ∧
    run.safe.stopDue = false ∧ ({ run with safe := { run.safe with stopDue := true } }).safe.stopDue = true ∧ run.hold = false ∧
    (run.wr LANE_STAT_HOLD 1).hold = true := by
  decide +kernel

theorem test_cause_frame_hypotheses : run.rd PWR_STAT_STATE < 2 ∧ ((true : Bool) = true ↔ (trip7 false 1).rd (SLC_TRIP_CFG_POL 7) = 1) ∧
    ¬ ((false : Bool) = true ↔ (trip7 true 1).rd (SLC_TRIP_CFG_POL 7) = 1) ∧
    ((false : Bool) = true ↔ ((trip7 false 1).wr (SLC_TRIP_CFG_POL 7) 0).rd (SLC_TRIP_CFG_POL 7) = 1) ∧
    (run.wr (SLC_TRIP_CFG_EN 7) 0).rd (SLC_TRIP_CFG_EN 7) ≠ 1 := by
  decide +kernel

/-- Auxiliary drive 3 with its two levels of the shunt voltage and a blanking from tick 0. -/
def shunt3 (consec : Nat) : State :=
  ((({ aux3 consec none with now := 600 }.wr (AUX_CH_ISNS_HARD 3) 40).wr (AUX_CH_ISNS_LO 3) 20).wr (AUX_CH_CFG_BLANK 3) 15)
theorem test_shunt_hypotheses : (∀ c ∈ [6, 7], let s := shunt3 c
      s.auxRuns 3 = true ∧ s.rd (AUX_CH_STAT_TRIP_CONSEC 3) = c ∧ 4000 * s.rd (AUX_CH_ISNS_HARD 3) < 160001 ∧
        4000 * s.rd (AUX_CH_ISNS_LO 3) < 80001 ∧ (s.auxCh 3).edgeAt + 40 * s.rd (AUX_CH_CFG_BLANK 3) ≤ s.now) ∧
    (let s := { shunt3 6 with now := 599 }
     80001 ≤ 4000 * s.rd (AUX_CH_ISNS_HARD 3) ∧ s.now < (s.auxCh 3).edgeAt + 40 * s.rd (AUX_CH_CFG_BLANK 3)) ∧
    (run.auxRuns 3 = false) ∧ run.auxDrives 3 = false ∧ (aux3 0 none).auxDrives 3 = true ∧ (aux3 0 none).rd (AUX_CH_CFG_MODE 3) = 1 := by
  decide +kernel

/-! ### Witnesses: gate links and groups -/

/-- The link of leg 47 in a state, with its negotiation step. -/
def link47 (st : Nat) (f : Link → Link) : State := (run.wr (GL_LINK_STAT_STATE 47) st).modLink 47 f
/-- The same with every thread OFF but thread 0, which switches. -/
def busy (s : State) : State := s.wr (SYS_THREAD_STATE_T 0) 2
theorem test_link_hypotheses :
    ((link47 1 fun l => { l with phase := 0 }).rd (GL_LINK_STAT_STATE 47) = 1 ∧ ((link47 1 fun l => { l with phase := 0 }).link 47).phase = 0) ∧
    (let s := link47 1 fun l => { l with phase := 1, reqs := 19, retrain := false }
     s.rd (GL_LINK_STAT_STATE 47) = 1 ∧ (s.link 47).phase = 1 ∧ (s.link 47).reqs < 20 ∧ (s.link 47).retrain = false ∧
      commonVer 0x0300 0x0202 = none ∧ commonVer 0x01FF 0x0100 = none ∧ commonVer 0xFFFF 0 = some 0x0201 ∧
      commonVer 0x0200 0x0200 = some 0x0200 ∧ swCount (s.legType 47) = 2) ∧
    (let h : Hello := { hi := 0x0201, lo := 0x0200, sw := 2, type := 0 }
     let s := link47 1 fun l => { l with phase := 1, retrain := true, hello := some h }
     s.rd (GL_LINK_STAT_STATE 47) = 1 ∧ (s.link 47).retrain = true ∧ (s.link 47).hello = some h) ∧
    (let u := ((link47 1 fun l => { l with phase := 1, since := 5 }).wr (GL_LINK_CFG_ALLOW_GL1 47) 1).passTo 5
     u.rd (GL_LINK_CFG_ALLOW_GL1 47) = 1 ∧ u.legType 47 = 0) ∧
    (inA (link47 1 fun l => { l with phase := 1 }) fun l => l.wr (PWM_LEG_CFG_TYPE 47) 1).legType 47 ≠ 0 ∧
    (let s := link47 1 fun l => { l with phase := 2, pings := [6400] }
     (s.link 47).phase = 2 ∧ (s.link 47).pings ≠ [] ∧ ((link47 1 fun l => { l with phase := 2, pings := [] }).link 47).pings = []) := by
  decide +kernel

theorem test_link_delay_hypotheses : 25600 < 25601 ∧ run.allOff = true ∧ (busy run).allOff = false ∧
    ((busy run).wr GL_ALIGN_LAT 200).rd GL_ALIGN_LAT < latOf 25600 ∧ latOf 25600 ≤ (run.wr GL_ALIGN_LAT 2000).rd GL_ALIGN_LAT := by
  decide +kernel

theorem test_running_link_hypotheses :
    (let s := link47 3 fun l => { l with pings := [], faultActive := [] }
     s.rd (GL_LINK_STAT_STATE 47) = 3 ∧ s.rd (GL_LINK_STAT_DRIFT 47) = 0 ∧ s.causeActive (faultCode 0) 47 = false ∧
      faultCode 0 ∉ (s.link 47).faultActive ∧ s.causeActive 0x0C 47 = false ∧
      (s.wr (GL_LINK_STAT_DRIFT 47) 1).rd (GL_LINK_STAT_DRIFT 47) = 1) ∧
    (List.replicate 16 (0 : Byte)).length = 16 ∧ (List.replicate 16 (0 : Byte)).getD 0 0 = 0 ∧
    (let d (rt : Nat) := ((link47 3 fun l => { l with pings := [] }).wr (GL_LINK_DELAY_D_NOW 47) (pingDelay [10240 + 2 * rt]))
     (d 25).rd (GL_LINK_DELAY_D_NOW 47) ≤ (d 25).rd (GL_LINK_DELAY_D_USED 47) + 25 ∧
     (d 26).rd (GL_LINK_DELAY_D_USED 47) + 25 < (d 26).rd (GL_LINK_DELAY_D_NOW 47)) ∧
    (link47 1 fun l => { l with phase := 3 }).rd (GL_LINK_STAT_STATE 47) = 1 ∧
    ((link47 1 fun l => { l with phase := 3 }).link 47).phase = 3 ∧ (0 : Byte) ≠ ~~~(0 : Byte) ∧
    (link47 2 id).rd (GL_LINK_STAT_STATE 47) = 2 ∧ (link47 2 id).causeActive 0x01 47 = false := by
  decide +kernel

/-- An announcement of another member, and a module in a group. -/
def ann (id : Nat) (leader : Bool) : Announce := { State.reset.ownAnnounce with id := id, leaderEn := leader, atLocal := false }
def inGrp (role : Nat) : State := { (run.wr GRP_STAT_ROLE role).wr GRP_STAT_VER 0x20 with grp := { run.grp with forming := role = 0 } }
theorem test_group_forming_hypotheses : ({ ann 0 false with atLocal := true }).atLocal = true ∧ (inGrp 1).rd GRP_STAT_ROLE = 1 ∧
    ((inGrp 1).grp.forming = false ∧ (run.grp.forming = false ∧ run.rd GRP_STAT_ROLE = 0) ∧ (inGrp 3).rd GRP_STAT_ROLE = 3) ∧
    ((inGrp 0).modGrp fun g => { g with announced := true }).grp.announced = true ∧ (ann 0 false).atLocal = false ∧
    (ann 0 false).id = (inGrp 0).rd GRP_STAT_ID ∧ (inGrp 0).grp.forming = true ∧ (ann 7 false).id ≠ (inGrp 0).rd GRP_STAT_ID ∧
    (inGrp 0).rd GRP_STAT_ROLE = 0 ∧
    (let s := (inGrp 2).modGrp fun g => { g with forming := true }
     s.grp.forming = true ∧ s.rd GRP_STAT_ROLE = 2 ∧ s.rd CLK_STAT_FLL_LOCK ≠ 1) := by
  decide +kernel

theorem test_election_hypotheses :
    (∀ a ∈ ((inGrp 0).modGrp fun g => { g with members := [ann 7 false] }).grp.members, a.leaderEn = false) ∧
    (inGrp 0).rd GRP_CFG_LEADER_EN ≠ 1 ∧
    (let s := (inGrp 0).modGrp fun g => { g with members := [{ ann 7 true with n := 64 }] }
     let all := placeMember s.ownAnnounce s.grp.members
     all.Pairwise (fun a b => a.id < b.id) ∧ { ann 7 true with n := 64 } ∈ all ∧ s.ownAnnounce.n ≠ 64 ∧
      ∀ a ∈ all, a.leaderEn = true → 7 ≤ a.id) ∧
    (let s := ((inGrp 0).wr GRP_CFG_LEADER_EN 1).modGrp fun g => { g with members := [ann 7 true] }
     let all := placeMember s.ownAnnounce s.grp.members
     all.Pairwise (fun a b => a.id < b.id) ∧ s.ownAnnounce ∈ all ∧ s.ownAnnounce.leaderEn = true ∧ s.ownAnnounce.id < 8 ∧
      ∀ a ∈ all, a.leaderEn = true → s.ownAnnounce.id ≤ a.id) := by
  decide +kernel

theorem test_group_frame_hypotheses : 7 ≠ run.rd GRP_STAT_ID ∧
    ((run.grp.pings.filter fun (x : Nat × Int) => x.1 = 7).map Prod.snd).length < 63 ∧
    (((run.modGrp fun g => { g with pings := List.replicate 63 (7, 0) }).grp.pings.filter fun (x : Nat × Int) => x.1 = 7).map
      Prod.snd).length = 63 ∧
    (inGrp 1).rd GRP_STAT_ROLE = 1 ∧ (inGrp 2).rd GRP_STAT_ROLE = 2 ∧ 7 ≠ (inGrp 2).rd GRP_STAT_ID ∧
    (let s := inA (inGrp 2) fun l => l.wr REC_CFG_GRP_IN 1
     0x20 ≤ s.rd GRP_STAT_VER ∧ 7 ≠ s.rd GRP_STAT_ID ∧ s.laneA.rd REC_CFG_GRP_IN = 1 ∧ s.laneA.recSt ≠ 2 ∧
      s.laneB.rd REC_CFG_GRP_IN ≠ 1) ∧
    (let s := { inA (inGrp 2) (fun l => (l.wr REC_CFG_GRP_IN 1).wr REC_STAT_STATE 2) with now := 5000000 }
     s.laneA.rd REC_CFG_GRP_IN = 1 ∧ s.laneA.recSt = 2 ∧ s.laneB.rd REC_CFG_GRP_IN ≠ 1 ∧ s.dlyTicks 7 ≤ s.frameOff .a ∧
      s.laneA.rec_.armedAt + 4000 * s.laneA.rd REC_WIN_PRE + s.dlyTicks 7 ≤ s.now) := by
  decide +kernel

theorem test_group_loss_hypotheses : (inGrp 2).rd GRP_STAT_ROLE = 2 ∧ run.rd GRP_STAT_ROLE ≠ 2 ∧
    (let s := { (inGrp 2).modGrp (fun g => { g with lastBoundary := 5 }) with mod := { run.mod with tally := 8 } }
     s.grp.forming = false ∧ 3 ≤ (s.mod.tally - s.grp.lastBoundary).toNat) ∧
    (let s := (inGrp 1).wr ⟨GRP_STAT, 15, 15⟩ 1
     s.rd GRP_STAT_ROLE = 1 ∧ 7 ≠ s.rd GRP_STAT_ID ∧ s.rd ⟨GRP_STAT, 8 + 7, 8 + 7⟩ = 1) := by
  decide +kernel

/-! ### Witnesses: control laws, angles, measurement, lanes -/

/-- A run of context 159 in group 15 on datapath 1 of lane A, its rebase segment running or not. -/
def aRun (rebase : Bool) : CtxRun := { ctx := 159, group := 15, pc := 0, since := 0, cycles := 4, rebase := rebase, bank := false, ops := 0 }
def running (rebase : Bool) (d : List Word) : State :=
  inA run fun l => l.modDp .dp1 fun x => { x with run := some (aRun rebase), d := d }
/-- The word of an op with operands D30, D31 and destination D29. -/
def word (sat : Bool) : CleWord := { dst := 29, sa := 30, sb := 31, acc := 3, shift := 16, sat := sat, mod := 0, imm := 0x80000000 }
def regsWith (a b : Word) : List Word := List.replicate 30 0 ++ [a, b]
/-- The program of the run names an op. -/
def program (op : Nat) (w : CleWord) (s : State) : State := inA s fun l => { l with cle := { l.cle with prog := [(0, wordOf op w)] } }
theorem test_op_hypotheses :
    (((running false (regsWith 0 0)).lane .a).dp .dp1).run = some (aRun false) ∧ ((run.lane .a).dp .dp1).run = none ∧
    (aRun true).rebase = true ∧ (aRun false).rebase = false ∧ (aRun true).pc = 0 ∧
    (∀ op ∈ List.range 0x29, let l := (program op (word true) (running true [])).lane .a
      (l.dp .dp1).run = some (aRun true) ∧ (aRun true).ctx ∉ l.cle.lib ∧ opOf (l.cle.progWord (aRun true).pc) = (op, word true)) ∧
    (let s := inA (running false []) fun l => { l with cle := { l.cle with lib := [159] } }
     ((s.lane .a).dp .dp1).run = some (aRun false) ∧ (aRun false).ctx ∈ (s.lane .a).cle.lib) ∧
    (let d (x y : Word) := ((running false (regsWith x y)).passTo 4 |>.lane .a).dp .dp1
     va (d 0x80000000 0) (word true) < 0 ∧ 0 ≤ va (d 0 0) (word true) ∧ vb (d 1 0) (word true) = 0 ∧
     0 < va (d 0x7FFFFFFF 0) (word true) ∧ vb (d 0 0xFFFFFFFF) (word true) ≠ 0 ∧ va (d 0 0xFFFFFFFF) (word true) ≤ 0) := by
  decide +kernel

theorem test_group_run_hypotheses :
    (let s := inA run fun l => l.modGroup 15 fun g => { g with running := true, missed := false }
     ((s.lane .a).group 15).running = true ∧ ((s.lane .a).group 15).missed = false ∧ s.boundaryDue = false ∧
     s.now ≤ ((s.lane .a).group 15).deadline) ∧
    ((inA run fun l => l.modGroup 15 fun g => { g with missed := true }).lane .a |>.group 15).missed = true ∧
    (late.lane .a |>.group 15).deadline < late.now ∧
    ({ late with mod := { late.mod with started := true } } |> fun s =>
      (inA s fun l => l.modAsc fun a => { a with frameEnd := (l.src (l.rd ASC_FRAME_STAT_SRC_IN_FORCE)).front })).boundaryDue = true := by
  decide +kernel

/-- The Angle Schedulers run; entry 0 of θv lies 0x100 bt ahead of where its source stood. -/
def started (s : State) : State := { s with mod := { s.mod with started := true } }
def entryAt (n : Nat) (q : List QEntry) (disp : Option Nat) : State :=
  inA (started late) fun l => l.modAsc fun a => { a with queue := q, lastDisp := disp, nInForce := n }
def queued (at_ : Nat) : QEntry := { idx := 63, late := false, src := 3, at_ := at_, words := { w0 := 0, w1 := 0, w2 := 0 } }
theorem test_queue_hypotheses : (run.lane .b).asc.queue = [] ∧
    (let s := entryAt 64 [queued 4999999] none
     (s.lane .a).asc.queue = queued 4999999 :: [] ∧ (queued 4999999).at_ < s.now ∧ (s.lane .a).asc.lastDisp ≠ some s.now) ∧
    (let s := entryAt 64 [queued 5000000] none
     (s.lane .a).asc.queue = queued 5000000 :: [] ∧ s.now ≤ (queued 5000000).at_) ∧
    ((entryAt 64 [queued 4999999] (some 5000000)).lane .a).asc.lastDisp = some (5000000) ∧
    (syncLine (run.lane .a) 7).until_ = none ∧
    (syncLine ((inA run fun l => l.modAsc fun a => { a with sync := a.sync.set 7 { level := true, until_ := some 9 } }).lane .a) 7).until_ =
      some 9 := by
  decide +kernel

/-- Entry 0 at angle 0x80 of θv, crossed by the last movement of its front, which went to an angle. -/
def crossing (front : Word) : State :=
  inA (started late) fun l => ((((l.wr (SCHED_W1_EN 0) 1).wr (SCHED_W1_SRC 0) 0).wr (SCHED_W0_ANGLE 0) 0x80).modSrc 0 fun a =>
    { a with front := front, frontAtTick := 0, acc := front.setWidth 48 <<< 16 })
theorem test_crossing_hypotheses :
    (∀ mv ∈ [(0x100, Move.ordinary), (0x04000000, Move.jump), (0x80000000, Move.resync)],
      let s := crossing mv.1
      let u := s.pass (if s.mod.started then (s.lane .a).ticksToCross s.now 0 0 else 0)
      0 < (u.lane .a).marks u.now 0 0 ∧ (u.lane .a).asc.crossedAt ≠ u.now ∧ (u.lane .a).moveNow 0 = mv.2) ∧
    (run.lane .a).marks run.now 0 0 = 0 ∧ run.mod.started = true ∧ w0.mod.started = false := by
  decide +kernel

/-- Lane A with channels 31 and 79 in mode 1, and a core that converts a channel or none. -/
def meas (busy : Option Nat) : State :=
  inA (started late) fun l => ((((l.wr (MEAS_CH_CFG_MODE 31) 1).wr (MEAS_CH_CFG_SRC 31) 2).wr (MEAS_CH_CFG_MODE 79) 1).wr
    (MEAS_CH_CFG_EDGE 79) 1).modCore 2 fun c => { c with chan := busy, startAt := busy }
theorem test_conversion_hypotheses : ((meas none).lane .a |>.core 2).chan = none ∧
    ((meas (some 31)).lane .a |>.core 2).chan = some 31 ∧ ((meas (some 31)).lane .a |>.core 2).startAt = some 31 ∧
    ((meas none).lane .a).chMode 31 = 1 ∧ (meas none).converts 31 = true ∧
    (((meas none).lane .a).popGrid 5000000 (meas none).slotLen 31).map (fun x => x.1) = some 5000155 ∧ (meas none).now = 5000000 ∧
    ((inA run fun l => { l with regs := l.regs.set (ASC_S_INC 3) 0 }).lane .a |>.popGrid 0 5 31).isNone = true ∧
    (let u := (meas none).passTo 5000155
     (u.lane .a).gridCore u.doze u.now 31 = some 2) ∧
    (let u := (meas (some 5)).passTo 5000155
     (u.lane .a).gridCore u.doze u.now 31 = none) ∧
    (run.wr PWR_STAT_STATE 3).converts 31 = false ∧ ((meas none).lane .a).chMode 79 = 1 ∧ (meas none).converts 79 = true ∧
    false ≠ ((meas none).lane .a).on (MEAS_CH_CFG_EDGE 79) ∧
    (let s := inA (meas none) fun l => (l.wr (MEAS_SDCLK_CFG_MODE 0) 1).wr (MEAS_SDCLK_CFG_DIV 0) 20
     (s.nextClock .a 79).isSome = true) ∧
    ((run.lane .a).popWindow 0 5 31).isNone = true ∧
    ((inA (meas none) fun l => l.modChan 79 fun c => { c with due := [{ cut := 5000000, ready := 5000400, out := false }] }).lane .a
      |>.popWindow 5000000 5 79).isSome = true ∧
    ((inA run fun l => l.modPwm fun p => { p with trigs := [(15, 3, 8)] }).lane .a).pwm.trigs.find?
      (fun y => y.1 = 15 && y.2.1 = 3) = some (15, 3, 8) ∧
    (∀ y ∈ (run.lane .a).pwm.trigs, ¬ (y.1 = 15 ∧ y.2.1 = 3)) := by
  decide +kernel

theorem test_boundary_hypotheses : w0.mod.started = false ∧ (started run).mod.started = true ∧ run.grp.startAt = none ∧
    (started run).duplex.cutTally ≠ some (started run).mod.tally ∧
    ({ run with duplex := { run.duplex with cutTally := some run.mod.tally } }).duplex.cutTally = some run.mod.tally := by
  decide +kernel

/-- A cut whose sets wait for their comparison, with the other lane in a state. -/
def cutAt (other : Nat) (held : Bool) (pend : Nat) : State :=
  (((started late).wr LANE_STAT_STATE_B other).wr LANE_STAT_VERDICT_PEND pend).modDuplex fun d =>
    { d with compareDue := some 4999600, held := held }
theorem test_compare_set_hypotheses : run.duplex.compareDue = none ∧ (cutAt 2 false 0).duplex.compareDue = some 4999600 ∧
    (let u (s : State) := ((s.passTo (4999600 + 400)).modDuplex fun d => { d with compareDue := none }).lateVerdict
     (u (cutAt 2 true 0)).duplex.held = true ∧ (u (cutAt 2 false 1)).rd LANE_STAT_VERDICT_PEND = 1 ∧
     (u (cutAt 2 false 0)).duplex.held = false ∧ (u (cutAt 2 false 0)).rd LANE_STAT_VERDICT_PEND = 0 ∧
     (u (cutAt 2 false 0)).active = .a ∧ (u (cutAt 2 false 0)).laneState .a = 1 ∧ (u (cutAt 2 false 0)).laneState .b = 2 ∧
     (u (cutAt 2 false 0)).compareSets none none ≠ none ∧
     (u (cutAt 3 false 0)).laneState .b = 3 ∧ (u (cutAt 4 false 0)).laneState .b ≠ 2 ∧ (u (cutAt 4 false 0)).laneState .b ≠ 3) ∧
    (cutAt 2 false 0).compareSets (some []) (some []) = none := by
  decide +kernel

theorem test_resync_hypotheses :
    (let s := (cutAt 3 false 0).wr LANE_STAT_MATCH_CNT 999
     s.rd LANE_STAT_MATCH_CNT < 1000 ∧ s.laneState (LaneId.other s.active) = 3) ∧
    1000 ≤ ((cutAt 3 false 0).wr LANE_STAT_MATCH_CNT 1000).rd LANE_STAT_MATCH_CNT ∧
    (cutAt 2 false 0).laneState (LaneId.other (cutAt 2 false 0).active) ≠ 3 := by
  decide +kernel

/-- A restart of lane B that waits for its bulk copy. -/
def restartB : State := run.modDuplex fun d => { d with restart := some { lane := .b, since := 2, bulkDone := false, final := false } }
theorem test_lane_report_hypotheses :
    (let s := run.wr LANE_STAT_VERDICT_PEND 1
     s.rd LANE_STAT_VERDICT_PEND = 1 ∧ s.duplex.verdicts.getD (LaneId.num .b) none = none ∧ s.laneLive .b = true ∧
     (s.lane .b).cle.dp0.sigPend = false ∧ (s.lane .b).cle.dp1.sigPend = false) ∧
    (w0.lane .a).fwAt = none ∧ ((inA run fun l => { l with fwAt := some 0 }).lane .a).fwAt ≠ none ∧
    (restartB.duplex.restart.map fun r => r.lane) = some .b ∧ (restartB.duplex.restart.map fun r => r.bulkDone) = some false ∧
    run.duplex.restart = none := by
  decide +kernel

/-! ### Witnesses: recorder, journal, host commands -/

/-- A capture of the recorder. -/
def cap1 : Capture := { seq := 1, unit := 0, point := { frac := 0, tick := 3, past := false, tally := 0, off := 0 }, sent := false }
theorem test_trigger_unit_hypotheses : (run.lane .a).rd (REC_TRIG_CFG_TYPE 7) = 0 ∧
    (let s := inA run fun l => ((l.wr (REC_TRIG_CFG_TYPE 7) 1).wr REC_STAT_STATE 2).wr REC_CFG_TRIG_MASK 0x80
     (s.lane .a).rd (REC_TRIG_CFG_TYPE 7) ≠ 0 ∧ (s.lane .a).rd (REC_TRIG_CFG_ANG_EN 7) ≠ 1 ∧ (s.lane .a).rd REC_STAT_STATE = 2 ∧
      (s.lane .a).rd REC_CFG_TRIG_MASK / 2 ^ 7 % 2 = 1 ∧ ((s.lane .a).rec_.units.getD 7 TrigUnit.reset).due = none) ∧
    (let s := inA run fun l => (l.wr (REC_TRIG_CFG_TYPE 7) 1).modRec fun r =>
        { r with units := updAt r.units 7 fun x => { x with due := some cap1.point } }
     (s.lane .a).rd (REC_TRIG_CFG_TYPE 7) ≠ 0 ∧ ((s.lane .a).rec_.units.getD 7 TrigUnit.reset).due = some cap1.point ∧
      (s.lane .a).rd REC_CFG_TRIG_MASK / 2 ^ 7 % 2 = 0) ∧
    (let s := inA run fun l => (((l.wr (REC_TRIG_CFG_TYPE 7) 1).wr (REC_TRIG_CFG_ANG_EN 7) 1).wr (REC_TRIG_ANG_A_LO 7) 1).wr
        (REC_TRIG_ANG_A_HI 7) 2
     (s.lane .a).rd (REC_TRIG_CFG_ANG_EN 7) = 1 ∧ inWindow (s.lane .a) 7 = false ∧
      inWindow ((inA s fun l => l.wr (REC_TRIG_ANG_A_LO 7) 0).lane .a) 7 = true ∧ (s.lane .a).rd REC_STAT_STATE ≠ 2) := by
  decide +kernel

/-- An injection. -/
def inj (kind : Nat) : InjBody :=
  { node := 15, kind := kind, order := 23, hold := 1, amp := 1, frames := 1, f0 := 0, f1 := 0, log := false, trace := false, thrMask := 0x80 }
def injected (ov : Option Nat) : Inject :=
  { body := inj 1, start := run.mod.tally, lfsr := 1, phase := 0, value := 0, over_ := ov }
def injecting15 (ov : Option Nat) : State :=
  inA (run.wr (SYS_THREAD_STATE_T 7) 2) fun l => l.modRec fun r => { r with inject := r.inject.set 15 (some (injected ov)) }
theorem test_recorder_hypotheses :
    ((inA run fun l => l.wr REC_STAT_STATE 1).lane .a).rd REC_STAT_STATE = 1 ∧ (run.lane .a).rd REC_CFG_MODE = 0 ∧
    (run.lane .a).rd REC_STAT_STATE ≠ 1 ∧ (run.lane .a).rec_.cap = none ∧
    ((inA run fun l => l.modRec fun r => { r with cap := some cap1 }).lane .a).rec_.cap = some cap1 ∧
    (run.lane .a).rec_.stored = [] ∧ ((inA run fun l => l.wr REC_STAT_STATE 4).lane .a).rd REC_STAT_STATE = 4 ∧
    ((inA run fun l => l.modRec fun r => { r with stored := [(1, 2, 4)] }).lane .a).rec_.stored = (1, 2, 4) :: [] ∧
    run.capLeft .a 1 = false ∧ run.contLeft .a = false ∧ ((inA run fun l => l.wr REC_CFG_MODE 1).lane .a).rd REC_CFG_MODE = 1 ∧
    (run.modDuplex fun d => { d with withheld := [(.a, .record 0 { type := 0x10, source := 0, tally := 0, payload := [1, 0, 0, 0] })] }).capLeft .a 1 = true ∧
    (let s := inA run fun l => (l.wr REC_STAT_STATE 5)
     (s.lane .a).rd REC_STAT_STATE = 5 ∧ (s.lane .a).roomForWindow = true) ∧
    (let s := { inA run fun l => (l.wr RAKE_STAT_RUN 1).modRec fun r => { r with rakeFrames := 1 } with
                mod := { run.mod with tally := run.mod.tally + 5 } }
     (s.lane .a).rd RAKE_STAT_RUN = 1 ∧ (s.lane .a).rec_.rakeFrames ≠ 0 ∧ (s.lane .a).rec_.rakeFrames.toNat ≤ s.rakeCount .a) ∧
    (run.lane .a).rd RAKE_STAT_RUN ≠ 1 ∧ (run.lane .a).rec_.inject.getD 15 none = none ∧
    ((injecting15 none).lane .a).rec_.inject.getD 15 none = some (injected none) ∧ (injecting15 none).injectOver (injected none) = none ∧
    ({ injecting15 none with mod := { run.mod with tally := run.mod.tally + 9 } }).injectOver (injected none) = some 2 ∧
    ((injecting15 (some 3)).lane .a).rec_.inject.getD 15 none = some (injected (some 3)) := by
  decide +kernel

theorem test_journal_hypotheses : w0.journal.store.length ≤ 16384 ∧ w0.power.shutdown = none ∧ run.active = .a ∧ run.hold = false ∧
    (run.wr LANE_STAT_HOLD 1).active = .a ∧ (run.wr LANE_STAT_HOLD 1).hold = true ∧ run.active ≠ .b := by
  decide +kernel

/-- A header that names a buffer that was read. -/
def hb : Hdr := { hd 15 with dataAddr := 0xFFFFFFFFFFFFFFFC, data := .ok }
/-- Every thread in a state. -/
def threads (st : Nat) : State := { run with regs := run.regs.set SYS_THREAD_STATE (BitVec.ofNat 32 (st * 0x11111111)) }
/-- The links of thread 7 up, the envelope locked, hold-up good, and 512 frames of 25 to 250 µs a turn. -/
def ready7 : State :=
  let s := (List.range 6).foldl (fun s k => s.wr (GL_LINK_STAT_STATE (42 + k)) 3) run
  inA ((s.wr SLC_ENV_LOCK_ENVELOPE_LOCK 1).wr PWR_VHOLD_HOLD_OK 1) fun l =>
    (l.wr (ASC_S_INC_INC 0) 0x00020000).modAsc fun a => { a with nInForce := 512 }
/-- The module with a thread that is not configured. -/
def absent7 (s : State) : State := { s with mod := { s.mod with configured := 0x7F } }
theorem test_thread_command_hypotheses :
    Ready ready7 (hd 0) (.arm 0x80) ∧ ¬ absent ready7 0x80 ∧ absent (absent7 run) 0x80 ∧
    Ready (absent7 run) (hd 0) (.arm 0x80) ∧ ready7.armRefused = false ∧
    (∀ t, t < 8 → named 0x80 t → ready7.armable t = true) ∧ (threads 1).armable 7 = false ∧ run.armRefused = true ∧
    Ready (threads 1) (hd 0) (.disarm 0x80) ∧ (threads 1).thread 7 = 1 ∧ (threads 3).thread 7 ≠ 1 ∧ (threads 3).thread 7 ≠ 2 ∧
    Ready (threads 3) (hd 0) (.disarm 0x80) ∧ Ready (threads 2) (hd 0) (.setMode 0x80 0) ∧ (threads 2).thread 7 = 2 ∧
    Ready (threads 1) (hd 0) (.setMode 0x80 0x33) := by
  simp only [Ready, absent, named]
  and_intros <;> decide +kernel

def seg (mask : BitVec 6) : SegBody :=
  { unit := 3, axmask := mask, rel := false, grp := false, tag := 1, blend := 0x8000, rateScale := 0x8000, tMin := 0, targets := List.replicate 6 0 }
theorem test_value_command_hypotheses :
    Ready run (hd 0) .nop ∧ Ready run (hd 0) (.setSetpoint [(0, 158, 1)]) ∧ Ready run (hd 0) (.trajSegment (seg 0x20)) ∧
    ((placed run).aheadUnit run.active 3).segCheck (seg 0x20) false = 0 ∧
    ((placed run).aheadUnit run.active 3).segCheck (seg 0) false = 1 ∧
    Ready run (hd 0) (.trajSegment (seg 0)) ∧ Ready run (hd 0) (.trajStop 0x8) ∧
    (let s := inA run fun l => l.modUnit 3 fun t => { t with queue := List.replicate 32 (Seg.mk (seg 0x20) [] [] 0) }
     1 < ((placed s).aheadUnit s.active 3).segCheck (seg 0x20) false ∧ Ready s (hd 0) (.trajSegment (seg 0x20))) ∧
    Ready run (hd 0) (.groupStart 8 (run.mod.tally + 7)) ∧ (run.mod.tally + 7).toNat < run.mod.tally.toNat + 8 ∧
    run.mod.tally.toNat + 8 ≤ (run.mod.tally + 8).toNat ∧ Ready (inGrp 2) (hd 0) (.groupStart 8 (run.mod.tally + 8)) ∧
    (inGrp 2).rd GRP_STAT_ROLE = 2 ∧ run.rd GRP_STAT_ROLE ≠ 2 ∧ Ready run (hd 0) (.ioWrite 0x8000 0x8000) ∧
    run.anySilent = false ∧ (run.wr (FIO_DO_STAT_SILENT 15) 1).anySilent = true ∧
    Ready (run.wr (FIO_DO_STAT_SILENT 15) 1) (hd 0) (.ioWrite 0x8000 0x8000) ∧ Ready run (hd 0) (.timeAdjust 1 0 999999999) ∧
    Ready run (hd 0) (.laneControl .a 1) ∧ run.laneControlOk .a 1 = false ∧ Ready run (hd 0) (.laneControl .b 2) ∧
    run.laneControlOk .b 2 = true := by
  simp only [Ready]
  and_intros <;> decide +kernel

/-- A law image without contexts, and one that cannot be read. -/
def img (ok : Bool) (ds : List (Nat × List Word)) : Image := { imgLen := 4, readable := ok, prog := [], descs := ds, binds := [], data := [], library := false }
/-- Context 159 with four coefficients and a rebase segment, enabled or not. -/
def law159 (en : Nat) : State :=
  inA run fun l => { l.wr (CLE_CTX_CFG_EN 159) en with
    cle := { l.cle with descs := [(8 * 159, 0x80000000), (8 * 159 + 3, 0x00040000)] } }
theorem test_write_regs_hypotheses :
    (let ps := [(MEAS_FIR_DATA, (5 : Word)), (HQ_IF_HOST, 0)]
     let p := (placed run).stagePairs ps
     Ready run hb (.writeRegs true ps) ∧ p.2 = [(2 ^ 32, 5), (HQ_IF_HOST, 0)] ∧
      (∀ x ∈ p.2, p.1.pairStatus (p.1.mergePairs p.2) x = 0) ∧ (∃ x ∈ ps, x.1 = MEAS_FIR_DATA)) ∧
    (let p := (placed run).stagePairs [(HQ_IF_HOST, 0), (SYS_ID, 1)]
     Ready run hb (.writeRegs true [(HQ_IF_HOST, 0), (SYS_ID, 1)]) ∧ ∃ x ∈ p.2, p.1.pairStatus (p.1.mergePairs p.2) x ≠ 0) := by
  simp only [Ready]
  and_intros <;> decide +kernel

/-- An image of context 159 whose program is one END. -/
def img159 : Image := { img true [(159, [0, 16, 0, 0, 0, 0, 0, 0])] with prog := [(0, 0x0400000000000000)] }
theorem test_coefficient_hypotheses :
    (let s := law159 0
     Ready s hb (.loadCoeff 159 1 3 [1]) ∧ 3 + [(1 : Word)].length ≤ (s.lane s.active).cle.coefLen 159 ∧ s.host.swapped = [] ∧
      1 ≠ (s.lane s.active).rd (CLE_CTX_STAT_BANK 159) ∧ (s.lane s.active).rd (CLE_CTX_STAT_REBASE_PEND 159) ≠ 1 ∧
      Ready s hb (.loadCoeff 159 0 3 [1]) ∧ 0 = (s.lane s.active).rd (CLE_CTX_STAT_BANK 159) ∧
      Ready s (hd 0) (.swapBank [159] true) ∧ (∀ c ∈ [159], (s.lane s.active).cle.rebEn c = true) ∧
      (∀ c ∈ [159], ∀ x ∈ s.host.swapped, x.1 ≠ c)) := by
  simp only [Ready]
  and_intros <;> decide +kernel

theorem test_load_program_hypotheses : Ready (law159 1) hb (.loadProgram img159) ∧
    ((law159 1).lane (law159 1).active).cle.loadCause img159 = none ∧ 159 ∈ imgCtxs img159 ∧
    ((law159 1).lane (law159 1).active).rd (CLE_CTX_CFG_EN 159) = 1 ∧ (∀ c ∈ imgCtxs img159, (run.lane run.active).rd (CLE_CTX_CFG_EN c) ≠ 1) := by
  simp only [Ready]
  and_intros <;> decide +kernel

theorem test_law_command_hypotheses :
    Ready run hb (.loadCoeff 159 1 0 [1]) ∧ (run.lane run.active).cle.coefLen 159 < 0 + [(1 : Word)].length ∧
    Ready run (hd 0) (.swapBank [159] true) ∧ (run.lane run.active).cle.rebEn 159 = false ∧ run.host.swapped = [] ∧
    (let s := run.modHost fun x => { x with swapped := [(159, false)] }
     Ready s (hd 0) (.swapBank [159] false) ∧ ∃ x ∈ s.host.swapped, x.1 = 159) ∧
    Ready run hb (.loadProgram (img false [])) ∧ ((run.lane run.active).cle.loadCause (img false [])).isSome = true ∧
    Ready run hb (.loadProgram (img true [])) ∧ (run.lane run.active).cle.loadCause (img true []) = none ∧
    Ready run hb (.schedWrite 4095 [⟨0, 0, 0⟩]) ∧ entryBad (run.lane run.active).asc.nInForce ⟨0, 0, 0⟩ = false ∧
    (entryBad (run.lane run.active).asc.nInForce ⟨0, 0xFFFFFFFF, 0⟩ = true ∧ Ready run hb (.schedWrite 4095 [⟨0, 0xFFFFFFFF, 0⟩])) ∧
    Ready run hb (.readSnapshot 7 1 31) ∧ 31 < run.snapLen 7 ∧ Ready run hb (.readSnapshot 7 1 1024) ∧ run.snapLen 7 ≤ 1024 ∧
    run.host.snaps.getD 7 none = none ∧ Ready run hb (.readSnapshot 7 0 1024) ∧ Ready run (hd 0) .recArm ∧
    (run.lane run.active).windowSize ≤ 2 ^ 23 ∧ (run.lane run.active).rd REC_STAT_STATE = 0 ∧
    ((inA run fun l => l.wr REC_STAT_STATE 2).lane .a).rd REC_STAT_STATE ≠ 0 ∧ Ready run (hd 0) .recStop ∧
    Ready run (hd 0) (.rakeStart 1) ∧ Ready run (hd 0) (.injectStart (inj 1)) ∧ run.injectOk (inj 1) = false ∧
    (let s := inA (threads 2) fun l => l.wr (RAKE_INJ_LIM_LIM 15) 1
     Ready s (hd 0) (.injectStart (inj 1)) ∧ s.injectOk (inj 1) = true ∧ ¬ absent s (inj 1).thrMask ∧
      (∀ t ∈ s.maskOrAll (inj 1).thrMask.toNat, s.thread t = 2) ∧ (s.lane s.active).injecting 15 = false) ∧
    (let s := inA run fun l => l.wr (RAKE_INJ_LIM_LIM 15) 1
     s.injectOk (inj 1) = true ∧ ∃ t ∈ s.maskOrAll (inj 1).thrMask.toNat, s.thread t ≠ 2) := by
  simp only [Ready, absent, named]
  and_intros <;> decide +kernel

theorem test_fault_command_hypotheses :
    Ready (absent7 run) (hd 0) (.clearFault 0x80 0xF true) ∧ absent (absent7 run) 0x80 ∧ ¬ absent run 0x80 ∧ run.faults.classL = false ∧
    (let s := run.cause 0x05 2 .module 0 none false
     Ready s (hd 0) (.clearFault 0x80 0xF true) ∧ s.faults.classL = true) ∧
    run.clearable .module = none ∧ (run.cause 0x06 1 .module 0 none false).clearable .module = some false ∧
    ({ run.cause 0x06 1 .module 0 none false with now := 4000000 }).clearable .module = some true ∧
    (let s := { run.cause 0x05 2 .module 0 none false with now := 4000000 }
     Ready s (hd 18) (.lockoutReset s.faults.lockTag) ∧ s.lockoutStatus = 0 ∧ s.faults.classL = true ∧
      s.faults.lockTag + 1 ≠ s.faults.lockTag) ∧
    (placed run).stageCheck (cmdOf run hb (.journalRead 0 16383 (16 + 64 * 16383))) = none ∧
    (placed run).stageCheck (cmdOf run hb (.attest (List.replicate 32 0) 0 3853)) = none ∧
    run.sec.identity = true ∧ run.attWaiting < 4 ∧
    4 ≤ (run.modSec fun x => { x with queue := List.replicate 5 (.sign (cmdOf run hb .nop) []) }).attWaiting ∧
    run.rd (slotFld (4 - 1) (run.rd (SEC_SLOT_IN_FORCE (4 - 1)))) ≠ 2 := by
  simp only [Ready, absent, named]
  and_intros <;> decide +kernel

/-! ### Witnesses: staging, rings, register rows -/

/-- A command of the HOST port. -/
def aCmd (h : Hdr) (c : HostCmd) : Cmd := cmdOf run h c
theorem test_staging_hypotheses :
    needVersion (hd 0) (.groupStart 1 0) ≠ (0, 0) ∧
    verHas (w0.cmdVersion (aCmd (hd 0) (.groupStart 1 0))) 1 1 = false ∧ needVersion (hd 0) .nop = (0, 0) ∧
    verHas (run.cmdVersion (aCmd (hd 0) (.groupStart 1 0))) 1 1 = true ∧ (authCheck 16 (.loadProgram (img true []))).isSome = true ∧
    authCheck 0 (.loadProgram (img true [])) = none ∧ readsBuffer (hd 0) (.loadProgram (img true [])) = true ∧
    readsBuffer (hd 0) .nop = false ∧ (hd 0).data ≠ .timeout ∧ (hd 0).data ≠ .error ∧
    (run.wr SYS_STATE_CHECK_FAIL 1).rd SYS_STATE_CHECK_FAIL = 1 ∧ run.rd SYS_STATE_CHECK_FAIL ≠ 1 ∧ w0.mod.phase ≠ .run ∧
    (run.wr LANE_STAT_HOLD 1).hold = true ∧ ((placed run).stageCheck (aCmd { hd 0 with rsvd := true } (.arm 1))).isSome = true := by
  decide +kernel

/-- SQ 15 and CQ 15 enabled with 16 entries, the SQ's tail and head, the CQ's entries in use. -/
def queues (head tail used : Nat) : State :=
  let s := (((((run.wr (HQ_SQ_CFG_EN 15) 1).wr (HQ_SQ_CFG_DEPTH 15) 4).wr (HQ_SQ_CFG_CQ 15) 15).wr (HQ_CQ_CFG_EN 15) 1).wr
    (HQ_CQ_CFG_DEPTH 15) 4).wr (HQ_SQ_STAT_HEAD 15) head
  (s.wr (HQ_CQ_STAT_TAIL 15) used).modHost fun h => { h with sqTail := h.sqTail.set 15 tail }
theorem test_doorbell_hypotheses : run.rd (HQ_SQ_CFG_EN 15) ≠ 1 ∧
    (let s := queues 0 0 5
     s.rd (HQ_SQ_CFG_EN 15) = 1 ∧ s.rd (HQ_SQ_STAT_FAULT 15) ≠ 1 ∧ s.rd (HQ_SQ_CFG_DEPTH 15) = 4 ∧
      (15 < 2 ^ 4 ∧ dist 4 (s.rd (HQ_SQ_STAT_HEAD 15)) (s.host.sqTail.getD 15 0) + dist 4 (s.host.sqTail.getD 15 0) 15 < 2 ^ 4) ∧
      2 ^ 4 ≤ 16 ∧ s.rd (HQ_CQ_CFG_EN 15) = 1 ∧ s.rd (HQ_CQ_STAT_FAULT 15) ≠ 1 ∧
      dist 4 (s.host.cqHead.getD 15 0) 4 < s.cqUsed 15 ∧ dist 4 (s.host.cqHead.getD 15 0) 5 = s.cqUsed 15 ∧
      s.cqUsed 15 < dist 4 (s.host.cqHead.getD 15 0) 6) ∧
    2 ^ 4 ≤ dist 4 ((queues 1 0 0).rd (HQ_SQ_STAT_HEAD 15)) ((queues 1 0 0).host.sqTail.getD 15 0) +
      dist 4 ((queues 1 0 0).host.sqTail.getD 15 0) 1 ∧
    run.rd (HQ_CQ_CFG_EN 15) ≠ 1 := by
  decide +kernel

theorem test_queue_enable_hypotheses : run.anyQueue = false ∧ (queues 0 0 0).anyQueue = true ∧ (0x80000001 : Word).toNat / 2 ^ 31 = 1 ∧
    (1 : Word).toNat / 2 ^ 31 = 0 ∧ negotiated (3, 0) (3, 5) = none ∧ (negotiated (1, 0) (2, 3)).isSome = true ∧
    ((queues 0 0 0).regs.get (cfgOff .sq 15)).getLsbD 31 = true ∧ (run.regs.get (cfgOff .sq 15)).getLsbD 31 = false ∧
    (let v : Word := 0x8F03C004
     let w := (queues 0 0 0).regs.get (cfgOff .sq 15)
     v &&& 0x0FFFC00F = w &&& 0x0FFFC00F ∧ (0x8E03C004 : Word) &&& 0x0FFFC00F ≠ w &&& 0x0FFFC00F ∧ v.getLsbD 31 = true ∧
      ((run.wr HQ_CFG_IF_EN 1).wr (HQ_CQ_CFG_EN 15) 1).mayEnable .sq 15 v = true ∧ run.mayEnable .sq 15 v = false) := by
  and_intros <;> decide +kernel

/-- A ring command that waits for its data, and a ring 3 with its buffers. -/
def waiting (group : Bool) : Cmd := { aCmd { hd 15 with group := group, commitId := 1 } .nop with tag := 127, staged := false }
def ring3 (posted : List PostedBuf) (b : Option OpenBuf) (st : List StrRec) : State :=
  ((run.wr (HQ_STR_CFG_EN 3) 1).wr (HQ_STR_CFG_DEPTH 3) 4).modHost fun h =>
    { h with rings := h.rings.set 3 { tail := 15, posted := posted, open_ := b, store := st, lost := none } }
def rec60 (n : Nat) : StrRec := { type := 1, source := 0, tally := 0, payload := List.replicate n 0 }
def buf0 (used : Nat) : OpenBuf := { buf := { addr := 0, len := 4096 }, used := used, recs := 1, since := 0, gap := false }
theorem test_ring_hypotheses : (∀ q < 16, run.mayFetch q = false) ∧ run.host.turn < 16 ∧ run.nextSq = none ∧
    (queues 0 1 0).mayFetch 15 = true ∧ (queues 0 1 0).nextSq = some 15 ∧ 15 ≠ (queues 0 1 0).host.turn ∧
    (queues 0 1 0).freeTagIn 0 128 = some 0 ∧
    (∀ c ∈ run.host.cmds, ¬ (c.tag = 127 ∧ 127 < 128 ∧ c.staged = false)) ∧
    (run.modHost fun h => { h with cmds := [waiting false] }).host.cmds.find? (fun c => c.tag = 127 && c.tag < 128 && !c.staged) =
      some (waiting false) ∧
    (∀ u ∈ run.sqUnits 15, u.closed = true) ∧
    (let s := (run.modHost fun h => { h with cmds := [waiting true] })
     ((s.sqUnits 15).find? fun x => !x.closed) = some { cmds := [waiting true], closed := false } ∧
      [waiting true].head? = some (waiting true)) ∧
    run.rd (HQ_STR_CFG_EN 3) ≠ 1 ∧ 2 ^ (ring3 [] none []).rd (HQ_STR_CFG_DEPTH 3) ≤ 16 ∧
    ((ring3 [] none []).rd (HQ_STR_CFG_EN 3) = 1 ∧ 0 < 2 ^ (ring3 [] none []).rd (HQ_STR_CFG_DEPTH 3) ∧
      PostedBuf.ok { addr := 0x1000, len := 4096 } = true ∧ PostedBuf.ok { addr := 0x1000, len := 4095 } = false ∧
      dist ((ring3 [] none []).rd (HQ_STR_CFG_DEPTH 3)) ((ring3 [] none []).host.rings.getD 3 StrRing.reset).tail 0 = 1) ∧
    ((ring3 [] none []).ring 3).store = [] ∧
    (let s := ring3 [] (some (buf0 4000)) [rec60 16]
     (s.ring 3).store = rec60 16 :: [] ∧ (s.ring 3).open_ = some (buf0 4000) ∧ (buf0 4000).used + (rec60 16).bytes ≤ (buf0 4000).buf.len) ∧
    (buf0 4090).buf.len < (buf0 4090).used + (rec60 16).bytes ∧ ((ring3 [] none []).ring 3).open_ = none := by
  decide +kernel

theorem test_register_row_hypotheses : w0.mod.phase = .boot ∧ run.mod.phase ≠ .boot ∧ coreLane .coreA = some run.active ∧
    coreLane .coreB = some .b ∧ LaneId.b ≠ run.active ∧ needsMore FIO_DO_OUT = true ∧ needsMore TRAJ_PRESET_SEL = true ∧
    needsMore SYS_CTRL = true ∧ needsMore GL_RENEG = false ∧ needsMore (ASC_S_STEP 3) = false ∧ Port.farmA ≠ .host ∧
    Port.farmA ≠ .service ∧ run.rd SYS_STATE_CHECK_FAIL ≠ 1 ∧ (run.wr SYS_STATE_CHECK_FAIL 1).rd SYS_STATE_CHECK_FAIL = 1 := by
  decide +kernel

/-- SQ 15 behind its head, and CQ 15 with five entries. -/
theorem test_ordinary_row_hypotheses :
    (let s := queues 3 7 5
     s.rd (HQ_SQ_CFG_EN 15) = 1 ∧ s.rd (HQ_SQ_STAT_FAULT 15) = 0 ∧ s.rd (HQ_SQ_CFG_DEPTH 15) = 4 ∧ s.rd (HQ_SQ_STAT_HEAD 15) ≤ s.host.sqTail.getD 15 0 ∧
      s.host.sqTail.getD 15 0 ≤ 15 ∧ s.rd (HQ_CQ_CFG_EN 15) = 1 ∧ s.rd (HQ_CQ_STAT_FAULT 15) = 0 ∧ s.rd (HQ_CQ_CFG_DEPTH 15) = 4 ∧
      s.host.cqHead.getD 15 0 ≤ 4 ∧ 4 < s.rd (HQ_CQ_STAT_TAIL 15) ∧ s.rd (HQ_CQ_STAT_TAIL 15) < 2 ^ 4) ∧
    (∀ v < 32, (run.vec v).count = 0) ∧
    (let s := { run with eic := { run.eic with vecs := updAt run.eic.vecs 31 fun x => { x with count := 1 } } }
     s.eic.vecs.length = 32 ∧ 0 < (s.vec 31).count ∧ ∀ x < 32, x ≠ 31 → (s.vec x).count = 0) ∧
    run.anyQueue = false ∧ (0x7FFFFFFF : Word).toNat < 2 ^ 31 ∧ (0x7FFFFFFF : Word).toNat % 65536 ≠ 0 ∧
    (run.wr HQ_CFG_IF_EN 1).rd HQ_CFG_IF_EN = 1 ∧ (run.regs.get (HQ_CQ_CFG 7)).getLsbD 31 = false := by
  decide +kernel

theorem test_commit_hypotheses : run.followsSrc .a 3 = false ∧ run.followsSrc .b 3 = false ∧
    (let s := (run.wr GRP_STAT_ROLE 2).bothLanes fun l => l.wr ASC_FRAME_STAT_SRC_IN_FORCE 3
     s.followsSrc .a 3 = true ∧ s.followsSrc .b 3 = true) ∧
    (let s := { late with clock := { late.clock with nAt := 4996001 } }
     s.clock.nAt ≠ 0 ∧ s.now < s.clock.nAt + 4000) ∧
    ({ late with clock := { late.clock with nAt := 4996000 } }).clock.nAt + 4000 ≤ late.now := by
  decide +kernel

theorem test_view_hypotheses :
    (let s := run.wr SYS_STATE_STATE 8
     s.viewStatus .b PWR_WDT_SVC 0 = 0 ∧ s.viewStatus .b 0 0 ≠ 0) ∧ run.rd SYS_STATE_STATE ≠ 8 ∧ 0x100000 ≤ 0x100000 ∧ 0xFFFFC % 4 = 0 ∧
    0xFFFF8 % 8 = 0 ∧ 0xFFFFE % 4 ≠ 0 := by
  and_intros <;> decide +kernel

/-! ### Witnesses: security, power, resets, start-up -/

/-- A package that passes every check but those of its type. -/
def pkgFor (dev : BitVec 128) (type : Nat) (c : PkgContent) : Package :=
  { layoutOk := true, type := type, verMaj := 0, verMin := 0, svn := 128, device := dev, len := 1, hash := 0, keyIdx := 15,
    keyUsage := 0xFFFF, rootOk := true, keySigOk := true, pkgSigOk := true, hashOk := true, content := c }
/-- The engine has an operation. -/
def engine (o : EngOp) : State := run.modSec fun x => { x with queue := [o] }
theorem checkStep_zero (s : State) (type : Nat) (c : PkgContent) (dev : BitVec 128) (d : dev = s.deviceId ∨ (dev = 0 ∧ type < 7))
    (k : bitAt (s.rd SEC_REVOKE_KEY) 15 = false) (u : bitAt 0xFFFF type = true) (n : s.svnFloor type ≤ 128)
    (o : s.ownChecks (pkgFor dev type c) = true) : s.checkStep type (pkgFor dev type c) = 0 := by
  have e : s.checkStep8 type (pkgFor dev type c) = 0 := by
    have n' : ¬ 128 < s.svnFloor type := by omega
    rcases d with d | ⟨d, t⟩
    · simp [State.checkStep8, pkgFor, u, k, d, n']
    · simp [State.checkStep8, pkgFor, u, k, d, n']
      omega
  simp [State.checkStep, e, o]
/-- The engine with a check, and its end. -/
def checking (type : Nat) (pkg : Package) : State := engine (.check (aCmd hb .nop) type 1 pkg)
def checked (type : Nat) (pkg : Package) : State := (checking type pkg).engineNext (960000 + 400000 * pkg.len / 2 ^ 20)
/-- A firmware package for every device, and a debug token of a device. -/
def fw : Package := pkgFor 0 2 (.firmware 1)
def token (s : State) (minutes : Nat) : Package := pkgFor s.deviceId 8 (.debugToken s.nonce 0xF minutes)
theorem test_package_check_hypotheses :
    (checking 2 fw).sec.queue = .check (aCmd hb .nop) 2 1 fw :: [] ∧ run.sec.queue = [] ∧
    (checked 2 fw).checkStep 2 fw = 0 ∧ (checked 2 { fw with layoutOk := false }).checkStep 2 { fw with layoutOk := false } ≠ 0 ∧
    run.sec.slotA.length = 4 ∧ run.sec.slotB.length = 4 ∧ run.sec.tokenEnd = none ∧
    (run.modSec fun x => { x with tokenEnd := some 9 }).sec.tokenEnd = some 9 ∧ run.allOff = true ∧ (threads 1).allOff = false := by
  refine ⟨by decide +kernel, by decide +kernel, checkStep_zero _ _ _ _ (Or.inr ⟨rfl, by decide⟩) (by decide +kernel) (by decide +kernel)
    (by decide +kernel) (by decide +kernel), ?_⟩
  and_intros <;> decide +kernel

theorem test_debug_token_hypotheses : run.checkStep 8 (token run 1) = 0 ∧ run.checkStep 8 (token run 1440) = 0 := by
  constructor <;> refine checkStep_zero _ _ _ _ (Or.inl rfl) (by decide +kernel) (by decide +kernel) (by decide +kernel) ?_ <;>
    simp [State.ownChecks, pkgFor]

theorem test_slot_write_hypotheses :
    (let w : SlotWrite := { cmd := none, type := 4, pkg := fw, until_ := 5 }
     let s := run.modSec fun x => { x with writing := [w] }
     s.sec.writing = [w] ∧ s.now < w.until_ ∧ w.until_ ≤ late.now ∧ w.cmd = none) ∧
    (let w : SlotWrite := { cmd := some (aCmd hb .nop), type := 4, pkg := fw, until_ := 5 }
     (late.modSec fun x => { x with writing := [w] }).sec.writing = [w]) := by
  decide +kernel

def netFrame : NetFrame :=
  { port := .service, etype := 0, verMaj := 2, verMin := 3, xid := 0, src := 1, bytes := 1 :: List.replicate 63 0, buf := .words [] }
def netCmd : Cmd := { aCmd { hd 18 with dataAddr := 4 } (.loadProgram (img true [])) with tag := 160, staged := false, xid := 9 }
theorem test_network_hypotheses :
    (engine (.sign (aCmd hb .nop) [])).sec.queue = .sign (aCmd hb .nop) [] :: [] ∧ (run.wr SEC_NET_CFG_PORT_EN 0).rd SEC_NET_CFG_PORT_EN / 2 ^ 2 % 2 = 0 ∧
    (let s := (run.wr SEC_NET_CFG_PORT_EN 4).wr SEC_NET_CFG_ETYPE 0
     s.rd SEC_NET_CFG_PORT_EN / 2 ^ NetPort.num netFrame.port % 2 = 1 ∧ netFrame.etype.toNat = s.rd SEC_NET_CFG_ETYPE ∧
      s.freeTagIn (128 + 16 * NetPort.num netFrame.port) 16 = some 160) ∧
    (run.modHost fun h => { h with cmds := (List.range 16).map fun k => { netCmd with tag := 160 + k } }).freeTagIn
      (128 + 16 * NetPort.num netFrame.port) 16 = none ∧
    netVersionOk netFrame.verMaj netFrame.verMin = true ∧ netVersionOk 9 0 = false ∧ (descAt 18 netFrame.bytes netFrame.buf).2 = .nop ∧
    readsBuffer (descAt 18 netFrame.bytes netFrame.buf).1 (descAt 18 netFrame.bytes netFrame.buf).2 = false ∧
    readsBuffer netCmd.hdr netCmd.cmd = true ∧ noData netCmd.hdr = false ∧ run.netWaiting .service 9 = none ∧
    (run.modHost fun h => { h with cmds := [netCmd] }).netWaiting .service 9 = some netCmd := by
  and_intros <;> decide +kernel

/-- The power supervisor of a running module changed. -/
def power (f : Power → Power) : State := late.modPower f
theorem test_supply_hypotheses : late.power.pgood = true ∧ late.power.inReset = false ∧ late.power.shelved = false ∧
    late.power.shutdown = none ∧ (power fun p => { p with pgood := false }).power.pgood = false ∧
    (power fun p => { p with shutdown := some 8 }).power.shutdown = some 8 ∧ (power fun p => { p with inReset := true }).power.inReset = true ∧
    (power fun p => { p with shelved := true }).power.shelved = true ∧ late.power.warnSince = none ∧ late.power.warnRecAt = none ∧
    (power fun p => { p with warnSince := some 8, warnRecAt := some 4 }).power.warnSince = some 8 ∧ late.now ≤ 4 + 40000000 ∧
    late.causeActive 0x10 0 = false ∧ (late.cause 0x10 1 .module 0 none true).causeActive 0x10 0 = true := by
  decide +kernel

theorem test_reset_hypotheses : (power fun p => { p with bor := true }).power.bor = true ∧ (power fun p => { p with bor := true }).power.pgood = true ∧
    (power fun p => { p with bor := true, rstLowAt := some 8 }).power.rstLowAt ≠ none ∧ late.power.bor = false ∧
    late.power.rstLowAt = none ∧ (power fun p => { p with rstLowAt := some 8, inReset := true }).power.rstLowAt = some 8 ∧
    (power fun p => { p with rstIgnore := true }).power.rstIgnore = true ∧ late.power.rstIgnore = false ∧ late.power.stuck = false := by
  decide +kernel

/-- A module in CHECK, its self-tests passed, or the schedulers started. -/
def inCheck (tests : List (Option Bool)) (st : Bool) : State :=
  { w0 with mod := { w0.mod with phase := .check, selfTest := tests, started := st } }
theorem test_start_up_hypotheses : w0.mod.phase = .boot ∧ w0.power.inReset = false ∧ w0.power.shelved = false ∧ w0.power.pgood = true ∧
    w0.slotOk 0 0 = false ∧ w0.slotOk 0 1 = false ∧ w0.mod.phase ≠ .check ∧ (inCheck [none, none] false).mod.phase = .check ∧
    (inCheck [none, none] false).rd SYS_STATE_CHECK_FAIL ≠ 1 ∧ (inCheck [none, none] false).mod.selfTest.getD (LaneId.num .b) none = none ∧
    (inCheck [some true, some true] false).mod.selfTest = [some true, some true] ∧ (1 : Byte) ≠ w0.declaredIrolo ∧
    0 = w0.declaredIrolo ∧ (inCheck [some true, some true] true).grp.forming = false ∧
    ((inCheck [some true, some true] true).modGrp fun g => { g with forming := true }).grp.forming = true ∧ (inCheck [some true, some true] true).mod.started = true ∧ w0.mod.phase ≠ .run ∧ run.mod.phase = .run ∧
    (run.modMod fun m => { m with bootFailed := true }).mod.bootFailed = true := by
  decide +kernel

/-- A module in Doze, whose wake slot 15 watches kind 3. -/
def doze (exit : Option Nat) : State :=
  ((run.wr PWR_STAT_STATE 3).wr (EIC_WAKE_SEL_KIND 15) 3).modPower fun p => { p with exiting := exit }
theorem test_power_state_hypotheses : run.rd PWR_STAT_STATE ≠ 3 ∧ (doze none).rd PWR_STAT_STATE = 3 ∧ (doze none).wakes 3 0 15 = true ∧
    (∀ x < 15, (doze none).wakes 3 0 x = false) ∧ (doze none).power.wakeSlot = none ∧ (doze none).power.exiting = none ∧
    (doze (some 8)).power.exiting = some 8 ∧ (doze (some 8)).mod.phase = .run ∧ (doze (some 8)).laneState (LaneId.other (doze (some 8)).active) ≠ 0 ∧
    (let s := (doze (some 8)).wr LANE_STAT_STATE_B 0
     LaneId.b = LaneId.other s.active ∧ s.laneState .b = 0 ∧ true = decide (s.declaredIrolo = s.declaredIrolo) ∧
      false = decide (s.declaredIrolo + 1 = s.declaredIrolo)) ∧ (run.modPower fun p => { p with exiting := some 8 }).power.exiting = some 8 := by
  decide +kernel

/-! ### Witnesses: the block as a whole -/

theorem test_whole_block_hypotheses : w0.pending = [] ∧ w0.wf = true ∧ regDesc SYS_ID ≠ none ∧ SYS_ID ≠ ASC_S_INC 3 ∧
    (run.modSec fun x => { x with identity := false }).sec.identity = false := by
  decide +kernel
theorem test_a_step_exists : step w0 = .next (tick w0) := rfl

end Sys2Proof.Tests
end

section
/-! PROOFS. What a fault cause does, part by part, and the Sluice registers that it and an occurrence of a source leave alone. -/
namespace Sys2Proof.Machine

/-! ### Lists and single bits -/

theorem updAt_getD_self {α : Type} (l : List α) (i : Nat) (f : α → α) (d : α) (h : i < l.length) :
    (updAt l i f).getD i d = f (l.getD i d) := by
  induction l generalizing i with
  | nil => simp at h
  | cons a t ih =>
    cases i with
    | zero => rfl
    | succ i => simpa [updAt] using ih i (by simpa using h)

/-- A place replaced by a function of the element that stands there is that function applied at the place. -/
theorem updAt_getD {α : Type} (l : List α) (i : Nat) (f : α → α) (d : α) :
    updAt l i (fun _ => f (l.getD i d)) = updAt l i f := by
  induction l generalizing i with
  | nil => rfl
  | cons a t ih =>
    cases i with
    | zero => rfl
    | succ i => simpa [updAt] using ih i

/-- A single bit reads back what was written. -/
theorem State.rd_wr_bit (s : State) (off i v : Nat) (h : i < 32) : (s.wr ⟨off, i, i⟩ v).rd ⟨off, i, i⟩ = v % 2 := by
  rw [State.rd_wr _ _ _ (Nat.le_refl i) h]
  simp

/-- A run over a list keeps a field that every step keeps. -/
theorem State.rd_foldl {α : Type} (g : State → α → State) (x : Fld) (h : ∀ s a, (g s a).rd x = s.rd x) (l : List α)
    (s : State) : (l.foldl g s).rd x = s.rd x := foldl_keep (State.rd · x) g h l s

/-- A field of another register is left alone, for a written field given by its parts. -/
theorem State.rd_wr_mk (s : State) {off hi lo v : Nat} {x : Fld} (h : x.off ≠ off) : (s.wr ⟨off, hi, lo⟩ v).rd x = s.rd x :=
  State.rd_wr_off s v h

/-- Another field of the same register is left alone, for two fields given by their parts. -/
theorem State.rd_wr_other (s : State) {off hi lo v hi' lo' : Nat} (hh : hi < 32) (h' : lo' ≤ hi') (hh' : hi' < 32)
    (h : hi < lo' ∨ hi' < lo) : (s.wr ⟨off, hi, lo⟩ v).rd ⟨off, hi', lo'⟩ = s.rd ⟨off, hi', lo'⟩ :=
  State.rd_wr_bits s v rfl hh h' hh' h

/-- A choice between two states that agree on a field with a third. -/
theorem State.rd_ite_of {c : Prop} [Decidable c] {s t u : State} {x : Fld} (h1 : s.rd x = u.rd x) (h2 : t.rd x = u.rd x) :
    (if c then s else t).rd x = u.rd x := by split <;> assumption

/-! ### The registers that an occurrence writes -/

/-- The registers that an occurrence of a source writes: the pending bits, the vectors' configurations, and the logs of the 96
sources (R357, R360). -/
def occurReg (off : Nat) : Prop :=
  (0x4010 ≤ off ∧ off < 0x401C) ∨ (0x4200 ≤ off ∧ off < 0x4300) ∨ (0x4400 ≤ off ∧ off < 0x4580)

theorem occurReg_vecCfg {v : Nat} (hv : v < 32) : occurReg (EIC_VEC_CFG v) := by unfold occurReg EIC_VEC_CFG; omega

theorem occurReg_srcLog {src : Nat} (hs : src < 96) : occurReg (EIC_SRC_LOG src) := by unfold occurReg EIC_SRC_LOG; omega

theorem occurReg_pendBit {src : Nat} (hs : src < 96) : occurReg (pendBit src).off := by
  simp only [pendBit, srcBit, occurReg, EIC_PEND]; omega

theorem not_occurReg_levelBit {src : Nat} (hs : src < 96) : ¬ occurReg (levelBit src).off := by
  simp only [levelBit, srcBit, occurReg, EIC_LEVEL]; omega

theorem levelBit_off_ne_pendBit_off (src : Nat) : (levelBit src).off ≠ (pendBit src).off := by
  simp only [levelBit, pendBit, srcBit, EIC_LEVEL, EIC_PEND]; omega

theorem State.rd_sendVec (s : State) (v : Nat) {x : Fld} (hv : v < 32) (hx : ¬ occurReg x.off) :
    (s.sendVec v).rd x = s.rd x := by
  have h : x.off ≠ EIC_VEC_CFG v := fun e => hx (e ▸ occurReg_vecCfg hv)
  unfold State.sendVec
  dsimp only
  (repeat' split) <;> simp [State.setVec, State.rd_wr_mk _ h]

theorem State.rd_countVec (s : State) (v n : Nat) {x : Fld} (hv : v < 32) (hx : ¬ occurReg x.off) :
    (s.countVec v n).rd x = s.rd x := by
  unfold State.countVec
  dsimp only
  (repeat' split) <;> simp [State.rd_sendVec _ _ hv hx, State.setVec]

theorem State.rd_vecEvent (s : State) (src : Nat) {x : Fld} (hx : ¬ occurReg x.off) : (s.vecEvent src).rd x = s.rd x := by
  unfold State.vecEvent
  dsimp only
  split
  · rename_i h
    simp only [Bool.and_eq_true, decide_eq_true_eq] at h
    exact State.rd_countVec _ _ _ h.1 hx
  · rfl

theorem State.rd_occurHost (s : State) (src data : Nat) {x : Fld} (hs : src < 96) (hx : ¬ occurReg x.off) :
    (s.occurHost src data).rd x = s.rd x := by
  have hlog : x.off ≠ EIC_SRC_LOG src := fun e => hx (e ▸ occurReg_srcLog hs)
  have hpend : x.off ≠ (pendBit src).off := fun e => hx (e ▸ occurReg_pendBit hs)
  unfold State.occurHost
  rw [State.rd_vecEvent _ _ hx]
  split <;> simp [State.bump, State.rd_wr_mk _ hlog, State.rd_wr_off _ _ hpend]

theorem State.rd_raise (s : State) (src data : Nat) {x : Fld} (hs : src < 96) (hx : ¬ occurReg x.off) :
    (s.raise src data).rd x = s.rd x := by
  unfold State.raise
  rw [State.rd_occurHost _ _ _ hs hx, State.rd_bothLanes]

/-! ### Level sources -/

theorem State.rd_levelOn_level (s : State) (src data : Nat) (hs : src < 96) : (s.levelOn src data).rd (levelBit src) = 1 := by
  unfold State.levelOn
  split
  · rename_i h
    simpa [State.on] using h
  · rw [State.rd_raise _ _ _ hs (not_occurReg_levelBit hs), State.rd_wr_off _ _ (levelBit_off_ne_pendBit_off src)]
    exact State.rd_wr_bit _ _ _ _ (Nat.mod_lt _ (by decide))

theorem State.rd_levelOn (s : State) (src data : Nat) {x : Fld} (hs : src < 96) (hx : ¬ occurReg x.off)
    (hl : x.off ≠ (levelBit src).off) : (s.levelOn src data).rd x = s.rd x := by
  have hp : x.off ≠ (pendBit src).off := fun e => hx (e ▸ occurReg_pendBit hs)
  exact State.rd_ite_of rfl (by rw [State.rd_raise _ _ _ hs hx, State.rd_wr_off _ _ hp, State.rd_wr_off _ _ hl])

theorem State.rd_levelOff_level (s : State) (src : Nat) : (s.levelOff src).rd (levelBit src) = 0 := by
  unfold State.levelOff
  rw [State.rd_wr_off _ _ (levelBit_off_ne_pendBit_off src)]
  exact State.rd_wr_bit _ _ _ _ (Nat.mod_lt _ (by decide))

theorem State.rd_levelOff (s : State) (src : Nat) {x : Fld} (hp : x.off ≠ (pendBit src).off) (hl : x.off ≠ (levelBit src).off) :
    (s.levelOff src).rd x = s.rd x := by
  unfold State.levelOff
  rw [State.rd_wr_off _ _ hp, State.rd_wr_off _ _ hl, State.rd_bothLanes]

/-! ### The parts of a fault cause -/

/-- A cause noted: its journal record, the event FAULT, and its place among the recorded causes (R232, R233). -/
def State.recordCause (s : State) (code cls : Nat) (scope : Scope) (key : Nat) (leg : Option Nat) (active : Bool) : State :=
  ((s.journalAdd 0x02 code 0 ([BitVec.ofNat 8 code, BitVec.ofNat 8 cls] ++ scope.bytes ++ [BitVec.ofNat 8 (leg.getD 0x3F)])).raise
    21 (code + 256 * cls)).modFaults fun f =>
      { f with causes := f.causes.filter (fun x => !(x.code = code && x.scope = scope && x.key = key && x.cls = cls)) ++
                 [{ code := code, cls := cls, scope := scope, key := key, leg := leg, active := active, lastActive := s.now }],
               risen := (if cls = 2 then .module else scope) :: f.risen }

/-- What a cause does to its scope by its class, B or L (R231). -/
def State.classEffect (s : State) (code cls : Nat) (scope : Scope) (leg : Option Nat) : State :=
  if cls = 1 then (s.firstCause code scope leg).applyB scope else s.applyL code

/-- What a safety cause does beside (R277). -/
def State.safetyEffect (s : State) (code : Nat) : State :=
  if safetyCode code then
    (if (s.lane s.active).rd SAFE_STAT_CAUSE = 0 then s.bothLanes fun l => l.wr SAFE_STAT_CAUSE code else s).stoOn
  else s

/-- A cause of class B or L is recorded and takes its effect; the status, HOLD, the module state and the power state follow. -/
theorem State.cause_eq (s : State) {code cls : Nat} (scope : Scope) (key : Nat) (leg : Option Nat) (active : Bool)
    (h : cls = 1 ∨ cls = 2) :
    s.cause code cls scope key leg active =
      ((((((s.recordCause code cls scope key leg active).classEffect code cls scope leg).safetyEffect
        code).updCauseBits).endHoldByFault).updModule code).startExit none := by
  have hc : (decide (cls = 1) || decide (cls = 2)) = true := by simpa using h
  have hnow : ((s.journalAdd 0x02 code 0 ([BitVec.ofNat 8 code, BitVec.ofNat 8 cls] ++ scope.bytes ++
      [BitVec.ofNat 8 (leg.getD 0x3F)])).raise 21 (code + 256 * cls)).now = s.now := by simp
  unfold State.recordCause
  rw [← hnow]
  exact if_pos hc

/-- A cause of class E or W is only noted in the journal and by its event (R231). -/
theorem State.cause_eq_of_other (s : State) {code cls : Nat} (scope : Scope) (key : Nat) (leg : Option Nat) (active : Bool)
    (h : ¬ (cls = 1 ∨ cls = 2)) :
    s.cause code cls scope key leg active =
      (s.journalAdd 0x02 code 0 ([BitVec.ofNat 8 code, BitVec.ofNat 8 cls] ++ scope.bytes ++
        [BitVec.ofNat 8 (leg.getD 0x3F)])).raise 21 (code + 256 * cls) := by
  have hc : ¬ (decide (cls = 1) || decide (cls = 2)) = true := by simpa using h
  exact if_neg hc

/-! ### The registers that a fault cause writes -/

/-- The registers beside its own record that a fault cause writes: those of its event, the journal's, the module's and the
threads' states, HOLD and the power state (R31, R33, R37, R233, R390, R458). -/
def causeSideReg (off : Nat) : Prop :=
  occurReg off ∨ off = JRNL_STAT ∨ off = SYS_STATE ∨ off = SYS_THREAD_STATE ∨ off = LANE_STAT ∨ off = PWR_STAT

/-- The registers that hold the records of the fault causes (R233, R242). -/
def causeRecordReg (off : Nat) : Prop := off = SLC_FAULT_MOD ∨ off = SLC_LOCKOUT_STAT ∨ ∃ t, off = SLC_THR_FAULT t

section
variable {x : Fld} (hx : ¬ causeSideReg x.off)
include hx

theorem not_occurReg_of_not_causeSideReg : ¬ occurReg x.off := fun h => hx (.inl h)

theorem State.rd_journalAdd (s : State) (source code flags : Nat) (data : List Byte) :
    (s.journalAdd source code flags data).rd x = s.rd x := by
  have h : x.off ≠ JRNL_STAT := fun h => hx (by simp [causeSideReg, h])
  unfold State.journalAdd
  dsimp only
  split <;> simp [State.bumpSat, State.rd_wr_mk _ h]

theorem State.rd_setThread (s : State) (t code : Nat) : (s.setThread t code).rd x = s.rd x := by
  have h : x.off ≠ SYS_THREAD_STATE := fun h => hx (by simp [causeSideReg, h])
  exact State.rd_ite_of (by rw [State.rd_wr_off _ _ h, State.rd_modMod]) rfl

theorem State.rd_setThreads (s : State) (ts : List Nat) (code : Nat) : (s.setThreads ts code).rd x = s.rd x :=
  State.rd_foldl _ _ (fun s t => State.rd_setThread hx s t code) ts s

theorem State.rd_applyB (s : State) (scope : Scope) : (s.applyB scope).rd x = s.rd x := by
  cases scope with
  | thread t => rw [State.applyB, State.rd_setThreads hx]; simp [State.rd]
  | module => rw [State.applyB, State.rd_setThreads hx]; simp [State.rd]
  | aux n => rfl
  | link n => rfl

theorem State.rd_safeEvent (s : State) (old : Nat) : (s.safeEvent old).rd x = s.rd x :=
  State.rd_ite_of rfl (State.rd_raise _ _ _ (by decide) (not_occurReg_of_not_causeSideReg hx))

theorem State.rd_setSafe (s : State) (f : Fld) (v : Nat) : (s.setSafe f v).rd x = s.rd x := by
  unfold State.setSafe
  rw [State.rd_safeEvent hx, State.rd_bothLanes]

theorem State.rd_stoOn (s : State) : s.stoOn.rd x = s.rd x := by
  have h : s.stoOn.rd x = ((s.modFaults fun f => { f with sto := true }).setSafe SAFE_STAT_STO 1).rd x := by
    simp [State.stoOn, State.rd]
  rw [h, State.rd_setSafe hx, State.rd_modFaults]

theorem State.rd_safetyEffect (s : State) (code : Nat) : (s.safetyEffect code).rd x = s.rd x := by
  unfold State.safetyEffect
  (repeat' split) <;> simp [State.rd_stoOn hx]

theorem State.rd_recordCause (s : State) (code cls : Nat) (scope : Scope) (key : Nat) (leg : Option Nat) (active : Bool) :
    (s.recordCause code cls scope key leg active).rd x = s.rd x := by
  unfold State.recordCause
  rw [State.rd_modFaults, State.rd_raise _ _ _ (by decide) (not_occurReg_of_not_causeSideReg hx), State.rd_journalAdd hx]

theorem State.rd_updDegraded (s : State) : s.updDegraded.rd x = s.rd x := by
  refine State.rd_ite_of rfl ?_
  dsimp only
  rw [State.rd_setSafe hx]
  exact State.rd_ite_of (State.rd_modSafe _ _ _) rfl

theorem State.rd_noteModule (s : State) (old new cause : Nat) : (s.noteModule old new cause).rd x = s.rd x := by
  have h : x.off ≠ SYS_STATE := fun h => hx (by simp [causeSideReg, h])
  unfold State.noteModule
  dsimp only
  rw [State.rd_modMod, State.rd_journalAdd hx, State.rd_raise _ _ _ (by decide) (not_occurReg_of_not_causeSideReg hx),
    State.rd_wr_off _ _ h, State.rd_wr_off _ _ h]

theorem State.rd_raiseModule (s : State) (seq : Word) (new cause : Nat) : (s.raiseModule seq new cause).rd x = s.rd x := by
  have h : x.off ≠ SYS_STATE := fun h => hx (by simp [causeSideReg, h])
  have hlog : x.off ≠ EIC_SRC_LOG 20 := fun h => hx (.inl (h ▸ occurReg_srcLog (by decide)))
  unfold State.raiseModule
  dsimp only
  rw [State.rd_modJournal, State.rd_wr_off _ _ hlog, State.rd_wr_off _ _ h]

theorem State.rd_updModule (s : State) (cause : Nat) : (s.updModule cause).rd x = s.rd x := by
  unfold State.updModule
  dsimp only
  (repeat' split) <;> simp [State.rd_noteModule hx, State.rd_raiseModule hx, State.rd_updDegraded hx]

theorem State.rd_endHoldByFault (s : State) : s.endHoldByFault.rd x = s.rd x := by
  have h : x.off ≠ LANE_STAT := fun h => hx (by simp [causeSideReg, h])
  exact State.rd_ite_of (by rw [State.rd_modDuplex, State.rd_wr_off _ _ h]) rfl

theorem State.rd_startExit (s : State) (slot : Option Nat) : (s.startExit slot).rd x = s.rd x := by
  have h : x.off ≠ PWR_STAT := fun h => hx (by simp [causeSideReg, h])
  refine State.rd_ite_of rfl ?_
  dsimp only
  rw [State.rd_modPower, State.rd_wr_off _ _ h]
  exact State.rd_ite_of (State.rd_modMod _ _ _) rfl

section
variable (hr : ¬ causeRecordReg x.off)
include hr

omit hx in
theorem State.rd_firstCause (s : State) (code : Nat) (scope : Scope) (leg : Option Nat) :
    (s.firstCause code scope leg).rd x = s.rd x := by
  have hmod : x.off ≠ SLC_FAULT_MOD := fun h => hr (.inl h)
  have hthr : ∀ t, x.off ≠ SLC_THR_FAULT t := fun t h => hr (.inr (.inr ⟨t, h⟩))
  cases scope with
  | thread t => exact State.rd_ite_of (by simp [State.noteFirst, State.rd_wr_mk _ (hthr t)]) rfl
  | module => exact State.rd_ite_of (by simp [State.noteFirst, State.rd_wr_mk _ hmod]) rfl
  | aux n => rfl
  | link n => rfl

omit hx in
theorem State.rd_updCauseBits (s : State) : s.updCauseBits.rd x = s.rd x := by
  have hmod : x.off ≠ SLC_FAULT_MOD := fun h => hr (.inl h)
  have hlock : x.off ≠ SLC_LOCKOUT_STAT := fun h => hr (.inr (.inl h))
  have hthr : ∀ t, x.off ≠ SLC_THR_FAULT t := fun t h => hr (.inr (.inr ⟨t, h⟩))
  unfold State.updCauseBits
  dsimp only
  rw [State.rd_wr_off _ _ hlock, State.rd_foldl, State.rd_wr_off _ _ hmod, State.rd_wr_off _ _ hmod]
  intro s t
  rw [State.rd_wr_off _ _ (hthr t), State.rd_wr_off _ _ (hthr t)]

theorem State.rd_applyL (s : State) (code : Nat) : (s.applyL code).rd x = s.rd x := by
  have hlock : x.off ≠ SLC_LOCKOUT_STAT := fun h => hr (.inr (.inl h))
  have hset : ∀ a, State.rd { s.blockAll.setThreads (numsWhere 8 s.present) 4 with aux := a } x = s.rd x := fun _ =>
    (State.rd_setThreads hx _ _ _).trans (by simp [State.rd])
  have hsos : ∀ u : State, (u.sosOff fun _ => false).rd x = u.rd x := fun u => by simp [State.rd]
  unfold State.applyL
  refine State.rd_ite_of (State.rd_ite_of ?_ ?_) ?_
  · rw [State.rd_wr_mk _ hlock, hsos]
    exact hset _
  · rw [hsos]
    exact hset _
  · dsimp only
    rw [State.noteFirst, State.rd_modFaults, State.rd_wr_mk _ hlock, State.rd_wr_mk _ hlock, State.rd_modFaults, hsos]
    exact hset _

theorem State.rd_classEffect (s : State) (code cls : Nat) (scope : Scope) (leg : Option Nat) :
    (s.classEffect code cls scope leg).rd x = s.rd x :=
  State.rd_ite_of (by rw [State.rd_applyB hx, State.rd_firstCause hr]) (State.rd_applyL hx hr s code)

/-- A fault cause leaves every other register alone. -/
theorem State.rd_cause (s : State) (code cls : Nat) (scope : Scope) (key : Nat) (leg : Option Nat) (active : Bool) :
    (s.cause code cls scope key leg active).rd x = s.rd x := by
  by_cases h : cls = 1 ∨ cls = 2
  · rw [State.cause_eq s scope key leg active h, State.rd_startExit hx, State.rd_updModule hx, State.rd_endHoldByFault hx,
      State.rd_updCauseBits hr, State.rd_safetyEffect hx, State.rd_classEffect hx hr, State.rd_recordCause hx]
  · rw [State.cause_eq_of_other s scope key leg active h,
      State.rd_raise _ _ _ (by decide) (not_occurReg_of_not_causeSideReg hx), State.rd_journalAdd hx]

theorem State.rd_maskCause (s : State) (code cls mask key : Nat) : (s.maskCause code cls mask key).rd x = s.rd x :=
  State.rd_ite_of (State.rd_cause hx hr _ _ _ _ _ _ _) (State.rd_foldl _ _ (fun _ _ => State.rd_cause hx hr _ _ _ _ _ _ _) _ _)

omit hx in
theorem State.rd_causeEnd (s : State) (code key : Nat) : (s.causeEnd code key).rd x = s.rd x := by
  unfold State.causeEnd
  rw [State.rd_updCauseBits hr, State.rd_modFaults]

end
end

end Sys2Proof.Machine
end

section
/-! PROOFS. The recorded causes, trip inputs and fast comparators: obligation O20. -/
namespace Sys2Proof.Machine

/-! ### The recorded causes -/

theorem State.blockLeg_causes (s : State) (leg : Nat) : (s.blockLeg leg).faults.causes = s.faults.causes := by
  unfold State.blockLeg
  split <;> simp

theorem State.blockThread_causes (s : State) (t : Nat) : (s.blockThread t).faults.causes = s.faults.causes :=
  foldl_keep (fun s => s.faults.causes) _ State.blockLeg_causes _ s

theorem State.blockAll_causes (s : State) : s.blockAll.faults.causes = s.faults.causes :=
  foldl_keep (fun s => s.faults.causes) _ State.blockThread_causes _ s

theorem State.applyB_causes (s : State) (scope : Scope) : (s.applyB scope).faults.causes = s.faults.causes := by
  cases scope <;> simp [State.applyB, State.blockThread_causes, State.blockAll_causes]

theorem State.applyL_causes (s : State) (code : Nat) : (s.applyL code).faults.causes = s.faults.causes := by
  unfold State.applyL
  dsimp only
  (repeat' split) <;> simp [State.noteFirst, State.blockAll_causes]

theorem State.firstCause_causes (s : State) (code : Nat) (scope : Scope) (leg : Option Nat) :
    (s.firstCause code scope leg).faults.causes = s.faults.causes := by
  unfold State.firstCause
  (repeat' split) <;> simp [State.noteFirst]

theorem State.stoOn_faults (s : State) : s.stoOn.faults = { s.faults with sto := true } := by
  simp [State.stoOn]

theorem State.applyL_classL (s : State) (code : Nat) : (s.applyL code).faults.classL = true := by
  unfold State.applyL
  dsimp only
  split
  · rename_i h
    split <;> simpa using h
  · simp [State.noteFirst]

theorem State.safetyEffect_causes (s : State) (code : Nat) : (s.safetyEffect code).faults.causes = s.faults.causes := by
  unfold State.safetyEffect
  (repeat' split) <;> simp [State.stoOn_faults]

theorem State.safetyEffect_classL (s : State) (code : Nat) : (s.safetyEffect code).faults.classL = s.faults.classL := by
  unfold State.safetyEffect
  (repeat' split) <;> simp [State.stoOn_faults]

theorem State.classEffect_causes (s : State) (code cls : Nat) (scope : Scope) (leg : Option Nat) :
    (s.classEffect code cls scope leg).faults.causes = s.faults.causes := by
  unfold State.classEffect
  split
  · rw [State.applyB_causes, State.firstCause_causes]
  · rw [State.applyL_causes]

/-- A cause of class B or L is recorded as it arises (R232). -/
theorem State.mem_cause_causes (s : State) {code cls : Nat} (scope : Scope) (key : Nat) (leg : Option Nat) (active : Bool)
    (h : cls = 1 ∨ cls = 2) :
    { code := code, cls := cls, scope := scope, key := key, leg := leg, active := active, lastActive := s.now : Cause } ∈
      (s.cause code cls scope key leg active).faults.causes := by
  rw [State.cause_eq s scope key leg active h]
  simp [State.safetyEffect_causes, State.classEffect_causes, State.recordCause]

/-- A cause whose condition stands is active once it has arisen (R232). -/
theorem State.causeActive_cause (s : State) {code cls : Nat} (scope : Scope) (key : Nat) (leg : Option Nat)
    (h : cls = 1 ∨ cls = 2) : (s.cause code cls scope key leg true).causeActive code key = true :=
  List.any_eq_true.mpr ⟨_, State.mem_cause_causes s scope key leg true h, by simp⟩

/-- No cause that has ended is active (R232). -/
theorem State.causeActive_causeEnd (s : State) (code key : Nat) : (s.causeEnd code key).causeActive code key = false := by
  simp only [State.causeActive, State.causeEnd, State.updCauseBits_frame, State.modFaults_faults, List.any_map, List.any_eq_false,
    Function.comp]
  intro c _
  split
  · simp
  · rename_i h
    exact h

/-- A cause of class L puts the part into lockout (R231). -/
theorem State.classL_cause (s : State) (code : Nat) (scope : Scope) (key : Nat) (leg : Option Nat) (active : Bool) :
    (s.cause code 2 scope key leg active).faults.classL = true := by
  rw [State.cause_eq s scope key leg active (.inr rfl)]
  simpa [State.safetyEffect_classL, State.classEffect] using State.applyL_classL _ code

/-! ### The module's class B record -/

theorem State.rd_updCauseBits_modB (s : State) : s.updCauseBits.rd SLC_FAULT_MOD_B_ACTIVE = s.rd SLC_FAULT_MOD_B_ACTIVE := by
  have hthr : ∀ t, SLC_FAULT_MOD_B_ACTIVE.off ≠ SLC_THR_FAULT t := fun t => by
    simp only [SLC_FAULT_MOD, SLC_THR_FAULT]; omega
  unfold State.updCauseBits
  dsimp only
  rw [State.rd_wr_mk _ (by decide), State.rd_foldl, State.rd_wr_other _ (by decide) (by decide) (by decide) (by decide),
    State.rd_wr_other _ (by decide) (by decide) (by decide) (by decide)]
  intro s t
  rw [State.rd_wr_mk _ (hthr t), State.rd_wr_mk _ (hthr t)]

/-- The first cause on the module sets its record (R233). -/
theorem State.rd_firstCause_modB (s : State) (code : Nat) (leg : Option Nat) :
    (s.firstCause code .module leg).rd SLC_FAULT_MOD_B_ACTIVE = 1 := by
  unfold State.firstCause
  dsimp only
  split
  · rw [State.noteFirst, State.rd_modFaults, State.rd_wr_other _ (by decide) (by decide) (by decide) (by decide)]
    exact State.rd_wr_bit _ _ _ _ (by decide)
  · rename_i h
    simp only [State.takesFirst, Bool.or_eq_true, Bool.not_eq_true', not_or, State.on, decide_eq_false_iff_not,
      Decidable.not_not] at h
    exact h.1

/-- A class B cause on the module stands in the module's record (R231, R233). -/
theorem State.rd_cause_modB (s : State) (code key : Nat) (leg : Option Nat) (active : Bool) :
    (s.cause code 1 .module key leg active).rd SLC_FAULT_MOD_B_ACTIVE = 1 := by
  have hx : ¬ causeSideReg SLC_FAULT_MOD_B_ACTIVE.off := by unfold causeSideReg occurReg; decide
  rw [State.cause_eq s .module key leg active (.inl rfl), State.rd_startExit hx, State.rd_updModule hx,
    State.rd_endHoldByFault hx, State.rd_updCauseBits_modB, State.rd_safetyEffect hx, State.classEffect, if_pos rfl,
    State.rd_applyB hx, State.rd_firstCause_modB]

/-! ### Trip inputs (R238) -/

theorem not_causeSideReg_tripStat : ¬ causeSideReg SLC_TRIP_STAT := by unfold causeSideReg occurReg; decide

theorem not_causeRecordReg_tripStat : ¬ causeRecordReg SLC_TRIP_STAT := by
  rintro (h | h | ⟨t, h⟩) <;> simp only [SLC_TRIP_STAT, SLC_FAULT_MOD, SLC_LOCKOUT_STAT, SLC_THR_FAULT] at h <;> omega

theorem not_causeSideReg_levelBit {src : Nat} (hs : src < 96) : ¬ causeSideReg (levelBit src).off := by
  rintro (h | h)
  · exact not_occurReg_levelBit hs h
  · simp only [levelBit, srcBit, EIC_LEVEL, JRNL_STAT, SYS_STATE, SYS_THREAD_STATE, LANE_STAT, PWR_STAT] at h
    omega

theorem not_causeRecordReg_levelBit {src : Nat} (hs : src < 96) : ¬ causeRecordReg (levelBit src).off := by
  rintro (h | h | ⟨t, h⟩) <;>
    simp only [levelBit, srcBit, EIC_LEVEL, SLC_FAULT_MOD, SLC_LOCKOUT_STAT, SLC_THR_FAULT] at h <;> omega

theorem tripStat_ne_levelBit_off {src : Nat} (hs : src < 96) : SLC_TRIP_STAT ≠ (levelBit src).off := by
  simp only [SLC_TRIP_STAT, levelBit, srcBit, EIC_LEVEL]; omega

theorem tripStat_ne_pendBit_off {src : Nat} (hs : src < 96) : SLC_TRIP_STAT ≠ (pendBit src).off := by
  simp only [SLC_TRIP_STAT, pendBit, srcBit, EIC_PEND]; omega

/-- A trip input that comes to the level of POL: LIVE and SEEN, its level source, and TRIP_IN by the class and threads in
force (R238). -/
theorem exec_tripInput_asserts (n : Nat) (lv : Bool) (s : State) (hen : s.rd (SLC_TRIP_CFG_EN n) = 1)
    (hpol : lv = true ↔ s.rd (SLC_TRIP_CFG_POL n) = 1) (hlive : (s.faults.trips.getD n TripIn.reset).live = false) :
    ∃ u : State, exec (.tripInput n lv) s =
      .next ((((u.wr ⟨SLC_TRIP_STAT, 8 + n, 8 + n⟩ 1).wr ⟨SLC_TRIP_STAT, n, n⟩ 1).levelOn (66 + n) 0).maskCause 0x06
        (classField (s.rd (SLC_TRIP_CFG_CLASS n))) (s.rd (SLC_TRIP_CFG_THR_MASK n)) n) := by
  have ha : (decide (s.rd (SLC_TRIP_CFG_EN n) = 1) && decide (lv = decide (s.rd (SLC_TRIP_CFG_POL n) = 1))) = true := by
    cases lv <;> simp_all
  have e : exec (.tripInput n lv) s = execTripInput n lv s := rfl
  simp only [e, execTripInput, State.on, State.rd_modFaults, State.modFaults_faults, ha, hlive]
  exact ⟨_, rfl⟩

/-- A live trip input that leaves the level of POL, or is disabled: LIVE, its level source and its cause end (R238). -/
theorem exec_tripInput_ends (n : Nat) (lv : Bool) (s : State)
    (hpol : s.rd (SLC_TRIP_CFG_EN n) ≠ 1 ∨ ¬ (lv = true ↔ s.rd (SLC_TRIP_CFG_POL n) = 1))
    (hlive : (s.faults.trips.getD n TripIn.reset).live = true) :
    ∃ u : State, (∀ x, u.rd x = s.rd x) ∧ exec (.tripInput n lv) s =
      .next (((u.wr ⟨SLC_TRIP_STAT, 8 + n, 8 + n⟩ 0).levelOff (66 + n)).causeEnd 0x06 n) := by
  have ha : (decide (s.rd (SLC_TRIP_CFG_EN n) = 1) && decide (lv = decide (s.rd (SLC_TRIP_CFG_POL n) = 1))) = false := by
    rcases hpol with h | h
    · simp [h]
    · cases lv <;> simp_all
  have e : exec (.tripInput n lv) s = execTripInput n lv s := rfl
  simp only [e, execTripInput, State.on, State.rd_modFaults, State.modFaults_faults, ha, hlive]
  refine ⟨_, ?_, rfl⟩
  exact fun _ => rfl

/-- What a trip input that asserts leaves in the Sluice's registers. -/
theorem State.rd_asserted_trip (u : State) {n : Nat} (cls mask : Nat) (hn : n < 8) :
    let t := (((u.wr ⟨SLC_TRIP_STAT, 8 + n, 8 + n⟩ 1).wr ⟨SLC_TRIP_STAT, n, n⟩ 1).levelOn (66 + n) 0).maskCause 0x06 cls mask n
    t.rd ⟨SLC_TRIP_STAT, 8 + n, 8 + n⟩ = 1 ∧ t.rd ⟨SLC_TRIP_STAT, n, n⟩ = 1 ∧ t.rd (levelBit (66 + n)) = 1 := by
  have hs : 66 + n < 96 := by omega
  have hstat : ∀ (v : State) (b : Nat),
      ((v.levelOn (66 + n) 0).maskCause 0x06 cls mask n).rd ⟨SLC_TRIP_STAT, b, b⟩ = v.rd ⟨SLC_TRIP_STAT, b, b⟩ := fun v b => by
    rw [State.rd_maskCause not_causeSideReg_tripStat not_causeRecordReg_tripStat, State.rd_levelOn _ _ _ hs
      (fun h => not_causeSideReg_tripStat (.inl h)) (tripStat_ne_levelBit_off hs)]
  refine ⟨?_, ?_, ?_⟩
  · rw [hstat, State.rd_wr_other _ (by omega) (Nat.le_refl _) (by omega) (by omega)]
    exact State.rd_wr_bit _ _ _ _ (by omega)
  · rw [hstat]
    exact State.rd_wr_bit _ _ _ _ (by omega)
  · rw [State.rd_maskCause (not_causeSideReg_levelBit hs) (not_causeRecordReg_levelBit hs)]
    exact State.rd_levelOn_level _ _ _ hs

/-- What a trip input that ends leaves in the Sluice's registers. -/
theorem State.rd_ended_trip (u : State) {n : Nat} (hn : n < 8) :
    let t := ((u.wr ⟨SLC_TRIP_STAT, 8 + n, 8 + n⟩ 0).levelOff (66 + n)).causeEnd 0x06 n
    t.rd ⟨SLC_TRIP_STAT, 8 + n, 8 + n⟩ = 0 ∧ t.rd ⟨SLC_TRIP_STAT, n, n⟩ = u.rd ⟨SLC_TRIP_STAT, n, n⟩ ∧
      t.rd (levelBit (66 + n)) = 0 := by
  have hs : 66 + n < 96 := by omega
  have hstat : ∀ (v : State) (b : Nat),
      ((v.levelOff (66 + n)).causeEnd 0x06 n).rd ⟨SLC_TRIP_STAT, b, b⟩ = v.rd ⟨SLC_TRIP_STAT, b, b⟩ := fun v b => by
    rw [State.rd_causeEnd not_causeRecordReg_tripStat, State.rd_levelOff _ _ (tripStat_ne_pendBit_off hs)
      (tripStat_ne_levelBit_off hs)]
  refine ⟨?_, ?_, ?_⟩
  · rw [hstat]
    exact State.rd_wr_bit _ _ _ _ (by omega)
  · rw [hstat, State.rd_wr_other _ (by omega) (Nat.le_refl _) (by omega) (by omega)]
  · rw [State.rd_causeEnd (not_causeRecordReg_levelBit hs)]
    exact State.rd_levelOff_level _ _

/-! ### Fast comparators (R93, R94) -/

theorem State.lane_modLane_rd (s : State) (i j : LaneId) (g : Lane → Lane) (x : Fld) (h : ∀ l, (g l).rd x = l.rd x) :
    ((s.modLane i g).lane j).rd x = (s.lane j).rd x := by
  by_cases e : j = i
  · subst e
    rw [State.lane_modLane, h]
  · rw [State.lane_modLane_ne _ _ e]

theorem State.active_modLane (s : State) (i : LaneId) (g : Lane → Lane) : (s.modLane i g).active = s.active := by
  simp [State.active, State.on]

/-- An enabled input bound to no leg, one of whose window comparators reports in a lane, trips the module (R93, R232). -/
theorem State.updFastCmp_module (s : State) (j : LaneId) (k : Nat) (hen : (s.lane s.active).rd (MEAS_FC_EN k) = 1)
    (hleg : 48 ≤ (s.lane s.active).rd (MEAS_FC_LEG k)) (hc : s.causeActive 0x04 k = false)
    (hout : ((s.lane j).fastCmp k).above = true ∨ ((s.lane j).fastCmp k).below = true) :
    s.updFastCmp k = s.cause 0x04 1 .module k none true := by
  have hleg' : ¬ (s.lane s.active).rd (MEAS_FC_LEG k) < 48 := by omega
  have hrep : ((s.laneA.fastCmp k).above || (s.laneA.fastCmp k).below || (s.laneB.fastCmp k).above ||
      (s.laneB.fastCmp k).below) = true := by
    cases j <;> simp only [State.lane] at hout <;> rcases hout with h | h <;> simp [h]
  simp [State.updFastCmp, Lane.on, hen, hleg', hc, hrep, State.blanked]

theorem exec_fastCmp (i : LaneId) (k : Nat) (v : Int) (s : State) :
    exec (.fastCmp (Claims.inLane i) k v) s = .next ((s.modLane i fun l => l.stepCmp k v).updFastCmp k) := by
  cases i <;> rfl

/-- The window comparator reports a voltage outside its window (R93). -/
theorem FastCmp.step_outside (c : FastCmp) {lo hi v : Int} (h : hi < v ∨ v < lo) :
    (c.step lo hi v).above = true ∨ (c.step lo hi v).below = true := by
  rcases h with h | h
  · left; simp [FastCmp.step, h]
  · right; simp [FastCmp.step, h]

theorem Lane.fastCmp_stepCmp (l : Lane) {k : Nat} (v : Int) (h : k < l.meas.cmps.length) :
    (l.stepCmp k v).fastCmp k = (l.fastCmp k).step (fcLevel (l.rd (MEAS_FC_LO k))) (fcLevel (l.rd (MEAS_FC_HI k))) v :=
  updAt_getD_self _ _ _ _ h

/-- A voltage outside the window of an enabled input bound to no leg trips the module (R93, R232). -/
theorem exec_fastCmp_outside (i : LaneId) (k : Nat) (v : Int) (s : State) (hen : (s.lane s.active).rd (MEAS_FC_EN k) = 1)
    (hleg : 48 ≤ (s.lane s.active).rd (MEAS_FC_LEG k)) (hk : k < (s.lane i).meas.cmps.length)
    (hc : s.causeActive 0x04 k = false)
    (hv : fcLevel ((s.lane i).rd (MEAS_FC_HI k)) < v ∨ v < fcLevel ((s.lane i).rd (MEAS_FC_LO k))) :
    exec (.fastCmp (Claims.inLane i) k v) s = .next ((s.modLane i fun l => l.stepCmp k v).cause 0x04 1 .module k none true) := by
  have hrd : ∀ x, ((s.modLane i fun l => l.stepCmp k v).lane s.active).rd x = (s.lane s.active).rd x := fun x =>
    State.lane_modLane_rd s i _ _ x fun _ => rfl
  rw [exec_fastCmp, State.updFastCmp_module _ i]
  · rwa [State.active_modLane, hrd]
  · rwa [State.active_modLane, hrd]
  · simpa [State.causeActive] using hc
  · rw [State.lane_modLane, Lane.fastCmp_stepCmp _ _ hk]
    exact FastCmp.step_outside _ hv

/-- Settles O20: each clause is the rule of its command, with the frames of the registers that a fault cause writes. -/
theorem tripsFollowTheirInputs : Obligations.TripsFollowTheirInputs := by
  unfold Obligations.TripsFollowTheirInputs
  refine ⟨?asserts, ?ends, ?outside, ?step, ?noneGone, ?nextGone, ?ackRises, ?ackFalls, ?ackLow, ?ackHigh⟩
  case asserts =>
    intro n lv s hn hen hpol hlive
    obtain ⟨u, hu⟩ := exec_tripInput_asserts n lv s hen hpol hlive
    obtain ⟨hl, hsn, hlv⟩ := u.rd_asserted_trip (classField (s.rd (SLC_TRIP_CFG_CLASS n))) (s.rd (SLC_TRIP_CFG_THR_MASK n)) hn
    refine ⟨_, hu, hl, hsn, hlv, fun hcls hmask => ?_, fun hcls hmask => ?_⟩
    · rw [hcls, hmask]
      exact ⟨State.causeActive_cause _ _ _ _ (.inl rfl), State.rd_cause_modB _ _ _ _ _⟩
    · rw [hcls, hmask]
      exact State.classL_cause _ _ _ _ _ _
  case ends =>
    intro n lv s hn hpol hlive
    obtain ⟨u, hrd, hu⟩ := exec_tripInput_ends n lv s hpol hlive
    obtain ⟨hl, hsn, hlv⟩ := u.rd_ended_trip hn
    exact ⟨_, hu, hl, hsn.trans (hrd _), hlv, State.causeActive_causeEnd _ _ _⟩
  case outside =>
    intro i k v s hen hleg hk hc hv
    exact ⟨_, rfl, exec_fastCmp_outside i k v s hen hleg hk hc hv⟩
  case step =>
    intro c lo hi v
    simp [FastCmp.step]
  case noneGone =>
    intro s h
    change execCauseGone s = _
    rw [execCauseGone, h]
  case nextGone =>
    intro t ts s h
    change execCauseGone s = _
    rw [execCauseGone, h]
  case ackRises => exact fun _ => rfl
  case ackFalls => exact fun _ => rfl
  case ackLow =>
    intro t0 s h
    change execAckLow s = _
    rw [execAckLow, h]
  case ackHigh =>
    intro s h
    change execAckLow s = _
    rw [execAckLow, h]

end Sys2Proof.Machine
end

section
/-! PROOFS. Conversions and filter windows: obligation O32. -/
namespace Sys2Proof.Machine

open Claims (inLane converting sampled)

/-! ### Commands of one lane -/

@[simp] theorem State.onLanes_inLane (s : State) (i : LaneId) (f : State → LaneId → State) :
    s.onLanes (inLane i) f = f s i := by cases i <;> rfl

/-! ### Channels and cores -/

/-- A channel set to a function of itself is that function applied to it. -/
theorem Lane.modChan_chan (l : Lane) (k : Nat) (f : Chan → Chan) : l.modChan k (fun _ => f (l.chan k)) = l.modChan k f := by
  simp only [Lane.modChan, Lane.modMeas, Lane.chan, updAt_getD]

theorem Lane.addSample_eq_sampled (l : Lane) (now u k : Nat) (x : ChanSample) :
    l.addSample now u k x = sampled l now u k x := by
  unfold Lane.addSample sampled
  split
  · exact l.modChan_chan k fun c => { c with samples := c.samples ++ [x] }
  · dsimp only
    split
    · exact l.modChan_chan k fun c => { c with samples := c.samples ++ [x], fill := c.fill + 1 }
    · exact l.modChan_chan k fun c => { c with
        samples := c.samples ++ [x], fill := 0,
        due := c.due ++ [{ cut := now + 1, ready := l.slotEnd now u k now + (if l.chFir k = 0 then 0 else 80 * u),
                           out := false }] }

theorem Lane.gained_eq (l : Lane) (k : Nat) (v : Int) : l.gained k v = v * l.rd (MEAS_CH_DEC_GAIN k) / 2 ^ 14 := by
  simp [Lane.gained, shr]

/-! ### The commands of the measurement chain in one lane -/

theorem exec_conversionDone_idle (i : LaneId) (m : Nat) (raw : BitVec 16) (s : State)
    (h : ((s.lane i).core m).chan = none ∨ ((s.lane i).core m).startAt = none) :
    exec (.conversionDone (inLane i) m raw) s = .next s := by
  change execConversionDone _ _ _ _ = _
  rw [execConversionDone, State.onLanes_inLane]
  dsimp only
  split
  · rename_i hc ht
    simp [hc, ht] at h
  · rfl

theorem exec_gridConversion_idle (i : LaneId) (k : Nat) (s : State)
    (h : 32 ≤ k ∨ (s.lane i).chMode k ≠ 1 ∨ s.converts k = false ∨ (s.lane i).popGrid s.now s.slotLen k = none) :
    exec (.gridConversion (inLane i) k) s = .next s := by
  change execGridConversion _ _ _ = _
  rw [execGridConversion, State.onLanes_inLane]
  split
  · rfl
  · rename_i hc
    simp only [Bool.or_eq_true, decide_eq_true_eq, Bool.not_eq_true', not_or, Bool.not_eq_false] at hc
    obtain ⟨⟨hm, hk⟩, hv⟩ := hc
    have hp : (s.lane i).popGrid s.now s.slotLen k = none := by simpa [hm, hk, hv] using h
    rw [hp]

/-- The next grid instant of a converting channel: its core takes it, or the sample before is taken again (R73, R79). -/
theorem exec_gridConversion_next (i : LaneId) (k t : Nat) (l : Lane) (s : State) (hk : k < 32) (hm : (s.lane i).chMode k = 1)
    (hv : s.converts k = true) (hp : (s.lane i).popGrid s.now s.slotLen k = some (t, l)) :
    ∃ u r, u = (s.setLane i l).passTo t ∧ r = (u.lane i).modChan k (fun c => { c with pairTurn := !c.pairTurn }) ∧
      exec (.gridConversion (inLane i) k) s = .next (u.setLane i (((u.lane i).gridCore u.doze u.now k).elim
        (sampled ((r.wr MEAS_STAT_RATE_OVER 1).bumpSat MEAS_STAT_CONV_DROP) u.now u.slotLen k
          { at_ := u.now, val := ((u.lane i).chan k).raw.toInt, late := false })
        (converting r · k false u.now))) := by
  refine ⟨_, _, rfl, rfl, ?_⟩
  change execGridConversion _ _ _ = _
  have hk' : ¬ 32 ≤ k := by omega
  rw [execGridConversion, State.onLanes_inLane]
  simp only [hm, hk', hv, hp, ← Lane.addSample_eq_sampled, State.modLane]
  cases (((s.setLane i l).passTo t).lane i).gridCore ((s.setLane i l).passTo t).doze ((s.setLane i l).passTo t).now k <;> rfl

theorem exec_sdclkEdge_idle (i : LaneId) (k : Nat) (rising bit : Bool) (s : State)
    (h : k < 32 ∨ (s.lane i).chMode k ≠ 1 ∨ s.converts k = false ∨ rising = (s.lane i).on (MEAS_CH_CFG_EDGE k) ∨
      s.nextClock i k = none) :
    exec (.sdclkEdge (inLane i) k ⟨rising, bit⟩) s = .next s := by
  change execSdclkEdge _ _ _ _ = _
  rw [execSdclkEdge, State.onLanes_inLane]
  dsimp only
  split
  · rfl
  · rename_i hc
    simp only [Bool.or_eq_true, decide_eq_true_eq, Bool.not_eq_true', not_or, Bool.not_eq_false] at hc
    obtain ⟨⟨⟨hk, hm⟩, hv⟩, he⟩ := hc
    have hn : s.nextClock i k = none := by simpa [hm, hk, hv, he] using h
    rw [hn]

/-- Settles O32: each clause is its command in one lane, where a sample that joins a channel is `sampled`. -/
theorem conversionsAndFilterWindows : Obligations.ConversionsAndFilterWindows := by
  unfold Obligations.ConversionsAndFilterWindows
  refine ⟨exec_conversionDone_idle, ?result, exec_gridConversion_idle, ?grid, exec_sdclkEdge_idle, ?edge, ?noWindow, ?window,
    ?trigger, ?noTrigger⟩
  case result =>
    intro i m k t raw s hc ht
    refine ⟨_, _, _, _, _, rfl, rfl, rfl, rfl, rfl, ?_⟩
    change execConversionDone _ _ _ _ = _
    rw [execConversionDone, State.onLanes_inLane]
    simp only [hc, ht, Lane.addSample_eq_sampled]
    rfl
  case grid =>
    intro i k t l s hk hm hv hp
    obtain ⟨u, r, hu, hr, e⟩ := exec_gridConversion_next i k t l s hk hm hv hp
    refine ⟨u, r, hu, hr, fun m hg => ?_, fun hg => ?_⟩
    · rw [e, hg, Option.elim_some]
    · rw [e, hg, Option.elim_none]
  case edge =>
    intro i k t rising bit s hk hm hv he hn
    refine ⟨_, _, rfl, rfl, ?_⟩
    have hk' : ¬ k < 32 := by omega
    change execSdclkEdge _ _ _ _ = _
    rw [execSdclkEdge, State.onLanes_inLane]
    simp only [hm, hk', hv, he, hn, Lane.addSample_eq_sampled]
    rfl
  case noWindow =>
    intro i k s hp
    change execFilterOutput _ _ _ = _
    rw [execFilterOutput, State.onLanes_inLane]
    simp only [hp]
  case window =>
    intro i k w l s hp
    refine ⟨_, _, _, _, rfl, rfl, rfl, rfl, fun hx => ?_, fun y b hx => ?_⟩
    all_goals
      change execFilterOutput _ _ _ = _
      rw [execFilterOutput, State.onLanes_inLane]
      simp only [hp, hx, Lane.gained_eq]
  case trigger =>
    intro i cg t x s hx
    change execConvTrigger _ _ _ _ = _
    rw [execConvTrigger, State.onLanes_inLane]
    simp only [hx]
  case noTrigger =>
    intro i cg t s h
    have hx : (s.lane i).pwm.trigs.find? (fun y => y.1 = cg && y.2.1 = t) = none := by
      simpa [List.find?_eq_none] using h
    change execConvTrigger _ _ _ _ = _
    rw [execConvTrigger, State.onLanes_inLane]
    simp only [hx]

end Sys2Proof.Machine
end

section
/-! PROOFS. Program words and the issue of an op, on which the statements about the Control Law Engine's ops rest. -/
namespace Sys2Proof.Machine

open Claims (inLane va vb clamped narrow clamps putD ran names issuedAt OpDoes DpDoes ResDoes WordDoes AccDoes PairBound)

/-! ### Program words (R103) -/

/-- The number that an op code and its operand fields spell, from OPC down to IMM (R103). -/
def fieldsNat (op : Nat) (w : CleWord) : Nat :=
  op * 2 ^ 58 + w.dst.toNat * 2 ^ 53 + w.sa.toNat * 2 ^ 48 + w.sb.toNat * 2 ^ 43 + w.acc.toNat * 2 ^ 41 +
    w.shift.toNat * 2 ^ 35 + b2n w.sat * 2 ^ 34 + w.mod.toNat * 2 ^ 32 + w.imm.toNat

theorem b2n_eq_toNat (b : Bool) : b2n b = b.toNat := by cases b <;> rfl

theorem toNat_bool_inj : ∀ {a b : Bool}, a.toNat = b.toNat → a = b := by decide

theorem toNat_eq_fieldsNat_opOf (x : DWord) : x.toNat = fieldsNat (opOf x).1 (opOf x).2 := by
  have hsat : b2n (x.getLsbD 34) = x.toNat / 2 ^ 34 % 2 := by rw [b2n_eq_toNat, BitVec.getLsbD, Nat.toNat_testBit]
  have hx := x.isLt
  simp only [fieldsNat, opOf, BitVec.extractLsb'_toNat, Nat.shiftRight_eq_div_pow, hsat]
  omega

theorem fieldsNat_inj {op op' : Nat} {w w' : CleWord} (h : fieldsNat op w = fieldsNat op' w') : (op, w) = (op', w') := by
  obtain ⟨dst, sa, sb, acc, shift, sat, mod, imm⟩ := w
  obtain ⟨dst', sa', sb', acc', shift', sat', mod', imm'⟩ := w'
  have hs := sat.toNat_lt
  have hs' := sat'.toNat_lt
  simp only [fieldsNat, b2n_eq_toNat] at h
  simp only [Prod.mk.injEq, CleWord.mk.injEq, BitVec.toNat_eq]
  refine ⟨?_, ?_, ?_, ?_, ?_, ?_, toNat_bool_inj ?_, ?_, ?_⟩ <;> omega

theorem opOf_eq_iff (x : DWord) (op : Nat) (w : CleWord) : opOf x = (op, w) ↔ x.toNat = fieldsNat op w := by
  rw [toNat_eq_fieldsNat_opOf x]
  exact ⟨fun h => by rw [h], fieldsNat_inj⟩

theorem toNat_append_eq_add {n m : Nat} (x : BitVec n) (y : BitVec m) : (x ++ y).toNat = x.toNat * 2 ^ m + y.toNat := by
  rw [BitVec.toNat_append, ← Nat.shiftLeft_add_eq_or_of_lt y.isLt, Nat.shiftLeft_eq]

theorem toNat_wordOf {op : Nat} (w : CleWord) (h : op < 64) : (wordOf op w).toNat = fieldsNat op w := by
  simp only [wordOf, toNat_append_eq_add, BitVec.toNat_ofNat, BitVec.toNat_ofBool, fieldsNat, b2n_eq_toNat]
  omega

theorem eq_wordOf_iff {op : Nat} (x : DWord) (w : CleWord) (h : op < 64) : x = wordOf op w ↔ opOf x = (op, w) := by
  rw [opOf_eq_iff, ← toNat_wordOf w h, BitVec.toNat_eq]

/-! ### The issue of an op (R98, R114) -/

theorem Lane.issues_eq_some {l : Lane} {dp : Dp} {op : Nat} {w : CleWord} {r : CtxRun} (hop : op < 64)
    (hr : (l.dp dp).run = some r) (hn : names l r op w) : l.issues dp op w = some r := by
  obtain ⟨hlib, hword⟩ := hn
  simp [Lane.issues, hr, hlib, (eq_wordOf_iff _ w hop).mpr hword]

theorem Lane.issues_eq_none {l : Lane} {dp : Dp} {op : Nat} {w : CleWord} (hop : op < 64)
    (h : ∀ r, (l.dp dp).run = some r → ¬ names l r op w) : l.issues dp op w = none := by
  simp only [Lane.issues, Option.filter_eq_none_iff, Bool.and_eq_true, Bool.not_eq_true', List.contains_eq_mem,
    decide_eq_false_iff_not, decide_eq_true_eq, eq_wordOf_iff _ w hop]
  exact h

theorem State.passTo_laneTicks (s : State) (r : CtxRun) : s.passTo (r.since + s.laneTicks r.cycles) = issuedAt s r := by
  simp [issuedAt, State.laneTicks, State.on]

@[simp] theorem State.setLane_setLane (s : State) (i : LaneId) (l m : Lane) : (s.setLane i l).setLane i m = s.setLane i m := by
  cases i <;> rfl

theorem Lane.modDp_dp (l : Lane) (dp : Dp) (f : DpState → DpState) : l.modDp dp (fun _ => f (l.dp dp)) = l.modDp dp f := by
  cases dp <;> rfl

section
variable {i : LaneId} {dp : Dp} {op : Nat} {w : CleWord} {r : CtxRun} {s : State} (hop : op < 64)
include hop

theorem State.cleOp_of_names (hr : ((s.lane i).dp dp).run = some r) (hn : names (s.lane i) r op w) (cyc : Nat)
    (f : State → LaneId → CtxRun → State) :
    s.cleOp (inLane i) dp op w cyc f = (f (issuedAt s r) i r).modLane i (ran dp cyc) := by
  rw [State.cleOp, State.onLanes_inLane]
  simp only [Lane.issues_eq_some hop hr hn, State.passTo_laneTicks]
  rfl

theorem State.cleOp_of_not_names (h : ∀ r, ((s.lane i).dp dp).run = some r → ¬ names (s.lane i) r op w) (cyc : Nat)
    (f : State → LaneId → CtxRun → State) : s.cleOp (inLane i) dp op w cyc f = s := by
  rw [State.cleOp, State.onLanes_inLane]
  simp only [Lane.issues_eq_none hop h]

/-- An op with an effect on its lane alone, where a run names it. -/
theorem State.cleOp_modLane_of_names (hr : ((s.lane i).dp dp).run = some r) (hn : names (s.lane i) r op w) (cyc : Nat)
    (f : State → CtxRun → Lane → Lane) :
    s.cleOp (inLane i) dp op w cyc (fun s i r => s.modLane i (f s r)) =
      (issuedAt s r).setLane i (ran dp cyc (f (issuedAt s r) r ((issuedAt s r).lane i))) := by
  rw [State.cleOp_of_names hop hr hn]
  simp only [State.modLane, State.lane_setLane, State.setLane_setLane]

/-- An op on the datapath alone, where a run names it. -/
theorem State.regOp_of_names (hr : ((s.lane i).dp dp).run = some r) (hn : names (s.lane i) r op w) (cyc : Nat)
    (f : DpState → DpState × Bool) {u : State} (hu : u = issuedAt s r) :
    s.regOp (inLane i) dp op w cyc f = u.setLane i (ran dp cyc
      (((u.lane i).modDp dp fun _ => (f ((u.lane i).dp dp)).1).satf r.ctx (f ((u.lane i).dp dp)).2)) := by
  rw [hu]
  exact State.cleOp_modLane_of_names hop hr hn cyc fun _ r l =>
    (l.modDp dp fun _ => (f (l.dp dp)).1).satf r.ctx (f (l.dp dp)).2

end

/-! ### What an op does, from the shape of its meaning -/

section
variable {op cyc : Nat} {c : LaneSel → Dp → CleWord → Instr} (hop : op < 64)
include hop

theorem opDoes_of_cleOp {f : State → Lane → Dp → CtxRun → CleWord → Lane}
    (he : ∀ ln dp w s, exec (c ln dp w) s = .next (s.cleOp ln dp op w cyc fun s i r => s.modLane i fun l => f s l dp r w)) :
    OpDoes op c cyc f := by
  refine ⟨fun i dp w r s hr hn => ⟨_, rfl, ?_⟩, fun i dp w s h => ?_⟩
  · rw [he, State.cleOp_modLane_of_names hop hr hn cyc fun s r l => f s l dp r w]
  · rw [he, State.cleOp_of_not_names hop h]

theorem dpDoes_of_regOp {f : DpState → CleWord → DpState} {bad : DpState → CleWord → Bool}
    (he : ∀ ln dp w s, exec (c ln dp w) s = .next (s.regOp ln dp op w cyc fun d => (f d w, bad d w))) :
    DpDoes op c cyc f bad := by
  refine opDoes_of_cleOp hop fun ln dp w s => ?_
  rw [he, State.regOp]
  simp only [fun l : Lane => l.modDp_dp dp fun d => f d w]
  rfl

end

/-! ### The result stage (R105) -/

theorem natCast_two_pow (n : Nat) : ((2 ^ n : Nat) : Int) = 2 ^ n := Int.natCast_pow 2 n

theorem clamped_eq_clampBits (n : Nat) (x : Int) : clamped n x = clampBits n x := by
  simp only [clamped, clampBits, clampI, ← natCast_two_pow]
  by_cases hlo : x < -((2 ^ (n - 1) : Nat) : Int)
  · rw [if_pos hlo, if_pos hlo]
  · by_cases hhi : ((2 ^ (n - 1) : Nat) : Int) ≤ x
    · rw [if_neg hlo, if_neg hlo, if_pos hhi, if_pos (by omega)]
    · rw [if_neg hlo, if_neg hlo, if_neg hhi, if_neg (by omega)]

theorem narrow_eq_res (sat : Bool) (x : Int) : narrow 32 sat x = res sat x := by rw [narrow, clamped_eq_clampBits, res]

theorem clamps_eq_resSat (sat : Bool) (x : Int) : clamps 32 sat x = resSat sat x := by
  rw [clamps, clamped_eq_clampBits, resSat]

theorem narrow_eq_accRes (sat : Bool) (x : Int) : narrow 48 sat x = accRes sat x := by
  rw [narrow, clamped_eq_clampBits, accRes]

theorem clamps_eq_accSat (sat : Bool) (x : Int) : clamps 48 sat x = accSat sat x := by
  rw [clamps, clamped_eq_clampBits, accSat]

section
variable {op cyc : Nat} {c : LaneSel → Dp → CleWord → Instr} (hop : op < 64)
include hop

/-- The meaning may spell the exact result in its own way: `hx` says that both spell one number. -/
theorem resDoes_of_resOp {x y : DpState → CleWord → Int}
    (he : ∀ ln dp w s, exec (c ln dp w) s = .next (s.resOp ln dp op w cyc (y · w)))
    (hx : ∀ d w, y d w = x d w) : ResDoes op c cyc x := by
  refine dpDoes_of_regOp hop fun ln dp w s => ?_
  simp only [he, State.resOp, hx, narrow_eq_res, clamps_eq_resSat]
  rfl

theorem wordDoes_of_wordOp {x y : DpState → CleWord → Word}
    (he : ∀ ln dp w s, exec (c ln dp w) s = .next (s.wordOp ln dp op w (y · w)))
    (hx : ∀ d w, y d w = x d w) : WordDoes op c x := by
  refine dpDoes_of_regOp hop fun ln dp w s => ?_
  simp only [he, State.wordOp, hx]
  rfl

theorem accDoes_of_accOp {x y : DpState → CleWord → Int}
    (he : ∀ ln dp w s, exec (c ln dp w) s = .next (s.accOp ln dp op w (y · w)))
    (hx : ∀ d w, y d w = x d w) : AccDoes op c x := by
  refine dpDoes_of_regOp hop fun ln dp w s => ?_
  simp only [he, State.accOp, hx, narrow_eq_accRes, clamps_eq_accSat]
  rfl

theorem pairBound_of_pairOp {ok : DpState → CleWord → Int → Int → Prop} {p : DpState → CleWord → Int × Int}
    (he : ∀ ln dp w s, exec (c ln dp w) s = .next (s.pairOp ln dp op w cyc (p · w)))
    (hp : ∀ d w, ok d w (p d w).1 (p d w).2) : PairBound op c cyc ok := by
  refine fun i dp w r s hr hn => ⟨_, _, (p _ w).1, (p _ w).2, rfl, rfl, hp _ w, _, rfl, ?_⟩
  rw [he, State.pairOp, State.regOp_of_names hop hr hn cyc _ rfl]
  simp only [narrow_eq_res, clamps_eq_resSat]
  rfl

end

end Sys2Proof.Machine
end

section
/-! PROOFS. The arithmetic ops of the Control Law Engine: obligation O27. -/
namespace Sys2Proof.Machine

open Claims (va vb vc vacc vi vsh ua ub putD DpDoes ResDoes WordDoes AccDoes)

theorem shr_eq_shiftRight (x : Int) (n : Nat) : shr x n = x >>> n := (Int.shiftRight_eq_div_pow x n).symm

/-- A literal count 16 is a natural number or an integer, by the instances in scope; both shifts are one. -/
theorem shr_sixteen (x : Int) : shr x 16 = x >>> 16 := by
  refine (shr_eq_shiftRight x 16).trans ?_
  cases x with
  | ofNat m => rfl
  | negSucc m => rfl

theorem bitsOf_imm_reg (w : CleWord) : bitsOf w.imm 4 0 = w.imm.toNat % 32 := by simp [bitsOf]

theorem opC_eq (d : DpState) (w : CleWord) : d.opC w = vc d w := by rw [DpState.opC, bitsOf_imm_reg]; rfl

theorem mul_natCast_two_pow (x : Int) (n : Nat) : x * (2 ^ n : Nat) = x * 2 ^ n := by rw [natCast_two_pow]

theorem natAbs_eq_ite_neg (x : Int) : (x.natAbs : Int) = if x < 0 then -x else x := by split <;> omega

theorem cmpRel_eq (m : BitVec 2) (a b : Int) : cmpRel m a b =
    if m = 0 then decide (b < a) else if m = 1 then decide (b ≤ a) else if m = 2 then decide (a = b) else decide (a ≠ b) := by
  have hm : ∀ m : BitVec 2, m = 0 ∨ m = 1 ∨ m = 2 ∨ m = 3 := by decide
  obtain rfl | rfl | rfl | rfl := hm m <;> rfl

theorem ofInt_va (d : DpState) (w : CleWord) : BitVec.ofInt 32 (va d w) = ua d w := BitVec.ofInt_toInt

theorem ofInt_vb (d : DpState) (w : CleWord) : BitVec.ofInt 32 (vb d w) = ub d w := BitVec.ofInt_toInt

/-- SAT takes b above it, c below it, and else a; CF tells that a was replaced (R107). -/
theorem cleSat_does : DpDoes 0x15 .cleSat 1 (fun d w =>
    if vb d w < va d w then { putD d w.dst.toNat (ub d w) with cf := true }
    else if va d w < vc d w then { putD d w.dst.toNat (d.d.getD (w.imm.toNat % 32) 0) with cf := true }
    else { putD d w.dst.toNat (ua d w) with cf := false }) (fun _ _ => false) := by
  refine dpDoes_of_regOp (by decide) fun ln dp w s => ?_
  change execCleSat ln dp w s = _
  rw [execCleSat]
  congr 2
  funext d
  have ha : d.opA w = va d w := rfl
  have hb : d.opB w = vb d w := rfl
  simp only [ha, hb, opC_eq, bitsOf_imm_reg]
  by_cases hi : vb d w < va d w
  · simp only [hi, if_true, decide_true, Bool.true_or]; rfl
  · by_cases lo : va d w < vc d w
    · simp only [hi, lo, if_true, if_false, decide_true, Bool.or_true]; rfl
    · simp only [hi, lo, if_false, decide_false, Bool.or_false]; rfl

theorem cleShr_word (d : DpState) (w : CleWord) :
    BitVec.ofInt 32 (shr (d.opA w) (shOf w)) = (ua d w).sshiftRight (vsh w) :=
  congrArg (BitVec.ofInt 32) (shr_eq_shiftRight _ _)

theorem cleMin_word (d : DpState) (w : CleWord) :
    (if d.opA w ≤ d.opB w then d.reg w.sa.toNat else d.reg w.sb.toNat) = BitVec.ofInt 32 (min (va d w) (vb d w)) := by
  have ha : d.opA w = va d w := rfl
  have hb : d.opB w = vb d w := rfl
  rw [ha, hb]
  by_cases h : va d w ≤ vb d w
  · rw [if_pos h, show min (va d w) (vb d w) = va d w by omega]
    exact (ofInt_va d w).symm
  · rw [if_neg h, show min (va d w) (vb d w) = vb d w by omega]
    exact (ofInt_vb d w).symm

theorem cleMax_word (d : DpState) (w : CleWord) :
    (if d.opB w ≤ d.opA w then d.reg w.sa.toNat else d.reg w.sb.toNat) = BitVec.ofInt 32 (max (va d w) (vb d w)) := by
  have ha : d.opA w = va d w := rfl
  have hb : d.opB w = vb d w := rfl
  rw [ha, hb]
  by_cases h : vb d w ≤ va d w
  · rw [if_pos h, show max (va d w) (vb d w) = va d w by omega]
    exact (ofInt_va d w).symm
  · rw [if_neg h, show max (va d w) (vb d w) = vb d w by omega]
    exact (ofInt_vb d w).symm

theorem cleCmp_does : DpDoes 0x18 .cleCmp 1 (fun d w => { d with cf :=
    (if w.mod = 0 then decide (vb d w < va d w) else if w.mod = 1 then decide (vb d w ≤ va d w)
    else if w.mod = 2 then decide (va d w = vb d w) else decide (va d w ≠ vb d w)) }) (fun _ _ => false) := by
  refine dpDoes_of_regOp (by decide) fun ln dp w s => ?_
  change execCleCmp ln dp w s = _
  simp only [execCleCmp, cmpRel_eq]
  rfl

/-- Settles O27: each op's meaning has the shape of a register, word or accumulator op, whose effect the rules above say. -/
theorem controlLawArithmetic : Obligations.ControlLawArithmetic := by
  unfold Obligations.ControlLawArithmetic
  refine ⟨opOf_eq_iff, ?nop, ?ldi, ?mov, ?add, ?sub, ?addi, ?neg, ?abs, ?shl, ?shr, ?and, ?or, ?xor, ?mul, ?muli, ?mac, ?msu,
    ?lda, ?clra, ?exa, cleSat_does, ?min, ?max, cleCmp_does, ?sel⟩
  case nop | clra => exact dpDoes_of_regOp (by decide) fun _ _ _ _ => rfl
  case ldi | mov | and | or | xor | sel => exact wordDoes_of_wordOp (by decide) (fun _ _ _ _ => rfl) fun _ _ => rfl
  case shr => exact wordDoes_of_wordOp (by decide) (fun _ _ _ _ => rfl) cleShr_word
  case min => exact wordDoes_of_wordOp (by decide) (fun _ _ _ _ => rfl) cleMin_word
  case max => exact wordDoes_of_wordOp (by decide) (fun _ _ _ _ => rfl) cleMax_word
  case add | sub | addi | mul | muli | exa =>
    exact resDoes_of_resOp (by decide) (fun _ _ _ _ => rfl) fun _ _ => shr_eq_shiftRight _ _
  case neg => exact resDoes_of_resOp (by decide) (fun _ _ _ _ => rfl) fun _ _ => rfl
  case abs => exact resDoes_of_resOp (by decide) (fun _ _ _ _ => rfl) fun _ _ => natAbs_eq_ite_neg _
  case shl => exact resDoes_of_resOp (by decide) (fun _ _ _ _ => rfl) fun _ _ => mul_natCast_two_pow _ _
  case lda => exact accDoes_of_accOp (by decide) (fun _ _ _ _ => rfl) fun _ _ => mul_natCast_two_pow _ _
  case mac => exact accDoes_of_accOp (by decide) (fun _ _ _ _ => rfl) fun d w => congrArg (vacc d w + ·) (shr_sixteen _)
  case msu => exact accDoes_of_accOp (by decide) (fun _ _ _ _ => rfl) fun d w => congrArg (vacc d w - ·) (shr_sixteen _)

end Sys2Proof.Machine
end

section
/-! PROOFS. The integer root, and the corners of SQRT and DIV: obligation O28. -/
namespace Sys2Proof.Machine

open Claims (inLane va vb vsh putD ran names narrow clamps issuedAt)

/-! ### The integer root (R111) -/

/-- q is the integer part of √n. -/
def IsRoot (q n : Nat) : Prop := q * q ≤ n ∧ n < (q + 1) * (q + 1)

/-- The bits of the root below the k-th are still to be found: each step halves the interval that holds it. -/
theorem isRoot_isqrtGo (k n r : Nat) (hr : r * r ≤ n) (hn : n < (r + 2 ^ k) * (r + 2 ^ k)) : IsRoot (isqrtGo k n r) n := by
  induction k generalizing r with
  | zero => exact ⟨hr, hn⟩
  | succ k ih =>
    rw [isqrtGo]
    split
    · rename_i h
      refine ih _ h ?_
      rwa [Nat.add_assoc, ← Nat.mul_two, ← Nat.pow_succ]
    · rename_i h
      exact ih _ hr (Nat.lt_of_not_le h)

theorem isRoot_isqrt {n : Nat} (h : n < 2 ^ 256) : IsRoot (isqrt n) n :=
  isRoot_isqrtGo 256 n 0 (Nat.zero_le n) (by rw [Nat.zero_add]; exact Nat.lt_of_lt_of_le h (Nat.le_mul_self _))

theorem sqrt_operand_lt (d : DpState) (w : CleWord) : (va d w).toNat * 2 ^ vsh w < 2 ^ 256 := by
  have ha : (va d w).toNat < 2 ^ 32 := by
    have h : va d w < 2 ^ 31 := BitVec.toInt_lt
    omega
  have hs : 2 ^ vsh w ≤ 2 ^ 64 := Nat.pow_le_pow_right (by decide) (Nat.le_of_lt w.shift.isLt)
  calc (va d w).toNat * 2 ^ vsh w < 2 ^ 32 * 2 ^ 64 := Nat.mul_lt_mul_of_lt_of_le ha hs (by decide)
    _ < 2 ^ 256 := by decide

/-! ### The two ops where a run names them -/

section
variable {i : LaneId} {dp : Dp} {w : CleWord} {r : CtxRun} {s u : State} {d : DpState}
  (hr : ((s.lane i).dp dp).run = some r) (hu : u = issuedAt s r) (hd : d = (u.lane i).dp dp)
include hr hu hd

theorem exec_cleSqrt_of_neg (hn : names (s.lane i) r 0x21 w) (ha : va d w < 0) :
    exec (.cleSqrt (inLane i) dp w) s = .next (u.setLane i (ran dp 18
      ((u.lane i).modDp dp fun _ => { putD d w.dst.toNat 0 with cf := true }))) := by
  change execCleSqrt _ _ _ _ = _
  have hA : d.opA w < 0 := ha
  rw [execCleSqrt, State.regOp_of_names (by decide) hr hn _ _ hu, ← hd]
  simp only [hA, if_true, decide_true]
  cases w.sat <;> rfl

theorem exec_cleSqrt_of_nonneg (hn : names (s.lane i) r 0x21 w) (ha : 0 ≤ va d w) :
    ∃ q : Nat, IsRoot q ((va d w).toNat * 2 ^ vsh w) ∧
      ∃ l, l = (u.lane i).modDp dp (fun _ => { putD d w.dst.toNat (narrow 32 w.sat q) with cf := false }) ∧
        exec (.cleSqrt (inLane i) dp w) s = .next (u.setLane i (ran dp 18
          (if clamps 32 w.sat q then l.wr (CLE_CTX_STAT_SATF r.ctx) 1 else l))) := by
  refine ⟨_, isRoot_isqrt (sqrt_operand_lt d w), _, rfl, ?_⟩
  change execCleSqrt _ _ _ _ = _
  have hA : ¬ d.opA w < 0 := Int.not_lt.mpr ha
  rw [execCleSqrt, State.regOp_of_names (by decide) hr hn _ _ hu, ← hd]
  simp only [hA, if_false, decide_false, narrow_eq_res, clamps_eq_resSat]
  rfl

theorem exec_cleDiv (hn : names (s.lane i) r 0x22 w) :
    exec (.cleDiv (inLane i) dp w) s = .next (u.setLane i (ran dp 36
      (if vb d w = 0 then ((u.lane i).modDp dp fun _ => putD d w.dst.toNat
          (if 0 < va d w then 0x7FFFFFFF else if va d w < 0 then 0x80000000 else 0)).wr (CLE_CTX_STAT_DIVZ r.ctx) 1
        else ((u.lane i).modDp dp fun _ => putD d w.dst.toNat (res w.sat ((va d w * 2 ^ vsh w).tdiv (vb d w)))).satf r.ctx
          (resSat w.sat ((va d w * 2 ^ vsh w).tdiv (vb d w)))))) := by
  subst hu hd
  change execCleDiv _ _ _ _ = _
  rw [execCleDiv]
  refine congrArg Host.Outcome.next ((State.cleOp_modLane_of_names (by decide) hr hn 36 _).trans ?_)
  simp only [mul_natCast_two_pow, ← fun (l : Lane) v => l.modDp_dp dp (DpState.setReg · w.dst.toNat v)]
  rfl

theorem exec_cleDiv_of_zero (hn : names (s.lane i) r 0x22 w) (hb : vb d w = 0) :
    exec (.cleDiv (inLane i) dp w) s = .next (u.setLane i (ran dp 36
      (((u.lane i).modDp dp fun _ => putD d w.dst.toNat
        (if 0 < va d w then 0x7FFFFFFF else if va d w < 0 then 0x80000000 else 0)).wr (CLE_CTX_STAT_DIVZ r.ctx) 1))) := by
  rw [exec_cleDiv hr hu hd hn, if_pos hb]

theorem exec_cleDiv_of_ne_zero (hn : names (s.lane i) r 0x22 w) (hb : vb d w ≠ 0) :
    ∃ q : Int, q = (va d w * 2 ^ vsh w).tdiv (vb d w) ∧
      ∃ l, l = (u.lane i).modDp dp (fun _ => putD d w.dst.toNat (narrow 32 w.sat q)) ∧
        exec (.cleDiv (inLane i) dp w) s = .next (u.setLane i (ran dp 36
          (if clamps 32 w.sat q then l.wr (CLE_CTX_STAT_SATF r.ctx) 1 else l))) := by
  refine ⟨_, rfl, _, rfl, ?_⟩
  rw [exec_cleDiv hr hu hd hn, if_neg hb, narrow_eq_res, clamps_eq_resSat]
  rfl

end

/-- The remainder of a division that truncates toward zero: smaller than the divisor, with the dividend's sign (R107). -/
theorem exists_rem_of_tdiv (n m : Int) (hm : m ≠ 0) : ∃ rem, n = n.tdiv m * m + rem ∧ rem.natAbs < m.natAbs ∧
    (0 ≤ n → 0 ≤ rem) ∧ (n ≤ 0 → rem ≤ 0) := by
  refine ⟨n.tmod m, (Int.tdiv_mul_add_tmod n m).symm, ?_, Int.tmod_nonneg m, fun hn => ?_⟩
  · rw [Int.natAbs_tmod]
    exact Nat.mod_lt _ (Int.natAbs_pos.mpr hm)
  · have h : 0 ≤ (-n).tmod m := Int.tmod_nonneg m (Int.neg_nonneg_of_nonpos hn)
    rw [Int.neg_tmod] at h
    omega

/-- Settles O28: SQRT returns the integer part of the root of its operand, and DIV the quotient `Int.tdiv`,
whose remainder has the sign of a. -/
theorem rootAndDivisionCorners : Obligations.RootAndDivisionCorners := by
  unfold Obligations.RootAndDivisionCorners
  refine ⟨fun i dp w r s hr hn => ⟨_, _, rfl, rfl, exec_cleSqrt_of_neg hr rfl rfl hn, fun ha => ?root⟩,
    fun i dp w r s hr hn => ⟨_, _, rfl, rfl, exec_cleDiv_of_zero hr rfl rfl hn, fun hb => ?quotient⟩⟩
  case root =>
    obtain ⟨q, ⟨hle, hlt⟩, he⟩ := exec_cleSqrt_of_nonneg hr rfl rfl hn ha
    exact ⟨q, hle, hlt, he⟩
  case quotient =>
    obtain ⟨q, rfl, he⟩ := exec_cleDiv_of_ne_zero hr rfl rfl hn hb
    obtain ⟨rem, heq, hlt, hpos, hneg⟩ := exists_rem_of_tdiv (va _ w * 2 ^ vsh w) _ hb
    have hscale : (0 : Int) ≤ 2 ^ vsh w := Int.pow_nonneg (by decide)
    exact ⟨_, rem, heq, hlt, fun ha => hpos (Int.mul_nonneg ha hscale),
      fun ha => hneg (Int.mul_nonpos_of_nonpos_of_nonneg ha hscale), he⟩

end Sys2Proof.Machine
end

section
/-! PROOFS. The geometric ops and their bounds: obligation O30. -/
namespace Sys2Proof.Machine

open Claims (inLane dreg va va1 vb vc ua ub putD ran names narrow clamps issuedAt PairBound nearRoot3 nearHalf nearTrig)

/-! ### The value picked within bounds (R108) -/

theorem le_geoPick (op k : Nat) (a b c : Word) (p : Int × Int) : p.1 ≤ geoPick op k a b c p := by
  unfold geoPick; omega

theorem geoPick_le (op k : Nat) (a b c : Word) {p : Int × Int} (h : p.1 ≤ p.2) : geoPick op k a b c p ≤ p.2 := by
  have hlt := Nat.mod_lt (Config.geoChoice op k a b c) (show 0 < (p.2 - p.1 + 1).toNat by omega)
  unfold geoPick
  omega

theorem geoPick_withinThird (op k : Nat) (a b c : Word) (n : Int) :
    3 * (geoPick op k a b c (withinThird n 1) - 1) ≤ n ∧ n ≤ 3 * (geoPick op k a b c (withinThird n 1) + 1) := by
  have hlo := le_geoPick op k a b c (withinThird n 1)
  have hhi := geoPick_le op k a b c (p := withinThird n 1) (by simp only [withinThird]; omega)
  simp only [withinThird] at hlo hhi ⊢
  omega

theorem within_one (f : Int) (exact : Bool) : within f exact 1 = (if exact then f - 1 else f, f + 1) := by
  cases exact <;> simp [within]

/-- The value picked is f or f + 1, and may be f - 1 where the number in question is f itself. -/
theorem geoPick_within (op k : Nat) (a b c : Word) (f : Int) (exact : Bool) :
    (if exact then f - 1 else f) ≤ geoPick op k a b c (within f exact 1) ∧ geoPick op k a b c (within f exact 1) ≤ f + 1 := by
  rw [within_one]
  exact ⟨le_geoPick .., geoPick_le _ _ _ _ _ (by dsimp only; split <;> omega)⟩

/-- The integers within m of x / N, both in units of 1 / N, hold the value picked. -/
theorem geoPick_scaled (op k : Nat) (a b c : Word) {x N m : Int} (hN : 0 < N) (hm : N ≤ m) :
    x - m ≤ geoPick op k a b c (-((m - x) / N), (x + m) / N) * N ∧
      geoPick op k a b c (-((m - x) / N), (x + m) / N) * N ≤ x + m := by
  have hne : -((m - x) / N) ≤ (x + m) / N := by
    have h := Int.lt_ediv_add_one_mul_self (m - x) hN
    rw [Int.add_mul, Int.one_mul] at h
    rw [Int.le_ediv_iff_mul_le hN, Int.neg_mul]
    omega
  have hlo := le_geoPick op k a b c (-((m - x) / N), (x + m) / N)
  have hhi := geoPick_le op k a b c (p := (-((m - x) / N), (x + m) / N)) hne
  generalize geoPick op k a b c (-((m - x) / N), (x + m) / N) = v at hlo hhi
  have hlo' : -v * N ≤ m - x := (Int.le_ediv_iff_mul_le hN).mp (by dsimp only at hlo; omega)
  rw [Int.neg_mul] at hlo'
  exact ⟨by omega, (Int.le_ediv_iff_mul_le hN).mp hhi⟩

theorem nearTrig_geoPick (op k : Nat) (a b c : Word) (n : Nat) {e : Nat} (x : Int) (he : 2 ≤ e) :
    nearTrig n e (geoPick op k a b c (withinScaled x n e)) x := by
  have hN : 0 < 2 ^ n := Nat.two_pow_pos n
  have hspare : 2 ^ (n - 16) ≤ 2 ^ n := Nat.pow_le_pow_right (by decide) (Nat.sub_le n 16)
  have htwo : 2 * 2 ^ n ≤ e * 2 ^ n := Nat.mul_le_mul_right _ he
  have hcast : ((e * 2 ^ n : Nat) : Int) = (e : Int) * (2 ^ n : Nat) := Int.natCast_mul e (2 ^ n)
  have h := geoPick_scaled op k a b c (x := x) (N := (2 ^ n : Nat)) (m := e * (2 ^ n : Nat) - (2 ^ (n - 16) : Nat))
    (by omega) (by omega)
  change _ ≤ geoPick op k a b c (withinScaled x n e) * _ ∧ geoPick op k a b c (withinScaled x n e) * _ ≤ _ at h
  generalize geoPick op k a b c (withinScaled x n e) = v at h ⊢
  rw [nearTrig, ← natCast_two_pow, ← natCast_two_pow, Int.sub_mul, Int.add_mul]
  exact ⟨by omega, by omega⟩

/-! ### Bounds with √3 -/

/-- L ≤ y√3 ≤ U, said without roots. -/
def rootBetween (L U y : Int) : Prop :=
  (0 ≤ y → 0 ≤ U ∧ 3 * y * y ≤ U * U) ∧ (y ≤ 0 → L ≤ 0 ∧ 3 * y * y ≤ L * L) ∧
  (0 < L → 0 ≤ y ∧ L * L ≤ 3 * y * y) ∧ (U < 0 → y ≤ 0 ∧ U * U ≤ 3 * y * y)

theorem mul_self_le_of_neg {a b : Int} (ha : a ≤ 0) (h : b ≤ a) : a * a ≤ b * b := by
  have := Int.mul_self_le_mul_self (a := -a) (b := -b) (by omega) (by omega)
  rwa [Int.neg_mul_neg, Int.neg_mul_neg] at this

theorem rootBetween_mono {L U L' U' y : Int} (h : rootBetween L U y) (hL : L' ≤ L) (hU : U ≤ U') : rootBetween L' U' y := by
  obtain ⟨hpos, hneg, hlo, hhi⟩ := h
  refine ⟨fun hy => ?_, fun hy => ?_, fun hy => ?_, fun hy => ?_⟩
  · obtain ⟨h0, hsq⟩ := hpos hy
    exact ⟨by omega, Int.le_trans hsq (Int.mul_self_le_mul_self h0 hU)⟩
  · obtain ⟨h0, hsq⟩ := hneg hy
    exact ⟨by omega, Int.le_trans hsq (mul_self_le_of_neg h0 hL)⟩
  · obtain ⟨h0, hsq⟩ := hlo (by omega)
    exact ⟨h0, Int.le_trans (Int.mul_self_le_mul_self (by omega) hL) hsq⟩
  · obtain ⟨h0, hsq⟩ := hhi (by omega)
    exact ⟨h0, Int.le_trans (mul_self_le_of_neg (by omega) hU) hsq⟩

theorem rootBetween_neg {L U y : Int} (h : rootBetween L U y) : rootBetween (-U) (-L) (-y) := by
  obtain ⟨hpos, hneg, hlo, hhi⟩ := h
  have hsq : 3 * -y * -y = 3 * y * y := by simp only [Int.mul_neg, Int.neg_mul, Int.neg_neg]
  simp only [rootBetween, hsq, Int.neg_mul_neg]
  refine ⟨fun hy => ?_, fun hy => ?_, fun hy => ?_, fun hy => ?_⟩
  · obtain ⟨h0, h⟩ := hneg (by omega)
    exact ⟨by omega, h⟩
  · obtain ⟨h0, h⟩ := hpos (by omega)
    exact ⟨by omega, h⟩
  · obtain ⟨h0, h⟩ := hhi (by omega)
    exact ⟨by omega, h⟩
  · obtain ⟨h0, h⟩ := hlo (by omega)
    exact ⟨by omega, h⟩

theorem rootBetween_zero {L U : Int} (hL : L ≤ 0) (hU : 0 ≤ U) : rootBetween L U 0 := by
  refine ⟨fun _ => ⟨hU, ?_⟩, fun _ => ⟨hL, ?_⟩, fun h => absurd h (by omega), fun h => absurd h (by omega)⟩
  · exact Int.mul_self_le_mul_self (Int.le_refl 0) hU
  · exact mul_self_le_of_neg (Int.le_refl 0) hL

theorem eq_zero_of_mul_self_le {a : Nat} (h : a * a ≤ 0) : a = 0 :=
  (Nat.mul_eq_zero.mp (Nat.le_zero.mp h)).elim id id

theorem rootBetween_natCast {a b n : Nat} (ha : a * a ≤ 3 * n * n) (hb : 3 * n * n ≤ b * b) : rootBetween a b n := by
  refine ⟨fun _ => ⟨by omega, by exact_mod_cast hb⟩, fun hn => ?_, fun _ => ⟨by omega, by exact_mod_cast ha⟩,
    fun h => absurd h (by omega)⟩
  obtain rfl : n = 0 := by omega
  obtain rfl : a = 0 := eq_zero_of_mul_self_le ha
  exact ⟨Int.le_refl 0, Int.le_refl 0⟩

theorem nearHalf_iff (v a y : Int) : nearHalf v a y ↔ rootBetween (2 * v + a - 2) (2 * v + a + 2) y := Iff.rfl

theorem nearRoot3_of_rootBetween {v y : Int} (h : rootBetween (3 * (v - 1)) (3 * (v + 1)) y) : nearRoot3 v y := by
  obtain ⟨hpos, hneg, hlo, hhi⟩ := h
  have hsq (x : Int) : 3 * x * (3 * x) = 3 * (3 * x * x) := by ac_rfl
  have hy : 3 * y * y = 3 * (y * y) := Int.mul_assoc 3 y y
  rw [hsq, hy] at hpos hneg hlo hhi
  refine ⟨fun h => ?_, fun h => ?_, fun h => ?_, fun h => ?_⟩
  · obtain ⟨h0, h⟩ := hpos h
    exact ⟨by omega, by omega⟩
  · obtain ⟨h0, h⟩ := hneg h
    exact ⟨by omega, by omega⟩
  · obtain ⟨h0, h⟩ := hlo (by omega)
    exact ⟨h0, by omega⟩
  · obtain ⟨h0, h⟩ := hhi (by omega)
    exact ⟨h0, by omega⟩

/-! ### The integer parts of y√3 and y / √3 -/

theorem rootBetween_isqrt_three_mul {n : Nat} (hn : n < 2 ^ 64) :
    rootBetween (isqrt (3 * n * n)) (isqrt (3 * n * n) + 1 : Nat) n := by
  have hsmall : 3 * n * n < 2 ^ 256 := by
    have h : 3 * n * n ≤ 3 * 2 ^ 64 * 2 ^ 64 := Nat.mul_le_mul (Nat.mul_le_mul_left 3 (Nat.le_of_lt hn)) (Nat.le_of_lt hn)
    omega
  obtain ⟨hle, hlt⟩ := isRoot_isqrt hsmall
  exact rootBetween_natCast hle (Nat.le_of_lt hlt)

theorem rootBetween_isqrt_div_three {n : Nat} (hn : n < 2 ^ 64) :
    rootBetween (3 * isqrt (n * n / 3) : Nat) (3 * (isqrt (n * n / 3) + 1) : Nat) n := by
  have hsmall : n * n / 3 < 2 ^ 256 := by
    have h : n * n ≤ 2 ^ 64 * 2 ^ 64 := Nat.mul_le_mul (Nat.le_of_lt hn) (Nat.le_of_lt hn)
    omega
  obtain ⟨hle, hlt⟩ := isRoot_isqrt hsmall
  have hsq (x : Nat) : 3 * x * (3 * x) = 9 * (x * x) := by rw [Nat.mul_mul_mul_comm]
  have hn3 : 3 * n * n = 3 * (n * n) := Nat.mul_assoc 3 n n
  refine rootBetween_natCast ?_ ?_
  · rw [hsq, hn3]
    omega
  · rw [hsq, hn3]
    omega

/-- The root is taken of the magnitude: a negative number goes by its mirror image. -/
theorem rootBetween_mulRoot3 {y : Int} (hy : y.natAbs < 2 ^ 64) : rootBetween (mulRoot3 y) (mulRoot3 y + 1) y := by
  have h := rootBetween_isqrt_three_mul hy
  by_cases h0 : 0 ≤ y
  · have hy' : (y.natAbs : Int) = y := Int.natAbs_of_nonneg h0
    rw [mulRoot3, if_pos h0, show y.toNat = y.natAbs by omega]
    rw [hy'] at h
    exact h
  · have hy' : (y.natAbs : Int) = -y := Int.ofNat_natAbs_of_nonpos (by omega)
    rw [mulRoot3, if_neg h0]
    have h := rootBetween_neg h
    rw [hy', Int.neg_neg] at h
    exact rootBetween_mono h (by omega) (by omega)

theorem rootBetween_divRoot3 {y : Int} (hy : y.natAbs < 2 ^ 64) : rootBetween (3 * divRoot3 y) (3 * (divRoot3 y + 1)) y := by
  have h := rootBetween_isqrt_div_three hy
  by_cases h0 : 0 ≤ y
  · have hy' : (y.natAbs : Int) = y := Int.natAbs_of_nonneg h0
    rw [divRoot3, if_pos h0, show y.toNat = y.natAbs by omega]
    rw [hy'] at h
    exact rootBetween_mono h (by omega) (by omega)
  · have hy' : (y.natAbs : Int) = -y := Int.ofNat_natAbs_of_nonpos (by omega)
    rw [divRoot3, if_neg h0]
    have h := rootBetween_neg h
    rw [hy', Int.neg_neg] at h
    exact rootBetween_mono h (by omega) (by omega)

theorem isqrt_zero : isqrt 0 = 0 := eq_zero_of_mul_self_le (isRoot_isqrt (n := 0) (by decide)).1

theorem mulRoot3_zero : mulRoot3 0 = 0 := congrArg Int.ofNat isqrt_zero

theorem divRoot3_zero : divRoot3 0 = 0 := congrArg Int.ofNat isqrt_zero

/-! ### The results of CLARKE and ICLARKE -/

/-- The value picked for y / √3 is within 1 of it. -/
theorem nearRoot3_geoPick (op k : Nat) (a b c : Word) {y : Int} (hy : y.natAbs < 2 ^ 64) :
    nearRoot3 (geoPick op k a b c (within (divRoot3 y) (y = 0) 1)) y := by
  have hroot := rootBetween_divRoot3 hy
  obtain ⟨hlo, hhi⟩ := geoPick_within op k a b c (divRoot3 y) (y = 0)
  generalize geoPick op k a b c (within (divRoot3 y) (y = 0) 1) = v at hlo hhi ⊢
  by_cases h0 : y = 0
  · subst h0
    rw [divRoot3_zero, if_pos (decide_eq_true rfl)] at hlo
    rw [divRoot3_zero] at hhi
    exact nearRoot3_of_rootBetween (rootBetween_zero (by omega) (by omega))
  · rw [if_neg (by rw [decide_eq_true_eq]; exact h0)] at hlo
    exact nearRoot3_of_rootBetween (rootBetween_mono hroot (by omega) (by omega))

/-- The value picked for (y√3 − a) / 2 is within 1 of it. -/
theorem nearHalf_geoPick (op k : Nat) (b c e : Word) {a y : Int} (hy : y.natAbs < 2 ^ 64) :
    nearHalf (geoPick op k b c e (within ((mulRoot3 y - a) / 2) (y = 0 && a % 2 = 0) 1)) a y := by
  have hroot := rootBetween_mulRoot3 hy
  obtain ⟨hlo, hhi⟩ := geoPick_within op k b c e ((mulRoot3 y - a) / 2) (y = 0 && a % 2 = 0)
  generalize geoPick op k b c e (within ((mulRoot3 y - a) / 2) (y = 0 && a % 2 = 0) 1) = v at hlo hhi ⊢
  rw [nearHalf_iff]
  by_cases h0 : y = 0
  · subst h0
    rw [mulRoot3_zero] at hlo hhi
    by_cases ha : a % 2 = 0
    · rw [if_pos (by rw [Bool.and_eq_true, decide_eq_true_eq, decide_eq_true_eq]; exact ⟨rfl, ha⟩)] at hlo
      exact rootBetween_zero (by omega) (by omega)
    · rw [if_neg (by rw [Bool.and_eq_true, decide_eq_true_eq, decide_eq_true_eq]; exact fun h => ha h.2)] at hlo
      exact rootBetween_zero (by omega) (by omega)
  · rw [if_neg (by rw [Bool.and_eq_true, decide_eq_true_eq]; exact fun h => h0 h.1)] at hlo
    exact rootBetween_mono hroot (by omega) (by omega)

/-! ### The obligation -/

theorem natAbs_dreg_le (d : DpState) (n : Nat) : (dreg d n).natAbs ≤ 2 ^ 31 := by
  have h1 : -2 ^ 31 ≤ dreg d n := BitVec.le_toInt _
  have h2 : dreg d n < 2 ^ 31 := BitVec.toInt_lt
  omega

theorem exec_cleIclarke {i : LaneId} {dp : Dp} {w : CleWord} {r : CtxRun} {s : State}
    (hr : ((s.lane i).dp dp).run = some r) (hn : names (s.lane i) r 0x1D w) :
    ∃ u d x y, u = issuedAt s r ∧ d = (u.lane i).dp dp ∧ nearHalf x (va d w) (va1 d w) ∧ nearHalf y (va d w) (-va1 d w) ∧
      ∃ l, l = (u.lane i).modDp dp (fun _ => putD (putD (putD d w.dst.toNat (ua d w)) (w.dst.toNat + 1) (narrow 32 w.sat x))
          (w.dst.toNat + 2) (narrow 32 w.sat y)) ∧
        exec (.cleIclarke (inLane i) dp w) s = .next (u.setLane i (ran dp 2
          (if clamps 32 w.sat x || clamps 32 w.sat y then l.wr (CLE_CTX_STAT_SATF r.ctx) 1 else l))) := by
  obtain ⟨d, hd⟩ : ∃ d, d = ((issuedAt s r).lane i).dp dp := ⟨_, rfl⟩
  have hy : (va1 d w).natAbs < 2 ^ 64 := Nat.lt_of_le_of_lt (natAbs_dreg_le d _) (by decide)
  have hx := nearHalf_geoPick 0x1D 0 (ua d w) (d.reg (w.sa.toNat + 1)) 0 (a := va d w) hy
  have hy := nearHalf_geoPick 0x1D 1 (ua d w) (d.reg (w.sa.toNat + 1)) 0 (a := va d w) (y := -va1 d w)
    (by rwa [Int.natAbs_neg])
  refine ⟨_, d, _, _, rfl, hd, hx, hy, _, rfl, ?_⟩
  change execCleIclarke _ _ _ _ = _
  rw [execCleIclarke, State.regOp_of_names (by decide) hr hn _ _ rfl, ← hd]
  simp only [narrow_eq_res, clamps_eq_resSat, Int.neg_eq_zero]
  rfl

theorem exec_cleSincos {i : LaneId} {dp : Dp} {w : CleWord} {r : CtxRun} {s : State}
    (hr : ((s.lane i).dp dp).run = some r) (hn : names (s.lane i) r 0x20 w) :
    ∃ u d x y, u = issuedAt s r ∧ d = (u.lane i).dp dp ∧ nearTrig 31 3 x (sinBt (ua d w)) ∧ nearTrig 31 3 y (cosBt (ua d w)) ∧
      exec (.cleSincos (inLane i) dp w) s = .next (u.setLane i (ran dp 2 ((u.lane i).modDp dp fun _ =>
        putD (putD d w.dst.toNat (BitVec.ofInt 32 x)) (w.dst.toNat + 1) (BitVec.ofInt 32 y)))) := by
  obtain ⟨d, hd⟩ : ∃ d, d = ((issuedAt s r).lane i).dp dp := ⟨_, rfl⟩
  have hx := nearTrig_geoPick 0x20 0 (ua d w) 0 0 31 (e := 3) (sinBt (ua d w)) (by decide)
  have hy := nearTrig_geoPick 0x20 1 (ua d w) 0 0 31 (e := 3) (cosBt (ua d w)) (by decide)
  refine ⟨_, d, _, _, rfl, hd, hx, hy, ?_⟩
  change execCleSincos _ _ _ _ = _
  rw [execCleSincos, State.regOp_of_names (by decide) hr hn _ _ rfl, ← hd]
  rfl

/-- Settles O30: the value picked lies in the interval that the meaning names, which bounds each result. -/
theorem geometricOpsKeepTheirBounds : Obligations.GeometricOpsKeepTheirBounds := by
  unfold Obligations.GeometricOpsKeepTheirBounds
  refine ⟨?clarke, fun i dp w r s hr hn => exec_cleIclarke hr hn, ?park, ?ipark,
    fun i dp w r s hr hn => exec_cleSincos hr hn⟩
  case clarke =>
    refine pairBound_of_pairOp (by decide) (fun _ _ _ _ => rfl) fun d w => ?_
    have hy : (vb d w - vc d w).natAbs < 2 ^ 64 := by
      have hb := natAbs_dreg_le d w.sb.toNat
      have hc := natAbs_dreg_le d (w.imm.toNat % 32)
      rw [vb, vc]
      omega
    rw [← opC_eq] at hy ⊢
    obtain ⟨hlo, hhi⟩ := geoPick_withinThird 0x1C 0 (ua d w) (ub d w) (d.reg (bitsOf w.imm 4 0)) (2 * va d w - vb d w - d.opC w)
    exact ⟨hlo, hhi, nearRoot3_geoPick _ _ _ _ _ hy⟩
  case park | ipark =>
    exact pairBound_of_pairOp (by decide) (fun _ _ _ _ => rfl) fun d w =>
      ⟨nearTrig_geoPick _ _ _ _ _ 60 (e := 4) _ (by decide), nearTrig_geoPick _ _ _ _ _ 60 (e := 4) _ (by decide)⟩

end Sys2Proof.Machine
end

section
/-! PROOFS. The ends of context runs and their overruns: obligation O31. -/
namespace Sys2Proof.Machine

open Claims (inLane names issuedAt)

/-! ### END, GROUP_DEADLINE and BUDGET_STOP -/

section
variable {i : LaneId} {dp : Dp} {r : CtxRun} {s : State} (hr : ((s.lane i).dp dp).run = some r)
include hr

/-- The run of a library context ends as a whole, whatever its word names (R132; log 47). -/
theorem exec_cleEnd_of_lib (w : CleWord) (hlib : r.ctx ∈ (s.lane i).cle.lib) :
    ∃ u, u = s.passTo (r.since + s.laneTicks ((s.lane i).cle.wcetOf r.ctx - 1)) ∧
      exec (.cleEnd (inLane i) dp w) s = .next (((u.modLane i fun l =>
        if r.rebase then l.wr (CLE_CTX_STAT_REBASE_PEND r.ctx) 0 else l).lawEnd i r).runDone i dp r) := by
  refine ⟨_, rfl, ?_⟩
  have hissue : (s.lane i).issues dp 0x01 w = none := by simp [Lane.issues, hr, hlib]
  have hlaw : (s.lane i).lawContext dp = some r := by simp [Lane.lawContext, hr, hlib]
  change execCleEnd _ _ _ _ = _
  rw [execCleEnd, State.onLanes_inLane]
  simp only [hissue, hlaw]

theorem exec_cleEnd_of_names {w : CleWord} (hn : names (s.lane i) r 0x01 w) :
    exec (.cleEnd (inLane i) dp w) s = .next (if r.rebase then
      (issuedAt s r).modLane i fun l => (l.modDp dp fun d => { d with run := d.run.map fun x =>
        { x with rebase := false, pc := l.cle.entry x.ctx, cycles := x.cycles + 1, ops := x.ops + 1 } }).wr
        (CLE_CTX_STAT_REBASE_PEND r.ctx) 0
      else (issuedAt s r).runDone i dp r) := by
  change execCleEnd _ _ _ _ = _
  rw [execCleEnd, State.onLanes_inLane]
  simp only [Lane.issues_eq_some (by decide) hr hn, State.passTo_laneTicks]

theorem exec_budgetStop_of_run :
    ∃ u v, u = s.passTo (r.since + s.laneTicks ((s.lane i).cle.budget r.ctx)) ∧
      v = (u.modLane i fun l => (l.wr (CLE_CTX_STAT_BUDGET r.ctx) 1).modGroup r.group fun x => { x with missed := true }) ∧
      exec (.budgetStop (inLane i) dp) s =
        .next ((if ((u.lane i).group r.group).missed then v else v.overrun i r.group).runDone i dp r) := by
  refine ⟨_, _, rfl, rfl, ?_⟩
  change execBudgetStop _ _ _ = _
  rw [execBudgetStop, State.onLanes_inLane]
  simp only [hr, Bool.not_eq_true']
  split <;> rename_i h <;> simp only [h, if_true, if_false, Bool.false_eq_true]

end

theorem exec_groupDeadline_of_running (i : LaneId) (g : Nat) (s : State) (hrun : ((s.lane i).group g).running = true)
    (hmiss : ((s.lane i).group g).missed = false) :
    exec (.groupDeadline (inLane i) g) s = .next (((s.passTo ((s.lane i).group g).deadline).modLane i fun l =>
      l.modGroup g fun x => { x with missed := true }).overrun i g) := by
  change execGroupDeadline _ _ _ = _
  rw [execGroupDeadline, State.onLanes_inLane]
  simp only [hrun, hmiss, Bool.not_false, Bool.and_self, if_true]

/-! ### The completion of a group (R124, R125) -/

/-- The group of a lane at rest after its completion, with what it publishes (R121, R124). -/
def State.groupClosed (s : State) (i : LaneId) (g : Nat) (out : List Held) : State :=
  s.modLane i fun l => (l.modGroup g fun x =>
    { x with running := false, left := [], held := [], missed := false, doneAt := some s.now, done := out }).cleStat

theorem State.groupDone_of_boundaryDue (s : State) (i : LaneId) (g : Nat) (h : s.boundaryDue = true) : s.groupDone i g = s := by
  rw [State.groupDone]
  exact if_pos h

section
variable {s : State} {i : LaneId} {g : Nat} (hb : s.boundaryDue = false)
include hb

theorem State.groupDone_of_missed (hm : ((s.lane i).group g).missed = true) : s.groupDone i g = s.groupClosed i g [] := by
  simp only [State.groupDone, hb, hm, Bool.true_or, if_true, Bool.false_eq_true, if_false]
  rfl

theorem State.groupDone_of_late (hm : ((s.lane i).group g).missed = false) (hl : ((s.lane i).group g).deadline < s.now) :
    s.groupDone i g = (s.groupClosed i g []).overrun i g := by
  simp only [State.groupDone, hb, hm, hl, decide_true, Bool.or_true, if_true, Bool.false_eq_true, if_false]
  rfl

theorem State.groupDone_of_inTime (hm : ((s.lane i).group g).missed = false) (ht : s.now ≤ ((s.lane i).group g).deadline) :
    ∃ out, out = ((s.lane i).group g).held.foldl (fun acc h => insertHeld h acc) [] ∧
      s.groupDone i g = ((out.foldl (fun x h => x.publish i h) (s.groupClosed i g out)).republish i g).inTime i g := by
  refine ⟨_, rfl, ?_⟩
  simp only [State.groupDone, hb, hm, Nat.not_lt.mpr ht, decide_false, Bool.or_false, Bool.false_eq_true, if_false]
  rfl

end

/-- Settles O31: the commands by the run or the group that they find, and the completion of a group by its deadline. -/
theorem contextRunsEndAndOverrun : Obligations.ContextRunsEndAndOverrun := by
  unfold Obligations.ContextRunsEndAndOverrun
  refine ⟨fun i dp w r s hr hlib => exec_cleEnd_of_lib hr w hlib,
    fun i dp w r s hr hn => ⟨_, rfl, fun h => ?rebase, fun h => ?main⟩,
    exec_groupDeadline_of_running, fun i dp r s hr => exec_budgetStop_of_run hr, fun i g s => s.groupDone_of_boundaryDue i g,
    fun i g s hb => ⟨s.groupClosed i g, fun _ => rfl, State.groupDone_of_missed hb, State.groupDone_of_late hb,
      State.groupDone_of_inTime hb⟩⟩
  case rebase =>
    rw [exec_cleEnd_of_names hr hn, if_pos h]
    rfl
  case main =>
    rw [exec_cleEnd_of_names hr hn, if_neg (by simp [h])]

end Sys2Proof.Machine
end

section
/-! PROOFS. The commit of a host command at its boundary, and the commands that carry values: obligation O41. -/
namespace Sys2Proof.Machine

open Claims (placed cmdOf Ready Commits Refuses)

/-! ### A commit without an effect (R195) -/

/-- A built leg that was disabled and still is, or that was enabled and still is, stays as it is. -/
theorem State.legChange_of_unchanged (s : State) {leg : Nat} (h : leg ∈ s.builtLegs) :
    s.legChange (s.builtLegs.filter s.disabled) leg = s := by
  by_cases hd : s.disabled leg = true <;> simp [State.legChange, hd, h]

theorem State.legsAfter_self (s : State) : s.legsAfter s = s :=
  List.foldlRecOn (motive := (· = s)) s.builtLegs _ rfl fun _ ht _ hleg => ht ▸ s.legChange_of_unchanged hleg

/-! ### From a row to its commit (R342, R343) -/

/-- The commands that staging leaves as they are and that one boundary commits and completes: not those whose body staging
changes, nor those that the Sluice completes by itself, nor those whose work goes on after the commit. -/
def endsAtBoundary : HostCmd → Bool
  | .writeRegs _ _ | .readSnapshot _ _ _ | .journalRead _ _ _ | .attest _ _ _ | .fwStage _ _ _ | .lockoutReset _ => false
  | _ => true

theorem State.stageBody_of_endsAtBoundary {c : HostCmd} (hc : endsAtBoundary c = true) (s : State) : s.stageBody c = (s, c) := by
  cases c with
  | writeRegs buf ps => exact absurd hc Bool.false_ne_true
  | _ => rfl

theorem State.alone_of_endsAtBoundary {c : Cmd} (hc : endsAtBoundary c.cmd = true) (s : State) : s.alone c = false := by
  unfold State.alone
  split <;> simp_all [endsAtBoundary]

theorem State.finishCmd_of_endsAtBoundary {c : Cmd} (hc : endsAtBoundary c.cmd = true) (s : State) (r : Result) :
    s.finishCmd c (some r) = s.complete c r := by
  unfold State.finishCmd
  split <;> simp_all [endsAtBoundary]

section
variable {s : State} {h : Hdr} {c : HostCmd} (hr : Ready s h c) (hc : endsAtBoundary c = true)
include hr hc

theorem State.staged_of_ready : (placed s).staged (cmdOf s h c) = (cmdOf s h c, placed s) := by
  obtain ⟨-, -, -, -, -, hstage⟩ := hr
  have hbody : (placed s).stageBody (cmdOf s h c).cmd = (placed s, c) := State.stageBody_of_endsAtBoundary hc _
  rw [State.staged, hstage, hbody]
  rfl

theorem State.direct_of_ready : s.direct h c = ((placed s).doCmd (cmdOf s h c)).softReset := by
  have hstaged := State.staged_of_ready hr hc
  obtain ⟨hgroup, hphase, hhold, hexit, hfail, -⟩ := hr
  have halone : (placed s).alone (cmdOf s h c) = false := State.alone_of_endsAtBoundary hc _
  have hcheck : (placed s).on SYS_STATE_CHECK_FAIL = false := decide_eq_false hfail
  have hheld : (placed s).commitsHeld = false := by
    change (decide (s.mod.phase ≠ .run) || s.hold || s.power.exiting.isSome) = false
    rw [hphase, hhold, hexit]
    rfl
  calc s.direct h c
      = ((placed s).staged (cmdOf s h c)).2.route ((placed s).staged (cmdOf s h c)).1 fun u x =>
          if h.group || u.commitsHeld then u.modHost fun y => { y with cmds := y.cmds ++ [x] } else (u.doCmd x).softReset := rfl
    _ = ((placed s).doCmd (cmdOf s h c)).softReset := by
      simp only [hstaged, State.route, halone, hcheck, hgroup, hheld, Bool.or_false, Bool.false_eq_true, if_false]

/-- A command at its boundary: its effect, the legs that it moves, its completion. -/
theorem State.direct_of_runCmd {u : State} {r : Result} (hrun : (placed s).runCmd (cmdOf s h c) = (u, some r)) :
    s.direct h c = (((placed s).legsAfter u).complete (cmdOf s h c) r).softReset := by
  have hcommit : (placed s).commitCmd (cmdOf s h c) = (u, some r) := hrun
  rw [State.direct_of_ready hr hc, State.doCmd, hcommit, State.finishCmd_of_endsAtBoundary hc]

section
variable {i : Instr} (hx : exec i s = .next (s.direct h c))
include hx

theorem commits_of_runCmd {f : State → State} {r : Result}
    (hrun : (placed s).runCmd (cmdOf s h c) = (f (placed s), some r)) : Commits i s h c f r := by
  rw [Commits, hx, State.direct_of_runCmd hr hc hrun]

theorem refuses_of_runCmd {status : Nat}
    (hrun : (placed s).runCmd (cmdOf s h c) = (placed s, some (.of status))) : Refuses i s h c status := by
  rw [Refuses, hx, State.direct_of_runCmd hr hc hrun, State.legsAfter_self]

end

end

/-! ### What the value commands answer at their commit -/

section
variable (s : State)

theorem State.cmdSegment_of_fits {b : SegBody} (h : (s.aheadUnit s.active b.unit.toNat).segCheck b false = 0) :
    s.cmdSegment b = ((s.modLane .a fun l => l.queueSeg (s.aheadUnit .a b.unit.toNat) b s.mod.tally).modLane .b fun l =>
      l.queueSeg (s.aheadUnit .b b.unit.toNat) b s.mod.tally, some .ok) := by
  simp only [State.cmdSegment, h]

theorem State.cmdSegment_of_range {b : SegBody} (h : (s.aheadUnit s.active b.unit.toNat).segCheck b false = 1) :
    s.cmdSegment b = (s, some (.of 0x05)) := by
  simp only [State.cmdSegment, h]

theorem State.cmdSegment_of_noSpace {b : SegBody} (h : 1 < (s.aheadUnit s.active b.unit.toNat).segCheck b false) :
    s.cmdSegment b = (s, some (.of 0x09)) := by
  unfold State.cmdSegment
  split
  · omega
  · omega
  · rfl

variable {units : BitVec 4} {at_ : DWord}

theorem State.cmdGroupStart_of_soon (h : at_.toNat < s.mod.tally.toNat + 8) : s.cmdGroupStart units at_ = (s, some (.of 0x05)) :=
  if_pos h

theorem State.cmdGroupStart_of_follower (h : s.mod.tally.toNat + 8 ≤ at_.toNat) (hrole : s.rd GRP_STAT_ROLE = 2) :
    s.cmdGroupStart units at_ = (s, some (.of 0x04)) :=
  (if_neg (Nat.not_lt.mpr h)).trans (if_pos hrole)

/-- Scheduling a start leaves the role in the group alone. -/
theorem State.cmdGroupStart_of_leads (h : s.mod.tally.toNat + 8 ≤ at_.toNat) (hrole : s.rd GRP_STAT_ROLE ≠ 2) :
    s.cmdGroupStart units at_ = (if s.rd GRP_STAT_ROLE = 1 then (s.scheduleStart units at_).grpSend (.start units at_)
      else s.scheduleStart units at_, some .ok) :=
  (if_neg (Nat.not_lt.mpr h)).trans (if_neg hrole)

theorem State.cmdIoWrite_of_silent {mask val : BitVec 16} (h : s.anySilent = true) :
    s.cmdIoWrite mask val = (s, some (.of 0x04)) :=
  if_pos h

theorem State.cmdIoWrite_of_heard {mask val : BitVec 16} (h : s.anySilent = false) :
    s.cmdIoWrite mask val = ((s.commitDo mask val false).modHost fun x => { x with ioBits := x.ioBits ||| mask }, some .ok) :=
  if_neg (Bool.not_eq_true _ ▸ h)

theorem State.cmdLaneControl_of_not_ok {i : LaneId} {action : Nat} (h : s.laneControlOk i action = false) :
    s.cmdLaneControl i action = (s, some (.of 0x04)) :=
  if_neg (Bool.not_eq_true _ ▸ h)

theorem State.cmdLaneControl_of_ok {i : LaneId} {action : Nat} (h : s.laneControlOk i action = true) :
    s.cmdLaneControl i action = (s.laneControl i action, some .ok) :=
  if_pos h

/-- A setpoint word reads back as written, with the Tally and the instant of its boundary, and every other word stays
(R115, R139). -/
theorem State.writeSetpoint_effect (k : Nat) (v : Word) : ∃ t, t = s.writeSetpoint k v ∧ memRd t.mod.setpoints k = v ∧
    (∀ j, j ≠ k → memRd t.mod.setpoints j = memRd s.mod.setpoints j) ∧
    (∃ x, x ∈ t.mod.setpointAt ∧ x.key = k ∧ x.tally = s.mod.tally ∧ x.at_ = s.now) ∧
    t = { s with mod := { s.mod with setpoints := t.mod.setpoints, setpointAt := t.mod.setpointAt } } :=
  ⟨_, rfl, memRd_memWr _ k v, fun _ hj => memRd_memWr_ne _ v hj, ⟨_, List.mem_cons_self, rfl, rfl, rfl⟩, rfl⟩

end

/-- Settles O41: each row takes its command to the boundary's commit, which answers by the case of its operands and its
state; the place in staging order that the command takes leaves what those cases read as it was. -/
theorem valueCommandsTakeEffect : Obligations.ValueCommandsTakeEffect := by
  unfold Obligations.ValueCommandsTakeEffect
  refine ⟨fun h s hr => commits_of_runCmd hr rfl rfl rfl, fun h ps s hr => commits_of_runCmd hr rfl rfl rfl,
    fun k v s => s.writeSetpoint_effect k v, fun h b s hr => ⟨_, rfl, fun hk => ?fits, fun hk => ?range, fun hk => ?noSpace⟩,
    fun h units s hr => commits_of_runCmd hr rfl rfl rfl,
    fun h units at_ s hr => ⟨fun hk => ?soon, fun hk hrole => ?follower, fun hk hrole => ?leads⟩,
    fun h mask val s hr => ⟨fun hk => ?silent, fun hk => ?heard⟩, fun h mode sec nsec s hr => commits_of_runCmd hr rfl rfl rfl,
    fun h i action s hr => ⟨fun hk => ?notOk, fun hk => ?ok⟩⟩
  case fits => exact commits_of_runCmd hr rfl rfl ((placed s).cmdSegment_of_fits hk)
  case range => exact refuses_of_runCmd hr rfl rfl ((placed s).cmdSegment_of_range hk)
  case noSpace => exact refuses_of_runCmd hr rfl rfl ((placed s).cmdSegment_of_noSpace hk)
  case soon => exact refuses_of_runCmd hr rfl rfl ((placed s).cmdGroupStart_of_soon hk)
  case follower => exact refuses_of_runCmd hr rfl rfl ((placed s).cmdGroupStart_of_follower hk hrole)
  case leads => exact commits_of_runCmd hr rfl rfl ((placed s).cmdGroupStart_of_leads hk hrole)
  case silent => exact refuses_of_runCmd hr rfl rfl ((placed s).cmdIoWrite_of_silent hk)
  case heard => exact commits_of_runCmd hr rfl rfl ((placed s).cmdIoWrite_of_heard hk)
  case notOk => exact refuses_of_runCmd hr rfl rfl ((placed s).cmdLaneControl_of_not_ok hk)
  case ok => exact commits_of_runCmd hr rfl rfl ((placed s).cmdLaneControl_of_ok hk)

end Sys2Proof.Machine
end

section
/-! PROOFS. A state given by its parts, and the recorded causes and registers that a fault cause and its end leave alone. -/
namespace Sys2Proof.Machine

/-! ### Lists and states -/

theorem updAt_getD_ne {α : Type} (l : List α) {i j : Nat} (f : α → α) (d : α) (h : j ≠ i) :
    (updAt l i f).getD j d = l.getD j d := by
  induction l generalizing i j with
  | nil => rfl
  | cons a t ih =>
    cases i <;> cases j
    · exact absurd rfl h
    · rfl
    · rfl
    · simpa [updAt] using ih (fun e => h (congrArg Nat.succ e))

theorem updAt_eq_set {α : Type} (l : List α) (i : Nat) (f : α → α) (d : α) : updAt l i f = l.set i (f (l.getD i d)) := by
  induction l generalizing i with
  | nil => rfl
  | cons a t ih =>
    cases i with
    | zero => rfl
    | succ i => simpa [updAt] using ih i

/-- Two states with the same parts are the same. -/
theorem State.eq_of_parts {s t : State}
    (h : t.pending = s.pending ∧ t.now = s.now ∧ t.free = s.free ∧ t.readData = s.readData ∧ t.regs = s.regs ∧
      t.mirror = s.mirror ∧ t.laneA = s.laneA ∧ t.laneB = s.laneB ∧ t.mod = s.mod ∧ t.host = s.host ∧ t.eic = s.eic ∧
      t.journal = s.journal ∧ t.faults = s.faults ∧ t.duplex = s.duplex ∧ t.gl = s.gl ∧ t.aux = s.aux ∧
      t.field = s.field ∧ t.safe = s.safe ∧ t.clock = s.clock ∧ t.grp = s.grp ∧ t.sec = s.sec ∧ t.power = s.power) :
    t = s := by
  cases s
  cases t
  simpa using h

/-- A field given by its parts reads back what was written, cut to its width. -/
theorem State.rd_wr_self (s : State) {off hi lo v : Nat} (h : lo ≤ hi) (hh : hi < 32) :
    (s.wr ⟨off, hi, lo⟩ v).rd ⟨off, hi, lo⟩ = v % 2 ^ (hi + 1 - lo) := s.rd_wr _ v h hh

/-- A field reads back a value that fits its width. -/
theorem State.rd_wr_of_fits (s : State) {off hi lo v : Nat} (h : lo ≤ hi) (hh : hi < 32) (hv : v < 2 ^ (hi + 1 - lo)) :
    (s.wr ⟨off, hi, lo⟩ v).rd ⟨off, hi, lo⟩ = v := (s.rd_wr_self h hh).trans (Nat.mod_eq_of_lt hv)

/-! ### Causes -/

/-- A cause of class E or W leaves every part alone but the registers, the controllers of events and the journal (R231). -/
theorem State.cause_of_other_frame (s : State) {code cls : Nat} (scope : Scope) (key : Nat) (leg : Option Nat) (active : Bool)
    (h : ¬ (cls = 1 ∨ cls = 2)) :
    ∃ t, t = s.cause code cls scope key leg active ∧
      t = { s with regs := t.regs, eic := t.eic, laneA := t.laneA, laneB := t.laneB, journal := t.journal } :=
  ⟨_, rfl, State.eq_of_parts (by rw [State.cause_eq_of_other s scope key leg active h]; simp)⟩

/-- A recorded cause stays recorded when one with another code arises (R232). -/
theorem State.mem_cause_causes_of_ne (s : State) {code cls : Nat} (scope : Scope) (key : Nat) (leg : Option Nat)
    (active : Bool) {c : Cause} (hc : c ∈ s.faults.causes) (hne : c.code ≠ code) :
    c ∈ (s.cause code cls scope key leg active).faults.causes := by
  by_cases h : cls = 1 ∨ cls = 2
  · rw [State.cause_eq s scope key leg active h]
    simp [State.safetyEffect_causes, State.classEffect_causes, State.recordCause, hc, hne]
  · rw [State.cause_eq_of_other s scope key leg active h]
    simpa using hc

/-- What is inactive stays so when another condition ends (R232). -/
theorem State.causeActive_causeEnd_of (s : State) (code key : Nat) {code' key' : Nat}
    (h : s.causeActive code' key' = false) : (s.causeEnd code key).causeActive code' key' = false := by
  simp only [State.causeActive, State.causeEnd, State.updCauseBits_frame, State.modFaults_faults, List.any_map,
    List.any_eq_false, Function.comp] at h ⊢
  intro c hc
  split
  · simp
  · exact h c hc

section
variable {x : Fld} (hx : 0xD000 ≤ x.off)
include hx

/-- The status bits of the recorded scopes stand in the registers of the Sluice's own block (R242). -/
theorem State.rd_updCauseBits_of_beyond (s : State) : s.updCauseBits.rd x = s.rd x := by
  have hmod : x.off ≠ SLC_FAULT_MOD := by simp only [SLC_FAULT_MOD]; omega
  have hlock : x.off ≠ SLC_LOCKOUT_STAT := by simp only [SLC_LOCKOUT_STAT]; omega
  have hthr : ∀ t < 8, x.off ≠ SLC_THR_FAULT t := fun t ht => by simp only [SLC_THR_FAULT]; omega
  unfold State.updCauseBits
  dsimp only
  rw [State.rd_wr_off _ _ hlock]
  refine List.foldlRecOn (motive := fun u : State => u.rd x = s.rd x) _ _ ?_ ?_
  · rw [State.rd_wr_off _ _ hmod, State.rd_wr_off _ _ hmod]
  · intro u hu t ht
    have ht := hthr t (List.mem_range.mp ht)
    rw [State.rd_wr_off _ _ ht, State.rd_wr_off _ _ ht, hu]

theorem State.rd_causeEnd_of_beyond (s : State) (code key : Nat) : (s.causeEnd code key).rd x = s.rd x := by
  unfold State.causeEnd
  rw [State.rd_updCauseBits_of_beyond hx, State.rd_modFaults]

end

end Sys2Proof.Machine
end

section
/-! PROOFS. Hall codes, trips and stalls of the auxiliary drives: obligation O21. -/
namespace Sys2Proof.Machine

/-! ### The status register of a channel -/

theorem not_causeSideReg_auxStat (n : Nat) (hn : n < 4) : ¬ causeSideReg (AUX_CH_STAT n) := by
  simp only [causeSideReg, occurReg, AUX_CH_STAT, JRNL_STAT, SYS_STATE, SYS_THREAD_STATE, LANE_STAT, PWR_STAT]
  omega

theorem not_causeRecordReg_auxStat (n : Nat) : ¬ causeRecordReg (AUX_CH_STAT n) := by
  rintro (h | h | ⟨t, h⟩) <;> simp only [AUX_CH_STAT, SLC_FAULT_MOD, SLC_LOCKOUT_STAT, SLC_THR_FAULT] at h <;> omega

theorem not_occurReg_auxStat {n : Nat} : ¬ occurReg (AUX_CH_STAT n) := by
  simp only [occurReg, AUX_CH_STAT]; omega

theorem auxCfg_ne_auxStat (n m : Nat) : AUX_CH_CFG n ≠ AUX_CH_STAT m := by
  simp only [AUX_CH_CFG, AUX_CH_STAT]; omega

@[simp] theorem State.rd_modAux (s : State) (n : Nat) (f : Aux → Aux) (x : Fld) : (s.modAux n f).rd x = s.rd x := (rfl)

theorem State.auxCh_modAux_ne (s : State) {n m : Nat} (f : Aux → Aux) (h : m ≠ n) : (s.modAux n f).auxCh m = s.auxCh m :=
  updAt_getD_ne _ _ _ h

/-- A status bit that is set reads 1, whether it was 1 before or not. -/
theorem State.rd_auxBit_self (s : State) (n m i : Nat) (hi : i < 32) :
    (s.auxBit n ⟨AUX_CH_STAT m, i, i⟩).rd ⟨AUX_CH_STAT m, i, i⟩ = 1 := by
  unfold State.auxBit
  split
  · rename_i h
    simpa [State.on] using h
  · rw [State.rd_raise _ _ _ (by decide) not_occurReg_auxStat]
    exact State.rd_wr_bit _ _ _ _ hi

/-- A field of a status register that the write of a bit leaves alone stays as it is when the bit is set. -/
theorem State.rd_auxBit_of (s : State) (n : Nat) {x : Fld} {m hi lo : Nat}
    (h : (s.wr x 1).rd ⟨AUX_CH_STAT m, hi, lo⟩ = s.rd ⟨AUX_CH_STAT m, hi, lo⟩) :
    (s.auxBit n x).rd ⟨AUX_CH_STAT m, hi, lo⟩ = s.rd ⟨AUX_CH_STAT m, hi, lo⟩ :=
  State.rd_ite_of rfl (by rw [State.rd_raise _ _ _ (by decide) not_occurReg_auxStat, h])

theorem State.rd_cause_auxStat (s : State) (code cls : Nat) (scope : Scope) (key : Nat) (leg : Option Nat) (active : Bool)
    {m hi lo : Nat} (hm : m < 4) :
    (s.cause code cls scope key leg active).rd ⟨AUX_CH_STAT m, hi, lo⟩ = s.rd ⟨AUX_CH_STAT m, hi, lo⟩ :=
  State.rd_cause (x := ⟨AUX_CH_STAT m, hi, lo⟩) (not_causeSideReg_auxStat m hm) (not_causeRecordReg_auxStat m) _ _ _ _ _ _ _

/-! ### Class B faults of a channel (R215, R216) -/

theorem State.rd_auxFault_of (s : State) (n code : Nat) {x : Fld} {m hi lo : Nat} (hm : m < 4)
    (h : ∀ u : State, (u.wr x 1).rd ⟨AUX_CH_STAT m, hi, lo⟩ = u.rd ⟨AUX_CH_STAT m, hi, lo⟩) :
    (s.auxFault n code x).rd ⟨AUX_CH_STAT m, hi, lo⟩ = s.rd ⟨AUX_CH_STAT m, hi, lo⟩ :=
  State.rd_ite_of rfl (by rw [State.rd_cause_auxStat _ _ _ _ _ _ _ hm, State.rd_auxBit_of _ _ (h _), State.rd_modAux])

theorem State.rd_auxFault_self (s : State) (n code i : Nat) {m : Nat} (hm : m < 4) (hi : i < 32) :
    (s.auxFault n code ⟨AUX_CH_STAT m, i, i⟩).rd ⟨AUX_CH_STAT m, i, i⟩ = 1 := by
  unfold State.auxFault
  split
  · rename_i h
    simpa [State.on] using h
  · rw [State.rd_cause_auxStat _ _ _ _ _ _ _ hm, State.rd_auxBit_self _ _ _ _ hi]

/-- A fault whose bit was clear is among the recorded causes. -/
theorem State.exists_cause_auxFault (s : State) (n code : Nat) {x : Fld} (h : s.on x = false) :
    ∃ c ∈ (s.auxFault n code x).faults.causes, c.code = code ∧ c.scope = .aux n := by
  rw [State.auxFault, if_neg (by simp [h])]
  exact ⟨_, State.mem_cause_causes _ _ _ _ _ (.inl rfl), rfl, rfl⟩

theorem State.mem_auxFault_causes_of_ne (s : State) (n code : Nat) (x : Fld) {c : Cause} (hc : c ∈ s.faults.causes)
    (hne : c.code ≠ code) : c ∈ (s.auxFault n code x).faults.causes := by
  unfold State.auxFault
  split
  · exact hc
  · exact State.mem_cause_causes_of_ne _ _ _ _ _ (by simpa using hc) hne

/-! ### Hall codes (R213, R215) -/

/-- The code in use once a Hall code has been stored: it, or its inverse with HINV. -/
theorem State.hallCode_stored (s : State) (n : Nat) (code : BitVec 3) :
    (s.wr (AUX_CH_STAT_HALL n) code.toNat).hallCode n =
      if s.rd (AUX_CH_CFG_HINV n) = 1 then 7 - code.toNat else code.toNat := by
  have hhall : (s.wr (AUX_CH_STAT_HALL n) code.toNat).rd (AUX_CH_STAT_HALL n) = code.toNat :=
    s.rd_wr_of_fits (by decide) (by decide) code.isLt
  have hinv : (s.wr (AUX_CH_STAT_HALL n) code.toNat).rd (AUX_CH_CFG_HINV n) = s.rd (AUX_CH_CFG_HINV n) :=
    State.rd_wr_off _ _ (auxCfg_ne_auxStat n n)
  simp [State.hallCode, State.on, hhall, hinv]

/-- A code without a step: the pins go low, with HALL_ERR. -/
theorem exec_hallChange_of_invalid {n : Nat} {code : BitVec 3} {s : State}
    (h : hallStep (if s.rd (AUX_CH_CFG_HINV n) = 1 then 7 - code.toNat else code.toNat) = none) :
    exec (.hallChange n code) s = .next ((((s.wr (AUX_CH_STAT_HALL n) code.toNat).modAux n fun a =>
      { a.pinsLow s.now with precharge := a.precharge }).auxBit n (AUX_CH_STAT_HALL_ERR n)).cause 0x42 3 (.aux n) n none false) := by
  change execHallChange n code s = _
  simp only [execHallChange, State.hallCode_stored, h, Option.isNone_none, if_true]
  rfl

/-- A code with a step: the edge ends a trip's pause, and a channel that drives takes its pattern. -/
theorem exec_hallChange_of_step {n k : Nat} {code : BitVec 3} {s : State}
    (h : hallStep (if s.rd (AUX_CH_CFG_HINV n) = 1 then 7 - code.toNat else code.toNat) = some k) :
    ∃ u, u = { s with
        regs := (if (s.auxCh n).cleanStep then (s.regs.wr (AUX_CH_STAT_HALL n) code.toNat).wr (AUX_CH_STAT_TRIP_CONSEC n) 0
          else s.regs.wr (AUX_CH_STAT_HALL n) code.toNat),
        aux := updAt s.aux n fun a => { a with hallAt := s.now, tripped := false, cleanStep := true } } ∧
      exec (.hallChange n code) s = .next (if u.auxDrives n then u.drive n else u) := by
  refine ⟨_, rfl, ?_⟩
  change execHallChange n code s = _
  have hch : (s.wr (AUX_CH_STAT_HALL n) code.toNat).auxCh n = s.auxCh n := rfl
  simp only [execHallChange, State.hallCode_stored, h, hch, Option.isNone_some, Bool.false_eq_true, if_false]
  cases (s.auxCh n).cleanStep <;> rfl

/-! ### Trips (R215, R216) -/

/-- A shunt voltage above a level in force trips a running channel. -/
theorem exec_auxShuntTrip_of_above {n uv : Nat} {s : State} (hrun : s.auxRuns n = true)
    (h : 4000 * s.rd (AUX_CH_ISNS_HARD n) < uv ∨
      4000 * s.rd (AUX_CH_ISNS_LO n) < uv ∧ (s.auxCh n).edgeAt + 40 * s.rd (AUX_CH_CFG_BLANK n) ≤ s.now) :
    exec (.auxShuntTrip n uv) s = .next (s.auxTrip n) := by
  change execAuxShuntTrip n uv s = _
  have hc : (decide (4000 * s.rd (AUX_CH_ISNS_HARD n) < uv) || (decide (4000 * s.rd (AUX_CH_ISNS_LO n) < uv) &&
      !decide (s.now < (s.auxCh n).edgeAt + 40 * s.rd (AUX_CH_CFG_BLANK n)))) = true := by simpa using h
  simp only [execAuxShuntTrip, hrun, hc, Bool.and_self, if_true]

theorem exec_auxShuntTrip_of_within {n uv : Nat} {s : State}
    (h : s.auxRuns n = false ∨ uv ≤ 4000 * s.rd (AUX_CH_ISNS_HARD n) ∧
      (uv ≤ 4000 * s.rd (AUX_CH_ISNS_LO n) ∨ s.now < (s.auxCh n).edgeAt + 40 * s.rd (AUX_CH_CFG_BLANK n))) :
    exec (.auxShuntTrip n uv) s = .next s := by
  change execAuxShuntTrip n uv s = _
  have hc : (s.auxRuns n && (decide (4000 * s.rd (AUX_CH_ISNS_HARD n) < uv) || (decide (4000 * s.rd (AUX_CH_ISNS_LO n) < uv) &&
      !decide (s.now < (s.auxCh n).edgeAt + 40 * s.rd (AUX_CH_CFG_BLANK n))))) = false := by
    rcases h with h | ⟨hhard, hlo⟩
    · rw [h, Bool.false_and]
    · have hhard : decide (4000 * s.rd (AUX_CH_ISNS_HARD n) < uv) = false := decide_eq_false (Nat.not_lt.mpr hhard)
      rw [hhard, Bool.false_or]
      rcases hlo with hlo | hblank
      · rw [decide_eq_false (Nat.not_lt.mpr hlo), Bool.false_and, Bool.and_false]
      · rw [decide_eq_true hblank, Bool.not_true, Bool.and_false, Bool.and_false]
  simp only [execAuxShuntTrip, hc, Bool.false_eq_true, if_false]

/-- A channel after a trip: its pins low until the next Hall edge, and the trip counted. -/
def State.auxTripped (s : State) (n : Nat) : State :=
  ((s.modAux n fun a => { a.pinsLow s.now with tripped := true, cleanStep := false, tripAt := some s.now }).bump
    (AUX_CH_STAT_TRIPS n)).wr (AUX_CH_STAT_TRIP_CONSEC n) (s.rd (AUX_CH_STAT_TRIP_CONSEC n) + 1)

/-- The other channels that have tripped within 10 µs. -/
def State.auxNear (s : State) (n : Nat) : List Nat :=
  numsWhere 4 fun m => m ≠ n && (s.auxCh m).tripAt.any fun t => s.now ≤ t + 4000

theorem State.auxTrip_of_few {s : State} {n : Nat} (hk : s.rd (AUX_CH_STAT_TRIP_CONSEC n) < 7)
    (hnear : (s.auxTripped n).auxNear n = []) : s.auxTrip n = s.auxTripped n := by
  have hmin : min 8 (s.rd (AUX_CH_STAT_TRIP_CONSEC n) + 1) = s.rd (AUX_CH_STAT_TRIP_CONSEC n) + 1 := by omega
  have hne : s.rd (AUX_CH_STAT_TRIP_CONSEC n) + 1 ≠ 8 := by omega
  unfold State.auxNear State.auxTripped at hnear
  simp only [State.auxTrip, State.rd_modAux, hmin, hne, if_false, hnear, List.isEmpty_nil, if_true]
  rfl

/-- AUX_SUPPLY on each of some channels. -/
def State.auxSupplyFaults (s : State) (l : List Nat) : State := l.foldl (fun u m => u.auxFault m 0x12 (AUX_CH_STAT_SUPPLY m)) s

/-- The eighth trip in a row latches AUX_OC; trips near it may bring AUX_SUPPLY. -/
theorem State.auxTrip_of_eighth {s : State} {n : Nat} (hk : s.rd (AUX_CH_STAT_TRIP_CONSEC n) = 7) :
    ∃ l, s.auxTrip n = ((s.auxTripped n).auxFault n 0x11 (AUX_CH_STAT_OC n)).auxSupplyFaults l := by
  unfold State.auxTrip State.auxTripped
  simp only [State.rd_modAux, hk, Nat.min_self, if_true, Nat.reduceAdd]
  split
  · exact ⟨[], rfl⟩
  · exact ⟨_, rfl⟩

theorem State.rd_auxTripped_oc (s : State) (n : Nat) : (s.auxTripped n).rd (AUX_CH_STAT_OC n) = s.rd (AUX_CH_STAT_OC n) := by
  unfold State.auxTripped State.bump
  rw [State.rd_wr_other _ (by decide) (by decide) (by decide) (by decide),
    State.rd_wr_other _ (by decide) (by decide) (by decide) (by decide), State.rd_modAux]

theorem State.auxNear_auxTripped {s : State} {n : Nat} (h : ∀ m < 4, m ≠ n → (s.auxCh m).tripAt = none) :
    (s.auxTripped n).auxNear n = [] := by
  have hch : ∀ m, m ≠ n → (s.auxTripped n).auxCh m = s.auxCh m := fun m hm => s.auxCh_modAux_ne _ hm
  simp only [State.auxNear, numsWhere, List.filter_eq_nil_iff, List.mem_range, Bool.and_eq_true, decide_eq_true_eq, not_and]
  intro m hm hne
  simp [hch m hne, h m hm hne]

theorem State.rd_wr_auxSupply (s : State) (m : Nat) {n hi lo : Nat} (h : lo ≤ hi) (hh : hi < 32) (hb : 11 < lo ∨ hi < 11) :
    (s.wr (AUX_CH_STAT_SUPPLY m) 1).rd ⟨AUX_CH_STAT n, hi, lo⟩ = s.rd ⟨AUX_CH_STAT n, hi, lo⟩ := by
  by_cases hm : n = m
  · subst hm
    exact State.rd_wr_other _ (by decide) h hh hb
  · exact State.rd_wr_off _ _ (by simp only [AUX_CH_STAT]; omega)

theorem State.rd_auxSupplyFaults (s : State) (l : List Nat) {n hi lo : Nat} (hn : n < 4) (h : lo ≤ hi) (hh : hi < 32)
    (hb : 11 < lo ∨ hi < 11) : (s.auxSupplyFaults l).rd ⟨AUX_CH_STAT n, hi, lo⟩ = s.rd ⟨AUX_CH_STAT n, hi, lo⟩ :=
  State.rd_foldl _ _ (fun u m => u.rd_auxFault_of m _ hn fun v => v.rd_wr_auxSupply m h hh hb) l s

theorem State.mem_auxSupplyFaults_causes (s : State) (l : List Nat) {c : Cause} (hc : c ∈ s.faults.causes)
    (hne : c.code ≠ 0x12) : c ∈ (s.auxSupplyFaults l).faults.causes :=
  List.foldlRecOn (motive := fun t : State => c ∈ t.faults.causes) l _ hc fun t ht m _ =>
    t.mem_auxFault_causes_of_ne m 0x12 _ ht hne

/-- The eighth trip in a row: AUX_OC stands, and its cause is recorded. -/
theorem State.auxTrip_of_eighth_latches {s : State} {n : Nat} (hn : n < 4) (hrun : s.auxRuns n = true)
    (hk : s.rd (AUX_CH_STAT_TRIP_CONSEC n) = 7) :
    (s.auxTrip n).rd (AUX_CH_STAT_OC n) = 1 ∧ (s.auxTrip n).rd (AUX_CH_STAT_TRIP_CONSEC n) = 8 ∧
      ∃ c ∈ (s.auxTrip n).faults.causes, c.code = 0x11 ∧ c.scope = .aux n := by
  obtain ⟨l, e⟩ := State.auxTrip_of_eighth hk
  have hoc : (s.auxTripped n).on (AUX_CH_STAT_OC n) = false := by
    simp only [State.auxRuns, Bool.and_eq_true, Bool.not_eq_true'] at hrun
    obtain ⟨⟨⟨-, hoc⟩, -⟩, -⟩ := hrun
    rwa [State.on, State.rd_auxTripped_oc]
  obtain ⟨c, hmem, hcode, hscope⟩ := (s.auxTripped n).exists_cause_auxFault n 0x11 hoc
  rw [e]
  refine ⟨?_, ?_, c, State.mem_auxSupplyFaults_causes _ l hmem (by rw [hcode]; decide), hcode, hscope⟩
  · rw [State.rd_auxSupplyFaults _ l hn (by decide) (by decide) (by decide)]
    exact State.rd_auxFault_self _ _ _ _ hn (by decide)
  · rw [State.rd_auxSupplyFaults _ l hn (by decide) (by decide) (by decide), State.rd_auxFault_of _ _ _ hn fun u =>
      State.rd_wr_other u (by decide) (by decide) (by decide) (by decide), State.auxTripped, hk]
    exact State.rd_wr_of_fits _ (by decide) (by decide) (by decide)

/-! ### Precharge, chopping and stalls (R214, R216) -/

theorem exec_auxPrechargeEnd_of_due {n t0 : Nat} {s : State} (h : (s.auxCh n).precharge = some t0) :
    ∃ u, u = (s.passTo t0).modAux n (fun a => { a with precharge := none }) ∧
      exec (.auxPrechargeEnd n) s = .next (if u.auxDrives n then u.drive n else u) := by
  refine ⟨_, rfl, ?_⟩
  change execAuxPrechargeEnd n s = _
  simp only [execAuxPrechargeEnd, h]

/-- A channel as a chopping period that starts now leaves it, with the end of its on-part. -/
def Aux.chopped (now : Nat) (part : Option Nat) (a : Aux) : Aux :=
  let b := ({ a with perAt := some now, chopEnd := part } : Aux).driven now
  { b with edgeAt := if b.pins = a.pins then a.edgeAt else now }

section
variable {n : Nat} {s u : State} (hu : u = (s.auxCh n).perAt.elim s fun t => s.passTo (t + s.rd (AUX_CH_PWM_PER n)))
include hu

theorem exec_choppingPeriod_eq : exec (.choppingPeriod n) s = .next (if u.auxDrives n && u.on (AUX_CH_CFG_MODE n) then
    u.modAux n (Aux.chopped u.now (if u.rd (AUX_CH_CFG_AUX_DT n) ≤ u.rd (AUX_CH_PWM_DUTY n) * u.rd (AUX_CH_PWM_PER n) / 65536
      then some (u.now + u.rd (AUX_CH_PWM_DUTY n) * u.rd (AUX_CH_PWM_PER n) / 65536) else none)) else u) := by
  change execChoppingPeriod n s = _
  rw [execChoppingPeriod]
  cases hp : (s.auxCh n).perAt <;> rw [hp] at hu <;> subst hu <;> rfl

/-- A chopping period of a channel that chops: the on-part starts, where it is not shorter than AUX_DT. -/
theorem exec_choppingPeriod_of_chops {on : Nat} (hon : on = u.rd (AUX_CH_PWM_DUTY n) * u.rd (AUX_CH_PWM_PER n) / 65536)
    (hd : u.auxDrives n = true) (hm : u.rd (AUX_CH_CFG_MODE n) = 1) :
    ∃ a b, a = { u.auxCh n with
        perAt := some u.now, chopEnd := (if u.rd (AUX_CH_CFG_AUX_DT n) ≤ on then some (u.now + on) else none) } ∧
      b = a.driven u.now ∧ exec (.choppingPeriod n) s = .next { u with
        aux := u.aux.set n { b with edgeAt := if b.pins = (u.auxCh n).pins then b.edgeAt else u.now } } := by
  refine ⟨_, _, rfl, rfl, ?_⟩
  rw [exec_choppingPeriod_eq hu, if_pos (by simp [State.on, hd, hm]), State.modAux, updAt_eq_set _ _ _ Aux.reset, ← hon]
  rfl

theorem exec_choppingPeriod_of_not (h : u.auxDrives n = false ∨ u.rd (AUX_CH_CFG_MODE n) ≠ 1) :
    exec (.choppingPeriod n) s = .next u := by
  rw [exec_choppingPeriod_eq hu, if_neg (by rcases h with h | h <;> simp [State.on, h])]

end

theorem exec_auxStall_of_running {n : Nat} {s : State} (hrun : s.rd (AUX_CH_CTRL_RUN n) = 1)
    (hst : (s.auxCh n).stalled = false) :
    ∃ u, u = s.passTo ((s.auxCh n).hallAt + 400000 * s.rd (AUX_CH_TIME_STALL_T n)) ∧ exec (.auxStall n) s = .next
      (((u.modAux n fun a => { a.pinsLow u.now with stalled := true }).auxBit n (AUX_CH_STAT_STALL n)).cause
        0x43 3 (.aux n) n none false) := by
  refine ⟨_, rfl, ?_⟩
  change execAuxStall n s = _
  have hc : (!s.on (AUX_CH_CTRL_RUN n) || (s.auxCh n).stalled) = false := by simp [State.on, hrun, hst]
  simp only [execAuxStall, hc, Bool.false_eq_true, if_false]

/-- A status bit of a channel with a cause of class E, after a change of the channel: the bit reads 1, and of the other parts
only the journal, the event controllers and the registers change. -/
theorem State.auxBit_cause_frame (s : State) {n : Nat} (f : Aux → Aux) (i code key : Nat) (hn : n < 4) (hi : i < 32) :
    ∃ t, t = ((s.modAux n f).auxBit n ⟨AUX_CH_STAT n, i, i⟩).cause code 3 (.aux n) key none false ∧
      t.rd ⟨AUX_CH_STAT n, i, i⟩ = 1 ∧ t.aux = updAt s.aux n f ∧
      t = { s with regs := t.regs, eic := t.eic, laneA := t.laneA, laneB := t.laneB, journal := t.journal, aux := t.aux } := by
  obtain ⟨t, ht, hframe⟩ := ((s.modAux n f).auxBit n ⟨AUX_CH_STAT n, i, i⟩).cause_of_other_frame (code := code) (cls := 3)
    (.aux n) key none false (by decide)
  refine ⟨t, ht, ?_, ?_, ?_⟩
  · rw [ht, State.rd_cause_auxStat _ _ _ _ _ _ _ hn, State.rd_auxBit_self _ _ _ _ hi]
  · rw [hframe]
    simp [State.modAux]
  · rw [hframe]
    exact State.eq_of_parts (by simp)

/-- Settles O21: each clause is the rule of its command; a cause of a channel leaves its status register alone. -/
theorem auxiliaryDrivesCommutateAndTrip : Obligations.AuxiliaryDrivesCommutateAndTrip := by
  unfold Obligations.AuxiliaryDrivesCommutateAndTrip
  refine ⟨?invalid, fun n k code s _ h => exec_hallChange_of_step h, fun n t0 s h => exec_auxPrechargeEnd_of_due h,
    fun n on s u hu hon => ⟨exec_choppingPeriod_of_chops hu hon, exec_choppingPeriod_of_not hu⟩,
    fun n uv s h => exec_auxShuntTrip_of_within h, ?trip, ?eighth, ?stall⟩
  case invalid =>
    intro n code s hn h
    obtain ⟨t, ht, hbit, haux, hframe⟩ := (s.wr (AUX_CH_STAT_HALL n) code.toNat).auxBit_cause_frame
      (fun a => { a.pinsLow s.now with precharge := a.precharge }) 8 0x42 n hn (by decide)
    refine ⟨t, ht ▸ exec_hallChange_of_invalid h, ?_, hbit, haux, hframe⟩
    rw [ht, State.rd_cause_auxStat _ _ _ _ _ _ _ hn, State.rd_auxBit_of _ _
      (State.rd_wr_other _ (by decide) (by decide) (by decide) (by decide)), State.rd_modAux]
    exact s.rd_wr_of_fits (by decide) (by decide) code.isLt
  case trip =>
    intro n uv s hn hrun hk hv hnear
    rw [exec_auxShuntTrip_of_above hrun hv, State.auxTrip_of_few hk (State.auxNear_auxTripped hnear)]
    rfl
  case eighth =>
    intro n uv s hn hrun hk hv
    exact ⟨_, exec_auxShuntTrip_of_above hrun hv, State.auxTrip_of_eighth_latches hn hrun hk⟩
  case stall =>
    intro n s hn hrun hst
    obtain ⟨u, hu, e⟩ := exec_auxStall_of_running hrun hst
    obtain ⟨t, ht, hbit, haux, hframe⟩ := u.auxBit_cause_frame
      (fun a => { a.pinsLow u.now with stalled := true }) 9 0x43 n hn (by decide)
    exact ⟨u, t, hu, ht ▸ e, hbit, haux, hframe⟩

end Sys2Proof.Machine
end

section
/-! PROOFS. Running gate links: delays, telemetry, losses and driver faults: obligation O23. -/
namespace Sys2Proof.Machine

/-! ### The causes that telemetry reports (R208, R232) -/

theorem map_updAt_of_keep {α β : Type} (g : α → β) (f : α → α) (h : ∀ a, g (f a) = g a) (l : List α) (i : Nat) :
    (updAt l i f).map g = l.map g := by
  induction l generalizing i with
  | nil => rfl
  | cons a t ih =>
    cases i with
    | zero => simp [updAt, h]
    | succ i => simp [updAt, ih]

/-- The causes that the last telemetry frame of each link reports. -/
def State.reported (s : State) : List (List Nat) := s.gl.links.map Link.faultActive

theorem State.link_faultActive (s : State) (n : Nat) : (s.link n).faultActive = s.reported.getD n [] := by
  simp only [State.link, State.reported, List.getD_eq_getElem?_getD, List.getElem?_map]
  cases s.gl.links[n]? <;> rfl

theorem State.reported_of_gl {s t : State} (h : t.gl = s.gl) : t.reported = s.reported := by rw [State.reported, h, State.reported]

theorem State.reported_glSend (s : State) (n type : Nat) (payload : List Byte) :
    (s.glSend n type payload).reported = s.reported := by
  refine map_updAt_of_keep _ _ ?_ _ _
  exact fun _ => rfl

theorem Link.launch_faultActive (l : Link) (now : Nat) (moves : List (Int × Gl1Line)) :
    (l.launch now moves).faultActive = l.faultActive := by
  cases moves <;> rfl

theorem State.reported_sendBlock (s : State) (leg : Nat) (offs : List (Nat × Int)) :
    (s.sendBlock leg offs).reported = s.reported := by
  have hframe : ∀ (u : State) (l : List (Nat × Int)),
      State.reported (if l.isEmpty then u else u.glSend leg 0x11 (edgePayload (l.map fun x => edgeRecord x.1 false x.2))) =
        u.reported := fun u l => by
    split
    · rfl
    · exact u.reported_glSend _ _ _
  unfold State.sendBlock
  dsimp only
  split
  · exact map_updAt_of_keep _ _ (fun l => l.launch_faultActive _ _) _ _
  · split
    · rw [hframe, hframe]
    · rfl

theorem State.reported_blockLeg (s : State) (leg : Nat) : (s.blockLeg leg).reported = s.reported := by
  unfold State.blockLeg
  split
  · rfl
  · exact State.reported_sendBlock _ _ _

theorem State.reported_blockThread (s : State) (t : Nat) : (s.blockThread t).reported = s.reported :=
  foldl_keep State.reported _ State.reported_blockLeg _ s

theorem State.reported_blockAll (s : State) : s.blockAll.reported = s.reported :=
  foldl_keep State.reported _ State.reported_blockThread _ s

theorem State.reported_applyB (s : State) (scope : Scope) : (s.applyB scope).reported = s.reported := by
  cases scope with
  | thread t => exact (State.reported_of_gl (by simp [State.applyB])).trans (s.reported_blockThread t)
  | module => exact (State.reported_of_gl (by simp [State.applyB])).trans s.reported_blockAll
  | aux n => rfl
  | link n => rfl

theorem State.reported_applyL (s : State) (code : Nat) : (s.applyL code).reported = s.reported := by
  refine Eq.trans (State.reported_of_gl ?_) s.reported_blockAll
  simp [State.applyL]

theorem State.reported_cause (s : State) (code cls : Nat) (scope : Scope) (key : Nat) (leg : Option Nat) (active : Bool) :
    (s.cause code cls scope key leg active).reported = s.reported := by
  have hrec : (s.recordCause code cls scope key leg active).reported = s.reported :=
    State.reported_of_gl (by simp [State.recordCause])
  have hcls : ∀ u : State, (u.classEffect code cls scope leg).reported = u.reported := fun u => by
    unfold State.classEffect
    split
    · exact (State.reported_applyB _ _).trans (State.reported_of_gl (by simp))
    · exact u.reported_applyL code
  by_cases h : cls = 1 ∨ cls = 2
  · rw [State.cause_eq s scope key leg active h]
    exact (State.reported_of_gl (by simp [State.safetyEffect])).trans ((hcls _).trans hrec)
  · rw [State.cause_eq_of_other s scope key leg active h]
    exact State.reported_of_gl (by simp)

/-- A driver's cause on a leg leaves alone what telemetry reports. -/
theorem State.reported_legCause (s : State) (code leg key : Nat) (shoot : Bool) :
    (s.legCause code leg key shoot).reported = s.reported := by
  unfold State.legCause
  dsimp only
  split
  · split
    · rw [State.reported_cause]
      exact s.reported_cause _ _ _ _ _ _
    · exact s.reported_cause _ _ _ _ _ _
  · exact s.reported_cause _ _ _ _ _ _

/-! ### Running links (R202, R208, R232) -/

/-- The least of the supply bytes of a leg's switches in a telemetry frame (R208). -/
def State.tlmLeast (s : State) (n : Nat) (bytes : List Byte) (base : Nat) : Nat :=
  (legSwitches (s.legType n)).foldl (fun a k => min a (bytes.getD (base + k) 0).toNat) 255

/-- A telemetry frame as the link's registers keep it (R208). -/
def State.tlmStored (s : State) (n : Nat) (bytes : List Byte) : State :=
  let u := ((s.modLink n fun l => { l with tlmAt := s.now }).wr (GL_LINK_TLM0_TLM0 n) (ofLe (bytes.take 4)))
  let v := (u.wr (GL_LINK_TLM1_VCC_MIN n) (s.tlmLeast n bytes 4)).wr (GL_LINK_TLM1_VEE_MIN n) (s.tlmLeast n bytes 10)
  if (bytes.getD 2 0).getLsbD 0 then v.bump (GL_LINK_TLM1_LATE_CNT n) else v

/-- A link in negotiation or running counts a bad frame (R204). -/
theorem State.badFrame_of_taken {s : State} {n : Nat}
    (h : s.rd (GL_LINK_STAT_STATE n) = 1 ∨ s.rd (GL_LINK_STAT_STATE n) = 3) : s.badFrame n = s.bump (GL_LINK_ERR_CRC_ERR n) :=
  if_pos (by rcases h with h | h <;> simp [State.linkSt, h])

section
variable {n : Nat} {s : State} (hup : s.rd (GL_LINK_STAT_STATE n) = 3)
include hup

/-- A ping of a running link: D_NOW is the delay of the last 64, and DRIFT follows beyond 2 ns. -/
theorem exec_pingPeriodic_of_up {rt : Nat} {ps : List Nat} {u : State}
    (hps : ps = ((s.link n).pings ++ [rt]).drop (((s.link n).pings ++ [rt]).length - 64))
    (hu : u = (s.modLink n fun l => { l with pings := ps }).wr (GL_LINK_DELAY_D_NOW n) (pingDelay ps)) :
    exec (.pingPeriodic n rt) s = .next (
      if (u.rd (GL_LINK_DELAY_D_USED n) + 25 < u.rd (GL_LINK_DELAY_D_NOW n) ||
          u.rd (GL_LINK_DELAY_D_NOW n) + 25 < u.rd (GL_LINK_DELAY_D_USED n)) && !u.on (GL_LINK_STAT_DRIFT n) then
        (u.wr (GL_LINK_STAT_DRIFT n) 1).cause 0x41 3 (.link n) n (some n) true
      else u) := by
  subst hu hps
  exact congrArg Host.Outcome.next (if_pos hup)

/-- A valid telemetry frame: its contents are stored, a link loss ends, and its flags tell the causes that are active. -/
theorem exec_glTlm_of_valid {bytes : List Byte} (hlen : bytes.length = 16) :
    exec (.glTlm n true bytes) s = .next
      ((((s.tlmStored n bytes).causeEnd 0x0C n).tlmFlag n 1 (bytes.getD 0 0 ≠ 0)).tlmFlag n 2 (bytes.getD 1 0 ≠ 0)) := by
  change execGlTlm n true bytes s = _
  have hok : ¬ (!true || decide (bytes.length ≠ 16)) = true := by simp [hlen]
  have hst : ¬ s.linkSt n ≠ 3 := not_not_intro hup
  rw [execGlTlm, if_neg hok, if_neg hst]
  rfl

/-- A fault triple whose halves agree: its cause arises, FAULT_ACK goes out, and the cause ends with the symbols (R209). -/
theorem exec_glFault_of_agree {d : Byte} {f : Bool} {u : State} (hu : u = if f then s.bump (GL_LINK_ERR_ABORT n) else s)
    (hact : s.causeActive (faultCode d) n = false) (hrep : faultCode d ∉ (s.link n).faultActive) :
    exec (.glFault n d (~~~d) f) s = .next
      (((u.legCause (faultCode d) n n (faultCode d = 1)).glSend n 0x12 [d &&& 0x3F]).causeEnd (faultCode d) n) := by
  have hactu : ¬ u.causeActive (faultCode d) n = true := by
    have e : u.causeActive (faultCode d) n = s.causeActive (faultCode d) n := by subst hu; cases f <;> rfl
    simp [e, hact]
  have hrepu : ¬ (((u.legCause (faultCode d) n n (faultCode d = 1)).glSend n 0x12 [d &&& 0x3F]).link
      n).faultActive.contains (faultCode d) = true := by
    have e : u.reported = s.reported := by subst hu; cases f <;> rfl
    rw [State.link_faultActive, State.reported_glSend, State.reported_legCause, e, ← State.link_faultActive]
    simpa using hrep
  have hst : ¬ s.linkSt n ≠ 3 := not_not_intro hup
  change execGlFault n d (~~~d) f s = _
  rw [execGlFault, if_neg hst]
  dsimp only
  rw [← hu, if_neg (not_not_intro rfl), if_neg hactu, if_neg hrepu]

end

/-! ### What a valid telemetry frame leaves (R208) -/

/-- A flag byte of 0 ends a cause that was reported, and does no more (R232). -/
theorem State.tlmFlag_false (s : State) (n code : Nat) : s.tlmFlag n code false =
    if (s.link n).faultActive.contains code then
      (s.modLink n fun l => { l with faultActive := l.faultActive.filter (· ≠ code) }).causeEnd code n else s := by
  simp [State.tlmFlag]

theorem State.tlmFlag_false_frame (s : State) (n code : Nat) : ∃ t, t = s.tlmFlag n code false ∧ t.gl.sent = s.gl.sent ∧
    (∀ x : Fld, 0xD000 ≤ x.off → t.rd x = s.rd x) ∧
    (∀ code' key, s.causeActive code' key = false → t.causeActive code' key = false) ∧
    t = { s with regs := t.regs, faults := t.faults, gl := t.gl } := by
  refine ⟨_, rfl, ?_⟩
  rw [State.tlmFlag_false]
  split
  · exact ⟨by simp [State.modLink], fun x hx => State.rd_causeEnd_of_beyond hx _ _ _,
      fun _ _ h => State.causeActive_causeEnd_of _ _ _ h, State.eq_of_parts (by simp)⟩
  · exact ⟨rfl, fun _ _ => rfl, fun _ _ h => h, rfl⟩

theorem ofLe_lt (l : List Byte) : ofLe l < 256 ^ l.length := by
  induction l with
  | nil => exact Nat.one_pos
  | cons b t ih =>
    have hb : b.toNat < 256 := b.isLt
    rw [ofLe, List.length_cons, Nat.pow_succ]
    omega

theorem State.rd_tlmStored_tlm0 (s : State) (n : Nat) (bytes : List Byte) :
    (s.tlmStored n bytes).rd (GL_LINK_TLM0_TLM0 n) = ofLe (bytes.take 4) := by
  have hoff : GL_LINK_TLM0 n ≠ GL_LINK_TLM1 n := by simp only [GL_LINK_TLM0, GL_LINK_TLM1]; omega
  have hlt : ofLe (bytes.take 4) < 2 ^ 32 :=
    Nat.lt_of_lt_of_le (ofLe_lt _) (Nat.pow_le_pow_right (by decide) (List.length_take_le 4 bytes) : _ ≤ 256 ^ 4)
  have hrd : ∀ u : State, (u.wr (GL_LINK_TLM0_TLM0 n) (ofLe (bytes.take 4))).rd (GL_LINK_TLM0_TLM0 n) = ofLe (bytes.take 4) :=
    fun u => u.rd_wr_of_fits (by decide) (by decide) hlt
  unfold State.tlmStored
  dsimp only
  split
  · rw [State.bump, State.rd_wr_mk _ hoff, State.rd_wr_mk _ hoff, State.rd_wr_mk _ hoff, hrd]
  · rw [State.rd_wr_mk _ hoff, State.rd_wr_mk _ hoff, hrd]

theorem State.rd_tlmStored_late (s : State) (n : Nat) (bytes : List Byte) :
    (s.tlmStored n bytes).rd (GL_LINK_TLM1_LATE_CNT n) = (if (bytes.getD 2 0).getLsbD 0 then
      (s.rd (GL_LINK_TLM1_LATE_CNT n) + 1) % 65536 else s.rd (GL_LINK_TLM1_LATE_CNT n)) := by
  have hoff : GL_LINK_TLM1 n ≠ GL_LINK_TLM0 n := by simp only [GL_LINK_TLM0, GL_LINK_TLM1]; omega
  have hmins : ∀ a b c, (((s.modLink n fun l => { l with tlmAt := s.now }).wr (GL_LINK_TLM0_TLM0 n) a).wr
      (GL_LINK_TLM1_VCC_MIN n) b |>.wr (GL_LINK_TLM1_VEE_MIN n) c).rd (GL_LINK_TLM1_LATE_CNT n) =
        s.rd (GL_LINK_TLM1_LATE_CNT n) := fun a b c => by
    rw [State.rd_wr_other _ (by decide) (by decide) (by decide) (by decide),
      State.rd_wr_other _ (by decide) (by decide) (by decide) (by decide), State.rd_wr_mk _ hoff]
    rfl
  unfold State.tlmStored
  dsimp only
  split
  · rw [State.bump, hmins]
    exact State.rd_wr_self _ (by decide) (by decide)
  · exact hmins _ _ _

/-- Telemetry without a reported cause: stored, with the link loss ended. -/
theorem State.tlmStored_frame (s : State) {n : Nat} (hn : n < 48) (bytes : List Byte) :
    ∃ t, t = (((s.tlmStored n bytes).causeEnd 0x0C n).tlmFlag n 1 false).tlmFlag n 2 false ∧
      t.rd (GL_LINK_TLM0_TLM0 n) = ofLe (bytes.take 4) ∧
      t.rd (GL_LINK_TLM1_LATE_CNT n) = (if (bytes.getD 2 0).getLsbD 0 then (s.rd (GL_LINK_TLM1_LATE_CNT n) + 1) % 65536
        else s.rd (GL_LINK_TLM1_LATE_CNT n)) ∧
      t.causeActive 0x0C n = false ∧ t.gl.sent = s.gl.sent ∧
      t = { s with regs := t.regs, faults := t.faults, gl := t.gl } := by
  have htlm0 : 0xD000 ≤ (GL_LINK_TLM0_TLM0 n).off := by simp only [GL_LINK_TLM0]; omega
  have htlm1 : 0xD000 ≤ (GL_LINK_TLM1_LATE_CNT n).off := by simp only [GL_LINK_TLM1]; omega
  obtain ⟨u, hu, husent, hurd, huact, huframe⟩ := ((s.tlmStored n bytes).causeEnd 0x0C n).tlmFlag_false_frame n 1
  obtain ⟨t, ht, htsent, htrd, htact, htframe⟩ := u.tlmFlag_false_frame n 2
  refine ⟨t, hu ▸ ht, ?_, ?_, htact _ _ (huact _ _ (State.causeActive_causeEnd _ _ _)), ?_, ?_⟩
  · rw [htrd _ htlm0, hurd _ htlm0, State.rd_causeEnd_of_beyond htlm0, State.rd_tlmStored_tlm0]
  · rw [htrd _ htlm1, hurd _ htlm1, State.rd_causeEnd_of_beyond htlm1, State.rd_tlmStored_late]
  · rw [htsent, husent]
    simp [State.tlmStored, State.modLink]
  · rw [htframe, huframe]
    exact State.eq_of_parts (by simp [State.tlmStored])

/-- Settles O23: each clause is the rule of its command on a link in the state named. -/
theorem runningGateLinksReport : Obligations.RunningGateLinksReport := by
  unfold Obligations.RunningGateLinksReport
  refine ⟨?ping, fun n s hup => congrArg Host.Outcome.next (if_pos hup), ?badTlm, ?tlm,
    fun n s hup => congrArg Host.Outcome.next (if_pos hup), ?alignment, ?characters, ?disagree,
    fun n d f s hup hact hrep => ⟨_, rfl, exec_glFault_of_agree hup rfl hact hrep⟩, ?gl1, ?loss⟩
  case ping =>
    intro n rt s hn hup
    obtain ⟨ps, hps⟩ : ∃ ps, ps = (((s.link n).pings ++ [rt]).drop (((s.link n).pings ++ [rt]).length - 64)) := ⟨_, rfl⟩
    obtain ⟨u, hu⟩ : ∃ u, u = (s.modLink n fun l => { l with pings := ps }).wr (GL_LINK_DELAY_D_NOW n) (pingDelay ps) := ⟨_, rfl⟩
    have hoff : GL_LINK_STAT n ≠ GL_LINK_DELAY n := by simp only [GL_LINK_STAT, GL_LINK_DELAY]; omega
    have hdr : u.on (GL_LINK_STAT_DRIFT n) = s.on (GL_LINK_STAT_DRIFT n) := by
      rw [State.on, hu, State.rd_wr_mk _ hoff]
      rfl
    refine ⟨ps, hps, u, hu, fun hdrift => ?_, fun hle hge => ?_, fun hdrift hlt => ?_⟩ <;>
      rw [exec_pingPeriodic_of_up hup hps hu, hdr]
    · simp [State.on, hdrift]
    · simp [Nat.not_lt.mpr hle, Nat.not_lt.mpr hge]
    · simp [State.on, hdrift, hlt]
  case badTlm => exact fun n bytes s hst => congrArg Host.Outcome.next (State.badFrame_of_taken hst)
  case tlm =>
    intro n bytes s hn hup hlen h0 h1
    obtain ⟨t, ht, hrest⟩ := s.tlmStored_frame hn bytes
    refine ⟨t, ?_, hrest⟩
    rw [exec_glTlm_of_valid hup hlen, h0, h1, ht]
    rfl
  case alignment => exact fun n s hup => congrArg Host.Outcome.next (if_pos (by simp [State.linkSt, hup]))
  case characters => exact fun n s hst hphase => congrArg Host.Outcome.next (if_pos (by simp [State.linkSt, hst, hphase]))
  case disagree =>
    intro n d c f s hup hne
    have hst : ¬ s.linkSt n ≠ 3 := not_not_intro hup
    change execGlFault n d c f s = _
    rw [execGlFault, if_neg hst]
    exact congrArg Host.Outcome.next (if_pos hne)
  case gl1 =>
    intro n s hst
    have hst : ¬ s.linkSt n ≠ 2 := not_not_intro hst
    refine ⟨fun hact => ?_, ?_⟩
    · change execGl1Fault n true s = _
      rw [execGl1Fault, if_neg hst, if_pos rfl, if_neg (by simp [hact])]
    · change execGl1Fault n false s = _
      rw [execGl1Fault, if_neg hst, if_neg Bool.false_ne_true]
  case loss => exact fun n s hact => if_neg (by simp [hact])

end Sys2Proof.Machine
end

section
/-! PROOFS. The negotiation of gate links, the version applied and the latency: obligation O24. -/
namespace Sys2Proof.Machine

open Claims (GateLinksNegotiate HighestCommonVersionIsApplied GateLinkDelayDecidesTheLatency)

/-! ### Negotiation (R199) -/

section
variable {n : Nat} {s : State} (hst : s.rd (GL_LINK_STAT_STATE n) = 1)
include hst

theorem exec_negotiationIdleEnd_of_idle (hphase : (s.link n).phase = 0) :
    ∃ u, u = s.passTo ((s.link n).since + 400000) ∧
      exec (.negotiationIdleEnd n) s = .next ((u.modLink n fun l => { l with phase := 1, since := u.now }).sendHelloReq n) :=
  ⟨_, rfl, congrArg Host.Outcome.next (if_pos (by simp [State.linkSt, hst, hphase]))⟩

theorem exec_glEcho_of_measuring {rt : Nat} (hphase : (s.link n).phase = 2) :
    exec (.glEcho n rt) s = .next (s.modLink n fun l => { l with pings := (l.pings ++ [rt]).take 64 }) :=
  congrArg Host.Outcome.next (if_pos (by simp [State.linkSt, hst, hphase]))

/-- The delay measurement ends: the link comes up with the delay of its echoes, or fails without one (R199, R202). -/
theorem exec_delayMeasured_of_measuring (hphase : (s.link n).phase = 2) :
    exec (.delayMeasured n) s = .next
      (if (s.link n).pings.isEmpty then s.linkFail n 5 else s.linkUp n 3 (pingDelay (s.link n).pings)) :=
  congrArg Host.Outcome.next (if_pos (by simp [State.linkSt, hst, hphase]))

section
variable (hphase : (s.link n).phase = 1)
include hphase

theorem exec_helloReqResend_of_waiting (hreqs : (s.link n).reqs < 20) :
    exec (.helloReqResend n) s = .next ((s.passTo ((s.link n).since + 40000 * (s.link n).reqs)).sendHelloReq n) :=
  congrArg Host.Outcome.next (if_pos (by simp [State.linkSt, hst, hphase, hreqs]))

/-- No HELLO within 2 ms: GL/1 on a two-level leg that allows it, and failure otherwise (R199). -/
theorem exec_helloTimeout_of_waiting : ∃ u, u = s.passTo ((s.link n).since + 800000) ∧
    exec (.helloTimeout n) s = .next (if (s.link n).retrain || !u.on (GL_LINK_CFG_ALLOW_GL1 n) then u.linkFail n 1
      else if u.legType n ≠ 0 then u.linkFail n 4 else u.linkUp n 2 (u.rd (GL_LINK_CFG_GL1_DELAY n))) :=
  ⟨_, rfl, congrArg Host.Outcome.next (if_pos (by simp [State.linkSt, hst, hphase]))⟩

/-- The driver's first answer: its version and its switch count decide (R199). -/
theorem exec_glHello_of_first (hi lo : BitVec 16) (sw : Nat) (type : BitVec 16) (hret : (s.link n).retrain = false) :
    ∃ u, u = s.modLink n (fun l => { l with hello := some { hi := hi, lo := lo, sw := sw, type := type } }) ∧
      exec (.glHello ⟨n, true⟩ hi lo sw type) s = .next (match commonVer hi lo with
        | none => u.linkFail n 2
        | some v => if sw ≠ swCount (s.legType n) then u.linkFail n 3
          else (((u.wr (GL_LINK_STAT_VER n) (v / 256 * 16 + v % 16)).wr (GL_LINK_STAT_SW_CNT n) sw).modLink n fun l =>
            { l with phase := 2, pings := [] }).sendConfig n v sw) := by
  have hwait : (decide (s.linkSt n = 1) && decide ((s.link n).phase = 1)) = true := by simp [State.linkSt, hst, hphase]
  refine ⟨_, rfl, ?_⟩
  change execGlHello ⟨n, true⟩ hi lo sw type s = _
  simp only [execGlHello, hwait, hret]
  cases commonVer hi lo <;> rfl

/-- The driver's answer while the link retrains: the same as before, or failure (R208). -/
theorem exec_glHello_of_retraining (hi lo : BitVec 16) (sw : Nat) (type : BitVec 16) {h : Hello}
    (hret : (s.link n).retrain = true) (hh : (s.link n).hello = some h) :
    ∃ u, u = s.modLink n (fun l => { l with hello := some { hi := hi, lo := lo, sw := sw, type := type } }) ∧
      exec (.glHello ⟨n, true⟩ hi lo sw type) s = .next (if ¬ (h.hi = hi ∧ h.lo = lo) then u.linkFail n 2
        else if h.sw ≠ sw then u.linkFail n 3
        else ((s.modLink n fun l => { l with retrain := false, tlmAt := s.now }).sendConfig n
          (s.rd (GL_LINK_STAT_VER n) / 16 * 256 + s.rd (GL_LINK_STAT_VER n) % 16) sw).setLink n 3) := by
  have hwait : (decide (s.linkSt n = 1) && decide ((s.link n).phase = 1)) = true := by simp [State.linkSt, hst, hphase]
  refine ⟨_, rfl, ?_⟩
  change execGlHello ⟨n, true⟩ hi lo sw type s = _
  simp only [execGlHello, hwait, hret, hh, Option.map_some, Option.some.injEq, BitVec.toNat_inj]
  by_cases h1 : h.hi = hi <;> by_cases h2 : h.lo = lo <;> by_cases h3 : h.sw = sw <;> simp [h1, h2, h3]

end

end

theorem gateLinksNegotiate : GateLinksNegotiate := by
  refine ⟨fun n s hst hphase => exec_negotiationIdleEnd_of_idle hst hphase,
    fun n s hst hphase hreqs => exec_helloReqResend_of_waiting hst hphase hreqs, ?first, ?bad, ?again, ?timeout,
    fun n rt s hst hphase => exec_glEcho_of_measuring hst hphase, ?measured⟩
  case first =>
    intro n sw hi lo type s hst hphase hret
    obtain ⟨u, hu, e⟩ := exec_glHello_of_first hst hphase hi lo sw type hret
    refine ⟨u, hu, fun hv => ?_, fun v hv hsw => ?_, fun v hv hsw => ?_⟩
    · rw [e, hv]
    · rw [e, hv]
      exact congrArg Host.Outcome.next (if_pos hsw)
    · rw [e, hv]
      exact congrArg Host.Outcome.next (if_neg (not_not_intro hsw))
  case bad => exact fun n sw hi lo type s hst => congrArg Host.Outcome.next (State.badFrame_of_taken hst)
  case again =>
    intro n sw hi lo type h s hst hphase hret hh
    obtain ⟨u, hu, e⟩ := exec_glHello_of_retraining hst hphase hi lo sw type hret hh
    refine ⟨fun h1 h2 h3 => ?_, fun hne => ⟨u, hu, ?_⟩⟩
    · rw [e, if_neg (not_not_intro ⟨h1, h2⟩), if_neg (not_not_intro h3)]
    · rw [e, if_pos fun hsame => hne.elim (· hsame.1) (· hsame.2)]
  case timeout =>
    intro n s hst hphase
    obtain ⟨u, hu, e⟩ := exec_helloTimeout_of_waiting hst hphase
    refine ⟨u, hu, fun h => ?_, fun hret hallow htype => ?_, fun hret hallow htype => ?_⟩ <;> rw [e]
    · rw [if_pos (by rcases h with h | h <;> simp [State.on, h])]
    · rw [if_neg (by simp [State.on, hret, hallow]), if_pos htype]
    · rw [if_neg (by simp [State.on, hret, hallow]), if_neg (not_not_intro htype)]
  case measured =>
    intro n s hst hphase
    rw [exec_delayMeasured_of_measuring hst hphase]
    exact ⟨fun h => by simp [h], fun h => by simp [h]⟩

/-! ### The version (R199) -/

theorem highestCommonVersionIsApplied : HighestCommonVersionIsApplied := by
  intro hi lo
  unfold commonVer
  dsimp only
  split
  · rename_i h
    refine ⟨fun v hv => ?_, fun h => absurd h (Option.some_ne_none _)⟩
    obtain rfl := Option.some.inj hv
    exact ⟨by omega, by omega, by omega, by omega, fun w _ _ _ _ => by omega⟩
  · rename_i h
    exact ⟨fun v hv => absurd hv.symm (Option.some_ne_none v), fun _ w hw => h (by omega)⟩

/-! ### The latency (R202, R203) -/

theorem latOf_lt {d : Nat} (h : d < 65536) : latOf d < 65536 := by
  unfold latOf; omega

theorem latOf_mod (d : Nat) : latOf d % 40 = 0 := Nat.mul_mod_right _ _

theorem RegFile.rd_lt (f : RegFile) (x : Fld) : f.rd x < 2 ^ (x.hi + 1 - x.lo) := Nat.mod_lt _ (Nat.two_pow_pos _)

theorem State.linkDelay_lt (s : State) (n : Nat) : s.linkDelay n < 65536 := by
  unfold State.linkDelay
  split
  · exact RegFile.rd_lt _ _
  · exact RegFile.rd_lt _ _

/-- The greatest delay in use of the links that are up. -/
def State.slowestUp (s : State) : Nat :=
  (numsWhere 48 fun n => s.linkSt n = 2 || s.linkSt n = 3).foldl (fun a n => max a (s.linkDelay n)) 0

theorem State.slowestUp_lt (s : State) : s.slowestUp < 65536 :=
  List.foldlRecOn (motive := (· < 65536)) _ _ (by decide) fun _ ha n _ => Nat.max_lt.mpr ⟨ha, s.linkDelay_lt n⟩

theorem State.updLat_of_allOff {s : State} (h : s.allOff = true) :
    s.updLat = s.wr GL_ALIGN_LAT (max 200 (latOf s.slowestUp)) := if_pos h

theorem State.updLat_of_not_allOff {s : State} (h : s.allOff = false) : s.updLat = s := if_neg (by simp [h])

/-- With every thread OFF the latency is 500 ns or more, in whole steps of 100 ns. -/
theorem State.rd_updLat_lat_of_allOff {s : State} (h : s.allOff = true) :
    200 ≤ s.updLat.rd GL_ALIGN_LAT ∧ s.updLat.rd GL_ALIGN_LAT % 40 = 0 := by
  have hlt : max 200 (latOf s.slowestUp) < 2 ^ 16 := Nat.max_lt.mpr ⟨by decide, latOf_lt s.slowestUp_lt⟩
  have hrd : s.updLat.rd GL_ALIGN_LAT = max 200 (latOf s.slowestUp) := by
    rw [State.updLat_of_allOff h, State.rd_wr _ _ _ (by decide) (by decide)]
    exact Nat.mod_eq_of_lt hlt
  have hmod := latOf_mod s.slowestUp
  omega

theorem State.rd_updLat (s : State) {x : Fld} (h : x.off ≠ GL_ALIGN) : s.updLat.rd x = s.rd x :=
  State.rd_ite_of (State.rd_wr_mk _ h) rfl

/-! ### A link that comes up (R203) -/

theorem State.rd_setLink (s : State) (n st : Nat) {x : Fld} (hx : ¬ occurReg x.off) (h : x.off ≠ GL_LINK_STAT n) :
    (s.setLink n st).rd x = s.rd x :=
  State.rd_ite_of rfl (by rw [State.rd_raise _ _ _ (by decide) hx, State.rd_wr_mk _ h])

theorem State.rd_setLink_state (s : State) (n : Nat) {st : Nat} (hst : st < 16) :
    (s.setLink n st).rd (GL_LINK_STAT_STATE n) = st := by
  have hx : ¬ occurReg (GL_LINK_STAT_STATE n).off := by simp only [occurReg, GL_LINK_STAT]; omega
  unfold State.setLink
  split
  · assumption
  · rw [State.rd_raise _ _ _ (by decide) hx]
    exact State.rd_wr_of_fits _ (by decide) (by decide) hst

theorem State.allOff_of_threads {s t : State} (hmod : t.mod = s.mod) (hthr : ∀ k, t.thread k = s.thread k) :
    t.allOff = s.allOff := by
  simp only [State.allOff, State.allThreads, State.present, hmod, hthr]

theorem State.linkUp_of_not_fits {s : State} {n st d : Nat} (h : 25600 < d ∨ (s.allOff = false ∧ s.rd GL_ALIGN_LAT < latOf d)) :
    s.linkUp n st d = s.linkFail n 5 := if_pos (by simpa using h)

@[simp] theorem State.rd_modLink (s : State) (n : Nat) (f : Link → Link) (x : Fld) : (s.modLink n f).rd x = s.rd x := (rfl)

/-- A link that has come up with its delay, before the latency follows. -/
def State.linkRaised (s : State) (n st d : Nat) : State :=
  (((s.wr (GL_LINK_DELAY_D_USED n) d).wr (GL_LINK_DELAY_D_NOW n) d).modLink n fun l =>
    { l with tlmAt := s.now, line := if st = 2 then [(32 * (s.now : Int), .toggle)] else [] }).setLink n st

theorem State.linkUp_of_fits {s : State} {n st d : Nat} (hd : d ≤ 25600) (h : s.allOff = true ∨ latOf d ≤ s.rd GL_ALIGN_LAT) :
    s.linkUp n st d = (s.linkRaised n st d).updLat :=
  if_neg (by rcases h with h | h <;> simp [h, hd])

/-- A register that holds neither the link's state nor its delays. -/
theorem State.rd_linkRaised (s : State) (n st d : Nat) {x : Fld} (hx : ¬ occurReg x.off) (hs : x.off ≠ GL_LINK_STAT n)
    (hd : x.off ≠ GL_LINK_DELAY n) : (s.linkRaised n st d).rd x = s.rd x := by
  rw [State.linkRaised, State.rd_setLink _ _ _ hx hs, State.rd_modLink, State.rd_wr_mk _ hd, State.rd_wr_mk _ hd]

theorem State.allOff_linkRaised (s : State) (n st d : Nat) : (s.linkRaised n st d).allOff = s.allOff := by
  refine State.allOff_of_threads (by simp [State.linkRaised]) fun k => s.rd_linkRaised n st d ?_ ?_ ?_ <;>
    simp only [occurReg, SYS_THREAD_STATE, GL_LINK_STAT, GL_LINK_DELAY] <;> omega

theorem State.rd_linkRaised_delays (s : State) (n st : Nat) {d : Nat} (hd : d < 65536) :
    (s.linkRaised n st d).rd (GL_LINK_DELAY_D_USED n) = d ∧ (s.linkRaised n st d).rd (GL_LINK_DELAY_D_NOW n) = d := by
  have hx : ¬ occurReg (GL_LINK_DELAY n) := by simp only [occurReg, GL_LINK_DELAY]; omega
  have hs : GL_LINK_DELAY n ≠ GL_LINK_STAT n := by simp only [GL_LINK_STAT, GL_LINK_DELAY]; omega
  refine ⟨?_, ?_⟩ <;> rw [State.linkRaised, State.rd_setLink _ _ _ hx hs, State.rd_modLink]
  · rw [State.rd_wr_other _ (by decide) (by decide) (by decide) (by decide)]
    exact State.rd_wr_of_fits _ (by decide) (by decide) hd
  · exact State.rd_wr_of_fits _ (by decide) (by decide) hd

theorem gateLinkDelayDecidesTheLatency : GateLinkDelayDecidesTheLatency := by
  refine ⟨fun d => ?latency, fun n st d s h => State.linkUp_of_not_fits h, ?up⟩
  case latency =>
    refine ⟨?_, latOf_mod d, ?_⟩ <;> unfold latOf <;> omega
  case up =>
    intro n st d s hn hst hd hfits
    have hoff : ∀ off, 0x32100 ≤ off → off ≠ GL_ALIGN := fun off h => by simp only [GL_ALIGN]; omega
    have hstat : GL_LINK_STAT n ≠ GL_ALIGN := hoff _ (by simp only [GL_LINK_STAT]; omega)
    have hdelay : GL_LINK_DELAY n ≠ GL_ALIGN := hoff _ (by simp only [GL_LINK_DELAY]; omega)
    obtain ⟨hused, hnow⟩ := s.rd_linkRaised_delays n st (d := d) (by omega)
    have hall := s.allOff_linkRaised n st d
    refine ⟨_, (State.linkUp_of_fits hd hfits).symm, ?_, ?_, ?_, fun h => ?_, fun h => ?_, ?_⟩
    · rw [State.rd_updLat _ hstat]
      exact State.rd_setLink_state _ _ (by omega)
    · rw [State.rd_updLat _ hdelay, hused]
    · rw [State.rd_updLat _ hdelay, hnow]
    · exact State.rd_updLat_lat_of_allOff (hall.trans h)
    · rw [State.updLat_of_not_allOff (hall.trans h)]
      exact s.rd_linkRaised n st d (by unfold occurReg; decide) hstat.symm hdelay.symm
    · exact State.eq_of_parts (by simp [State.linkRaised])

/-- Settles O24: the negotiation by the step the link is in, the version, and the delay's effect on the latency. -/
theorem gateLinksNegotiateVersionAndDelay : Obligations.GateLinksNegotiateVersionAndDelay :=
  ⟨gateLinksNegotiate, highestCommonVersionIsApplied, gateLinkDelayDecidesTheLatency⟩

end Sys2Proof.Machine
end

section
/-! PROOFS. What comes from a lane, its watchdog and its restart: obligation O36. -/
namespace Sys2Proof.Machine

/-! ### Self-checks (R253) -/

section
variable {i : LaneId} {g0 g1 : BitVec 64} {s : State}

/-- A verdict comes from a live lane whose datapaths have both run the signature program, while one is awaited of it. -/
theorem exec_selfCheckVerdict_of_due (hpend : s.rd LANE_STAT_VERDICT_PEND = 1)
    (hnone : s.duplex.verdicts.getD (LaneId.num i) none = none) (hlive : s.laneLive i = true)
    (h0 : (s.lane i).cle.dp0.sigPend = false) (h1 : (s.lane i).cle.dp1.sigPend = false) :
    ∃ u, u = s.passTo (max (s.lane i).cle.dp0.sigUntil (s.lane i).cle.dp1.sigUntil) ∧
    exec (.selfCheckVerdict i g0 g1) s = .next ((u.modLane i fun l => { l with lockstep := false, ecc := false }).modDuplex fun d =>
      { d with verdicts := d.verdicts.set (LaneId.num i) (some
          ((if g0 = Config.expectedSignature 0xA1 ∧ g1 = Config.expectedSignature 0xA1 then 0 else 1) +
            (if (u.lane i).lockstep then 2 else 0) + (if (u.lane i).ecc then 4 else 0))) }) := by
  refine ⟨_, rfl, ?_⟩
  have hdue : (!s.on LANE_STAT_VERDICT_PEND || (s.duplex.verdicts.getD (LaneId.num i) none).isSome || !s.laneLive i ||
      (s.lane i).cle.dp0.sigPend || (s.lane i).cle.dp1.sigPend) = false := by
    simp only [State.on, hpend, hnone, hlive, h0, h1]
    rfl
  have hsig : ∀ e : BitVec 64, b2n (g0 ≠ e || g1 ≠ e) = if g0 = e ∧ g1 = e then 0 else 1 := fun e => by
    by_cases e0 : g0 = e <;> by_cases e1 : g1 = e <;> simp [b2n, e0, e1]
  have hflag : ∀ (k : Nat) (b : Bool), k * b2n b = if b then k else 0 := fun k b => by cases b <;> simp [b2n]
  have e : exec (.selfCheckVerdict i g0 g1) s = execSelfCheckVerdict i g0 g1 s := rfl
  rw [e, execSelfCheckVerdict, hdue]
  simp only [Bool.false_eq_true, if_false, hsig, hflag]
  rfl

theorem exec_selfCheckVerdict_of_not_due (h : s.rd LANE_STAT_VERDICT_PEND ≠ 1 ∨
    s.duplex.verdicts.getD (LaneId.num i) none ≠ none ∨ s.laneLive i = false ∨ (s.lane i).cle.dp0.sigPend = true ∨
    (s.lane i).cle.dp1.sigPend = true) : exec (.selfCheckVerdict i g0 g1) s = .next s := by
  refine if_pos ?_
  rcases h with h | h | h | h | h <;> simp [-List.getD_eq_getElem?_getD, State.on, h, Option.isSome_iff_ne_none]

end

/-! ### Watchdog and error reports (R263, R264) -/

theorem exec_wdtExpiry_of_no_firmware {i : LaneId} {s : State} (h : (s.lane i).fwAt = none) :
    exec (.wdtExpiry i) s = .next s :=
  if_pos (by simp [h])

/-- A watchdog that expires resets its lane and retires it; by the states of both lanes HOLD, the other lane or LANE_VERDICT
follows, and with AUTO_RESYNC a restart. -/
theorem exec_wdtExpiry_of_firmware {i : LaneId} {s : State} (h : (s.lane i).fwAt ≠ none) :
    ∃ u v w x, u = s.passTo ((s.lane i).wdtAt + 400000 * s.rd PWR_CFG_WDT_MS) ∧
      v = ((if u.mod.phase = .run then u else u.bootFail).laneReset i 1).modDuplex
        (fun d => { d with restart := d.restart.filter fun r => r.lane ≠ i }) ∧
      w = (if u.laneState i = 1 ∨ u.laneState i = 2 ∨ u.laneState i = 3 then v.retire i 5 else v) ∧
      x = (if u.laneState i ≠ 1 then w
        else if u.laneState (LaneId.other i) = 2 then (if w.hold then w else w.startHold)
        else if u.laneState (LaneId.other i) = 3 then
          (w.setLaneState (LaneId.other i) 1 5).cause 0x0E 1 .module 0 none false
        else w.cause 0x0E 1 .module 0 none false) ∧
      exec (.wdtExpiry i) s = .next (if x.on LANE_CFG_AUTO_RESYNC && decide (x.laneState i = 4) then x.startRestart i else x) := by
  refine ⟨_, _, _, _, rfl, rfl, rfl, rfl, ?_⟩
  have hfw : (s.lane i).fwAt.isNone = false := by simpa [Option.isSome_iff_ne_none] using h
  have e : exec (.wdtExpiry i) s = execWdtExpiry i s := rfl
  rw [e, execWdtExpiry, hfw]
  simp only [Bool.false_eq_true, if_false, Bool.or_eq_true, decide_eq_true_eq, or_assoc, ite_not]

theorem exec_laneErrorReport (i : LaneId) (ecc : Bool) (s : State) :
    ∃ u, u = s.modLane i (fun l => if ecc then { l with ecc := true } else { l with lockstep := true }) ∧
      exec (.laneErrorReport i ecc) s = .next (if u.laneState i = 1 ∧ u.laneState (LaneId.other i) ≠ 2 then
        u.cause 0x0E 1 .module 0 none false else u) := by
  refine ⟨_, rfl, ?_⟩
  have e : exec (.laneErrorReport i ecc) s = execLaneErrorReport i ecc s := rfl
  simp only [e, execLaneErrorReport, Bool.and_eq_true, decide_eq_true_eq]

/-! ### Restart (R267, R268) -/

/-- The progress of a restart is shown as an open value (R267). -/
theorem State.progress_left_open (v : State) :
    ∃ w, v.fresh.2.wr LANE_RESYNC_PROGRESS v.fresh.1.toNat = w ∧ w = { v with regs := w.regs, free := v.free + 1 } ∧
      Claims.regsBut v.regs w.regs [LANE_RESYNC] :=
  ⟨_, rfl, rfl, fun _ h => RegFile.get_set_ne _ _ (by simpa using h)⟩

section
variable {i : LaneId} {r : Restart} {s : State} (hr : s.duplex.restart = some r) (hi : r.lane = i)
include hr hi

/-- The bulk copy of the lane that restarts ends; its progress there is an open value. -/
theorem exec_bulkCopyDone_of_restart (us : Nat) (hb : r.bulkDone = false) :
    ∃ u v w, u = s.passTo (r.since + 400 * us) ∧ v = u.modLane i (fun l => l.takeBulk (u.lane u.active)) ∧
      exec (.bulkCopyDone i us) s = .next ((w : State).modDuplex fun d => { d with restart := some { r with bulkDone := true } }) ∧
      w = { v with regs := w.regs, free := v.free + 1 } ∧ Claims.regsBut v.regs w.regs [LANE_RESYNC] := by
  have e : exec (.bulkCopyDone i us) s = execBulkCopyDone i us s := rfl
  have hdue : (decide (r.lane ≠ i) || r.bulkDone) = false := by simp [hi, hb]
  obtain ⟨w, hw, hparts, hregs⟩ := ((s.passTo (r.since + 400 * us)).modLane i fun l =>
    l.takeBulk ((s.passTo (r.since + 400 * us)).lane (s.passTo (r.since + 400 * us)).active)).progress_left_open
  refine ⟨_, _, w, rfl, rfl, ?_, hparts, hregs⟩
  rw [e, execBulkCopyDone, hr, ← hw]
  simp only [hdue, Bool.false_eq_true, if_false]

theorem exec_resyncTimeout_of_restart :
    exec (.resyncTimeout i) s = .next (((s.passTo (r.since + 20000000)).wr LANE_RESYNC_PROGRESS 0).retire i 8) := by
  have e : exec (.resyncTimeout i) s = execResyncTimeout i s := rfl
  rw [e, execResyncTimeout, hr]
  exact if_neg (by simp [hi])

end

theorem exec_restart_of_other {i : LaneId} (us : Nat) {s : State} (h : ∀ r, s.duplex.restart = some r → r.lane ≠ i) :
    exec (.bulkCopyDone i us) s = .next s ∧ exec (.resyncTimeout i) s = .next s := by
  have eb : exec (.bulkCopyDone i us) s = execBulkCopyDone i us s := rfl
  have er : exec (.resyncTimeout i) s = execResyncTimeout i s := rfl
  rw [eb, er, execBulkCopyDone, execResyncTimeout]
  cases hr : s.duplex.restart with
  | none => exact ⟨rfl, rfl⟩
  | some r => simp [h r hr]

/-- Settles O36: each command by the states of the lanes and the restart that it finds. -/
theorem lanesReportAndRestart : Obligations.LanesReportAndRestart :=
  ⟨fun _ _ _ _ => exec_selfCheckVerdict_of_due, fun _ _ _ _ => exec_selfCheckVerdict_of_not_due,
    fun _ _ => exec_wdtExpiry_of_no_firmware, fun _ _ => exec_wdtExpiry_of_firmware, exec_laneErrorReport,
    fun _ us _ _ hr hi => exec_bulkCopyDone_of_restart hr hi us, fun _ _ _ => exec_resyncTimeout_of_restart,
    fun _ us _ => exec_restart_of_other us⟩

end Sys2Proof.Machine
end

section
/-! PROOFS. Lane states as LANE_STAT shows them, and the proof of a lane in RESYNC: obligation O37. -/
namespace Sys2Proof.Machine

open Claims (ResyncLanesProveThemselves LaneStatesAreShown)

/-! ### Registers that the parts of a lane's change leave alone -/

theorem State.rd_journalAdd_of_ne (s : State) (source code flags : Nat) (data : List Byte) {x : Fld} (h : x.off ≠ JRNL_STAT) :
    (s.journalAdd source code flags data).rd x = s.rd x := by
  unfold State.journalAdd
  dsimp only
  split <;> simp [State.bumpSat, State.rd_wr_mk _ h]

section
variable {x : Fld} (hx : ¬ occurReg x.off)
include hx

theorem State.rd_setSafe_of_not_occurReg (s : State) (f : Fld) (v : Nat) : (s.setSafe f v).rd x = s.rd x :=
  State.rd_ite_of (u := s) (s.rd_bothLanes x _) ((State.rd_raise _ _ _ (by decide) hx).trans (s.rd_bothLanes x _))

theorem State.rd_takeover (s : State) (i : LaneId) (on : Bool) : (s.takeover i on).rd x = s.rd x := by
  cases i <;> exact (State.rd_setSafe_of_not_occurReg hx _ _ _).trans (s.rd_modSafe x _)

theorem State.rd_updDegraded_of_not_occurReg (s : State) : s.updDegraded.rd x = s.rd x := by
  refine State.rd_ite_of rfl ?_
  dsimp only
  rw [State.rd_setSafe_of_not_occurReg hx]
  exact State.rd_ite_of (s.rd_modSafe x _) rfl

end

/-! ### The parts of a change of a lane's state -/

/-- The registers that show a lane's new state: its field of LANE_STAT, the cause of a retirement, and the active lane (R247). -/
def State.laneShown (s : State) (i : LaneId) (new cause : Nat) : State :=
  let u := (if new = 4 then s.recRetire i else s).wr (stateFld i) new
  let u := if new = 4 then u.wr (retCauseFld i) cause else u
  if new = 1 then (u.wr LANE_STAT_ACTIVE (LaneId.num i)).wr SYS_STATE_ACTIVE_LANE (LaneId.num i) else u

/-- With both lanes ACTIVE and SHADOW again REMAIN is reloaded and the cause of its end goes (R276, R287). -/
def State.remainReloaded (s : State) : State :=
  if s.laneState s.active = 1 && s.laneState (LaneId.other s.active) = 2 then
    ((s.bothLanes fun l => l.wr SAFE_DEGRADED_REMAIN (l.rd SAFE_CFG_DEG_MAX)).causeEnd 0x26 0).modSafe
      fun x => { x with stopAt := none }
  else s

/-- A lane's change is shown, then come SINGLE_LANE, the takeover, REMAIN, DEGRADED, the journal record and the event. -/
theorem State.setLaneState_eq (s : State) (i : LaneId) (new cause : Nat) : s.setLaneState i new cause =
    (((((s.laneShown i new cause).updSingle.takeover i (new = 0 || new = 3 || new = 4)).remainReloaded.updDegraded).journalAdd
      0x03 new (2 * LaneId.num i) [BitVec.ofNat 8 (LaneId.num i), BitVec.ofNat 8 (s.laneState i), BitVec.ofNat 8 new,
        BitVec.ofNat 8 cause]).raise 22 (256 * LaneId.num i + new)) := rfl

theorem State.rd_remainReloaded (s : State) {x : Fld} (h : ¬ causeRecordReg x.off) : s.remainReloaded.rd x = s.rd x :=
  State.rd_ite_of (u := s) ((State.rd_modSafe _ _ _).trans ((State.rd_causeEnd h _ _ _).trans (s.rd_bothLanes x _))) rfl

theorem not_causeRecordReg_laneStat : ¬ causeRecordReg LANE_STAT := by
  rintro (h | h | ⟨t, h⟩) <;> simp only [LANE_STAT, SLC_FAULT_MOD, SLC_LOCKOUT_STAT, SLC_THR_FAULT] at h <;> omega

/-- A field of LANE_STAT is as the change shows it. -/
theorem State.rd_setLaneState_laneStat (s : State) (i : LaneId) (new cause hi lo : Nat) :
    (s.setLaneState i new cause).rd ⟨LANE_STAT, hi, lo⟩ = (s.laneShown i new cause).rd ⟨LANE_STAT, hi, lo⟩ := by
  have hx : ¬ occurReg LANE_STAT := by unfold occurReg; decide
  have hjrnl : LANE_STAT ≠ JRNL_STAT := by decide
  have hstate : LANE_STAT ≠ SYS_STATE := by decide
  rw [State.setLaneState_eq, State.rd_raise _ _ _ (by decide) hx, State.rd_journalAdd_of_ne _ _ _ _ _ hjrnl,
    State.rd_updDegraded_of_not_occurReg hx, State.rd_remainReloaded _ not_causeRecordReg_laneStat, State.rd_takeover hx,
    State.updSingle, State.rd_wr_mk _ hstate]

/-! ### What LANE_STAT shows (R246, R247) -/

/-- Of LANE_STAT a change writes the lane's state, the cause of a retirement, and for an active lane ACTIVE. -/
theorem State.rd_laneShown_laneStat (s : State) (i : LaneId) (new cause : Nat) {hi lo : Nat} (h : lo ≤ hi) (hh : hi < 32)
    (hcause : hi < (retCauseFld i).lo ∨ (retCauseFld i).hi < lo) (hact : new = 1 → hi < 8 ∨ 8 < lo) :
    (s.laneShown i new cause).rd ⟨LANE_STAT, hi, lo⟩ = (s.wr (stateFld i) new).rd ⟨LANE_STAT, hi, lo⟩ := by
  have hstate : LANE_STAT ≠ SYS_STATE := by decide
  by_cases h1 : new = 1
  · subst h1
    exact (State.rd_wr_mk _ hstate).trans (State.rd_wr_other _ (by decide) h hh (hact rfl).symm)
  · by_cases h4 : new = 4
    · subst h4
      have hrec : ∀ x, ((s.recRetire i).wr (stateFld i) 4).rd x = (s.wr (stateFld i) 4).rd x := fun x => by simp [State.rd]
      cases i <;> exact (State.rd_wr_other _ (by decide) h hh hcause.symm).trans (hrec _)
    · simp [State.laneShown, h1, h4]

theorem State.laneState_laneShown (s : State) (i : LaneId) {new : Nat} (cause : Nat) (h : new < 5) :
    (s.laneShown i new cause).laneState i = new := by
  cases i <;> exact (s.rd_laneShown_laneStat _ new cause (by decide) (by decide) (by decide) fun _ => by decide).trans
    (State.rd_wr_of_fits _ (by decide) (by decide) (by omega))

theorem State.laneState_laneShown_other (s : State) (i : LaneId) (new cause : Nat) :
    (s.laneShown i new cause).laneState (LaneId.other i) = s.laneState (LaneId.other i) := by
  cases i <;> exact (s.rd_laneShown_laneStat _ new cause (by decide) (by decide) (by decide) fun _ => by decide).trans
    (State.rd_wr_other _ (by decide) (by decide) (by decide) (by decide))

theorem State.rd_laneShown_retCause (s : State) (i : LaneId) {cause : Nat} (h : cause < 16) :
    (s.laneShown i 4 cause).rd (retCauseFld i) = cause := by
  cases i <;> exact State.rd_wr_of_fits _ (by decide) (by decide) h

theorem State.active_of_rd {s : State} {i : LaneId} (h : s.rd LANE_STAT_ACTIVE = LaneId.num i) : s.active = i := by
  cases i <;> simp_all [State.active, State.on, LaneId.num]

theorem State.active_congr {s t : State} (h : t.rd LANE_STAT_ACTIVE = s.rd LANE_STAT_ACTIVE) : t.active = s.active := by
  unfold State.active State.on
  rw [h]

theorem State.active_laneShown_of_active (s : State) (i : LaneId) (cause : Nat) : (s.laneShown i 1 cause).active = i :=
  State.active_of_rd ((State.rd_wr_mk _ (by decide)).trans
    (State.rd_wr_of_fits _ (by decide) (by decide) (by cases i <;> decide)))

theorem State.active_laneShown_of_other (s : State) (i : LaneId) {new : Nat} (cause : Nat) (h : new ≠ 1) :
    (s.laneShown i new cause).active = s.active := by
  refine State.active_congr ((s.rd_laneShown_laneStat i new cause (by decide) (by decide) ?_ (absurd · h)).trans ?_)
  · cases i <;> decide
  · cases i <;> exact State.rd_wr_other _ (by decide) (by decide) (by decide) (by decide)

theorem State.laneState_setLaneState (s : State) (i j : LaneId) (new cause : Nat) :
    (s.setLaneState i new cause).laneState j = (s.laneShown i new cause).laneState j := by
  cases j <;> exact s.rd_setLaneState_laneStat i new cause _ _

theorem State.active_setLaneState (s : State) (i : LaneId) (new cause : Nat) :
    (s.setLaneState i new cause).active = (s.laneShown i new cause).active :=
  State.active_congr (s.rd_setLaneState_laneStat i new cause _ _)

/-! ### The takeover of the series switches (R286) -/

/-- The Sluice has taken over the series switches of a lane. -/
def Safe.takenOver (x : Safe) (i : LaneId) : Bool := if i = .a then x.takeoverA else x.takeoverB

theorem State.takenOver_takeover (s : State) (i : LaneId) (on : Bool) : (s.takeover i on).safe.takenOver i = on := by
  cases i <;> simp [State.takeover, Safe.takenOver]

theorem State.takenOver_remainReloaded (s : State) (i : LaneId) :
    s.remainReloaded.safe.takenOver i = s.safe.takenOver i := by
  unfold State.remainReloaded
  split <;> simp [Safe.takenOver]

theorem State.takenOver_updDegraded (s : State) (i : LaneId) : s.updDegraded.safe.takenOver i = s.safe.takenOver i := by
  unfold State.updDegraded
  dsimp only
  (repeat' split) <;> simp [Safe.takenOver]

theorem State.takenOver_setLaneState (s : State) (i : LaneId) (new cause : Nat) :
    (s.setLaneState i new cause).safe.takenOver i = decide (new = 0 ∨ new = 3 ∨ new = 4) := by
  rw [State.setLaneState_eq]
  simp only [State.raise_frame, State.journalAdd_frame, State.takenOver_updDegraded, State.takenOver_remainReloaded,
    State.takenOver_takeover]
  simp [Bool.or_assoc]

theorem laneStatesAreShown : LaneStatesAreShown := by
  intro i new cause s hnew hcause
  refine ⟨_, rfl, ?_, ?_, ?_, ?_, s.takenOver_setLaneState i new cause, ?_, by simp, by simp⟩
  · rw [State.laneState_setLaneState, State.laneState_laneShown _ _ _ hnew]
  · rintro rfl
    exact Eq.trans (by cases i <;> exact s.rd_setLaneState_laneStat _ 4 cause _ _) (s.rd_laneShown_retCause i hcause)
  · rintro rfl
    rw [State.active_setLaneState, State.active_laneShown_of_active]
  · intro h
    rw [State.active_setLaneState, State.active_laneShown_of_other _ _ _ h]
  · rw [State.laneState_setLaneState, State.laneState_laneShown_other]

/-! ### A lane in RESYNC (R250, R269) -/

theorem resyncLanesProveThemselves : ResyncLanesProveThemselves := by
  refine ⟨fun o s h => ⟨_, rfl, ?matched, rfl⟩, fun _ _ _ => rfl, fun s hst hcnt => ?proven, fun s h => ?unproven⟩
  case matched =>
    have hfits : min 1000 (s.rd LANE_STAT_MATCH_CNT + 1) = s.rd LANE_STAT_MATCH_CNT + 1 := by omega
    rw [State.compareResync, hfits]
    exact State.rd_wr_of_fits _ (by decide) (by decide) (by omega)
  case proven => simp [State.promote, hst, hcnt]
  case unproven =>
    refine if_neg ?_
    rcases h with h | h <;> simp [h]

/-- Settles O37: a change of a lane's state by the registers that show it, of which nothing that follows changes LANE_STAT, and a
lane in RESYNC by its count of matching sets. -/
theorem laneStatesAreShownAndResyncIsProved : Obligations.LaneStatesAreShownAndResyncIsProved :=
  ⟨laneStatesAreShown, resyncLanesProveThemselves⟩

end Sys2Proof.Machine
end

section
/-! PROOFS. Occurrences of sources and writes of pending bits: obligation O3. -/
namespace Sys2Proof.Machine

open Claims (OccurrencesCountStoreAndPend PendingWordWritesSetAndClear)

/-! ### The registers of a source (R357) -/

/-- What the registers show of a source: its pending bit, CNT and DATA. -/
def State.source (s : State) (n : Nat) : Nat × Nat × Nat :=
  (s.rd (pendBit n), s.rd (EIC_SRC_LOG_CNT n), s.rd (EIC_SRC_LOG_DATA n))

theorem State.source_of_rd {s t : State} {n : Nat} (h : ∀ x, x.off = (pendBit n).off ∨ x.off = EIC_SRC_LOG n → t.rd x = s.rd x) :
    t.source n = s.source n := by
  simp only [State.source, h _ (.inl rfl), h ⟨EIC_SRC_LOG n, _, _⟩ (.inr rfl)]

@[simp] theorem State.source_bothLanes (s : State) (f : Lane → Lane) (n : Nat) : (s.bothLanes f).source n = s.source n := (rfl)
@[simp] theorem State.source_modDuplex (s : State) (f : Duplex → Duplex) (n : Nat) : (s.modDuplex f).source n = s.source n := (rfl)

theorem pendBit_off_ne_srcLog {m n : Nat} (h : m < 96) : EIC_SRC_LOG n ≠ (pendBit m).off := by
  simp only [EIC_SRC_LOG, pendBit, srcBit, EIC_PEND]; omega

theorem State.source_wr_pendBit_self (s : State) {n : Nat} (v : Nat) (h : n < 96) :
    (s.wr (pendBit n) v).source n = (v % 2, (s.source n).2) := by
  have hpend : (s.wr (pendBit n) v).rd (pendBit n) = v % 2 := s.rd_wr_bit _ _ _ (Nat.mod_lt _ (by decide))
  simp only [State.source, hpend, State.rd_wr_off s (x := pendBit n) (y := ⟨EIC_SRC_LOG n, _, _⟩) v (pendBit_off_ne_srcLog h)]

theorem State.source_wr_pendBit_ne (s : State) {m n : Nat} (v : Nat) (hm : m < 96) (h : n ≠ m) :
    (s.wr (pendBit m) v).source n = s.source n := by
  have hpend : (s.wr (pendBit m) v).rd (pendBit n) = s.rd (pendBit n) := by
    by_cases hw : n / 32 = m / 32
    · have hb : n % 32 ≠ m % 32 := by omega
      exact State.rd_wr_bits s v (by simp only [pendBit, srcBit, hw]) (Nat.mod_lt _ (by decide)) (Nat.le_refl _)
        (Nat.mod_lt _ (by decide)) (by simp only [pendBit, srcBit]; omega)
    · exact State.rd_wr_off s v (by simp only [pendBit, srcBit, EIC_PEND]; omega)
  simp only [State.source, hpend, State.rd_wr_off s (x := pendBit m) (y := ⟨EIC_SRC_LOG n, _, _⟩) v (pendBit_off_ne_srcLog hm)]

/-! ### An event at a vector writes the vector's configuration alone -/

theorem State.rd_sendVec_of_ne (s : State) (v : Nat) {x : Fld} (h : x.off ≠ EIC_VEC_CFG v) : (s.sendVec v).rd x = s.rd x := by
  unfold State.sendVec
  dsimp only
  (repeat' split) <;> simp [State.setVec, State.rd_wr_mk _ h]

theorem State.rd_countVec_of_ne (s : State) (v n : Nat) {x : Fld} (h : x.off ≠ EIC_VEC_CFG v) : (s.countVec v n).rd x = s.rd x := by
  unfold State.countVec
  dsimp only
  (repeat' split) <;> simp [State.rd_sendVec_of_ne _ _ h, State.setVec]

theorem State.rd_vecEvent_of_ne (s : State) (src : Nat) {x : Fld} (h : ∀ v < 32, x.off ≠ EIC_VEC_CFG v) :
    (s.vecEvent src).rd x = s.rd x := by
  unfold State.vecEvent
  dsimp only
  split
  · rename_i hv
    simp only [Bool.and_eq_true, decide_eq_true_eq] at hv
    exact State.rd_countVec_of_ne _ _ _ (h _ hv.1)
  · rfl

theorem State.source_vecEvent (s : State) (m : Nat) {n : Nat} (h : n < 96) : (s.vecEvent m).source n = s.source n :=
  State.source_of_rd fun x hx => s.rd_vecEvent_of_ne m fun v hv => by
    simp only [pendBit, srcBit, EIC_PEND, EIC_SRC_LOG, EIC_VEC_CFG] at hx ⊢
    omega

/-! ### An occurrence (R356 to R358) -/

/-- An occurrence in the registers of its source: CNT, DATA, and the pending bit of an edge source. -/
def State.logged (s : State) (src data : Nat) : State :=
  let u := (s.bump (EIC_SRC_LOG_CNT src)).wr (EIC_SRC_LOG_DATA src) data
  if isLevel src then u else u.wr (pendBit src) 1

theorem State.occurHost_eq (s : State) (src data : Nat) : s.occurHost src data = (s.logged src data).vecEvent src := rfl

section
variable (s : State) (data : Nat) {m n : Nat}

theorem State.source_log_self (h : n < 96) :
    ((s.bump (EIC_SRC_LOG_CNT n)).wr (EIC_SRC_LOG_DATA n) data).source n =
      (s.rd (pendBit n), (s.rd (EIC_SRC_LOG_CNT n) + 1) % 65536, data % 65536) := by
  have hoff : (pendBit n).off ≠ EIC_SRC_LOG n := (pendBit_off_ne_srcLog h).symm
  have hpend : ((s.bump (EIC_SRC_LOG_CNT n)).wr (EIC_SRC_LOG_DATA n) data).rd (pendBit n) = s.rd (pendBit n) :=
    (State.rd_wr_mk _ hoff).trans (State.rd_wr_mk _ hoff)
  have hcnt : ((s.bump (EIC_SRC_LOG_CNT n)).wr (EIC_SRC_LOG_DATA n) data).rd (EIC_SRC_LOG_CNT n) =
      (s.rd (EIC_SRC_LOG_CNT n) + 1) % 65536 :=
    (State.rd_wr_other _ (by decide) (by decide) (by decide) (by decide)).trans
      (State.rd_wr_self _ (by decide) (by decide))
  have hdata : ((s.bump (EIC_SRC_LOG_CNT n)).wr (EIC_SRC_LOG_DATA n) data).rd (EIC_SRC_LOG_DATA n) = data % 65536 :=
    State.rd_wr_self _ (by decide) (by decide)
  exact Prod.ext hpend (Prod.ext hcnt hdata)

theorem State.source_log_ne (hm : m < 96) (h : m ≠ n) :
    ((s.bump (EIC_SRC_LOG_CNT n)).wr (EIC_SRC_LOG_DATA n) data).source m = s.source m :=
  State.source_of_rd fun x hx => by
    have hoff : x.off ≠ EIC_SRC_LOG n := by
      simp only [pendBit, srcBit, EIC_PEND, EIC_SRC_LOG] at hx ⊢
      omega
    rw [State.bump, State.rd_wr_mk _ hoff, State.rd_wr_mk _ hoff]

theorem State.source_logged_self (h : n < 96) : (s.logged n data).source n =
    (if isLevel n then s.rd (pendBit n) else 1, (s.rd (EIC_SRC_LOG_CNT n) + 1) % 65536, data % 65536) := by
  unfold State.logged
  split
  · exact s.source_log_self data h
  · rw [State.source_wr_pendBit_self _ _ h, s.source_log_self data h]

theorem State.source_logged_ne (hm : m < 96) (hn : n < 96) (h : m ≠ n) : (s.logged n data).source m = s.source m := by
  unfold State.logged
  split
  · exact s.source_log_ne data hm h
  · rw [State.source_wr_pendBit_ne _ _ hn h, s.source_log_ne data hm h]

theorem State.source_raise_self (h : n < 96) : (s.raise n data).source n =
    (if isLevel n then s.rd (pendBit n) else 1, (s.rd (EIC_SRC_LOG_CNT n) + 1) % 65536, data % 65536) := by
  rw [State.raise, State.occurHost_eq, State.source_vecEvent _ _ h, State.source_logged_self _ _ h]
  rfl

theorem State.source_raise_ne (hm : m < 96) (hn : n < 96) (h : m ≠ n) : (s.raise n data).source m = s.source m := by
  rw [State.raise, State.occurHost_eq, State.source_vecEvent _ _ hm, State.source_logged_ne _ _ hm hn h,
    State.source_bothLanes]

end

/-! ### The parts of the EIC that an event changes (R360 to R362) -/

/-- The EIC with the parts that count events and send messages taken from another. -/
def Eic.events (e f : Eic) : Eic :=
  { e with vecs := f.vecs, pba := f.pba, msgs := f.msgs, seen := f.seen, pmes := f.pmes, pmeSent := f.pmeSent }

theorem Eic.events_trans {e f g : Eic} (hf : f = e.events f) (hg : g = f.events g) : g = e.events g := by
  rw [hg, hf]
  rfl

theorem State.eic_sendVec (s : State) (v : Nat) : (s.sendVec v).eic = s.eic.events (s.sendVec v).eic := by
  unfold State.sendVec
  dsimp only
  (repeat' split) <;> rfl

theorem State.eic_countVec (s : State) (v n : Nat) : (s.countVec v n).eic = s.eic.events (s.countVec v n).eic := by
  unfold State.countVec
  dsimp only
  split
  · rfl
  · split
    · exact Eic.events_trans rfl (State.eic_sendVec _ v)
    · rfl

theorem State.eic_vecEvent (s : State) (src : Nat) : (s.vecEvent src).eic = s.eic.events (s.vecEvent src).eic := by
  unfold State.vecEvent
  dsimp only
  split
  · exact s.eic_countVec _ _
  · rfl

@[simp] theorem State.logged_eic (s : State) (src data : Nat) : (s.logged src data).eic = s.eic := by
  simp [State.logged]

theorem State.eic_raise (s : State) (src data : Nat) : (s.raise src data).eic = s.eic.events (s.raise src data).eic := by
  have h := ((s.bothLanes fun l => l.occur s.now (s.rd (EIC_ROUTE_TARGET src)) src).logged src data).eic_vecEvent src
  rwa [State.logged_eic] at h

theorem occurrencesCountStoreAndPend : OccurrencesCountStoreAndPend := by
  intro src data s hsrc
  have hself := s.source_raise_self data hsrc
  simp only [State.source, Prod.mk.injEq] at hself
  obtain ⟨hpend, hcnt, hdata⟩ := hself
  refine ⟨hcnt, hdata, fun hedge => ?pends, fun m hm hne => ?others, ?parts⟩
  case pends => simpa [hedge] using hpend
  case others =>
    have hother := s.source_raise_ne data hm hsrc hne
    simp only [State.source, Prod.mk.injEq] at hother
    exact ⟨hother.1, hother.2.1⟩
  case parts =>
    have heic := s.eic_raise src data
    exact State.eq_of_parts (by simpa [State.raise, Eic.events] using heic)

/-! ### A pending bit written (R259, R366) -/

theorem not_isLevel_of_software {n : Nat} (h : 84 ≤ n) (h' : n ≤ 91) : isLevel n = false := by
  simp only [isLevel, Bool.or_eq_false_iff, Bool.and_eq_false_iff, decide_eq_false_iff_not]
  omega

/-- A firmware event waits for the end of HOLD (R259). -/
def State.fwWaits (s : State) (n : Nat) : Bool := 88 ≤ n && n ≤ 91 && s.hold

/-- A HOST_EV or FW_EV bit is an occurrence, but for a firmware event in HOLD. -/
def State.occursAt (s : State) (n : Nat) : Bool := 84 ≤ n && n ≤ 91 && !s.fwWaits n

theorem State.pendBitWrite_of_fixed (s : State) {n : Nat} (v : Bool) (h : isLevel n = true ∨ n = 95) : s.pendBitWrite n v = s :=
  if_pos (by simpa using h)

section
variable (s : State) {n : Nat} (hlev : isLevel n = false) (h95 : n ≠ 95)
include hlev h95

theorem State.pendBitWrite_false : s.pendBitWrite n false =
    (s.bothLanes fun l => { l with pend := l.pend.filter fun m => m ≠ n }).wr (pendBit n) 0 := by
  simp [State.pendBitWrite, hlev, h95]

theorem State.pendBitWrite_of_pending (h : s.rd (pendBit n) = 1) : s.pendBitWrite n true = s := by
  simp [State.pendBitWrite, hlev, h95, State.on, h]

theorem State.pendBitWrite_of_clear (h : s.rd (pendBit n) ≠ 1) : s.pendBitWrite n true = s.pendOne n := by
  simp [State.pendBitWrite, hlev, h95, State.on, h]

end

theorem State.pendOne_of_fwWaits {s : State} {n : Nat} (h : s.fwWaits n = true) : s.pendOne n = s.withholdFw n := if_pos h

theorem State.pendOne_of_occursAt {s : State} {n : Nat} (h : s.occursAt n = true) : s.pendOne n = s.raise n 0 := by
  simp only [State.occursAt, Bool.and_eq_true, Bool.not_eq_true', decide_eq_true_eq] at h
  obtain ⟨⟨hlo, hhi⟩, hw⟩ := h
  exact (if_neg (Bool.eq_false_iff.mp hw)).trans (if_pos (by simp [hlo, hhi]))

theorem State.pendOne_of_other {s : State} {n : Nat} (hw : s.fwWaits n = false) (ho : s.occursAt n = false) :
    s.pendOne n = ((s.bothLanes fun l => l.occur s.now (s.rd (EIC_ROUTE_TARGET n)) n).wr (pendBit n) 1).vecEvent n :=
  (if_neg (Bool.eq_false_iff.mp hw)).trans (if_neg (by simpa [State.occursAt, hw] using ho))

/-! ### The source written and the others -/

section
variable (s : State) {m n : Nat}

theorem State.source_withholdFw : (s.withholdFw m).source n = s.source n := (rfl)

theorem State.source_pendOne_of_other (hn : n < 96) (hw : s.fwWaits n = false) (ho : s.occursAt n = false) :
    (s.pendOne n).source n = (1, (s.source n).2) := by
  rw [State.pendOne_of_other hw ho, State.source_vecEvent _ _ hn, State.source_wr_pendBit_self _ _ hn, State.source_bothLanes]

theorem State.source_pendOne_of_occursAt (hn : n < 96) (ho : s.occursAt n = true) :
    (s.pendOne n).source n = (1, (s.rd (EIC_SRC_LOG_CNT n) + 1) % 65536, 0) := by
  have h := ho
  simp only [State.occursAt, Bool.and_eq_true, decide_eq_true_eq] at h
  obtain ⟨⟨hlo, hhi⟩, -⟩ := h
  rw [State.pendOne_of_occursAt ho, State.source_raise_self _ _ hn, not_isLevel_of_software hlo hhi]
  rfl

theorem State.source_pendOne_ne (hm : m < 96) (hn : n < 96) (h : m ≠ n) : (s.pendOne n).source m = s.source m := by
  by_cases hw : s.fwWaits n = true
  · rw [State.pendOne_of_fwWaits hw, State.source_withholdFw]
  · by_cases ho : s.occursAt n = true
    · rw [State.pendOne_of_occursAt ho, State.source_raise_ne _ _ hm hn h]
    · rw [State.pendOne_of_other (Bool.eq_false_iff.mpr hw) (Bool.eq_false_iff.mpr ho), State.source_vecEvent _ _ hm,
        State.source_wr_pendBit_ne _ _ hn h, State.source_bothLanes]

theorem State.source_pendBitWrite_ne (v : Bool) (hm : m < 96) (hn : n < 96) (h : m ≠ n) :
    (s.pendBitWrite n v).source m = s.source m := by
  unfold State.pendBitWrite
  split
  · rfl
  · split
    · split
      · rfl
      · exact s.source_pendOne_ne hm hn h
    · rw [State.source_wr_pendBit_ne _ _ hn h, State.source_bothLanes]

end

/-! ### What a pending bit written leaves alone -/

theorem State.hold_pendBitWrite (s : State) {n : Nat} (v : Bool) (hn : n < 96) : (s.pendBitWrite n v).hold = s.hold := by
  have hx : ¬ occurReg LANE_STAT_HOLD.off := by unfold occurReg; decide
  have hpend : LANE_STAT_HOLD.off ≠ (pendBit n).off := fun e => hx (e ▸ occurReg_pendBit hn)
  have hrd : (s.pendBitWrite n v).rd LANE_STAT_HOLD = s.rd LANE_STAT_HOLD := by
    unfold State.pendBitWrite State.pendOne State.withholdFw
    dsimp only
    (repeat' split) <;> simp [State.rd_raise _ _ _ hn hx, State.rd_vecEvent _ _ hx, State.rd_wr_off _ _ hpend]
  unfold State.hold State.on
  rw [hrd]

/-- The outputs that a pending bit written withholds, for whichever lane survives (R259). -/
def State.withholds (s : State) (n : Nat) (v : Bool) : List (LaneId × Withheld) :=
  if v = true ∧ s.rd (pendBit n) ≠ 1 ∧ s.fwWaits n = true then [(.a, .event n 0), (.b, .event n 0)] else []

theorem State.not_fixed_of_fwWaits {s : State} {n : Nat} (h : s.fwWaits n = true) : isLevel n = false ∧ n ≠ 95 := by
  simp only [State.fwWaits, Bool.and_eq_true, decide_eq_true_eq] at h
  exact ⟨not_isLevel_of_software (by omega) (by omega), by omega⟩

theorem State.duplex_pendOne (s : State) {n : Nat} (h : s.fwWaits n = false) : (s.pendOne n).duplex = s.duplex := by
  by_cases ho : s.occursAt n = true
  · simp [State.pendOne_of_occursAt ho]
  · simp [State.pendOne_of_other h (Bool.eq_false_iff.mpr ho)]

theorem State.duplex_pendBitWrite (s : State) (n : Nat) (v : Bool) :
    (s.pendBitWrite n v).duplex = { s.duplex with withheld := s.duplex.withheld ++ s.withholds n v } := by
  by_cases hw : v = true ∧ s.rd (pendBit n) ≠ 1 ∧ s.fwWaits n = true
  · obtain ⟨rfl, hclear, hwait⟩ := hw
    obtain ⟨hlev, h95⟩ := State.not_fixed_of_fwWaits hwait
    rw [State.pendBitWrite_of_clear _ hlev h95 hclear, State.pendOne_of_fwWaits hwait, State.withholds,
      if_pos ⟨rfl, hclear, hwait⟩]
    rfl
  · have hkeep : (s.pendBitWrite n v).duplex = s.duplex := by
      unfold State.pendBitWrite
      split
      · rfl
      · split
        · split
          · rfl
          · rename_i hv hclear
            refine s.duplex_pendOne (Bool.eq_false_iff.mpr fun hwait => hw ⟨hv, ?_, hwait⟩)
            simpa [State.on] using hclear
        · simp
    rw [hkeep, State.withholds, if_neg hw, List.append_nil]

/-! ### A word of pending bits (R366) -/

/-- The bits of a list written in a word of pending bits. -/
def State.pendWord (s : State) (j : Nat) (v : Word) (l : List Nat) : State :=
  l.foldl (fun s b => s.pendBitWrite (32 * j + b) (v.getLsbD b)) s

theorem exec_pendWrite (j : Nat) (v : Word) {s : State} (h : s.mod.phase ≠ .boot) :
    exec (.pendWrite j v) s = .next (s.pendWord j v (List.range 32)) :=
  congrArg Host.Outcome.next (if_neg h)

section
variable (s : State) {j : Nat} (hj : j < 3) (v : Word)

theorem State.withheld_pendWord (l : List Nat) {e : LaneId × Withheld} (he : e ∈ s.duplex.withheld) :
    e ∈ (s.pendWord j v l).duplex.withheld :=
  List.foldlRecOn (motive := fun t : State => e ∈ t.duplex.withheld) l _ he fun t ht b _ => by
    rw [State.duplex_pendBitWrite]
    exact List.mem_append_left _ ht

theorem State.duplex_pendWord_rest (l : List Nat) :
    (s.pendWord j v l).duplex = { s.duplex with withheld := (s.pendWord j v l).duplex.withheld } :=
  List.foldlRecOn (motive := fun t : State => t.duplex = { s.duplex with withheld := t.duplex.withheld }) l _ rfl
    fun t ht b _ => by
      rw [State.duplex_pendBitWrite, ht]

theorem State.pendWord_rest (l : List Nat) : s.pendWord j v l = { s with
    regs := (s.pendWord j v l).regs, eic := (s.pendWord j v l).eic, laneA := (s.pendWord j v l).laneA,
    laneB := (s.pendWord j v l).laneB, duplex := { s.duplex with withheld := (s.pendWord j v l).duplex.withheld } } := by
  have hduplex := s.duplex_pendWord_rest (j := j) v l
  exact State.eq_of_parts (by simpa [State.pendWord] using hduplex)

include hj

theorem State.hold_pendWord {l : List Nat} (hl : ∀ b ∈ l, b < 32) : (s.pendWord j v l).hold = s.hold :=
  List.foldlRecOn (motive := fun t : State => t.hold = s.hold) l _ rfl fun t ht b hb =>
    (t.hold_pendBitWrite _ (by have := hl b hb; omega)).trans ht

theorem State.duplex_pendWord_of_not_hold {l : List Nat} (hl : ∀ b ∈ l, b < 32) (hh : s.hold = false) :
    (s.pendWord j v l).duplex = s.duplex :=
  (List.foldlRecOn (motive := fun t : State => t.hold = false ∧ t.duplex = s.duplex) l _ ⟨hh, rfl⟩ fun t ⟨hhold, hd⟩ b hb => by
    refine ⟨(t.hold_pendBitWrite _ (by have := hl b hb; omega)).trans hhold, ?_⟩
    rw [State.duplex_pendBitWrite, State.withholds, if_neg (by simp [State.fwWaits, hhold]), List.append_nil]
    exact hd).2

theorem State.source_pendWord_of_not_mem {l : List Nat} {b : Nat} (hl : ∀ a ∈ l, a < 32) (hb : b < 32) (h : b ∉ l) :
    (s.pendWord j v l).source (32 * j + b) = s.source (32 * j + b) :=
  List.foldlRecOn (motive := fun t : State => t.source (32 * j + b) = s.source (32 * j + b)) l _ rfl fun t ht a ha => by
    have ha32 := hl a ha
    have hne : b ≠ a := fun e => h (e ▸ ha)
    rw [State.source_pendBitWrite_ne _ _ (by omega) (by omega) (by omega), ht]

/-- Of a word written, one bit alone is its source's, and it finds the source as the word did. -/
theorem State.source_pendWord {b : Nat} (hb : b < 32) : ∃ u : State, u.source (32 * j + b) = s.source (32 * j + b) ∧
    u.hold = s.hold ∧
    (s.pendWord j v (List.range 32)).source (32 * j + b) = (u.pendBitWrite (32 * j + b) (v.getLsbD b)).source (32 * j + b) ∧
    ∀ e ∈ (u.pendBitWrite (32 * j + b) (v.getLsbD b)).duplex.withheld,
      e ∈ (s.pendWord j v (List.range 32)).duplex.withheld := by
  obtain ⟨l, r, hlr⟩ := List.append_of_mem (List.mem_range.mpr hb)
  have hnodup : (l ++ b :: r).Nodup := hlr ▸ List.nodup_range
  have hlt : ∀ a ∈ l ++ b :: r, a < 32 := fun a ha => List.mem_range.mp (hlr ▸ ha)
  have hl : ∀ a ∈ l, a < 32 := fun a ha => hlt a (List.mem_append_left _ ha)
  have hr : ∀ a ∈ r, a < 32 := fun a ha => hlt a (List.mem_append_right _ (List.mem_cons_of_mem _ ha))
  obtain ⟨-, htail, hdisj⟩ := List.nodup_append.mp hnodup
  have hbl : b ∉ l := fun h => hdisj b h b List.mem_cons_self rfl
  have hbr : b ∉ r := (List.nodup_cons.mp htail).1
  have hword : s.pendWord j v (List.range 32) =
      ((s.pendWord j v l).pendBitWrite (32 * j + b) (v.getLsbD b)).pendWord j v r := by
    rw [hlr, State.pendWord, List.foldl_append, List.foldl_cons]
    rfl
  refine ⟨s.pendWord j v l, s.source_pendWord_of_not_mem hj v hl hb hbl, s.hold_pendWord hj v hl, ?_, fun e he => ?_⟩
  · rw [hword, State.source_pendWord_of_not_mem _ hj v hr hb hbr]
  · rw [hword]
    exact State.withheld_pendWord _ v r he

end

/-! ### The source of a bit written -/

theorem State.rd_pendBit_eq_zero {s : State} {n : Nat} (h : s.rd (pendBit n) ≠ 1) : s.rd (pendBit n) = 0 := by
  have hbit : s.rd (pendBit n) < 2 ^ (n % 32 + 1 - n % 32) := Nat.mod_lt _ (Nat.two_pow_pos _)
  rw [Nat.add_sub_cancel_left] at hbit
  omega

section
variable (s : State) {n : Nat} {v : Bool}

/-- The bit of an edge source takes what is written, but for a firmware event that waits. -/
theorem State.pend_pendBitWrite (hn : n < 96) (hlev : isLevel n = false) (h95 : n ≠ 95)
    (hw : ¬ (s.fwWaits n = true ∧ s.rd (pendBit n) = 0)) : ((s.pendBitWrite n v).source n).1 = b2n v := by
  cases v with
  | false => rw [s.pendBitWrite_false hlev h95, State.source_wr_pendBit_self _ _ hn]; rfl
  | true =>
    by_cases hset : s.rd (pendBit n) = 1
    · rw [s.pendBitWrite_of_pending hlev h95 hset]
      exact hset
    · have hwait : s.fwWaits n = false := Bool.eq_false_iff.mpr fun h => hw ⟨h, State.rd_pendBit_eq_zero hset⟩
      rw [s.pendBitWrite_of_clear hlev h95 hset]
      by_cases ho : s.occursAt n = true
      · rw [s.source_pendOne_of_occursAt hn ho]; rfl
      · rw [s.source_pendOne_of_other hn hwait (Bool.eq_false_iff.mpr ho)]; rfl

/-- A firmware event that waits leaves its source as it is, clear. -/
theorem State.source_pendBitWrite_of_fwWaits (hn : n < 96) (hw : s.fwWaits n = true) (hclear : s.rd (pendBit n) = 0) :
    (s.pendBitWrite n v).source n = s.source n := by
  obtain ⟨hlev, h95⟩ := State.not_fixed_of_fwWaits hw
  cases v with
  | false =>
    rw [s.pendBitWrite_false hlev h95, State.source_wr_pendBit_self _ _ hn, State.source_bothLanes]
    simp [State.source, hclear]
  | true => rw [s.pendBitWrite_of_clear hlev h95 (by omega), State.pendOne_of_fwWaits hw, State.source_withholdFw]

/-- Only a HOST_EV or FW_EV bit set while clear counts. -/
theorem State.log_pendBitWrite_of_no_occurrence (hn : n < 96)
    (h : n < 84 ∨ 91 < n ∨ v = false ∨ s.rd (pendBit n) = 1) : ((s.pendBitWrite n v).source n).2 = (s.source n).2 := by
  by_cases hfix : isLevel n = true ∨ n = 95
  · rw [s.pendBitWrite_of_fixed v hfix]
  · obtain ⟨hlev, h95⟩ := not_or.mp hfix
    rw [Bool.not_eq_true] at hlev
    cases v with
    | false => rw [s.pendBitWrite_false hlev h95, State.source_wr_pendBit_self _ _ hn, State.source_bothLanes]
    | true =>
      by_cases hset : s.rd (pendBit n) = 1
      · rw [s.pendBitWrite_of_pending hlev h95 hset]
      · have hout : n < 84 ∨ 91 < n := by simpa [hset] using h
        have hwait : s.fwWaits n = false := by simp [State.fwWaits]; omega
        have ho : s.occursAt n = false := by simp [State.occursAt]; omega
        rw [s.pendBitWrite_of_clear hlev h95 hset, s.source_pendOne_of_other hn hwait ho]

theorem State.source_pendBitWrite_of_occurrence (hlo : 84 ≤ n) (hhi : n ≤ 91) (hw : s.fwWaits n = false)
    (hclear : s.rd (pendBit n) = 0) :
    (s.pendBitWrite n true).source n = (1, (s.rd (EIC_SRC_LOG_CNT n) + 1) % 65536, 0) := by
  rw [s.pendBitWrite_of_clear (not_isLevel_of_software hlo hhi) (by omega) (by omega)]
  exact s.source_pendOne_of_occursAt (by omega) (by simp [State.occursAt, hlo, hhi, hw])

end

theorem pendingWordWritesSetAndClear : PendingWordWritesSetAndClear := by
  intro j v s hj hphase
  refine ⟨_, exec_pendWrite j v hphase, fun b hb hlev => ?level, fun b hb hlev h95 hw => ?edge,
    fun b hb hlo hhi hhold hclear => ?waits, fun hh => ?noHold, fun b hb h => ?noCount,
    fun b hb hlo hhi hrun hset hclear => ?counts, s.pendWord_rest v _⟩
  case noHold => exact s.duplex_pendWord_of_not_hold hj v (fun a ha => List.mem_range.mp ha) hh
  -- Each other clause speaks of one bit: what the word leaves of its source, the write of that bit leaves.
  all_goals
    obtain ⟨u, hu, hhold', ht, hkept⟩ := s.source_pendWord hj v hb
    have hn : 32 * j + b < 96 := by omega
    generalize hnb : 32 * j + b = n at *
    have hu' := hu
    simp only [State.source, Prod.mk.injEq] at hu'
    obtain ⟨hup, huc, -⟩ := hu'
  case level =>
    rw [u.pendBitWrite_of_fixed _ (.inl hlev), hu] at ht
    exact congrArg Prod.fst ht
  case edge =>
    refine (congrArg Prod.fst ht).trans (u.pend_pendBitWrite hn hlev h95 ?_)
    simpa [State.fwWaits, hup, hhold', and_assoc] using hw
  case waits =>
    have hwait : u.fwWaits n = true := by simp [State.fwWaits, hlo, hhi, hhold', hhold]
    rw [u.source_pendBitWrite_of_fwWaits hn hwait (hup.trans hclear), hu] at ht
    refine ⟨(congrArg Prod.fst ht).trans hclear, congrArg (·.2.1) ht, fun hset i => hkept _ ?_⟩
    rw [State.duplex_pendBitWrite, State.withholds, if_pos ⟨hset, by omega, hwait⟩]
    cases i <;> simp
  case noCount =>
    rw [← hup] at h
    exact (congrArg (·.2.1) ht).trans ((congrArg Prod.fst (u.log_pendBitWrite_of_no_occurrence hn h)).trans huc)
  case counts =>
    have hwait : u.fwWaits n = false := by
      simp only [State.fwWaits, hhold', Bool.and_eq_false_iff, decide_eq_false_iff_not]
      rcases hrun with h | h
      · omega
      · exact .inr h
    rw [hset, u.source_pendBitWrite_of_occurrence hlo hhi hwait (hup.trans hclear), huc] at ht
    exact ⟨congrArg (·.2.1) ht, congrArg (·.2.2) ht⟩

/-- Settles O3: an occurrence by what it writes of its source, and a word of pending bits as a run over its bits, of which each
finds its own source untouched. -/
theorem occurrencesAndPendingWritesCount : Obligations.OccurrencesAndPendingWritesCount :=
  ⟨occurrencesCountStoreAndPend, pendingWordWritesSetAndClear⟩

end Sys2Proof.Machine
end

section
/-! PROOFS. The passing of ticks, safety causes that are instants, and what an occurrence of a source leaves of a lane. -/
namespace Sys2Proof.Machine

open Claims (instant instantCause)

/-! ### The passing of ticks -/

theorem State.now_advance (s : State) (k : Nat) : (s.advance k).now = s.now + k := by
  unfold State.advance
  split
  · rename_i h
    simp [h]
  · dsimp only
    split <;> simp

/-- Either all the ticks pass at once, or some of them and then the rest. -/
theorem State.passBy_succ (fuel k : Nat) (s : State) : State.passBy (fuel + 1) k s = s.advance k ∨
    ∃ j < k, State.passBy (fuel + 1) k s = State.passBy fuel (k - j) (s.advance j) := by
  rw [State.passBy]
  generalize (if s.mod.started then s.quiet k else k) = j
  by_cases h : k ≤ j
  · exact .inl (if_pos h)
  · exact .inr ⟨j, by omega, if_neg h⟩

theorem State.now_passBy (fuel k : Nat) (s : State) : (State.passBy fuel k s).now = s.now + k := by
  induction fuel generalizing k s with
  | zero => exact s.now_advance k
  | succ fuel ih =>
    obtain h | ⟨j, hj, h⟩ := s.passBy_succ fuel k
    · rw [h, State.now_advance]
    · rw [h, ih, State.now_advance]
      omega

theorem State.now_passTo (s : State) (t : Nat) : (s.passTo t).now = max s.now t := by
  unfold State.passTo State.pass
  rw [State.now_passBy]
  omega

/-- What every advance keeps, the passing of ticks keeps. -/
theorem State.passTo_keep {β : Type} (p : State → β) (h : ∀ s k, p (s.advance k) = p s) (s : State) (t : Nat) :
    p (s.passTo t) = p s := by
  unfold State.passTo State.pass
  generalize 17 + 8 * ((t - s.now) / 32768) = fuel
  generalize t - s.now = k
  induction fuel generalizing k s with
  | zero => exact h s k
  | succ fuel ih =>
    obtain e | ⟨j, -, e⟩ := s.passBy_succ fuel k
    · rw [e, h]
    · rw [e, ih, h]

theorem State.field_passTo (s : State) (t : Nat) : (s.passTo t).field = s.field :=
  State.passTo_keep State.field (by simp) s t

/-! ### Occurrences in a lane -/

@[simp] theorem Lane.occur_frame (l : Lane) (now tgt src : Nat) :
    (l.occur now tgt src).regs = l.regs ∧ (l.occur now tgt src).smon = l.smon := by
  unfold Lane.occur Lane.countPair
  dsimp only
  (repeat' split) <;> simp

@[simp] theorem Lane.rd_occur (l : Lane) (now tgt src : Nat) (x : Fld) : (l.occur now tgt src).rd x = l.rd x := by
  simp [Lane.rd]

@[simp] theorem Lane.rd_modSmon (l : Lane) (f : Smon → Smon) (x : Fld) : (l.modSmon f).rd x = l.rd x := (rfl)

theorem State.lane_raise (s : State) (src data : Nat) (j : LaneId) :
    (s.raise src data).lane j = (s.lane j).occur s.now (s.rd (EIC_ROUTE_TARGET src)) src := by
  cases j <;> simp [State.raise, State.lane]

theorem State.rd_lane_raiseFrom (s : State) (i : LaneId) (src data : Nat) (j : LaneId) (x : Fld) :
    ((s.raiseFrom i src data).lane j).rd x = (s.lane j).rd x := by
  have h := State.lane_modLane_rd s i j (fun l => l.occur s.now (s.rd (EIC_ROUTE_TARGET src)) src) x (by simp)
  unfold State.raiseFrom
  dsimp only
  (repeat' split)
  · simpa using h
  · cases j <;> simpa [State.lane] using h
  · exact h

theorem State.rd_raiseFrom (s : State) (i : LaneId) {src : Nat} (data : Nat) {x : Fld} (hs : src < 96) (hx : ¬ occurReg x.off) :
    (s.raiseFrom i src data).rd x = s.rd x := by
  unfold State.raiseFrom
  dsimp only
  (repeat' split) <;> simp [State.rd_occurHost _ _ _ hs hx]

/-! ### The registers that the passing of ticks leaves alone -/

/-- The registers of a lane that a resynchronisation counts in (R53). -/
def resyncReg (off : Nat) : Prop := ∃ n, off = ASC_S_CNT_SKIP n ∨ off = ASC_S_CNT_RESYNC n

theorem Lane.regs_advance (l : Lane) (k : Nat) : (l.advance k).regs = l.regs := by
  have hmove : ∀ (l : Lane) k, (l.moveAll k).regs = l.regs := fun l k =>
    foldl_keep Lane.regs (fun l n => l.moveSrc n k) (fun _ _ => rfl) _ l
  have hnote : ∀ l : Lane, l.noteFronts.regs = l.regs := fun _ => rfl
  unfold Lane.advance
  split <;> simp [hmove, hnote]

section
variable {x : Fld}

/-- A lane once a resynchronisation of a source has taken its LATE entries and counted them and itself (R53). -/
def Lane.resynced (l : Lane) (n : Nat) : Lane :=
  let gone := (l.asc.queue.filter fun e => e.late && e.src = n).length
  let k := l.modAsc fun a => { a with queue := a.queue.filter fun e => !(e.late && e.src = n) }
  (k.wr (ASC_S_CNT_SKIP_CNT_SKIP n) (k.rd (ASC_S_CNT_SKIP_CNT_SKIP n) + gone)).bump (ASC_S_CNT_RESYNC_CNT_RESYNC n)

theorem Lane.rd_resynced (l : Lane) (n : Nat) (hx : ¬ resyncReg x.off) : (l.resynced n).rd x = l.rd x := by
  have hskip : x.off ≠ ASC_S_CNT_SKIP n := fun h => hx ⟨n, .inl h⟩
  have hres : x.off ≠ ASC_S_CNT_RESYNC n := fun h => hx ⟨n, .inr h⟩
  unfold Lane.resynced Lane.bump
  dsimp only
  rw [Lane.rd_wr_off _ _ hres, Lane.rd_wr_off _ _ hskip]
  rfl

/-- A resynchronisation is its lane's, with its event, and in the active lane its journal record (R53). -/
theorem State.resync_cases (s : State) (i : LaneId) (n : Nat) (before : Word) : ∃ u,
    u = (s.modLane i fun l => l.resynced n).raiseFrom i 26 n ∧
    (s.resync i n before = u ∨ ∃ data, s.resync i n before = u.journalAdd 0x04 n 0 data) := by
  refine ⟨_, rfl, ?_⟩
  unfold State.resync
  dsimp only
  split
  · exact .inr ⟨_, rfl⟩
  · exact .inl rfl

theorem State.rd_lane_resync (s : State) (i : LaneId) (n : Nat) (before : Word) (j : LaneId) (hx : ¬ resyncReg x.off) :
    ((s.resync i n before).lane j).rd x = (s.lane j).rd x := by
  obtain ⟨u, hu, h⟩ := s.resync_cases i n before
  have hlane : (u.lane j).rd x = (s.lane j).rd x := by
    rw [hu, State.rd_lane_raiseFrom, State.lane_modLane_rd _ _ _ _ _ fun l => l.rd_resynced n hx]
  obtain h | ⟨data, h⟩ := h
  · rw [h, hlane]
  · rw [h, ← hlane]
    cases j <;> simp [State.lane]

theorem State.rd_lane_settle (s : State) (j : LaneId) (hx : ¬ resyncReg x.off) : (s.settle.lane j).rd x = (s.lane j).rd x := by
  have hsrc : ∀ (s : State) i n, ((s.settleSrc i n).lane j).rd x = (s.lane j).rd x := by
    intro s i n
    unfold State.settleSrc
    dsimp only
    split
    · rw [State.rd_lane_resync _ _ _ _ _ hx]
      exact State.lane_modLane_rd s i j (fun l => l.modSrc n fun a => { a with counted := true }) x fun _ => rfl
    · rfl
  exact foldl_keep (fun u : State => (u.lane j).rd x) _ (fun s n => by rw [hsrc, hsrc]) _ s

theorem State.rd_lane_advance (s : State) (k : Nat) (j : LaneId) (hx : ¬ resyncReg x.off) :
    ((s.advance k).lane j).rd x = (s.lane j).rd x := by
  have hadv : ∀ l : Lane, (l.advance k).rd x = l.rd x := fun l => by rw [Lane.rd, Lane.regs_advance, Lane.rd]
  have hstart : ((if s.mod.started then s.settle else s).lane j).rd x = (s.lane j).rd x := by
    split
    · exact s.rd_lane_settle j hx
    · rfl
  unfold State.advance
  generalize (if s.mod.started then s.settle else s) = u at hstart ⊢
  rw [← hstart]
  dsimp only
  split
  · exact hstart.symm
  · split
    · rw [State.lane_bothLanes, hadv]
      cases j <;> rfl
    · cases j <;> rfl

/-- The registers of a lane but for those that a resynchronisation counts in stay as ticks pass. -/
theorem State.rd_lane_passTo (s : State) (t : Nat) (j : LaneId) (hx : ¬ resyncReg x.off) :
    ((s.passTo t).lane j).rd x = (s.lane j).rd x :=
  State.passTo_keep (fun u => (u.lane j).rd x) (fun s k => s.rd_lane_advance k j hx) s t

theorem State.rd_resync (s : State) (i : LaneId) (n : Nat) (before : Word) (hx : ¬ occurReg x.off) (hj : x.off ≠ JRNL_STAT) :
    (s.resync i n before).rd x = s.rd x := by
  obtain ⟨u, hu, h⟩ := s.resync_cases i n before
  have hrd : u.rd x = s.rd x := by rw [hu, State.rd_raiseFrom _ _ _ (by decide) hx, State.rd_modLane]
  obtain h | ⟨data, h⟩ := h
  · rw [h, hrd]
  · rw [h, State.rd_journalAdd_of_ne _ _ _ _ _ hj, hrd]

theorem State.rd_settle (s : State) (hx : ¬ occurReg x.off) (hj : x.off ≠ JRNL_STAT) : s.settle.rd x = s.rd x := by
  have hsrc : ∀ (s : State) i n, (s.settleSrc i n).rd x = s.rd x := by
    intro s i n
    exact State.rd_ite_of (by rw [State.rd_resync _ _ _ _ hx hj, State.rd_setLane]) rfl
  exact State.rd_foldl _ _ (fun s n => by rw [hsrc, hsrc]) _ s

/-- The Sluice's registers but for those of an event and the journal's stay as ticks pass. -/
theorem State.rd_passTo (s : State) (t : Nat) (hx : ¬ occurReg x.off) (hj : x.off ≠ JRNL_STAT) : (s.passTo t).rd x = s.rd x := by
  refine State.passTo_keep (·.rd x) (fun s k => ?_) s t
  have hstart : (if s.mod.started then s.settle else s).rd x = s.rd x := State.rd_ite_of (s.rd_settle hx hj) rfl
  unfold State.advance
  exact State.rd_ite_of rfl (State.rd_ite_of hstart hstart)

end

/-- The active lane and the enabling of the safety functions stay as ticks pass. -/
theorem State.safeEn_passTo (s : State) (t : Nat) : (s.passTo t).safeEn = s.safeEn := by
  have hactive : (s.passTo t).active = s.active :=
    State.active_congr (s.rd_passTo t (by unfold occurReg; decide) (by decide))
  have hen : ¬ resyncReg SAFE_CFG := by
    rintro ⟨n, h | h⟩
    · unfold SAFE_CFG ASC_S_CNT_SKIP at h; omega
    · unfold SAFE_CFG ASC_S_CNT_RESYNC at h; omega
  simp only [State.safeEn, Lane.on, hactive, s.rd_lane_passTo (x := SAFE_CFG_EN) t s.active hen]

/-! ### Safety causes that are instants (R272, R276) -/

/-- The model's instant is the statements' one. -/
theorem State.safetyInstant_eq_instant (s : State) (code cls : Nat) : s.safetyInstant code cls = instant s code cls := by
  unfold State.safetyInstant instant
  by_cases hen : s.safeEn = true
  · by_cases hc : ∃ c ∈ s.faults.causes, c.code = code ∧ c.lastActive = s.now
    · simp [hen, hc]
    · simp [hen, hc]
  · simp [hen]

theorem State.smonInstant_eq_instantCause (s : State) (i : LaneId) (code cls : Nat) :
    s.smonInstant i code cls = instantCause s i code cls := by
  unfold State.smonInstant instantCause
  rw [State.safetyInstant_eq_instant]

/-- With the safety functions disabled a lane finds nothing. -/
theorem State.smonInstant_of_disabled {s : State} (h : s.safeEn = false) (i : LaneId) (code cls : Nat) :
    s.smonInstant i code cls = s := by
  simp [State.smonInstant, State.safetyInstant, h]

end Sys2Proof.Machine
end

section
/-! PROOFS. Safety outputs and their tests: obligation O16. -/
namespace Sys2Proof.Machine

open Claims (instant)

theorem State.sos_modSo (s : State) (n : Nat) (f : So → So) : (s.modSo n f).field.sos = updAt s.field.sos n f := by
  simp [State.modSo]

theorem le_foldl_max {α : Type} (f : α → Nat) (l : List α) (t : Nat) :
    t ≤ l.foldl (fun t a => max t (f a)) t ∧ ∀ a ∈ l, f a ≤ l.foldl (fun t a => max t (f a)) t := by
  induction l generalizing t with
  | nil => simp
  | cons b l ih =>
    obtain ⟨hstart, hrest⟩ := ih (max t (f b))
    refine ⟨Nat.le_trans (Nat.le_max_left _ _) hstart, fun a ha => ?_⟩
    obtain rfl | ha := List.mem_cons.mp ha
    · exact Nat.le_trans (Nat.le_max_right _ _) hstart
    · exact hrest a ha

/-! ### The commands (R295 to R298) -/

section
variable {n : Nat} {s : State}

/-- The earliest start of a test of output n by the ends of the tests of the others (R295). -/
def State.othersEnded (s : State) (n : Nat) : Nat :=
  (numsWhere 4 fun m => m ≠ n && (s.so m).endedAt ≠ 0).foldl (fun t m => max t ((s.so m).endedAt + 400000)) 0

theorem State.le_othersEnded {m : Nat} (hm : m < 4) (hne : m ≠ n) (hend : (s.so m).endedAt ≠ 0) :
    (s.so m).endedAt + 400000 ≤ s.othersEnded n :=
  (le_foldl_max (fun m => (s.so m).endedAt + 400000) _ 0).2 m (by simp [numsWhere, hm, hne, hend])

/-- The test of an output that is on starts where no test runs (R295). -/
theorem exec_soTestStart_of_on (ha : (s.so n).swA = true) (hb : (s.so n).swB = true) (ht : ∀ o ∈ s.field.sos, o.test = none) :
    ∃ u, u = s.passTo (max (max (s.so n).testDue
        ((s.so n).onAt + 2 * (400 * (s.lane s.active).rd (SAFE_SO_CFG_TPW n)))) (s.othersEnded n)) ∧
      exec (.soTestStart n) s = .next (u.modSo n fun o => { (o.setSw (LaneId.other o.lastLane) false) with
        test := some (LaneId.other o.lastLane, u.now), rb := false,
        testDue := u.now + 400000000 * (u.lane u.active).rd (SAFE_SO_CFG_TPER n) }) := by
  have hidle : (!(s.so n).on || s.field.sos.any fun x => x.test.isSome) = false := by
    simpa [So.on, ha, hb] using ht
  refine ⟨_, rfl, ?_⟩
  change execSoTestStart n s = _
  rw [execSoTestStart, if_neg (by simp [hidle])]
  rfl

theorem exec_soTestEnd_of_running {t0 : Nat} {i : LaneId} (h : (s.so n).test = some (i, t0)) :
    ∃ u, u = s.passTo (t0 + 400 * (s.lane s.active).rd (SAFE_SO_CFG_TPW n)) ∧
      exec (.soTestEnd n true) s = .next (u.modSo n fun o => { (o.setSw i true) with
        test := none, endedAt := u.now, recheck := true, passed := true, lastLane := i, rb := true }) ∧
      exec (.soTestEnd n false) s =
        .next (instant (u.modSo n fun o => { o.off u.now with passed := false, lastLane := i, manual := true }) 0x29 2) := by
  refine ⟨_, rfl, ?_, ?_⟩
  · change execSoTestEnd n true s = _
    rw [execSoTestEnd, h]
    rfl
  · change execSoTestEnd n false s = _
    rw [execSoTestEnd, h, ← State.safetyInstant_eq_instant]
    rfl

theorem exec_soTestRecheck_of_due (h : (s.so n).recheck = true) :
    ∃ u, u = s.passTo ((s.so n).endedAt + 20000) ∧
      exec (.soTestRecheck n true) s = .next (u.modSo n fun o => { o with recheck := false }) ∧
      exec (.soTestRecheck n false) s = .next (instant (u.modSo n fun o => { o.off u.now with manual := true }) 0x2A 1) := by
  refine ⟨_, rfl, ?_, ?_⟩
  · change execSoTestRecheck n true s = _
    rw [execSoTestRecheck, h]
    rfl
  · change execSoTestRecheck n false s = _
    rw [execSoTestRecheck, h, ← State.safetyInstant_eq_instant]
    rfl

/-- The readback of an output whose switches are open, as read high (R298). -/
theorem exec_soReadback_of_high {u : State} (hu : u = s.modSo n fun o => { o with rb := true }) (ha : (s.so n).swA = false)
    (hb : (s.so n).swB = false) (hen : u.safeEn = true) (hc : u.causeActive 0x29 (n + 1) = false)
    (ht : (s.so n).offAt + 420000 ≤ s.now) :
    exec (.soReadback n true) s = .next (u.cause 0x29 2 .module (n + 1) none true) := by
  have hlate : ¬ u.now < (s.so n).offAt + 420000 := by
    rw [hu]
    simpa using ht
  change execSoReadback n true s = _
  rw [execSoReadback, if_neg (by simp [ha, hb])]
  dsimp only
  rw [← hu]
  simp [hen, hc, hlate]

theorem exec_soReadback_of_low (ha : (s.so n).swA = false) (hb : (s.so n).swB = false) :
    exec (.soReadback n false) s = .next ((s.modSo n fun o => { o with rb := false }).causeEnd 0x29 (n + 1)) := by
  change execSoReadback n false s = _
  rw [execSoReadback, if_neg (by simp [ha, hb])]
  rfl

theorem exec_soOverload_of_on (ha : (s.so n).swA = true) (hb : (s.so n).swB = true)
    (ht : (s.so n).onAt + 800 * (s.lane s.active).rd (SAFE_SO_CFG_TPW n) + 400000 ≤ s.now) :
    exec (.soOverload n) s = .next (instant (s.modSo n fun o => { o.off s.now with manual := true }) 0x2A 1) := by
  change execSoOverload n s = _
  rw [execSoOverload, if_pos (by simp [So.on, ha, hb, ht]), State.soOverload, State.safetyInstant_eq_instant]

end

/-- Settles O16: each clause is its command; that a test waits for its period, the switch-on and the tests of the other outputs
is the instant to which its start lets the ticks pass. -/
theorem safetyOutputsAreTested : Obligations.SafetyOutputsAreTested := by
  unfold Obligations.SafetyOutputsAreTested
  refine ⟨?start, ?ends, fun n s h => exec_soTestRecheck_of_due h, ?readback, fun n s => exec_soOverload_of_on⟩
  case start =>
    intro n s ha hb ht
    obtain ⟨u, hu, he⟩ := exec_soTestStart_of_on ha hb ht
    have hnow := s.now_passTo (max (max (s.so n).testDue
      ((s.so n).onAt + 2 * (400 * (s.lane s.active).rd (SAFE_SO_CFG_TPW n)))) (s.othersEnded n))
    rw [← hu] at hnow
    have hfield : u.field.sos = s.field.sos := by rw [hu, State.field_passTo]
    refine ⟨u, hfield, by omega, by omega, by omega, fun m hm hne hend => ?_, _, he, State.sos_modSo _ _ _⟩
    have hother := State.le_othersEnded hm hne hend
    omega
  case ends =>
    intro n t0 i s h
    obtain ⟨u, hu, hgood, hbad⟩ := exec_soTestEnd_of_running h
    exact ⟨u, hu, hgood, _, rfl, hbad⟩
  case readback =>
    intro n s ha hb
    exact ⟨_, rfl, exec_soReadback_of_high rfl ha hb, exec_soReadback_of_low ha hb⟩

end Sys2Proof.Machine
end

section
/-! PROOFS. Porpatis Safe Frames: obligation O17. -/
namespace Sys2Proof.Machine

open Claims (inLane)

/-! ### What a frame is judged by, whatever the lanes hold -/

section
variable {i j : LaneId} {g : Lane → Lane} {f : List Byte} {s : State}

@[simp] theorem State.psfSound_modLane (l : Lane) : (s.modLane i g).psfSound l f = s.psfSound l f := by simp [State.psfSound]

@[simp] theorem State.psfInTime_modLane (l : Lane) : (s.modLane i g).psfInTime l f = s.psfInTime l f := by
  simp [State.psfInTime, State.psfAge, State.noTime]

@[simp] theorem State.laneLive_modLane : (s.modLane i g).laneLive j = s.laneLive j := by
  have h : (s.modLane i g).laneState j = s.laneState j := by cases j <;> simp [State.laneState]
  simp only [State.laneLive, h]

/-- A change of a lane leaves all but the lanes alone. -/
theorem State.modLane_rest (s : State) (i : LaneId) (g : Lane → Lane) :
    s.modLane i g = { s with laneA := (s.modLane i g).laneA, laneB := (s.modLane i g).laneB } := by cases i <;> rfl

theorem State.modLane_modLane (s : State) (i : LaneId) (g h : Lane → Lane) :
    (s.modLane i g).modLane i h = s.modLane i fun l => h (g l) := by cases i <;> rfl

end

/-- The SEQ is that of LAST. -/
def psfIsCopy (last : Option PsfLast) (f : List Byte) : Bool := last.any fun x => decide (x.seq.toNat = psfNum f 4 4)

theorem not_psfIsCopy_of_follows {last : Option PsfLast} {f : List Byte}
    (h : ∀ x, last = some x → 1 ≤ (BitVec.ofNat 32 (psfNum f 4 4) - x.seq).toNat ∧
      (BitVec.ofNat 32 (psfNum f 4 4) - x.seq).toNat ≤ 16) : psfIsCopy last f = false := by
  cases last with
  | none => rfl
  | some x =>
    have hd := (h x rfl).1
    simp only [psfIsCopy, Option.any_some, decide_eq_false_iff_not]
    intro e
    simp [← e] at hd

theorem psfSeqOk_of_follows {last : Option PsfLast} {f : List Byte} (hn : last = none → psfNum f 1 1 = 1)
    (h : ∀ x, last = some x → 1 ≤ (BitVec.ofNat 32 (psfNum f 4 4) - x.seq).toNat ∧
      (BitVec.ofNat 32 (psfNum f 4 4) - x.seq).toNat ≤ 16) : psfSeqOk last f = true := by
  cases last with
  | none => simpa [psfSeqOk] using hn
  | some x => simpa [psfSeqOk] using h x rfl

/-! ### A frame in one lane (R300) -/

section
variable {i : LaneId} {f : List Byte} {s : State}

/-- The state in which a lane judges a frame: NOTIME follows the clock. -/
def State.psfNoted (s : State) (i : LaneId) : State := s.modLane i fun l => l.wr SAFE_PSF_STAT_NOTIME (b2n s.psfNoTime)

/-- A frame discarded and counted. -/
def State.psfDiscard (s : State) (i : LaneId) : State := (s.psfNoted i).modLane i fun l => l.bump SAFE_PSF_STAT_DISCARD

theorem exec_psfCmd_inLane : exec (.psfCmd (inLane i) f) s = .next (s.psfFrame i f) := by
  change execPsfCmd _ _ _ = _
  rw [execPsfCmd, State.onLanes_inLane]

theorem exec_psfLockoutReset_inLane : exec (.psfLockoutReset (inLane i) f) s = .next (s.psfFrame i f) := by
  change execPsfLockoutReset _ _ _ = _
  rw [execPsfLockoutReset, State.onLanes_inLane]

theorem State.psfFrame_of_disabled (hen : (s.lane i).rd SAFE_PSF_CFG_PSF_EN ≠ 1) : s.psfFrame i f = s :=
  if_pos (by simpa [Lane.on] using hen)

/-- A frame that is no copy of LAST is accepted where it is sound, follows LAST and is in time; any other is discarded. -/
theorem State.psfFrame_of_no_copy (hen : (s.lane i).rd SAFE_PSF_CFG_PSF_EN = 1)
    (hc : (s.psfSound (s.lane i) f && psfIsCopy (s.lane i).smon.last f) = false) :
    s.psfFrame i f = if s.psfSound (s.lane i) f && psfSeqOk (s.lane i).smon.last f && s.psfInTime (s.lane i) f
      then (s.psfNoted i).psfAccept i f else s.psfDiscard i := by
  have hon : (s.lane i).on SAFE_PSF_CFG_PSF_EN = true := by simpa [Lane.on] using hen
  unfold State.psfFrame
  dsimp only
  rw [if_neg (by simp [hon])]
  cases hlast : (s.lane i).smon.last with
  | none => simp [State.psfNoted, State.psfDiscard]
  | some x =>
    rw [hlast] at hc
    simp only [psfIsCopy, Option.any_some] at hc
    simp [hc, State.psfNoted, State.psfDiscard]

theorem State.psfFrame_of_follows (hen : (s.lane i).rd SAFE_PSF_CFG_PSF_EN = 1) (hs : s.psfSound (s.lane i) f = true)
    (ht : s.psfInTime (s.lane i) f = true) (hn : (s.lane i).smon.last = none → psfNum f 1 1 = 1)
    (h : ∀ x, (s.lane i).smon.last = some x → 1 ≤ (BitVec.ofNat 32 (psfNum f 4 4) - x.seq).toNat ∧
      (BitVec.ofNat 32 (psfNum f 4 4) - x.seq).toNat ≤ 16) : s.psfFrame i f = (s.psfNoted i).psfAccept i f := by
  rw [State.psfFrame_of_no_copy hen (by rw [not_psfIsCopy_of_follows h, Bool.and_false]), if_pos]
  rw [hs, psfSeqOk_of_follows hn h, ht]
  rfl

theorem State.psfFrame_of_unsound (hen : (s.lane i).rd SAFE_PSF_CFG_PSF_EN = 1) (hs : s.psfSound (s.lane i) f = false) :
    s.psfFrame i f = s.psfDiscard i := by
  rw [State.psfFrame_of_no_copy hen (by rw [hs, Bool.false_and]), if_neg (by simp [hs])]

/-- With LAST unset no LOCKOUT_RESET frame is accepted (R300). -/
theorem State.psfFrame_of_reset_unset (hen : (s.lane i).rd SAFE_PSF_CFG_PSF_EN = 1) (ht : psfNum f 1 1 = 2)
    (hl : (s.lane i).smon.last = none) : s.psfFrame i f = s.psfDiscard i := by
  rw [State.psfFrame_of_no_copy hen (by simp [hl, psfIsCopy]), if_neg (by simp [hl, psfSeqOk, ht])]

theorem State.psfDiscard_frame (s : State) (i : LaneId) : ∃ t, t = s.psfDiscard i ∧
    (t.lane i).rd SAFE_PSF_STAT_DISCARD = ((s.lane i).rd SAFE_PSF_STAT_DISCARD + 1) % 65536 ∧
    (t.lane i).smon = (s.lane i).smon ∧ t = { s with laneA := t.laneA, laneB := t.laneB } := by
  refine ⟨_, rfl, ?_, ?_, ?_⟩
  · have hnoted : ((s.psfNoted i).lane i).rd SAFE_PSF_STAT_DISCARD = (s.lane i).rd SAFE_PSF_STAT_DISCARD := by
      rw [State.psfNoted, State.lane_modLane]
      exact Lane.rd_wr_bits _ _ rfl (by decide) (by decide) (by decide) (by decide)
    rw [State.psfDiscard, State.lane_modLane, Lane.bump, hnoted]
    exact Lane.rd_wr _ _ _ (by decide) (by decide)
  · simp [State.psfDiscard, State.psfNoted, Lane.bump, Lane.wr]
  · rw [State.psfDiscard, State.psfNoted, State.modLane_modLane]
    exact State.modLane_rest _ _ _

end

/-! ### Acceptance as new (R300 to R302) -/

section
variable {i : LaneId} {f : List Byte} {s : State}

/-- What a lane's Safety Monitor holds once it has accepted a frame as new. -/
def Smon.accepted (m : Smon) (f : List Byte) (now : Nat) : Smon :=
  { m with last := some { seq := BitVec.ofNat 32 (psfNum f 4 4), bytes := f, at_ := now, matched := false }, psfTimeout := false }

theorem State.psfAccept_of_cmd (s : State) (ht : psfNum f 1 1 = 1) : ∃ u,
    u = (s.modLane i fun l => l.modSmon fun m => { m.accepted f s.now with cmdBits := BitVec.ofNat 3 (psfNum f 16 1) }) ∧
    s.psfAccept i f = if s.active = i then u.sendPsfStatus else u := by
  refine ⟨_, rfl, ?_⟩
  unfold State.psfAccept
  dsimp only
  rw [if_pos ht, State.modLane_modLane, State.active_modLane]
  rfl

theorem State.psfAccept_of_reset (s : State) (ht : psfNum f 1 1 = 2) : ∃ tag, tag = BitVec.ofNat 32 (psfNum f 16 4) ∧
    s.psfAccept i f =
      (s.modLane i fun l => l.modSmon fun m => { m.accepted f s.now with lockReset := some tag }).psfLockout tag := by
  refine ⟨_, rfl, ?_⟩
  unfold State.psfAccept
  dsimp only
  rw [if_neg (by simp [ht]), State.modLane_modLane]
  rfl

/-- An accepted CMD frame sets LAST, the request bits and NOTIME, and the active lane answers it (R300, R301). -/
theorem State.psfAccept_cmd_frame (s : State) (ht : psfNum f 1 1 = 1) : ∃ t, t = (s.psfNoted i).psfAccept i f ∧
    (t.lane i).smon = { (s.lane i).smon.accepted f s.now with cmdBits := BitVec.ofNat 3 (psfNum f 16 1) } ∧
    (t.lane i).rd SAFE_PSF_STAT_NOTIME = b2n s.psfNoTime ∧
    t.safe.statusSent.length = s.safe.statusSent.length + (if s.active = i then 1 else 0) ∧
    t = { s with laneA := t.laneA, laneB := t.laneB, safe := t.safe } := by
  obtain ⟨u, hu, ht⟩ := (s.psfNoted i).psfAccept_of_cmd (i := i) ht
  have hsmon : (u.lane i).smon = { (s.lane i).smon.accepted f s.now with cmdBits := BitVec.ofNat 3 (psfNum f 16 1) } := by
    simp [hu, State.psfNoted, Lane.modSmon, Lane.wr]
  have hnotime : (u.lane i).rd SAFE_PSF_STAT_NOTIME = b2n s.psfNoTime := by
    rw [hu, State.lane_modLane, State.psfNoted, State.lane_modLane, Lane.rd_modSmon,
      Lane.rd_wr _ _ _ (by decide) (by decide)]
    cases s.psfNoTime <;> rfl
  have hactive : (s.psfNoted i).active = s.active := State.active_modLane _ _ _
  have hrest : u = { s with laneA := u.laneA, laneB := u.laneB } := by
    rw [hu, State.psfNoted, State.modLane_modLane]
    exact State.modLane_rest _ _ _
  have hsafe : u.safe = s.safe := by rw [hrest]
  refine ⟨_, rfl, ?_⟩
  rw [ht, hactive]
  split
  · have hlane : u.sendPsfStatus.lane i = u.lane i := State.lane_modSafe _ _ _
    refine ⟨by rw [hlane, hsmon], by rw [hlane, hnotime], by simp [State.sendPsfStatus, hsafe], ?_⟩
    rw [hrest]
    rfl
  · exact ⟨hsmon, hnotime, by simp [hsafe], by rw [hrest]⟩

theorem State.psfLockout_of_alone {tag : Word} (hother : ∀ j, j ≠ i → s.laneLive j = false)
    (h : (s.lane i).smon.lockReset = some tag) :
    (tag = s.faults.lockTag → (s.psfLockout tag).safe.lockPend = some tag) ∧
    (tag ≠ s.faults.lockTag → (s.psfLockout tag).safe.lockPend = s.safe.lockPend ∧ (s.psfLockout tag).safe.lockStatus = 0x08) := by
  have hall : ([LaneId.a, LaneId.b].all fun i => !s.laneLive i || (s.lane i).smon.lockReset = some tag) = true := by
    have hj : ∀ j, (!s.laneLive j || decide ((s.lane j).smon.lockReset = some tag)) = true := fun j => by
      by_cases e : j = i
      · simp [e, h]
      · simp [hother j e]
    simp [hj]
  unfold State.psfLockout
  rw [if_pos hall]
  dsimp only
  constructor
  · intro e
    rw [if_neg (by simp [e])]
    rfl
  · intro e
    rw [if_pos (by simpa using e)]
    simp

end

/-! ### The times that run from a frame (R300) -/

section
variable {i : LaneId} {x : PsfLast} {s : State}

theorem exec_psfMatchWin_of_single (hl : (s.lane i).smon.last = some x) (hm : x.matched = false) :
    exec (.psfMatchWin (inLane i)) s = .next ((s.passTo (x.at_ + 400000 * (s.lane i).rd SAFE_PSF_CFG_MATCH_WIN)).modLane i
      fun l => (l.bump SAFE_PSF_STAT_SINGLE).modSmon fun m => { m with last := some { x with matched := true } }) := by
  change execPsfMatchWin _ _ = _
  rw [execPsfMatchWin, State.onLanes_inLane, hl]
  dsimp only
  rw [if_neg (by simp [hm])]

theorem exec_psfTimeout_of_last (hen : (s.lane i).rd SAFE_PSF_CFG_PSF_EN = 1) (ht : (s.lane i).smon.psfTimeout = false)
    (hl : (s.lane i).smon.last = some x) : ∃ u, u = s.passTo (x.at_ + 400000 * (s.lane i).rd SAFE_PSF_CFG_PSF_WDOG) ∧
      exec (.psfTimeout (inLane i)) s = .next (State.syncDemands (u.modLane i fun l => l.modSmon fun m =>
        { m with psfTimeout := true, last := none, unsetSince := u.now,
                 demands := if m.demands.contains 0x24 then m.demands else 0x24 :: m.demands })) := by
  refine ⟨_, rfl, ?_⟩
  change execPsfTimeout _ _ = _
  rw [execPsfTimeout, State.onLanes_inLane]
  dsimp only
  rw [if_neg (by simp [Lane.on, hen, ht]), hl]

end

/-- Settles O17: what a lane makes of a frame by whether it is sound, in time and follows LAST, and what acceptance then does. -/
theorem safeFramesAreAcceptedOrDiscarded : Obligations.SafeFramesAreAcceptedOrDiscarded := by
  unfold Obligations.SafeFramesAreAcceptedOrDiscarded
  refine ⟨?disabled, ?accepted, ?unsound, ?unset, ?reset, fun i x s => exec_psfMatchWin_of_single,
    fun i x s => exec_psfTimeout_of_last⟩
  case disabled =>
    intro i f s hen
    rw [exec_psfCmd_inLane, exec_psfLockoutReset_inLane, State.psfFrame_of_disabled hen]
    exact ⟨rfl, rfl⟩
  case accepted =>
    intro i f s hen hs hcmd hin hseq
    obtain ⟨t, ht, hsmon, hnotime, hsent, hrest⟩ := s.psfAccept_cmd_frame (i := i) hcmd
    refine ⟨t, ?_, hsmon, hnotime.trans (by simp [State.psfNoTime, State.noTime]), hsent, hrest⟩
    rw [exec_psfCmd_inLane, State.psfFrame_of_follows hen hs hin (fun _ => hcmd) hseq, ht]
  case unsound =>
    intro i f s hen hs
    obtain ⟨t, ht, hcount, hsmon, hrest⟩ := s.psfDiscard_frame i
    rw [exec_psfCmd_inLane, exec_psfLockoutReset_inLane, State.psfFrame_of_unsound hen hs, ← ht]
    exact ⟨t, rfl, rfl, hcount, hsmon, hrest⟩
  case unset =>
    intro i f s hen _ htype hl
    obtain ⟨t, ht, hcount, hsmon, -⟩ := s.psfDiscard_frame i
    rw [exec_psfLockoutReset_inLane, State.psfFrame_of_reset_unset hen htype hl, ← ht]
    exact ⟨t, rfl, hsmon, hcount⟩
  case reset =>
    intro i f x s hen hs htype hin hl hlo hhi hother _
    obtain ⟨tag, htag, ht⟩ := (s.psfNoted i).psfAccept_of_reset (i := i) htype
    have hseq : ∀ y, (s.lane i).smon.last = some y → 1 ≤ (BitVec.ofNat 32 (psfNum f 4 4) - y.seq).toNat ∧
        (BitVec.ofNat 32 (psfNum f 4 4) - y.seq).toNat ≤ 16 := by
      rintro y hy
      obtain rfl : x = y := Option.some.inj (hl.symm.trans hy)
      exact ⟨hlo, hhi⟩
    rw [exec_psfLockoutReset_inLane, State.psfFrame_of_follows hen hs hin (by simp [hl]) hseq, ht, ← htag]
    refine ⟨_, rfl, ?_⟩
    have halone := State.psfLockout_of_alone (i := i) (tag := tag)
      (s := (s.psfNoted i).modLane i fun l => l.modSmon fun m => { m.accepted f (s.psfNoted i).now with lockReset := some tag })
      (fun j hj => by simpa [State.psfNoted] using hother j hj) (by simp [Lane.modSmon])
    simpa [State.psfNoted] using halone

end Sys2Proof.Machine
end

section
/-! PROOFS. Safety inputs and test pulses: obligation O18. -/
namespace Sys2Proof.Machine

open Claims (inLane instantCause SafetyInputsAreSampledAndTested SafetyInputFilterCountsAgreeingSamples)

/-! ### Test pulses (R289) -/

/-- A pulse comes in the first period in which it does not lie behind. -/
theorem pulseAt_eq {base per n from_ : Nat} (hper : 0 < per) : ∃ k, pulseAt base per n from_ = base + n * per / 4 + k * per ∧
    from_ ≤ pulseAt base per n from_ ∧ (k = 0 ∨ pulseAt base per n from_ < from_ + per) := by
  unfold pulseAt
  dsimp only
  generalize base + n * per / 4 = first
  by_cases h : from_ ≤ first
  · exact ⟨0, by simp [h]⟩
  · rw [if_neg (by simp [h]; omega)]
    have hdiv := Nat.div_add_mod (from_ - first + per - 1) per
    have hmod := Nat.mod_lt (from_ - first + per - 1) hper
    rw [Nat.mul_comm] at hdiv
    refine ⟨_, rfl, ?_, .inr ?_⟩ <;> omega

section
variable {n per : Nat} {s : State}

theorem exec_testPulse_of_first (hper : per = 400000 * (s.lane s.active).rd SAFE_TP_CFG_TP_PER) (hbase : s.field.tpBase = none) :
    ∃ base, (base + n * per / 4 = s.now ∨ base + n * per / 4 = s.now + per ∨ s.now + per < n * per / 4) ∧
      exec (.testPulse n) s = .next
        { s with field := { s.field with tpBase := some base, tpAt := s.field.tpAt.set n (some s.now) } } := by
  refine ⟨if n * per / 4 ≤ s.now then s.now - n * per / 4 else s.now + per - n * per / 4, ?_, ?_⟩
  · split <;> omega
  · change execTestPulse n s = _
    rw [execTestPulse, hbase, hper]
    rfl

theorem exec_testPulse_of_base {base : Nat} (hper : per = 400000 * (s.lane s.active).rd SAFE_TP_CFG_TP_PER) (hpos : 0 < per)
    (hbase : s.field.tpBase = some base) : ∃ from_ k p u,
      from_ = (match s.field.tpAt.getD n none with
        | some t => max s.now (t + 1)
        | none => s.now) ∧
      p = base + n * per / 4 + k * per ∧ from_ ≤ p ∧ (k = 0 ∨ p < from_ + per) ∧ u = s.passTo p ∧
      exec (.testPulse n) s = .next
        { u with field := { u.field with tpBase := some base, tpAt := u.field.tpAt.set n (some u.now) } } := by
  obtain ⟨k, hp, hfrom, hk⟩ := pulseAt_eq (base := base) (n := n) hpos (from_ := match s.field.tpAt.getD n none with
    | some t => max s.now (t + 1)
    | none => s.now)
  refine ⟨_, k, _, _, rfl, hp, hfrom, hk, rfl, ?_⟩
  change execTestPulse n s = _
  rw [execTestPulse, hbase, hper]
  rfl

end

/-! ### A sample in one lane (R290, R291) -/

section
variable {s : State} {i j : LaneId} {raws : Nat → Bool}

theorem State.lane_siLane_ne (h : j ≠ i) : (s.siLane i raws).1.lane j = s.lane j := State.lane_setLane_ne _ _ h

theorem State.rd_lane_siLane {x : Fld} (h : x.off ≠ SAFE_SI_STAT) : ((s.siLane i raws).1.lane j).rd x = (s.lane j).rd x := by
  by_cases e : j = i
  · subst e
    have hbad : ∀ (l : Lane) (ns : List Nat), (ns.foldl (fun l n => l.wr ⟨SAFE_SI_STAT, n, n⟩ 1) l).rd x = l.rd x :=
      fun l ns => foldl_keep (fun l : Lane => l.rd x) _ (fun l n => l.rd_wr_off (x := ⟨SAFE_SI_STAT, n, n⟩) 1 h) ns l
    unfold State.siLane
    dsimp only
    rw [State.lane_setLane, Lane.rd_modSmon, hbad, Lane.rd_wr_off _ _ h, Lane.rd_wr_off _ _ h]
  · rw [State.lane_siLane_ne e]

theorem State.active_siLane : (s.siLane i raws).1.active = s.active := State.active_congr (by simp [State.rd])

theorem State.safeEn_siLane : (s.siLane i raws).1.safeEn = s.safeEn := by
  simp only [State.safeEn, Lane.on, State.active_siLane]
  rw [State.rd_lane_siLane (by decide)]

/-- Each channel takes its step. -/
theorem State.si_siLane {c : Nat} (hc : c < 16) : ((s.siLane i raws).1.lane i).smon.si.getD c SiChan.reset =
    (s.siStep ((s.lane i).siSrc c) ((s.lane i).rd (SAFE_SI_CFG_FILT (c / 2))) (raws c)
      ((s.lane i).smon.si.getD c SiChan.reset)).1 := by
  unfold State.siLane
  dsimp only
  rw [State.lane_setLane]
  simp [Lane.modSmon, hc]

/-- What a sample does to a channel rests on the test pulses alone. -/
theorem State.siStep_congr {t : State} (h : ∀ src tail, t.inPulse src tail = s.inPulse src tail) (src filt : Nat) (raw : Bool)
    (x : SiChan) : t.siStep src filt raw x = s.siStep src filt raw x := by
  simp only [State.siStep, h]

theorem State.inPulse_siLane (src tail : Nat) : (s.siLane i raws).1.inPulse src tail = s.inPulse src tail := by
  have hfield : (s.siLane i raws).1.field = s.field := by simp
  have hnow : (s.siLane i raws).1.now = s.now := by simp
  unfold State.inPulse
  rw [hfield, hnow, State.active_siLane, State.rd_lane_siLane (by decide)]

/-- A lane takes a sample of every channel, with the pairs of which it finds SI_XSHORT. -/
def State.siTaken (s : State) (i : LaneId) (raws : Nat → Bool) : State :=
  if (s.siLane i raws).2.isEmpty then (s.siLane i raws).1 else (s.siLane i raws).1.smonInstant i 0x28 2

theorem State.siTaken_of_disabled (h : s.safeEn = false) : s.siTaken i raws = (s.siLane i raws).1 := by
  unfold State.siTaken
  rw [State.smonInstant_of_disabled (State.safeEn_siLane.trans h), ite_self]

/-- With the safety functions disabled each lane's channels take their steps from the state before. -/
theorem State.si_siTaken_both {c : Nat} (h : s.safeEn = false) (hc : c < 16) :
    ((((s.siTaken .a raws).siTaken .b raws).lane i).smon.si.getD c SiChan.reset) =
      (s.siStep ((s.lane i).siSrc c) ((s.lane i).rd (SAFE_SI_CFG_FILT (c / 2))) (raws c)
        ((s.lane i).smon.si.getD c SiChan.reset)).1 := by
  rw [State.siTaken_of_disabled h, State.siTaken_of_disabled (State.safeEn_siLane.trans h)]
  cases i with
  | a => rw [State.lane_siLane_ne (by decide), State.si_siLane hc]
  | b => rw [State.si_siLane hc, State.lane_siLane_ne (by decide), State.siStep_congr State.inPulse_siLane]

end

/-! ### The commands (R290, R292) -/

/-- The level of a channel in a sample: channels 2n and 2n + 1 are A and B of pair n. -/
def rawsOf (a b : BitVec 8) (c : Nat) : Bool := if c % 2 = 0 then a.getLsbD (c / 2) else b.getLsbD (c / 2)

theorem exec_siSample (a b : BitVec 8) (s : State) : ∃ v,
    v = (s.passTo (s.field.sampleAt + 4000)).modField (fun f => { f with sampleAt := (s.passTo (s.field.sampleAt + 4000)).now }) ∧
    exec (.siSample a b) s = .next ((v.siTaken .a (rawsOf a b)).siTaken .b (rawsOf a b)) := ⟨_, rfl, rfl⟩

theorem exec_siDisc_of_contradicting {i : LaneId} {p t0 : Nat} {s : State} (h : (s.lane i).smon.discSince.getD p none = some t0) :
    exec (.siDisc (inLane i) p) s = .next (instantCause
      ((s.passTo (t0 + 800000 * (s.lane i).rd (SAFE_SI_CFG_DISC_T p))).modLane i fun l => l.wr ⟨SAFE_SI_STAT, p, p⟩ 1) i 0x27 2) := by
  change execSiDisc _ _ _ = _
  rw [execSiDisc, State.onLanes_inLane, h, ← State.smonInstant_eq_instantCause]

theorem safetyInputsAreSampledAndTested : SafetyInputsAreSampledAndTested := by
  refine ⟨?pulse, ?sample, fun i p t0 s => exec_siDisc_of_contradicting⟩
  case pulse =>
    intro n per s hper hpos
    exact ⟨exec_testPulse_of_first hper, fun base => exec_testPulse_of_base hper hpos⟩
  case sample =>
    intro a b s
    obtain ⟨v, hv, he⟩ := exec_siSample a b s
    refine ⟨_, v, rfl, hv, _, he, fun hen i c hc => State.si_siTaken_both ?_ hc⟩
    rw [hv]
    exact (s.safeEn_passTo _).trans hen

theorem safetyInputFilterCountsAgreeingSamples : SafetyInputFilterCountsAgreeingSamples := by
  intro s src filt raw x hquiet
  have hq : (decide (src < 4) && s.inPulse src 80000) = false := by simpa using hquiet
  refine ⟨fun h => ?_, fun h hlong => ?_, fun h hshort => ?_⟩
  · simp [State.siStep, hq, h]
  · simp [State.siStep, hq, h, hlong]
  · simp [State.siStep, hq, h, Nat.not_le.mpr hshort]

/-- Settles O18: the commands of the test pulses and samples, and the filter's step outside the windows of its source. -/
theorem safetyInputsAreSampledFilteredAndTested : Obligations.SafetyInputsAreSampledFilteredAndTested :=
  ⟨safetyInputsAreSampledAndTested, safetyInputFilterCountsAgreeingSamples⟩

end Sys2Proof.Machine
end

section
/-! PROOFS. The safety cycle and the times that run out: obligation O19. -/
namespace Sys2Proof.Machine

open Claims (inLane instant instantCause SafetyCycleDecidesTheFunctions SafetyTimesRunOut)

/-! ### Speeds (R281) -/

theorem speedOf_fits {delta v : Int} {cpr win ratio : Nat} (h : speedOf delta cpr win ratio = some v) :
    (BitVec.ofInt 32 v).toInt = v := by
  unfold speedOf at h
  dsimp only at h
  split at h
  · simp at h
  · rename_i hr
    simp only [Bool.or_eq_true, decide_eq_true_eq, not_or] at hr
    obtain rfl := Option.some.inj h
    exact BitVec.toInt_ofInt_eq_self (by decide) (by omega) (by omega)

/-- A speed as the cycle takes it, an open value where it does not fit, stands in the register SPD whole. -/
theorem State.orFree_speedOf_fits (s : State) (delta : Int) (cpr win ratio : Nat) :
    (BitVec.ofInt 32 (s.orFree (speedOf delta cpr win ratio)).1).toInt = (s.orFree (speedOf delta cpr win ratio)).1 := by
  cases h : speedOf delta cpr win ratio with
  | none => simp [State.orFree]
  | some v => exact speedOf_fits h

/-! ### The parts of the cycle -/

/-- The registers of a lane after a cycle: speeds and parameter CRC, SLS_OK, LOCK_PERMIT, LIM_SEL and the pairs in demand. -/
def Lane.cycled (l : Lane) (v0 v1 : Int) (m : Smon) (slsOk lock limSel demand : Nat) : Lane :=
  (((Lane.wr { l with smon := m, regs := ((l.regs.set (SAFE_SPD 0) (BitVec.ofInt 32 v0)).set (SAFE_SPD 1)
    (BitVec.ofInt 32 v1)).set SAFE_PARAM_CRC m.paramCrc } SAFE_STAT_SLS_OK slsOk).wr SAFE_STAT_LOCK_PERMIT lock).wr
    SAFE_STAT_LIM_SEL limSel).wr SAFE_SI_STAT_DEMAND demand

/-- The outputs that a lane commands on, as bits of a number (R294). -/
def State.soCommands (s : State) (l : Lane) : Nat := (List.range 4).foldl (fun a n => a + b2n (s.soCommand l n) * 2 ^ n) 0

/-- A lane's registers after a cycle stand, with the event SAFE for changed bits, and its outputs are commanded (R294, R356). -/
def State.concluded (s : State) (i : LaneId) (l : Lane) (old : Nat) : State :=
  ((s.setLane i l).safeEvent old).modLane i fun k =>
    k.modSmon fun m => { m with soCmd := BitVec.ofNat 4 (((s.setLane i l).safeEvent old).soCommands l) }

/-- LIM1 is in force rather than LIM0 (R282). -/
def Lane.limSel (l : Lane) : Bool := l.funcDemand 2 || l.smon.cmdBits.getLsbD 1

/-- The limit in force (R282). -/
def Lane.limit (l : Lane) : Nat := 4096 * (if l.limSel then l.rd SAFE_SLS_LIM_LIM1 else l.rd SAFE_SLS_LIM_LIM0)

/-- The demands of a cycle: by a pair or a safe frame, for the speed, motoring and a silent connection (R276, R293). -/
def Lane.demandsOf (l : Lane) (slsOk motoring : Bool) : List Nat :=
  (if l.funcDemand 1 then [0x20] else []) ++ (if l.smon.cmdBits.getLsbD 0 then [0x21] else []) ++
    (if slsOk then [] else [0x22]) ++ (if motoring then [0x23] else []) ++
    (if l.smon.psfTimeout && l.on SAFE_PSF_CFG_PSF_EN then [0x24] else [])

/-- A cycle concludes a lane whose registers and demands follow from its two speeds, in a state that has but used open values. -/
theorem State.smonCycle_eq (s : State) (i : LaneId) :
    ∃ (u : State) (v0 v1 : Int) (m : Smon) (slsOk motoring : Bool) (lock demand : Nat),
    s.smonCycle i = u.concluded i ((s.lane i).cycled v0 v1 m (b2n slsOk) lock (b2n (s.lane i).limSel) demand) s.safeBits ∧
    (u.now = s.now ∧ u.regs = s.regs ∧ u.laneA = s.laneA ∧ u.laneB = s.laneB ∧ u.faults = s.faults ∧ u.field = s.field) ∧
    (BitVec.ofInt 32 v0).toInt = v0 ∧ (BitVec.ofInt 32 v1).toInt = v1 ∧
    m.safeSpeed = max v0.natAbs v1.natAbs ∧ slsOk = decide (max v0.natAbs v1.natAbs ≤ (s.lane i).limit) ∧
    m.demands = (s.lane i).demandsOf slsOk motoring := by
  refine ⟨_, _, _, _, _, _, _, _, rfl, ?_, State.orFree_speedOf_fits _ _ _ _ _, State.orFree_speedOf_fits _ _ _ _ _, rfl, rfl, rfl⟩
  simp

/-! ### A lane after its cycle -/

section
variable {l : Lane} {v0 v1 : Int} {m : Smon} {slsOk lock limSel demand : Nat}

theorem Lane.get_wr_ne (l : Lane) {x : Fld} (v : Nat) {off : Nat} (h : off ≠ x.off) : (l.wr x v).regs.get off = l.regs.get off :=
  RegFile.get_set_ne _ _ h

@[simp] theorem Lane.smon_cycled : (l.cycled v0 v1 m slsOk lock limSel demand).smon = m := (rfl)

theorem Lane.spd0_cycled : (l.cycled v0 v1 m slsOk lock limSel demand).regs.get (SAFE_SPD 0) = BitVec.ofInt 32 v0 := by
  unfold Lane.cycled
  iterate 4 rw [Lane.get_wr_ne _ _ (by decide)]
  rw [RegFile.get_set_ne _ _ (by decide), RegFile.get_set_ne _ _ (by decide), RegFile.get_set]

theorem Lane.spd1_cycled : (l.cycled v0 v1 m slsOk lock limSel demand).regs.get (SAFE_SPD 1) = BitVec.ofInt 32 v1 := by
  unfold Lane.cycled
  iterate 4 rw [Lane.get_wr_ne _ _ (by decide)]
  rw [RegFile.get_set_ne _ _ (by decide), RegFile.get_set]

theorem Lane.slsOk_cycled (b : Bool) : (l.cycled v0 v1 m (b2n b) lock limSel demand).rd SAFE_STAT_SLS_OK = b2n b := by
  unfold Lane.cycled
  have hsel : ∀ k : Lane, (k.wr SAFE_STAT_LIM_SEL limSel).rd SAFE_STAT_SLS_OK = k.rd SAFE_STAT_SLS_OK := fun k =>
    k.rd_wr_bits _ rfl (by decide) (by decide) (by decide) (by decide)
  have hlock : ∀ k : Lane, (k.wr SAFE_STAT_LOCK_PERMIT lock).rd SAFE_STAT_SLS_OK = k.rd SAFE_STAT_SLS_OK := fun k =>
    k.rd_wr_bits _ rfl (by decide) (by decide) (by decide) (by decide)
  rw [Lane.rd_wr_off _ _ (by decide), hsel, hlock, Lane.rd_wr _ _ _ (by decide) (by decide)]
  cases b <;> rfl

end

section
variable {l : Lane} {slsOk motoring : Bool}

theorem Lane.siSto_mem_demandsOf : 0x20 ∈ l.demandsOf slsOk motoring ↔ l.funcDemand 1 = true := by simp [Lane.demandsOf]

theorem Lane.psfSto_mem_demandsOf : 0x21 ∈ l.demandsOf slsOk motoring ↔ l.smon.cmdBits.getLsbD 0 = true := by
  simp [Lane.demandsOf]

theorem Lane.slsOver_mem_demandsOf : 0x22 ∈ l.demandsOf slsOk motoring ↔ slsOk = false := by simp [Lane.demandsOf]

theorem Lane.psfTimeout_mem_demandsOf :
    0x24 ∈ l.demandsOf slsOk motoring ↔ l.smon.psfTimeout = true ∧ l.rd SAFE_PSF_CFG_PSF_EN = 1 := by
  simp [Lane.demandsOf, Lane.on]

end

/-! ### What the conclusion leaves -/

section
variable {u : State} {i : LaneId} {l : Lane} {old : Nat}

theorem State.lane_safeEvent (u : State) (old : Nat) (j : LaneId) :
    (u.safeEvent old).lane j = (u.lane j).occur u.now (u.rd (EIC_ROUTE_TARGET 64)) 64 ∨ (u.safeEvent old).lane j = u.lane j := by
  unfold State.safeEvent
  split
  · exact .inr rfl
  · exact .inl (u.lane_raise _ _ _)

theorem State.lane_safeEvent_frame (u : State) (old : Nat) (j : LaneId) :
    ((u.safeEvent old).lane j).regs = (u.lane j).regs ∧ ((u.safeEvent old).lane j).smon = (u.lane j).smon := by
  obtain h | h := u.lane_safeEvent old j <;> rw [h] <;> simp

theorem State.lane_concluded : ∃ t, t = (u.setLane i l).safeEvent old ∧ ((u.concluded i l old).lane i).regs = l.regs ∧
    ((u.concluded i l old).lane i).smon = { l.smon with soCmd := BitVec.ofNat 4 (t.soCommands l) } := by
  obtain ⟨hregs, hsmon⟩ := (u.setLane i l).lane_safeEvent_frame old i
  rw [State.lane_setLane] at hregs hsmon
  refine ⟨_, rfl, ?_, ?_⟩
  · rw [State.concluded, State.lane_modLane, ← hregs]
    rfl
  · rw [State.concluded, State.lane_modLane, ← hsmon]
    rfl

theorem State.lane_concluded_ne {j : LaneId} (h : j ≠ i) :
    (u.concluded i l old).lane j = (u.lane j).occur u.now (u.rd (EIC_ROUTE_TARGET 64)) 64 ∨
      (u.concluded i l old).lane j = u.lane j := by
  have hlane := (u.setLane i l).lane_safeEvent old j
  rw [State.lane_setLane_ne _ _ h, State.setLane_now, State.rd_setLane] at hlane
  rwa [State.concluded, State.lane_modLane_ne _ _ h]

/-- Bit n of the commands is the command of output n. -/
theorem State.soCommands_getLsbD {n : Nat} (hn : n < 4) : (BitVec.ofNat 4 (u.soCommands l)).getLsbD n = u.soCommand l n := by
  have hbits : ∀ (b0 b1 b2 b3 : Bool) (n : Fin 4), (BitVec.ofNat 4 (0 + b2n b0 * 2 ^ 0 + b2n b1 * 2 ^ 1 + b2n b2 * 2 ^ 2 +
      b2n b3 * 2 ^ 3)).getLsbD n = [b0, b1, b2, b3][n] := by decide
  have h := hbits (u.soCommand l 0) (u.soCommand l 1) (u.soCommand l 2) (u.soCommand l 3) ⟨n, hn⟩
  refine h.trans ?_
  match n, hn with
  | 0, _ => rfl
  | 1, _ => rfl
  | 2, _ => rfl
  | 3, _ => rfl

/-- An output is commanded on only while no cause holds it off (R294, R306). -/
theorem State.free_of_soCommand {n : Nat} (h : u.soCommand l n = true) :
    u.faults.classL = false ∧ u.field.cls.getD 1 0 < 2 ∧ ¬ (u.faults.sto = true ∧ l.rd (SAFE_SO_CFG_STO_OFF n) = 1) := by
  simp only [State.soCommand, State.soFree, Lane.on, Bool.and_eq_true, Bool.not_eq_true', Bool.and_eq_false_iff,
    decide_eq_true_eq, decide_eq_false_iff_not] at h
  obtain ⟨⟨-, ⟨hsto, hclassL⟩, hvf2⟩, -⟩ := h
  refine ⟨hclassL, hvf2, fun ⟨hs, ho⟩ => ?_⟩
  simp [hs, ho] at hsto

end

theorem LaneId.other_ne (i : LaneId) : LaneId.other i ≠ i := by cases i <;> decide

theorem safetyCycleDecidesTheFunctions : SafetyCycleDecidesTheFunctions := by
  intro i s
  obtain ⟨u, v0, v1, m, slsOk, motoring, lock, demand, hcycle, ⟨hnow, hregs, hA, hB, hfaults, hfield⟩, hv0, hv1, hspeed, hok,
    hdem⟩ := s.smonCycle_eq i
  obtain ⟨t, ht, hlregs, hlsmon⟩ := State.lane_concluded (u := u) (i := i) (old := s.safeBits)
    (l := (s.lane i).cycled v0 v1 m (b2n slsOk) lock (b2n (s.lane i).limSel) demand)
  rw [← hcycle] at hlregs hlsmon
  have hsls : ((s.smonCycle i).lane i).rd SAFE_STAT_SLS_OK = b2n slsOk := by
    rw [Lane.rd, hlregs, ← Lane.rd, Lane.slsOk_cycled]
  have hfree : t.faults = s.faults ∧ t.field = s.field := by simp [ht, hfaults, hfield]
  have hlane : ∀ j, u.lane j = s.lane j := fun j => by cases j <;> assumption
  refine ⟨_, rfl, ?speed, ?slsOk, ?siSto, ?psfSto, ?slsOver, ?timeout, ?commands, by simp, by simp, by simp, ?other⟩
  case speed => rw [hlsmon, hlregs, Lane.spd0_cycled, Lane.spd1_cycled, hv0, hv1, Lane.smon_cycled, hspeed]
  case slsOk =>
    rw [hsls, hlsmon]
    simp only [Lane.smon_cycled, hspeed, hok, Lane.limit, Lane.limSel, Bool.or_eq_true]
    simp [b2n]
  case siSto => rw [hlsmon, Lane.smon_cycled, hdem, Lane.siSto_mem_demandsOf]
  case psfSto => rw [hlsmon, Lane.smon_cycled, hdem, Lane.psfSto_mem_demandsOf]
  case slsOver =>
    rw [hsls, hlsmon, Lane.smon_cycled, hdem, Lane.slsOver_mem_demandsOf]
    cases slsOk <;> decide
  case timeout => rw [hlsmon, Lane.smon_cycled, hdem, Lane.psfTimeout_mem_demandsOf]
  case commands =>
    intro n hn h
    rw [hlsmon] at h
    obtain ⟨hclassL, hvf2, hsto⟩ := State.free_of_soCommand ((State.soCommands_getLsbD hn).symm.trans h)
    rw [hfree.1] at hclassL hsto
    rw [hfree.2] at hvf2
    refine ⟨hclassL, hvf2, ?_⟩
    rwa [Lane.rd, hlregs, ← Lane.rd]
  case other =>
    have h := State.lane_concluded_ne (u := u) (i := i) (old := s.safeBits)
      (l := (s.lane i).cycled v0 v1 m (b2n slsOk) lock (b2n (s.lane i).limSel) demand) (LaneId.other_ne i)
    rwa [← hcycle, hlane, hnow, State.rd, hregs, ← State.rd] at h

/-! ### Times that run out (R273, R283 to R285, R287, R288) -/

section
variable {i : LaneId} {t0 : Nat} {s : State}

theorem exec_smonFault_of_differing (h : s.safe.diffSince = some t0) :
    exec .smonFault s = .next (instant (s.passTo (t0 + 8000000)) 0x2D 2) := by
  change execSmonFault s = _
  rw [execSmonFault, h, ← State.safetyInstant_eq_instant]

theorem exec_spdDisc_of_differing (h : earlier (s.lane i).smon.spdDiscSince (s.lane i).smon.posDiscSince = some t0) :
    exec (.spdDisc (inLane i)) s =
      .next (instantCause (s.passTo (t0 + 400000 * (s.lane i).rd SAFE_SLS_CFG_DISC_T)) i 0x2B 2) := by
  change execSpdDisc _ _ = _
  rw [execSpdDisc, State.onLanes_inLane, h, ← State.smonInstant_eq_instantCause]

theorem exec_sltMot_of_motoring (h : (s.lane i).smon.motSince = some t0) :
    exec (.sltMot (inLane i)) s = .next (((s.passTo (t0 + 400000 * (s.lane i).rd SAFE_SLT_CFG_MOT_T)).modLane i fun l =>
      l.modSmon fun m => if m.demands.contains 0x23 then m else { m with demands := 0x23 :: m.demands }).syncDemands) := by
  change execSltMot _ _ = _
  rw [execSltMot, State.onLanes_inLane, h]

/-- A minute of degraded operation ends; after the last one every SWITCHING thread is to stop (R287, R288). -/
theorem exec_degradedMinute_of_degraded (hdeg : (s.lane s.active).rd SAFE_STAT_DEGRADED = 1)
    (hrem : 0 < (s.lane s.active).rd SAFE_DEGRADED_REMAIN) :
    ∃ u n v, u = s.passTo (s.safe.degradedAt + 24000000000) ∧ n = (u.lane u.active).rd SAFE_DEGRADED_REMAIN - 1 ∧
      v = { (u.bothLanes fun l => l.wr SAFE_DEGRADED_REMAIN n) with safe := { u.safe with degradedAt := u.now } } ∧
      (n ≠ 0 → exec .degradedMinute s = .next v) ∧
      (n = 0 → exec .degradedMinute s = .next { v with safe := { v.safe with stopAt := some v.now, stopDue := true } }) := by
  obtain ⟨u, hu⟩ : ∃ u, u = s.passTo (s.safe.degradedAt + 24000000000) := ⟨_, rfl⟩
  refine ⟨u, _, _, hu, rfl, rfl, fun hn => ?_, fun hn => ?_⟩
  all_goals
    change execDegradedMinute s = _
    rw [execDegradedMinute, if_neg (by simpa [Lane.on, hdeg] using Nat.ne_of_gt hrem), ← hu]
    dsimp only
  · rw [if_neg hn]
    rfl
  · rw [if_pos hn]
    rfl

theorem State.commitStops_of_none (h : s.safe.stopDue = false ∨ s.hold = true) : s.commitStops = s := if_pos (by simpa using h)

theorem State.commitStops_of_due (hdue : s.safe.stopDue = true) (hhold : s.hold = false) :
    s.commitStops = (numsWhere 8 fun t => s.present t && s.thread t = 2).foldl State.stopThread
      { s with safe := { s.safe with stopDue := false } } := if_neg (by simp [hdue, hhold])

theorem exec_degradedEnd_of_stop (hstop : s.safe.stopAt = some t0) (hen : s.safeEn = true) (hc : s.causeActive 0x26 0 = false) :
    ∃ u, u = (if s.anyThread 2 then s.passTo (t0 + 400000000 * (s.lane s.active).rd SAFE_CFG_STOP_T) else s) ∧
      exec .degradedEnd s = .next (u.cause 0x26 1 .module 0 none true) := by
  refine ⟨_, rfl, ?_⟩
  change execDegradedEnd s = _
  rw [execDegradedEnd, hstop]
  dsimp only
  rw [if_neg (by simp [hen, hc])]

end

theorem safetyTimesRunOut : SafetyTimesRunOut :=
  ⟨fun _ _ => ⟨_, rfl, rfl⟩, fun _ _ => exec_smonFault_of_differing, fun _ _ _ => exec_spdDisc_of_differing,
    fun _ _ _ => exec_sltMot_of_motoring, fun _ => exec_degradedMinute_of_degraded,
    fun _ => ⟨State.commitStops_of_none, State.commitStops_of_due⟩, fun _ _ => exec_degradedEnd_of_stop⟩

/-- Settles O19: the cycle by the lane that it concludes, and each time by the command at its end. -/
theorem safetyCycleDecidesAndItsTimesRunOut : Obligations.SafetyCycleDecidesAndItsTimesRunOut :=
  ⟨safetyCycleDecidesTheFunctions, safetyTimesRunOut⟩

end Sys2Proof.Machine
end

section
/-! PROOFS. Doorbells, queue enables and the version of the interface: obligation O45. -/
namespace Sys2Proof.Machine

open Claims (dist keepFlush)

/-! ### Writes after BOOT (R326) -/

theorem State.afterBoot_of_booted {s t : State} (h : s.mod.phase ≠ .boot) : s.afterBoot t = t := if_neg h

theorem State.afterBoot_self (s : State) : s.afterBoot s = s := ite_self s

/-! ### Doorbells (R333) -/

section
variable {q v : Nat} {s : State}

theorem exec_sqTail_of_deaf (h : s.rd (HQ_SQ_CFG_EN q) ≠ 1 ∨ s.rd (HQ_SQ_STAT_FAULT q) = 1) :
    exec (.sqTail q v) s = .next s := by
  change execSqTail q v s = _
  dsimp only [execSqTail]
  rw [if_pos (by simpa [State.on] using h), State.afterBoot_self]

theorem exec_cqHead_of_deaf (h : s.rd (HQ_CQ_CFG_EN q) ≠ 1 ∨ s.rd (HQ_CQ_STAT_FAULT q) = 1) :
    exec (.cqHead q v) s = .next s := by
  change execCqHead q v s = _
  dsimp only [execCqHead]
  rw [if_pos (by simpa [State.on] using h), State.afterBoot_self]

variable {d n : Nat} (hb : s.mod.phase ≠ .boot)
include hb

/-- The doorbell of a queue that serves: a tail that leaves the queue's entries is a fault, another one is taken. -/
theorem exec_sqTail_of_serving (hen : s.rd (HQ_SQ_CFG_EN q) = 1) (hf : s.rd (HQ_SQ_STAT_FAULT q) ≠ 1)
    (hd : d = s.rd (HQ_SQ_CFG_DEPTH q))
    (hn : n = dist d (s.rd (HQ_SQ_STAT_HEAD q)) (s.host.sqTail.getD q 0) + dist d (s.host.sqTail.getD q 0) v) :
    exec (.sqTail q v) s = .next (if 2 ^ d ≤ v ∨ 2 ^ d ≤ n then s.queueFault .sq q 1
      else s.modHost fun h => { h with sqTail := h.sqTail.set q v }) := by
  subst hd hn
  change execSqTail q v s = _
  dsimp only [execSqTail]
  rw [State.afterBoot_of_booted hb, if_neg (by simp [State.on, hen, hf])]
  simp only [Bool.or_eq_true, decide_eq_true_eq]
  rfl

/-- The doorbell of a completion queue that serves: a head beyond the entries in use is a fault, another one is taken, and
one that takes the last entry ends what pends. -/
theorem exec_cqHead_of_serving (hen : s.rd (HQ_CQ_CFG_EN q) = 1) (hf : s.rd (HQ_CQ_STAT_FAULT q) ≠ 1)
    (hd : d = s.rd (HQ_CQ_CFG_DEPTH q)) (hn : n = dist d (s.host.cqHead.getD q 0) v) :
    exec (.cqHead q v) s = .next (if 2 ^ d ≤ v ∨ s.cqUsed q < n then s.queueFault .cq q 1
      else if s.cqUsed q = n then (s.modHost fun h => { h with cqHead := h.cqHead.set q v }).levelOff q
      else s.modHost fun h => { h with cqHead := h.cqHead.set q v }) := by
  subst hd hn
  change execCqHead q v s = _
  dsimp only [execCqHead]
  rw [State.afterBoot_of_booted hb, if_neg (by simp [State.on, hen, hf])]
  simp only [Bool.or_eq_true, decide_eq_true_eq]
  rfl

end

/-! ### The version of the interface (R344, R353) -/

/-- The numbers below n at which a test holds, as the bits of a number. -/
theorem foldl_pow_lt_and_bit (p : Nat → Bool) (n : Nat) :
    (numsWhere n p).foldl (fun a k => a + 2 ^ k) 0 < 2 ^ n ∧
      ∀ k < n, ((numsWhere n p).foldl (fun a k => a + 2 ^ k) 0).testBit k = p k := by
  induction n with
  | zero => simp [numsWhere]
  | succ n ih =>
    obtain ⟨hlt, hbit⟩ := ih
    generalize hx : (numsWhere n p).foldl (fun a k => a + 2 ^ k) 0 = x at hlt hbit
    have hstep : (numsWhere (n + 1) p).foldl (fun a k => a + 2 ^ k) 0 = if p n then 2 ^ n + x else x := by
      rw [← hx]
      cases hp : p n <;> simp [numsWhere, List.range_succ, hp, Nat.add_comm]
    have htop : x.testBit n = false := Nat.testBit_lt_two_pow hlt
    rw [hstep]
    cases hp : p n
    · refine ⟨by simp [Nat.pow_succ]; omega, fun k hk => ?_⟩
      obtain h | rfl := Nat.lt_succ_iff_lt_or_eq.mp hk
      · simpa using hbit k h
      · simpa [hp] using htop
    · refine ⟨by simp [Nat.pow_succ]; omega, fun k hk => ?_⟩
      obtain h | rfl := Nat.lt_succ_iff_lt_or_eq.mp hk
      · simpa [Nat.testBit_two_pow_add_gt h] using hbit k h
      · simp [Nat.testBit_two_pow_add_eq, htop, hp]

/-- The features that a version switches off (R353). -/
def featOff (x : Nat × Nat) : Nat :=
  (numsWhere 8 fun k => x.2 < k && k ≤ (if x.1 = 1 then 4 else 3)).foldl (fun a k => a + 2 ^ k) 0

theorem featOff_bit (x : Nat × Nat) {k : Nat} (hk : k < 8) :
    featOff x / 2 ^ k % 2 = 1 ↔ x.2 < k ∧ k ≤ (if x.1 = 1 then 4 else 3) := by
  have h := (foldl_pow_lt_and_bit (fun k => x.2 < k && k ≤ (if x.1 = 1 then 4 else 3)) 8).2 k hk
  rw [← featOff, Nat.testBit_eq_decide_div_mod_eq, ← Bool.decide_and, decide_eq_decide] at h
  exact h

/-- HQ_CFG's GROUP_TIMEOUT as a write of the register leaves it (R344). -/
def State.groupTimed (s : State) (v : Word) : State :=
  if v.toNat % 65536 = 0 then s else s.wr HQ_CFG_GROUP_TIMEOUT (v.toNat % 65536)

theorem State.anyQueue_groupTimed (s : State) (v : Word) : (s.groupTimed v).anyQueue = s.anyQueue := by
  have hrd : ∀ off, off ≠ HQ_CFG → (s.groupTimed v).rd ⟨off, 31, 31⟩ = s.rd ⟨off, 31, 31⟩ := fun off h =>
    State.rd_ite_of rfl (State.rd_wr_mk s h)
  have hsq : ∀ q, HQ_SQ_CFG q ≠ HQ_CFG := fun q => by simp only [HQ_SQ_CFG, HQ_CFG]; omega
  have hcq : ∀ q, HQ_CQ_CFG q ≠ HQ_CFG := fun q => by simp only [HQ_CQ_CFG, HQ_CFG]; omega
  have hstr : ∀ r, HQ_STR_CFG r ≠ HQ_CFG := fun r => by simp only [HQ_STR_CFG, HQ_CFG]; omega
  simp only [State.anyQueue, State.on, hrd _ (hsq _), hrd _ (hcq _), hrd _ (hstr _)]

/-- What applying a version leaves, or finding none that both sides hold (R353). -/
def State.versioned (u : State) : Option (Nat × Nat) → State
  | none => (u.wr HQ_CFG_IF_EN 0).wr HQ_IF_STAT_NO_COMMON 1
  | some x => ((((u.wr HQ_CFG_IF_EN 1).wr HQ_IF_STAT_NO_COMMON 0).wr HQ_IF_STAT_MAJ x.1).wr HQ_IF_STAT_MIN x.2).wr
      HQ_IF_STAT_FEAT_OFF (featOff x)

/-- The write of HQ_CFG by whether a queue is enabled, by the bit IF_EN and by the version that both sides hold. -/
theorem exec_ifEn_eq {v : Word} {s u : State} (hb : s.mod.phase ≠ .boot) (hu : u = s.groupTimed v) :
    exec (.ifEn v) s = .next (if s.anyQueue then u
      else if v.toNat / 2 ^ 31 = 0 then u.wr HQ_CFG_IF_EN 0
      else u.versioned (negotiated (u.rd HQ_IF_HOST_LO_MAJ, u.rd HQ_IF_HOST_LO_MIN)
        (u.rd HQ_IF_HOST_HI_MAJ, u.rd HQ_IF_HOST_HI_MIN))) := by
  have hlow : bitsOf v 15 0 = v.toNat % 65536 := by simp [bitsOf]
  have htop : bitsOf v 31 31 = v.toNat / 2 ^ 31 := Nat.mod_eq_of_lt (by have := v.isLt; omega)
  have hany : u.anyQueue = s.anyQueue := by rw [hu, State.anyQueue_groupTimed]
  change execIfEn v s = _
  dsimp only [execIfEn]
  rw [State.afterBoot_of_booted hb, hlow, ← State.groupTimed, htop, ← hu, hany]
  rfl

/-! ### Queue enables (R332, R349) -/

theorem bitsOf_bit (w : Word) (i : Nat) : bitsOf w i i = 1 ↔ w.getLsbD i = true := by
  simp only [bitsOf, BitVec.getLsbD, Nat.testBit_eq_decide_div_mod_eq, decide_eq_true_eq, Nat.add_sub_cancel_left, Nat.pow_one]

/-- Clearing a bit that is clear leaves the word. -/
theorem withBits_bit_of_clear {w : Word} {i : Nat} (hi : i < 32) (h : w.getLsbD i = false) : withBits w i i 0 = w := by
  refine BitVec.eq_of_getLsbD_eq fun k hk => ?_
  rw [withBits_getLsbD _ _ _ _ _ hi hk]
  split
  · obtain rfl : k = i := by omega
    simp [h]
  · rfl

/-- The bits of a configuration register that an enabled queue keeps (R332, R349). -/
def queueMask : QueueKind → Word
  | .sq => 0x0FFFC00F
  | .cq => 0x001F000F
  | .str => 0x001FFF0F

theorem keepFlush_enable (k : QueueKind) (old w : Word) : (keepFlush k old w).getLsbD 31 = w.getLsbD 31 := by
  cases k with
  | sq => rfl
  | cq => rfl
  | str =>
    dsimp only [keepFlush]
    split
    · rw [withBits_getLsbD _ _ _ _ _ (by decide) (by decide), if_neg (by decide)]
    · rfl

theorem bitsOf_masked_depth (k : QueueKind) (v : Word) : bitsOf (v &&& (queueMask k ||| 0x80000000)) 3 0 = v.toNat % 16 := by
  have hbits : v.toNat % 16 = bitsOf v 3 0 := by simp [bitsOf]
  have hmask : ∀ i : Fin 4, (queueMask k ||| 0x80000000).getLsbD (0 + i) = true := by cases k <;> decide
  rw [hbits]
  refine Nat.eq_of_testBit_eq fun i => ?_
  rw [bitsOf_testBit _ _ _ _ (by decide), bitsOf_testBit _ _ _ _ (by decide), BitVec.getLsbD_and]
  by_cases hi : i ≤ 3
  · rw [hmask ⟨i, by omega⟩, Bool.and_true]
  · simp [hi]

/-- A written configuration word with the DEPTH and the FLUSH that it may have (R332, R349). -/
def cfgWord (k : QueueKind) (old v : Word) : Word :=
  let w := v &&& (queueMask k ||| 0x80000000)
  let w := if bitsOf w 3 0 < 4 || 12 < bitsOf w 3 0 then withBits w 3 0 (bitsOf old 3 0) else w
  match k with
  | .str => if bitsOf w 15 8 = 0 then withBits w 15 8 (bitsOf old 15 8) else w
  | _ => w

theorem cfgWord_eq (k : QueueKind) (old v : Word) :
    cfgWord k old v = keepFlush k old (if v.toNat % 16 < 4 ∨ 12 < v.toNat % 16 then
      withBits (v &&& (queueMask k ||| 0x80000000)) 3 0 (bitsOf old 3 0) else v &&& (queueMask k ||| 0x80000000)) := by
  have hflush : ∀ w, bitsOf w 15 8 = w.toNat / 256 % 256 := fun w => by simp [bitsOf]
  simp only [cfgWord, bitsOf_masked_depth, Bool.or_eq_true, decide_eq_true_eq]
  cases k with
  | sq => rfl
  | cq => rfl
  | str => simp only [keepFlush, hflush]

theorem cfgWord_enable (k : QueueKind) (old v : Word) : (cfgWord k old v).getLsbD 31 = v.getLsbD 31 := by
  have hmask : (v &&& (queueMask k ||| 0x80000000)).getLsbD 31 = v.getLsbD 31 := by
    cases k <;> simp [queueMask]
  rw [cfgWord_eq, keepFlush_enable]
  split
  · rw [withBits_getLsbD _ _ _ _ _ (by decide) (by decide), if_neg (by decide), hmask]
  · exact hmask

/-- What the write of a configuration register leaves, by its bit EN before and after and by whether the queue may be enabled. -/
def State.configured (s : State) (k : QueueKind) (q : Nat) (was on may : Bool) (w : Word) : State :=
  let ok := was || !on || may
  let t := { s with regs := s.regs.set (cfgOff k q) (if ok then w else withBits w 31 31 0) }
  if on && !was && ok then t.enableQueue k q else if was && !on then t.disableQueue k q else t

theorem decide_bitsOf_bit (w : Word) (i : Nat) : decide (bitsOf w i i = 1) = w.getLsbD i := by
  rw [Bool.eq_iff_iff, decide_eq_true_eq, bitsOf_bit]

theorem exec_queueEnable_eq {k : QueueKind} {q : Nat} {v old w : Word} {s : State} (hb : s.mod.phase ≠ .boot)
    (hold : s.regs.get (cfgOff k q) = old) (hw : w = cfgWord k old v) :
    exec (.queueEnable k q v) s = .next (if old.getLsbD 31 && (v &&& queueMask k) != (old &&& queueMask k) then s
      else s.configured k q (old.getLsbD 31) (v.getLsbD 31) (s.mayEnable k q w) w) := by
  have hexec : exec (.queueEnable k q v) s = .next (s.afterBoot (
      if decide (bitsOf old 31 31 = 1) && (v &&& queueMask k) != (old &&& queueMask k) then s
      else s.configured k q (decide (bitsOf old 31 31 = 1)) (decide (bitsOf w 31 31 = 1)) (s.mayEnable k q w) w)) := by
    subst hold hw
    cases k <;> rfl
  rw [hexec, State.afterBoot_of_booted hb, decide_bitsOf_bit, decide_bitsOf_bit, hw, cfgWord_enable]

section
variable {k : QueueKind} {q : Nat} {w : Word} {s : State}

theorem State.configured_of_enabled (on may : Bool) :
    s.configured k q true on may w = if on then { s with regs := s.regs.set (cfgOff k q) w }
      else ({ s with regs := s.regs.set (cfgOff k q) w } : State).disableQueue k q := by
  cases on <;> simp [State.configured]

theorem State.configured_of_enables :
    s.configured k q false true true w = ({ s with regs := s.regs.set (cfgOff k q) w } : State).enableQueue k q := by
  simp [State.configured]

theorem State.configured_of_stays_disabled {on may : Bool} (hon : w.getLsbD 31 = on) (h : on = false ∨ may = false) :
    s.configured k q false on may w = { s with regs := s.regs.set (cfgOff k q) (withBits w 31 31 0) } := by
  cases on with
  | false => simp [State.configured, withBits_bit_of_clear (by decide) hon]
  | true =>
    obtain rfl : may = false := by simpa using h
    simp [State.configured]

end

/-- Settles O45: each doorbell by whether its queue serves, HQ_CFG by the version that both sides hold, and a configuration
register by its bit EN before and after. -/
theorem doorbellsAndQueueEnables : Obligations.DoorbellsAndQueueEnables := by
  unfold Obligations.DoorbellsAndQueueEnables
  refine ⟨fun _ _ _ => exec_sqTail_of_deaf, ?sqTail, fun _ _ _ => exec_cqHead_of_deaf, ?cqHead, ?ifEn, ?queueEnable⟩
  case sqTail =>
    intro q v d n s hb hen hf hd hn
    rw [exec_sqTail_of_serving hb hen hf hd hn]
    exact ⟨fun ⟨hv, hlt⟩ => by rw [if_neg (by omega)]; rfl, fun h => by rw [if_pos h]; rfl⟩
  case cqHead =>
    intro q v d n s hb hen hf hd hn
    rw [exec_cqHead_of_serving hb hen hf hd hn]
    refine ⟨fun hv hlt => ?_, fun hv heq => ?_, fun h => by rw [if_pos h]; rfl⟩
    · rw [if_neg (by omega), if_neg (by omega)]; rfl
    · rw [if_neg (by omega), if_pos heq.symm]
  case ifEn =>
    intro v s hb
    refine ⟨_, rfl, ?_⟩
    rw [← State.groupTimed, exec_ifEn_eq hb rfl]
    refine ⟨fun h => by rw [if_pos h], fun h h0 => ?_, fun h h1 => ⟨_, _, rfl, rfl, fun hneg => ?_,
      fun x hx => ⟨featOff x, ?_, fun k => featOff_bit x⟩⟩⟩
    · rw [h, if_neg (by decide), if_pos h0]
    · rw [h, if_neg (by decide), if_neg (by omega), hneg]; rfl
    · rw [h, if_neg (by decide), if_neg (by omega), hx]; rfl
  case queueEnable =>
    intro k q v mask s hb hmask
    obtain rfl : mask = queueMask k := by rw [hmask]; cases k <;> rfl
    refine ⟨_, _, rfl, rfl, ?_⟩
    rw [← cfgWord_eq, exec_queueEnable_eq hb rfl rfl]
    refine ⟨fun hwas hne => ?_, fun hwas heq => ?_, fun hwas hon hmay => ?_, fun hwas h => ?_⟩
    · rw [if_pos (by simp [hwas, hne])]
    · rw [if_neg (by simp [heq]), hwas, State.configured_of_enabled]
    · rw [hwas, if_neg (by simp), hon, hmay, State.configured_of_enables]
    · rw [hwas, if_neg (by simp), State.configured_of_stays_disabled (cfgWord_enable _ _ _) h]

end Sys2Proof.Machine
end

section
/-! PROOFS. Fetching, staging and the stream rings: obligation O46. -/
namespace Sys2Proof.Machine

open Claims (dist)

/-! ### The round robin (R334, R335) -/

section
variable {q : Nat} {s : State}

theorem State.nextSq_eq_none (h : ∀ q, q < 16 → s.mayFetch q = false) (ht : s.host.turn < 16) : s.nextSq = none := by
  unfold State.nextSq
  dsimp only
  rw [h _ ht, Bool.false_and, if_neg (by decide), List.find?_eq_none]
  intro x hx
  obtain ⟨k, -, rfl⟩ := List.mem_map.mp hx
  simp [h _ (Nat.mod_lt _ (by decide : 0 < 16))]

theorem State.mayFetch_of_nextSq (h : s.nextSq = some q) : s.mayFetch q = true ∧
    (q ≠ s.host.turn → s.mayFetch s.host.turn = false ∨ s.rd (HQ_SQ_CFG_WEIGHT s.host.turn) < s.host.served) := by
  unfold State.nextSq at h
  dsimp only at h
  split at h
  · rename_i hturn
    obtain rfl := Option.some.inj h
    simp only [Bool.and_eq_true] at hturn
    exact ⟨hturn.1, fun hne => absurd rfl hne⟩
  · rename_i hturn
    refine ⟨List.find?_some h, fun _ => ?_⟩
    cases hm : s.mayFetch s.host.turn
    · exact .inl rfl
    · exact .inr (by simpa [hm] using hturn)

theorem State.host_serve : (s.serve q).host.turn = q ∧ (s.serve q).host.served =
    (if s.host.turn = q ∧ s.host.served ≤ s.rd (HQ_SQ_CFG_WEIGHT q) then s.host.served + 1 else 1) := by
  simp [State.serve]

/-! ### A descriptor fetched (R333 to R336, R458) -/

theorem exec_descriptorFetch_of_not_served (d : Descriptor) (h : s.nextSq ≠ some q) : exec (.descriptorFetch q d) s = .next s :=
  congrArg Host.Outcome.next (if_pos h)

theorem exec_descriptorFetch_failed (h : s.nextSq = some q) :
    exec (.descriptorFetch q .failed) s = .next ((s.serve q).queueFault .sq q 2) :=
  congrArg Host.Outcome.next (if_neg (not_not_intro h))

theorem exec_descriptorFetch_read {tag : Nat} {bytes : List Byte} {buf : DataBuf} (h : s.nextSq = some q)
    (htag : s.freeTagIn 0 128 = some tag) : exec (.descriptorFetch q (.read bytes buf)) s = .next
      (((s.serve q).fetch q tag (descAt q bytes buf).1 (descAt q bytes buf).2).startExit none) := by
  change execDescriptorFetch q _ s = _
  unfold execDescriptorFetch
  rw [if_neg (not_not_intro h), htag]

theorem fieldAt_succ (bs : List Byte) (i n : Nat) : fieldAt bs i (n + 1) = (bs.getD i 0).toNat + 256 * fieldAt bs (i + 1) n := by
  unfold fieldAt
  by_cases hi : i < bs.length
  · rw [List.drop_eq_getElem_cons hi, List.take_succ_cons, ofLe, List.getD_eq_getElem?_getD,
      List.getElem?_eq_getElem hi, Option.getD_some]
  · have hlen : bs.length ≤ i := Nat.not_lt.mp hi
    rw [List.drop_eq_nil_of_le hlen, List.drop_eq_nil_of_le (Nat.le_succ_of_le hlen),
      List.getD_eq_getElem?_getD, List.getElem?_eq_none hlen]
    simp [ofLe]

theorem fieldAt_zero (bs : List Byte) (i : Nat) : fieldAt bs i 0 = 0 := by simp [fieldAt, ofLe]

theorem fieldAt_one (bs : List Byte) (i : Nat) : fieldAt bs i 1 = (bs.getD i 0).toNat := by
  rw [fieldAt_succ, fieldAt_zero, Nat.mul_zero, Nat.add_zero]

theorem bitAt_fieldAt_one (bs : List Byte) (i k : Nat) : bitAt (fieldAt bs i 1) k = (bs.getD i 0).getLsbD k := by
  rw [fieldAt_one, bitAt, BitVec.getLsbD, Nat.testBit_eq_decide_div_mod_eq]

theorem hdrAt_fields (q : Nat) (bs : List Byte) (rsvd : Bool) : (hdrAt q bs rsvd).sq = q ∧
    (hdrAt q bs rsvd).cmdId.toNat = (bs.getD 2 0).toNat + 256 * (bs.getD 3 0).toNat ∧
    (hdrAt q bs rsvd).group = (bs.getD 1 0).getLsbD 0 ∧ (hdrAt q bs rsvd).last = (bs.getD 1 0).getLsbD 1 ∧
    (hdrAt q bs rsvd).commitId.toNat = (bs.getD 4 0).toNat + 2 ^ 8 * (bs.getD 5 0).toNat + 2 ^ 16 * (bs.getD 6 0).toNat +
      2 ^ 24 * (bs.getD 7 0).toNat := by
  have hbyte : ∀ i, (bs.getD i 0).toNat < 256 := fun i => (bs.getD i 0).isLt
  refine ⟨rfl, ?_, bitAt_fieldAt_one _ _ _, bitAt_fieldAt_one _ _ _, ?_⟩
  · have h2 := hbyte 2
    have h3 := hbyte 3
    simp only [hdrAt, BitVec.toNat_ofNat, fieldAt_succ, fieldAt_zero, Nat.reduceAdd]
    omega
  · have h4 := hbyte 4
    have h5 := hbyte 5
    have h6 := hbyte 6
    have h7 := hbyte 7
    simp only [hdrAt, wordAt, BitVec.toNat_ofNat, fieldAt_succ, fieldAt_zero, Nat.reduceAdd]
    omega

/-- A free tag is in its range, and no open command holds it (R334). -/
theorem State.free_of_freeTagIn {tag n : Nat} (h : s.freeTagIn 0 n = some tag) :
    tag < n ∧ ∀ x, x ∈ s.openCmds → x.tag ≠ tag := by
  simp only [State.freeTagIn, Option.map_eq_some_iff, Nat.zero_add] at h
  obtain ⟨k, hfind, rfl⟩ := h
  refine ⟨List.mem_range.mp (List.mem_of_find?_eq_some hfind), fun x hx he => ?_⟩
  have hfree := List.find?_some hfind
  rw [List.contains_iff_mem.mpr (List.mem_map.mpr ⟨x, hx, he⟩)] at hfree
  exact absurd hfree (by decide)

/-- A descriptor as the command that waits for its staging (R334). -/
def State.fetchedCmd (s : State) (q tag : Nat) (h : Hdr) (cmd : HostCmd) : Cmd :=
  { tag := tag, head := (s.rd (HQ_SQ_STAT_HEAD q) + 1) % 2 ^ s.rd (HQ_SQ_CFG_DEPTH q), hdr := { h with sq := q }, cmd := cmd,
    staged := false, order := s.host.order, refusal := none, fetched := s.mod.tally, at_ := s.now, xid := 0, netSrc := 0,
    netMinor := 0, netMajor := 0, got := 0 }

section
variable (tag : Nat) (h : Hdr) (cmd : HostCmd)

theorem State.cmds_fetch : (s.fetch q tag h cmd).host.cmds = s.host.cmds ++ [s.fetchedCmd q tag h cmd] := rfl

theorem State.fetch_eq : s.fetch q tag h cmd =
    { s with regs := (s.fetch q tag h cmd).regs, host := (s.fetch q tag h cmd).host } := by
  have hframe := s.fetch_frame q tag h cmd
  generalize s.fetch q tag h cmd = t at hframe ⊢
  obtain ⟨⟩ := t
  simpa only [State.mk.injEq, true_and] using hframe

/-- The head of the SQ passes the place of the descriptor. -/
theorem State.rd_head_fetch (hq : q < 16) : (s.fetch q tag h cmd).rd (HQ_SQ_STAT_HEAD q) =
    (s.rd (HQ_SQ_STAT_HEAD q) + 1) % 2 ^ s.rd (HQ_SQ_CFG_DEPTH q) % 4096 := by
  have hcq : ∀ cq, (HQ_SQ_STAT_HEAD q).off ≠ HQ_CQ_STAT cq := fun cq => by simp only [HQ_SQ_STAT, HQ_CQ_STAT]; omega
  unfold State.fetch
  simp only [State.bump, State.rd_modHost]
  rw [State.rd_wr_mk _ (hcq _), State.rd_wr_other _ (by decide) (by decide) (by decide) (by decide)]
  exact State.rd_wr_self _ (by decide) (by decide)

end

end

/-! ### Staging and commit groups (R342, R344, R458) -/

section
variable {tag : Nat} {data : DataRead} {s : State}

theorem exec_stagingDone_of_none (h : ∀ c, c ∈ s.host.cmds → ¬ (c.tag = tag ∧ tag < 128 ∧ c.staged = false)) :
    exec (.stagingDone tag data) s = .next s := by
  have hfind : (s.host.cmds.find? fun c => c.tag = tag && c.tag < 128 && !c.staged) = none := by
    refine List.find?_eq_none.mpr fun c hc hm => h c hc ?_
    simp only [Bool.and_eq_true, decide_eq_true_eq, Bool.not_eq_true'] at hm
    obtain ⟨⟨rfl, hlt⟩, hst⟩ := hm
    exact ⟨rfl, hlt, hst⟩
  change execStagingDone tag data s = _
  rw [execStagingDone, hfind]

theorem exec_stagingDone_of_some {c : Cmd}
    (h : s.host.cmds.find? (fun c => c.tag = tag && c.tag < 128 && !c.staged) = some c) :
    exec (.stagingDone tag data) s = .next (if s.power.exiting = none then s.stageCmd c data else s) := by
  change execStagingDone tag data s = _
  rw [execStagingDone, h]
  cases s.power.exiting <;> rfl

variable {q : Nat}

theorem exec_commitGroupTimeout_of_closed (h : ∀ u, u ∈ s.sqUnits q → u.closed = true) :
    exec (.commitGroupTimeout q) s = .next s := by
  have hfind : ((s.sqUnits q).find? fun u => !u.closed) = none := List.find?_eq_none.mpr fun u hu => by simp [h u hu]
  change execCommitGroupTimeout q s = _
  rw [execCommitGroupTimeout, hfind]

theorem exec_commitGroupTimeout_of_open {u : CmdUnit} {c : Cmd} (h : (s.sqUnits q).find? (fun x => !x.closed) = some u)
    (hc : u.cmds.head? = some c) : exec (.commitGroupTimeout q) s = .next
      (if c.fetched.toNat + s.rd HQ_CFG_GROUP_TIMEOUT ≤ s.mod.tally.toNat + 1 then s.timeOut u else s) := by
  change execCommitGroupTimeout q s = _
  rw [execCommitGroupTimeout, h]
  dsimp only
  rw [hc]
  simp only [Option.any_some, decide_eq_true_eq]

end

/-! ### Posted buffers (R349, R350) -/

/-- The unusable ones of the buffers posted from a tail on, each with its entry (R349). -/
def badPosts (depth tail : Nat) (new : List PostedBuf) : List (Nat × PostedBuf) :=
  (new.mapIdx fun k b => ((tail + k) % 2 ^ depth, b)).filter fun p => !PostedBuf.ok p.2

theorem badPosts_of_ok {new : List PostedBuf} (depth tail : Nat) (h : ∀ b, b ∈ new → PostedBuf.ok b = true) :
    badPosts depth tail new = [] := by
  refine List.filter_eq_nil_iff.mpr fun p hp => ?_
  obtain ⟨k, hk, rfl⟩ := List.mem_mapIdx.mp hp
  simp [h _ (List.getElem_mem hk)]

theorem badPosts_of_bad {b : PostedBuf} (depth tail : Nat) (h : PostedBuf.ok b = false) :
    badPosts depth tail [b] = [(tail % 2 ^ depth, b)] := by
  simp [badPosts, h]

/-- A ring with buffers posted up to a new tail (R349). -/
def State.withPosted (s : State) (r v : Nat) (new : List PostedBuf) : State :=
  s.modHost fun h => { h with rings := updAt h.rings r fun x => { x with tail := v, posted := x.posted ++ new } }

/-- An unusable buffer's entry is written back at once (R349). -/
def State.badBack (s : State) (r : Nat) (e : Nat × PostedBuf) : State :=
  s.writeEntry r e.2.addr
    { ring := r, entry := e.1, used := 0, recs := 0, gap := false, flushed := false, bad := true, phase := s.strPhase r e.1 }

section
variable {r v : Nat} {posted : List PostedBuf} {s : State}

theorem exec_strTail_of_deaf (h : s.rd (HQ_STR_CFG_EN r) ≠ 1 ∨ 2 ^ s.rd (HQ_STR_CFG_DEPTH r) ≤ v) :
    exec (.strTail r v posted) s = .next s := by
  change execStrTail r v posted s = _
  dsimp only [execStrTail]
  rw [if_pos (by simpa [State.on] using h), State.afterBoot_self]

theorem exec_strTail_of_enabled {d tail : Nat} {new : List PostedBuf} (hb : s.mod.phase ≠ .boot)
    (hen : s.rd (HQ_STR_CFG_EN r) = 1) (hd : d = s.rd (HQ_STR_CFG_DEPTH r)) (hv : v < 2 ^ d)
    (htail : tail = (s.host.rings.getD r StrRing.reset).tail) (hnew : new = posted.take (dist d tail v)) :
    exec (.strTail r v posted) s = .next ((badPosts d tail new).foldl (fun s e => s.badBack r e) (s.withPosted r v new)) := by
  subst hnew htail hd
  change execStrTail r v posted s = _
  dsimp only [execStrTail]
  rw [State.afterBoot_of_booted hb, if_neg (by simp [State.on, hen, hv])]
  rfl

end

/-! ### Stream records (R350, R351) -/

section
variable {r fuel : Nat} {s : State}

theorem State.takeRec_of_nothing (h : (s.ring r).store = [] ∨ ((s.ring r).open_ = none ∧ (s.ring r).posted = [])) :
    State.takeRec (fuel + 1) s r = s := by
  rw [State.takeRec]
  obtain h | ⟨hopen, hposted⟩ := h
  · rw [h]
  · cases hs : (s.ring r).store with
    | nil => rfl
    | cons x rest => rw [hopen, hposted]; rfl

theorem State.takeRec_of_open {x : StrRec} {rest : List StrRec} {b : OpenBuf} (hs : (s.ring r).store = x :: rest)
    (ho : (s.ring r).open_ = some b) : State.takeRec (fuel + 1) s r =
      if b.used + x.bytes ≤ b.buf.len then (s.modRing r fun y => { y with store := rest }).putRec r b x
      else State.takeRec fuel (s.closeBuf r false) r := by
  rw [State.takeRec, hs, ho]

theorem exec_streamRecordWrite_of_enabled (hen : s.rd (HQ_STR_CFG_EN r) = 1) :
    exec (.streamRecordWrite r) s = .next (State.takeRec ((s.ring r).posted.length + 4) s r) :=
  congrArg Host.Outcome.next (if_pos (by simp [State.on, hen]))

theorem exec_streamRecordWrite_of_nothing (h : s.rd (HQ_STR_CFG_EN r) ≠ 1 ∨ (s.ring r).store = [] ∨
    ((s.ring r).open_ = none ∧ (s.ring r).posted = [])) : exec (.streamRecordWrite r) s = .next s := by
  by_cases hen : s.rd (HQ_STR_CFG_EN r) = 1
  · rw [exec_streamRecordWrite_of_enabled hen, State.takeRec_of_nothing (h.resolve_left (not_not_intro hen))]
  · exact congrArg Host.Outcome.next (if_neg (by simp [State.on, hen]))

theorem exec_streamFlush_of_closed (h : (s.ring r).open_ = none) : exec (.streamFlush r) s = .next s := by
  change execStreamFlush r s = _
  rw [execStreamFlush, h]

theorem exec_streamFlush_of_open {b : OpenBuf} (h : (s.ring r).open_ = some b) : exec (.streamFlush r) s = .next
    (if b.recs = 0 then s else (s.passTo (b.since + 400000 * s.rd (HQ_STR_CFG_FLUSH r))).closeBuf r true) := by
  change execStreamFlush r s = _
  rw [execStreamFlush, h]

end

/-- Settles O46: the fetch by the queue that is served, the staging and the timeout by the command or the group found, and a
ring by its open buffer and those posted. -/
theorem ringsFetchStageAndStream : Obligations.RingsFetchStageAndStream := by
  unfold Obligations.RingsFetchStageAndStream
  refine ⟨fun _ => State.nextSq_eq_none, fun _ _ => State.mayFetch_of_nextSq,
    fun _ d _ => exec_descriptorFetch_of_not_served d, fun _ _ => exec_descriptorFetch_failed,
    fun _ _ _ _ _ => exec_descriptorFetch_read, fun q bytes _ => ⟨_, rfl, hdrAt_fields q bytes _⟩,
    fun _ _ => ⟨_, rfl, State.host_serve⟩, ?fetch, fun _ _ _ => exec_stagingDone_of_none,
    fun _ _ _ _ => exec_stagingDone_of_some, fun _ _ => exec_commitGroupTimeout_of_closed,
    fun _ _ _ _ => exec_commitGroupTimeout_of_open, fun _ _ _ _ => exec_strTail_of_deaf, ?posted, ?bad,
    fun _ _ => exec_streamRecordWrite_of_nothing, ?record, fun _ _ => exec_streamFlush_of_closed,
    fun _ _ _ => exec_streamFlush_of_open⟩
  case fetch =>
    intro q tag h cmd s hq _ htag
    obtain ⟨hlt, hfree⟩ := State.free_of_freeTagIn htag
    exact ⟨_, _, rfl, State.cmds_fetch tag h cmd, rfl, hlt, hfree, rfl, rfl, rfl, rfl, State.rd_head_fetch tag h cmd hq,
      State.fetch_eq tag h cmd⟩
  case posted =>
    intro r v posted s hb hen hv hok
    rw [exec_strTail_of_enabled hb hen rfl hv rfl rfl, badPosts_of_ok _ _ fun b hmem => hok b (List.mem_of_mem_take hmem)]
    rfl
  case bad =>
    intro r v b s hb hen hv hdist hbad
    refine ⟨_, _, rfl, rfl, ?_⟩
    rw [exec_strTail_of_enabled hb hen rfl hv rfl rfl, hdist, List.take_succ_cons, List.take_zero, badPosts_of_bad _ _ hbad]
    rfl
  case record =>
    intro r x rest b s hen hs ho
    rw [exec_streamRecordWrite_of_enabled hen, State.takeRec_of_open hs ho]
    exact ⟨fun h => by rw [if_pos h], fun h => by rw [if_neg (Nat.not_le.mpr h)]⟩

end Sys2Proof.Machine
end

section
/-! PROOFS. Single steps, and the values of reset: obligations O55 and O56. -/
namespace Sys2Proof.Machine
/-! ### Steps and reset -/

/-- Settles O55, by the two cases of the queue. -/
theorem stepRunsTheFrontCommand : Obligations.StepRunsTheFrontCommand := by
  refine ⟨fun c rest s => rfl, fun s h => ?_⟩
  rw [step, h]

/-- A register that nothing has written reads as its reset word. -/
theorem RegFile.get_nil (off : Nat) : RegFile.get [] off = resetWord off := rfl

/-- A register that is none of the device's own words, nor θt's increment, is reset to the table's word (R472). -/
theorem resetWord_of_regDesc {off : Nat} {d : RegDesc} (hd : regDesc off = some d) (hi : off ≠ ASC_S_INC 3)
    (hn : off ∉ [SEC_DEV_ID 0, SEC_DEV_ID 1, SEC_DEV_ID 2, SEC_DEV_ID 3, SEC_DEBUG_NONCE0, SEC_DEBUG_NONCE1]) :
    resetWord off = BitVec.ofNat 32 d.reset := by
  simp only [List.mem_cons, List.not_mem_nil, or_false, not_or] at hn
  obtain ⟨h0, h1, h2, h3, h4, h5⟩ := hn
  simp only [resetWord, if_neg hi, if_neg h0, if_neg h1, if_neg h2, if_neg h3, if_neg h4, if_neg h5, hd]

/-- Settles O56: every register file is empty after reset, so each register reads as its reset word; what else the state
holds is a finite check of the reset values. -/
theorem resetLeavesEveryRegisterAtItsResetWord : Obligations.ResetLeavesEveryRegisterAtItsResetWord := by
  have hregs : ∀ off, State.reset.regs.get off = resetWord off ∧ State.reset.laneA.regs.get off = resetWord off ∧
      State.reset.laneB.regs.get off = resetWord off :=
    fun off => ⟨RegFile.get_nil off, RegFile.get_nil off, RegFile.get_nil off⟩
  refine ⟨hregs, by decide, fun off d hd hi hn => resetWord_of_regDesc hd hi hn, ?_⟩
  refine ⟨rfl, rfl, by decide, rfl, by decide, rfl, rfl, rfl, rfl, by decide, by decide, by decide, rfl, rfl, rfl, rfl, ?_⟩
  exact ⟨by decide, by decide, by decide, by decide⟩

end Sys2Proof.Machine
end

section
/-! PROOFS. The outcome of every command, and what each operation leaves of the queue of commands and of the identity key: obligations O57 and O58. -/
namespace Sys2Proof.Machine

/-! ### What every operation leaves of the queue and of the identity key -/

/-- The outcome is a next state, with the queue of waiting commands as it was and an erased identity key still erased. -/
def Completes (s : State) (o : Host.Outcome State Fault Refusal) : Prop :=
  ∃ t, o = .next t ∧ t.pending = s.pending ∧ (s.sec.identity = false → t.sec.identity = false)

@[simp] theorem completes_next (s t : State) :
    Completes s (.next t) ↔ t.pending = s.pending ∧ (s.sec.identity = false → t.sec.identity = false) := by
  simp [Completes]

@[simp] theorem State.passBy_keeps (n k : Nat) (s : State) :
    (State.passBy n k s).pending = s.pending ∧ (State.passBy n k s).sec = s.sec := by
  induction n generalizing k s with
  | zero => simp [State.passBy]
  | succ n ih =>
    simp only [State.passBy]
    split <;> simp [ih]

@[simp] theorem State.pass_keeps (s : State) (k : Nat) : (s.pass k).pending = s.pending ∧ (s.pass k).sec = s.sec := by
  simp [State.pass]

@[simp] theorem State.passTo_keeps (s : State) (t : Nat) : (s.passTo t).pending = s.pending ∧ (s.passTo t).sec = s.sec := by
  simp [State.passTo]

@[simp] theorem State.enqueueN_keeps (s : State) (i : LaneId) (n idx : Nat) (late : Bool) (k : Nat) :
    (s.enqueueN i n idx late k).pending = s.pending ∧ (s.enqueueN i n idx late k).sec = s.sec := by
  induction k generalizing s with
  | zero => simp [State.enqueueN]
  | succ k ih => simp [State.enqueueN, ih]

@[simp] theorem State.crossEntry_keeps (s : State) (n idx : Nat) (i : LaneId) :
    (s.crossEntry n idx i).pending = s.pending ∧ (s.crossEntry n idx i).sec = s.sec := by
  simp only [State.crossEntry]
  (repeat' split) <;> simp
@[simp] theorem State.heardWrite_keeps (s : State) (who : Writer) (off : Nat) (t : State)
    (hp : t.pending = s.pending) (hs : t.sec = s.sec) :
    (s.heardWrite who off t).pending = s.pending ∧ (s.heardWrite who off t).sec = s.sec := by
  simp only [State.heardWrite, State.afterBoot]
  (repeat' split) <;> simp [hp, hs]
@[simp] theorem State.takeRec_keeps (n : Nat) (s : State) (r : Nat) :
    (State.takeRec n s r).pending = s.pending ∧ (State.takeRec n s r).sec = s.sec := by
  induction n generalizing s with
  | zero => exact ⟨rfl, rfl⟩
  | succ k ih =>
    simp only [State.takeRec]
    (repeat' split) <;> simp [ih]
@[simp] theorem State.freeBytes_keeps (n : Nat) (s : State) :
    (State.freeBytes n s).2.pending = s.pending ∧ (State.freeBytes n s).2.sec = s.sec := by
  induction n generalizing s with
  | zero => exact ⟨rfl, rfl⟩
  | succ k ih => simp [State.freeBytes, ih]
@[simp] theorem execJrnlFwCode_keeps (i : LaneId) (code : BitVec 16) (s : State) :
    (orStay s (execJrnlFwCode i code s)).pending = s.pending ∧
      (orStay s (execJrnlFwCode i code s)).sec.identity = s.sec.identity := by
  simp only [execJrnlFwCode, orStay_next]
  (repeat' split) <;> simp

@[simp] theorem State.writeViewOnly_keeps (s : State) (i : LaneId) (off : Nat) (v : Word) :
    (s.writeViewOnly i off v).pending = s.pending ∧ (s.writeViewOnly i off v).sec.identity = s.sec.identity := by
  simp only [State.writeViewOnly]
  (repeat' split) <;> simp
@[simp] theorem State.legsAfter_keeps (s t : State) (hp : t.pending = s.pending)
    (hk : t.sec.identity = s.sec.identity) :
    (s.legsAfter t).pending = s.pending ∧ (s.legsAfter t).sec.identity = s.sec.identity := by
  simp [State.legsAfter, hp, hk]

@[simp] theorem State.writeView_keeps (s : State) (i : LaneId) (off : Nat) (v : Word) :
    (s.writeView i off v).pending = s.pending ∧ (s.writeView i off v).sec.identity = s.sec.identity := by
  simp only [State.writeView]
  (repeat' split) <;> simp

@[simp] theorem State.engineNext_keeps (s : State) (ticks : Nat) :
    (s.engineNext ticks).pending = s.pending ∧ (s.engineNext ticks).sec.identity = s.sec.identity := by
  simp [State.engineNext]

@[simp] theorem State.readCrust_keeps (s : State) :
    (s.readCrust).pending = s.pending ∧ (s.readCrust).sec.identity = s.sec.identity := by
  simp only [State.readCrust]
  (repeat' split) <;> simp

@[simp] theorem State.boot_keeps (s : State) (cause : Nat) (stuck : Bool) (low : Nat) :
    (s.boot cause stuck low).pending = s.pending ∧ (s.boot cause stuck low).sec.identity = s.sec.identity := by
  simp only [State.boot]
  (repeat' split) <;> simp

@[simp] theorem State.orderedReset_keeps (s : State) (cause : Nat) :
    (s.orderedReset cause).pending = s.pending ∧ (s.orderedReset cause).sec.identity = s.sec.identity := by
  simp [State.orderedReset]

@[simp] theorem State.softReset_keeps (s : State) :
    (s.softReset).pending = s.pending ∧ (s.softReset).sec.identity = s.sec.identity := by
  simp only [State.softReset]
  (repeat' split) <;> simp

@[simp] theorem State.endShutdown_keeps (s : State) :
    (s.endShutdown).pending = s.pending ∧ (s.endShutdown).sec.identity = s.sec.identity := by
  simp only [State.endShutdown]
  (repeat' split) <;> simp

@[simp] theorem State.finishShutdown_keeps (s : State) :
    (s.finishShutdown).pending = s.pending ∧ (s.finishShutdown).sec.identity = s.sec.identity := by
  simp only [State.finishShutdown]
  (repeat' split) <;> simp

@[simp] theorem tick_keeps (s : State) :
    (tick s).pending = s.pending ∧ (tick s).sec.identity = s.sec.identity := by
  simp only [tick]
  (repeat' split) <;> simp

@[simp] theorem State.dozeHandshake_keeps (s : State) (a b : Byte) :
    (s.dozeHandshake a b).pending = s.pending ∧ (s.dozeHandshake a b).sec.identity = s.sec.identity := by
  simp only [State.dozeHandshake]
  (repeat' split) <;> simp

@[simp] theorem State.noteReady_keeps (s : State) :
    (s.noteReady).pending = s.pending ∧ (s.noteReady).sec.identity = s.sec.identity := by
  simp only [State.noteReady]
  constructor
  · simp only [State.journalAdd_frame]
    refine (foldl_keep (fun x : List Byte × State => x.2.pending) _ ?_ _ _).trans (by simp)
    simp
  · simp only [State.journalAdd_frame]
    refine (foldl_keep (fun x : List Byte × State => x.2.sec.identity) _ ?_ _ _).trans (by simp)
    simp

@[simp] theorem State.stagePairs_keeps (s : State) (ps : List (Nat × Word)) :
    (s.stagePairs ps).1.pending = s.pending ∧ (s.stagePairs ps).1.sec.identity = s.sec.identity := by
  induction ps generalizing s with
  | nil => exact ⟨rfl, rfl⟩
  | cons p t ih => simp [State.stagePairs, ih]

@[simp] theorem State.stageBody_keeps (s : State) (c : HostCmd) :
    (s.stageBody c).1.pending = s.pending ∧ (s.stageBody c).1.sec.identity = s.sec.identity := by
  simp only [State.stageBody]
  split <;> simp

@[simp] theorem State.staged_keeps (s : State) (c : Cmd) :
    (s.staged c).2.pending = s.pending ∧ (s.staged c).2.sec.identity = s.sec.identity := by
  simp only [State.staged]
  (repeat' split) <;> simp

@[simp] theorem State.commitPair_keeps (s : State) (x : Nat × Word) :
    (s.commitPair x).pending = s.pending ∧ (s.commitPair x).sec.identity = s.sec.identity := by
  simp only [State.commitPair]
  (repeat' split) <;> simp

@[simp] theorem State.eachLane_keeps (s : State) (f : State → LaneId → State) (hp : ∀ s i, (f s i).pending = s.pending)
    (hk : ∀ s i, (f s i).sec.identity = s.sec.identity) :
    (s.eachLane f).pending = s.pending ∧ (s.eachLane f).sec.identity = s.sec.identity := by
  simp [State.eachLane, hp, hk]

@[simp] theorem State.clearTarget_keeps (s : State) (scope : Scope) (cleared refused : Fld) (f : State → State)
    (hp : (f s).pending = s.pending) (hk : (f s).sec.identity = s.sec.identity) :
    (s.clearTarget scope cleared refused f).pending = s.pending ∧
      (s.clearTarget scope cleared refused f).sec.identity = s.sec.identity := by
  simp only [State.clearTarget]
  split <;> simp [hp, hk]

@[simp] theorem State.cmdWriteRegs_keeps (s : State) (ps : List (Nat × Word)) :
    ((s.cmdWriteRegs ps).1).pending = s.pending ∧ ((s.cmdWriteRegs ps).1).sec.identity = s.sec.identity := by
  simp only [State.cmdWriteRegs]
  (repeat' split) <;> simp

@[simp] theorem State.cmdRecArm_keeps (s : State) :
    ((s.cmdRecArm).1).pending = s.pending ∧ ((s.cmdRecArm).1).sec.identity = s.sec.identity := by
  simp only [State.cmdRecArm]
  (repeat' split) <;> simp

@[simp] theorem State.cmdRecStop_keeps (s : State) :
    ((s.cmdRecStop).1).pending = s.pending ∧ ((s.cmdRecStop).1).sec.identity = s.sec.identity := by
  simp [State.cmdRecStop]

@[simp] theorem State.cmdRakeStart_keeps (s : State) (frames : Word) :
    ((s.cmdRakeStart frames).1).pending = s.pending ∧ ((s.cmdRakeStart frames).1).sec.identity = s.sec.identity := by
  simp [State.cmdRakeStart]

@[simp] theorem State.cmdInject_keeps (s : State) (b : InjBody) :
    ((s.cmdInject b).1).pending = s.pending ∧ ((s.cmdInject b).1).sec.identity = s.sec.identity := by
  simp only [State.cmdInject]
  (repeat' split) <;> simp

@[simp] theorem State.cmdClearFault_keeps (s : State) (thr : BitVec 8) (aux : BitVec 4) (module : Bool) :
    ((s.cmdClearFault thr aux module).1).pending = s.pending ∧
      ((s.cmdClearFault thr aux module).1).sec.identity = s.sec.identity := by
  simp only [State.cmdClearFault]
  (repeat' split) <;> simp

@[simp] theorem State.runCmd_keeps (s : State) (c : Cmd) :
    ((s.runCmd c).1).pending = s.pending ∧ ((s.runCmd c).1).sec.identity = s.sec.identity := by
  simp only [State.runCmd]
  split <;> simp

@[simp] theorem State.commitCmd_keeps (s : State) (c : Cmd) :
    ((s.commitCmd c).1).pending = s.pending ∧ ((s.commitCmd c).1).sec.identity = s.sec.identity := by
  simp only [State.commitCmd]
  (repeat' split) <;> simp

@[simp] theorem State.doCmd_keeps (s : State) (c : Cmd) :
    (s.doCmd c).pending = s.pending ∧ (s.doCmd c).sec.identity = s.sec.identity := by
  simp [State.doCmd]

@[simp] theorem State.route_keeps (s : State) (c : Cmd) (wait : State → Cmd → State) (hp : (wait s c).pending = s.pending)
    (hk : (wait s c).sec.identity = s.sec.identity) :
    (s.route c wait).pending = s.pending ∧ (s.route c wait).sec.identity = s.sec.identity := by
  simp only [State.route]
  (repeat' split) <;> simp [hp, hk]

@[simp] theorem State.direct_keeps (s : State) (h : Hdr) (cmd : HostCmd) :
    (s.direct h cmd).pending = s.pending ∧ (s.direct h cmd).sec.identity = s.sec.identity := by
  simp only [State.direct]
  (repeat' split) <;> simp

@[simp] theorem State.stageCmd_keeps (s : State) (c : Cmd) (data : DataRead) :
    (s.stageCmd c data).pending = s.pending ∧ (s.stageCmd c data).sec.identity = s.sec.identity := by
  simp [State.stageCmd]

@[simp] theorem State.runGroup_keeps (s : State) (cs : List Cmd) :
    ((s.runGroup cs).1).pending = s.pending ∧ ((s.runGroup cs).1).sec.identity = s.sec.identity := by
  unfold State.runGroup
  exact ⟨State.foldl_fst_pending _ (by simp) _ _, State.foldl_fst_sec_identity _ (by simp) _ _⟩

@[simp] theorem State.runUnit_keeps (s : State) (u : CmdUnit) :
    ((s.runUnit u).1).pending = s.pending ∧ ((s.runUnit u).1).sec.identity = s.sec.identity := by
  simp only [State.runUnit]
  (repeat' split) <;> simp

theorem State.runItem_keeps (r : State × List (Cmd × Option Result)) (x : CommitItem) :
    (State.runItem r x).1.pending = r.1.pending ∧ (State.runItem r x).1.sec.identity = r.1.sec.identity := by
  simp only [State.runItem]
  split <;> simp

@[simp] theorem State.runItems_keeps (s : State) (items : List CommitItem) (ahead : List Nat × List Nat) :
    ((s.runItems items ahead).1).pending = s.pending ∧ ((s.runItems items ahead).1).sec.identity = s.sec.identity := by
  exact ⟨State.foldl_fst_pending _ (fun p c => (State.runItem_keeps p c).1) _ _,
    State.foldl_fst_sec_identity _ (fun p c => (State.runItem_keeps p c).2) _ _⟩

@[simp] theorem State.commitAll_keeps (s : State) :
    (s.commitAll.1).pending = s.pending ∧ (s.commitAll.1).sec.identity = s.sec.identity := by
  simp only [State.commitAll]
  (repeat' split) <;> simp

@[simp] theorem State.boundaryMoves_keeps (s : State) :
    (s.boundaryMoves).pending = s.pending ∧ (s.boundaryMoves).sec.identity = s.sec.identity := by
  simp [State.boundaryMoves]

@[simp] theorem State.cleOp_keeps (s : State) (ln : LaneSel) (dp : Dp) (op : Nat) (w : CleWord) (cyc : Nat)
    (f : State → LaneId → CtxRun → State) (hp : ∀ s i r, (f s i r).pending = s.pending)
    (hk : ∀ s i r, (f s i r).sec.identity = s.sec.identity) :
    (s.cleOp ln dp op w cyc f).pending = s.pending ∧ (s.cleOp ln dp op w cyc f).sec.identity = s.sec.identity := by
  unfold State.cleOp
  refine ⟨State.onLanes_pending _ _ _ fun s i => ?_, State.onLanes_sec_identity _ _ _ fun s i => ?_⟩ <;>
    split <;> simp [hp, hk]

@[simp] theorem State.regOp_keeps (s : State) (ln : LaneSel) (dp : Dp) (op : Nat) (w : CleWord) (cyc : Nat)
    (f : DpState → DpState × Bool) : (s.regOp ln dp op w cyc f).pending = s.pending ∧
      (s.regOp ln dp op w cyc f).sec.identity = s.sec.identity := by
  simp [State.regOp]

@[simp] theorem State.resOp_keeps (s : State) (ln : LaneSel) (dp : Dp) (op : Nat) (w : CleWord) (cyc : Nat)
    (x : DpState → Int) : (s.resOp ln dp op w cyc x).pending = s.pending ∧
      (s.resOp ln dp op w cyc x).sec.identity = s.sec.identity := by
  simp [State.resOp]

@[simp] theorem State.wordOp_keeps (s : State) (ln : LaneSel) (dp : Dp) (op : Nat) (w : CleWord) (x : DpState → Word) :
    (s.wordOp ln dp op w x).pending = s.pending ∧ (s.wordOp ln dp op w x).sec.identity = s.sec.identity := by
  simp [State.wordOp]

@[simp] theorem State.accOp_keeps (s : State) (ln : LaneSel) (dp : Dp) (op : Nat) (w : CleWord) (x : DpState → Int) :
    (s.accOp ln dp op w x).pending = s.pending ∧ (s.accOp ln dp op w x).sec.identity = s.sec.identity := by
  simp [State.accOp]

@[simp] theorem State.pairOp_keeps (s : State) (ln : LaneSel) (dp : Dp) (op : Nat) (w : CleWord) (cyc : Nat)
    (x : DpState → Int × Int) : (s.pairOp ln dp op w cyc x).pending = s.pending ∧
      (s.pairOp ln dp op w cyc x).sec.identity = s.sec.identity := by
  simp [State.pairOp]

@[simp] theorem State.laneViewWrite_keeps (s : State) (who : Writer) (i : LaneId) (off : Nat) (v : Word) :
    (orStay s (execLaneViewWrite who i off v s)).pending = s.pending ∧
      (orStay s (execLaneViewWrite who i off v s)).sec.identity = s.sec.identity := by
  simp only [execLaneViewWrite, orStay_next]
  (repeat' split) <;> simp

@[simp] theorem State.barWrite_keeps (s : State) (who : Writer) (off : Nat) (v : Word) :
    (s.barWrite who off v).pending = s.pending ∧ (s.barWrite who off v).sec.identity = s.sec.identity := by
  unfold State.barWrite
  (repeat' split) <;> simp

/-- What keeps the queue and the key in each lane completes on the lanes selected. -/
theorem completes_onLanes {s : State} {ln : LaneSel} {g : State → LaneId → State}
    (h : ∀ s i, (g s i).pending = s.pending ∧ (g s i).sec.identity = s.sec.identity) :
    Completes s (.next (s.onLanes ln g)) :=
  ⟨_, rfl, State.onLanes_pending _ _ _ fun s i => (h s i).1,
    (State.onLanes_sec_identity _ _ _ fun s i => (h s i).2).trans⟩

/-- A package that is applied never brings the identity key back (R432). -/
theorem State.applyPkg_keepsErased (s : State) (c : Cmd) (pkg : Package) (h : s.sec.identity = false) :
    (s.applyPkg c pkg).sec.identity = false := by
  unfold State.applyPkg
  split
  · simpa using h
  · cases pkg.content <;> simp [h]

theorem State.applyPackages_keepsErased (s : State) (h : s.sec.identity = false) : s.applyPackages.sec.identity = false := by
  unfold State.applyPackages
  generalize hs : s.modSec (fun x => { x with waiting := [] }) = t
  have ht : t.sec.identity = false := by simpa [← hs] using h
  clear hs
  dsimp only
  induction s.sec.waiting generalizing t with
  | nil => exact ht
  | cons w ws ih => exact ih _ (State.applyPkg_keepsErased _ _ _ ht)

@[simp] theorem State.boundaryCommits_pending (s : State) : s.boundaryCommits.1.pending = s.pending := by
  simp [State.boundaryCommits]

theorem State.boundaryCommits_keepsErased (s : State) (h : s.sec.identity = false) :
    s.boundaryCommits.1.sec.identity = false := by
  have he := State.applyPackages_keepsErased ((s.modMod fun m => { m with tally := m.tally + 1 }).grpTally).endWrites
    (by simpa using h)
  simp only [State.boundaryCommits]
  refine (State.legsAfter_keeps _ _ ?_ ?_).2.trans (by simpa using he)
  all_goals simp

/-! ### Every command completes -/

theorem execTriggerUnitFire_completes {ln : LaneSel} {u : Nat} {frac : Nat} {s : State} :
    Completes s (execTriggerUnitFire ln u frac s) := by
  simp [execTriggerUnitFire]

theorem execRecPreDone_completes {ln : LaneSel} {s : State} : Completes s (execRecPreDone ln s) := by
  simp [execRecPreDone]

theorem execRecPostDone_completes {ln : LaneSel} {s : State} : Completes s (execRecPostDone ln s) := by
  unfold execRecPostDone
  refine completes_onLanes fun s i => ?_
  (repeat' split) <;> simp

theorem execRecDrained_completes {ln : LaneSel} {s : State} : Completes s (execRecDrained ln s) := by
  unfold execRecDrained
  refine completes_onLanes fun s i => ?_
  dsimp only
  (repeat' split) <;> simp

theorem execWaitSpace_completes {ln : LaneSel} {s : State} : Completes s (execWaitSpace ln s) := by
  simp [execWaitSpace]

theorem execRakeFramesDone_completes {ln : LaneSel} {s : State} : Completes s (execRakeFramesDone ln s) := by
  simp [execRakeFramesDone]

theorem execInjectionEnd_completes {ln : LaneSel} {n : Nat} {s : State} : Completes s (execInjectionEnd ln n s) := by
  unfold execInjectionEnd
  refine completes_onLanes fun s i => ?_
  (repeat' split) <;> simp

theorem execJrnlFwCode_completes {lane : LaneId} {code : BitVec 16} {s : State} :
    Completes s (execJrnlFwCode lane code s) := by
  unfold execJrnlFwCode
  (repeat' split) <;> simp

theorem execEntryCrossing_completes {ln : LaneSel} {src idx : Nat} {s : State} :
    Completes s (execEntryCrossing ln src idx s) := by
  simp [execEntryCrossing]

theorem execSyncPulseEnd_completes {ln : LaneSel} {line : Nat} {s : State} : Completes s (execSyncPulseEnd ln line s) := by
  unfold execSyncPulseEnd
  refine completes_onLanes fun s i => ?_
  (repeat' split) <;> simp

theorem execHallChange_completes {n : Nat} {code : BitVec 3} {s : State} : Completes s (execHallChange n code s) := by
  simp [execHallChange]

theorem execAuxPrechargeEnd_completes {n : Nat} {s : State} : Completes s (execAuxPrechargeEnd n s) := by
  unfold execAuxPrechargeEnd
  (repeat' split) <;> simp

theorem execChoppingPeriod_completes {n : Nat} {s : State} : Completes s (execChoppingPeriod n s) := by
  unfold execChoppingPeriod
  (repeat' split) <;> simp

theorem execAuxShuntTrip_completes {n : Nat} {microvolts : Nat} {s : State} :
    Completes s (execAuxShuntTrip n microvolts s) := by
  simp [execAuxShuntTrip]

theorem execAuxStall_completes {n : Nat} {s : State} : Completes s (execAuxStall n s) := by
  simp [execAuxStall]

theorem execCleNop_completes {ln : LaneSel} {dp : Dp} {w : CleWord} {s : State} : Completes s (execCleNop ln dp w s) := by
  simp [execCleNop]

theorem execCleLdi_completes {ln : LaneSel} {dp : Dp} {w : CleWord} {s : State} : Completes s (execCleLdi ln dp w s) := by
  simp [execCleLdi]

theorem execCleMov_completes {ln : LaneSel} {dp : Dp} {w : CleWord} {s : State} : Completes s (execCleMov ln dp w s) := by
  simp [execCleMov]

theorem execCleAdd_completes {ln : LaneSel} {dp : Dp} {w : CleWord} {s : State} : Completes s (execCleAdd ln dp w s) := by
  simp [execCleAdd]

theorem execCleSub_completes {ln : LaneSel} {dp : Dp} {w : CleWord} {s : State} : Completes s (execCleSub ln dp w s) := by
  simp [execCleSub]

theorem execCleAddi_completes {ln : LaneSel} {dp : Dp} {w : CleWord} {s : State} : Completes s (execCleAddi ln dp w s) := by
  simp [execCleAddi]

theorem execCleNeg_completes {ln : LaneSel} {dp : Dp} {w : CleWord} {s : State} : Completes s (execCleNeg ln dp w s) := by
  simp [execCleNeg]

theorem execCleAbs_completes {ln : LaneSel} {dp : Dp} {w : CleWord} {s : State} : Completes s (execCleAbs ln dp w s) := by
  simp [execCleAbs]

theorem execCleShl_completes {ln : LaneSel} {dp : Dp} {w : CleWord} {s : State} : Completes s (execCleShl ln dp w s) := by
  simp [execCleShl]

theorem execCleShr_completes {ln : LaneSel} {dp : Dp} {w : CleWord} {s : State} : Completes s (execCleShr ln dp w s) := by
  simp [execCleShr]

theorem execCleAnd_completes {ln : LaneSel} {dp : Dp} {w : CleWord} {s : State} : Completes s (execCleAnd ln dp w s) := by
  simp [execCleAnd]

theorem execCleOr_completes {ln : LaneSel} {dp : Dp} {w : CleWord} {s : State} : Completes s (execCleOr ln dp w s) := by
  simp [execCleOr]

theorem execCleXor_completes {ln : LaneSel} {dp : Dp} {w : CleWord} {s : State} : Completes s (execCleXor ln dp w s) := by
  simp [execCleXor]

theorem execCleMul_completes {ln : LaneSel} {dp : Dp} {w : CleWord} {s : State} : Completes s (execCleMul ln dp w s) := by
  simp [execCleMul]

theorem execCleMuli_completes {ln : LaneSel} {dp : Dp} {w : CleWord} {s : State} : Completes s (execCleMuli ln dp w s) := by
  simp [execCleMuli]

theorem execCleMac_completes {ln : LaneSel} {dp : Dp} {w : CleWord} {s : State} : Completes s (execCleMac ln dp w s) := by
  simp [execCleMac]

theorem execCleMsu_completes {ln : LaneSel} {dp : Dp} {w : CleWord} {s : State} : Completes s (execCleMsu ln dp w s) := by
  simp [execCleMsu]

theorem execCleLda_completes {ln : LaneSel} {dp : Dp} {w : CleWord} {s : State} : Completes s (execCleLda ln dp w s) := by
  simp [execCleLda]

theorem execCleClra_completes {ln : LaneSel} {dp : Dp} {w : CleWord} {s : State} : Completes s (execCleClra ln dp w s) := by
  simp [execCleClra]

theorem execCleExa_completes {ln : LaneSel} {dp : Dp} {w : CleWord} {s : State} : Completes s (execCleExa ln dp w s) := by
  simp [execCleExa]

theorem execCleSat_completes {ln : LaneSel} {dp : Dp} {w : CleWord} {s : State} : Completes s (execCleSat ln dp w s) := by
  simp [execCleSat]

theorem execCleMin_completes {ln : LaneSel} {dp : Dp} {w : CleWord} {s : State} : Completes s (execCleMin ln dp w s) := by
  simp [execCleMin]

theorem execCleMax_completes {ln : LaneSel} {dp : Dp} {w : CleWord} {s : State} : Completes s (execCleMax ln dp w s) := by
  simp [execCleMax]

theorem execCleCmp_completes {ln : LaneSel} {dp : Dp} {w : CleWord} {s : State} : Completes s (execCleCmp ln dp w s) := by
  simp [execCleCmp]

theorem execCleSel_completes {ln : LaneSel} {dp : Dp} {w : CleWord} {s : State} : Completes s (execCleSel ln dp w s) := by
  simp [execCleSel]

theorem execCleInteg_completes {ln : LaneSel} {dp : Dp} {w : CleWord} {s : State} :
    Completes s (execCleInteg ln dp w s) := by
  simp [execCleInteg]

theorem execCleLpf1_completes {ln : LaneSel} {dp : Dp} {w : CleWord} {s : State} : Completes s (execCleLpf1 ln dp w s) := by
  simp [execCleLpf1]

theorem execCleClarke_completes {ln : LaneSel} {dp : Dp} {w : CleWord} {s : State} :
    Completes s (execCleClarke ln dp w s) := by
  simp [execCleClarke]

theorem execCleIclarke_completes {ln : LaneSel} {dp : Dp} {w : CleWord} {s : State} :
    Completes s (execCleIclarke ln dp w s) := by
  simp [execCleIclarke]

theorem execClePark_completes {ln : LaneSel} {dp : Dp} {w : CleWord} {s : State} : Completes s (execClePark ln dp w s) := by
  simp [execClePark]

theorem execCleIpark_completes {ln : LaneSel} {dp : Dp} {w : CleWord} {s : State} :
    Completes s (execCleIpark ln dp w s) := by
  simp [execCleIpark]

theorem execCleSincos_completes {ln : LaneSel} {dp : Dp} {w : CleWord} {s : State} :
    Completes s (execCleSincos ln dp w s) := by
  simp [execCleSincos]

theorem execCleSqrt_completes {ln : LaneSel} {dp : Dp} {w : CleWord} {s : State} : Completes s (execCleSqrt ln dp w s) := by
  simp [execCleSqrt]

theorem execCleDiv_completes {ln : LaneSel} {dp : Dp} {w : CleWord} {s : State} : Completes s (execCleDiv ln dp w s) := by
  simp [execCleDiv]

theorem execCleLut_completes {ln : LaneSel} {dp : Dp} {w : CleWord} {s : State} : Completes s (execCleLut ln dp w s) := by
  simp [execCleLut]

theorem execCleLd_completes {ln : LaneSel} {dp : Dp} {w : CleWord} {s : State} : Completes s (execCleLd ln dp w s) := by
  simp [execCleLd]

theorem execCleSt_completes {ln : LaneSel} {dp : Dp} {w : CleWord} {s : State} : Completes s (execCleSt ln dp w s) := by
  simp [execCleSt]

theorem execCleIn_completes {ln : LaneSel} {dp : Dp} {w : CleWord} {s : State} : Completes s (execCleIn ln dp w s) := by
  simp [execCleIn]

theorem execCleOut_completes {ln : LaneSel} {dp : Dp} {w : CleWord} {s : State} : Completes s (execCleOut ln dp w s) := by
  simp [execCleOut]

theorem execCleAng_completes {ln : LaneSel} {dp : Dp} {w : CleWord} {s : State} : Completes s (execCleAng ln dp w s) := by
  simp [execCleAng]

theorem execCleEnd_completes {ln : LaneSel} {dp : Dp} {w : CleWord} {s : State} : Completes s (execCleEnd ln dp w s) := by
  unfold execCleEnd
  refine completes_onLanes fun s i => ?_
  (repeat' split) <;> simp

theorem execGroupDeadline_completes {ln : LaneSel} {g : Nat} {s : State} : Completes s (execGroupDeadline ln g s) := by
  simp [execGroupDeadline]

theorem execBudgetStop_completes {ln : LaneSel} {dp : Dp} {s : State} : Completes s (execBudgetStop ln dp s) := by
  unfold execBudgetStop
  refine completes_onLanes fun s i => ?_
  (repeat' split) <;> simp

theorem execFastCmp_completes {ln : LaneSel} {i : Nat} {microvolts : Int} {s : State} :
    Completes s (execFastCmp ln i microvolts s) := by
  simp [execFastCmp]

theorem execTripInput_completes {n : Nat} {level : Bool} {s : State} : Completes s (execTripInput n level s) := by
  simp [execTripInput]

theorem execCauseGone_completes {s : State} : Completes s (execCauseGone s) := by
  unfold execCauseGone
  (repeat' split) <;> simp

theorem execLockoutAckNEdge_completes {level : Bool} {s : State} : Completes s (execLockoutAckNEdge level s) := by
  simp [execLockoutAckNEdge]

theorem execAckLow_completes {s : State} : Completes s (execAckLow s) := by
  unfold execAckLow
  (repeat' split) <;> simp

theorem execPllLoss_completes {s : State} : Completes s (execPllLoss s) := by
  simp [execPllLoss]

theorem execPllRelock_completes {count : Nat} {s : State} : Completes s (execPllRelock count s) := by
  simp [execPllRelock]

theorem execRelockFail_completes {s : State} : Completes s (execRelockFail s) := by
  simp [execRelockFail]

theorem execRefLoss_completes {s : State} : Completes s (execRefLoss s) := by
  simp [execRefLoss]

theorem execRefReturn_completes {s : State} : Completes s (execRefReturn s) := by
  simp [execRefReturn]

theorem execNdivApply_completes {s : State} : Completes s (execNdivApply s) := by
  unfold execNdivApply
  (repeat' split) <;> simp

theorem execFllUpdate_completes {v : Word} {inLock : Bool} {s : State} : Completes s (execFllUpdate v inLock s) := by
  simp [execFllUpdate]

theorem execTimeIncNs_completes {who : Writer} {v : Word} {s : State} : Completes s (execTimeIncNs who v s) := by
  simp [execTimeIncNs]

theorem execTimeNowNsRead_completes {who : Requester} {s : State} : Completes s (execTimeNowNsRead who s) := by
  unfold execTimeNowNsRead State.readAfterBoot
  (repeat' split) <;> simp

theorem execSyncWrite_completes {who : Writer} {v : Word} {s : State} : Completes s (execSyncWrite who v s) := by
  simp [execSyncWrite]

theorem execTimeCmp_completes {c : Nat} {s : State} : Completes s (execTimeCmp c s) := by
  unfold execTimeCmp
  (repeat' split) <;> simp

theorem execCmpArm_completes {who : Writer} {c : Nat} {v : Word} {s : State} : Completes s (execCmpArm who c v s) := by
  simp [execCmpArm]

theorem execCmpTargetWrite_completes {who : Writer} {c : Nat} {part : CmpPart} {v : Word} {s : State} :
    Completes s (execCmpTargetWrite who c part v s) := by
  unfold execCmpTargetWrite
  (repeat' split) <;> simp

theorem execPtpEventStamp_completes {p : Nat} {tx : Bool} {msg : BitVec 2} {seqId : BitVec 16} {s : State} :
    Completes s (execPtpEventStamp p tx msg seqId s) := by
  simp [execPtpEventStamp]

theorem execPtpStampRead_completes {p : Nat} {s : State} : Completes s (execPtpStampRead p s) := by
  unfold execPtpStampRead State.readAfterBoot
  (repeat' split) <;> simp

theorem execFilterOutput_completes {ln : LaneSel} {k : Nat} {s : State} : Completes s (execFilterOutput ln k s) := by
  unfold execFilterOutput
  refine completes_onLanes fun s i => ?_
  dsimp only
  (repeat' split) <;> simp

theorem execConversionDone_completes {ln : LaneSel} {core : Nat} {raw : BitVec 16} {s : State} :
    Completes s (execConversionDone ln core raw s) := by
  unfold execConversionDone
  refine completes_onLanes fun s i => ?_
  dsimp only
  (repeat' split) <;> simp

theorem execGridConversion_completes {ln : LaneSel} {k : Nat} {s : State} : Completes s (execGridConversion ln k s) := by
  unfold execGridConversion
  refine completes_onLanes fun s i => ?_
  (repeat' split) <;> simp

theorem execSdclkEdge_completes {ln : LaneSel} {k : Nat} {e : SdEdge} {s : State} :
    Completes s (execSdclkEdge ln k e s) := by
  unfold execSdclkEdge
  refine completes_onLanes fun s i => ?_
  (repeat' split) <;> simp

theorem execConvTrigger_completes {ln : LaneSel} {cg t : Nat} {s : State} : Completes s (execConvTrigger ln cg t s) := by
  unfold execConvTrigger
  refine completes_onLanes fun s i => ?_
  dsimp only
  (repeat' split) <;> simp

theorem execCorrWindowRoll_completes {s : State} : Completes s (execCorrWindowRoll s) := by
  simp [execCorrWindowRoll]

theorem execSelfCheckVerdict_completes {i : LaneId} {sig0 sig1 : DWord} {s : State} :
    Completes s (execSelfCheckVerdict i sig0 sig1 s) := by
  unfold execSelfCheckVerdict
  (repeat' split) <;> simp

theorem execEdgeCut_completes {s : State} : Completes s (execEdgeCut s) := by
  unfold execEdgeCut
  (repeat' split) <;> simp

theorem execSetCompare_completes {arrivedA arrivedB : Bool} {s : State} :
    Completes s (execSetCompare arrivedA arrivedB s) := by
  unfold execSetCompare
  split
  · simp
  · extract_lets s1 act o set start len diff s2 s3
    have h1 : s1.pending = s.pending ∧ s1.sec.identity = s.sec.identity := by simp [s1]
    have h2 : s2.pending = s1.pending ∧ s2.sec.identity = s1.sec.identity := by simp only [s2]; split <;> simp
    have h3 : s3.pending = s1.pending ∧ s3.sec.identity = s1.sec.identity := by simp [s3]
    clear_value s1 act o set start len diff s2 s3
    rw [completes_next, ← h1.1, ← h1.2]
    (repeat' split) <;> simp [h2, h3]

theorem execBulkCopyDone_completes {i : LaneId} {micros : Nat} {s : State} : Completes s (execBulkCopyDone i micros s) := by
  unfold execBulkCopyDone
  (repeat' split) <;> simp

theorem execResyncTimeout_completes {i : LaneId} {s : State} : Completes s (execResyncTimeout i s) := by
  unfold execResyncTimeout
  (repeat' split) <;> simp

theorem execLaneErrorReport_completes {i : LaneId} {ecc : Bool} {s : State} :
    Completes s (execLaneErrorReport i ecc s) := by
  simp [execLaneErrorReport]

theorem execWdtExpiry_completes {i : LaneId} {s : State} : Completes s (execWdtExpiry i s) := by
  unfold execWdtExpiry
  (repeat' split) <;> simp

theorem execEncEdge_completes {ln : LaneSel} {n : Nat} {e : EncEdge} {s : State} : Completes s (execEncEdge ln n e s) := by
  simp [execEncEdge]

theorem execEncIndex_completes {ln : LaneSel} {n : Nat} {s : State} : Completes s (execEncIndex ln n s) := by
  simp [execEncIndex]

theorem execSsiReadStart_completes {n : Nat} {s : State} : Completes s (execSsiReadStart n s) := by
  simp [execSsiReadStart]

theorem execSsiReadDone_completes {ln : LaneSel} {n : Nat} {raw : Word} {endHigh : Bool} {s : State} :
    Completes s (execSsiReadDone ln n raw endHigh s) := by
  simp [execSsiReadDone]

theorem execSsiReadTimeout_completes {ln : LaneSel} {n : Nat} {s : State} : Completes s (execSsiReadTimeout ln n s) := by
  unfold execSsiReadTimeout
  refine completes_onLanes fun s i => ?_
  (repeat' split) <;> simp

theorem execTestPulse_completes {n : Nat} {s : State} : Completes s (execTestPulse n s) := by
  simp [execTestPulse]

theorem execSiSample_completes {a b : BitVec 8} {s : State} : Completes s (execSiSample a b s) := by
  simp [execSiSample]

theorem execSafetyCycle_completes {ln : LaneSel} {s : State} : Completes s (execSafetyCycle ln s) := by
  unfold execSafetyCycle
  (repeat' split) <;> simp

theorem execSmonFault_completes {s : State} : Completes s (execSmonFault s) := by
  unfold execSmonFault
  (repeat' split) <;> simp

theorem execSiDisc_completes {ln : LaneSel} {pair : Nat} {s : State} : Completes s (execSiDisc ln pair s) := by
  unfold execSiDisc
  refine completes_onLanes fun s i => ?_
  (repeat' split) <;> simp

theorem execSpdDisc_completes {ln : LaneSel} {s : State} : Completes s (execSpdDisc ln s) := by
  unfold execSpdDisc
  refine completes_onLanes fun s i => ?_
  (repeat' split) <;> simp

theorem execSltMot_completes {ln : LaneSel} {s : State} : Completes s (execSltMot ln s) := by
  unfold execSltMot
  refine completes_onLanes fun s i => ?_
  (repeat' split) <;> simp

theorem execDegradedMinute_completes {s : State} : Completes s (execDegradedMinute s) := by
  simp [execDegradedMinute]

theorem execDegradedEnd_completes {s : State} : Completes s (execDegradedEnd s) := by
  unfold execDegradedEnd
  (repeat' split) <;> simp

theorem execSoTestStart_completes {n : Nat} {s : State} : Completes s (execSoTestStart n s) := by
  simp [execSoTestStart]

theorem execSoTestEnd_completes {n : Nat} {allLow : Bool} {s : State} : Completes s (execSoTestEnd n allLow s) := by
  unfold execSoTestEnd
  (repeat' split) <;> simp

theorem execSoTestRecheck_completes {n : Nat} {high : Bool} {s : State} : Completes s (execSoTestRecheck n high s) := by
  simp [execSoTestRecheck]

theorem execSoReadback_completes {n : Nat} {high : Bool} {s : State} : Completes s (execSoReadback n high s) := by
  simp [execSoReadback]

theorem execSoOverload_completes {n : Nat} {s : State} : Completes s (execSoOverload n s) := by
  simp [execSoOverload]

theorem execDoOverload_completes {n : Nat} {s : State} : Completes s (execDoOverload n s) := by
  simp [execDoOverload]

theorem execDoOt_completes {n : Nat} {present : Bool} {s : State} : Completes s (execDoOt n present s) := by
  simp [execDoOt]

theorem execDoBackfeed_completes {n : Nat} {present : Bool} {s : State} : Completes s (execDoBackfeed n present s) := by
  simp [execDoBackfeed]

theorem execDoOpen_completes {n : Nat} {s : State} : Completes s (execDoOpen n s) := by
  simp [execDoOpen]

theorem execFieldFrameS_completes {crcOk : Bool} {s : State} : Completes s (execFieldFrameS crcOk s) := by
  simp [execFieldFrameS]

theorem execFieldFrameLane_completes {lane : LaneId} {crcOk : Bool} {s : State} :
    Completes s (execFieldFrameLane lane crcOk s) := by
  simp [execFieldFrameLane]

theorem execLaneChannelSilence_completes {lane : LaneId} {s : State} : Completes s (execLaneChannelSilence lane s) := by
  simp [execLaneChannelSilence]

theorem execSSilence_completes {s : State} : Completes s (execSSilence s) := by
  simp [execSSilence]

theorem execFioWdog_completes {s : State} : Completes s (execFioWdog s) := by
  simp [execFioWdog]

theorem execFdShutdown_completes {s : State} : Completes s (execFdShutdown s) := by
  simp [execFdShutdown]

theorem execFdDown_completes {s : State} : Completes s (execFdDown s) := by
  simp [execFdDown]

theorem execFieldChan_completes {lane : LaneId} {s : State} : Completes s (execFieldChan lane s) := by
  simp [execFieldChan]

theorem execSupplyMeasure_completes {sup : Supply} {deciVolts : Int} {s : State} :
    Completes s (execSupplyMeasure sup deciVolts s) := by
  simp [execSupplyMeasure]

theorem execSupplyRecovery_completes {sup : Supply} {deciVolts : Int} {s : State} :
    Completes s (execSupplyRecovery sup deciVolts s) := by
  unfold execSupplyRecovery
  (repeat' split) <;> simp

theorem execDiSample_completes {n : Nat} {raw : Bool} {s : State} : Completes s (execDiSample n raw s) := by
  simp [execDiSample]

theorem execDiOpen_completes {n : Nat} {s : State} : Completes s (execDiOpen n s) := by
  simp [execDiOpen]

theorem execSupOvl_completes {j : Nat} {s : State} : Completes s (execSupOvl j s) := by
  simp [execSupOvl]

theorem execDisupRetry_completes {j : Nat} {s : State} : Completes s (execDisupRetry j s) := by
  unfold execDisupRetry
  (repeat' split) <;> simp

theorem execDiOt_completes {n : Nat} {s : State} : Completes s (execDiOt n s) := by
  simp [execDiOt]

theorem execDiCooled_completes {n : Nat} {s : State} : Completes s (execDiCooled n s) := by
  simp [execDiCooled]

theorem execTsNsRead_completes {s : State} : Completes s (execTsNsRead s) := by
  unfold execTsNsRead State.readAfterBoot
  (repeat' split) <;> simp

theorem execTsSRead_completes {s : State} : Completes s (execTsSRead s) := by
  unfold execTsSRead State.readAfterBoot
  rw [completes_next]
  dsimp only
  (repeat' split) <;> simp

theorem execAnnounce_completes {a : Announce} {s : State} : Completes s (execAnnounce a s) := by
  simp [execAnnounce]

theorem execGroupWaitExpiry_completes {s : State} : Completes s (execGroupWaitExpiry s) := by
  simp [execGroupWaitExpiry]

theorem execFllLockTimeout_completes {s : State} : Completes s (execFllLockTimeout s) := by
  simp [execFllLockTimeout]

theorem execGrpPing_completes {sender : Nat} {s : State} : Completes s (execGrpPing sender s) := by
  simp [execGrpPing]

theorem execGrpEcho_completes {k : Nat} {roundTrip : Nat} {s : State} : Completes s (execGrpEcho k roundTrip s) := by
  simp [execGrpEcho]

theorem execGrpDelays_completes {sender : Nat} {dly : List Nat} {s : State} : Completes s (execGrpDelays sender dly s) := by
  simp [execGrpDelays]

theorem execGrpTally_completes {common : BitVec 64} {startBoundary : BitVec 64} {s : State} :
    Completes s (execGrpTally common startBoundary s) := by
  simp [execGrpTally]

theorem execGrpBoundary_completes {_tallyLow : Byte} {angle inc : Word} {s : State} :
    Completes s (execGrpBoundary _tallyLow angle inc s) := by
  simp [execGrpBoundary]

theorem execGrpStart_completes {units : BitVec 4} {tStart : BitVec 64} {s : State} :
    Completes s (execGrpStart units tStart s) := by
  simp [execGrpStart]

theorem execGrpTrig_completes {sender : Nat} {s : State} : Completes s (execGrpTrig sender s) := by
  simp [execGrpTrig]

theorem execGrpClkAbsent_completes {s : State} : Completes s (execGrpClkAbsent s) := by
  simp [execGrpClkAbsent]

theorem execBoundaryMissing_completes {s : State} : Completes s (execBoundaryMissing s) := by
  simp [execBoundaryMissing]

theorem execMemberLost_completes {k : Nat} {s : State} : Completes s (execMemberLost k s) := by
  simp [execMemberLost]

theorem execClaim_completes {t : Target} {s : State} : Completes s (execClaim t s) := by
  unfold execClaim State.readAfterBoot
  (repeat' split) <;> simp

theorem execComplete_completes {t : Target} {id : Nat} {s : State} : Completes s (execComplete t id s) := by
  unfold execComplete State.afterBoot
  (repeat' split) <;> simp

theorem execPendWrite_completes {j : Nat} {v : Word} {s : State} : Completes s (execPendWrite j v s) := by
  unfold execPendWrite State.afterBoot
  (repeat' split) <;> simp

theorem execVecIdle_completes {v : Nat} {w : Word} {s : State} : Completes s (execVecIdle v w s) := by
  unfold execVecIdle State.afterBoot
  (repeat' split) <;> simp

theorem execModerationTimer_completes {t : Target} {s : State} : Completes s (execModerationTimer t s) := by
  unfold execModerationTimer
  (repeat' split) <;> simp

theorem execTimerWrite_completes {v : Word} {s : State} : Completes s (execTimerWrite v s) := by
  unfold execTimerWrite State.afterBoot
  (repeat' split) <;> simp

theorem execEicTimer_completes {s : State} : Completes s (execEicTimer s) := by
  unfold execEicTimer
  (repeat' split) <;> simp

theorem execMsixUnmask_completes {v : Nat} {s : State} : Completes s (execMsixUnmask v s) := by
  unfold execMsixUnmask State.afterBoot
  (repeat' split) <;> simp

theorem execD3hotEntry_completes {pmeEn : Bool} {s : State} : Completes s (execD3hotEntry pmeEn s) := by
  simp [execD3hotEntry]

theorem execD0Return_completes {s : State} : Completes s (execD0Return s) := by
  simp [execD0Return]

theorem execPreSleep_completes {s : State} : Completes s (execPreSleep s) := by
  unfold execPreSleep State.afterBoot
  (repeat' split) <;> simp

theorem execPcieLinkChange_completes {st : BitVec 16} {s : State} : Completes s (execPcieLinkChange st s) := by
  simp [execPcieLinkChange]

theorem execNegotiationIdleEnd_completes {n : Nat} {s : State} : Completes s (execNegotiationIdleEnd n s) := by
  simp [execNegotiationIdleEnd]

theorem execHelloReqResend_completes {n : Nat} {s : State} : Completes s (execHelloReqResend n s) := by
  simp [execHelloReqResend]

theorem execGlHello_completes {rx : GlRx} {hi lo : BitVec 16} {sw : Nat} {type : BitVec 16} {s : State} :
    Completes s (execGlHello rx hi lo sw type s) := by
  unfold execGlHello
  (repeat' split) <;> simp

theorem execHelloTimeout_completes {n : Nat} {s : State} : Completes s (execHelloTimeout n s) := by
  simp [execHelloTimeout]

theorem execGlEcho_completes {n : Nat} {roundTrip : Nat} {s : State} : Completes s (execGlEcho n roundTrip s) := by
  simp [execGlEcho]

theorem execDelayMeasured_completes {n : Nat} {s : State} : Completes s (execDelayMeasured n s) := by
  simp [execDelayMeasured]

theorem execPingPeriodic_completes {n : Nat} {roundTrip : Nat} {s : State} :
    Completes s (execPingPeriodic n roundTrip s) := by
  simp [execPingPeriodic]

theorem execGlSyncSend_completes {n : Nat} {s : State} : Completes s (execGlSyncSend n s) := by
  simp [execGlSyncSend]

theorem execGlTlm_completes {n : Nat} {crcOk : Bool} {bytes : List Byte} {s : State} :
    Completes s (execGlTlm n crcOk bytes s) := by
  simp [execGlTlm]

theorem execTlmTimeout_completes {n : Nat} {s : State} : Completes s (execTlmTimeout n s) := by
  simp [execTlmTimeout]

theorem execAlignmentLoss_completes {n : Nat} {s : State} : Completes s (execAlignmentLoss n s) := by
  simp [execAlignmentLoss]

theorem execCharactersReturn_completes {n : Nat} {s : State} : Completes s (execCharactersReturn n s) := by
  simp [execCharactersReturn]

theorem execGlFault_completes {n : Nat} {d compl : Byte} {inFrame : Bool} {s : State} :
    Completes s (execGlFault n d compl inFrame s) := by
  simp [execGlFault]

theorem execGl1Fault_completes {n : Nat} {low : Bool} {s : State} : Completes s (execGl1Fault n low s) := by
  simp [execGl1Fault]

theorem execIfEn_completes {v : Word} {s : State} : Completes s (execIfEn v s) := by
  unfold execIfEn State.afterBoot
  rw [completes_next]
  split
  · simp
  · (repeat' split) <;> simp

theorem execQueueEnable_completes {kind : QueueKind} {q : Nat} {v : Word} {s : State} :
    Completes s (execQueueEnable kind q v s) := by
  unfold execQueueEnable State.afterBoot
  (repeat' split) <;> simp

theorem execSqTail_completes {q : Nat} {v : Nat} {s : State} : Completes s (execSqTail q v s) := by
  unfold execSqTail State.afterBoot
  (repeat' split) <;> simp

theorem execCqHead_completes {q : Nat} {v : Nat} {s : State} : Completes s (execCqHead q v s) := by
  unfold execCqHead State.afterBoot
  (repeat' split) <;> simp

theorem execStrTail_completes {r : Nat} {v : Nat} {posted : List PostedBuf} {s : State} :
    Completes s (execStrTail r v posted s) := by
  unfold execStrTail State.afterBoot
  (repeat' split) <;> simp

theorem execStreamRecordWrite_completes {r : Nat} {s : State} : Completes s (execStreamRecordWrite r s) := by
  simp [execStreamRecordWrite]

theorem execStreamFlush_completes {r : Nat} {s : State} : Completes s (execStreamFlush r s) := by
  unfold execStreamFlush
  (repeat' split) <;> simp

theorem execLaneViewWrite_completes {who : Writer} {lane : LaneId} {off : Nat} {v : Word} {s : State} :
    Completes s (execLaneViewWrite who lane off v s) := by
  unfold execLaneViewWrite
  (repeat' split) <;> simp

theorem execRegWrite_completes {who : Writer} {off size : Nat} {v : BitVec 64} {s : State} :
    Completes s (execRegWrite who off size v s) := by
  simp [execRegWrite]

theorem execMaintReq_completes {p : Port} {v : Word} {s : State} : Completes s (execMaintReq p v s) := by
  unfold execMaintReq
  (repeat' split) <;> simp

theorem execAngStep_completes {who : Writer} {src : Nat} {v : Word} {s : State} :
    Completes s (execAngStep who src v s) := by
  simp [execAngStep]

theorem execAngLoad_completes {who : Writer} {src : Nat} {v : Word} {s : State} :
    Completes s (execAngLoad who src v s) := by
  simp [execAngLoad]

theorem execFirDataWrite_completes {who : Writer} {v : Word} {s : State} : Completes s (execFirDataWrite who v s) := by
  simp [execFirDataWrite]

theorem execFirDataRead_completes {_who : Requester} {s : State} : Completes s (execFirDataRead _who s) := by
  unfold execFirDataRead State.readAfterBoot
  (repeat' split) <;> simp

theorem execPreset_completes {who : Writer} {sel : Word} {s : State} : Completes s (execPreset who sel s) := by
  simp [execPreset]

theorem execLegDis_completes {who : Writer} {upper : Bool} {v : Word} {s : State} :
    Completes s (execLegDis who upper v s) := by
  simp [execLegDis]

theorem execDisAll_completes {who : Writer} {v : Word} {s : State} : Completes s (execDisAll who v s) := by
  simp [execDisAll]

theorem execGlReneg_completes {who : Writer} {v : Word} {s : State} : Completes s (execGlReneg who v s) := by
  simp [execGlReneg]

theorem execAuxRun_completes {who : Writer} {ch : Nat} {v : Word} {s : State} : Completes s (execAuxRun who ch v s) := by
  simp [execAuxRun]

theorem execEnvelopeLock_completes {who : Writer} {v : Word} {s : State} : Completes s (execEnvelopeLock who v s) := by
  simp [execEnvelopeLock]

theorem execSoReq_completes {who : Writer} {n : Nat} {v : Word} {s : State} : Completes s (execSoReq who n v s) := by
  simp [execSoReq]

theorem execDoOut_completes {who : Writer} {v : Word} {s : State} : Completes s (execDoOut who v s) := by
  simp [execDoOut]

theorem execDoRearm_completes {who : Writer} {v : Word} {s : State} : Completes s (execDoRearm who v s) := by
  simp [execDoRearm]

theorem execClkNdiv_completes {who : Writer} {v : Word} {s : State} : Completes s (execClkNdiv who v s) := by
  simp [execClkNdiv]

theorem execClkDither_completes {who : Writer} {v : Word} {s : State} : Completes s (execClkDither who v s) := by
  simp [execClkDither]

theorem execGrpRestart_completes {who : Writer} {v : Word} {s : State} : Completes s (execGrpRestart who v s) := by
  simp [execGrpRestart]

theorem execSoftReset_completes {who : Writer} {v : Word} {s : State} : Completes s (execSoftReset who v s) := by
  simp [execSoftReset]

theorem execWdtService_completes {lane : LaneId} {s : State} : Completes s (execWdtService lane s) := by
  simp [execWdtService]

theorem execDebugTokenExpiry_completes {s : State} : Completes s (execDebugTokenExpiry s) := by
  unfold execDebugTokenExpiry
  (repeat' split) <;> simp

theorem execPackageCheckDone_completes {s : State} : Completes s (execPackageCheckDone s) := by
  unfold execPackageCheckDone
  (repeat' split) <;> simp

theorem execSigningDone_completes {rounds late : Nat} {s : State} : Completes s (execSigningDone rounds late s) := by
  unfold execSigningDone
  (repeat' split) <;> simp

theorem execJournalCommit_completes {s : State} : Completes s (execJournalCommit s) := by
  simp [execJournalCommit]

theorem execPgoodFall_completes {s : State} : Completes s (execPgoodFall s) := by
  simp [execPgoodFall]

theorem execVholdLow_completes {s : State} : Completes s (execVholdLow s) := by
  simp [execVholdLow]

theorem execPor_completes {s : State} : Completes s (execPor s) := by
  simp [execPor]

theorem execBodWarn_completes {millivolts : Nat} {s : State} : Completes s (execBodWarn millivolts s) := by
  simp [execBodWarn]

theorem execBod_completes {s : State} : Completes s (execBod s) := by
  unfold execBod
  (repeat' split) <;> simp

theorem execBodRecovery_completes {s : State} : Completes s (execBodRecovery s) := by
  simp [execBodRecovery]

theorem execBor_completes {s : State} : Completes s (execBor s) := by
  simp [execBor]

theorem execBorRelease_completes {s : State} : Completes s (execBorRelease s) := by
  simp [execBorRelease]

theorem execVbatLow_completes {s : State} : Completes s (execVbatLow s) := by
  simp [execVbatLow]

theorem execPinReset_completes {s : State} : Completes s (execPinReset s) := by
  simp [execPinReset]

theorem execRstNRelease_completes {s : State} : Completes s (execRstNRelease s) := by
  simp only [execRstNRelease]
  (repeat' split) <;> simp

theorem execStuckReset_completes {s : State} : Completes s (execStuckReset s) := by
  simp only [execStuckReset]
  (repeat' split) <;> simp

theorem execRstNRearm_completes {s : State} : Completes s (execRstNRearm s) := by
  simp [execRstNRearm]

theorem execPerst_completes {s : State} : Completes s (execPerst s) := by
  simp [execPerst]

theorem execFlr_completes {s : State} : Completes s (execFlr s) := by
  simp [execFlr]

theorem execLaneImagesLoaded_completes {s : State} : Completes s (execLaneImagesLoaded s) := by
  simp [execLaneImagesLoaded]

theorem execLaneSelfTestDone_completes {lane : LaneId} {ok : Bool} {s : State} :
    Completes s (execLaneSelfTestDone lane ok s) := by
  simp [execLaneSelfTestDone]

theorem execIroloHandshake_completes {verA verB : BitVec 8} {s : State} : Completes s (execIroloHandshake verA verB s) := by
  simp [execIroloHandshake]

theorem execStartUpDone_completes {s : State} : Completes s (execStartUpDone s) := by
  simp [execStartUpDone]

theorem execBootAttemptTimeout_completes {s : State} : Completes s (execBootAttemptTimeout s) := by
  simp [execBootAttemptTimeout]

theorem execPowerStateExitDone_completes {s : State} : Completes s (execPowerStateExitDone s) := by
  simp only [execPowerStateExitDone]
  (repeat' split) <;> simp

theorem execWake_completes {kind index : Nat} {s : State} : Completes s (execWake kind index s) := by
  simp only [execWake]
  (repeat' split) <;> simp

theorem execShelvedExit_completes {s : State} : Completes s (execShelvedExit s) := by
  simp [execShelvedExit]

theorem execNop_completes {h : Hdr} {s : State} : Completes s (execNop h s) := by
  simp [execNop]

theorem execSetSetpoint_completes {h : Hdr} {pairs : List (Nat × Nat × Word)} {s : State} :
    Completes s (execSetSetpoint h pairs s) := by
  simp [execSetSetpoint]

theorem execTrajSegment_completes {h : Hdr} {b : SegBody} {s : State} : Completes s (execTrajSegment h b s) := by
  simp [execTrajSegment]

theorem execTrajStop_completes {h : Hdr} {units : BitVec 4} {s : State} : Completes s (execTrajStop h units s) := by
  simp [execTrajStop]

theorem execSetMode_completes {h : Hdr} {thr : BitVec 8} {mode : BitVec 16} {s : State} :
    Completes s (execSetMode h thr mode s) := by
  simp [execSetMode]

theorem execArm_completes {h : Hdr} {thr : BitVec 8} {s : State} : Completes s (execArm h thr s) := by
  simp [execArm]

theorem execDisarm_completes {h : Hdr} {thr : BitVec 8} {s : State} : Completes s (execDisarm h thr s) := by
  simp [execDisarm]

theorem execWriteRegs_completes {h : Hdr} {buffered : Bool} {pairs : List (Nat × Word)} {s : State} :
    Completes s (execWriteRegs h buffered pairs s) := by
  simp [execWriteRegs]

theorem execReadSnapshot_completes {h : Hdr} {set mode : Nat} {bufLen : Nat} {s : State} :
    Completes s (execReadSnapshot h set mode bufLen s) := by
  simp [execReadSnapshot]

theorem execLoadCoeff_completes {h : Hdr} {ctx bank offset : Nat} {words : List Word} {s : State} :
    Completes s (execLoadCoeff h ctx bank offset words s) := by
  simp [execLoadCoeff]

theorem execSwapBank_completes {h : Hdr} {ctxs : List Nat} {bumpless : Bool} {s : State} :
    Completes s (execSwapBank h ctxs bumpless s) := by
  simp [execSwapBank]

theorem execLoadProgram_completes {h : Hdr} {img : Image} {s : State} : Completes s (execLoadProgram h img s) := by
  simp [execLoadProgram]

theorem execSchedWrite_completes {h : Hdr} {first : Nat} {entries : List EntryWords} {s : State} :
    Completes s (execSchedWrite h first entries s) := by
  simp [execSchedWrite]

theorem execRecArm_completes {h : Hdr} {s : State} : Completes s (execRecArm h s) := by
  simp [execRecArm]

theorem execRecStop_completes {h : Hdr} {s : State} : Completes s (execRecStop h s) := by
  simp [execRecStop]

theorem execRakeStart_completes {h : Hdr} {frames : Word} {s : State} : Completes s (execRakeStart h frames s) := by
  simp [execRakeStart]

theorem execInjectStart_completes {h : Hdr} {b : InjBody} {s : State} : Completes s (execInjectStart h b s) := by
  simp [execInjectStart]

theorem execJournalRead_completes {h : Hdr} {firstSeq : Word} {count bufLen : Nat} {s : State} :
    Completes s (execJournalRead h firstSeq count bufLen s) := by
  simp [execJournalRead]

theorem execIoWrite_completes {h : Hdr} {mask val : BitVec 16} {s : State} : Completes s (execIoWrite h mask val s) := by
  simp [execIoWrite]

theorem execClearFault_completes {h : Hdr} {thr : BitVec 8} {aux : BitVec 4} {module : Bool} {s : State} :
    Completes s (execClearFault h thr aux module s) := by
  simp [execClearFault]

theorem execAttest_completes {h : Hdr} {nonce : List Byte} {mode bufLen : Nat} {s : State} :
    Completes s (execAttest h nonce mode bufLen s) := by
  simp [execAttest]

theorem execTimeAdjust_completes {h : Hdr} {mode : Nat} {sec : BitVec 64} {nsec : Word} {s : State} :
    Completes s (execTimeAdjust h mode sec nsec s) := by
  simp [execTimeAdjust]

theorem execGroupStart_completes {h : Hdr} {units : BitVec 4} {tStart : BitVec 64} {s : State} :
    Completes s (execGroupStart h units tStart s) := by
  simp [execGroupStart]

theorem execLaneControl_completes {h : Hdr} {lane : LaneId} {action : Nat} {s : State} :
    Completes s (execLaneControl h lane action s) := by
  simp [execLaneControl]

theorem execFwStage_completes {h : Hdr} {type action : Nat} {pkg : Package} {s : State} :
    Completes s (execFwStage h type action pkg s) := by
  simp [execFwStage]

theorem execLockoutReset_completes {h : Hdr} {tag : Word} {s : State} : Completes s (execLockoutReset h tag s) := by
  simp [execLockoutReset]

theorem execEntryDispatch_completes {ln : LaneSel} {s : State} : Completes s (execEntryDispatch ln s) := by
  simp [execEntryDispatch]

theorem execPsfCmd_completes {ln : LaneSel} {frame : List Byte} {s : State} : Completes s (execPsfCmd ln frame s) := by
  simp [execPsfCmd]

theorem execPsfLockoutReset_completes {ln : LaneSel} {frame : List Byte} {s : State} :
    Completes s (execPsfLockoutReset ln frame s) := by
  simp [execPsfLockoutReset]

theorem execPsfMatchWin_completes {ln : LaneSel} {s : State} : Completes s (execPsfMatchWin ln s) := by
  unfold execPsfMatchWin
  refine completes_onLanes fun s i => ?_
  (repeat' split) <;> simp

theorem execPsfTimeout_completes {ln : LaneSel} {s : State} : Completes s (execPsfTimeout ln s) := by
  simp [execPsfTimeout]

theorem execDescriptorFetch_completes {sq : Nat} {d : Descriptor} {s : State} :
    Completes s (execDescriptorFetch sq d s) := by
  unfold execDescriptorFetch
  (repeat' split) <;> simp

theorem execStagingDone_completes {tag : Nat} {data : DataRead} {s : State} : Completes s (execStagingDone tag data s) := by
  unfold execStagingDone
  (repeat' split) <;> simp

theorem execCommitGroupTimeout_completes {sq : Nat} {s : State} : Completes s (execCommitGroupTimeout sq s) := by
  unfold execCommitGroupTimeout
  (repeat' split) <;> simp

theorem execNetDescriptor_completes {f : NetFrame} {s : State} : Completes s (execNetDescriptor f s) := by
  simp only [execNetDescriptor]
  (repeat' split) <;> simp

theorem execNetDataFragment_completes {p : NetPort} {xid : Word} {offset len : Nat} {_last : Bool} {s : State} :
    Completes s (execNetDataFragment p xid offset len _last s) := by
  unfold execNetDataFragment
  (repeat' split) <;> simp

theorem execNetDataTimeout_completes {p : NetPort} {xid : Word} {s : State} : Completes s (execNetDataTimeout p xid s) := by
  unfold execNetDataTimeout
  (repeat' split) <;> simp

theorem execFrameBoundary_completes {copy : CopyResult} {s : State} :
    Completes s (execFrameBoundary copy s) := by
  unfold execFrameBoundary
  rw [completes_next]
  split
  · simp
  · refine ⟨by simp, fun h => ?_⟩
    simp [State.boundaryCommits_keepsErased, h]

theorem execTallyLoRead_completes {who : Requester} {s : State} : Completes s (execTallyLoRead who s) := by
  unfold execTallyLoRead State.readAfterBoot
  (repeat' split) <;> simp

/-- Every command completes, and keeps the queue of waiting commands and an erased identity key. -/
theorem exec_completes (c : Instr) (s : State) : Completes s (exec c s) := by
  cases c with
  | nop => exact execNop_completes
  | setSetpoint => exact execSetSetpoint_completes
  | trajSegment => exact execTrajSegment_completes
  | trajStop => exact execTrajStop_completes
  | setMode => exact execSetMode_completes
  | arm => exact execArm_completes
  | disarm => exact execDisarm_completes
  | writeRegs => exact execWriteRegs_completes
  | readSnapshot => exact execReadSnapshot_completes
  | loadCoeff => exact execLoadCoeff_completes
  | swapBank => exact execSwapBank_completes
  | loadProgram => exact execLoadProgram_completes
  | schedWrite => exact execSchedWrite_completes
  | recArm => exact execRecArm_completes
  | recStop => exact execRecStop_completes
  | rakeStart => exact execRakeStart_completes
  | injectStart => exact execInjectStart_completes
  | journalRead => exact execJournalRead_completes
  | ioWrite => exact execIoWrite_completes
  | clearFault => exact execClearFault_completes
  | attest => exact execAttest_completes
  | timeAdjust => exact execTimeAdjust_completes
  | groupStart => exact execGroupStart_completes
  | laneControl => exact execLaneControl_completes
  | fwStage => exact execFwStage_completes
  | lockoutReset => exact execLockoutReset_completes
  | sqTail => exact execSqTail_completes
  | cqHead => exact execCqHead_completes
  | strTail => exact execStrTail_completes
  | preSleep => exact execPreSleep_completes
  | descriptorFetch => exact execDescriptorFetch_completes
  | stagingDone => exact execStagingDone_completes
  | commitGroupTimeout => exact execCommitGroupTimeout_completes
  | queueEnable => exact execQueueEnable_completes
  | ifEn => exact execIfEn_completes
  | streamRecordWrite => exact execStreamRecordWrite_completes
  | streamFlush => exact execStreamFlush_completes
  | maintReq => exact execMaintReq_completes
  | tallyLoRead => exact execTallyLoRead_completes
  | angStep => exact execAngStep_completes
  | angLoad => exact execAngLoad_completes
  | firDataWrite => exact execFirDataWrite_completes
  | firDataRead who => exact execFirDataRead_completes (_who := who)
  | preset => exact execPreset_completes
  | legDis => exact execLegDis_completes
  | disAll => exact execDisAll_completes
  | glReneg => exact execGlReneg_completes
  | auxRun => exact execAuxRun_completes
  | envelopeLock => exact execEnvelopeLock_completes
  | soReq => exact execSoReq_completes
  | doOut => exact execDoOut_completes
  | doRearm => exact execDoRearm_completes
  | tsNsRead => exact execTsNsRead_completes
  | tsSRead => exact execTsSRead_completes
  | ptpStampRead => exact execPtpStampRead_completes
  | claim => exact execClaim_completes
  | complete => exact execComplete_completes
  | pendWrite => exact execPendWrite_completes
  | vecIdle => exact execVecIdle_completes
  | timerWrite => exact execTimerWrite_completes
  | msixUnmask => exact execMsixUnmask_completes
  | timeIncNs => exact execTimeIncNs_completes
  | timeNowNsRead => exact execTimeNowNsRead_completes
  | cmpArm => exact execCmpArm_completes
  | cmpTargetWrite => exact execCmpTargetWrite_completes
  | syncWrite => exact execSyncWrite_completes
  | clkNdiv => exact execClkNdiv_completes
  | clkDither => exact execClkDither_completes
  | grpRestart => exact execGrpRestart_completes
  | softReset => exact execSoftReset_completes
  | wdtService => exact execWdtService_completes
  | jrnlFwCode => exact execJrnlFwCode_completes
  | laneViewWrite => exact execLaneViewWrite_completes
  | regWrite => exact execRegWrite_completes
  | frameBoundary => exact execFrameBoundary_completes
  | entryCrossing => exact execEntryCrossing_completes
  | entryDispatch => exact execEntryDispatch_completes
  | syncPulseEnd => exact execSyncPulseEnd_completes
  | conversionDone => exact execConversionDone_completes
  | gridConversion => exact execGridConversion_completes
  | filterOutput => exact execFilterOutput_completes
  | convTrigger => exact execConvTrigger_completes
  | fastCmp => exact execFastCmp_completes
  | cleNop => exact execCleNop_completes
  | cleEnd => exact execCleEnd_completes
  | cleLdi => exact execCleLdi_completes
  | cleMov => exact execCleMov_completes
  | cleAdd => exact execCleAdd_completes
  | cleSub => exact execCleSub_completes
  | cleAddi => exact execCleAddi_completes
  | cleNeg => exact execCleNeg_completes
  | cleAbs => exact execCleAbs_completes
  | cleShl => exact execCleShl_completes
  | cleShr => exact execCleShr_completes
  | cleAnd => exact execCleAnd_completes
  | cleOr => exact execCleOr_completes
  | cleXor => exact execCleXor_completes
  | cleMul => exact execCleMul_completes
  | cleMuli => exact execCleMuli_completes
  | cleMac => exact execCleMac_completes
  | cleMsu => exact execCleMsu_completes
  | cleLda => exact execCleLda_completes
  | cleClra => exact execCleClra_completes
  | cleExa => exact execCleExa_completes
  | cleSat => exact execCleSat_completes
  | cleMin => exact execCleMin_completes
  | cleMax => exact execCleMax_completes
  | cleCmp => exact execCleCmp_completes
  | cleSel => exact execCleSel_completes
  | cleInteg => exact execCleInteg_completes
  | cleLpf1 => exact execCleLpf1_completes
  | cleClarke => exact execCleClarke_completes
  | cleIclarke => exact execCleIclarke_completes
  | clePark => exact execClePark_completes
  | cleIpark => exact execCleIpark_completes
  | cleSincos => exact execCleSincos_completes
  | cleSqrt => exact execCleSqrt_completes
  | cleDiv => exact execCleDiv_completes
  | cleLut => exact execCleLut_completes
  | cleLd => exact execCleLd_completes
  | cleSt => exact execCleSt_completes
  | cleIn => exact execCleIn_completes
  | cleOut => exact execCleOut_completes
  | cleAng => exact execCleAng_completes
  | groupDeadline => exact execGroupDeadline_completes
  | budgetStop => exact execBudgetStop_completes
  | edgeCut => exact execEdgeCut_completes
  | setCompare => exact execSetCompare_completes
  | corrWindowRoll => exact execCorrWindowRoll_completes
  | selfCheckVerdict => exact execSelfCheckVerdict_completes
  | wdtExpiry => exact execWdtExpiry_completes
  | laneErrorReport => exact execLaneErrorReport_completes
  | bulkCopyDone => exact execBulkCopyDone_completes
  | resyncTimeout => exact execResyncTimeout_completes
  | iroloHandshake => exact execIroloHandshake_completes
  | negotiationIdleEnd => exact execNegotiationIdleEnd_completes
  | helloReqResend => exact execHelloReqResend_completes
  | glHello => exact execGlHello_completes
  | helloTimeout => exact execHelloTimeout_completes
  | glEcho => exact execGlEcho_completes
  | delayMeasured => exact execDelayMeasured_completes
  | pingPeriodic => exact execPingPeriodic_completes
  | glSyncSend => exact execGlSyncSend_completes
  | glTlm => exact execGlTlm_completes
  | tlmTimeout => exact execTlmTimeout_completes
  | alignmentLoss => exact execAlignmentLoss_completes
  | charactersReturn => exact execCharactersReturn_completes
  | glFault => exact execGlFault_completes
  | gl1Fault => exact execGl1Fault_completes
  | hallChange => exact execHallChange_completes
  | auxShuntTrip => exact execAuxShuntTrip_completes
  | auxStall => exact execAuxStall_completes
  | auxPrechargeEnd => exact execAuxPrechargeEnd_completes
  | tripInput => exact execTripInput_completes
  | causeGone => exact execCauseGone_completes
  | ackLow => exact execAckLow_completes
  | safetyCycle => exact execSafetyCycle_completes
  | smonFault => exact execSmonFault_completes
  | siSample => exact execSiSample_completes
  | siDisc => exact execSiDisc_completes
  | spdDisc => exact execSpdDisc_completes
  | sltMot => exact execSltMot_completes
  | ssiReadStart => exact execSsiReadStart_completes
  | ssiReadDone => exact execSsiReadDone_completes
  | ssiReadTimeout => exact execSsiReadTimeout_completes
  | encIndex => exact execEncIndex_completes
  | degradedMinute => exact execDegradedMinute_completes
  | degradedEnd => exact execDegradedEnd_completes
  | testPulse => exact execTestPulse_completes
  | soTestStart => exact execSoTestStart_completes
  | soTestEnd => exact execSoTestEnd_completes
  | soTestRecheck => exact execSoTestRecheck_completes
  | soReadback => exact execSoReadback_completes
  | soOverload => exact execSoOverload_completes
  | psfCmd => exact execPsfCmd_completes
  | psfLockoutReset => exact execPsfLockoutReset_completes
  | psfMatchWin => exact execPsfMatchWin_completes
  | psfTimeout => exact execPsfTimeout_completes
  | fieldFrameS => exact execFieldFrameS_completes
  | fieldFrameLane => exact execFieldFrameLane_completes
  | laneChannelSilence => exact execLaneChannelSilence_completes
  | sSilence => exact execSSilence_completes
  | fioWdog => exact execFioWdog_completes
  | fdDown => exact execFdDown_completes
  | fieldChan => exact execFieldChan_completes
  | fdShutdown => exact execFdShutdown_completes
  | supplyMeasure => exact execSupplyMeasure_completes
  | supplyRecovery => exact execSupplyRecovery_completes
  | diSample => exact execDiSample_completes
  | diOpen => exact execDiOpen_completes
  | supOvl => exact execSupOvl_completes
  | disupRetry => exact execDisupRetry_completes
  | diOt => exact execDiOt_completes
  | doOverload => exact execDoOverload_completes
  | doOt => exact execDoOt_completes
  | doBackfeed => exact execDoBackfeed_completes
  | doOpen => exact execDoOpen_completes
  | moderationTimer => exact execModerationTimer_completes
  | eicTimer => exact execEicTimer_completes
  | wake => exact execWake_completes
  | d0Return => exact execD0Return_completes
  | triggerUnitFire => exact execTriggerUnitFire_completes
  | recPreDone => exact execRecPreDone_completes
  | recPostDone => exact execRecPostDone_completes
  | recDrained => exact execRecDrained_completes
  | waitSpace => exact execWaitSpace_completes
  | rakeFramesDone => exact execRakeFramesDone_completes
  | injectionEnd => exact execInjectionEnd_completes
  | journalCommit => exact execJournalCommit_completes
  | pllLoss => exact execPllLoss_completes
  | pllRelock => exact execPllRelock_completes
  | relockFail => exact execRelockFail_completes
  | refLoss => exact execRefLoss_completes
  | refReturn => exact execRefReturn_completes
  | ndivApply => exact execNdivApply_completes
  | fllUpdate => exact execFllUpdate_completes
  | fllLockTimeout => exact execFllLockTimeout_completes
  | timeCmp => exact execTimeCmp_completes
  | ptpEventStamp => exact execPtpEventStamp_completes
  | announce => exact execAnnounce_completes
  | groupWaitExpiry => exact execGroupWaitExpiry_completes
  | grpPing => exact execGrpPing_completes
  | grpEcho => exact execGrpEcho_completes
  | grpDelays => exact execGrpDelays_completes
  | grpTally => exact execGrpTally_completes
  | grpBoundary low => exact execGrpBoundary_completes (_tallyLow := low)
  | grpStart => exact execGrpStart_completes
  | grpTrig => exact execGrpTrig_completes
  | grpClkAbsent => exact execGrpClkAbsent_completes
  | boundaryMissing => exact execBoundaryMissing_completes
  | memberLost => exact execMemberLost_completes
  | packageCheckDone => exact execPackageCheckDone_completes
  | signingDone => exact execSigningDone_completes
  | debugTokenExpiry => exact execDebugTokenExpiry_completes
  | netDescriptor => exact execNetDescriptor_completes
  | netDataFragment p xid offset len last => exact execNetDataFragment_completes (_last := last)
  | netDataTimeout => exact execNetDataTimeout_completes
  | por => exact execPor_completes
  | bootAttemptTimeout => exact execBootAttemptTimeout_completes
  | laneImagesLoaded => exact execLaneImagesLoaded_completes
  | laneSelfTestDone => exact execLaneSelfTestDone_completes
  | startUpDone => exact execStartUpDone_completes
  | pgoodFall => exact execPgoodFall_completes
  | vholdLow => exact execVholdLow_completes
  | bodWarn => exact execBodWarn_completes
  | bod => exact execBod_completes
  | bor => exact execBor_completes
  | pinReset => exact execPinReset_completes
  | rstNRelease => exact execRstNRelease_completes
  | stuckReset => exact execStuckReset_completes
  | rstNRearm => exact execRstNRearm_completes
  | perst => exact execPerst_completes
  | flr => exact execFlr_completes
  | powerStateExitDone => exact execPowerStateExitDone_completes
  | shelvedExit => exact execShelvedExit_completes
  | encEdge => exact execEncEdge_completes
  | sdclkEdge => exact execSdclkEdge_completes
  | choppingPeriod => exact execChoppingPeriod_completes
  | bodRecovery => exact execBodRecovery_completes
  | borRelease => exact execBorRelease_completes
  | vbatLow => exact execVbatLow_completes
  | d3hotEntry => exact execD3hotEntry_completes
  | pcieLinkChange => exact execPcieLinkChange_completes
  | diCooled => exact execDiCooled_completes
  | lockoutAckNEdge => exact execLockoutAckNEdge_completes

/-- Settles O57: what each command's lemma says of its outcome, over all commands. -/
theorem everyCommandCompletesAndLeavesTheQueue : Obligations.EveryCommandCompletesAndLeavesTheQueue := by
  intro c s
  obtain ⟨t, ht, hp, -⟩ := exec_completes c s
  exact ⟨t, ht, hp⟩

/-- Settles O58: by the two cases of the queue; a tick keeps the key, and no command brings an erased one back. -/
theorem anErasedIdentityKeyStaysErased : Obligations.AnErasedIdentityKeyStaysErased := by
  intro s t hs hst
  unfold step at hst
  split at hst
  · cases hst
    exact (tick_keeps s).2.trans hs
  · rename_i c rest _
    obtain ⟨u, hu, -, hk⟩ := exec_completes c { s with pending := rest }
    cases hu.symm.trans hst
    exact hk hs

end Sys2Proof.Machine
end

section
/-! PROOFS. The canonical form of register files and memories, kept by every operation and every command: obligation O60. -/
namespace Sys2Proof.Machine

/-! ### The canonical form as a property of the parts -/

/-- An addressed memory in canonical form. -/
def Memory.Canon (m : WordMem) : Prop := Memory.wf m = true

/-- A register file in canonical form. -/
def RegFile.Canon (f : RegFile) : Prop := f.wf = true

/-- The filter taps are canonical. -/
structure Meas.Canon (m : Meas) : Prop where
  fir : Memory.Canon m.fir

/-- The addressed memories of the Control Law Engine are canonical. -/
structure Cle.Canon (c : Cle) : Prop where
  data : Memory.Canon c.data
  descs : Memory.Canon c.descs
  binds : Memory.Canon c.binds
  nodes : Memory.Canon c.nodes
  probes : Memory.Canon c.probes

/-- The modulator's registers are canonical. -/
structure Pwm.Canon (p : Pwm) : Prop where
  shadow : Memory.Canon p.shadow
  active : Memory.Canon p.active
  latched : Memory.Canon p.latched
  trigShadow : Memory.Canon p.trigShadow
  trigActive : Memory.Canon p.trigActive
  trigLatched : Memory.Canon p.trigLatched

/-- The register file and the memories of a lane are canonical. -/
structure Lane.Canon (l : Lane) : Prop where
  regs : RegFile.Canon l.regs
  meas : l.meas.Canon
  cle : l.cle.Canon
  pwm : l.pwm.Canon

/-- The setpoint words are canonical. -/
structure ModState.Canon (m : ModState) : Prop where
  setpoints : Memory.Canon m.setpoints

/-- Every register file and every addressed memory of a state is canonical. -/
structure State.Canon (s : State) : Prop where
  regs : RegFile.Canon s.regs
  mirror : RegFile.Canon s.mirror
  mod : s.mod.Canon
  laneA : s.laneA.Canon
  laneB : s.laneB.Canon

theorem Lane.canon_iff (l : Lane) : l.Canon ↔ l.wf = true := by
  simp only [Lane.wf, Bool.and_eq_true]
  constructor
  · rintro ⟨r, ⟨f⟩, ⟨d, e, b, n, p⟩, ⟨s, a, t, u, v, w⟩⟩
    exact ⟨⟨⟨⟨⟨⟨⟨⟨⟨⟨⟨⟨r, f⟩, d⟩, e⟩, b⟩, n⟩, p⟩, s⟩, a⟩, t⟩, u⟩, v⟩, w⟩
  · rintro ⟨⟨⟨⟨⟨⟨⟨⟨⟨⟨⟨⟨r, f⟩, d⟩, e⟩, b⟩, n⟩, p⟩, s⟩, a⟩, t⟩, u⟩, v⟩, w⟩
    exact ⟨r, ⟨f⟩, ⟨d, e, b, n, p⟩, ⟨s, a, t, u, v, w⟩⟩

/-- The parts are canonical exactly where the model's check of the state passes. -/
theorem State.canon_iff (s : State) : s.Canon ↔ s.wf = true := by
  simp only [State.wf, Bool.and_eq_true, ← Lane.canon_iff]
  constructor
  · rintro ⟨r, m, ⟨p⟩, a, b⟩
    exact ⟨⟨⟨⟨r, m⟩, p⟩, a⟩, b⟩
  · rintro ⟨⟨⟨⟨r, m⟩, p⟩, a⟩, b⟩
    exact ⟨r, m, ⟨p⟩, a, b⟩

section
variable {s t : State} {l m : Lane} {i : LaneId} {c : Prop} [Decidable c] {a : Fld} {v x : Nat} {w : Word}

/-! ### Memories and register files -/

theorem Memory.Canon.nil : Memory.Canon [] := rfl
theorem Memory.Canon.memWr {m : WordMem} (h : Memory.Canon m) : Memory.Canon (memWr m x w) := memWr_wf x w h
theorem Memory.Canon.ite {m n : WordMem} (h : Memory.Canon m) (g : Memory.Canon n) : Memory.Canon (if c then m else n) := by
  split <;> assumption
theorem Memory.Canon.filter {m : WordMem} {p : Nat × Word → Bool} (h : Memory.Canon m) : Memory.Canon (m.filter p) := by
  simp only [Memory.Canon, Memory.wf, Bool.and_eq_true, risingKeys_iff, List.all_eq_true] at *
  exact ⟨h.1.filter p, fun e he => h.2 e (List.mem_of_mem_filter he)⟩
theorem RegFile.Canon.nil : RegFile.Canon [] := rfl
theorem RegFile.Canon.ite {f g : RegFile} (hf : f.Canon) (hg : g.Canon) : RegFile.Canon (if c then f else g) := by
  split <;> assumption
theorem RegFile.Canon.set {f : RegFile} (h : f.Canon) : (f.set x w).Canon := RegFile.set_wf x w h
theorem RegFile.Canon.wr {f : RegFile} (h : f.Canon) : (f.wr a v).Canon := RegFile.wr_wf a v h

/-- What every step of a run keeps, the run keeps. -/
theorem foldl_inv {σ α : Type} {p : σ → Prop} {g : σ → α → σ} (h : ∀ s a, p s → p (g s a)) (x : List α) {s : σ} (hs : p s) :
    p (x.foldl g s) := by
  induction x generalizing s with
  | nil => exact hs
  | cons a x ih => exact ih (h s a hs)

theorem Memory.Canon.foldl {α : Type} {g : WordMem → α → WordMem} {x : List α} {m : WordMem} (h : Memory.Canon m)
    (hg : ∀ m a, Memory.Canon m → Memory.Canon (g m a)) : Memory.Canon (x.foldl g m) := foldl_inv hg x h
theorem RegFile.Canon.foldl {α : Type} {g : RegFile → α → RegFile} {x : List α} {m : RegFile} (h : m.Canon)
    (hg : ∀ m a, RegFile.Canon m → (g m a).Canon) : RegFile.Canon (x.foldl g m) := foldl_inv hg x h

theorem Memory.Canon.takeKeys {src dst : WordMem} {keys : List Nat} (h : Memory.Canon dst) :
    Memory.Canon (takeKeys src keys dst) := h.foldl fun _ _ g => g.memWr

theorem RegFile.canon_iff (f : RegFile) :
    RegFile.Canon f ↔ f.Pairwise (fun x y => x.1 < y.1) ∧ ∀ e ∈ f, e.2 ≠ resetWord e.1 := by
  simp only [RegFile.Canon, RegFile.wf, Bool.and_eq_true, risingKeys_iff, List.all_eq_true, bne_iff_ne]

theorem RegFile.Canon.filter {f : RegFile} {p : Nat × Word → Bool} (h : f.Canon) : RegFile.Canon (f.filter p) := by
  rw [RegFile.canon_iff] at *
  exact ⟨h.1.filter p, fun e he => h.2 e (List.mem_of_mem_filter he)⟩

theorem RegFile.Canon.memPut {f : RegFile} (h : f.Canon) (hw : w ≠ resetWord x) : RegFile.Canon (memPut f x w) := by
  rw [RegFile.canon_iff] at *
  refine ⟨memPut_rising h.1, fun e he => ?_⟩
  rcases mem_memPut he with rfl | he
  · exact hw
  · exact h.2 e he

/-- Entries put in one after the other, none of them a reset word. -/
theorem RegFile.Canon.foldlPut {f : RegFile} {es : List (Nat × Word)} (h : f.Canon) (he : ∀ e ∈ es, e.2 ≠ resetWord e.1) :
    RegFile.Canon (es.foldl (fun a e => Machine.memPut a e.1 e.2) f) := by
  induction es generalizing f with
  | nil => exact h
  | cons e es ih => exact ih (h.memPut (he e (by simp))) fun d hd => he d (by simp [hd])

theorem RegFile.Canon.take {f src : RegFile} {p : Nat → Bool} (h : f.Canon) (g : src.Canon) : (f.take src p).Canon :=
  h.filter.foldlPut fun e he => ((RegFile.canon_iff src).1 g).2 e (List.mem_of_mem_filter he)

theorem RegFile.Canon.keep {f : RegFile} {mask : Nat → Word} (h : f.Canon) : (f.keep mask).Canon := by
  rw [RegFile.canon_iff] at *
  have key : ∀ {p e : Nat × Word}, (let v := (p.2 &&& mask p.1) ||| (resetWord p.1 &&& ~~~(mask p.1))
      if v = resetWord p.1 then none else some (p.1, v)) = some e → e.1 = p.1 ∧ e.2 ≠ resetWord e.1 := by
    intro p e he
    dsimp only at he
    split at he
    · cases he
    · rename_i hv
      obtain rfl := Option.some.inj he
      exact ⟨rfl, hv⟩
  refine ⟨List.Pairwise.filterMap _ (fun a b hab c hc d hd => ?_) h.1, fun e he => ?_⟩
  · rw [(key hc).1, (key hd).1]
    exact hab
  · obtain ⟨p, -, hp⟩ := List.mem_filterMap.1 he
    exact (key hp).2

theorem RegFile.Canon.mirrorOf {f : RegFile} (h : f.Canon) : RegFile.Canon (mirrorOf f) := h.filter

/-! ### Parts of the engines -/

theorem Cle.Canon.foldl {α : Type} {g : Cle → α → Cle} {x : List α} {m : Cle} (h : m.Canon)
    (hg : ∀ m a, m.Canon → (g m a).Canon) : (x.foldl g m).Canon := foldl_inv hg x h
theorem Cle.Canon.ite {m n : Cle} (h : m.Canon) (g : n.Canon) : (if c then m else n).Canon := by split <;> assumption
theorem Pwm.Canon.ite {m n : Pwm} (h : m.Canon) (g : n.Canon) : (if c then m else n).Canon := by split <;> assumption
theorem ModState.Canon.ite {m n : ModState} (h : m.Canon) (g : n.Canon) : (if c then m else n).Canon := by
  split <;> assumption

/-! ### After reset -/

theorem Meas.Canon.reset : Meas.reset.Canon := ⟨.nil⟩
theorem Cle.Canon.reset : Cle.reset.Canon := ⟨.nil, .nil, .nil, .nil, .nil⟩
theorem Pwm.Canon.reset : Pwm.reset.Canon := ⟨.nil, .nil, .nil, .nil, .nil, .nil⟩
theorem Lane.Canon.reset : Lane.reset.Canon := ⟨.nil, .reset, .reset, .reset⟩

/-! ### Parts of a lane -/

theorem Lane.Canon.congr (h : l.Canon) (e : (m.regs, m.meas, m.cle, m.pwm) = (l.regs, l.meas, l.cle, l.pwm)) : m.Canon := by
  simp only [Prod.mk.injEq] at e
  obtain ⟨hr, hm, hc, hp⟩ := e
  exact ⟨hr ▸ h.regs, hm ▸ h.meas, hc ▸ h.cle, hp ▸ h.pwm⟩
theorem Lane.Canon.setRegs {f : RegFile} (h : l.Canon) (g : RegFile.Canon l.regs → RegFile.Canon f) :
    Lane.Canon { l with regs := f } := ⟨g h.regs, h.meas, h.cle, h.pwm⟩
theorem Lane.Canon.setCle {y : Cle} (h : l.Canon) (g : l.cle.Canon → y.Canon) : Lane.Canon { l with cle := y } :=
  ⟨h.regs, h.meas, g h.cle, h.pwm⟩
theorem Lane.Canon.setPwm {y : Pwm} (h : l.Canon) (g : l.pwm.Canon → y.Canon) : Lane.Canon { l with pwm := y } :=
  ⟨h.regs, h.meas, h.cle, g h.pwm⟩
theorem Lane.Canon.ite (h : l.Canon) (g : m.Canon) : (if c then l else m).Canon := by split <;> assumption
theorem Lane.Canon.foldl {α : Type} {g : Lane → α → Lane} {x : List α} (h : l.Canon)
    (hg : ∀ l a, l.Canon → (g l a).Canon) : (x.foldl g l).Canon := foldl_inv hg x h
theorem Lane.Canon.foldlFst {α β : Type} {g : Lane × β → α → Lane × β} {x : List α} {b : β} (h : l.Canon)
    (hg : ∀ (p : Lane × β) a, p.1.Canon → (g p a).1.Canon) : (x.foldl g (l, b)).1.Canon :=
  foldl_inv (p := fun p : Lane × β => p.1.Canon) hg x h
theorem Lane.Canon.iteFst {β : Type} {x y : Lane × β} (h : x.1.Canon) (g : y.1.Canon) : (if c then x else y).1.Canon := by
  split <;> assumption
theorem Lane.Canon.wr (h : l.Canon) : (l.wr a v).Canon := ⟨h.regs.wr, h.meas, h.cle, h.pwm⟩
theorem Lane.Canon.bump (h : l.Canon) : (l.bump a).Canon := h.wr
theorem Lane.Canon.bumpSat (h : l.Canon) : (l.bumpSat a).Canon := h.wr
theorem Lane.Canon.modMeas {f : Meas → Meas} (h : l.Canon) (hf : ∀ m, m.Canon → (f m).Canon) : (l.modMeas f).Canon :=
  ⟨h.regs, hf _ h.meas, h.cle, h.pwm⟩
theorem Lane.Canon.modCle {f : Cle → Cle} (h : l.Canon) (hf : ∀ m, m.Canon → (f m).Canon) : (l.modCle f).Canon :=
  ⟨h.regs, h.meas, hf _ h.cle, h.pwm⟩
theorem Lane.Canon.modPwm {f : Pwm → Pwm} (h : l.Canon) (hf : ∀ m, m.Canon → (f m).Canon) : (l.modPwm f).Canon :=
  ⟨h.regs, h.meas, h.cle, hf _ h.pwm⟩
theorem Lane.Canon.modSmon {f : Smon → Smon} (h : l.Canon) : (l.modSmon f).Canon := ⟨h.regs, h.meas, h.cle, h.pwm⟩
theorem Lane.Canon.modRec {f : Rec → Rec} (h : l.Canon) : (l.modRec f).Canon := ⟨h.regs, h.meas, h.cle, h.pwm⟩
theorem Lane.Canon.modUnit {u : Nat} {f : TrajUnit → TrajUnit} (h : l.Canon) : (l.modUnit u f).Canon :=
  ⟨h.regs, h.meas, h.cle, h.pwm⟩
theorem Lane.Canon.modAsc {f : Asc → Asc} (h : l.Canon) : (l.modAsc f).Canon := ⟨h.regs, h.meas, h.cle, h.pwm⟩

/-! ### Parts of the state -/

theorem State.Canon.congr (h : s.Canon)
    (e : (t.regs, t.mirror, t.mod, t.laneA, t.laneB) = (s.regs, s.mirror, s.mod, s.laneA, s.laneB)) : t.Canon := by
  simp only [Prod.mk.injEq] at e
  obtain ⟨hr, hm, hd, ha, hb⟩ := e
  exact ⟨hr ▸ h.regs, hm ▸ h.mirror, hd ▸ h.mod, ha ▸ h.laneA, hb ▸ h.laneB⟩
theorem State.Canon.setRegs {f : RegFile} (h : s.Canon) (g : RegFile.Canon s.regs → RegFile.Canon f) :
    State.Canon { s with regs := f } := ⟨g h.regs, h.mirror, h.mod, h.laneA, h.laneB⟩
theorem State.Canon.setReadData {ws : List Word} (h : s.Canon) : State.Canon { s with readData := ws } :=
  ⟨h.1, h.2, h.3, h.4, h.5⟩
theorem State.Canon.ite (h : s.Canon) (g : t.Canon) : (if c then s else t).Canon := by split <;> assumption
theorem State.Canon.foldl {α : Type} {g : State → α → State} {x : List α} (h : s.Canon)
    (hg : ∀ s a, s.Canon → (g s a).Canon) : (x.foldl g s).Canon := foldl_inv hg x h
theorem State.Canon.iteFst {β : Type} {x y : State × β} (h : x.1.Canon) (g : y.1.Canon) : (if c then x else y).1.Canon := by
  split <;> assumption
theorem State.Canon.foldlFst {α β : Type} {g : State × β → α → State × β} {x : List α} {b : β} (h : s.Canon)
    (hg : ∀ (p : State × β) a, p.1.Canon → (g p a).1.Canon) : (x.foldl g (s, b)).1.Canon :=
  foldl_inv (p := fun p : State × β => p.1.Canon) hg x h
theorem State.Canon.foldlSnd {α β : Type} {g : β × State → α → β × State} {x : List α} {b : β} (h : s.Canon)
    (hg : ∀ (p : β × State) a, p.2.Canon → (g p a).2.Canon) : (x.foldl g (b, s)).2.Canon :=
  foldl_inv (p := fun p : β × State => p.2.Canon) hg x h
theorem State.Canon.lane (h : s.Canon) : (s.lane i).Canon := by
  cases i
  · exact h.laneA
  · exact h.laneB
theorem State.Canon.setLane (h : s.Canon) (g : l.Canon) : (s.setLane i l).Canon := by
  cases i
  · exact ⟨h.regs, h.mirror, h.mod, g, h.laneB⟩
  · exact ⟨h.regs, h.mirror, h.mod, h.laneA, g⟩
theorem State.Canon.modLane {f : Lane → Lane} (h : s.Canon) (hf : ∀ l, l.Canon → (f l).Canon) : (s.modLane i f).Canon :=
  h.setLane (hf _ h.lane)
theorem State.Canon.bothLanes {f : Lane → Lane} (h : s.Canon) (hf : ∀ l, l.Canon → (f l).Canon) : (s.bothLanes f).Canon :=
  ⟨h.regs, h.mirror, h.mod, hf _ h.laneA, hf _ h.laneB⟩
theorem State.Canon.onLanes {ln : LaneSel} {f : State → LaneId → State} (h : s.Canon)
    (hf : ∀ s i, s.Canon → (f s i).Canon) : (s.onLanes ln f).Canon := by
  cases ln
  · exact hf _ _ h
  · exact hf _ _ h
  · exact hf _ _ (hf _ _ h)
theorem State.Canon.wr (h : s.Canon) : (s.wr a v).Canon := ⟨h.regs.wr, h.mirror, h.mod, h.laneA, h.laneB⟩
theorem State.Canon.bump (h : s.Canon) : (s.bump a).Canon := h.wr
theorem State.Canon.bumpSat (h : s.Canon) : (s.bumpSat a).Canon := h.wr
theorem State.Canon.modMod {f : ModState → ModState} (h : s.Canon) (hf : ∀ m, m.Canon → (f m).Canon) : (s.modMod f).Canon :=
  ⟨h.regs, h.mirror, hf _ h.mod, h.laneA, h.laneB⟩
theorem State.Canon.modHost {f : HostIf → HostIf} (h : s.Canon) : (s.modHost f).Canon := ⟨h.1, h.2, h.3, h.4, h.5⟩
theorem State.Canon.modEic {f : Eic → Eic} (h : s.Canon) : (s.modEic f).Canon := ⟨h.1, h.2, h.3, h.4, h.5⟩
theorem State.Canon.modJournal {f : Journal → Journal} (h : s.Canon) : (s.modJournal f).Canon := ⟨h.1, h.2, h.3, h.4, h.5⟩
theorem State.Canon.modFaults {f : Faults → Faults} (h : s.Canon) : (s.modFaults f).Canon := ⟨h.1, h.2, h.3, h.4, h.5⟩
theorem State.Canon.modDuplex {f : Duplex → Duplex} (h : s.Canon) : (s.modDuplex f).Canon := ⟨h.1, h.2, h.3, h.4, h.5⟩
theorem State.Canon.modGl {f : Gl → Gl} (h : s.Canon) : (s.modGl f).Canon := ⟨h.1, h.2, h.3, h.4, h.5⟩
theorem State.Canon.modField {f : FieldDie → FieldDie} (h : s.Canon) : (s.modField f).Canon := ⟨h.1, h.2, h.3, h.4, h.5⟩
theorem State.Canon.modSafe {f : Safe → Safe} (h : s.Canon) : (s.modSafe f).Canon := ⟨h.1, h.2, h.3, h.4, h.5⟩
theorem State.Canon.modClock {f : Clock → Clock} (h : s.Canon) : (s.modClock f).Canon := ⟨h.1, h.2, h.3, h.4, h.5⟩
theorem State.Canon.modGrp {f : Grp → Grp} (h : s.Canon) : (s.modGrp f).Canon := ⟨h.1, h.2, h.3, h.4, h.5⟩
theorem State.Canon.modSec {f : Sec → Sec} (h : s.Canon) : (s.modSec f).Canon := ⟨h.1, h.2, h.3, h.4, h.5⟩
theorem State.Canon.modPower {f : Power → Power} (h : s.Canon) : (s.modPower f).Canon := ⟨h.1, h.2, h.3, h.4, h.5⟩

end

/-! ### Outcomes -/

/-- The outcome is a next state, and a canonical one. -/
def Outcome.Canon (o : Host.Outcome State Fault Refusal) : Prop := ∃ t, o = .next t ∧ t.Canon

theorem Outcome.Canon.next {t : State} (h : t.Canon) : Outcome.Canon (.next t) := ⟨t, rfl, h⟩
theorem Outcome.Canon.ite {c : Prop} [Decidable c] {o p : Host.Outcome State Fault Refusal} (h : Outcome.Canon o)
    (g : Outcome.Canon p) : Outcome.Canon (if c then o else p) := by split <;> assumption

/-- The outcome of an access inside another is canonical where the access is. -/
theorem State.Canon.orStay {s : State} {o : Host.Outcome State Fault Refusal} (ho : Outcome.Canon o) :
    (orStay s o).Canon := by
  obtain ⟨t, rfl, h⟩ := ho
  exact h

/-! ### Operands, flags and the passing of ticks -/

theorem State.Canon.fresh {s : State} (h : s.Canon) : s.fresh.2.Canon := by
  unfold State.fresh
  exact h.congr rfl

theorem State.Canon.setVec {s : State} {v : Nat} {x : VecSt} (h : s.Canon) : (s.setVec v x).Canon := by
  unfold State.setVec
  exact h.modEic

theorem State.Canon.sendVec {s : State} {v : Nat} (h : s.Canon) : (s.sendVec v).Canon := by
  unfold State.sendVec
  exact .ite (.ite h.modEic h) (.ite h.setVec.modEic h.setVec.wr.modEic)

theorem State.Canon.countVec {s : State} {v n : Nat} (h : s.Canon) : (s.countVec v n).Canon := by
  unfold State.countVec
  exact .ite h (.ite h.modEic.setVec.sendVec h.modEic.setVec)

theorem State.Canon.vecEvent {s : State} {src : Nat} (h : s.Canon) : (s.vecEvent src).Canon := by
  unfold State.vecEvent
  exact .ite h.countVec h

theorem Lane.Canon.countPair {l : Lane} {now p src : Nat} (h : l.Canon) : (l.countPair now p src).Canon := by
  unfold Lane.countPair
  exact .ite h (.ite (.congr (h.congr rfl) rfl) (.congr (h.congr rfl) rfl))

theorem Lane.Canon.occur {l : Lane} {now tgt src : Nat} (h : l.Canon) : (l.occur now tgt src).Canon := by
  unfold Lane.occur
  exact .ite (.ite (.countPair (.ite h (h.congr rfl))) (.ite h (h.congr rfl))) h

theorem State.Canon.occurHost {s : State} {src data : Nat} (h : s.Canon) : (s.occurHost src data).Canon := by
  unfold State.occurHost
  exact .vecEvent (.ite h.bump.wr h.bump.wr.wr)

theorem State.Canon.raise {s : State} {src data : Nat} (h : s.Canon) : (s.raise src data).Canon := by
  unfold State.raise
  exact (h.bothLanes (fun _ g => g.occur)).occurHost

theorem State.Canon.raiseFrom {s : State} {i : LaneId} {src data : Nat} (h : s.Canon) :
    (s.raiseFrom i src data).Canon := by
  unfold State.raiseFrom
  exact .ite ((h.modLane (fun _ g => g.occur)).modDuplex) (.ite ((h.modLane (fun _ g => g.occur)).occurHost) (h.modLane
      (fun _ g => g.occur)))

theorem State.Canon.mmioRecord {s : State} {off status : Nat} (h : s.Canon) : (s.mmioRecord off status).Canon := by
  unfold State.mmioRecord
  exact h.wr.wr

theorem State.Canon.mmioRefuse {s : State} {off status : Nat} (h : s.Canon) : (s.mmioRefuse off status).Canon := by
  unfold State.mmioRefuse
  exact h.mmioRecord.raise

theorem State.Canon.renewNonce {s : State} (h : s.Canon) : s.renewNonce.Canon := by
  unfold State.renewNonce
  exact h.fresh.fresh.setRegs (fun g => g.set.set)

theorem State.Canon.endToken {s : State} (h : s.Canon) : s.endToken.Canon := by
  unfold State.endToken
  exact h.modSec.wr.wr.wr

theorem State.Canon.resetToken {s : State} (h : s.Canon) : s.resetToken.Canon := by
  unfold State.resetToken
  exact .ite h.renewNonce.endToken h.renewNonce

theorem State.Canon.returned {s : State} {ws : List Word} (h : s.Canon) : (s.returned ws).Canon := by
  unfold State.returned
  exact h.setReadData

theorem State.Canon.afterBoot {s t : State} (h : s.Canon) (ht : t.Canon) : (s.afterBoot t).Canon := by
  unfold State.afterBoot
  exact .ite h ht

theorem State.Canon.readAfterBoot {s t : State} (h : s.Canon) (ht : t.Canon) : (s.readAfterBoot t).Canon := by
  unfold State.readAfterBoot
  exact .ite h.returned ht

theorem State.Canon.heardWrite {s : State} {who : Writer} {off : Nat} {t : State} (h : s.Canon) (ht : t.Canon) :
    (s.heardWrite who off t).Canon := by
  unfold State.heardWrite
  refine h.afterBoot ?_
  split
  · exact .ite h (.ite h.mmioRefuse ht)
  · exact .ite h.mmioRefuse ht

theorem State.Canon.raiseOpen {s : State} {src : Nat} (h : s.Canon) : (s.raiseOpen src).Canon := by
  unfold State.raiseOpen
  exact h.fresh.raise

theorem State.Canon.raiseFromOpen {s : State} {i : LaneId} {src : Nat} (h : s.Canon) : (s.raiseFromOpen i src).Canon := by
  unfold State.raiseFromOpen
  exact h.fresh.raiseFrom

theorem State.Canon.levelOn {s : State} {src data : Nat} (h : s.Canon) : (s.levelOn src data).Canon := by
  unfold State.levelOn
  exact .ite h h.wr.wr.raise

theorem State.Canon.levelOff {s : State} {src : Nat} (h : s.Canon) : (s.levelOff src).Canon := by
  unfold State.levelOff
  exact .wr (.wr (h.bothLanes (fun _ g => g.congr rfl)))

theorem State.Canon.journalAdd {s : State} {source : Nat} {code : Nat} {flags : Nat} {data : List Byte} (h : s.Canon) :
    (s.journalAdd source code flags data).Canon := by
  unfold State.journalAdd
  exact .wr (.modJournal (.ite h.bumpSat h))

theorem State.Canon.setThread {s : State} {t code : Nat} (h : s.Canon) : (s.setThread t code).Canon := by
  unfold State.setThread
  exact .ite (.wr (h.modMod (fun _ g => ⟨g.setpoints⟩))) h

theorem State.Canon.setThreads {s : State} {ts : List Nat} {code : Nat} (h : s.Canon) : (s.setThreads ts code).Canon := by
  unfold State.setThreads
  exact h.foldl (fun _ _ g => g.setThread)

theorem State.Canon.safeEvent {s : State} {old : Nat} (h : s.Canon) : (s.safeEvent old).Canon := by
  unfold State.safeEvent
  exact .ite h h.raise

theorem State.Canon.setSafe {s : State} {x : Fld} {v : Nat} (h : s.Canon) : (s.setSafe x v).Canon := by
  unfold State.setSafe
  exact (h.bothLanes (fun _ g => g.wr)).safeEvent

theorem State.Canon.updDegraded {s : State} (h : s.Canon) : s.updDegraded.Canon := by
  unfold State.updDegraded
  exact .ite h (.setSafe (.ite h.modSafe h))

theorem State.Canon.noteModule {s : State} {old new cause : Nat} (h : s.Canon) : (s.noteModule old new cause).Canon := by
  unfold State.noteModule
  exact h.wr.wr.raise.journalAdd.modMod (fun _ g => ⟨g.setpoints⟩)

theorem State.Canon.raiseModule {s : State} {seq : Word} {new cause : Nat} (h : s.Canon) :
    (s.raiseModule seq new cause).Canon := by
  unfold State.raiseModule
  exact h.wr.wr.modJournal

theorem State.Canon.updModule {s : State} {cause : Nat} (h : s.Canon) : (s.updModule cause).Canon := by
  unfold State.updModule
  refine .ite h.updDegraded ?_
  split
  · exact .ite h.updDegraded.raiseModule h.updDegraded.noteModule
  · exact h.updDegraded.noteModule

theorem State.Canon.glSend {s : State} {n type : Nat} {payload : List Byte} (h : s.Canon) :
    (s.glSend n type payload).Canon := by
  unfold State.glSend
  exact h.modGl

theorem State.Canon.sendBlock {s : State} {leg : Nat} {offs : List (Nat × Int)} (h : s.Canon) :
    (s.sendBlock leg offs).Canon := by
  unfold State.sendBlock
  exact .ite h.modGl (.ite (.ite (.ite h h.glSend) (.glSend (.ite h h.glSend))) h)

theorem State.Canon.blockLeg {s : State} {leg : Nat} (h : s.Canon) : (s.blockLeg leg).Canon := by
  unfold State.blockLeg
  exact .ite h h.modFaults.modDuplex.sendBlock

theorem State.Canon.blockLegs {s : State} {legs : List Nat} (h : s.Canon) : (s.blockLegs legs).Canon := by
  unfold State.blockLegs
  exact h.foldl (fun _ _ g => g.blockLeg)

theorem State.Canon.blockThread {s : State} {t : Nat} (h : s.Canon) : (s.blockThread t).Canon := by
  unfold State.blockThread
  exact h.blockLegs

theorem State.Canon.blockAll {s : State} (h : s.Canon) : s.blockAll.Canon := by
  unfold State.blockAll
  exact h.foldl (fun _ _ g => g.blockThread)

theorem State.Canon.modAux {s : State} {n : Nat} {f : Aux → Aux} (h : s.Canon) : (s.modAux n f).Canon := by
  unfold State.modAux
  exact h.congr rfl

theorem State.Canon.updSo {s : State} (h : s.Canon) : s.updSo.Canon := by
  unfold State.updSo
  refine h.foldl (fun _ _ g => ?_)
  split
  · exact g.bothLanes (fun _ g1 => g1.wr)
  · exact g

theorem State.Canon.sosOff {s : State} {keep : Nat → Bool} (h : s.Canon) : (s.sosOff keep).Canon := by
  unfold State.sosOff
  exact h.modField.updSo

theorem State.Canon.stoOn {s : State} (h : s.Canon) : s.stoOn.Canon := by
  unfold State.stoOn
  exact h.modFaults.setSafe.sosOff

theorem State.Canon.updSto {s : State} (h : s.Canon) : s.updSto.Canon := by
  unfold State.updSto
  exact .ite h (h.modFaults.setSafe.bothLanes (fun _ g => g.wr))

theorem State.Canon.noteFirst {s : State} {k : Nat} (h : s.Canon) : (s.noteFirst k).Canon := by
  unfold State.noteFirst
  exact h.modFaults

theorem State.Canon.firstCause {s : State} {code : Nat} {scope : Scope} {leg : Option Nat} (h : s.Canon) :
    (s.firstCause code scope leg).Canon := by
  unfold State.firstCause
  split
  · exact .ite h.wr.wr.wr.noteFirst h
  · exact .ite h.wr.wr.noteFirst h
  · exact h

theorem State.Canon.updCauseBits {s : State} (h : s.Canon) : s.updCauseBits.Canon := by
  unfold State.updCauseBits
  exact (h.wr.wr.foldl (fun _ _ g => g.wr.wr)).wr

theorem State.Canon.endHoldByFault {s : State} (h : s.Canon) : s.endHoldByFault.Canon := by
  unfold State.endHoldByFault
  exact .ite h.wr.modDuplex h

theorem State.Canon.applyB {s : State} {scope : Scope} (h : s.Canon) : (s.applyB scope).Canon := by
  unfold State.applyB
  split
  · exact h.blockThread.setThreads
  · exact h.blockAll.setThreads
  · exact h.modAux
  · exact h

theorem State.Canon.applyL {s : State} {code : Nat} (h : s.Canon) : (s.applyL code).Canon := by
  unfold State.applyL
  refine .ite ?_ ?_
  · exact .ite (.wr (.sosOff (h.blockAll.setThreads.congr rfl))) (.sosOff (h.blockAll.setThreads.congr rfl))
  · exact .noteFirst (.wr (.wr (.modFaults (.sosOff (h.blockAll.setThreads.congr rfl)))))

theorem State.Canon.startExit {s : State} {slot : Option Nat} (h : s.Canon) : (s.startExit slot).Canon := by
  unfold State.startExit
  exact .ite h (.modPower (.wr (.ite (h.modMod (fun _ g => ⟨g.setpoints⟩)) h)))

theorem State.Canon.cause {s : State} {code cls : Nat} {scope : Scope} {key : Nat} {leg : Option Nat} {active : Bool} (h :
    s.Canon) :
    (s.cause code cls scope key leg active).Canon := by
  unfold State.cause
  refine .ite ?_ h.journalAdd.raise
  refine .startExit ?_
  refine .updModule ?_
  refine .endHoldByFault ?_
  refine .updCauseBits ?_
  refine .ite ?_ (.ite h.journalAdd.raise.modFaults.firstCause.applyB h.journalAdd.raise.modFaults.applyL)
  refine .stoOn ?_
  refine .ite ?_ (.ite h.journalAdd.raise.modFaults.firstCause.applyB h.journalAdd.raise.modFaults.applyL)
  exact .bothLanes (.ite h.journalAdd.raise.modFaults.firstCause.applyB h.journalAdd.raise.modFaults.applyL) (fun _ g =>
      g.wr)

theorem State.Canon.causeEnd {s : State} {code key : Nat} (h : s.Canon) : (s.causeEnd code key).Canon := by
  unfold State.causeEnd
  exact h.modFaults.updCauseBits

theorem State.Canon.writeSetpoint {s : State} {k : Nat} {v : Word} (h : s.Canon) : (s.writeSetpoint k v).Canon := by
  unfold State.writeSetpoint
  exact h.modMod (fun _ g => ⟨g.setpoints.memWr⟩)

theorem State.Canon.stopThread {s : State} {t : Nat} (h : s.Canon) : (s.stopThread t).Canon := by
  unfold State.stopThread
  exact .ite h.writeSetpoint (h.writeSetpoint.modMod (fun _ g => ⟨g.setpoints⟩))

theorem Lane.Canon.modDp {l : Lane} {dp : Dp} {f : DpState → DpState} (h : l.Canon) : (l.modDp dp f).Canon := by
  unfold Lane.modDp
  split <;> exact h.setCle (fun g => ⟨g.data, g.descs, g.binds, g.nodes, g.probes⟩)

theorem Lane.Canon.setData {l : Lane} {now x : Nat} {v : Word} (h : l.Canon) : (l.setData now x v).Canon := by
  unfold Lane.setData
  exact h.setCle (fun g => ⟨g.data.memWr, g.descs, g.binds, g.nodes, g.probes⟩)

theorem Lane.Canon.noteBefore {l : Lane} (h : l.Canon) : l.noteBefore.Canon := by
  unfold Lane.noteBefore
  exact h.setCle (fun g => ⟨g.data, g.descs, g.binds, g.nodes, g.probes⟩)

theorem Lane.Canon.noteIn {l : Lane} {ctx n now code : Nat} (h : l.Canon) : (l.noteIn ctx n now code).Canon := by
  unfold Lane.noteIn
  exact h.setCle (fun g => ⟨g.data, g.descs, g.binds, g.nodes, g.probes⟩)

theorem Lane.Canon.stick {l : Lane} {x : Fld} {c : Bool} (h : l.Canon) : (l.stick x c).Canon := by
  unfold Lane.stick
  exact .ite h.wr h

theorem Lane.Canon.satf {l : Lane} {ctx : Nat} {c : Bool} (h : l.Canon) : (l.satf ctx c).Canon := by
  unfold Lane.satf
  exact h.stick

theorem Lane.Canon.wrapf {l : Lane} {ctx : Nat} {c : Bool} (h : l.Canon) : (l.wrapf ctx c).Canon := by
  unfold Lane.wrapf
  exact .ite h.wr.bumpSat h

theorem Lane.Canon.modSrc {l : Lane} {n : Nat} {f : AngleSrc → AngleSrc} (h : l.Canon) : (l.modSrc n f).Canon := by
  unfold Lane.modSrc
  exact h.congr rfl

theorem Lane.Canon.moveSrc {l : Lane} {n k : Nat} (h : l.Canon) : (l.moveSrc n k).Canon := by
  unfold Lane.moveSrc
  exact h.modSrc

theorem Lane.Canon.noteFronts {l : Lane} (h : l.Canon) : l.noteFronts.Canon := by
  unfold Lane.noteFronts
  exact h.modAsc

theorem Lane.Canon.moveAll {l : Lane} {k : Nat} (h : l.Canon) : (l.moveAll k).Canon := by
  unfold Lane.moveAll
  exact h.foldl (fun _ _ g => g.moveSrc)

theorem Lane.Canon.advance {l : Lane} {k : Nat} (h : l.Canon) : (l.advance k).Canon := by
  unfold Lane.advance
  split
  · exact h
  · exact h.noteFronts.moveAll
  · exact h.noteFronts.moveAll.noteFronts.moveAll

theorem State.Canon.resync {s : State} {i : LaneId} {n : Nat} {before : Word} (h : s.Canon) :
    (s.resync i n before).Canon := by
  unfold State.resync
  exact .ite (((h.setLane h.lane.modAsc.wr.bump).raiseFrom).journalAdd) ((h.setLane h.lane.modAsc.wr.bump).raiseFrom)

theorem State.Canon.settleSrc {s : State} {i : LaneId} {n : Nat} (h : s.Canon) : (s.settleSrc i n).Canon := by
  unfold State.settleSrc
  exact .ite ((h.setLane h.lane.modSrc).resync) h

theorem State.Canon.settle {s : State} (h : s.Canon) : s.settle.Canon := by
  unfold State.settle
  exact h.foldl (fun _ _ g => g.settleSrc.settleSrc)

theorem State.Canon.advance {s : State} {k : Nat} (h : s.Canon) : (s.advance k).Canon := by
  unfold State.advance
  exact .ite h (.ite (.bothLanes (.congr (.ite h.settle h) rfl) (fun _ g => g.advance)) (.congr (.ite h.settle h) rfl))

theorem State.Canon.passBy {s : State} {n k : Nat} (h : s.Canon) : (State.passBy n k s).Canon := by
  induction n generalizing k s with
  | zero => exact h.advance
  | succ n ih => exact .ite h.advance (ih h.advance)

theorem State.Canon.pass {s : State} {k : Nat} (h : s.Canon) : (s.pass k).Canon := by
  unfold State.pass
  exact h.passBy

theorem State.Canon.passTo {s : State} {t : Nat} (h : s.Canon) : (s.passTo t).Canon := by
  unfold State.passTo
  exact h.pass

/-! ### Snapshots, the recorder, angles and the auxiliary drives -/

theorem State.Canon.strAdd {s : State} {ring : Nat} {r : StrRec} (h : s.Canon) : (s.strAdd ring r).Canon := by
  unfold State.strAdd
  exact h.modHost

theorem State.Canon.takeSnap {s : State} {i : LaneId} {set : Nat} {late sched : Bool} (h : s.Canon) :
    (s.takeSnap i set late sched).2.Canon := by
  unfold State.takeSnap
  dsimp only
  exact h.modHost

theorem State.Canon.keepSnap {s : State} {x : Snapshot} (h : s.Canon) : (s.keepSnap x).Canon := by
  unfold State.keepSnap
  exact .ite h.modHost.strAdd h.modHost

theorem State.Canon.placeSnap {s : State} {i : LaneId} {x : Snapshot} (h : s.Canon) : (s.placeSnap i x).Canon := by
  unfold State.placeSnap
  exact .ite h.keepSnap h.modHost

theorem State.Canon.schedSnap {s : State} {i : LaneId} {set : Nat} {late : Bool} (h : s.Canon) :
    (s.schedSnap i set late).Canon := by
  unfold State.schedSnap
  exact .ite h.modDuplex (.ite h h.takeSnap.placeSnap)

theorem State.Canon.releaseSnap {s : State} {x : Snapshot} (h : s.Canon) : (s.releaseSnap x).Canon := by
  unfold State.releaseSnap
  exact h.modHost.placeSnap

theorem State.Canon.fillSnaps {s : State} {i : LaneId} {ctx : Nat} (h : s.Canon) : (s.fillSnaps i ctx).Canon := by
  unfold State.fillSnaps
  exact h.modDuplex.modHost.foldl (fun _ _ g => g.keepSnap)

theorem State.Canon.recStream {s : State} {i : LaneId} {ring : Nat} {r : StrRec} (h : s.Canon) :
    (s.recStream i ring r).Canon := by
  unfold State.recStream
  exact .ite h.modDuplex (.ite h.strAdd h)

theorem State.Canon.watch {s : State} {i : LaneId} {kind index : Nat} {x : Int} (h : s.Canon) :
    (s.watch i kind index x).Canon := by
  unfold State.watch
  exact h.modLane (fun _ g => g.modRec)

theorem State.Canon.syncWatch {s : State} {i : LaneId} {old : Lane} (h : s.Canon) : (s.syncWatch i old).Canon := by
  unfold State.syncWatch
  exact h.modLane (fun _ g => g.modRec)

theorem State.Canon.setRec {s : State} {i : LaneId} {st : Nat} (h : s.Canon) : (s.setRec i st).Canon := by
  unfold State.setRec
  exact h.modLane (fun _ g => g.wr)

theorem State.Canon.slotSample {s : State} {i : LaneId} {n kind : Nat} {x : Sample} (h : s.Canon) :
    (s.slotSample i n kind x).Canon := by
  unfold State.slotSample
  exact .ite (.ite ((h.modLane (fun _ g => g.modRec)).recStream) (h.modLane (fun _ g => g.modRec))) (h.modLane (fun _ g =>
      g.modRec))

theorem State.Canon.recSample {s : State} {i : LaneId} {kind index : Nat} {val : Word} {late : Bool} (h : s.Canon) :
    (s.recSample i kind index val late).Canon := by
  unfold State.recSample
  exact .ite (.foldl (.ite h.watch (.ite h h.watch)) (fun _ _ g => g.slotSample)) (.ite h.watch (.ite h h.watch))

theorem State.Canon.recFill {s : State} {i : LaneId} (h : s.Canon) : (s.recFill i).Canon := by
  unfold State.recFill
  exact (h.modLane (fun _ g => g.modRec)).setRec

theorem State.Canon.recTake {s : State} {i : LaneId} {unit : Nat} {pt : TrigPoint} (h : s.Canon) :
    (s.recTake i unit pt).Canon := by
  unfold State.recTake
  exact .ite ((((h.modLane (fun _ g => g.modRec)).setRec).raiseFromOpen).modGrp) (((h.modLane (fun _ g =>
      g.modRec)).setRec).raiseFromOpen)

theorem execTriggerUnitFire_canon {ln : LaneSel} {u : Nat} {frac : Nat} {s : State} (h : s.Canon) :
    Outcome.Canon (execTriggerUnitFire ln u frac s) := by
  unfold execTriggerUnitFire
  refine .next ?_
  refine h.onLanes (fun _ _ g => ?_)
  refine .ite (g.modLane (fun _ g1 => g1.modRec)) ?_
  refine .ite ?_ ?_
  · exact ((g.modLane (fun _ g1 => g1.modRec)).modLane (fun _ g1 => g1.bump)).recTake
  · exact ((g.modLane (fun _ g1 => g1.modRec)).modLane (fun _ g1 => g1.bump)).modLane (fun _ g1 => g1.bump)

theorem execRecPreDone_canon {ln : LaneSel} {s : State} (h : s.Canon) : Outcome.Canon (execRecPreDone ln s) := by
  unfold execRecPreDone
  exact .next (h.onLanes (fun _ _ g => .ite g g.passTo.setRec))

theorem State.Canon.recClose {s : State} {i : LaneId} {trunc : Bool} (h : s.Canon) : (s.recClose i trunc).Canon := by
  unfold State.recClose
  dsimp only
  split
  · exact h
  · refine .ite ?_ (((h.modLane (fun _ g => g.bump.modRec)).foldl (fun _ _ g => g.recStream)).setRec)
    refine .ite ?_ ?_
    · exact ((h.modLane (fun _ g => g.bump.modRec)).foldl (fun _ _ g => g.recStream)).recFill
    · exact ((h.modLane (fun _ g => g.bump.modRec)).foldl (fun _ _ g => g.recStream)).setRec

theorem execRecPostDone_canon {ln : LaneSel} {s : State} (h : s.Canon) : Outcome.Canon (execRecPostDone ln s) := by
  unfold execRecPostDone
  refine .next ?_
  refine h.onLanes (fun _ _ g => ?_)
  split
  · exact g
  · exact g.passTo.recClose

theorem execRecDrained_canon {ln : LaneSel} {s : State} (h : s.Canon) : Outcome.Canon (execRecDrained ln s) := by
  unfold execRecDrained
  refine .next ?_
  refine h.onLanes (fun _ _ g => ?_)
  dsimp only
  split
  · exact .ite g.setRec g
  · exact .ite g (.ite (((g.modLane (fun _ g1 => g1.modRec)).raiseFromOpen).setRec) ((g.modLane (fun _ g1 =>
      g1.modRec)).raiseFromOpen))

theorem execWaitSpace_canon {ln : LaneSel} {s : State} (h : s.Canon) : Outcome.Canon (execWaitSpace ln s) := by
  unfold execWaitSpace
  exact .next (h.onLanes (fun _ _ g => .ite g.recFill g))

theorem State.Canon.recStop {s : State} {i : LaneId} (h : s.Canon) : (s.recStop i).Canon := by
  unfold State.recStop
  dsimp only
  split
  · exact h
  · exact h.recClose
  · exact .ite (.setRec (.modLane (h.foldl (fun _ _ g => .ite g g.recStream)) (fun _ g => g.modRec))) ((h.modLane (fun _ g
      => g.modRec)).setRec)
  · exact (h.modLane (fun _ g => g.modRec)).setRec

theorem State.Canon.recRetire {s : State} {i : LaneId} (h : s.Canon) : (s.recRetire i).Canon := by
  unfold State.recRetire
  exact .ite h h.modHost

theorem State.Canon.recAdopt {s : State} {i : LaneId} (h : s.Canon) : (s.recAdopt i).Canon := by
  unfold State.recAdopt
  exact h.modLane (fun _ g => .congr (.ite ((g.setRegs (fun g1 => g1.take h.lane.regs)).wr) (g.setRegs (fun g1 => g1.take
      h.lane.regs))) rfl)

theorem State.Canon.rakeFlush {s : State} {i : LaneId} (h : s.Canon) : (s.rakeFlush i).Canon := by
  unfold State.rakeFlush
  dsimp only
  split
  · exact h
  · exact (h.modLane (fun _ g => g.modRec)).recStream

theorem State.Canon.rakeStart {s : State} {i : LaneId} {frames : Word} (h : s.Canon) : (s.rakeStart i frames).Canon := by
  unfold State.rakeStart
  exact .ite (.ite ((h.rakeFlush.modLane (fun _ g => g.wr)).raiseFrom) h) (h.rakeFlush.modLane (fun _ g => g.wr.modRec))

theorem State.Canon.rakeBoundary {s : State} {i : LaneId} (h : s.Canon) : (s.rakeBoundary i).Canon := by
  unfold State.rakeBoundary
  exact .ite h (.modLane (.ite h.rakeFlush h) (fun _ g => g.modRec.setCle (fun g1 => ⟨g.cle.data, g.cle.descs,
      g.cle.binds, g.cle.nodes, g.cle.probes⟩)))

theorem execRakeFramesDone_canon {ln : LaneSel} {s : State} (h : s.Canon) : Outcome.Canon (execRakeFramesDone ln s) := by
  unfold execRakeFramesDone
  exact .next (h.onLanes (fun _ _ g => .ite g ((g.rakeFlush.modLane (fun _ g1 => g1.wr)).raiseFrom)))

theorem State.Canon.injectEnd {s : State} {i : LaneId} {n code : Nat} (h : s.Canon) : (s.injectEnd i n code).Canon := by
  unfold State.injectEnd
  exact (h.modLane (fun _ g => g.wr.modRec)).raiseFrom

theorem State.Canon.injectReport {s : State} {i : LaneId} {n : Nat} (h : s.Canon) : (s.injectReport i n).Canon := by
  unfold State.injectReport
  split
  · exact h.injectEnd
  · exact h

theorem State.Canon.injectStart {s : State} {i : LaneId} {b : InjBody} (h : s.Canon) : (s.injectStart i b).Canon := by
  unfold State.injectStart
  refine .ite (.ite h.injectReport.injectEnd h.injectReport) ?_
  refine .ite ?_ ?_
  · exact .rakeStart (h.injectReport.modLane (fun _ g => .modRec (.wr (.ite g.bump g))))
  · exact h.injectReport.modLane (fun _ g => .modRec (.wr (.ite g.bump g)))

theorem State.Canon.injectBoundary {s : State} {i : LaneId} (h : s.Canon) : (s.injectBoundary i).Canon := by
  unfold State.injectBoundary
  refine h.foldl fun _ _ g => ?_
  dsimp only
  split
  · exact g
  · refine .ite g ?_
    split
    · exact g.setLane g.lane.modRec.wr
    · exact g.setLane (.modRec (.ite g.lane.bump g.lane))

theorem execInjectionEnd_canon {ln : LaneSel} {n : Nat} {s : State} (h : s.Canon) :
    Outcome.Canon (execInjectionEnd ln n s) := by
  unfold execInjectionEnd
  refine .next ?_
  refine h.onLanes (fun _ _ g => ?_)
  split
  · exact g
  · split
    · exact g.injectEnd
    · exact g.injectReport

theorem State.Canon.updJrnl {s : State} (h : s.Canon) : s.updJrnl.Canon := by
  unfold State.updJrnl
  exact h.setRegs (fun g => g.set.set)

theorem State.Canon.commitRecord {s : State} {r : JRec} (h : s.Canon) : (s.commitRecord r).Canon := by
  unfold State.commitRecord
  exact .ite (.raise (.modJournal (.ite h.modJournal.strAdd h.modJournal))) (.ite h.modJournal.strAdd h.modJournal)

theorem State.Canon.commitJournal {s : State} (h : s.Canon) : s.commitJournal.Canon := by
  unfold State.commitJournal
  exact .wr ((((h.modJournal.foldl (fun _ _ g => g.commitRecord)).updJrnl).modJournal).modMod (fun _ g => ⟨g.setpoints⟩))

theorem execJrnlFwCode_canon {lane : LaneId} {code : BitVec 16} {s : State} (h : s.Canon) :
    Outcome.Canon (execJrnlFwCode lane code s) := by
  unfold execJrnlFwCode
  refine .next ?_
  refine .ite ?_ ?_
  · refine .journalAdd ?_
    refine .modLane ?_ (fun _ g => g.congr rfl)
    split
    · exact h.passTo
    · exact h
  · refine .ite ?_ ?_
    · refine .modDuplex ?_
      refine .modLane ?_ (fun _ g => g.congr rfl)
      split
      · exact h.passTo
      · exact h
    · refine .ite ?_ ?_
      · refine .journalAdd ?_
        refine .modLane ?_ (fun _ g => g.congr rfl)
        split
        · exact h.passTo
        · exact h
      · refine .modLane ?_ (fun _ g => g.congr rfl)
        split
        · exact h.passTo
        · exact h

theorem Lane.Canon.boundarySrc {old : Lane} {fsrc nn : Nat} {held : Bool} {n : Nat} {l : Lane} (hl : l.Canon) :
    (old.boundarySrc fsrc nn held n l).1.Canon := by
  unfold Lane.boundarySrc
  split
  · exact hl
  · exact (hl.modSrc.setRegs (fun g => g.set.set)).setRegs (fun g => g.wr)

theorem Lane.Canon.outRange {l : Lane} {nn i : Nat} (h : l.Canon) : (l.outRange nn i).Canon := by
  unfold Lane.outRange
  exact h.wr

theorem Lane.Canon.endFrame {l : Lane} (h : l.Canon) : l.endFrame.Canon := by
  unfold Lane.endFrame
  exact .modAsc (.ite h.wr h)

theorem State.Canon.boundaryAngles {s : State} {i : LaneId} (h : s.Canon) : (s.boundaryAngles i).Canon := by
  unfold State.boundaryAngles
  refine .ite ?_ ?_
  · refine .raiseFrom ?_
    refine .ite ?_ ?_
    · refine .raiseFrom ?_
      refine (h.foldlFst (fun _ _ g => (g.setLane g.lane.boundarySrc).settleSrc)).modLane (fun _ g => ?_)
      refine .foldl ?_ (fun _ _ g1 => g1.setRegs (fun g2 => g2.set.set))
      refine .ite ?_ ?_
      · exact .bumpSat (.wr (.wr (.wr (.ite (g.modAsc.foldl (fun _ _ g1 => g1.outRange)) g.modAsc))))
      · exact .wr (.wr (.wr (.ite (g.modAsc.foldl (fun _ _ g1 => g1.outRange)) g.modAsc)))
    · refine (h.foldlFst (fun _ _ g => (g.setLane g.lane.boundarySrc).settleSrc)).modLane (fun _ g => ?_)
      refine .foldl ?_ (fun _ _ g1 => g1.setRegs (fun g2 => g2.set.set))
      refine .ite ?_ ?_
      · exact .bumpSat (.wr (.wr (.wr (.ite (g.modAsc.foldl (fun _ _ g1 => g1.outRange)) g.modAsc))))
      · exact .wr (.wr (.wr (.ite (g.modAsc.foldl (fun _ _ g1 => g1.outRange)) g.modAsc)))
  · refine .ite ?_ ?_
    · refine .raiseFrom ?_
      refine (h.foldlFst (fun _ _ g => (g.setLane g.lane.boundarySrc).settleSrc)).modLane (fun _ g => ?_)
      refine .foldl ?_ (fun _ _ g1 => g1.setRegs (fun g2 => g2.set.set))
      refine .ite ?_ ?_
      · exact .bumpSat (.wr (.wr (.wr (.ite (g.modAsc.foldl (fun _ _ g1 => g1.outRange)) g.modAsc))))
      · exact .wr (.wr (.wr (.ite (g.modAsc.foldl (fun _ _ g1 => g1.outRange)) g.modAsc)))
    · refine (h.foldlFst (fun _ _ g => (g.setLane g.lane.boundarySrc).settleSrc)).modLane (fun _ g => ?_)
      refine .foldl ?_ (fun _ _ g1 => g1.setRegs (fun g2 => g2.set.set))
      refine .ite ?_ ?_
      · exact .bumpSat (.wr (.wr (.wr (.ite (g.modAsc.foldl (fun _ _ g1 => g1.outRange)) g.modAsc))))
      · exact .wr (.wr (.wr (.ite (g.modAsc.foldl (fun _ _ g1 => g1.outRange)) g.modAsc)))

theorem State.Canon.startAngles {s : State} (h : s.Canon) : s.startAngles.Canon := by
  unfold State.startAngles
  exact (h.bothLanes (fun _ g => g.modSrc.modAsc)).modMod (fun _ g => ⟨g.setpoints⟩)

theorem State.Canon.enqueue {s : State} {i : LaneId} {n idx : Nat} {late : Bool} (h : s.Canon) :
    (s.enqueue i n idx late).Canon := by
  unfold State.enqueue
  exact (h.setLane h.lane.modAsc.wr).foldl (fun _ _ g => (g.modLane (fun _ g1 => g1.bumpSat.bump)).raiseFrom)

theorem State.Canon.enqueueN {s : State} {i : LaneId} {n idx k : Nat} {late : Bool} (h : s.Canon) :
    (s.enqueueN i n idx late k).Canon := by
  induction k generalizing s with
  | zero => exact h
  | succ k ih => exact ih h.enqueue

theorem Lane.Canon.take {l : Lane} {now idx : Nat} (h : l.Canon) : (l.take now idx).Canon := by
  unfold Lane.take
  exact h.modAsc

theorem State.Canon.crossEntry {s : State} {n idx : Nat} {i : LaneId} (h : s.Canon) : (s.crossEntry n idx i).Canon := by
  unfold State.crossEntry
  refine .ite h ?_
  dsimp only
  split
  · exact .ite ((((h.setLane h.lane.take).enqueueN).modLane (fun _ g => g.wr)).raiseFrom) (((h.setLane
      h.lane.take).enqueueN).modLane (fun _ g => g.wr))
  · exact h.setLane h.lane.take
  · exact (h.setLane h.lane.take).enqueueN

theorem execEntryCrossing_canon {ln : LaneSel} {src idx : Nat} {s : State} (h : s.Canon) :
    Outcome.Canon (execEntryCrossing ln src idx s) := by
  unfold execEntryCrossing
  exact .next (h.onLanes (fun _ _ g => g.pass.crossEntry))

theorem Lane.Canon.syncOut {l : Lane} {now line width : Nat} (h : l.Canon) : (l.syncOut now line width).Canon := by
  unfold Lane.syncOut
  exact h.modAsc

theorem execSyncPulseEnd_canon {ln : LaneSel} {line : Nat} {s : State} (h : s.Canon) :
    Outcome.Canon (execSyncPulseEnd ln line s) := by
  unfold execSyncPulseEnd
  refine .next ?_
  refine h.onLanes (fun _ _ g => ?_)
  split
  · exact g
  · exact (g.passTo.modLane (fun _ g1 => g1.modAsc)).syncWatch

theorem State.Canon.auxBit {s : State} {n : Nat} {x : Fld} (h : s.Canon) : (s.auxBit n x).Canon := by
  unfold State.auxBit
  exact .ite h h.wr.raise

theorem State.Canon.drive {s : State} {n : Nat} (h : s.Canon) : (s.drive n).Canon := by
  unfold State.drive
  split <;> exact h.modAux

theorem State.Canon.precharge {s : State} {n : Nat} (h : s.Canon) : (s.precharge n).Canon := by
  unfold State.precharge
  exact .ite h h.modAux

theorem State.Canon.setAuxRun {s : State} {n : Nat} {on : Bool} (h : s.Canon) : (s.setAuxRun n on).Canon := by
  unfold State.setAuxRun
  exact .ite h.wr.modAux (.ite h.wr h.wr.precharge)

theorem State.Canon.clearAux {s : State} {n : Nat} (h : s.Canon) : (s.clearAux n).Canon := by
  unfold State.clearAux
  exact h.wr.wr.wr.precharge

theorem State.Canon.auxConfigured {s : State} {n : Nat} (h : s.Canon) : (s.auxConfigured n).Canon := by
  unfold State.auxConfigured
  exact .ite h.drive h

theorem execHallChange_canon {n : Nat} {code : BitVec 3} {s : State} (h : s.Canon) :
    Outcome.Canon (execHallChange n code s) := by
  unfold execHallChange
  exact .next (.ite h.wr.modAux.auxBit.cause (.ite (.drive (.modAux (.ite h.wr.wr h.wr))) (.modAux (.ite h.wr.wr h.wr))))

theorem execAuxPrechargeEnd_canon {n : Nat} {s : State} (h : s.Canon) : Outcome.Canon (execAuxPrechargeEnd n s) := by
  unfold execAuxPrechargeEnd
  refine .next ?_
  split
  · exact h
  · exact .ite h.passTo.modAux.drive h.passTo.modAux

theorem execChoppingPeriod_canon {n : Nat} {s : State} (h : s.Canon) : Outcome.Canon (execChoppingPeriod n s) := by
  unfold execChoppingPeriod
  refine .next ?_
  refine .ite ?_ ?_
  · refine .modAux ?_
    split
    · exact h.passTo
    · exact h
  · split
    · exact h.passTo
    · exact h

theorem State.Canon.auxFault {s : State} {n code : Nat} {x : Fld} (h : s.Canon) : (s.auxFault n code x).Canon := by
  unfold State.auxFault
  exact .ite h h.modAux.auxBit.cause

theorem State.Canon.auxTrip {s : State} {n : Nat} (h : s.Canon) : (s.auxTrip n).Canon := by
  unfold State.auxTrip
  exact .ite (.ite h.modAux.bump.wr.auxFault h.modAux.bump.wr) (.foldl (.ite h.modAux.bump.wr.auxFault h.modAux.bump.wr)
      (fun _ _ g => g.auxFault))

theorem execAuxShuntTrip_canon {n : Nat} {microvolts : Nat} {s : State} (h : s.Canon) :
    Outcome.Canon (execAuxShuntTrip n microvolts s) := by
  unfold execAuxShuntTrip
  exact .next (.ite h.auxTrip h)

theorem execAuxStall_canon {n : Nat} {s : State} (h : s.Canon) : Outcome.Canon (execAuxStall n s) := by
  unfold execAuxStall
  exact .next (.ite h h.passTo.modAux.auxBit.cause)

/-! ### The Control Law Engine, trips and clocks -/

theorem State.Canon.cleOp {s : State} {ln : LaneSel} {dp : Dp} {op : Nat} {w : CleWord} {cyc : Nat}
    {f : State → LaneId → CtxRun → State} (h : s.Canon) (hf : ∀ s i r, s.Canon → (f s i r).Canon) :
    (s.cleOp ln dp op w cyc f).Canon := by
  unfold State.cleOp
  refine h.onLanes fun s i g => ?_
  split
  · exact g
  · exact (hf _ _ _ g.passTo).modLane fun _ g1 => g1.modDp

theorem State.Canon.regOp {s : State} {ln : LaneSel} {dp : Dp} {op : Nat} {w : CleWord} {cyc : Nat} {f : DpState → DpState ×
    Bool} (h : s.Canon) :
    (s.regOp ln dp op w cyc f).Canon := by
  unfold State.regOp
  exact h.cleOp (fun _ _ _ g => g.modLane (fun _ g1 => g1.modDp.satf))

theorem State.Canon.resOp {s : State} {ln : LaneSel} {dp : Dp} {op : Nat} {w : CleWord} {cyc : Nat} {x : DpState → Int} (h :
    s.Canon) :
    (s.resOp ln dp op w cyc x).Canon := by
  unfold State.resOp
  exact h.regOp

theorem State.Canon.wordOp {s : State} {ln : LaneSel} {dp : Dp} {op : Nat} {w : CleWord} {x : DpState → Word} (h : s.Canon)
    :
    (s.wordOp ln dp op w x).Canon := by
  unfold State.wordOp
  exact h.regOp

theorem State.Canon.accOp {s : State} {ln : LaneSel} {dp : Dp} {op : Nat} {w : CleWord} {x : DpState → Int} (h : s.Canon) :
    (s.accOp ln dp op w x).Canon := by
  unfold State.accOp
  exact h.regOp

theorem State.Canon.pairOp {s : State} {ln : LaneSel} {dp : Dp} {op : Nat} {w : CleWord} {cyc : Nat} {x : DpState → Int ×
    Int} (h : s.Canon) :
    (s.pairOp ln dp op w cyc x).Canon := by
  unfold State.pairOp
  exact h.regOp

theorem execCleNop_canon {ln : LaneSel} {dp : Dp} {w : CleWord} {s : State} (h : s.Canon) :
    Outcome.Canon (execCleNop ln dp w s) := by
  unfold execCleNop
  exact .next h.regOp

theorem execCleLdi_canon {ln : LaneSel} {dp : Dp} {w : CleWord} {s : State} (h : s.Canon) :
    Outcome.Canon (execCleLdi ln dp w s) := by
  unfold execCleLdi
  exact .next h.wordOp

theorem execCleMov_canon {ln : LaneSel} {dp : Dp} {w : CleWord} {s : State} (h : s.Canon) :
    Outcome.Canon (execCleMov ln dp w s) := by
  unfold execCleMov
  exact .next h.wordOp

theorem execCleAdd_canon {ln : LaneSel} {dp : Dp} {w : CleWord} {s : State} (h : s.Canon) :
    Outcome.Canon (execCleAdd ln dp w s) := by
  unfold execCleAdd
  exact .next h.resOp

theorem execCleSub_canon {ln : LaneSel} {dp : Dp} {w : CleWord} {s : State} (h : s.Canon) :
    Outcome.Canon (execCleSub ln dp w s) := by
  unfold execCleSub
  exact .next h.resOp

theorem execCleAddi_canon {ln : LaneSel} {dp : Dp} {w : CleWord} {s : State} (h : s.Canon) :
    Outcome.Canon (execCleAddi ln dp w s) := by
  unfold execCleAddi
  exact .next h.resOp

theorem execCleNeg_canon {ln : LaneSel} {dp : Dp} {w : CleWord} {s : State} (h : s.Canon) :
    Outcome.Canon (execCleNeg ln dp w s) := by
  unfold execCleNeg
  exact .next h.resOp

theorem execCleAbs_canon {ln : LaneSel} {dp : Dp} {w : CleWord} {s : State} (h : s.Canon) :
    Outcome.Canon (execCleAbs ln dp w s) := by
  unfold execCleAbs
  exact .next h.resOp

theorem execCleShl_canon {ln : LaneSel} {dp : Dp} {w : CleWord} {s : State} (h : s.Canon) :
    Outcome.Canon (execCleShl ln dp w s) := by
  unfold execCleShl
  exact .next h.resOp

theorem execCleShr_canon {ln : LaneSel} {dp : Dp} {w : CleWord} {s : State} (h : s.Canon) :
    Outcome.Canon (execCleShr ln dp w s) := by
  unfold execCleShr
  exact .next h.wordOp

theorem execCleAnd_canon {ln : LaneSel} {dp : Dp} {w : CleWord} {s : State} (h : s.Canon) :
    Outcome.Canon (execCleAnd ln dp w s) := by
  unfold execCleAnd
  exact .next h.wordOp

theorem execCleOr_canon {ln : LaneSel} {dp : Dp} {w : CleWord} {s : State} (h : s.Canon) :
    Outcome.Canon (execCleOr ln dp w s) := by
  unfold execCleOr
  exact .next h.wordOp

theorem execCleXor_canon {ln : LaneSel} {dp : Dp} {w : CleWord} {s : State} (h : s.Canon) :
    Outcome.Canon (execCleXor ln dp w s) := by
  unfold execCleXor
  exact .next h.wordOp

theorem execCleMul_canon {ln : LaneSel} {dp : Dp} {w : CleWord} {s : State} (h : s.Canon) :
    Outcome.Canon (execCleMul ln dp w s) := by
  unfold execCleMul
  exact .next h.resOp

theorem execCleMuli_canon {ln : LaneSel} {dp : Dp} {w : CleWord} {s : State} (h : s.Canon) :
    Outcome.Canon (execCleMuli ln dp w s) := by
  unfold execCleMuli
  exact .next h.resOp

theorem execCleMac_canon {ln : LaneSel} {dp : Dp} {w : CleWord} {s : State} (h : s.Canon) :
    Outcome.Canon (execCleMac ln dp w s) := by
  unfold execCleMac
  exact .next h.accOp

theorem execCleMsu_canon {ln : LaneSel} {dp : Dp} {w : CleWord} {s : State} (h : s.Canon) :
    Outcome.Canon (execCleMsu ln dp w s) := by
  unfold execCleMsu
  exact .next h.accOp

theorem execCleLda_canon {ln : LaneSel} {dp : Dp} {w : CleWord} {s : State} (h : s.Canon) :
    Outcome.Canon (execCleLda ln dp w s) := by
  unfold execCleLda
  exact .next h.accOp

theorem execCleClra_canon {ln : LaneSel} {dp : Dp} {w : CleWord} {s : State} (h : s.Canon) :
    Outcome.Canon (execCleClra ln dp w s) := by
  unfold execCleClra
  exact .next h.regOp

theorem execCleExa_canon {ln : LaneSel} {dp : Dp} {w : CleWord} {s : State} (h : s.Canon) :
    Outcome.Canon (execCleExa ln dp w s) := by
  unfold execCleExa
  exact .next h.resOp

theorem execCleSat_canon {ln : LaneSel} {dp : Dp} {w : CleWord} {s : State} (h : s.Canon) :
    Outcome.Canon (execCleSat ln dp w s) := by
  unfold execCleSat
  exact .next h.regOp

theorem execCleMin_canon {ln : LaneSel} {dp : Dp} {w : CleWord} {s : State} (h : s.Canon) :
    Outcome.Canon (execCleMin ln dp w s) := by
  unfold execCleMin
  exact .next h.wordOp

theorem execCleMax_canon {ln : LaneSel} {dp : Dp} {w : CleWord} {s : State} (h : s.Canon) :
    Outcome.Canon (execCleMax ln dp w s) := by
  unfold execCleMax
  exact .next h.wordOp

theorem execCleCmp_canon {ln : LaneSel} {dp : Dp} {w : CleWord} {s : State} (h : s.Canon) :
    Outcome.Canon (execCleCmp ln dp w s) := by
  unfold execCleCmp
  exact .next h.regOp

theorem execCleSel_canon {ln : LaneSel} {dp : Dp} {w : CleWord} {s : State} (h : s.Canon) :
    Outcome.Canon (execCleSel ln dp w s) := by
  unfold execCleSel
  exact .next h.wordOp

theorem execCleInteg_canon {ln : LaneSel} {dp : Dp} {w : CleWord} {s : State} (h : s.Canon) :
    Outcome.Canon (execCleInteg ln dp w s) := by
  unfold execCleInteg
  exact .next (h.cleOp (fun _ _ _ g => g.modLane (fun _ g1 => g1.setData.modDp.wrapf)))

theorem execCleLpf1_canon {ln : LaneSel} {dp : Dp} {w : CleWord} {s : State} (h : s.Canon) :
    Outcome.Canon (execCleLpf1 ln dp w s) := by
  unfold execCleLpf1
  exact .next (h.cleOp (fun _ _ _ g => g.modLane (fun _ g1 => g1.setData.modDp.satf)))

theorem execCleClarke_canon {ln : LaneSel} {dp : Dp} {w : CleWord} {s : State} (h : s.Canon) :
    Outcome.Canon (execCleClarke ln dp w s) := by
  unfold execCleClarke
  exact .next h.pairOp

theorem execCleIclarke_canon {ln : LaneSel} {dp : Dp} {w : CleWord} {s : State} (h : s.Canon) :
    Outcome.Canon (execCleIclarke ln dp w s) := by
  unfold execCleIclarke
  exact .next h.regOp

theorem execClePark_canon {ln : LaneSel} {dp : Dp} {w : CleWord} {s : State} (h : s.Canon) :
    Outcome.Canon (execClePark ln dp w s) := by
  unfold execClePark
  exact .next h.pairOp

theorem execCleIpark_canon {ln : LaneSel} {dp : Dp} {w : CleWord} {s : State} (h : s.Canon) :
    Outcome.Canon (execCleIpark ln dp w s) := by
  unfold execCleIpark
  exact .next h.pairOp

theorem execCleSincos_canon {ln : LaneSel} {dp : Dp} {w : CleWord} {s : State} (h : s.Canon) :
    Outcome.Canon (execCleSincos ln dp w s) := by
  unfold execCleSincos
  exact .next h.regOp

theorem execCleSqrt_canon {ln : LaneSel} {dp : Dp} {w : CleWord} {s : State} (h : s.Canon) :
    Outcome.Canon (execCleSqrt ln dp w s) := by
  unfold execCleSqrt
  exact .next h.regOp

theorem execCleDiv_canon {ln : LaneSel} {dp : Dp} {w : CleWord} {s : State} (h : s.Canon) :
    Outcome.Canon (execCleDiv ln dp w s) := by
  unfold execCleDiv
  exact .next (h.cleOp (fun _ _ _ g => g.modLane (fun _ g1 => .ite g1.modDp.wr g1.modDp.satf)))

theorem execCleLut_canon {ln : LaneSel} {dp : Dp} {w : CleWord} {s : State} (h : s.Canon) :
    Outcome.Canon (execCleLut ln dp w s) := by
  unfold execCleLut
  exact .next (h.cleOp (fun _ _ _ g => g.modLane (fun _ g1 => g1.modDp)))

theorem execCleLd_canon {ln : LaneSel} {dp : Dp} {w : CleWord} {s : State} (h : s.Canon) :
    Outcome.Canon (execCleLd ln dp w s) := by
  unfold execCleLd
  exact .next (h.cleOp (fun _ _ _ g => g.modLane (fun _ g1 => g1.modDp)))

theorem execCleSt_canon {ln : LaneSel} {dp : Dp} {w : CleWord} {s : State} (h : s.Canon) :
    Outcome.Canon (execCleSt ln dp w s) := by
  unfold execCleSt
  exact .next (h.cleOp (fun _ _ _ g => g.modLane (fun _ g1 => g1.setData)))

theorem execCleIn_canon {ln : LaneSel} {dp : Dp} {w : CleWord} {s : State} (h : s.Canon) :
    Outcome.Canon (execCleIn ln dp w s) := by
  unfold execCleIn
  exact .next (h.cleOp (fun _ _ _ g => g.modLane (fun _ g1 => g1.modDp.noteIn)))

theorem execCleOut_canon {ln : LaneSel} {dp : Dp} {w : CleWord} {s : State} (h : s.Canon) :
    Outcome.Canon (execCleOut ln dp w s) := by
  unfold execCleOut
  exact .next (h.cleOp (fun _ _ _ g => g.modLane (fun _ g1 => g1.setCle (fun g2 => ⟨g2.data, g2.descs, g2.binds, g2.nodes,
      g2.probes⟩))))

theorem execCleAng_canon {ln : LaneSel} {dp : Dp} {w : CleWord} {s : State} (h : s.Canon) :
    Outcome.Canon (execCleAng ln dp w s) := by
  unfold execCleAng
  exact .next (h.cleOp (fun _ _ _ g => g.modLane (fun _ g1 => g1.modDp)))

theorem State.Canon.lawEnd {s : State} {i : LaneId} {r : CtxRun} (h : s.Canon) : (s.lawEnd i r).Canon := by
  unfold State.lawEnd
  refine h.modLane (fun _ g => ?_)
  exact .setCle (.foldl (g.setCle (fun g1 => ⟨g1.data, g1.descs, g1.binds, g1.nodes, g1.probes⟩)) (fun _ _ g1 =>
      g1.setData)) (fun g1 => ⟨g1.data, g1.descs, g1.binds, g1.nodes, g1.probes⟩)

theorem State.Canon.lawModeSet {s : State} {mode : BitVec 16} (h : s.Canon) : (s.lawModeSet mode).Canon := by
  unfold State.lawModeSet
  refine h.foldl (fun _ _ g => ?_)
  exact .ite g (.foldl (g.modLane (fun _ g1 => g1.setCle (fun g2 => ⟨g2.data, g2.descs, g2.binds, g2.nodes, g2.probes⟩)))
      (fun _ _ g1 => g1.raiseFrom))

theorem Lane.Canon.modGroup {l : Lane} {g : Nat} {f : GroupRun → GroupRun} (h : l.Canon) : (l.modGroup g f).Canon := by
  unfold Lane.modGroup
  exact h.modCle (fun _ g => ⟨g.data, g.descs, g.binds, g.nodes, g.probes⟩)

theorem Lane.Canon.cleStat {l : Lane} (h : l.Canon) : l.cleStat.Canon := by
  unfold Lane.cleStat
  exact h.wr.wr

theorem State.Canon.overrun {s : State} {i : LaneId} {g : Nat} (h : s.Canon) : (s.overrun i g).Canon := by
  unfold State.overrun
  exact .ite (((h.setLane h.lane.bumpSat.wr).raiseFrom).foldl (fun _ _ g => g.cause)) ((h.setLane
      h.lane.bumpSat.wr).raiseFrom)

theorem State.Canon.inTime {s : State} {i : LaneId} {g : Nat} (h : s.Canon) : (s.inTime i g).Canon := by
  unfold State.inTime
  exact .ite ((h.modLane (fun _ g => g.wr)).causeEnd) (h.modLane (fun _ g => g.wr))

theorem State.Canon.stopDone {s : State} {data : Nat} (h : s.Canon) : (s.stopDone data).Canon := by
  unfold State.stopDone
  exact .ite (.updModule (.setThread (h.modMod (fun _ g => ⟨g.setpoints⟩)))) h

theorem State.Canon.laneEvent {s : State} {i : LaneId} {src data : Nat} (h : s.Canon) :
    (s.laneEvent i src data).Canon := by
  unfold State.laneEvent
  exact .ite h.raiseFrom.stopDone h.raiseFrom

theorem State.Canon.publish {s : State} {i : LaneId} {h : Held} (hs : s.Canon) : (s.publish i h).Canon := by
  unfold State.publish
  dsimp only
  split
  · exact hs.modLane (fun _ g => g.modPwm (fun _ g1 => ⟨g1.shadow.memWr, g1.active, g1.latched, g1.trigShadow,
      g1.trigActive, g1.trigLatched⟩))
  · exact hs.modLane (fun _ g => g.modPwm (fun _ g1 => ⟨g1.shadow, g1.active, g1.latched, g1.trigShadow.memWr,
      g1.trigActive, g1.trigLatched⟩))
  · exact .ite hs (hs.modLane (fun _ g => g.modSrc))
  · exact hs.modLane (fun _ g => .ite g (g.setRegs (fun g1 => g1.set)))
  · exact hs.modLane (fun _ g => .ite g (g.setRegs (fun g1 => g1.set)))
  · exact hs.modLane (fun _ g => .ite g (g.setRegs (fun g1 => g1.set)))
  · exact hs.modLane (fun _ g => g.modCle (fun _ g1 => ⟨g1.data, g1.descs, g1.binds, g1.nodes, g1.probes⟩))
  · exact hs.modLane (fun _ g => g.modUnit)
  · exact hs.modLane (fun _ g => g.modCle (fun _ g1 => ⟨g1.data, g1.descs, g1.binds, g1.nodes, g1.probes.memWr⟩))
  · exact hs.modLane (fun _ g => g.modCle (fun _ g1 => ⟨g1.data, g1.descs, g1.binds, g1.nodes.memWr, g1.probes⟩))
  · exact .ite hs hs.laneEvent
  · exact hs

theorem State.Canon.republish {s : State} {i : LaneId} {g : Nat} (h : s.Canon) : (s.republish i g).Canon := by
  unfold State.republish
  exact h.foldl (fun _ _ g => .ite (g.foldl (fun _ _ g1 => g1.publish)) g)

theorem State.Canon.groupDone {s : State} {i : LaneId} {g : Nat} (h : s.Canon) : (s.groupDone i g).Canon := by
  unfold State.groupDone
  refine .ite h ?_
  refine .ite (h.modLane (fun _ g => g.modGroup.cleStat)) ?_
  refine .ite ?_ ?_
  · exact (h.modLane (fun _ g => g.modGroup.cleStat)).overrun
  · exact (((h.modLane (fun _ g => g.modGroup.cleStat)).foldl (fun _ _ g => g.publish)).republish).inTime

theorem State.Canon.lateGroups {s : State} (h : s.Canon) : s.lateGroups.Canon := by
  unfold State.lateGroups
  exact h.foldl (fun _ _ g => g.foldl (fun _ _ g1 => .ite g1.groupDone g1))

theorem Lane.Canon.takeUp {l : Lane} {dp : Dp} {at_ : Nat} (h : l.Canon) : (l.takeUp dp at_).Canon := by
  unfold Lane.takeUp
  dsimp only
  split
  · exact h.modDp
  · exact h

theorem State.Canon.launch {s : State} {i : LaneId} {g : Nat} (h : s.Canon) : (s.launch i g).Canon := by
  unfold State.launch
  refine .ite h ?_
  refine .ite ((h.setLane h.lane.bumpSat).overrun) ?_
  exact .ite ((h.setLane h.lane.modAsc.modGroup).groupDone) (h.setLane ((((h.lane.modAsc.modGroup.foldl (fun _ _ g =>
      g.modDp)).takeUp).takeUp).cleStat))

theorem Lane.Canon.runSignature {l : Lane} {dp : Dp} {from_ : Nat} {tally : DWord} (h : l.Canon) :
    (l.runSignature dp from_ tally).Canon := by
  unfold Lane.runSignature
  exact h.modDp.modCle (fun _ g => ⟨g.data, g.descs, g.binds, g.nodes, g.probes⟩)

theorem Lane.Canon.askSignature {l : Lane} {dp : Dp} {now : Nat} {tally : DWord} (h : l.Canon) :
    (l.askSignature dp now tally).Canon := by
  unfold Lane.askSignature
  exact .ite h.modDp h.runSignature

theorem Lane.Canon.noteSignature {l : Lane} {now : Nat} {tally : DWord} (h : l.Canon) :
    (l.noteSignature now tally).Canon := by
  unfold Lane.noteSignature
  exact .ite (h.modCle (fun _ g => ⟨g.data, g.descs, g.binds, g.nodes, g.probes⟩)) h

theorem State.Canon.runDone {s : State} {i : LaneId} {dp : Dp} {r : CtxRun} (h : s.Canon) : (s.runDone i dp r).Canon := by
  unfold State.runDone
  refine .ite ?_ (.fillSnaps (h.modLane (fun _ g => .cleStat (.takeUp (.ite g.modGroup.modDp.runSignature
      g.modGroup.modDp)))))
  exact .groupDone (.fillSnaps (h.modLane (fun _ g => .cleStat (.takeUp (.ite g.modGroup.modDp.runSignature
      g.modGroup.modDp)))))

theorem execCleEnd_canon {ln : LaneSel} {dp : Dp} {w : CleWord} {s : State} (h : s.Canon) :
    Outcome.Canon (execCleEnd ln dp w s) := by
  unfold execCleEnd
  refine .next ?_
  refine h.onLanes (fun _ _ g => ?_)
  split
  · split
    · exact g
    · exact .runDone (.lawEnd (g.passTo.modLane (fun _ g1 => .ite g1.wr g1)))
  · exact .ite (g.passTo.modLane (fun _ g1 => g1.modDp.wr)) g.passTo.runDone

theorem execGroupDeadline_canon {ln : LaneSel} {g : Nat} {s : State} (h : s.Canon) :
    Outcome.Canon (execGroupDeadline ln g s) := by
  unfold execGroupDeadline
  exact .next (h.onLanes (fun _ _ g => .ite ((g.passTo.modLane (fun _ g1 => g1.modGroup)).overrun) g))

theorem execBudgetStop_canon {ln : LaneSel} {dp : Dp} {s : State} (h : s.Canon) :
    Outcome.Canon (execBudgetStop ln dp s) := by
  unfold execBudgetStop
  refine .next ?_
  refine h.onLanes (fun _ _ g => ?_)
  split
  · exact g
  · exact .runDone (.ite ((g.passTo.modLane (fun _ g1 => g1.wr.modGroup)).overrun) (g.passTo.modLane (fun _ g1 =>
      g1.wr.modGroup)))

theorem Cle.Canon.merge {c : Cle} {img : Image} (h : c.Canon) : (c.merge img).Canon := by
  unfold Cle.merge
  exact ⟨h.data.foldl (fun _ _ g => g.memWr), h.descs.foldl (fun _ _ g => g.foldl (fun _ _ g1 => g1.memWr)), h.binds.foldl
      (fun _ _ g => g.memWr), h.nodes, h.probes⟩

theorem Cle.Canon.forgetIn {c : Cle} {ctx : Nat} (h : c.Canon) : (c.forgetIn ctx).Canon := by
  unfold Cle.forgetIn
  exact ⟨h.data, h.descs, h.binds, h.nodes, h.probes⟩

theorem Cle.Canon.load {c : Cle} {img : Image} (h : c.Canon) : (c.load img).Canon := by
  have m := h.merge (img := img)
  unfold Cle.load
  refine .foldl ?_ fun _ _ g => g.forgetIn
  exact ⟨m.data, m.descs.foldl fun _ _ g => g.memWr, m.binds, m.nodes, m.probes⟩

theorem Lane.Canon.swapBank {l : Lane} {c : Nat} (h : l.Canon) : (l.swapBank c).Canon := by
  unfold Lane.swapBank
  exact h.wr.wr

theorem State.Canon.maskCause {s : State} {code cls mask key : Nat} (h : s.Canon) :
    (s.maskCause code cls mask key).Canon := by
  unfold State.maskCause
  exact .ite h.cause (h.foldl (fun _ _ g => g.cause))

theorem State.Canon.legCause {s : State} {code leg key : Nat} {shoot : Bool} (h : s.Canon) :
    (s.legCause code leg key shoot).Canon := by
  unfold State.legCause
  exact .ite (.ite h.cause.modFaults.cause h.cause.modFaults) h.cause

theorem State.Canon.updFastCmp {s : State} {i : Nat} (h : s.Canon) : (s.updFastCmp i).Canon := by
  unfold State.updFastCmp
  exact .ite h.causeEnd (.ite h (.ite h.legCause h.cause))

theorem Lane.Canon.stepCmp {l : Lane} {i : Nat} {v : Int} (h : l.Canon) : (l.stepCmp i v).Canon := by
  unfold Lane.stepCmp
  exact h.modMeas (fun _ g => ⟨g.fir⟩)

theorem State.Canon.levelsWritten {s : State} {i : Nat} (h : s.Canon) : (s.levelsWritten i).Canon := by
  unfold State.levelsWritten
  exact (h.bothLanes (fun _ g => g.stepCmp)).updFastCmp

theorem execFastCmp_canon {ln : LaneSel} {i : Nat} {microvolts : Int} {s : State} (h : s.Canon) :
    Outcome.Canon (execFastCmp ln i microvolts s) := by
  unfold execFastCmp
  exact .next ((h.onLanes (fun _ _ g => g.modLane (fun _ g1 => g1.stepCmp))).updFastCmp)

theorem State.Canon.updMeasTrip {s : State} (h : s.Canon) : s.updMeasTrip.Canon := by
  unfold State.updMeasTrip
  exact .ite h (.ite h.modFaults.maskCause h.modFaults.causeEnd)

theorem execTripInput_canon {n : Nat} {level : Bool} {s : State} (h : s.Canon) :
    Outcome.Canon (execTripInput n level s) := by
  unfold execTripInput
  exact .next (.ite h.modFaults (.ite h.modFaults.modFaults.wr.wr.levelOn.maskCause
      h.modFaults.modFaults.wr.levelOff.causeEnd))

theorem execCauseGone_canon {s : State} (h : s.Canon) : Outcome.Canon (execCauseGone s) := by
  unfold execCauseGone
  refine .next ?_
  split
  · exact h.updCauseBits
  · exact h.passTo.updCauseBits

theorem execLockoutAckNEdge_canon {level : Bool} {s : State} (h : s.Canon) :
    Outcome.Canon (execLockoutAckNEdge level s) := by
  unfold execLockoutAckNEdge
  exact .next (.ite h.modFaults.wr h.modFaults)

theorem execAckLow_canon {s : State} (h : s.Canon) : Outcome.Canon (execAckLow s) := by
  unfold execAckLow
  refine .next ?_
  split
  · exact h
  · exact h.passTo.wr

theorem State.Canon.dropCauses {s : State} {scope : Scope} (h : s.Canon) : (s.dropCauses scope).Canon := by
  unfold State.dropCauses
  exact h.modFaults.updSto

theorem State.Canon.resetSum {s : State} {t : Nat} (h : s.Canon) : (s.resetSum t).Canon := by
  unfold State.resetSum
  exact h.modFaults.wr

theorem State.Canon.unblock {s : State} {t : Nat} (h : s.Canon) : (s.unblock t).Canon := by
  unfold State.unblock
  exact .ite h.setThread h

theorem State.Canon.clearThread {s : State} {t : Nat} (h : s.Canon) : (s.clearThread t).Canon := by
  unfold State.clearThread
  exact ((h.dropCauses.resetSum.setRegs (fun g => g.set)).modFaults).unblock

theorem State.Canon.clearModule {s : State} (h : s.Canon) : s.clearModule.Canon := by
  unfold State.clearModule
  exact (h.dropCauses.setRegs (fun g => g.set)).foldl (fun _ _ g => g.unblock)

theorem State.Canon.lockoutRefused {s : State} {status : Nat} (h : s.Canon) : (s.lockoutRefused status).Canon := by
  unfold State.lockoutRefused
  exact h.journalAdd

theorem State.Canon.endLockout {s : State} (h : s.Canon) : s.endLockout.Canon := by
  unfold State.endLockout
  exact .updModule ((h.modFaults.updSto.modField.wr.wr.wr.bumpSat.foldl (fun _ _ g => g.precharge)).foldl (fun _ _ g =>
      .ite g.setThread g))

theorem State.Canon.clkEvent {s : State} {code : Nat} (h : s.Canon) : (s.clkEvent code).Canon := by
  unfold State.clkEvent
  exact h.raise.journalAdd

theorem State.Canon.loadSeed {s : State} (h : s.Canon) : s.loadSeed.Canon := by
  unfold State.loadSeed
  exact h.modClock

theorem State.Canon.changeRate {s : State} {slow : Bool} (h : s.Canon) : (s.changeRate slow).Canon := by
  unfold State.changeRate
  exact .ite h (h.wr.bothLanes (fun _ g => g.setCle (fun g1 => ⟨g1.data, g1.descs, g1.binds, g1.nodes, g1.probes⟩)))

theorem State.Canon.loseLock {s : State} (h : s.Canon) : s.loseLock.Canon := by
  unfold State.loseLock
  exact .ite h h.wr.changeRate.wr.cause.clkEvent.bump

theorem execPllLoss_canon {s : State} (h : s.Canon) : Outcome.Canon (execPllLoss s) := by
  unfold execPllLoss
  exact .next h.loseLock

theorem State.Canon.takeLock {s : State} (h : s.Canon) : s.takeLock.Canon := by
  unfold State.takeLock
  exact h.wr.changeRate.causeEnd.clkEvent.loadSeed

theorem execPllRelock_canon {count : Nat} {s : State} (h : s.Canon) : Outcome.Canon (execPllRelock count s) := by
  unfold execPllRelock
  exact .next (.ite h (.ite h.wr.takeLock h.wr))

theorem execRelockFail_canon {s : State} (h : s.Canon) : Outcome.Canon (execRelockFail s) := by
  unfold execRelockFail
  exact .next (.ite h h.bump)

theorem State.Canon.setSync {s : State} {v : Nat} (h : s.Canon) : (s.setSync v).Canon := by
  unfold State.setSync
  exact .ite h h.wr.raise

theorem execRefLoss_canon {s : State} (h : s.Canon) : Outcome.Canon (execRefLoss s) := by
  unfold execRefLoss
  exact .next (.ite h h.modClock.wr.clkEvent.loseLock.setSync)

theorem execRefReturn_canon {s : State} (h : s.Canon) : Outcome.Canon (execRefReturn s) := by
  unfold execRefReturn
  exact .next (.ite h h.modClock.wr.clkEvent)

theorem State.Canon.writeNdiv {s : State} {n : Nat} (h : s.Canon) : (s.writeNdiv n).Canon := by
  unfold State.writeNdiv
  exact (h.setRegs (fun g => g.set)).modClock

theorem execNdivApply_canon {s : State} (h : s.Canon) : Outcome.Canon (execNdivApply s) := by
  unfold execNdivApply
  refine .next ?_
  split
  · exact h
  · exact h.passTo.modClock

theorem execFllUpdate_canon {v : Word} {inLock : Bool} {s : State} (h : s.Canon) :
    Outcome.Canon (execFllUpdate v inLock s) := by
  unfold execFllUpdate
  exact .next (.ite h (.wr (.ite h.writeNdiv h)))

theorem execTimeIncNs_canon {who : Writer} {v : Word} {s : State} (h : s.Canon) :
    Outcome.Canon (execTimeIncNs who v s) := by
  unfold execTimeIncNs
  exact .next (h.heardWrite (.ite h.mmioRefuse h.wr.modClock))

theorem execTimeNowNsRead_canon {who : Requester} {s : State} (h : s.Canon) :
    Outcome.Canon (execTimeNowNsRead who s) := by
  unfold execTimeNowNsRead
  exact .next (h.readAfterBoot h.modClock.returned)

theorem execSyncWrite_canon {who : Writer} {v : Word} {s : State} (h : s.Canon) :
    Outcome.Canon (execSyncWrite who v s) := by
  unfold execSyncWrite
  exact .next (h.heardWrite h.setSync)

theorem State.Canon.moveTarget {s : State} {c : Nat} {d : Int} (h : s.Canon) : (s.moveTarget c d).Canon := by
  unfold State.moveTarget
  exact h.wr.wr.wr

theorem State.Canon.noteReached {s : State} {c : Nat} {late : Bool} (h : s.Canon) : (s.noteReached c late).Canon := by
  unfold State.noteReached
  exact h.modClock

theorem State.Canon.fireCmp {s : State} {c data : Nat} (h : s.Canon) : (s.fireCmp c data).Canon := by
  unfold State.fireCmp
  exact .noteReached (.ite h.raise.wr.moveTarget h.raise.wr.wr)

theorem execTimeCmp_canon {c : Nat} {s : State} (h : s.Canon) : Outcome.Canon (execTimeCmp c s) := by
  unfold execTimeCmp
  refine .next ?_
  refine .ite h ?_
  split
  · exact h.passTo.fireCmp
  · exact h.pass.fireCmp

theorem execCmpArm_canon {who : Writer} {c : Nat} {v : Word} {s : State} (h : s.Canon) :
    Outcome.Canon (execCmpArm who c v s) := by
  unfold execCmpArm
  exact .next (h.heardWrite (.ite h.mmioRefuse ((h.setRegs (fun g => g.set)).noteReached)))

theorem execCmpTargetWrite_canon {who : Writer} {c : Nat} {part : CmpPart} {v : Word} {s : State} (h : s.Canon) :
    Outcome.Canon (execCmpTargetWrite who c part v s) := by
  unfold execCmpTargetWrite
  refine .next ?_
  split
  · exact h.heardWrite h.wr.noteReached.wr
  · exact h.heardWrite h.wr.noteReached.wr
  · exact h.heardWrite (.ite h.mmioRefuse h.wr.noteReached.wr)

theorem State.Canon.cmpAdjusted {s : State} {before : State} {c : Nat} (h : s.Canon) :
    (s.cmpAdjusted before c).Canon := by
  unfold State.cmpAdjusted
  exact .ite h (.ite h.noteReached (.ite h (.ite h.fireCmp.moveTarget.noteReached h.fireCmp)))

theorem State.Canon.timeAdjust {s : State} {mode : Nat} {sec : BitVec 64} {nsec : Word} (h : s.Canon) :
    (s.timeAdjust mode sec nsec).Canon := by
  unfold State.timeAdjust
  exact .foldl (.ite h.modClock.setSync h.modClock) (fun _ _ g => g.cmpAdjusted)

theorem State.Canon.showStamp {s : State} {p : Nat} (h : s.Canon) : (s.showStamp p).Canon := by
  unfold State.showStamp
  dsimp only
  split <;> exact ((h.setRegs (fun g => g.set)).setRegs (fun g => g.set)).setRegs (fun g => g.set)

theorem execPtpEventStamp_canon {p : Nat} {tx : Bool} {msg : BitVec 2} {seqId : BitVec 16} {s : State} (h : s.Canon) :
    Outcome.Canon (execPtpEventStamp p tx msg seqId s) := by
  unfold execPtpEventStamp
  exact .next (.ite h (.ite h.bumpSat h.modClock.showStamp))

theorem execPtpStampRead_canon {p : Nat} {s : State} (h : s.Canon) : Outcome.Canon (execPtpStampRead p s) := by
  unfold execPtpStampRead
  exact .next (h.readAfterBoot h.modClock.showStamp.returned)

/-! ### Measurement, the modulator and the lanes -/

theorem Lane.Canon.modChan {l : Lane} {k : Nat} {f : Chan → Chan} (h : l.Canon) : (l.modChan k f).Canon := by
  unfold Lane.modChan
  exact h.modMeas (fun _ g => ⟨g.fir⟩)

theorem Lane.Canon.modCore {l : Lane} {m : Nat} {f : SarCore → SarCore} (h : l.Canon) : (l.modCore m f).Canon := by
  unfold Lane.modCore
  exact h.modMeas (fun _ g => ⟨g.fir⟩)

theorem Lane.Canon.endChan {now u : Nat} {l : Lane} {k : Nat} (h : l.Canon) : (Lane.endChan now u l k).Canon := by
  unfold Lane.endChan
  exact .ite h h.modChan

theorem State.Canon.endChans {s : State} (h : s.Canon) : s.endChans.Canon := by
  unfold State.endChans
  exact h.bothLanes (fun _ g => g.foldl (fun _ _ g1 => g1.endChan))

theorem State.Canon.output {s : State} {i : LaneId} {k : Nat} {v : Int} {settling : Bool} (h : s.Canon) :
    (s.output i k v settling).Canon := by
  unfold State.output
  refine .updMeasTrip ?_
  refine .recSample ?_
  refine .ite ?_ ?_
  · refine .raiseFrom ?_
    refine .ite ?_ (h.setLane (.ite (.wr (.ite h.lane.modChan.wr h.lane.modChan)) (.ite h.lane.modChan.wr h.lane.modChan)))
    exact .raiseFrom (h.setLane (.ite (.wr (.ite h.lane.modChan.wr h.lane.modChan)) (.ite h.lane.modChan.wr
        h.lane.modChan)))
  · refine .ite ?_ (h.setLane (.ite (.wr (.ite h.lane.modChan.wr h.lane.modChan)) (.ite h.lane.modChan.wr h.lane.modChan)))
    exact .raiseFrom (h.setLane (.ite (.wr (.ite h.lane.modChan.wr h.lane.modChan)) (.ite h.lane.modChan.wr
        h.lane.modChan)))

theorem Lane.Canon.addSample {l : Lane} {now u k : Nat} {x : ChanSample} (h : l.Canon) :
    (l.addSample now u k x).Canon := by
  unfold Lane.addSample
  exact .ite h.modChan (.ite h.modChan h.modChan)

theorem Lane.Canon.closeWindow {l : Lane} {k : Nat} {w : Window} (h : l.Canon) : (l.closeWindow k w).1.Canon := by
  unfold Lane.closeWindow
  dsimp only
  split
  · exact h
  · exact h.modChan

theorem Lane.Canon.closeScs {l : Lane} {u k : Nat} {w : Window} (h : l.Canon) : (l.closeScs u k w).1.Canon := by
  unfold Lane.closeScs
  exact h.modChan

theorem Lane.Canon.fillSkips {l : Lane} {u k upTo : Nat} (h : l.Canon) : (l.fillSkips u k upTo).Canon := by
  unfold Lane.fillSkips
  exact .ite h (h.foldl (fun _ _ g => g.modChan.addSample))

theorem Lane.Canon.popWindow {l m : Lane} {now u k : Nat} {w : Window} (h : l.Canon)
    (hp : l.popWindow now u k = some (w, m)) : m.Canon := by
  unfold Lane.popWindow at hp
  dsimp only at hp
  split at hp
  · cases hp
    exact h.modChan
  · split at hp <;> cases hp
    exact h.modChan

theorem execFilterOutput_canon {ln : LaneSel} {k : Nat} {s : State} (h : s.Canon) :
    Outcome.Canon (execFilterOutput ln k s) := by
  unfold execFilterOutput
  refine .next (h.onLanes fun s i g => ?_)
  extract_lets u
  split
  · exact g
  · rename_i w l hp
    extract_lets s1 l1 x s2
    have h1 : s1.Canon := (g.setLane (g.lane.popWindow hp)).passTo
    have hx : x.1.Canon := .iteFst h1.lane.fillSkips.closeScs h1.lane.fillSkips.closeWindow
    split
    · exact h1.setLane hx
    · exact (h1.setLane hx).output

theorem Lane.Canon.clearChan {l : Lane} {k : Nat} (h : l.Canon) : (l.clearChan k).Canon := by
  unfold Lane.clearChan
  exact h.modChan

theorem Lane.Canon.irregular {u : Nat} {l : Lane} (h : l.Canon) : (Lane.irregular u l).Canon := by
  unfold Lane.irregular
  exact h.foldl (fun _ _ g => .ite g.modChan g)

theorem Lane.Canon.filtLatch {l : Lane} {now g : Nat} {late : Bool} (h : l.Canon) : (l.filtLatch now g late).Canon := by
  unfold Lane.filtLatch
  exact h.foldl (fun _ _ g => .ite g g.modChan)

theorem Lane.Canon.startConv {l : Lane} {m k : Nat} {late : Bool} {at_ : Nat} (h : l.Canon) :
    (l.startConv m k late at_).Canon := by
  unfold Lane.startConv
  exact h.modCore

theorem Lane.Canon.trigStart {l : Lane} {doze : Bool} {now k : Nat} {late : Bool} (h : l.Canon) :
    (l.trigStart doze now k late).Canon := by
  unfold Lane.trigStart
  dsimp only
  split
  · exact h.startConv
  · exact .ite h.bumpSat h.modChan

theorem State.Canon.convStart {s : State} {i : LaneId} {g : Nat} {late : Bool} (h : s.Canon) :
    (s.convStart i g late).Canon := by
  unfold State.convStart
  exact h.modLane (fun _ g => g.foldl (fun _ _ g1 => .ite g1.trigStart g1))

theorem Lane.Canon.freeCore {l : Lane} {doze : Bool} {now m : Nat} (h : l.Canon) : (l.freeCore doze now m).Canon := by
  unfold Lane.freeCore
  dsimp only
  split
  · exact h.modCore.startConv.modChan
  · exact h.modCore

theorem execConversionDone_canon {ln : LaneSel} {core : Nat} {raw : BitVec 16} {s : State} (h : s.Canon) :
    Outcome.Canon (execConversionDone ln core raw s) := by
  unfold execConversionDone
  refine .next ?_
  refine h.onLanes (fun _ _ g => ?_)
  dsimp only
  split
  · refine .ite (((g.passTo.modLane (fun _ g1 => g1.freeCore.modChan)).recSample).output) ?_
    exact ((g.passTo.modLane (fun _ g1 => g1.freeCore.modChan)).recSample).setLane ((((g.passTo.modLane (fun _ g1 =>
        g1.freeCore.modChan)).recSample).lane).addSample)
  · exact g

theorem Lane.Canon.popGrid {l m : Lane} {now u k t : Nat} (h : l.Canon) (hp : l.popGrid now u k = some (t, m)) :
    m.Canon := by
  unfold Lane.popGrid at hp
  dsimp only at hp
  split at hp
  · cases hp
    exact h.modChan
  · split at hp <;> cases hp
    exact h.modChan

theorem execGridConversion_canon {ln : LaneSel} {k : Nat} {s : State} (h : s.Canon) :
    Outcome.Canon (execGridConversion ln k s) := by
  unfold execGridConversion
  refine .next (h.onLanes fun s i g => .ite g ?_)
  split
  · exact g
  · rename_i t l hp
    refine (g.setLane (g.lane.popGrid hp)).passTo.modLane fun _ g1 => ?_
    dsimp only
    split
    · exact g1.modChan.startConv
    · exact g1.modChan.wr.bumpSat.addSample

theorem execSdclkEdge_canon {ln : LaneSel} {k : Nat} {e : SdEdge} {s : State} (h : s.Canon) :
    Outcome.Canon (execSdclkEdge ln k e s) := by
  unfold execSdclkEdge
  refine .next ?_
  refine h.onLanes (fun _ _ g => ?_)
  refine .ite g ?_
  split
  · exact g
  · exact (g.passTo.setLane g.passTo.lane.fillSkips.modChan.addSample).recSample

theorem Lane.Canon.anchor {l : Lane} {g : Nat} (h : l.Canon) : (l.anchor g).Canon := by
  unfold Lane.anchor
  exact h.modPwm (fun _ g => ⟨g.shadow, g.active, g.latched, g.trigShadow, g.trigActive, g.trigLatched⟩)

theorem State.Canon.startCarriers {s : State} (h : s.Canon) : s.startCarriers.Canon := by
  unfold State.startCarriers
  exact h.startAngles.bothLanes (fun _ g => g.foldl (fun _ _ g1 => g1.anchor))

theorem Lane.Canon.compares {l : Lane} {m : Motion} (h : l.Canon) : Memory.Canon (l.compares m) := by
  unfold Lane.compares
  exact .ite h.pwm.active h.pwm.latched

theorem Lane.Canon.addTo {l : Lane} {x : Fld} {n : Nat} (h : l.Canon) : (l.addTo x n).Canon := by
  unfold Lane.addTo
  exact h.wr

theorem Lane.Canon.noteLeg {l : Lane} {leg : Nat} {r : LegRun} {st : Nat} {bad : Bool} (h : l.Canon) :
    (l.noteLeg leg r st bad).Canon := by
  unfold Lane.noteLeg
  exact .ite h.addTo.addTo.addTo.addTo.addTo.wr.wr.wr h.addTo.addTo.addTo.addTo.addTo.wr

theorem Lane.Canon.buildLeg {l : Lane} {ps : List SrcPred} {cut len : Nat} {leg : Nat} (h : l.Canon) :
    (l.buildLeg ps cut len leg).1.Canon := by
  unfold Lane.buildLeg
  exact .noteLeg (h.modPwm (fun _ g => ⟨g.shadow, g.active, g.latched, g.trigShadow, g.trigActive, g.trigLatched⟩))

theorem Lane.Canon.buildGroup {l : Lane} {ps : List SrcPred} {cut len g : Nat} (h : l.Canon) :
    (l.buildGroup ps cut len g).1.Canon := by
  unfold Lane.buildGroup
  split
  · exact h
  · refine .ite ?_ ?_
    · refine .wr ?_
      refine .wr ?_
      refine .ite ?_ ?_
      · refine .wr ?_
        refine .wr ?_
        refine .addTo ?_
        exact h.modPwm (fun _ g => ⟨g.shadow, g.active, .ite g.latched.takeKeys g.latched, g.trigShadow, g.trigActive,
            .ite g.trigLatched.takeKeys g.trigLatched⟩)
      · refine .wr ?_
        refine .addTo ?_
        exact h.modPwm (fun _ g => ⟨g.shadow, g.active, .ite g.latched.takeKeys g.latched, g.trigShadow, g.trigActive,
            .ite g.trigLatched.takeKeys g.trigLatched⟩)
    · refine .ite ?_ ?_
      · refine .wr ?_
        refine .wr ?_
        refine .addTo ?_
        exact h.modPwm (fun _ g => ⟨g.shadow, g.active, .ite g.latched.takeKeys g.latched, g.trigShadow, g.trigActive,
            .ite g.trigLatched.takeKeys g.trigLatched⟩)
      · refine .wr ?_
        refine .addTo ?_
        exact h.modPwm (fun _ g => ⟨g.shadow, g.active, .ite g.latched.takeKeys g.latched, g.trigShadow, g.trigActive,
            .ite g.trigLatched.takeKeys g.trigLatched⟩)

theorem Lane.Canon.buildClock {l : Lane} {ps : List SrcPred} {len n : Nat} (h : l.Canon) :
    (l.buildClock ps len n).1.Canon := by
  unfold Lane.buildClock
  dsimp only
  split
  · exact h
  · dsimp only
    refine Lane.Canon.modPwm ?_ ?_
    · exact .ite (.wr (.ite h h.wr)) (.ite h h.wr)
    · exact fun _ g => ⟨g.shadow, g.active, g.latched, g.trigShadow, g.trigActive, g.trigLatched⟩

theorem Lane.Canon.clearMarks {l : Lane} (h : l.Canon) :
    (l.modPwm fun w => { w with trigNext := [], sdSkipNext := [] }).Canon :=
  h.modPwm fun _ g => ⟨g.shadow, g.active, g.latched, g.trigShadow, g.trigActive, g.trigLatched⟩

theorem Lane.Canon.setEdges {l : Lane} {e : List Edge} {len : Nat} (h : l.Canon) :
    (l.modPwm fun w => { w with set := some e, len := len }).Canon :=
  h.modPwm fun _ g => ⟨g.shadow, g.active, g.latched, g.trigShadow, g.trigActive, g.trigLatched⟩

theorem State.Canon.buildSet {s : State} {i : LaneId} {k : Nat} (h : s.Canon) : (s.buildSet i k).Canon := by
  unfold State.buildSet
  extract_lets l ps len cut w r gs cs l'
  have hr : r.1.Canon := by
    refine h.lane.clearMarks.foldlFst fun _ _ g => ?_
    dsimp only
    exact g.buildLeg
  have hg : gs.1.Canon := hr.foldlFst fun _ _ g => g.buildGroup
  have hc : cs.1.Canon := hg.foldlFst fun _ _ g => g.buildClock
  exact (h.setLane hc.setEdges).foldl fun _ _ g => g.raiseFrom

theorem Lane.Canon.pwmLoad {l : Lane} {mask : Nat} (h : l.Canon) : (l.pwmLoad mask).Canon := by
  unfold Lane.pwmLoad
  exact h.modPwm (fun _ g => ⟨g.shadow, g.active.takeKeys, g.latched, g.trigShadow, g.trigActive.takeKeys, g.trigLatched⟩)

theorem Lane.Canon.legOff {l : Lane} {leg : Nat} (h : l.Canon) : (l.legOff leg).Canon := by
  unfold Lane.legOff
  exact .wr (h.modPwm (fun _ g => ⟨g.shadow, g.active, g.latched, g.trigShadow, g.trigActive, g.trigLatched⟩))

theorem execConvTrigger_canon {ln : LaneSel} {cg t : Nat} {s : State} (h : s.Canon) :
    Outcome.Canon (execConvTrigger ln cg t s) := by
  unfold execConvTrigger
  refine .next ?_
  refine h.onLanes (fun _ _ g => ?_)
  dsimp only
  split
  · exact g
  · exact .convStart (g.passTo.modLane (fun _ g1 => g1.modPwm (fun _ g2 => ⟨g2.shadow, g2.active, g2.latched,
      g2.trigShadow, g2.trigActive, g2.trigLatched⟩)))

theorem State.Canon.countCorr {s : State} {t : Nat} {n : List Nat} (h : s.Canon) : (s.countCorr t n).Canon := by
  unfold State.countCorr
  exact h.wr.wr.wr.wr.wr.modFaults.wr

theorem State.Canon.checkCorr {s : State} (h : s.Canon) : s.checkCorr.Canon := by
  unfold State.checkCorr
  exact h.foldl (fun _ _ g => .ite (.ite g g.cause) g.causeEnd)

theorem State.Canon.driveLine {s : State} {leg : Nat} {on : List Bool} {edges later : List Edge} (h : s.Canon) :
    (s.driveLine leg on edges later).Canon := by
  unfold State.driveLine
  exact h.modGl

theorem State.Canon.sendEdges {s : State} {leg : Nat} {on : List Bool} {edges later : List Edge} (h : s.Canon) :
    (s.sendEdges leg on edges later).Canon := by
  unfold State.sendEdges
  exact .ite (.ite ((h.foldl (fun _ _ g => g.glSend)).cause) (h.foldl (fun _ _ g => g.glSend))) (.ite h.driveLine h)

theorem State.Canon.forward {s : State} {set extra : List Edge} {start len : Nat} (h : s.Canon) :
    (s.forward set extra start len).Canon := by
  unfold State.forward
  exact ((((h.foldl (fun _ _ g => g.countCorr.modFaults)).checkCorr).foldl (fun _ _ g => g.cause)).modDuplex).foldl (fun _
      _ g => g.sendEdges)

theorem execCorrWindowRoll_canon {s : State} (h : s.Canon) : Outcome.Canon (execCorrWindowRoll s) := by
  unfold execCorrWindowRoll
  exact .next ((h.passTo.modFaults.foldl (fun _ _ g => g.wr)).checkCorr)

theorem State.Canon.takeover {s : State} {i : LaneId} {on : Bool} (h : s.Canon) : (s.takeover i on).Canon := by
  unfold State.takeover
  split <;> exact h.modSafe.setSafe

theorem State.Canon.updSingle {s : State} (h : s.Canon) : s.updSingle.Canon := by
  unfold State.updSingle
  exact h.wr

theorem State.Canon.setLaneState {s : State} {i : LaneId} {new cause : Nat} (h : s.Canon) :
    (s.setLaneState i new cause).Canon := by
  unfold State.setLaneState
  refine .raise ?_
  refine .journalAdd ?_
  refine .updDegraded ?_
  refine .ite ?_ ?_
  · refine .modSafe ?_
    refine .causeEnd ?_
    refine .bothLanes ?_ (fun _ g => g.wr)
    refine .takeover ?_
    refine .updSingle ?_
    refine .ite ?_ ?_
    · exact .wr (.wr (.ite (.wr (.wr (.ite h.recRetire h))) (.wr (.ite h.recRetire h))))
    · exact .ite (.wr (.wr (.ite h.recRetire h))) (.wr (.ite h.recRetire h))
  · refine .takeover ?_
    refine .updSingle ?_
    refine .ite ?_ ?_
    · exact .wr (.wr (.ite (.wr (.wr (.ite h.recRetire h))) (.wr (.ite h.recRetire h))))
    · exact .ite (.wr (.wr (.ite h.recRetire h))) (.wr (.ite h.recRetire h))

theorem Lane.Canon.storedInc {l : Lane} (h : l.Canon) : RegFile.Canon l.storedInc := by
  unfold Lane.storedInc
  split
  · exact h.regs.set
  · exact h.regs

theorem State.Canon.laneReset {s : State} {i : LaneId} {kind : Nat} (h : s.Canon) : (s.laneReset i kind).Canon := by
  unfold State.laneReset
  refine State.Canon.journalAdd <| .bumpSat <| .resetToken <| .updMeasTrip <| .foldl ?_ fun _ _ g => g.updFastCmp
  exact h.modLane fun _ g => ⟨g.storedInc.keep, ⟨g.meas.fir⟩, .reset, .reset⟩

theorem State.Canon.release {s : State} {w : Withheld} (h : s.Canon) : (s.release w).Canon := by
  unfold State.release
  split
  · exact .ite h.occurHost.stopDone h.occurHost
  · exact h.releaseSnap
  · exact h.strAdd
  · exact h.journalAdd

theorem State.Canon.releaseHeld {s : State} (h : s.Canon) : s.releaseHeld.Canon := by
  unfold State.releaseHeld
  exact h.modDuplex.foldl (fun _ _ g => g.release)

theorem State.Canon.endHold {s : State} (h : s.Canon) : s.endHold.Canon := by
  unfold State.endHold
  exact .ite (.ite h.wr.updModule h) (.releaseHeld (.ite h.wr.updModule h))

theorem State.Canon.startHold {s : State} (h : s.Canon) : s.startHold.Canon := by
  unfold State.startHold
  exact .updModule (.bump (.wr (.modDuplex (.ite h.bump h))))

theorem State.Canon.mismatch {s : State} {d : Diff} (h : s.Canon) : (s.mismatch d).Canon := by
  unfold State.mismatch
  exact ((((((((h.startHold.bothLanes (fun _ g =>
      g.askSignature.askSignature)).wr).modDuplex).wr).wr).wr).wr).wr).journalAdd

theorem execSelfCheckVerdict_canon {i : LaneId} {sig0 sig1 : DWord} {s : State} (h : s.Canon) :
    Outcome.Canon (execSelfCheckVerdict i sig0 sig1 s) := by
  unfold execSelfCheckVerdict
  exact .ite (.next h) (.next (.modDuplex (h.passTo.setLane (h.passTo.lane.congr rfl))))

theorem State.Canon.updRepeats {s : State} (h : s.Canon) : s.updRepeats.Canon := by
  unfold State.updRepeats
  exact h.modDuplex.wr

theorem State.Canon.verdictDraw {s : State} (h : s.Canon) : s.verdictDraw.Canon := by
  unfold State.verdictDraw
  exact .cause (.ite h.modDuplex.bumpSat.wr.cause h.modDuplex.bumpSat.wr)

theorem State.Canon.survive {s : State} {i : LaneId} (h : s.Canon) : (s.survive i).Canon := by
  unfold State.survive
  exact .updModule (.ite h.modDuplex h.modDuplex.setLaneState)

theorem State.Canon.applyVerdict {s : State} (h : s.Canon) : s.applyVerdict.Canon := by
  unfold State.applyVerdict
  refine .ite (.survive (.ite h.wr.wr.wr.wr.modDuplex.journalAdd h.wr.wr.wr.wr.modDuplex.journalAdd.setLaneState)) ?_
  refine .ite ?_ ?_
  · exact .survive (.ite h.wr.wr.wr.wr.modDuplex.journalAdd h.wr.wr.wr.wr.modDuplex.journalAdd.setLaneState)
  · exact h.wr.wr.wr.wr.modDuplex.journalAdd.verdictDraw

theorem State.Canon.cutVerdict {s : State} (h : s.Canon) : s.cutVerdict.Canon := by
  unfold State.cutVerdict
  exact .ite h.wr.modDuplex.survive (.ite (.ite h.modDuplex.applyVerdict h.modDuplex) h)

theorem State.Canon.lateVerdict {s : State} (h : s.Canon) : s.lateVerdict.Canon := by
  unfold State.lateVerdict
  exact .ite h.applyVerdict h

theorem State.Canon.startRestart {s : State} {i : LaneId} (h : s.Canon) : (s.startRestart i).Canon := by
  unfold State.startRestart
  exact .modDuplex (.wr (.wr (h.laneReset.modLane (fun _ g => g.congr rfl))))

theorem State.Canon.retire {s : State} {i : LaneId} {cause : Nat} (h : s.Canon) : (s.retire i cause).Canon := by
  unfold State.retire
  exact h.modDuplex.setLaneState.updModule

theorem State.Canon.laneControl {s : State} {i : LaneId} {action : Nat} (h : s.Canon) :
    (s.laneControl i action).Canon := by
  unfold State.laneControl
  split
  · exact h.startRestart
  · exact .ite h.modDuplex h.retire
  · exact h.modDuplex

theorem State.Canon.roleChange {s : State} {r : LaneId × Nat} (h : s.Canon) : (s.roleChange r).Canon := by
  unfold State.roleChange
  exact .ite (.ite h.setLaneState.setLaneState h) (.ite h.setLaneState.setLaneState h)

theorem State.Canon.cutRequest {s : State} (h : s.Canon) : s.cutRequest.Canon := by
  unfold State.cutRequest
  exact .ite h.modDuplex ((h.modDuplex.foldl (fun _ _ g => g.roleChange)).updSingle)

theorem State.Canon.startCopy {s : State} (h : s.Canon) : s.startCopy.Canon := by
  unfold State.startCopy
  exact h.modDuplex

theorem execEdgeCut_canon {s : State} (h : s.Canon) : Outcome.Canon (execEdgeCut s) := by
  unfold execEdgeCut
  exact .ite (.next h) (.next (.modDuplex (.startCopy (h.passTo.cutVerdict.cutRequest.foldl (fun _ _ g => .ite g.buildSet
      g)))))

theorem State.Canon.accept {s : State} {set : Option (List Edge)} {start len : Nat} (h : s.Canon) :
    (s.accept set start len).Canon := by
  unfold State.accept
  exact h.modDuplex.forward

theorem State.Canon.compareResync {s : State} {o : LaneId} {d : Option Diff} (h : s.Canon) :
    (s.compareResync o d).Canon := by
  unfold State.compareResync
  split
  · exact h.wr
  · exact h.bump.wr.retire

theorem execSetCompare_canon {arrivedA arrivedB : Bool} {s : State} (h : s.Canon) :
    Outcome.Canon (execSetCompare arrivedA arrivedB s) := by
  unfold execSetCompare
  split
  · exact .next h
  · refine .next ?_
    refine .ite (.forward (.ite h.passTo.modDuplex.lateVerdict.bump h.passTo.modDuplex.lateVerdict)) ?_
    refine .ite ?_ (.ite h.passTo.modDuplex.lateVerdict.modDuplex.compareResync.accept
        h.passTo.modDuplex.lateVerdict.accept)
    dsimp only
    split
    · exact h.passTo.modDuplex.lateVerdict.modDuplex.accept
    · exact h.passTo.modDuplex.lateVerdict.modDuplex.bump.mismatch.forward

theorem Lane.Canon.takeCopy {l act : Lane} {skip : List Nat} (h : l.Canon) (ha : act.Canon) :
    (l.takeCopy act skip).Canon := by
  unfold Lane.takeCopy
  refine ⟨?_, h.meas, ⟨?_, h.cle.descs, h.cle.binds, h.cle.nodes, h.cle.probes⟩, h.pwm⟩
  · dsimp only
    exact h.regs.take ha.regs
  · dsimp only
    exact h.cle.data.filter.foldl fun _ _ g => g.memWr

theorem Lane.Canon.takeBulk {l act : Lane} (h : l.Canon) (ha : act.Canon) : (l.takeBulk act).Canon := by
  unfold Lane.takeBulk
  refine ⟨?_, ⟨ha.meas.fir⟩, ⟨ha.cle.data, ha.cle.descs, ha.cle.binds, h.cle.nodes, h.cle.probes⟩, h.pwm⟩
  dsimp only
  exact h.regs.take ha.regs.keep

theorem Lane.Canon.takeFinal {l act : Lane} (h : l.Canon) (ha : act.Canon) : (l.takeFinal act).Canon := by
  unfold Lane.takeFinal
  refine ⟨?_, ha.meas, ⟨ha.cle.data, ha.cle.descs, ha.cle.binds, ha.cle.nodes, ha.cle.probes⟩, ha.pwm⟩
  dsimp only
  exact h.regs.take ha.regs

theorem State.Canon.applyCopies {s : State} {copy : CopyResult} (h : s.Canon) : (s.applyCopies copy).Canon := by
  unfold State.applyCopies
  refine .ite ?_ ?_
  · split
    · exact .ite (((((((h.modLane (fun _ g => g.takeFinal h.lane)).wr).wr).wr).modDuplex).modLane (fun _ g =>
        g.modSmon)).setLaneState) h
    · exact h
  · dsimp only
    split
    · refine .modDuplex ?_
      split
      · exact .ite (((((((h.modLane (fun _ g => g.takeFinal h.lane)).wr).wr).wr).modDuplex).modLane (fun _ g =>
          g.modSmon)).setLaneState) h
      · exact h
    · refine .modDuplex ?_
      refine .wr ?_
      refine .modLane ?_ (fun _ g => g.takeCopy h.lane)
      refine .modDuplex ?_
      split
      · exact .ite (((((((h.modLane (fun _ g => g.takeFinal h.lane)).wr).wr).wr).modDuplex).modLane (fun _ g =>
          g.modSmon)).setLaneState) h
      · exact h
    · refine .modDuplex ?_
      refine .bump ?_
      refine .modDuplex ?_
      split
      · exact .ite (((((((h.modLane (fun _ g => g.takeFinal h.lane)).wr).wr).wr).modDuplex).modLane (fun _ g =>
          g.modSmon)).setLaneState) h
      · exact h
    · refine .ite ?_ ?_
      · refine .retire ?_
        refine .modDuplex ?_
        refine .modDuplex ?_
        refine .bump ?_
        refine .modDuplex ?_
        split
        · exact .ite (((((((h.modLane (fun _ g => g.takeFinal h.lane)).wr).wr).wr).modDuplex).modLane (fun _ g =>
            g.modSmon)).setLaneState) h
        · exact h
      · refine .modDuplex ?_
        refine .bump ?_
        refine .modDuplex ?_
        split
        · exact .ite (((((((h.modLane (fun _ g => g.takeFinal h.lane)).wr).wr).wr).modDuplex).modLane (fun _ g =>
            g.modSmon)).setLaneState) h
        · exact h

theorem State.Canon.promote {s : State} (h : s.Canon) : s.promote.Canon := by
  unfold State.promote
  exact .ite h.setLaneState.recAdopt.updModule h

theorem execBulkCopyDone_canon {i : LaneId} {micros : Nat} {s : State} (h : s.Canon) :
    Outcome.Canon (execBulkCopyDone i micros s) := by
  unfold execBulkCopyDone
  split
  · exact .next h
  · exact .ite (.next h) (.next ((((h.passTo.modLane (fun _ g => g.takeBulk h.passTo.lane)).fresh).wr).modDuplex))

theorem execResyncTimeout_canon {i : LaneId} {s : State} (h : s.Canon) : Outcome.Canon (execResyncTimeout i s) := by
  unfold execResyncTimeout
  split
  · exact .next h
  · exact .ite (.next h) (.next h.passTo.wr.retire)

theorem State.Canon.renewRegion {s : State} (h : s.Canon) : s.renewRegion.Canon := by
  unfold State.renewRegion
  split
  · exact .ite h (.ite h.fresh.bumpSat h.fresh)
  · exact h

theorem execLaneErrorReport_canon {i : LaneId} {ecc : Bool} {s : State} (h : s.Canon) :
    Outcome.Canon (execLaneErrorReport i ecc s) := by
  unfold execLaneErrorReport
  exact .next (.ite (.cause (h.modLane (fun _ g => .ite (g.congr rfl) (g.congr rfl)))) (h.modLane (fun _ g => .ite
      (g.congr rfl) (g.congr rfl))))

theorem State.Canon.failSlot {s : State} {t b : Nat} (h : s.Canon) : (s.failSlot t b).Canon := by
  unfold State.failSlot
  exact .ite h.wr.wr.wr h.wr

theorem State.Canon.bootFail {s : State} (h : s.Canon) : s.bootFail.Canon := by
  unfold State.bootFail
  exact .ite h (.foldl (h.modMod (fun _ g => ⟨g.setpoints⟩)) (fun _ _ g => .ite g.failSlot g))

theorem execWdtExpiry_canon {i : LaneId} {s : State} (h : s.Canon) : Outcome.Canon (execWdtExpiry i s) := by
  unfold execWdtExpiry
  refine .ite (.next h) ?_
  refine .next ?_
  refine .ite ?_ ?_
  · refine .startRestart ?_
    refine .ite ?_ ?_
    · refine .ite ?_ ?_
      · refine .ite ?_ ?_
        · exact .ite (.retire (.modDuplex (.laneReset (.ite h.passTo h.passTo.bootFail)))) (.modDuplex (.laneReset (.ite
            h.passTo h.passTo.bootFail)))
        · exact .startHold (.ite (.retire (.modDuplex (.laneReset (.ite h.passTo h.passTo.bootFail)))) (.modDuplex
            (.laneReset (.ite h.passTo h.passTo.bootFail))))
      · refine .ite ?_ ?_
        · refine .cause ?_
          refine .setLaneState ?_
          exact .ite (.retire (.modDuplex (.laneReset (.ite h.passTo h.passTo.bootFail)))) (.modDuplex (.laneReset (.ite
              h.passTo h.passTo.bootFail)))
        · exact .cause (.ite (.retire (.modDuplex (.laneReset (.ite h.passTo h.passTo.bootFail)))) (.modDuplex (.laneReset
            (.ite h.passTo h.passTo.bootFail))))
    · exact .ite (.retire (.modDuplex (.laneReset (.ite h.passTo h.passTo.bootFail)))) (.modDuplex (.laneReset (.ite
        h.passTo h.passTo.bootFail)))
  · refine .ite ?_ ?_
    · refine .ite ?_ ?_
      · refine .ite ?_ ?_
        · exact .ite (.retire (.modDuplex (.laneReset (.ite h.passTo h.passTo.bootFail)))) (.modDuplex (.laneReset (.ite
            h.passTo h.passTo.bootFail)))
        · exact .startHold (.ite (.retire (.modDuplex (.laneReset (.ite h.passTo h.passTo.bootFail)))) (.modDuplex
            (.laneReset (.ite h.passTo h.passTo.bootFail))))
      · refine .ite ?_ ?_
        · refine .cause ?_
          refine .setLaneState ?_
          exact .ite (.retire (.modDuplex (.laneReset (.ite h.passTo h.passTo.bootFail)))) (.modDuplex (.laneReset (.ite
              h.passTo h.passTo.bootFail)))
        · exact .cause (.ite (.retire (.modDuplex (.laneReset (.ite h.passTo h.passTo.bootFail)))) (.modDuplex (.laneReset
            (.ite h.passTo h.passTo.bootFail))))
    · exact .ite (.retire (.modDuplex (.laneReset (.ite h.passTo h.passTo.bootFail)))) (.modDuplex (.laneReset (.ite
        h.passTo h.passTo.bootFail)))

/-! ### Safety, the field outputs, groups, events and gate links -/

theorem State.Canon.safetyInstant {s : State} {code cls : Nat} (h : s.Canon) : (s.safetyInstant code cls).Canon := by
  unfold State.safetyInstant
  exact .ite h h.cause

theorem State.Canon.smonInstant {s : State} {i : LaneId} {code cls : Nat} (h : s.Canon) :
    (s.smonInstant i code cls).Canon := by
  unfold State.smonInstant
  exact .ite h.safetyInstant h

theorem State.Canon.syncDemands {s : State} (h : s.Canon) : s.syncDemands.Canon := by
  unfold State.syncDemands
  exact h.foldl (fun _ _ g => .ite (.ite g g.cause) g.causeEnd)

theorem Lane.Canon.modEnc {l : Lane} {n : Nat} {f : Enc → Enc} (h : l.Canon) : (l.modEnc n f).Canon := by
  unfold Lane.modEnc
  exact h.modSmon

theorem Lane.Canon.moveCount {l : Lane} {n : Nat} {d : Int} (h : l.Canon) : (l.moveCount n d).Canon := by
  unfold Lane.moveCount
  exact h.setRegs (fun g => g.set)

theorem State.Canon.rotor {s : State} {i : LaneId} {n : Nat} (h : s.Canon) : (s.rotor i n).Canon := by
  unfold State.rotor
  exact .ite (h.setLane h.lane.modSrc) h

theorem execEncEdge_canon {ln : LaneSel} {n : Nat} {e : EncEdge} {s : State} (h : s.Canon) :
    Outcome.Canon (execEncEdge ln n e s) := by
  unfold execEncEdge
  refine .next ?_
  exact h.onLanes (fun _ _ g => .ite g (.ite g (.ite (((g.setLane g.lane.modEnc.moveCount).rotor).smonInstant) ((g.setLane
      g.lane.modEnc.moveCount).rotor))))

theorem execEncIndex_canon {ln : LaneSel} {n : Nat} {s : State} (h : s.Canon) : Outcome.Canon (execEncIndex ln n s) := by
  unfold execEncIndex
  refine .next ?_
  refine h.onLanes (fun _ _ g => ?_)
  exact .ite g (.ite ((g.setLane ((g.lane.setRegs (fun g1 => g1.set)).wr)).smonInstant) (g.setLane ((g.lane.setRegs (fun
      g1 => g1.set)).wr)))

theorem execSsiReadStart_canon {n : Nat} {s : State} (h : s.Canon) : Outcome.Canon (execSsiReadStart n s) := by
  unfold execSsiReadStart
  exact .next (.ite h (h.passTo.bothLanes (fun _ g => g.modEnc)))

theorem execSsiReadDone_canon {ln : LaneSel} {n : Nat} {raw : Word} {endHigh : Bool} {s : State} (h : s.Canon) :
    Outcome.Canon (execSsiReadDone ln n raw endHigh s) := by
  unfold execSsiReadDone
  refine .next ?_
  refine h.onLanes (fun _ _ g => ?_)
  refine .ite g ?_
  refine .ite ((g.setLane g.lane.modEnc).smonInstant) ?_
  exact .ite (((g.setLane g.lane.modEnc.moveCount.wr).rotor).smonInstant) ((g.setLane g.lane.modEnc.moveCount.wr).rotor)

theorem execSsiReadTimeout_canon {ln : LaneSel} {n : Nat} {s : State} (h : s.Canon) :
    Outcome.Canon (execSsiReadTimeout ln n s) := by
  unfold execSsiReadTimeout
  refine .next ?_
  refine h.onLanes (fun _ _ g => ?_)
  split
  · exact g
  · exact (g.passTo.modLane (fun _ g1 => g1.modEnc)).smonInstant

theorem execTestPulse_canon {n : Nat} {s : State} (h : s.Canon) : Outcome.Canon (execTestPulse n s) := by
  unfold execTestPulse
  exact .next (.modField (.ite h.passTo h))

theorem State.Canon.siLane {s : State} {i : LaneId} {raws : Nat → Bool} (h : s.Canon) : (s.siLane i raws).1.Canon := by
  unfold State.siLane
  exact h.setLane ((h.lane.wr.wr.foldl (fun _ _ g => g.wr)).modSmon)

theorem execSiSample_canon {a b : BitVec 8} {s : State} (h : s.Canon) : Outcome.Canon (execSiSample a b s) := by
  unfold execSiSample
  exact .next (h.passTo.modField.foldl (fun _ _ g => .ite g.siLane g.siLane.smonInstant))

theorem State.Canon.orFree {s : State} {x : Option Int} (h : s.Canon) : (s.orFree x).2.Canon := by
  unfold State.orFree
  split
  · exact h
  · exact h.fresh

theorem State.Canon.posOf {s : State} {l : Lane} {n : Nat} (h : s.Canon) : (s.posOf l n).2.Canon := by
  unfold State.posOf
  dsimp only
  split
  · exact h.fresh
  · exact h

theorem State.Canon.smonCycle {s : State} {i : LaneId} (h : s.Canon) : (s.smonCycle i).Canon := by
  unfold State.smonCycle
  have hs := h.lane (i := i)
  refine .modLane ?_ fun _ g => g.modSmon
  refine .safeEvent (h.orFree.orFree.posOf.posOf.setLane ?_)
  refine .wr (.wr (.wr (.wr ⟨?_, hs.meas, hs.cle, hs.pwm⟩)))
  dsimp only
  exact hs.regs.set.set.set

theorem State.Canon.autoReturn {s : State} (h : s.Canon) : s.autoReturn.Canon := by
  unfold State.autoReturn
  exact h.modField

theorem State.Canon.compareReports {s : State} (h : s.Canon) : s.compareReports.Canon := by
  unfold State.compareReports
  exact .ite h.modSafe (.ite h.modSafe.safetyInstant h.modSafe)

theorem State.Canon.updSi {s : State} (h : s.Canon) : s.updSi.Canon := by
  unfold State.updSi
  exact h.foldl (fun _ _ g => .ite g.levelOn (.ite g.levelOff g))

theorem execSafetyCycle_canon {ln : LaneSel} {s : State} (h : s.Canon) : Outcome.Canon (execSafetyCycle ln s) := by
  unfold execSafetyCycle
  exact .next ((((((h.passTo.onLanes (fun _ _ g => g.smonCycle)).syncDemands).autoReturn).compareReports).updSi).updSo)

theorem execSmonFault_canon {s : State} (h : s.Canon) : Outcome.Canon (execSmonFault s) := by
  unfold execSmonFault
  refine .next ?_
  split
  · exact h
  · exact h.passTo.safetyInstant

theorem execSiDisc_canon {ln : LaneSel} {pair : Nat} {s : State} (h : s.Canon) :
    Outcome.Canon (execSiDisc ln pair s) := by
  unfold execSiDisc
  refine .next ?_
  refine h.onLanes (fun _ _ g => ?_)
  split
  · exact g
  · exact (g.passTo.modLane (fun _ g1 => g1.wr)).smonInstant

theorem execSpdDisc_canon {ln : LaneSel} {s : State} (h : s.Canon) : Outcome.Canon (execSpdDisc ln s) := by
  unfold execSpdDisc
  refine .next ?_
  refine h.onLanes (fun _ _ g => ?_)
  split
  · exact g
  · exact g.passTo.smonInstant

theorem execSltMot_canon {ln : LaneSel} {s : State} (h : s.Canon) : Outcome.Canon (execSltMot ln s) := by
  unfold execSltMot
  refine .next ?_
  refine h.onLanes (fun _ _ g => ?_)
  split
  · exact g
  · exact (g.passTo.modLane (fun _ g1 => g1.modSmon)).syncDemands

theorem execDegradedMinute_canon {s : State} (h : s.Canon) : Outcome.Canon (execDegradedMinute s) := by
  unfold execDegradedMinute
  exact .next (.ite h (.ite (((h.passTo.bothLanes (fun _ g => g.wr)).modSafe).modSafe) ((h.passTo.bothLanes (fun _ g =>
      g.wr)).modSafe)))

theorem State.Canon.commitStops {s : State} (h : s.Canon) : s.commitStops.Canon := by
  unfold State.commitStops
  exact .ite h (h.modSafe.foldl (fun _ _ g => g.stopThread))

theorem execDegradedEnd_canon {s : State} (h : s.Canon) : Outcome.Canon (execDegradedEnd s) := by
  unfold execDegradedEnd
  refine .next ?_
  split
  · exact h
  · exact .ite h (.cause (.ite h.passTo h))

theorem State.Canon.modSo {s : State} {n : Nat} {f : So → So} (h : s.Canon) : (s.modSo n f).Canon := by
  unfold State.modSo
  exact h.modField.updSo

theorem State.Canon.moveSw {s : State} {i : LaneId} {n : Nat} {v : Bool} (h : s.Canon) : (s.moveSw i n v).Canon := by
  unfold State.moveSw
  exact .ite h h.modSo

theorem State.Canon.moveSws {s : State} {i : LaneId} {cmd : BitVec 4} (h : s.Canon) : (s.moveSws i cmd).Canon := by
  unfold State.moveSws
  exact h.foldl (fun _ _ g => g.moveSw)

theorem State.Canon.laneFrame {s : State} {i : LaneId} (h : s.Canon) : (s.laneFrame i).Canon := by
  unfold State.laneFrame
  exact .ite h.modField.causeEnd h.modField.causeEnd.moveSws

theorem State.Canon.takeoverFrame {s : State} (h : s.Canon) : s.takeoverFrame.Canon := by
  unfold State.takeoverFrame
  exact h.foldl (fun _ _ g => .ite g.moveSws g)

theorem State.Canon.silenceLane {s : State} {i : LaneId} (h : s.Canon) : (s.silenceLane i).Canon := by
  unfold State.silenceLane
  exact .ite h h.modField.updSo

theorem State.Canon.soRequest {s : State} {n : Nat} {v : Word} (h : s.Canon) : (s.soRequest n v).Canon := by
  unfold State.soRequest
  exact .ite ((h.bothLanes (fun _ g => g.wr)).modSo) (h.bothLanes (fun _ g => g.wr))

theorem execSoTestStart_canon {n : Nat} {s : State} (h : s.Canon) : Outcome.Canon (execSoTestStart n s) := by
  unfold execSoTestStart
  exact .next (.ite h h.passTo.modSo)

theorem execSoTestEnd_canon {n : Nat} {allLow : Bool} {s : State} (h : s.Canon) :
    Outcome.Canon (execSoTestEnd n allLow s) := by
  unfold execSoTestEnd
  refine .next ?_
  split
  · exact h
  · exact .ite h.passTo.modSo h.passTo.modSo.safetyInstant

theorem State.Canon.soOverload {s : State} {n : Nat} (h : s.Canon) : (s.soOverload n).Canon := by
  unfold State.soOverload
  exact h.modSo.safetyInstant

theorem execSoTestRecheck_canon {n : Nat} {high : Bool} {s : State} (h : s.Canon) :
    Outcome.Canon (execSoTestRecheck n high s) := by
  unfold execSoTestRecheck
  exact .next (.ite h (.ite h.passTo.modSo h.passTo.soOverload))

theorem execSoReadback_canon {n : Nat} {high : Bool} {s : State} (h : s.Canon) :
    Outcome.Canon (execSoReadback n high s) := by
  unfold execSoReadback
  exact .next (.ite h (.ite h.modSo.causeEnd (.ite h.modSo h.modSo.cause)))

theorem execSoOverload_canon {n : Nat} {s : State} (h : s.Canon) : Outcome.Canon (execSoOverload n s) := by
  unfold execSoOverload
  exact .next (.ite h.soOverload h)

theorem State.Canon.updDo1 {s : State} {n : Nat} (h : s.Canon) : (s.updDo1 n).Canon := by
  unfold State.updDo1
  exact h.modField.wr.wr.wr.wr

theorem State.Canon.updDo {s : State} (h : s.Canon) : s.updDo.Canon := by
  unfold State.updDo
  exact h.foldl (fun _ _ g => g.updDo1)

theorem State.Canon.doFault {s : State} {n code : Nat} (h : s.Canon) : (s.doFault n code).Canon := by
  unfold State.doFault
  exact h.bumpSat.raise.journalAdd

theorem execDoOverload_canon {n : Nat} {s : State} (h : s.Canon) : Outcome.Canon (execDoOverload n s) := by
  unfold execDoOverload
  exact .next (.ite h h.wr.doFault.updDo)

theorem execDoOt_canon {n : Nat} {present : Bool} {s : State} (h : s.Canon) : Outcome.Canon (execDoOt n present s) := by
  unfold execDoOt
  exact .next (.ite h.modField h.modField.wr.doFault.updDo)

theorem execDoBackfeed_canon {n : Nat} {present : Bool} {s : State} (h : s.Canon) :
    Outcome.Canon (execDoBackfeed n present s) := by
  unfold execDoBackfeed
  exact .next (.ite h.modField.updDo (.ite h h.passTo.modField.wr.doFault.updDo))

theorem execDoOpen_canon {n : Nat} {s : State} (h : s.Canon) : Outcome.Canon (execDoOpen n s) := by
  unfold execDoOpen
  exact .next (.ite h.wr.doFault h)

theorem State.Canon.commitDo {s : State} {mask val : BitVec 16} {all : Bool} (h : s.Canon) :
    (s.commitDo mask val all).Canon := by
  unfold State.commitDo
  exact (h.wr.foldl (fun _ _ g => g.wr)).modField

theorem State.Canon.commitRearm {s : State} {v : BitVec 16} (h : s.Canon) : (s.commitRearm v).Canon := by
  unfold State.commitRearm
  exact h.modField

theorem State.Canon.updDisup {s : State} (h : s.Canon) : s.updDisup.Canon := by
  unfold State.updDisup
  exact h.foldl (fun _ _ g => g.wr)

theorem State.Canon.modDi {s : State} {n : Nat} {f : Di → Di} (h : s.Canon) : (s.modDi n f).Canon := by
  unfold State.modDi
  exact h.modField

theorem State.Canon.showLevel {s : State} {n : Nat} (h : s.Canon) : (s.showLevel n).Canon := by
  unfold State.showLevel
  exact h.wr.wr

theorem State.Canon.takeDiCfg {s : State} {n : Nat} (h : s.Canon) : (s.takeDiCfg n).Canon := by
  unfold State.takeDiCfg
  exact .showLevel (.ite h.modField.modDi h.modField)

theorem State.Canon.takeDo {s : State} {n : Nat} (h : s.Canon) : (s.takeDo n).Canon := by
  unfold State.takeDo
  refine .ite ?_ ?_
  · exact .wr (.wr (.wr (.ite (.wr (.ite h.modField.wr h.modField)) (.ite h.modField.wr h.modField))))
  · exact .ite (.wr (.ite h.modField.wr h.modField)) (.ite h.modField.wr h.modField)

theorem State.Canon.reportSupply {s : State} {k : Nat} (h : s.Canon) : (s.reportSupply k).Canon := by
  unfold State.reportSupply
  exact .ite h h.wr.raiseOpen.journalAdd

theorem execFieldFrameS_canon {crcOk : Bool} {s : State} (h : s.Canon) : Outcome.Canon (execFieldFrameS crcOk s) := by
  unfold execFieldFrameS
  refine .next ?_
  refine .ite h ?_
  refine .ite h.bump ?_
  refine .updDisup ?_
  exact ((((((h.modField.wr.foldl (fun _ _ g => g.takeDiCfg)).foldl (fun _ _ g =>
      g.takeDo)).modField).reportSupply).reportSupply).takeoverFrame).updDo

theorem execFieldFrameLane_canon {lane : LaneId} {crcOk : Bool} {s : State} (h : s.Canon) :
    Outcome.Canon (execFieldFrameLane lane crcOk s) := by
  unfold execFieldFrameLane
  exact .next (.ite h (.ite h.laneFrame h.bump))

theorem execLaneChannelSilence_canon {lane : LaneId} {s : State} (h : s.Canon) :
    Outcome.Canon (execLaneChannelSilence lane s) := by
  unfold execLaneChannelSilence
  exact .next (.ite h h.passTo.modField.silenceLane)

theorem execSSilence_canon {s : State} (h : s.Canon) : Outcome.Canon (execSSilence s) := by
  unfold execSSilence
  exact .next h.passTo.modField.updDo

theorem State.Canon.enterSafe {s : State} (h : s.Canon) : s.enterSafe.Canon := by
  unfold State.enterSafe
  exact .updDo (h.modField.foldl (fun _ _ g => .ite g g.wr))

theorem execFioWdog_canon {s : State} (h : s.Canon) : Outcome.Canon (execFioWdog s) := by
  unfold execFioWdog
  exact .next h.passTo.modField.enterSafe

theorem execFdShutdown_canon {s : State} (h : s.Canon) : Outcome.Canon (execFdShutdown s) := by
  unfold execFdShutdown
  exact .next (.ite h (.ite h.wr.modField.enterSafe h.wr))

theorem execFdDown_canon {s : State} (h : s.Canon) : Outcome.Canon (execFdDown s) := by
  unfold execFdDown
  exact .next (.ite h (((h.passTo.setRegs (fun g => g.wr.set)).bothLanes (fun _ g => g.modSmon.wr.wr)).raiseOpen))

theorem execFieldChan_canon {lane : LaneId} {s : State} (h : s.Canon) : Outcome.Canon (execFieldChan lane s) := by
  unfold execFieldChan
  exact .next (.ite h h.passTo.cause)

theorem State.Canon.vf1Enter {s : State} (h : s.Canon) : s.vf1Enter.Canon := by
  unfold State.vf1Enter
  exact .updDisup (.updDo (.foldl (h.foldl (fun _ _ g => .ite g.wr.doFault g)) (fun _ _ g => g.wr)))

theorem State.Canon.vf1Leave {s : State} (h : s.Canon) : s.vf1Leave.Canon := by
  unfold State.vf1Leave
  exact .updDisup (.updDo (.foldl (.ite (h.foldl (fun _ _ g => g.wr)) h) (fun _ _ g => g.wr)))

theorem State.Canon.vf2Enter {s : State} (h : s.Canon) : s.vf2Enter.Canon := by
  unfold State.vf2Enter
  exact .ite h.sosOff.cause h.sosOff

theorem State.Canon.setSupply {s : State} {sup : Supply} {new : Nat} (h : s.Canon) : (s.setSupply sup new).Canon := by
  unfold State.setSupply
  refine .ite h.modField.reportSupply ?_
  split
  · exact .ite h.modField.reportSupply.vf1Enter (.ite h.modField.reportSupply.vf1Leave h.modField.reportSupply)
  · exact .ite h.modField.reportSupply.vf2Enter (.ite h.modField.reportSupply.causeEnd h.modField.reportSupply)

theorem State.Canon.fieldOff {s : State} (h : s.Canon) : s.fieldOff.Canon := by
  unfold State.fieldOff
  exact h.modField.sosOff

theorem State.Canon.measureSupply {s : State} {sup : Supply} {v : Int} (h : s.Canon) : (s.measureSupply sup v).Canon := by
  unfold State.measureSupply
  exact .ite h.modField.fieldOff h.modField.wr.setSupply

theorem execSupplyMeasure_canon {sup : Supply} {deciVolts : Int} {s : State} (h : s.Canon) :
    Outcome.Canon (execSupplyMeasure sup deciVolts s) := by
  unfold execSupplyMeasure
  exact .next h.passTo.modField.measureSupply

theorem execSupplyRecovery_canon {sup : Supply} {deciVolts : Int} {s : State} (h : s.Canon) :
    Outcome.Canon (execSupplyRecovery sup deciVolts s) := by
  unfold execSupplyRecovery
  refine .next ?_
  split
  · exact h
  · exact h.passTo.measureSupply

theorem State.Canon.storeChange {s : State} {n : Nat} {level : Bool} (h : s.Canon) : (s.storeChange n level).Canon := by
  unfold State.storeChange
  exact .ite h.modDi.wr.wr.raise h.bumpSat.wr

theorem execDiSample_canon {n : Nat} {raw : Bool} {s : State} (h : s.Canon) : Outcome.Canon (execDiSample n raw s) := by
  unfold execDiSample
  refine .next ?_
  refine .ite h ?_
  exact .ite h.passTo.modField.modDi.wr.showLevel (.ite h.passTo.modField.modDi.wr.showLevel.bump.storeChange
      h.passTo.modField.modDi.wr.showLevel.bump)

theorem State.Canon.diDiag {s : State} {n : Nat} {x : Fld} {code : Nat} (h : s.Canon) : (s.diDiag n x code).Canon := by
  unfold State.diDiag
  exact h.wr.raise.journalAdd

theorem execDiOpen_canon {n : Nat} {s : State} (h : s.Canon) : Outcome.Canon (execDiOpen n s) := by
  unfold execDiOpen
  exact .next (.ite h.diDiag h)

theorem execSupOvl_canon {j : Nat} {s : State} (h : s.Canon) : Outcome.Canon (execSupOvl j s) := by
  unfold execSupOvl
  exact .next (.ite h ((h.modField.wr.foldl (fun _ _ g => g.diDiag)).updDisup))

theorem execDisupRetry_canon {j : Nat} {s : State} (h : s.Canon) : Outcome.Canon (execDisupRetry j s) := by
  unfold execDisupRetry
  refine .next ?_
  split
  · exact h
  · exact h.passTo.modField.updDisup

theorem execDiOt_canon {n : Nat} {s : State} (h : s.Canon) : Outcome.Canon (execDiOt n s) := by
  unfold execDiOt
  exact .next (.ite h h.modDi.diDiag)

theorem execDiCooled_canon {n : Nat} {s : State} (h : s.Canon) : Outcome.Canon (execDiCooled n s) := by
  unfold execDiCooled
  exact .next h.modDi

theorem execTsNsRead_canon {s : State} (h : s.Canon) : Outcome.Canon (execTsNsRead s) := by
  unfold execTsNsRead
  refine .next ?_
  refine h.readAfterBoot ?_
  split
  · exact h.returned
  · exact h.fresh.returned

theorem execTsSRead_canon {s : State} (h : s.Canon) : Outcome.Canon (execTsSRead s) := by
  unfold execTsSRead
  refine .next ?_
  refine h.readAfterBoot ?_
  split
  · exact h.modDi.wr.returned
  · exact h.fresh.returned

theorem State.Canon.grpSend {s : State} {f : GrpFrame} (h : s.Canon) : (s.grpSend f).Canon := by
  unfold State.grpSend
  exact h.modGrp

theorem State.Canon.grpEvent {s : State} {code id : Nat} (h : s.Canon) : (s.grpEvent code id).Canon := by
  unfold State.grpEvent
  exact h.raise.journalAdd

theorem State.Canon.sendAnnounce {s : State} (h : s.Canon) : s.sendAnnounce.Canon := by
  unfold State.sendAnnounce
  exact h.grpSend.modGrp

theorem State.Canon.startForming {s : State} (h : s.Canon) : s.startForming.Canon := by
  unfold State.startForming
  exact h.modGrp.wr.wr.wr.foldl (fun _ _ g => g.setRegs (fun g1 => g1.set))

theorem State.Canon.exclude {s : State} {cause : Nat} (h : s.Canon) : (s.exclude cause).Canon := by
  unfold State.exclude
  exact h.wr.wr.modGrp.grpEvent

theorem State.Canon.elect {s : State} (h : s.Canon) : s.elect.Canon := by
  unfold State.elect
  dsimp only
  split
  · exact h.wr.modGrp
  · exact .ite h.exclude (.ite h.exclude h.wr.wr.wr.wr.modGrp)

theorem State.Canon.tryElect {s : State} (h : s.Canon) : s.tryElect.Canon := by
  unfold State.tryElect
  exact .ite h.elect h

theorem execAnnounce_canon {a : Announce} {s : State} (h : s.Canon) : Outcome.Canon (execAnnounce a s) := by
  unfold execAnnounce
  exact .next (.ite (.ite h.sendAnnounce.tryElect h) (.ite (.ite h.wr.exclude h) h.modGrp.tryElect))

theorem execGroupWaitExpiry_canon {s : State} (h : s.Canon) : Outcome.Canon (execGroupWaitExpiry s) := by
  unfold execGroupWaitExpiry
  exact .next (.ite h.passTo.elect h)

theorem execFllLockTimeout_canon {s : State} (h : s.Canon) : Outcome.Canon (execFllLockTimeout s) := by
  unfold execFllLockTimeout
  exact .next (.ite h.passTo.exclude h)

theorem execGrpPing_canon {sender : Nat} {s : State} (h : s.Canon) : Outcome.Canon (execGrpPing sender s) := by
  unfold execGrpPing
  exact .next (.ite h (.ite h.grpSend h.pass.grpSend))

theorem execGrpEcho_canon {k : Nat} {roundTrip : Nat} {s : State} (h : s.Canon) :
    Outcome.Canon (execGrpEcho k roundTrip s) := by
  unfold execGrpEcho
  exact .next (.ite h.modGrp (.ite h.modGrp.wr.wr.grpSend h.modGrp.wr.wr))

theorem execGrpDelays_canon {sender : Nat} {dly : List Nat} {s : State} (h : s.Canon) :
    Outcome.Canon (execGrpDelays sender dly s) := by
  unfold execGrpDelays
  exact .next h.modGrp

theorem execGrpTally_canon {common : BitVec 64} {startBoundary : BitVec 64} {s : State} (h : s.Canon) :
    Outcome.Canon (execGrpTally common startBoundary s) := by
  unfold execGrpTally
  exact .next (.ite h (.ite h.modGrp.grpSend h.modGrp))

theorem execGrpBoundary_canon {_tallyLow : Byte} {angle inc : Word} {s : State} (h : s.Canon) :
    Outcome.Canon (execGrpBoundary _tallyLow angle inc s) := by
  unfold execGrpBoundary
  exact .next (.ite h (.ite (.ite h.modGrp.modGrp.modGrp.grpEvent h.modGrp.modGrp) h.modGrp.modGrp))

theorem State.Canon.grpAhead {s : State} (h : s.Canon) : s.grpAhead.Canon := by
  unfold State.grpAhead
  refine .ite h ?_
  dsimp only
  split
  · split
    · exact h.bothLanes (fun _ g => g.modSrc)
    · exact h
  · refine .grpEvent ?_
    refine .bumpSat ?_
    refine .modGrp ?_
    refine .bothLanes ?_ (fun _ g => g.setRegs (fun g1 => g1.set.set))
    split
    · exact h.bothLanes (fun _ g => g.modSrc)
    · exact h

theorem State.Canon.grpTally {s : State} (h : s.Canon) : s.grpTally.Canon := by
  unfold State.grpTally
  split
  · exact h
  · exact .ite (h.modGrp.modMod (fun _ g => ⟨g.setpoints⟩)) h

theorem State.Canon.grpBoundary {s : State} (h : s.Canon) : s.grpBoundary.Canon := by
  unfold State.grpBoundary
  refine .ite ?_ ?_
  · refine .modGrp ?_
    split
    · exact h
    · exact (((h.bothLanes (fun _ g => g.modSrc)).modGrp).bump).wr
  · refine .ite ?_ ?_
    · refine .grpEvent ?_
      refine .modGrp ?_
      refine .grpSend ?_
      refine .modGrp ?_
      split
      · exact h
      · exact (((h.bothLanes (fun _ g => g.modSrc)).modGrp).bump).wr
    · refine .grpSend ?_
      refine .modGrp ?_
      split
      · exact h
      · exact (((h.bothLanes (fun _ g => g.modSrc)).modGrp).bump).wr

theorem State.Canon.scheduleStart {s : State} {units : BitVec 4} {at_ : DWord} (h : s.Canon) :
    (s.scheduleStart units at_).Canon := by
  unfold State.scheduleStart
  exact h.bothLanes (fun _ g => g.congr rfl)

theorem execGrpStart_canon {units : BitVec 4} {tStart : BitVec 64} {s : State} (h : s.Canon) :
    Outcome.Canon (execGrpStart units tStart s) := by
  unfold execGrpStart
  exact .next (.ite h.scheduleStart h)

theorem execGrpTrig_canon {sender : Nat} {s : State} (h : s.Canon) : Outcome.Canon (execGrpTrig sender s) := by
  unfold execGrpTrig
  exact .next (.ite h (h.foldl (fun _ _ g => .ite g (.ite (g.modLane (fun _ g1 => g1.bumpSat)) g.recTake))))

theorem State.Canon.leaveGroup {s : State} (h : s.Canon) : s.leaveGroup.Canon := by
  unfold State.leaveGroup
  exact h.modGrp.wr.wr.wr.grpEvent

theorem execGrpClkAbsent_canon {s : State} (h : s.Canon) : Outcome.Canon (execGrpClkAbsent s) := by
  unfold execGrpClkAbsent
  exact .next (.ite h.leaveGroup h)

theorem execBoundaryMissing_canon {s : State} (h : s.Canon) : Outcome.Canon (execBoundaryMissing s) := by
  unfold execBoundaryMissing
  exact .next (.ite h.leaveGroup h)

theorem execMemberLost_canon {k : Nat} {s : State} (h : s.Canon) : Outcome.Canon (execMemberLost k s) := by
  unfold execMemberLost
  exact .next (.ite h h.passTo.wr.grpEvent)

theorem State.Canon.claimVec {s : State} {v : Nat} (h : s.Canon) : (s.claimVec v).Canon := by
  unfold State.claimVec
  split
  · exact h.setReadData
  · exact .setReadData (.modEic (.ite h.wr h.wr.wr))

theorem State.Canon.claimPair {s : State} {i : LaneId} {p : Nat} (h : s.Canon) : (s.claimPair i p).Canon := by
  unfold State.claimPair
  split <;> exact .setReadData (h.modLane (fun _ g => g.congr rfl))

theorem execClaim_canon {t : Target} {s : State} (h : s.Canon) : Outcome.Canon (execClaim t s) := by
  unfold execClaim
  refine .next ?_
  split
  · exact h.readAfterBoot h.claimVec
  · exact h.claimPair

theorem State.Canon.completeVec {s : State} {v n : Nat} (h : s.Canon) : (s.completeVec v n).Canon := by
  unfold State.completeVec
  exact .ite h.wr.modEic.countVec h.wr.modEic

theorem State.Canon.completePair {s : State} {i : LaneId} {p n : Nat} (h : s.Canon) : (s.completePair i p n).Canon := by
  unfold State.completePair
  exact .ite (.modLane (h.modLane (fun _ g => g.congr rfl)) (fun _ g => g.countPair)) (h.modLane (fun _ g => g.congr rfl))

theorem execComplete_canon {t : Target} {id : Nat} {s : State} (h : s.Canon) : Outcome.Canon (execComplete t id s) := by
  unfold execComplete
  refine .next ?_
  split
  · exact h.afterBoot h.bumpSat
  · exact h.bumpSat
  · exact h.afterBoot (.ite h.completeVec h.bumpSat)
  · exact .ite h.completePair h.bumpSat

theorem State.Canon.withholdFw {s : State} {n : Nat} (h : s.Canon) : (s.withholdFw n).Canon := by
  unfold State.withholdFw
  exact (h.bothLanes (fun _ g => g.occur)).modDuplex

theorem State.Canon.pendOne {s : State} {n : Nat} (h : s.Canon) : (s.pendOne n).Canon := by
  unfold State.pendOne
  exact .ite h.withholdFw (.ite h.raise (((h.bothLanes (fun _ g => g.occur)).wr).vecEvent))

theorem State.Canon.pendBitWrite {s : State} {n : Nat} {v : Bool} (h : s.Canon) : (s.pendBitWrite n v).Canon := by
  unfold State.pendBitWrite
  exact .ite h (.ite (.ite h h.pendOne) (.wr (h.bothLanes (fun _ g => g.congr rfl))))

theorem execPendWrite_canon {j : Nat} {v : Word} {s : State} (h : s.Canon) : Outcome.Canon (execPendWrite j v s) := by
  unfold execPendWrite
  exact .next (h.afterBoot (h.foldl (fun _ _ g => g.pendBitWrite)))

theorem State.Canon.writeHmask {s : State} {j : Nat} {v : Word} (h : s.Canon) : (s.writeHmask j v).Canon := by
  unfold State.writeHmask
  exact (h.setRegs (fun g => g.set)).foldl (fun _ _ g => .ite g.countVec g)

theorem State.Canon.writePairMask {s : State} {i : LaneId} {p j : Nat} {v : Word} (h : s.Canon) :
    (s.writePairMask i p j v).Canon := by
  unfold State.writePairMask
  exact (h.modLane (fun _ g => g.setRegs (fun g1 => g1.set))).foldl (fun _ _ g => .ite (g.modLane (fun _ g1 =>
      g1.countPair)) g)

theorem execVecIdle_canon {v : Nat} {w : Word} {s : State} (h : s.Canon) : Outcome.Canon (execVecIdle v w s) := by
  unfold execVecIdle
  exact .next (h.afterBoot (.ite ((h.setRegs (fun g => g.set)).sendVec) (h.setRegs (fun g => g.set))))

theorem State.Canon.writePairCfg {s : State} {i : LaneId} {p : Nat} {w : Word} (h : s.Canon) :
    (s.writePairCfg i p w).Canon := by
  unfold State.writePairCfg
  exact h.modLane (fun _ g => g.setRegs (fun g1 => g1.set))

theorem execModerationTimer_canon {t : Target} {s : State} (h : s.Canon) : Outcome.Canon (execModerationTimer t s) := by
  unfold execModerationTimer
  refine .next ?_
  split
  · split
    · exact h
    · exact h.passTo.sendVec
  · split
    · exact h
    · exact h.passTo.modLane (fun _ g => g.congr rfl)

theorem execTimerWrite_canon {v : Word} {s : State} (h : s.Canon) : Outcome.Canon (execTimerWrite v s) := by
  unfold execTimerWrite
  exact .next (h.afterBoot ((h.setRegs (fun g => g.set)).modEic))

theorem execEicTimer_canon {s : State} (h : s.Canon) : Outcome.Canon (execEicTimer s) := by
  unfold execEicTimer
  refine .next ?_
  split
  · exact h
  · exact .ite h h.passTo.modEic.raise

theorem State.Canon.sendHeld {s : State} {v : Nat} (h : s.Canon) : (s.sendHeld v).Canon := by
  unfold State.sendHeld
  exact .ite h.wr.modEic h

theorem execMsixUnmask_canon {v : Nat} {s : State} (h : s.Canon) : Outcome.Canon (execMsixUnmask v s) := by
  unfold execMsixUnmask
  exact .next (h.afterBoot (.ite h.modEic (h.modEic.foldl (fun _ _ g => g.sendHeld))))

theorem execD3hotEntry_canon {pmeEn : Bool} {s : State} (h : s.Canon) : Outcome.Canon (execD3hotEntry pmeEn s) := by
  unfold execD3hotEntry
  exact .next h.modEic

theorem execD0Return_canon {s : State} (h : s.Canon) : Outcome.Canon (execD0Return s) := by
  unfold execD0Return
  exact .next (h.modEic.foldl (fun _ _ g => .ite g.sendHeld.sendVec g.sendHeld))

theorem execPreSleep_canon {s : State} (h : s.Canon) : Outcome.Canon (execPreSleep s) := by
  unfold execPreSleep
  exact .next (h.afterBoot (h.foldl (fun _ _ g => .ite g.sendVec g)))

theorem execPcieLinkChange_canon {st : BitVec 16} {s : State} (h : s.Canon) :
    Outcome.Canon (execPcieLinkChange st s) := by
  unfold execPcieLinkChange
  exact .next h.modEic.raise

theorem State.Canon.modLink {s : State} {n : Nat} {f : Link → Link} (h : s.Canon) : (s.modLink n f).Canon := by
  unfold State.modLink
  exact h.modGl

theorem State.Canon.setLink {s : State} {n st : Nat} (h : s.Canon) : (s.setLink n st).Canon := by
  unfold State.setLink
  exact .ite h h.wr.raise

theorem State.Canon.negotiate {s : State} {n : Nat} (h : s.Canon) : (s.negotiate n).Canon := by
  unfold State.negotiate
  exact h.modLink.wr.setLink

theorem State.Canon.negotiateThread {s : State} {t : Nat} (h : s.Canon) : (s.negotiateThread t).Canon := by
  unfold State.negotiateThread
  exact .ite (h.foldl (fun _ _ g => g.negotiate)) h

theorem State.Canon.updLat {s : State} (h : s.Canon) : s.updLat.Canon := by
  unfold State.updLat
  exact .ite h.wr h

theorem State.Canon.linkFail {s : State} {n cause : Nat} (h : s.Canon) : (s.linkFail n cause).Canon := by
  unfold State.linkFail
  exact .ite h.wr.setLink.journalAdd h.wr.setLink.journalAdd.updLat

theorem State.Canon.linkUp {s : State} {n st d : Nat} (h : s.Canon) : (s.linkUp n st d).Canon := by
  unfold State.linkUp
  exact .ite h.linkFail h.wr.wr.modLink.setLink.updLat

theorem State.Canon.sendSync {s : State} {n : Nat} (h : s.Canon) : (s.sendSync n).Canon := by
  unfold State.sendSync
  exact h.glSend

theorem State.Canon.sendHelloReq {s : State} {n : Nat} (h : s.Canon) : (s.sendHelloReq n).Canon := by
  unfold State.sendHelloReq
  exact h.modLink.glSend

theorem State.Canon.sendConfig {s : State} {n ver sw : Nat} (h : s.Canon) : (s.sendConfig n ver sw).Canon := by
  unfold State.sendConfig
  exact h.glSend.sendSync

theorem execNegotiationIdleEnd_canon {n : Nat} {s : State} (h : s.Canon) :
    Outcome.Canon (execNegotiationIdleEnd n s) := by
  unfold execNegotiationIdleEnd
  exact .next (.ite h.passTo.modLink.sendHelloReq h)

theorem execHelloReqResend_canon {n : Nat} {s : State} (h : s.Canon) : Outcome.Canon (execHelloReqResend n s) := by
  unfold execHelloReqResend
  exact .next (.ite h.passTo.sendHelloReq h)

theorem State.Canon.badFrame {s : State} {n : Nat} (h : s.Canon) : (s.badFrame n).Canon := by
  unfold State.badFrame
  exact .ite h.bump h

theorem execGlHello_canon {rx : GlRx} {hi lo : BitVec 16} {sw : Nat} {type : BitVec 16} {s : State} (h : s.Canon) :
    Outcome.Canon (execGlHello rx hi lo sw type s) := by
  unfold execGlHello
  refine .next ?_
  refine .ite h.badFrame ?_
  refine .ite ?_ h
  refine .ite (.ite h.modLink.linkFail (.ite h.modLink.linkFail h.modLink.sendConfig.setLink)) ?_
  dsimp only
  split
  · exact h.modLink.linkFail
  · exact .ite h.modLink.linkFail h.modLink.wr.wr.modLink.sendConfig

theorem execHelloTimeout_canon {n : Nat} {s : State} (h : s.Canon) : Outcome.Canon (execHelloTimeout n s) := by
  unfold execHelloTimeout
  exact .next (.ite (.ite h.passTo.linkFail (.ite h.passTo.linkFail h.passTo.linkUp)) h)

theorem execGlEcho_canon {n : Nat} {roundTrip : Nat} {s : State} (h : s.Canon) :
    Outcome.Canon (execGlEcho n roundTrip s) := by
  unfold execGlEcho
  exact .next (.ite h.modLink h)

theorem execDelayMeasured_canon {n : Nat} {s : State} (h : s.Canon) : Outcome.Canon (execDelayMeasured n s) := by
  unfold execDelayMeasured
  exact .next (.ite (.ite h.linkFail h.linkUp) h)

theorem execPingPeriodic_canon {n : Nat} {roundTrip : Nat} {s : State} (h : s.Canon) :
    Outcome.Canon (execPingPeriodic n roundTrip s) := by
  unfold execPingPeriodic
  exact .next (.ite (.ite h.modLink.wr.wr.cause h.modLink.wr) h)

theorem execGlSyncSend_canon {n : Nat} {s : State} (h : s.Canon) : Outcome.Canon (execGlSyncSend n s) := by
  unfold execGlSyncSend
  exact .next (.ite h.sendSync h)

theorem State.Canon.tlmFlag {s : State} {n code : Nat} {on : Bool} (h : s.Canon) : (s.tlmFlag n code on).Canon := by
  unfold State.tlmFlag
  exact .ite (.ite h.modLink h.modLink.legCause) (.ite h.modLink.causeEnd h)

theorem execGlTlm_canon {n : Nat} {crcOk : Bool} {bytes : List Byte} {s : State} (h : s.Canon) :
    Outcome.Canon (execGlTlm n crcOk bytes s) := by
  unfold execGlTlm
  exact .next (.ite h.badFrame (.ite h (.tlmFlag (.tlmFlag (.causeEnd (.ite h.modLink.wr.wr.wr.bump h.modLink.wr.wr.wr))))))

theorem State.Canon.linkLoss {s : State} {n : Nat} (h : s.Canon) : (s.linkLoss n).Canon := by
  unfold State.linkLoss
  exact .ite h h.cause

theorem execTlmTimeout_canon {n : Nat} {s : State} (h : s.Canon) : Outcome.Canon (execTlmTimeout n s) := by
  unfold execTlmTimeout
  exact .next (.ite h.passTo.linkLoss h)

theorem execAlignmentLoss_canon {n : Nat} {s : State} (h : s.Canon) : Outcome.Canon (execAlignmentLoss n s) := by
  unfold execAlignmentLoss
  exact .next (.ite h.modLink.setLink.linkLoss h)

theorem execCharactersReturn_canon {n : Nat} {s : State} (h : s.Canon) : Outcome.Canon (execCharactersReturn n s) := by
  unfold execCharactersReturn
  exact .next (.ite h.modLink h)

theorem execGlFault_canon {n : Nat} {d compl : Byte} {inFrame : Bool} {s : State} (h : s.Canon) :
    Outcome.Canon (execGlFault n d compl inFrame s) := by
  unfold execGlFault
  refine .next ?_
  refine .ite h ?_
  refine .ite (.ite h.bump h) ?_
  exact .ite (.glSend (.ite (.ite h.bump h) (.legCause (.ite h.bump h)))) (.causeEnd (.glSend (.ite (.ite h.bump h)
      (.legCause (.ite h.bump h)))))

theorem execGl1Fault_canon {n : Nat} {low : Bool} {s : State} (h : s.Canon) : Outcome.Canon (execGl1Fault n low s) := by
  unfold execGl1Fault
  exact .next (.ite h (.ite (.ite h h.legCause) h.causeEnd))

/-! ### Rings, trajectories and register writes -/

theorem execIfEn_canon {v : Word} {s : State} (h : s.Canon) : Outcome.Canon (execIfEn v s) := by
  unfold execIfEn
  refine .next ?_
  refine h.afterBoot ?_
  refine .ite (.ite h h.wr) ?_
  refine .ite (.wr (.ite h h.wr)) ?_
  split
  · exact .wr (.wr (.ite h h.wr))
  · exact .wr (.wr (.wr (.wr (.wr (.ite h h.wr)))))

theorem State.Canon.enableQueue {s : State} {kind : QueueKind} {q : Nat} (h : s.Canon) :
    (s.enableQueue kind q).Canon := by
  unfold State.enableQueue
  split
  · exact h.wr.modHost
  · exact h.wr.wr.modHost.wr.levelOff
  · exact h.wr.wr.modHost.wr

theorem State.Canon.disableQueue {s : State} {kind : QueueKind} {q : Nat} (h : s.Canon) :
    (s.disableQueue kind q).Canon := by
  unfold State.disableQueue
  split
  · exact h.wr.wr
  · exact h.wr.wr.levelOff
  · exact h

theorem execQueueEnable_canon {kind : QueueKind} {q : Nat} {v : Word} {s : State} (h : s.Canon) :
    Outcome.Canon (execQueueEnable kind q v s) := by
  unfold execQueueEnable
  refine .next ?_
  refine h.afterBoot ?_
  exact .ite h (.ite ((h.setRegs (fun g => g.set)).enableQueue) (.ite ((h.setRegs (fun g => g.set)).disableQueue)
      (h.setRegs (fun g => g.set))))

theorem State.Canon.queueFault {s : State} {kind : QueueKind} {q cause : Nat} (h : s.Canon) :
    (s.queueFault kind q cause).Canon := by
  unfold State.queueFault
  split
  · exact h.wr.wr.raise
  · exact h.wr.wr.raise
  · exact h

theorem execSqTail_canon {q : Nat} {v : Nat} {s : State} (h : s.Canon) : Outcome.Canon (execSqTail q v s) := by
  unfold execSqTail
  exact .next (h.afterBoot (.ite h (.ite h.queueFault h.modHost)))

theorem execCqHead_canon {q : Nat} {v : Nat} {s : State} (h : s.Canon) : Outcome.Canon (execCqHead q v s) := by
  unfold execCqHead
  exact .next (h.afterBoot (.ite h (.ite h.queueFault (.ite h.modHost.levelOff h.modHost))))

theorem State.Canon.dmaWrite {s : State} {addr : DWord} {bytes : List Byte} (h : s.Canon) :
    (s.dmaWrite addr bytes).Canon := by
  unfold State.dmaWrite
  exact h.modHost

theorem State.Canon.writeEntry {s : State} {r : Nat} {addr : DWord} {x : StrEntry} (h : s.Canon) :
    (s.writeEntry r addr x).Canon := by
  unfold State.writeEntry
  exact h.dmaWrite.modHost.raise

theorem execStrTail_canon {r : Nat} {v : Nat} {posted : List PostedBuf} {s : State} (h : s.Canon) :
    Outcome.Canon (execStrTail r v posted s) := by
  unfold execStrTail
  exact .next (h.afterBoot (.ite h (h.modHost.foldl (fun _ _ g => g.writeEntry))))

theorem State.Canon.noteErr {s : State} {c : Cmd} {r : Result} (h : s.Canon) : (s.noteErr c r).Canon := by
  unfold State.noteErr
  exact .ite h h.wr.wr.wr.wr.wr

theorem State.Canon.freeTag {s : State} {c : Cmd} (h : s.Canon) : (s.freeTag c).Canon := by
  unfold State.freeTag
  exact .ite h h.wr.wr.wr

theorem State.Canon.complete {s : State} {c : Cmd} {r : Result} (h : s.Canon) : (s.complete c r).Canon := by
  unfold State.complete
  refine .ite h.noteErr.modHost.modHost.modSec ?_
  exact .ite h.noteErr.modHost.freeTag (.ite h.noteErr.modHost.freeTag.dmaWrite.modHost.wr.wr.raise
      h.noteErr.modHost.freeTag.dmaWrite.modHost.wr.wr.levelOn)

theorem State.Canon.modRing {s : State} {r : Nat} {f : StrRing → StrRing} (h : s.Canon) : (s.modRing r f).Canon := by
  unfold State.modRing
  exact h.modHost

theorem State.Canon.nextEntry {s : State} {r : Nat} (h : s.Canon) : (s.nextEntry r).Canon := by
  unfold State.nextEntry
  exact .ite h.wr.wr h.wr

theorem State.Canon.closeBuf {s : State} {r : Nat} {flushed : Bool} (h : s.Canon) : (s.closeBuf r flushed).Canon := by
  unfold State.closeBuf
  split
  · exact h
  · exact h.writeEntry.modRing.nextEntry

theorem State.Canon.putRec {s : State} {r : Nat} {b : OpenBuf} {x : StrRec} (h : s.Canon) : (s.putRec r b x).Canon := by
  unfold State.putRec
  exact h.dmaWrite.modRing

theorem State.Canon.openBuf {s : State} {r : Nat} (h : s.Canon) : (s.openBuf r).Canon := by
  unfold State.openBuf
  split
  · exact h
  · refine .ite h.modRing.nextEntry ?_
    dsimp only
    split
    · exact h.modRing.modRing
    · exact h.modRing.modRing.putRec.bump

theorem State.Canon.takeRec {s : State} {n r : Nat} (h : s.Canon) : (State.takeRec n s r).Canon := by
  induction n generalizing s with
  | zero => exact h
  | succ n ih =>
    unfold State.takeRec
    split
    · exact h
    · exact .ite h (ih h.openBuf)
    · exact .ite h.modRing.putRec (ih h.closeBuf)

theorem execStreamRecordWrite_canon {r : Nat} {s : State} (h : s.Canon) : Outcome.Canon (execStreamRecordWrite r s) := by
  unfold execStreamRecordWrite
  exact .next (.ite h.takeRec h)

theorem execStreamFlush_canon {r : Nat} {s : State} (h : s.Canon) : Outcome.Canon (execStreamFlush r s) := by
  unfold execStreamFlush
  refine .next ?_
  split
  · exact h
  · exact .ite h h.passTo.closeBuf

theorem Lane.Canon.queueSeg {l at_ : Lane} {b : SegBody} {tally : DWord} (h : l.Canon) :
    (l.queueSeg at_ b tally).Canon := by
  unfold Lane.queueSeg
  exact h.modUnit.wr

section
variable {r : UnitRun} {u t code : Nat} {tally : DWord} {now : Bool} {tag : BitVec 16} {p : Path} {g : Seg}

theorem UnitRun.endSeg_canon (h : r.1.Canon) : (UnitRun.endSeg r u p).1.Canon := by
  unfold UnitRun.endSeg UnitRun.note
  dsimp only
  exact h.modUnit.bump.wr

theorem UnitRun.advance_canon (h : r.1.Canon) : (UnitRun.advance r u t).1.Canon := by
  unfold UnitRun.advance UnitRun.note
  dsimp only
  split
  · split
    · exact h.modUnit.modUnit.wr.wr
    · exact h.modUnit
  · exact h.modUnit.foldlFst fun _ _ g => UnitRun.endSeg_canon g

theorem UnitRun.stop_canon (h : r.1.Canon) : (UnitRun.stop r u tally now).1.Canon := by
  unfold UnitRun.stop UnitRun.note
  dsimp only
  split
  · exact h
  · split
    · exact h.modUnit.wr.wr
    · split
      · exact h.modUnit.wr.wr.wr
      · exact h.modUnit.wr.wr

theorem UnitRun.start_canon (h : r.1.Canon) : (UnitRun.start r u g).1.Canon := by
  unfold UnitRun.start UnitRun.note
  extract_lets t first g lim p q l l' l''
  exact .ite (h.modUnit.wr.wr.wr) (h.modUnit.wr.wr)

theorem UnitRun.starts_canon (h : r.1.Canon) : (UnitRun.starts r u tally).1.Canon := by
  unfold UnitRun.starts
  extract_lets t go l miss
  have hl : l.Canon := .ite h.modUnit h
  have hm : (miss l).Canon := .ite hl.wr hl
  split
  · split
    · split
      · exact UnitRun.start_canon hl
      · exact hl.wr
    · exact UnitRun.start_canon hm
  · exact hm.wr
  · split
    · exact UnitRun.start_canon hm
    · exact .ite hm hm.wr
  · exact .ite hm hm.wr

end

theorem State.Canon.aheadUnit {s : State} {i : LaneId} {u : Nat} (h : s.Canon) : (s.aheadUnit i u).Canon :=
  UnitRun.stop_canon (UnitRun.advance_canon h.lane)

theorem Lane.Canon.applyPresets {l : Lane} {u : Nat} (h : l.Canon) : (l.applyPresets u).Canon := by
  unfold Lane.applyPresets
  exact .modUnit (.ite (h.foldl (fun _ _ g => g.modUnit)) h)

theorem Lane.Canon.planUnit {l : Lane} {u t : Nat} (h : l.Canon) : (l.planUnit u t).Canon := by
  unfold Lane.planUnit
  exact h.modUnit

theorem Lane.Canon.publishUnit {l : Lane} {u : Nat} (h : l.Canon) : (l.publishUnit u).Canon := by
  unfold Lane.publishUnit
  exact .wr (.ite (.wr (.ite h.modUnit.wr h.modUnit)) (.ite h.modUnit.wr h.modUnit))

theorem State.Canon.unitBoundary {s : State} {i : LaneId} {u : Nat} (h : s.Canon) : (s.unitBoundary i u).Canon := by
  unfold State.unitBoundary
  extract_lets l fault stop from_ r r' l'
  have hr : r.1.Canon := UnitRun.stop_canon (UnitRun.advance_canon h.lane)
  have hr' : r'.1.Canon := UnitRun.starts_canon hr.applyPresets
  exact (h.setLane hr'.planUnit.publishUnit).foldl fun _ _ g => g.raiseFrom

theorem State.Canon.trajBoundary {s : State} (h : s.Canon) : s.trajBoundary.Canon := by
  unfold State.trajBoundary
  exact h.foldl (fun _ _ g => g.unitBoundary.unitBoundary)

theorem RegFile.Canon.mergeAt {f : RegFile} {off : Nat} {v : Word} (h : RegFile.Canon f) :
    RegFile.Canon (f.mergeAt off v) := by
  unfold RegFile.mergeAt
  split
  · exact h.set
  · exact h

theorem State.Canon.mergeWords {s : State} {off : Nat} {v : Word} (h : s.Canon) : (s.mergeWords off v).Canon := by
  unfold State.mergeWords
  exact .ite (h.bothLanes (fun _ g => g.setRegs (fun g1 => g1.mergeAt))) (h.setRegs (fun g => g.mergeAt))

theorem State.Canon.writeRoute {s : State} {off : Nat} {v : Word} (h : s.Canon) : (s.writeRoute off v).Canon := by
  unfold State.writeRoute
  exact .ite (h.setRegs (fun g => g.set)) ((h.setRegs (fun g => g.set)).mmioRefuse)

theorem State.Canon.writeRing {s : State} {off : Nat} {v : Word} (h : s.Canon) : (s.writeRing off v).Canon := by
  unfold State.writeRing
  exact .ite (.orStay (execQueueEnable_canon h)) (.ite h (h.setRegs (fun g => g.mergeAt)))

theorem State.Canon.writeLatTol {s : State} {v : Word} (h : s.Canon) : (s.writeLatTol v).Canon := by
  unfold State.writeLatTol
  exact .ite ((h.setRegs (fun g => g.set)).startExit) (h.setRegs (fun g => g.set))

theorem State.Canon.writeNow {s : State} {who : Writer} {off : Nat} {v : Word} (h : s.Canon) :
    (s.writeNow who off v).Canon := by
  unfold State.writeNow
  refine .ite (.orStay (execIfEn_canon h)) ?_
  refine .ite h ?_
  refine .ite h.writeRing ?_
  refine .ite (.orStay (execTimerWrite_canon h)) ?_
  refine .ite (.orStay (execPendWrite_canon h)) ?_
  refine .ite h.writeHmask ?_
  refine .ite h.writeRoute ?_
  refine .ite (.ite (.orStay (execVecIdle_canon h)) (.orStay (execComplete_canon h))) ?_
  refine .ite h.writeLatTol ?_
  refine .ite (.orStay (execSyncWrite_canon h)) ?_
  refine .ite (.orStay (execTimeIncNs_canon h)) ?_
  refine .ite ?_ (h.setRegs (fun g => g.mergeAt))
  refine .ite (.orStay (execCmpArm_canon h)) ?_
  exact .ite (.orStay (execCmpTargetWrite_canon h)) (.ite (.orStay (execCmpTargetWrite_canon h)) (.orStay
      (execCmpTargetWrite_canon h)))

theorem State.Canon.writeAngle {s : State} {i : LaneId} {off : Nat} {v : Word} (h : s.Canon) :
    (s.writeAngle i off v).Canon := by
  unfold State.writeAngle
  refine .ite (h.setLane (h.lane.setRegs (fun g => g.mergeAt))) ?_
  dsimp only
  split
  · exact .ite h (h.setLane h.lane.modSrc)
  · exact .ite h (h.setLane (h.lane.setRegs (fun g => g.set)))
  · exact .ite h (h.setLane (h.lane.setRegs (fun g => g.mergeAt)))
  · exact .ite h (h.setLane (h.lane.setRegs (fun g => g.mergeAt)))
  · exact h.setLane (h.lane.setRegs (fun g => g.mergeAt))
  · exact .ite (h.setLane (h.lane.setRegs (fun g => g.mergeAt))) h
  · exact .ite (h.setLane (h.lane.setRegs (fun g => g.mergeAt))) h
  · exact h.setLane (h.lane.setRegs (fun g => g.mergeAt))
  · exact h.setLane (h.lane.setRegs (fun g => g.mergeAt))

theorem State.Canon.laneWrite {s : State} {off : Nat} {v : Word} {i : LaneId} (h : s.Canon) :
    (s.laneWrite off v i).Canon := by
  unfold State.laneWrite
  refine .ite h.writeAngle ?_
  refine .ite ?_ ?_
  · exact h.setLane (.ite ((h.lane.setRegs (fun g => g.mergeAt)).outRange) (((h.lane.setRegs (fun g =>
      g.mergeAt)).outRange).modAsc))
  · refine .ite (h.setLane (.ite (h.lane.setRegs (fun g => g.mergeAt)) ((h.lane.setRegs (fun g => g.mergeAt)).clearChan)))
      ?_
    refine .ite ?_ ?_
    · exact h.setLane (.ite ((h.lane.setRegs (fun g => g.mergeAt)).modCle (fun _ g => g.forgetIn)) (h.lane.setRegs (fun g
        => g.mergeAt)))
    · refine .ite (h.setLane (.ite (h.lane.setRegs (fun g => g.mergeAt)) ((h.lane.setRegs (fun g => g.mergeAt)).anchor))) ?_
      refine .ite (h.setLane ((h.lane.setRegs (fun g => g.mergeAt)).setRegs (fun g => g.wr))) ?_
      refine .ite ?_ ?_
      · exact h.setLane (.ite ((h.lane.setRegs (fun g => g.mergeAt)).modSmon) (h.lane.setRegs (fun g => g.mergeAt)))
      · exact h.setLane (h.lane.setRegs (fun g => g.mergeAt))

theorem State.Canon.measWritten {s : State} {off : Nat} (h : s.Canon) : (s.measWritten off).Canon := by
  unfold State.measWritten
  exact .ite h.levelsWritten h.updMeasTrip

theorem State.Canon.writeViewOnly {s : State} {i : LaneId} {off : Nat} {v : Word} (h : s.Canon) :
    (s.writeViewOnly i off v).Canon := by
  unfold State.writeViewOnly
  refine .ite (h.modLane (fun _ g => g.congr rfl)) ?_
  refine .ite (.orStay (execJrnlFwCode_canon h)) ?_
  refine .ite ?_ ?_
  · dsimp only
    split
    · exact h.writePairCfg
    · exact .orStay (execComplete_canon h)
    · exact h.writePairMask
  · refine .modLane ?_ (fun _ g => g.setRegs (fun g1 => g1.mergeAt))
    split
    · exact .ite h.passTo h
    · exact h

theorem State.Canon.commitMaint {s : State} {req : Bool} (h : s.Canon) : (s.commitMaint req).Canon := by
  unfold State.commitMaint
  exact .updModule (h.wr.modMod (fun _ g => ⟨g.setpoints⟩))

theorem State.Canon.sluiceCommit {s : State} {off : Nat} {v : Word} (h : s.Canon) : (s.sluiceCommit off v).Canon := by
  unfold State.sluiceCommit
  refine .ite h.commitMaint ?_
  refine .ite (.ite ((h.setRegs (fun g => g.mergeAt)).wr) (((h.setRegs (fun g => g.mergeAt)).wr).modHost)) ?_
  refine .ite h.writeNdiv ?_
  refine .ite ((h.setRegs (fun g => g.mergeAt)).loadSeed) ?_
  refine .ite (.ite h.startForming h) ?_
  refine .ite ((h.setRegs (fun g => g.mergeAt)).wr) ?_
  refine .ite (.ite (h.setRegs (fun g => g.mergeAt)) h) ?_
  refine .ite (.orStay (execTripInput_canon (h.setRegs (fun g => g.mergeAt)))) ?_
  refine .ite ((h.setRegs (fun g => g.mergeAt)).updMeasTrip) ?_
  refine .ite (h.foldl (fun _ _ g => g.negotiateThread)) ?_
  refine .ite ((h.setRegs (fun g => g.mergeAt)).auxConfigured) ?_
  exact .ite h.setAuxRun (.ite h.commitDo (.ite h.commitRearm (.ite (.ite h.modPower h) (h.setRegs (fun g => g.mergeAt)))))

theorem State.Canon.commitReg {s : State} {who : Writer} {off : Nat} {v : Word} (h : s.Canon) :
    (s.commitReg who off v).Canon := by
  unfold State.commitReg
  refine .ite (h.bothLanes (fun _ g => g.modMeas (fun _ g1 => ⟨g1.fir.memWr⟩))) ?_
  refine .ite (h.modLane (fun _ g => g.setRegs (fun g1 => g1.mergeAt))) ?_
  split
  · exact h
  · refine .ite h.writeNow ?_
    refine .ite h.sluiceCommit ?_
    refine .ite h.laneWrite.laneWrite.measWritten ?_
    exact .ite h.laneWrite.laneWrite.soRequest (.ite h.laneWrite.laneWrite.negotiate (.ite
        h.laneWrite.laneWrite.updSo.updModule h.laneWrite.laneWrite))

theorem State.Canon.nextTap {s : State} (h : s.Canon) : s.nextTap.Canon := by
  unfold State.nextTap
  exact h.wr

theorem State.Canon.stageOff {s : State} {off : Nat} (h : s.Canon) : (s.stageOff off).2.Canon := by
  unfold State.stageOff
  split
  · exact h.nextTap
  · exact h

theorem State.Canon.stage {s : State} {off : Nat} {v : Word} (h : s.Canon) : (s.stage off v).Canon := by
  unfold State.stage
  exact .ite h.mmioRefuse h.stageOff.modHost

theorem State.Canon.commitStaged {s : State} {w : StagedWrite} (h : s.Canon) : (s.commitStaged w).Canon := by
  unfold State.commitStaged
  exact .ite h.commitReg (.ite h.commitReg h.mmioRefuse)

theorem State.Canon.legChange {s : State} {was : List Nat} {leg : Nat} (h : s.Canon) : (s.legChange was leg).Canon := by
  unfold State.legChange
  exact .ite (.ite h h.blockLeg) (.ite ((h.bothLanes (fun _ g => g.legOff)).modFaults) h)

theorem State.Canon.legsAfter {s after : State} (ha : after.Canon) : (s.legsAfter after).Canon := by
  unfold State.legsAfter
  exact ha.foldl (fun _ _ g => g.legChange)

theorem State.Canon.writeView {s : State} {i : LaneId} {off : Nat} {v : Word} (h : s.Canon) :
    (s.writeView i off v).Canon := by
  unfold State.writeView
  exact .ite h.stage (.ite h.writeViewOnly (.ite h.laneWrite.measWritten h.laneWrite))

theorem execLaneViewWrite_canon {who : Writer} {lane : LaneId} {off : Nat} {v : Word} {s : State} (h : s.Canon) :
    Outcome.Canon (execLaneViewWrite who lane off v s) := by
  unfold execLaneViewWrite
  refine .next ?_
  refine .ite h ?_
  split
  · exact .ite h.writeView h
  · exact .ite h.mmioRecord (.ite h.mmioRecord h.writeView)

theorem State.Canon.directWrite {s : State} {who : Writer} {off : Nat} {v : Word} (h : s.Canon) :
    (s.directWrite who off v).Canon := by
  unfold State.directWrite
  refine h.heardWrite ?_
  split
  · exact h.mmioRecord
  · exact .ite h.mmioRecord (.ite (.ite h.mmioRefuse h.writeNow) h.stage)

theorem State.Canon.barWrite {s : State} {who : Writer} {off : Nat} {v : Word} (h : s.Canon) :
    (s.barWrite who off v).Canon := by
  unfold State.barWrite
  exact .ite h.directWrite (.ite (.orStay (execLaneViewWrite_canon h)) (.ite (.orStay (execLaneViewWrite_canon h)) h))

theorem execRegWrite_canon {who : Writer} {off size : Nat} {v : BitVec 64} {s : State} (h : s.Canon) :
    Outcome.Canon (execRegWrite who off size v s) := by
  unfold execRegWrite
  exact .next (.ite h (.ite h.barWrite (.ite h.barWrite.barWrite h.mmioRecord)))

theorem execMaintReq_canon {p : Port} {v : Word} {s : State} (h : s.Canon) : Outcome.Canon (execMaintReq p v s) := by
  unfold execMaintReq
  refine .next ?_
  split
  · exact h.directWrite
  · exact h.directWrite
  · exact h

theorem execAngStep_canon {who : Writer} {src : Nat} {v : Word} {s : State} (h : s.Canon) :
    Outcome.Canon (execAngStep who src v s) := by
  unfold execAngStep
  exact .next h.directWrite

theorem execAngLoad_canon {who : Writer} {src : Nat} {v : Word} {s : State} (h : s.Canon) :
    Outcome.Canon (execAngLoad who src v s) := by
  unfold execAngLoad
  exact .next h.directWrite

theorem execFirDataWrite_canon {who : Writer} {v : Word} {s : State} (h : s.Canon) :
    Outcome.Canon (execFirDataWrite who v s) := by
  unfold execFirDataWrite
  exact .next h.directWrite

theorem execFirDataRead_canon {_who : Requester} {s : State} (h : s.Canon) : Outcome.Canon (execFirDataRead _who s) := by
  unfold execFirDataRead
  exact .next (h.readAfterBoot h.nextTap.returned)

theorem execPreset_canon {who : Writer} {sel : Word} {s : State} (h : s.Canon) :
    Outcome.Canon (execPreset who sel s) := by
  unfold execPreset
  exact .next h.directWrite

theorem execLegDis_canon {who : Writer} {upper : Bool} {v : Word} {s : State} (h : s.Canon) :
    Outcome.Canon (execLegDis who upper v s) := by
  unfold execLegDis
  exact .next h.directWrite

theorem execDisAll_canon {who : Writer} {v : Word} {s : State} (h : s.Canon) : Outcome.Canon (execDisAll who v s) := by
  unfold execDisAll
  exact .next h.directWrite

theorem execGlReneg_canon {who : Writer} {v : Word} {s : State} (h : s.Canon) : Outcome.Canon (execGlReneg who v s) := by
  unfold execGlReneg
  exact .next h.directWrite

theorem execAuxRun_canon {who : Writer} {ch : Nat} {v : Word} {s : State} (h : s.Canon) :
    Outcome.Canon (execAuxRun who ch v s) := by
  unfold execAuxRun
  exact .next h.directWrite

theorem execEnvelopeLock_canon {who : Writer} {v : Word} {s : State} (h : s.Canon) :
    Outcome.Canon (execEnvelopeLock who v s) := by
  unfold execEnvelopeLock
  exact .next h.directWrite

theorem execSoReq_canon {who : Writer} {n : Nat} {v : Word} {s : State} (h : s.Canon) :
    Outcome.Canon (execSoReq who n v s) := by
  unfold execSoReq
  exact .next h.directWrite

theorem execDoOut_canon {who : Writer} {v : Word} {s : State} (h : s.Canon) : Outcome.Canon (execDoOut who v s) := by
  unfold execDoOut
  exact .next h.directWrite

theorem execDoRearm_canon {who : Writer} {v : Word} {s : State} (h : s.Canon) : Outcome.Canon (execDoRearm who v s) := by
  unfold execDoRearm
  exact .next h.directWrite

theorem execClkNdiv_canon {who : Writer} {v : Word} {s : State} (h : s.Canon) : Outcome.Canon (execClkNdiv who v s) := by
  unfold execClkNdiv
  exact .next h.directWrite

theorem execClkDither_canon {who : Writer} {v : Word} {s : State} (h : s.Canon) :
    Outcome.Canon (execClkDither who v s) := by
  unfold execClkDither
  exact .next h.directWrite

theorem execGrpRestart_canon {who : Writer} {v : Word} {s : State} (h : s.Canon) :
    Outcome.Canon (execGrpRestart who v s) := by
  unfold execGrpRestart
  exact .next h.directWrite

theorem execSoftReset_canon {who : Writer} {v : Word} {s : State} (h : s.Canon) :
    Outcome.Canon (execSoftReset who v s) := by
  unfold execSoftReset
  exact .next h.directWrite

theorem execWdtService_canon {lane : LaneId} {s : State} (h : s.Canon) : Outcome.Canon (execWdtService lane s) := by
  unfold execWdtService
  exact .next h.writeViewOnly

/-! ### Packages, power and the host's commands -/

theorem State.Canon.putEnvelope {s : State} {ver : Nat} {dt pulse edge inner : Nat} {clamp : Bool} {bsOn bsOff corrMax :
    Nat} (h : s.Canon) :
    (s.putEnvelope ver dt pulse edge inner clamp bsOn bsOff corrMax).Canon := by
  unfold State.putEnvelope
  exact h.wr.wr.wr.wr.wr.wr.wr.wr.wr

theorem State.Canon.putMinima {s : State} {dt pulse edge inner : Nat} (h : s.Canon) :
    (s.putMinima dt pulse edge inner).Canon := by
  unfold State.putMinima
  exact h.wr.wr.wr.wr

theorem State.Canon.putSafety {s : State} {regs : List (Nat × Word)} (h : s.Canon) : (s.putSafety regs).Canon := by
  unfold State.putSafety
  exact h.foldl (fun _ _ g => g.mergeWords)

theorem State.Canon.startWrite {s : State} {c : Cmd} {type : Nat} {pkg : Package} (h : s.Canon) :
    (s.startWrite c type pkg).Canon := by
  unfold State.startWrite
  exact h.fresh.modSec.wr.wr

theorem State.Canon.writeSlot {s : State} {t : Nat} {pkg : Package} (h : s.Canon) : (s.writeSlot t pkg).Canon := by
  unfold State.writeSlot
  exact h.modSec.wr.wr.wr

theorem State.Canon.secDone {s : State} {c : Cmd} {type step : Nat} {r : Result} (h : s.Canon) :
    (s.secDone c type step r).Canon := by
  unfold State.secDone
  exact .complete (.ite (.raise (.ite h.wr.wr.wr.journalAdd h.wr.wr.wr)) (.ite h.wr.wr.wr.journalAdd h.wr.wr.wr))

theorem State.Canon.updEngine {s : State} (h : s.Canon) : s.updEngine.Canon := by
  unfold State.updEngine
  exact h.wr

theorem State.Canon.engineAdd {s : State} {o : EngOp} (h : s.Canon) : (s.engineAdd o).Canon := by
  unfold State.engineAdd
  exact h.modSec.updEngine

theorem State.Canon.engineNext {s : State} {ticks : Nat} (h : s.Canon) : (s.engineNext ticks).Canon := by
  unfold State.engineNext
  exact h.passTo.modSec.updEngine

theorem State.Canon.updToken {s : State} (h : s.Canon) : s.updToken.Canon := by
  unfold State.updToken
  split
  · exact h.wr
  · exact h

theorem execDebugTokenExpiry_canon {s : State} (h : s.Canon) : Outcome.Canon (execDebugTokenExpiry s) := by
  unfold execDebugTokenExpiry
  refine .next ?_
  split
  · exact h
  · exact h.passTo.endToken

theorem State.Canon.acceptToken {s : State} {scope : BitVec 4} {minutes : Nat} (h : s.Canon) :
    (s.acceptToken scope minutes).Canon := by
  unfold State.acceptToken
  exact h.renewNonce.modSec.wr.wr.wr

theorem State.Canon.checkedPkg {s : State} {c : Cmd} {type : Nat} {pkg : Package} (h : s.Canon) :
    (s.checkedPkg c type pkg).Canon := by
  unfold State.checkedPkg
  refine .ite h.startWrite ?_
  split
  · exact .ite h.acceptToken.secDone h.secDone
  · exact h.modSec

theorem State.Canon.endWrites {s : State} (h : s.Canon) : s.endWrites.Canon := by
  unfold State.endWrites
  refine h.modSec.foldl (fun _ _ g => ?_)
  dsimp only
  split
  · exact g.writeSlot.secDone
  · exact g.writeSlot

theorem execPackageCheckDone_canon {s : State} (h : s.Canon) : Outcome.Canon (execPackageCheckDone s) := by
  unfold execPackageCheckDone
  refine .next ?_
  split
  · exact .ite h.engineNext.secDone h.engineNext.checkedPkg
  · exact h

theorem State.Canon.applyPkg {s : State} {c : Cmd} {pkg : Package} (h : s.Canon) : (s.applyPkg c pkg).Canon := by
  unfold State.applyPkg
  refine .ite h.secDone ?_
  refine .secDone ?_
  split
  · exact h.putEnvelope
  · exact h.putSafety.wr.updSo.updModule
  · exact h.putMinima
  · exact h.modSec.wr.wr
  · exact h

theorem State.Canon.applyPackages {s : State} (h : s.Canon) : s.applyPackages.Canon := by
  unfold State.applyPackages
  exact h.modSec.foldl (fun _ _ g => g.applyPkg)

theorem State.Canon.fwStage {s : State} {c : Cmd} {type action : Nat} {pkg : Package} (h : s.Canon) :
    (s.fwStage c type action pkg).Canon := by
  unfold State.fwStage
  exact .ite h.engineAdd (.ite h.secDone h.wr.secDone)

theorem State.Canon.returnData {s : State} {c : Cmd} {bytes : List Byte} (h : s.Canon) :
    (s.returnData c bytes).Canon := by
  unfold State.returnData
  exact .ite h.modSec h.modHost

theorem State.Canon.attest {s : State} {c : Cmd} {nonce : List Byte} {mode : Nat} (h : s.Canon) :
    (s.attest c nonce mode).Canon := by
  unfold State.attest
  exact .ite h.returnData.secDone h.engineAdd

theorem execSigningDone_canon {rounds late : Nat} {s : State} (h : s.Canon) :
    Outcome.Canon (execSigningDone rounds late s) := by
  unfold execSigningDone
  refine .next ?_
  split
  · exact .ite h.engineNext.passTo.modSec.wr.wr.wr.secDone h.engineNext.passTo.modSec.wr.wr.wr.returnData.secDone
  · exact h

theorem State.Canon.noteAuthRecord {s : State} {c : Cmd} {p : Port} {op count : Nat} (h : s.Canon) :
    (State.noteAuth.record c s p op count).Canon := by
  unfold State.noteAuth.record
  exact h.modSec.journalAdd

theorem State.Canon.noteAuth {s : State} {c : Cmd} (h : s.Canon) : (s.noteAuth c).Canon := by
  unfold State.noteAuth
  dsimp only
  split
  · exact .ite h.modSec h.noteAuthRecord
  · exact h.noteAuthRecord

theorem State.Canon.laneKept {s : State} {mask : Nat → Word} {l : Lane} (h : s.Canon) (hl : l.Canon) :
    (s.laneKept mask l).Canon := by
  unfold State.laneKept
  refine ⟨?_, ⟨h.lane.meas.fir⟩, .reset, .reset⟩
  dsimp only
  exact h.lane.storedInc.keep.take hl.regs.keep

theorem State.Canon.sluiceKept {s : State} {mask : Nat → Word} (h : s.Canon) : RegFile.Canon (s.sluiceKept mask) := by
  unfold State.sluiceKept
  exact .ite h.regs.keep.wr.wr.wr.set.wr.wr.wr h.regs.keep.wr.wr.wr.set.wr.wr

theorem State.Canon.moduleReset {s : State} {sticky : Bool} (h : s.Canon) : (s.moduleReset sticky).Canon := by
  unfold State.moduleReset
  refine .renewNonce (.updDo (.updSo ⟨h.sluiceKept, ?_, ⟨.nil⟩, h.laneKept h.laneA, h.laneKept h.laneB⟩))
  exact (h.laneKept h.laneA).regs.mirrorOf

theorem State.Canon.enterReset {s : State} {cause : Nat} (h : s.Canon) : (s.enterReset cause).Canon := by
  unfold State.enterReset
  exact h.moduleReset.modPower

theorem State.Canon.freeBytes {s : State} {n : Nat} (h : s.Canon) : (State.freeBytes n s).2.Canon := by
  induction n generalizing s with
  | zero => exact h
  | succ n ih => exact ih h.fresh

theorem State.Canon.readCrust {s : State} (h : s.Canon) : s.readCrust.Canon := by
  unfold State.readCrust
  exact .ite ((((((h.foldl (fun _ _ g => g.commitRecord)).updJrnl).wr).modJournal).wr).journalAdd)
      h.wr.modJournal.freeBytes.wr.journalAdd

theorem State.Canon.boot {s : State} {cause : Nat} {stuck : Bool} {lowMs : Nat} (h : s.Canon) :
    (s.boot cause stuck lowMs).Canon := by
  unfold State.boot
  refine .foldl ?_ (fun _ _ g => .orStay (execTripInput_canon g))
  refine .ite ?_ (.journalAdd (.wr (.wr (.readCrust (h.moduleReset.modPower.modMod (fun _ g => ⟨g.setpoints⟩))))))
  exact .levelOn (.wr (.journalAdd (.wr (.wr (.readCrust (h.moduleReset.modPower.modMod (fun _ g => ⟨g.setpoints⟩)))))))

theorem State.Canon.orderedReset {s : State} {cause : Nat} (h : s.Canon) : (s.orderedReset cause).Canon := by
  unfold State.orderedReset
  exact h.blockAll.pass.commitJournal.enterReset

theorem State.Canon.softReset {s : State} (h : s.Canon) : s.softReset.Canon := by
  unfold State.softReset
  exact .ite h.orderedReset.boot h

theorem State.Canon.startShutdown {s : State} {cause : Nat} (h : s.Canon) : (s.startShutdown cause).Canon := by
  unfold State.startShutdown
  exact .journalAdd (.modPower (h.blockAll.modJournal.modMod (fun _ g => ⟨g.setpoints⟩)))

theorem State.Canon.endShutdown {s : State} (h : s.Canon) : s.endShutdown.Canon := by
  unfold State.endShutdown
  exact .ite h.enterReset.modPower.boot h.enterReset.modPower

theorem State.Canon.finishShutdown {s : State} (h : s.Canon) : s.finishShutdown.Canon := by
  unfold State.finishShutdown
  split
  · exact h
  · exact h.passTo.commitJournal.modJournal.passTo.endShutdown

theorem execJournalCommit_canon {s : State} (h : s.Canon) : Outcome.Canon (execJournalCommit s) := by
  unfold execJournalCommit
  exact .next (.ite h.finishShutdown h.commitJournal)

theorem tick_canon {s : State} (h : s.Canon) : (tick s).Canon := by
  unfold tick
  exact .ite h.pass.finishShutdown h.pass

theorem execPgoodFall_canon {s : State} (h : s.Canon) : Outcome.Canon (execPgoodFall s) := by
  unfold execPgoodFall
  exact .next (.ite h (.ite h.modPower h.modPower.startShutdown))

theorem execVholdLow_canon {s : State} (h : s.Canon) : Outcome.Canon (execVholdLow s) := by
  unfold execVholdLow
  exact .next (.ite h.endShutdown h.fresh.wr.wr)

theorem execPor_canon {s : State} (h : s.Canon) : Outcome.Canon (execPor s) := by
  unfold execPor
  exact .next (.ite h (.ite h.modPower.finishShutdown (.ite h.modPower (.ite h.modPower.boot (.ite h.modPower.modPower
      h.modPower.boot)))))

theorem execBodWarn_canon {millivolts : Nat} {s : State} (h : s.Canon) : Outcome.Canon (execBodWarn millivolts s) := by
  unfold execBodWarn
  refine .next ?_
  refine .ite h ?_
  exact .ite h.modPower (.ite h.modPower.wr.wr.bump.levelOn.raise.commitJournal
      h.modPower.wr.wr.bump.levelOn.cause.journalAdd.modPower.commitJournal)

theorem execBod_canon {s : State} (h : s.Canon) : Outcome.Canon (execBod s) := by
  unfold execBod
  refine .next ?_
  split
  · exact h
  · exact .ite h h.passTo.cause

theorem execBodRecovery_canon {s : State} (h : s.Canon) : Outcome.Canon (execBodRecovery s) := by
  unfold execBodRecovery
  exact .next h.modPower.wr.levelOff.causeEnd

theorem execBor_canon {s : State} (h : s.Canon) : Outcome.Canon (execBor s) := by
  unfold execBor
  exact .next (.ite h.modPower (.ite h.modPower (.startShutdown (.ite h h.cause))))

theorem execBorRelease_canon {s : State} (h : s.Canon) : Outcome.Canon (execBorRelease s) := by
  unfold execBorRelease
  exact .next (.ite h.finishShutdown (.ite h.finishShutdown.modPower h.finishShutdown.boot))

theorem execVbatLow_canon {s : State} (h : s.Canon) : Outcome.Canon (execVbatLow s) := by
  unfold execVbatLow
  exact .next h.modJournal

theorem execPinReset_canon {s : State} (h : s.Canon) : Outcome.Canon (execPinReset s) := by
  unfold execPinReset
  exact .next (.ite h (.ite h.modPower (.ite h.boot (.ite h.modPower.modPower (.ite h.modPower h.modPower.orderedReset)))))

theorem execRstNRelease_canon {s : State} (h : s.Canon) : Outcome.Canon (execRstNRelease s) := by
  unfold execRstNRelease
  refine .next ?_
  split
  · exact h
  · exact .ite h.modPower h.modPower.boot

theorem execStuckReset_canon {s : State} (h : s.Canon) : Outcome.Canon (execStuckReset s) := by
  unfold execStuckReset
  refine .next ?_
  split
  · exact h
  · exact .ite h (.ite h.passTo.modJournal.modPower h.passTo.modJournal.modPower.modPower.boot)

theorem execRstNRearm_canon {s : State} (h : s.Canon) : Outcome.Canon (execRstNRearm s) := by
  unfold execRstNRearm
  exact .next (.ite h h.modPower)

theorem State.Canon.endpointReset {s : State} (h : s.Canon) : s.endpointReset.Canon := by
  unfold State.endpointReset
  exact ((((((h.setRegs (fun g => g.keep.wr)).modHost).modSec).modEic).foldl (fun _ _ g =>
      g.levelOff)).updEngine).resetToken

theorem execPerst_canon {s : State} (h : s.Canon) : Outcome.Canon (execPerst s) := by
  unfold execPerst
  exact .next (.ite h.boot h.endpointReset)

theorem execFlr_canon {s : State} (h : s.Canon) : Outcome.Canon (execFlr s) := by
  unfold execFlr
  exact .next h.endpointReset

theorem State.Canon.slotFailed {s : State} {t b : Nat} (h : s.Canon) : (s.slotFailed t b).Canon := by
  unfold State.slotFailed
  exact .ite h.failSlot h

theorem State.Canon.takeSlot {s : State} {t b : Nat} {fallback : Bool} (h : s.Canon) :
    (s.takeSlot t b fallback).Canon := by
  unfold State.takeSlot
  refine .journalAdd ?_
  split
  · exact h.wr.wr.wr
  · exact h

theorem State.Canon.chooseSlot {s : State} {t : Nat} (h : s.Canon) : (s.chooseSlot t).1.Canon := by
  unfold State.chooseSlot
  dsimp only
  split
  · exact h.takeSlot
  · split
    · exact h.slotFailed.takeSlot
    · exact h.slotFailed.slotFailed

theorem State.Canon.raiseTrips {s : State} (h : s.Canon) : s.raiseTrips.Canon := by
  unfold State.raiseTrips
  exact h.foldl (fun _ _ g => .ite g.maskCause g)

theorem State.Canon.loadPackages {s : State} (h : s.Canon) : s.loadPackages.Canon := by
  unfold State.loadPackages
  dsimp only
  split
  · refine .raiseTrips ?_
    refine .setThreads ?_
    refine .modMod ?_ (fun _ g => ⟨g.setpoints⟩)
    refine .bothLanes ?_ (fun _ g => g.setCle (fun g1 => g1.load))
    split
    · exact h.wr.wr
    · exact h
  · split
    · exact h.wr.wr
    · exact h

theorem State.Canon.noteStep {s : State} {k : Nat} (h : s.Canon) : (s.noteStep k).Canon := by
  unfold State.noteStep
  exact h.modMod (fun _ g => ⟨g.setpoints⟩)

theorem State.Canon.checkFailed {s : State} (h : s.Canon) : s.checkFailed.Canon := by
  unfold State.checkFailed
  exact (h.wr.modHost.foldl (fun _ _ g => g.complete)).foldl (fun _ _ g => g.mmioRefuse)

theorem execLaneImagesLoaded_canon {s : State} (h : s.Canon) : Outcome.Canon (execLaneImagesLoaded s) := by
  unfold execLaneImagesLoaded
  refine .next ?_
  refine .ite h ?_
  refine .updModule ?_
  refine .modMod ?_ (fun _ g => ⟨g.setpoints⟩)
  refine .noteStep ?_
  refine .wr ?_
  refine .ite ?_ (.checkFailed (.foldlFst (.ite h h.takeLock) (fun _ _ g => g.chooseSlot)))
  exact .bothLanes (.loadPackages (.foldlFst (.ite h h.takeLock) (fun _ _ g => g.chooseSlot))) (fun _ g => g.congr rfl)

theorem State.Canon.bothFailed {s : State} (h : s.Canon) : s.bothFailed.Canon := by
  unfold State.bothFailed
  exact h.checkFailed

theorem execLaneSelfTestDone_canon {lane : LaneId} {ok : Bool} {s : State} (h : s.Canon) :
    Outcome.Canon (execLaneSelfTestDone lane ok s) := by
  unfold execLaneSelfTestDone
  refine .next ?_
  refine .ite h ?_
  refine .ite ?_ ?_
  · exact .bootFail (.bothFailed (.ite (.noteStep (h.modMod (fun _ g => ⟨g.setpoints⟩))) (.setLaneState (.noteStep
      (h.modMod (fun _ g => ⟨g.setpoints⟩))))))
  · exact .ite (.noteStep (h.modMod (fun _ g => ⟨g.setpoints⟩))) (.setLaneState (.noteStep (h.modMod (fun _ g =>
      ⟨g.setpoints⟩))))

theorem State.Canon.dozeHandshake {s : State} {verA verB : Byte} (h : s.Canon) : (s.dozeHandshake verA verB).Canon := by
  unfold State.dozeHandshake
  split
  · exact h
  · exact .ite h (.ite (h.passTo.modMod (fun _ g => ⟨g.setpoints⟩)) (.setLaneState (h.passTo.modMod (fun _ g =>
      ⟨g.setpoints⟩))))

/-- The Sluice takes the active lane's registers as its mirror. -/
theorem State.Canon.takeMirror {s : State} (h : s.Canon) :
    State.Canon { s with mirror := mirrorOf (s.lane s.active).regs } :=
  ⟨h.regs, h.lane.regs.mirrorOf, h.mod, h.laneA, h.laneB⟩

theorem execIroloHandshake_canon {verA verB : BitVec 8} {s : State} (h : s.Canon) :
    Outcome.Canon (execIroloHandshake verA verB s) := by
  unfold execIroloHandshake
  refine .next (.ite h.dozeHandshake (.ite h ?_))
  extract_lets want tested okA okB s1 s2 s3 s4 s5 s6 s7 s8
  have h1 : s1.Canon := h.modMod fun _ g => ⟨g.setpoints⟩
  have h2 : s2.Canon := .ite h1.setLaneState h1
  have h3 : s3.Canon := .ite h2.setLaneState h2
  have h4 : s4.Canon := h3.wr.setLaneState
  have h5 : s5.Canon := .ite h4.setLaneState h4
  have h8 : s8.Canon := h5.startCarriers.noteStep.takeMirror.foldl fun _ _ g => g.negotiateThread
  exact .ite h3.bothFailed (.ite h8.startForming h8)

theorem State.Canon.proveSlots {s : State} (h : s.Canon) : s.proveSlots.Canon := by
  unfold State.proveSlots
  exact h.foldl (fun _ _ g => .ite g.wr.wr g)

theorem State.Canon.chargeHold {s : State} (h : s.Canon) : s.chargeHold.Canon := by
  unfold State.chargeHold
  exact h.fresh.wr.wr

theorem State.Canon.updHold {s : State} (h : s.Canon) : s.updHold.Canon := by
  unfold State.updHold
  exact .ite h h.wr

theorem State.Canon.stepEnd {s : State} {k : Nat} (h : s.Canon) : (s.stepEnd k).2.Canon := by
  unfold State.stepEnd
  split
  · exact h
  · exact h.fresh

theorem State.Canon.noteReady {s : State} (h : s.Canon) : s.noteReady.Canon := by
  unfold State.noteReady
  extract_lets ms f s' r
  have hr : r.2.Canon := h.fresh.wr.wr.foldlSnd fun _ _ g => by dsimp only; exact g.stepEnd
  exact hr.journalAdd

theorem execStartUpDone_canon {s : State} (h : s.Canon) : Outcome.Canon (execStartUpDone s) := by
  unfold execStartUpDone
  exact .next (.ite h (.updModule (.noteReady (.chargeHold (.proveSlots (.updCauseBits (.modFaults (h.modMod (fun _ g =>
      ⟨g.setpoints⟩)))))))))

theorem execBootAttemptTimeout_canon {s : State} (h : s.Canon) : Outcome.Canon (execBootAttemptTimeout s) := by
  unfold execBootAttemptTimeout
  exact .next (.ite h h.passTo.bootFail)

theorem State.Canon.notePower {s : State} {new : Nat} (h : s.Canon) : (s.notePower new).Canon := by
  unfold State.notePower
  exact h.raise.journalAdd

theorem State.Canon.shelve {s : State} (h : s.Canon) : s.shelve.Canon := by
  unfold State.shelve
  exact h.notePower.commitJournal.enterReset.modPower

theorem State.Canon.enterPower {s : State} {new : Nat} (h : s.Canon) : (s.enterPower new).Canon := by
  unfold State.enterPower
  exact .ite h.shelve (.ite h.notePower.wr.setLaneState h.notePower.wr)

theorem State.Canon.powerBoundary {s : State} (h : s.Canon) : s.powerBoundary.Canon := by
  unfold State.powerBoundary
  exact .ite h.wr.wr (.ite h.wr.wr.enterPower (.ite (.ite h.wr.wr.notePower.wr h.wr.wr.startExit) h.wr.wr))

theorem State.Canon.returnLane {s : State} (h : s.Canon) : s.returnLane.Canon := by
  unfold State.returnLane
  refine .ite h (.setLaneState (.modDuplex (.wr (.modLane (h.modLane fun _ g => ?_) fun _ g => g.modSmon))))
  exact .takeFinal (.takeBulk ⟨g.regs.keep, ⟨h.lane.meas.fir⟩, .reset, .reset⟩ h.lane) h.lane

theorem execPowerStateExitDone_canon {s : State} (h : s.Canon) : Outcome.Canon (execPowerStateExitDone s) := by
  unfold execPowerStateExitDone
  refine .next ?_
  split
  · exact h
  · dsimp only
    split
    · exact .raise (.modPower (.wr (.wr (.notePower (.ite ((h.passTo.modLane (fun _ g => g.foldl (fun _ _ g1 =>
        g1.clearChan))).returnLane) h.passTo)))))
    · exact .modPower (.wr (.wr (.notePower (.ite ((h.passTo.modLane (fun _ g => g.foldl (fun _ _ g1 =>
        g1.clearChan))).returnLane) h.passTo))))

theorem execWake_canon {kind index : Nat} {s : State} (h : s.Canon) : Outcome.Canon (execWake kind index s) := by
  unfold execWake
  refine .next ?_
  refine .ite h ?_
  split
  · exact h
  · exact .ite (h.foldl (fun _ _ g => g.wr)) (((((h.foldl (fun _ _ g => g.wr)).wr).wr).startExit).modPower)

theorem execShelvedExit_canon {s : State} (h : s.Canon) : Outcome.Canon (execShelvedExit s) := by
  unfold execShelvedExit
  exact .next (.ite h.modPower.boot h)

theorem State.Canon.stagePairs {s : State} {ps : List (Nat × Word)} (h : s.Canon) : (s.stagePairs ps).1.Canon := by
  induction ps generalizing s with
  | nil => exact h
  | cons p t ih => exact ih h.stageOff

theorem State.Canon.stageBody {s : State} {c : HostCmd} (h : s.Canon) : (s.stageBody c).1.Canon := by
  unfold State.stageBody
  split
  · exact h.stagePairs
  · exact h

theorem State.Canon.staged {s : State} {c : Cmd} (h : s.Canon) : (s.staged c).2.Canon := by
  unfold State.staged
  split
  · exact .ite h.noteAuth h
  · exact h.stageBody

theorem State.Canon.armThread {s : State} {t : Nat} (h : s.Canon) : (s.armThread t).Canon := by
  unfold State.armThread
  exact h.setThread.foldl (fun _ _ g => (g.bothLanes (fun _ g1 => g1.legOff)).modFaults)

theorem State.Canon.cmdArm {s : State} {thr : BitVec 8} (h : s.Canon) : (s.cmdArm thr).1.Canon := by
  unfold State.cmdArm
  split
  · exact h
  · split
    · exact h
    · exact (h.foldl (fun _ _ g => g.armThread)).updModule

theorem State.Canon.disarmThread {s : State} {t : Nat} (h : s.Canon) : (s.disarmThread t).Canon := by
  unfold State.disarmThread
  exact h.blockThread.setThread.modMod (fun _ g => ⟨g.setpoints⟩)

theorem State.Canon.cmdDisarm {s : State} {thr : BitVec 8} (h : s.Canon) : (s.cmdDisarm thr).1.Canon := by
  unfold State.cmdDisarm
  split
  · exact h
  · split
    · exact h
    · exact (h.foldl (fun _ _ g => g.disarmThread)).updModule

theorem State.Canon.modeThread {s : State} {mode : BitVec 16} {t : Nat} (h : s.Canon) : (s.modeThread mode t).Canon := by
  unfold State.modeThread
  exact .ite (.ite h.writeSetpoint (h.writeSetpoint.modMod (fun _ g => ⟨g.setpoints⟩))) (h.writeSetpoint.setThread.modMod
      (fun _ g => ⟨g.setpoints⟩))

theorem State.Canon.cmdSetMode {s : State} {thr : BitVec 8} {mode : BitVec 16} (h : s.Canon) :
    (s.cmdSetMode thr mode).1.Canon := by
  unfold State.cmdSetMode
  dsimp only
  split
  · exact h
  · split
    · split
      · exact h
      · exact ((h.foldl (fun _ _ g => g.modeThread)).lawModeSet).updModule
    · split
      · exact h
      · exact ((h.foldl (fun _ _ g => g.modeThread)).lawModeSet).updModule

theorem State.Canon.cmdSetpoint {s : State} {ps : List (Nat × Nat × Word)} (h : s.Canon) :
    (s.cmdSetpoint ps).1.Canon := by
  unfold State.cmdSetpoint
  exact h.foldl (fun _ _ g => g.writeSetpoint)

theorem State.Canon.cmdSegment {s : State} {b : SegBody} (h : s.Canon) : (s.cmdSegment b).1.Canon := by
  unfold State.cmdSegment
  split
  · dsimp only
    exact .modLane (h.modLane fun _ g => g.queueSeg) fun _ g => g.queueSeg
  · exact h
  · exact h

theorem State.Canon.cmdTrajStop {s : State} {u : BitVec 4} (h : s.Canon) : (s.cmdTrajStop u).1.Canon := by
  unfold State.cmdTrajStop
  dsimp only
  exact h.bothLanes (fun _ g => g.congr rfl)

theorem State.Canon.cmdGroupStart {s : State} {u : BitVec 4} {at_ : DWord} (h : s.Canon) :
    (s.cmdGroupStart u at_).1.Canon := by
  unfold State.cmdGroupStart
  split
  · exact h
  · split
    · exact h
    · exact .ite h.scheduleStart.grpSend h.scheduleStart

theorem State.Canon.mergePairs {s : State} {ps : List (Nat × Word)} (h : s.Canon) : (s.mergePairs ps).Canon := by
  unfold State.mergePairs
  exact h.foldl (fun _ _ g => .ite g.mergeWords g)

theorem State.Canon.commitPair {s : State} {x : Nat × Word} (h : s.Canon) : (s.commitPair x).Canon := by
  unfold State.commitPair
  split
  · exact h.writeView
  · exact h.commitReg

theorem State.Canon.cmdWriteRegs {s : State} {ps : List (Nat × Word)} (h : s.Canon) : (s.cmdWriteRegs ps).1.Canon := by
  unfold State.cmdWriteRegs
  split
  · exact h
  · exact h.foldl (fun _ _ g => g.commitPair)

theorem State.Canon.cmdIoWrite {s : State} {mask val : BitVec 16} (h : s.Canon) : (s.cmdIoWrite mask val).1.Canon := by
  unfold State.cmdIoWrite
  split
  · exact h
  · dsimp only
    exact h.commitDo.modHost

theorem State.Canon.cmdReadSnapshot {s : State} {c : Cmd} {set mode len : Nat} (h : s.Canon) :
    (s.cmdReadSnapshot c set mode len).1.Canon := by
  unfold State.cmdReadSnapshot
  split
  · exact h
  · split
    · exact h
    · split
      · exact h.returnData
      · exact h

theorem State.Canon.cmdJournalRead {s : State} {c : Cmd} {first : Word} {count : Nat} (h : s.Canon) :
    (s.cmdJournalRead c first count).1.Canon := by
  unfold State.cmdJournalRead
  refine .returnData ?_
  split
  · exact h
  · exact h.fresh

theorem State.Canon.cmdLoadCoeff {s : State} {ctx bank off : Nat} {ws : List Word} (h : s.Canon) :
    (s.cmdLoadCoeff ctx bank off ws).1.Canon := by
  unfold State.cmdLoadCoeff
  extract_lets l swapped bankNow active pend put
  have hp : ∀ l : Lane, l.Canon → (put l).Canon := fun _ g =>
    g.foldl fun _ _ g1 => g1.modCle fun _ g2 => ⟨g2.data.memWr, g2.descs, g2.binds, g2.nodes, g2.probes⟩
  split
  · exact h
  · split
    · exact h
    · exact (h.bothLanes hp).renewRegion

theorem State.Canon.cmdSwapBank {s : State} {cs : List Nat} {bumpless : Bool} (h : s.Canon) :
    (s.cmdSwapBank cs bumpless).1.Canon := by
  unfold State.cmdSwapBank
  extract_lets l marks swap
  have hp : ∀ (l : Lane) c, l.Canon → (swap l c).Canon := fun _ _ g => .ite g.swapBank.wr g.swapBank
  split
  · exact h
  · split
    · exact h
    · dsimp only
      exact (h.bothLanes fun _ g => g.foldl hp).modHost

theorem State.Canon.cmdLoadProgram {s : State} {img : Image} (h : s.Canon) : (s.cmdLoadProgram img).1.Canon := by
  unfold State.cmdLoadProgram
  split
  · exact h.bothLanes (fun _ g => g.wr.wr)
  · split
    · exact h
    · exact (h.bothLanes (fun _ g => g.setCle (fun g1 => g1.load))).renewRegion

theorem State.Canon.cmdSchedWrite {s : State} {first : Nat} {es : List EntryWords} (h : s.Canon) :
    (s.cmdSchedWrite first es).1.Canon := by
  unfold State.cmdSchedWrite
  dsimp only
  split
  · exact h
  · exact h.foldl (fun _ _ g => g.commitReg.commitReg.commitReg)

theorem State.Canon.eachLane {s : State} {f : State → LaneId → State} (h : s.Canon)
    (hf : ∀ s i, s.Canon → (f s i).Canon) : (s.eachLane f).Canon := hf _ _ (hf _ _ h)

theorem State.Canon.cmdRecArm {s : State} (h : s.Canon) : s.cmdRecArm.1.Canon := by
  unfold State.cmdRecArm
  dsimp only
  split
  · exact h
  · split
    · exact h
    · dsimp only
      exact h.eachLane fun _ _ g => g.recFill

theorem State.Canon.cmdRecStop {s : State} (h : s.Canon) : s.cmdRecStop.1.Canon := by
  unfold State.cmdRecStop
  dsimp only
  exact h.eachLane (fun _ _ g => g.recStop)

theorem State.Canon.cmdRakeStart {s : State} {frames : Word} (h : s.Canon) : (s.cmdRakeStart frames).1.Canon := by
  unfold State.cmdRakeStart
  dsimp only
  exact h.eachLane (fun _ _ g => g.rakeStart)

theorem State.Canon.cmdInject {s : State} {b : InjBody} (h : s.Canon) : (s.cmdInject b).1.Canon := by
  unfold State.cmdInject
  split
  · exact h
  · split
    · exact h
    · dsimp only
      exact h.eachLane fun _ _ g => g.injectStart

theorem State.Canon.clearTarget {s : State} {scope : Scope} {cleared refused : Fld} {f : State → State} (h : s.Canon)
    (hf : ∀ s, s.Canon → (f s).Canon) : (s.clearTarget scope cleared refused f).Canon := by
  unfold State.clearTarget
  split
  · exact h
  · exact (hf _ h).wr
  · exact h.wr

theorem State.Canon.cmdClearFault {s : State} {thr : BitVec 8} {aux : BitVec 4} {module : Bool} (h : s.Canon) :
    (s.cmdClearFault thr aux module).1.Canon := by
  unfold State.cmdClearFault
  split
  · exact h
  · split
    · exact h
    · refine .updModule ?_
      refine .updCauseBits ?_
      refine .ite ?_ ?_
      · refine .clearTarget ?_ (fun _ g => g.clearModule)
        exact ((h.setRegs (fun g => g.set)).foldl (fun _ _ g => g.clearTarget (fun _ g1 => g1.clearThread))).foldl (fun _
            _ g => g.clearTarget (fun _ g1 => g1.dropCauses.clearAux))
      · exact ((h.setRegs (fun g => g.set)).foldl (fun _ _ g => g.clearTarget (fun _ g1 => g1.clearThread))).foldl (fun _
          _ g => g.clearTarget (fun _ g1 => g1.dropCauses.clearAux))

theorem State.Canon.cmdLockoutReset {s : State} {tag : Word} (h : s.Canon) : (s.cmdLockoutReset tag).1.Canon := by
  unfold State.cmdLockoutReset
  split
  · exact h
  · split
    · exact h
    · split
      · exact h
      · exact h.endLockout

theorem State.Canon.cmdLaneControl {s : State} {i : LaneId} {action : Nat} (h : s.Canon) :
    (s.cmdLaneControl i action).1.Canon := by
  unfold State.cmdLaneControl
  split
  · exact h.laneControl
  · exact h

theorem State.Canon.cmdTimeAdjust {s : State} {mode : Nat} {sec : BitVec 64} {nsec : Word} (h : s.Canon) :
    (s.cmdTimeAdjust mode sec nsec).1.Canon := by
  unfold State.cmdTimeAdjust
  exact h.timeAdjust

theorem State.Canon.cmdAttest {s : State} {mode : Nat} (h : s.Canon) : (s.cmdAttest mode).1.Canon := by
  unfold State.cmdAttest
  split
  · exact h
  · split <;> exact h

theorem State.Canon.cmdFwStage {s : State} {type action : Nat} (h : s.Canon) : (s.cmdFwStage type action).1.Canon := by
  unfold State.cmdFwStage
  split <;> exact h

theorem State.Canon.runCmd {s : State} {c : Cmd} (h : s.Canon) : (s.runCmd c).1.Canon := by
  unfold State.runCmd
  split
  · exact h
  · exact h.cmdSetpoint
  · exact h.cmdSegment
  · exact h.cmdTrajStop
  · exact h.cmdSetMode
  · exact h.cmdArm
  · exact h.cmdDisarm
  · exact h.cmdWriteRegs
  · exact h.cmdReadSnapshot
  · exact h.cmdLoadCoeff
  · exact h.cmdSwapBank
  · exact h.cmdLoadProgram
  · exact h.cmdSchedWrite
  · exact h.cmdRecArm
  · exact h.cmdRecStop
  · exact h.cmdRakeStart
  · exact h.cmdInject
  · exact h.cmdJournalRead
  · exact h.cmdIoWrite
  · exact h.cmdClearFault
  · exact h.cmdAttest
  · exact h.cmdTimeAdjust
  · exact h.cmdGroupStart
  · exact h.cmdLaneControl
  · exact h.cmdFwStage
  · exact h.cmdLockoutReset
  · exact h

theorem State.Canon.commitCmd {s : State} {c : Cmd} (h : s.Canon) : (s.commitCmd c).1.Canon := by
  unfold State.commitCmd
  split
  · exact h
  · exact h.runCmd

theorem State.Canon.dropCmd {s : State} {c : Cmd} (h : s.Canon) : (s.dropCmd c).Canon := by
  unfold State.dropCmd
  exact h.modHost

theorem State.Canon.snapNow {s : State} {c : Cmd} {set : Nat} (h : s.Canon) : (s.snapNow c set).Canon := by
  unfold State.snapNow
  exact .ite h.takeSnap.returnData.complete h.takeSnap.dropCmd.modHost

theorem State.Canon.finishCmd {s : State} {c : Cmd} {r : Option Result} (h : s.Canon) : (s.finishCmd c r).Canon := by
  unfold State.finishCmd
  split
  · exact h.secDone
  · exact h.dropCmd.attest
  · exact h.secDone
  · exact h.dropCmd.fwStage
  · exact h.snapNow
  · exact .complete (.ite h h.lockoutRefused)
  · exact h.complete

theorem State.Canon.doCmd {s : State} {c : Cmd} (h : s.Canon) : (s.doCmd c).Canon := by
  unfold State.doCmd
  exact h.commitCmd.legsAfter.finishCmd

theorem State.Canon.route {s : State} {c : Cmd} {wait : State → Cmd → State} (h : s.Canon)
    (hw : ∀ s c, s.Canon → (wait s c).Canon) : (s.route c wait).Canon :=
  .ite h.doCmd (.ite h.finishCmd (hw _ _ h))

theorem State.Canon.direct {s : State} {h : Hdr} {cmd : HostCmd} (hs : s.Canon) : (s.direct h cmd).Canon := by
  unfold State.direct
  exact hs.modHost.staged.route (fun _ _ g => .ite g.modHost g.doCmd.softReset)

theorem execNop_canon {h : Hdr} {s : State} (hs : s.Canon) : Outcome.Canon (execNop h s) := by
  unfold execNop
  exact .next hs.direct

theorem execSetSetpoint_canon {h : Hdr} {pairs : List (Nat × Nat × Word)} {s : State} (hs : s.Canon) :
    Outcome.Canon (execSetSetpoint h pairs s) := by
  unfold execSetSetpoint
  exact .next hs.direct

theorem execTrajSegment_canon {h : Hdr} {b : SegBody} {s : State} (hs : s.Canon) :
    Outcome.Canon (execTrajSegment h b s) := by
  unfold execTrajSegment
  exact .next hs.direct

theorem execTrajStop_canon {h : Hdr} {units : BitVec 4} {s : State} (hs : s.Canon) :
    Outcome.Canon (execTrajStop h units s) := by
  unfold execTrajStop
  exact .next hs.direct

theorem execSetMode_canon {h : Hdr} {thr : BitVec 8} {mode : BitVec 16} {s : State} (hs : s.Canon) :
    Outcome.Canon (execSetMode h thr mode s) := by
  unfold execSetMode
  exact .next hs.direct

theorem execArm_canon {h : Hdr} {thr : BitVec 8} {s : State} (hs : s.Canon) : Outcome.Canon (execArm h thr s) := by
  unfold execArm
  exact .next hs.direct

theorem execDisarm_canon {h : Hdr} {thr : BitVec 8} {s : State} (hs : s.Canon) : Outcome.Canon (execDisarm h thr s) := by
  unfold execDisarm
  exact .next hs.direct

theorem execWriteRegs_canon {h : Hdr} {buffered : Bool} {pairs : List (Nat × Word)} {s : State} (hs : s.Canon) :
    Outcome.Canon (execWriteRegs h buffered pairs s) := by
  unfold execWriteRegs
  exact .next hs.direct

theorem execReadSnapshot_canon {h : Hdr} {set mode : Nat} {bufLen : Nat} {s : State} (hs : s.Canon) :
    Outcome.Canon (execReadSnapshot h set mode bufLen s) := by
  unfold execReadSnapshot
  exact .next hs.direct

theorem execLoadCoeff_canon {h : Hdr} {ctx bank offset : Nat} {words : List Word} {s : State} (hs : s.Canon) :
    Outcome.Canon (execLoadCoeff h ctx bank offset words s) := by
  unfold execLoadCoeff
  exact .next hs.direct

theorem execSwapBank_canon {h : Hdr} {ctxs : List Nat} {bumpless : Bool} {s : State} (hs : s.Canon) :
    Outcome.Canon (execSwapBank h ctxs bumpless s) := by
  unfold execSwapBank
  exact .next hs.direct

theorem execLoadProgram_canon {h : Hdr} {img : Image} {s : State} (hs : s.Canon) :
    Outcome.Canon (execLoadProgram h img s) := by
  unfold execLoadProgram
  exact .next hs.direct

theorem execSchedWrite_canon {h : Hdr} {first : Nat} {entries : List EntryWords} {s : State} (hs : s.Canon) :
    Outcome.Canon (execSchedWrite h first entries s) := by
  unfold execSchedWrite
  exact .next hs.direct

theorem execRecArm_canon {h : Hdr} {s : State} (hs : s.Canon) : Outcome.Canon (execRecArm h s) := by
  unfold execRecArm
  exact .next hs.direct

theorem execRecStop_canon {h : Hdr} {s : State} (hs : s.Canon) : Outcome.Canon (execRecStop h s) := by
  unfold execRecStop
  exact .next hs.direct

theorem execRakeStart_canon {h : Hdr} {frames : Word} {s : State} (hs : s.Canon) :
    Outcome.Canon (execRakeStart h frames s) := by
  unfold execRakeStart
  exact .next hs.direct

theorem execInjectStart_canon {h : Hdr} {b : InjBody} {s : State} (hs : s.Canon) :
    Outcome.Canon (execInjectStart h b s) := by
  unfold execInjectStart
  exact .next hs.direct

theorem execJournalRead_canon {h : Hdr} {firstSeq : Word} {count bufLen : Nat} {s : State} (hs : s.Canon) :
    Outcome.Canon (execJournalRead h firstSeq count bufLen s) := by
  unfold execJournalRead
  exact .next hs.direct

theorem execIoWrite_canon {h : Hdr} {mask val : BitVec 16} {s : State} (hs : s.Canon) :
    Outcome.Canon (execIoWrite h mask val s) := by
  unfold execIoWrite
  exact .next hs.direct

theorem execClearFault_canon {h : Hdr} {thr : BitVec 8} {aux : BitVec 4} {module : Bool} {s : State} (hs : s.Canon) :
    Outcome.Canon (execClearFault h thr aux module s) := by
  unfold execClearFault
  exact .next hs.direct

theorem execAttest_canon {h : Hdr} {nonce : List Byte} {mode bufLen : Nat} {s : State} (hs : s.Canon) :
    Outcome.Canon (execAttest h nonce mode bufLen s) := by
  unfold execAttest
  exact .next hs.direct

theorem execTimeAdjust_canon {h : Hdr} {mode : Nat} {sec : BitVec 64} {nsec : Word} {s : State} (hs : s.Canon) :
    Outcome.Canon (execTimeAdjust h mode sec nsec s) := by
  unfold execTimeAdjust
  exact .next hs.direct

theorem execGroupStart_canon {h : Hdr} {units : BitVec 4} {tStart : BitVec 64} {s : State} (hs : s.Canon) :
    Outcome.Canon (execGroupStart h units tStart s) := by
  unfold execGroupStart
  exact .next hs.direct

theorem execLaneControl_canon {h : Hdr} {lane : LaneId} {action : Nat} {s : State} (hs : s.Canon) :
    Outcome.Canon (execLaneControl h lane action s) := by
  unfold execLaneControl
  exact .next hs.direct

theorem execFwStage_canon {h : Hdr} {type action : Nat} {pkg : Package} {s : State} (hs : s.Canon) :
    Outcome.Canon (execFwStage h type action pkg s) := by
  unfold execFwStage
  exact .next hs.direct

theorem execLockoutReset_canon {h : Hdr} {tag : Word} {s : State} (hs : s.Canon) :
    Outcome.Canon (execLockoutReset h tag s) := by
  unfold execLockoutReset
  exact .next hs.direct

/-! ### The frame boundary and reads -/

theorem State.Canon.fire {s : State} {i : LaneId} {e : QEntry} (h : s.Canon) : (s.fire i e).Canon := by
  unfold State.fire
  dsimp only
  split
  · exact h.convStart
  · exact h.modLane (fun _ g => g.filtLatch)
  · exact h.launch
  · exact h.modLane (fun _ g => g.pwmLoad)
  · exact h.schedSnap
  · exact h.raiseFrom
  · exact (h.modLane (fun _ g => g.syncOut)).syncWatch
  · exact h

theorem Lane.Canon.countFire {l : Lane} {e : QEntry} (h : l.Canon) : (l.countFire e).Canon := by
  unfold Lane.countFire
  exact .ite h.bump.wr.bump h.bump.wr

theorem State.Canon.dispatchOne {s : State} {i : LaneId} (h : s.Canon) : (s.dispatchOne i).Canon := by
  unfold State.dispatchOne
  dsimp only
  split
  · exact h
  · exact .ite h ((h.setLane h.lane.modAsc.countFire).fire)

theorem execEntryDispatch_canon {ln : LaneSel} {s : State} (h : s.Canon) : Outcome.Canon (execEntryDispatch ln s) := by
  unfold execEntryDispatch
  exact .next (.onLanes (.ite h.pass h) (fun _ _ g => g.dispatchOne))

theorem State.Canon.sendPsfStatus {s : State} (h : s.Canon) : s.sendPsfStatus.Canon := by
  unfold State.sendPsfStatus
  exact h.modSafe

theorem State.Canon.psfLockout {s : State} {tag : Word} (h : s.Canon) : (s.psfLockout tag).Canon := by
  unfold State.psfLockout
  exact .ite (.ite (((h.bothLanes (fun _ g => g.modSmon)).modSafe).lockoutRefused) ((h.bothLanes (fun _ g =>
      g.modSmon)).modSafe)) h

theorem State.Canon.boundaryLockout {s : State} (h : s.Canon) : s.boundaryLockout.Canon := by
  unfold State.boundaryLockout
  split
  · exact h
  · exact .ite h.modSafe.endLockout h.modSafe.lockoutRefused

theorem State.Canon.psfAccept {s : State} {i : LaneId} {f : List Byte} (h : s.Canon) : (s.psfAccept i f).Canon := by
  unfold State.psfAccept
  refine .ite ?_ (((h.modLane (fun _ g => g.modSmon)).modLane (fun _ g => g.modSmon)).psfLockout)
  refine .ite ?_ ?_
  · exact ((h.modLane (fun _ g => g.modSmon)).modLane (fun _ g => g.modSmon)).sendPsfStatus
  · exact (h.modLane (fun _ g => g.modSmon)).modLane (fun _ g => g.modSmon)

theorem State.Canon.psfFrame {s : State} {i : LaneId} {f : List Byte} (h : s.Canon) : (s.psfFrame i f).Canon := by
  unfold State.psfFrame
  refine .ite h ?_
  refine .ite ?_ (.ite ((h.modLane (fun _ g => g.wr)).psfAccept) ((h.modLane (fun _ g => g.wr)).modLane (fun _ g =>
      g.bump)))
  split
  · exact .ite (h.modLane (fun _ g => g.wr)) (.ite ((h.modLane (fun _ g => g.wr)).modLane (fun _ g => g.modSmon))
      ((h.modLane (fun _ g => g.wr)).smonInstant))
  · exact h.modLane (fun _ g => g.wr)

theorem execPsfCmd_canon {ln : LaneSel} {frame : List Byte} {s : State} (h : s.Canon) :
    Outcome.Canon (execPsfCmd ln frame s) := by
  unfold execPsfCmd
  exact .next (h.onLanes (fun _ _ g => g.psfFrame))

theorem execPsfLockoutReset_canon {ln : LaneSel} {frame : List Byte} {s : State} (h : s.Canon) :
    Outcome.Canon (execPsfLockoutReset ln frame s) := by
  unfold execPsfLockoutReset
  exact .next (h.onLanes (fun _ _ g => g.psfFrame))

theorem execPsfMatchWin_canon {ln : LaneSel} {s : State} (h : s.Canon) : Outcome.Canon (execPsfMatchWin ln s) := by
  unfold execPsfMatchWin
  refine .next ?_
  refine h.onLanes (fun _ _ g => ?_)
  split
  · exact g
  · exact .ite g (g.passTo.modLane (fun _ g1 => g1.bump.modSmon))

theorem execPsfTimeout_canon {ln : LaneSel} {s : State} (h : s.Canon) : Outcome.Canon (execPsfTimeout ln s) := by
  unfold execPsfTimeout
  exact .next (.syncDemands (h.onLanes (fun _ _ g => .ite g (g.passTo.modLane (fun _ g1 => g1.modSmon)))))

theorem State.Canon.serve {s : State} {q : Nat} (h : s.Canon) : (s.serve q).Canon := by
  unfold State.serve
  exact h.modHost

theorem State.Canon.fetch {s : State} {q tag : Nat} {h : Hdr} {cmd : HostCmd} (hs : s.Canon) :
    (s.fetch q tag h cmd).Canon := by
  unfold State.fetch
  exact hs.wr.wr.wr.bump.bump.modHost

theorem execDescriptorFetch_canon {sq : Nat} {d : Descriptor} {s : State} (h : s.Canon) :
    Outcome.Canon (execDescriptorFetch sq d s) := by
  unfold execDescriptorFetch
  refine .next ?_
  refine .ite h ?_
  split
  · exact h.serve.queueFault
  · exact h.serve.fetch.startExit
  · exact h

theorem State.Canon.putCmd {s : State} {c : Cmd} (h : s.Canon) : (s.putCmd c).Canon := by
  unfold State.putCmd
  exact h.modHost

theorem State.Canon.stageCmd {s : State} {c : Cmd} {data : DataRead} (h : s.Canon) : (s.stageCmd c data).Canon := by
  unfold State.stageCmd
  exact h.modHost.staged.putCmd.route (fun _ _ g => g)

theorem execStagingDone_canon {tag : Nat} {data : DataRead} {s : State} (h : s.Canon) :
    Outcome.Canon (execStagingDone tag data s) := by
  unfold execStagingDone
  refine .next ?_
  split
  · exact h
  · exact .ite h h.stageCmd

theorem State.Canon.timeOut {s : State} {u : CmdUnit} (h : s.Canon) : (s.timeOut u).Canon := by
  unfold State.timeOut
  exact h.modHost

theorem execCommitGroupTimeout_canon {sq : Nat} {s : State} (h : s.Canon) :
    Outcome.Canon (execCommitGroupTimeout sq s) := by
  unfold execCommitGroupTimeout
  refine .next ?_
  split
  · exact h
  · exact .ite h.timeOut h

theorem State.Canon.runGroup {s : State} {cs : List Cmd} (h : s.Canon) : (s.runGroup cs).1.Canon := by
  unfold State.runGroup
  exact h.foldlFst (fun _ _ g => g.commitCmd)

theorem State.Canon.runUnit {s : State} {u : CmdUnit} (h : s.Canon) : (s.runUnit u).1.Canon := by
  unfold State.runUnit
  split
  · exact h
  · split
    · exact h.commitCmd
    · dsimp only
      split
      · exact h
      · split
        · exact h.runGroup
        · exact h.bothLanes fun _ g => g.setRegs fun g1 => g1.set

theorem State.Canon.runItem {r : State × List (Cmd × Option Result)} {x : CommitItem} (h : r.1.Canon) :
    (State.runItem r x).1.Canon := by
  unfold State.runItem
  split
  · exact h.commitStaged
  · exact h.runUnit

theorem State.Canon.runItems {s : State} {items : List CommitItem} {ahead : List Nat × List Nat} (h : s.Canon) :
    (s.runItems items ahead).1.Canon := by
  unfold State.runItems
  exact h.modHost.foldlFst fun _ _ g => g.runItem

theorem State.Canon.commitAll {s : State} (h : s.Canon) : s.commitAll.1.Canon := by
  unfold State.commitAll
  extract_lets s1 items s2 order hoisted r r'
  have h1 : s1.Canon := h.modHost
  have h2 : s2.Canon := h1.modHost
  have hr : r'.1.Canon := .iteFst h2.runItems h2.runItems
  split
  · exact h1
  · dsimp only
    exact hr.modHost

theorem execNetDescriptor_canon {f : NetFrame} {s : State} (h : s.Canon) : Outcome.Canon (execNetDescriptor f s) := by
  unfold execNetDescriptor
  refine .next ?_
  refine .ite h ?_
  dsimp only
  split
  · exact h.startExit.modHost.complete
  · exact .ite h.startExit.modHost.modHost.putCmd (.ite h.startExit.modHost.modHost h.startExit.modHost.modHost.stageCmd)

theorem execNetDataFragment_canon {p : NetPort} {xid : Word} {offset len : Nat} {_last : Bool} {s : State} (h : s.Canon) :
    Outcome.Canon (execNetDataFragment p xid offset len _last s) := by
  unfold execNetDataFragment
  refine .next ?_
  split
  · exact h
  · exact .ite h (.ite h.stageCmd h.putCmd)

theorem execNetDataTimeout_canon {p : NetPort} {xid : Word} {s : State} (h : s.Canon) :
    Outcome.Canon (execNetDataTimeout p xid s) := by
  unfold execNetDataTimeout
  refine .next ?_
  split
  · exact h
  · exact h.passTo.stageCmd

theorem Lane.Canon.cutDeadlines {l : Lane} {now : Nat} (h : l.Canon) : (l.cutDeadlines now).Canon := by
  unfold Lane.cutDeadlines
  exact h.modCle (fun _ g => ⟨g.data, g.descs, g.binds, g.nodes, g.probes⟩)

theorem Lane.Canon.takePreset {l : Lane} (h : l.Canon) : l.takePreset.Canon := by
  unfold Lane.takePreset
  exact .ite h.modUnit.wr h

theorem Lane.Canon.newFrame {l : Lane} {now : Nat} {tally : DWord} (h : l.Canon) : (l.newFrame now tally).Canon := by
  unfold Lane.newFrame
  exact .wr (h.noteSignature.modPwm (fun _ g => ⟨g.shadow, g.active, g.latched, g.trigShadow, g.trigActive, g.trigLatched⟩))

theorem State.Canon.laneRecords {s : State} {i : LaneId} (h : s.Canon) : (s.laneRecords i).Canon := by
  unfold State.laneRecords
  exact ((h.foldl (fun _ _ g => g.recSample)).injectBoundary).rakeBoundary

theorem State.Canon.laneAngles {s : State} {i : LaneId} (h : s.Canon) : (s.laneAngles i).Canon := by
  unfold State.laneAngles
  exact .ite (.ite (h.boundaryAngles.modLane (fun _ g => g.irregular)) h.boundaryAngles) h

theorem State.Canon.sendSnaps {s : State} (h : s.Canon) : s.sendSnaps.Canon := by
  unfold State.sendSnaps
  refine h.modHost.foldl (fun _ _ g => ?_)
  split
  · exact g.returnData.complete
  · exact g.keepSnap

theorem State.Canon.refreshMirror {s : State} (h : s.Canon) : s.refreshMirror.Canon := by
  unfold State.refreshMirror
  exact .ite h ⟨h.regs, h.lane.regs.mirrorOf, h.mod, h.laneA, h.laneB⟩

theorem State.Canon.boundaryCommits {s : State} (h : s.Canon) : s.boundaryCommits.1.Canon := by
  unfold State.boundaryCommits
  refine .legsAfter ?_
  refine .commitAll ?_
  exact .commitStops (.bothLanes (.boundaryLockout (.applyPackages (.endWrites (.grpTally (h.modMod (fun _ g =>
      ⟨g.setpoints⟩)))))) (fun _ g => g.modAsc))

theorem State.Canon.boundaryMoves {s : State} (h : s.Canon) : s.boundaryMoves.Canon := by
  unfold State.boundaryMoves
  refine .eachLane ?_ (fun _ _ g => g.laneRecords)
  exact ((((((h.bothLanes (fun _ g => g.takePreset)).laneAngles).laneAngles).trajBoundary).modFaults).bothLanes (fun _ g
      => g.newFrame)).modDuplex

theorem State.Canon.boundarySluice {s : State} (h : s.Canon) : s.boundarySluice.Canon := by
  unfold State.boundarySluice
  exact h.updHold.promote.updRepeats.updDegraded.updToken.grpBoundary

theorem execFrameBoundary_canon {copy : CopyResult} {s : State} (h : s.Canon) :
    Outcome.Canon (execFrameBoundary copy s) := by
  unfold execFrameBoundary
  refine .next ?_
  refine .ite h ?_
  refine .softReset ?_
  refine .powerBoundary ?_
  refine .foldl ?_ (fun _ _ g => g.finishCmd)
  refine .refreshMirror ?_
  refine .sendSnaps ?_
  refine .lateGroups ?_
  refine .boundarySluice ?_
  exact (((((h.passTo.endChans.bothLanes (fun _ g =>
      g.cutDeadlines.endFrame.noteBefore)).endHold).applyCopies).grpAhead).boundaryCommits).boundaryMoves

theorem State.Canon.readTallyLo {s : State} {who : Requester} (h : s.Canon) : (s.readTallyLo who).Canon := by
  unfold State.readTallyLo
  exact .returned (h.modMod (fun _ g => ⟨g.setpoints⟩))

theorem State.Canon.readTallyHi {s : State} {who : Requester} (h : s.Canon) : (s.readTallyHi who).Canon := by
  unfold State.readTallyHi
  split
  · exact .returned (h.modMod (fun _ g => ⟨g.setpoints⟩))
  · exact h.returned

theorem State.Canon.readTimePart {s : State} {who : Requester} {part off : Nat} (h : s.Canon) :
    (s.readTimePart who part off).Canon := by
  unfold State.readTimePart
  split
  · exact h.modClock.returned
  · exact h.returned

theorem State.Canon.readCoherent {s : State} {who : Requester} {off : Nat} (h : s.Canon) :
    (s.readCoherent who off).Canon := by
  unfold State.readCoherent
  refine .ite h.readTallyLo ?_
  refine .ite h.readTallyHi ?_
  refine .ite (.orStay (execTimeNowNsRead_canon h)) ?_
  refine .ite h.readTimePart ?_
  refine .ite h.readTimePart ?_
  refine .ite h.readTimePart ?_
  refine .ite (.orStay (execFirDataRead_canon h)) ?_
  refine .ite (.orStay (execTsNsRead_canon h)) ?_
  exact .ite (.orStay (execTsSRead_canon h)) (.ite (.orStay (execClaim_canon h)) (.ite (.returned (.orStay
      (execPtpStampRead_canon h))) h.returned))

theorem State.Canon.readView {s : State} {i : LaneId} {off : Nat} (h : s.Canon) : (s.readView i off).Canon := by
  unfold State.readView
  exact .ite h.claimPair (.ite h.claimPair (.ite h.returned h.returned))

theorem State.Canon.readBar {s : State} {who : Requester} {off : Nat} (h : s.Canon) : (s.readBar who off).Canon := by
  unfold State.readBar
  exact .ite h.readCoherent (.ite h.readView (.ite h.readView h.returned))

theorem State.Canon.read {s : State} {who : Requester} {off size : Nat} (h : s.Canon) : (s.read who off size).Canon := by
  unfold State.read
  exact .ite h.returned (.ite h.readBar (.ite h.readBar.readBar.returned h.mmioRecord.returned))

theorem execTallyLoRead_canon {who : Requester} {s : State} (h : s.Canon) : Outcome.Canon (execTallyLoRead who s) := by
  unfold execTallyLoRead
  exact .next (h.readAfterBoot h.readTallyLo)

theorem State.Canon.withFetchWord {s : State} {nbits w : Nat} (h : s.Canon) : (s.withFetchWord nbits w).Canon := by
  unfold State.withFetchWord
  exact h

/-! ### Every step -/

/-- Every command keeps the canonical form. -/
theorem exec_canon (c : Instr) {s : State} (h : s.Canon) : Outcome.Canon (exec c s) := by
  cases c with
  | nop => exact execNop_canon h
  | setSetpoint => exact execSetSetpoint_canon h
  | trajSegment => exact execTrajSegment_canon h
  | trajStop => exact execTrajStop_canon h
  | setMode => exact execSetMode_canon h
  | arm => exact execArm_canon h
  | disarm => exact execDisarm_canon h
  | writeRegs => exact execWriteRegs_canon h
  | readSnapshot => exact execReadSnapshot_canon h
  | loadCoeff => exact execLoadCoeff_canon h
  | swapBank => exact execSwapBank_canon h
  | loadProgram => exact execLoadProgram_canon h
  | schedWrite => exact execSchedWrite_canon h
  | recArm => exact execRecArm_canon h
  | recStop => exact execRecStop_canon h
  | rakeStart => exact execRakeStart_canon h
  | injectStart => exact execInjectStart_canon h
  | journalRead => exact execJournalRead_canon h
  | ioWrite => exact execIoWrite_canon h
  | clearFault => exact execClearFault_canon h
  | attest => exact execAttest_canon h
  | timeAdjust => exact execTimeAdjust_canon h
  | groupStart => exact execGroupStart_canon h
  | laneControl => exact execLaneControl_canon h
  | fwStage => exact execFwStage_canon h
  | lockoutReset => exact execLockoutReset_canon h
  | sqTail => exact execSqTail_canon h
  | cqHead => exact execCqHead_canon h
  | strTail => exact execStrTail_canon h
  | preSleep => exact execPreSleep_canon h
  | descriptorFetch => exact execDescriptorFetch_canon h
  | stagingDone => exact execStagingDone_canon h
  | commitGroupTimeout => exact execCommitGroupTimeout_canon h
  | queueEnable => exact execQueueEnable_canon h
  | ifEn => exact execIfEn_canon h
  | streamRecordWrite => exact execStreamRecordWrite_canon h
  | streamFlush => exact execStreamFlush_canon h
  | maintReq => exact execMaintReq_canon h
  | tallyLoRead => exact execTallyLoRead_canon h
  | angStep => exact execAngStep_canon h
  | angLoad => exact execAngLoad_canon h
  | firDataWrite => exact execFirDataWrite_canon h
  | firDataRead who => exact execFirDataRead_canon (_who := who) h
  | preset => exact execPreset_canon h
  | legDis => exact execLegDis_canon h
  | disAll => exact execDisAll_canon h
  | glReneg => exact execGlReneg_canon h
  | auxRun => exact execAuxRun_canon h
  | envelopeLock => exact execEnvelopeLock_canon h
  | soReq => exact execSoReq_canon h
  | doOut => exact execDoOut_canon h
  | doRearm => exact execDoRearm_canon h
  | tsNsRead => exact execTsNsRead_canon h
  | tsSRead => exact execTsSRead_canon h
  | ptpStampRead => exact execPtpStampRead_canon h
  | claim => exact execClaim_canon h
  | complete => exact execComplete_canon h
  | pendWrite => exact execPendWrite_canon h
  | vecIdle => exact execVecIdle_canon h
  | timerWrite => exact execTimerWrite_canon h
  | msixUnmask => exact execMsixUnmask_canon h
  | timeIncNs => exact execTimeIncNs_canon h
  | timeNowNsRead => exact execTimeNowNsRead_canon h
  | cmpArm => exact execCmpArm_canon h
  | cmpTargetWrite => exact execCmpTargetWrite_canon h
  | syncWrite => exact execSyncWrite_canon h
  | clkNdiv => exact execClkNdiv_canon h
  | clkDither => exact execClkDither_canon h
  | grpRestart => exact execGrpRestart_canon h
  | softReset => exact execSoftReset_canon h
  | wdtService => exact execWdtService_canon h
  | jrnlFwCode => exact execJrnlFwCode_canon h
  | laneViewWrite => exact execLaneViewWrite_canon h
  | regWrite => exact execRegWrite_canon h
  | frameBoundary => exact execFrameBoundary_canon h
  | entryCrossing => exact execEntryCrossing_canon h
  | entryDispatch => exact execEntryDispatch_canon h
  | syncPulseEnd => exact execSyncPulseEnd_canon h
  | conversionDone => exact execConversionDone_canon h
  | gridConversion => exact execGridConversion_canon h
  | filterOutput => exact execFilterOutput_canon h
  | convTrigger => exact execConvTrigger_canon h
  | fastCmp => exact execFastCmp_canon h
  | cleNop => exact execCleNop_canon h
  | cleEnd => exact execCleEnd_canon h
  | cleLdi => exact execCleLdi_canon h
  | cleMov => exact execCleMov_canon h
  | cleAdd => exact execCleAdd_canon h
  | cleSub => exact execCleSub_canon h
  | cleAddi => exact execCleAddi_canon h
  | cleNeg => exact execCleNeg_canon h
  | cleAbs => exact execCleAbs_canon h
  | cleShl => exact execCleShl_canon h
  | cleShr => exact execCleShr_canon h
  | cleAnd => exact execCleAnd_canon h
  | cleOr => exact execCleOr_canon h
  | cleXor => exact execCleXor_canon h
  | cleMul => exact execCleMul_canon h
  | cleMuli => exact execCleMuli_canon h
  | cleMac => exact execCleMac_canon h
  | cleMsu => exact execCleMsu_canon h
  | cleLda => exact execCleLda_canon h
  | cleClra => exact execCleClra_canon h
  | cleExa => exact execCleExa_canon h
  | cleSat => exact execCleSat_canon h
  | cleMin => exact execCleMin_canon h
  | cleMax => exact execCleMax_canon h
  | cleCmp => exact execCleCmp_canon h
  | cleSel => exact execCleSel_canon h
  | cleInteg => exact execCleInteg_canon h
  | cleLpf1 => exact execCleLpf1_canon h
  | cleClarke => exact execCleClarke_canon h
  | cleIclarke => exact execCleIclarke_canon h
  | clePark => exact execClePark_canon h
  | cleIpark => exact execCleIpark_canon h
  | cleSincos => exact execCleSincos_canon h
  | cleSqrt => exact execCleSqrt_canon h
  | cleDiv => exact execCleDiv_canon h
  | cleLut => exact execCleLut_canon h
  | cleLd => exact execCleLd_canon h
  | cleSt => exact execCleSt_canon h
  | cleIn => exact execCleIn_canon h
  | cleOut => exact execCleOut_canon h
  | cleAng => exact execCleAng_canon h
  | groupDeadline => exact execGroupDeadline_canon h
  | budgetStop => exact execBudgetStop_canon h
  | edgeCut => exact execEdgeCut_canon h
  | setCompare => exact execSetCompare_canon h
  | corrWindowRoll => exact execCorrWindowRoll_canon h
  | selfCheckVerdict => exact execSelfCheckVerdict_canon h
  | wdtExpiry => exact execWdtExpiry_canon h
  | laneErrorReport => exact execLaneErrorReport_canon h
  | bulkCopyDone => exact execBulkCopyDone_canon h
  | resyncTimeout => exact execResyncTimeout_canon h
  | iroloHandshake => exact execIroloHandshake_canon h
  | negotiationIdleEnd => exact execNegotiationIdleEnd_canon h
  | helloReqResend => exact execHelloReqResend_canon h
  | glHello => exact execGlHello_canon h
  | helloTimeout => exact execHelloTimeout_canon h
  | glEcho => exact execGlEcho_canon h
  | delayMeasured => exact execDelayMeasured_canon h
  | pingPeriodic => exact execPingPeriodic_canon h
  | glSyncSend => exact execGlSyncSend_canon h
  | glTlm => exact execGlTlm_canon h
  | tlmTimeout => exact execTlmTimeout_canon h
  | alignmentLoss => exact execAlignmentLoss_canon h
  | charactersReturn => exact execCharactersReturn_canon h
  | glFault => exact execGlFault_canon h
  | gl1Fault => exact execGl1Fault_canon h
  | hallChange => exact execHallChange_canon h
  | auxShuntTrip => exact execAuxShuntTrip_canon h
  | auxStall => exact execAuxStall_canon h
  | auxPrechargeEnd => exact execAuxPrechargeEnd_canon h
  | tripInput => exact execTripInput_canon h
  | causeGone => exact execCauseGone_canon h
  | ackLow => exact execAckLow_canon h
  | safetyCycle => exact execSafetyCycle_canon h
  | smonFault => exact execSmonFault_canon h
  | siSample => exact execSiSample_canon h
  | siDisc => exact execSiDisc_canon h
  | spdDisc => exact execSpdDisc_canon h
  | sltMot => exact execSltMot_canon h
  | ssiReadStart => exact execSsiReadStart_canon h
  | ssiReadDone => exact execSsiReadDone_canon h
  | ssiReadTimeout => exact execSsiReadTimeout_canon h
  | encIndex => exact execEncIndex_canon h
  | degradedMinute => exact execDegradedMinute_canon h
  | degradedEnd => exact execDegradedEnd_canon h
  | testPulse => exact execTestPulse_canon h
  | soTestStart => exact execSoTestStart_canon h
  | soTestEnd => exact execSoTestEnd_canon h
  | soTestRecheck => exact execSoTestRecheck_canon h
  | soReadback => exact execSoReadback_canon h
  | soOverload => exact execSoOverload_canon h
  | psfCmd => exact execPsfCmd_canon h
  | psfLockoutReset => exact execPsfLockoutReset_canon h
  | psfMatchWin => exact execPsfMatchWin_canon h
  | psfTimeout => exact execPsfTimeout_canon h
  | fieldFrameS => exact execFieldFrameS_canon h
  | fieldFrameLane => exact execFieldFrameLane_canon h
  | laneChannelSilence => exact execLaneChannelSilence_canon h
  | sSilence => exact execSSilence_canon h
  | fioWdog => exact execFioWdog_canon h
  | fdDown => exact execFdDown_canon h
  | fieldChan => exact execFieldChan_canon h
  | fdShutdown => exact execFdShutdown_canon h
  | supplyMeasure => exact execSupplyMeasure_canon h
  | supplyRecovery => exact execSupplyRecovery_canon h
  | diSample => exact execDiSample_canon h
  | diOpen => exact execDiOpen_canon h
  | supOvl => exact execSupOvl_canon h
  | disupRetry => exact execDisupRetry_canon h
  | diOt => exact execDiOt_canon h
  | doOverload => exact execDoOverload_canon h
  | doOt => exact execDoOt_canon h
  | doBackfeed => exact execDoBackfeed_canon h
  | doOpen => exact execDoOpen_canon h
  | moderationTimer => exact execModerationTimer_canon h
  | eicTimer => exact execEicTimer_canon h
  | wake => exact execWake_canon h
  | d0Return => exact execD0Return_canon h
  | triggerUnitFire => exact execTriggerUnitFire_canon h
  | recPreDone => exact execRecPreDone_canon h
  | recPostDone => exact execRecPostDone_canon h
  | recDrained => exact execRecDrained_canon h
  | waitSpace => exact execWaitSpace_canon h
  | rakeFramesDone => exact execRakeFramesDone_canon h
  | injectionEnd => exact execInjectionEnd_canon h
  | journalCommit => exact execJournalCommit_canon h
  | pllLoss => exact execPllLoss_canon h
  | pllRelock => exact execPllRelock_canon h
  | relockFail => exact execRelockFail_canon h
  | refLoss => exact execRefLoss_canon h
  | refReturn => exact execRefReturn_canon h
  | ndivApply => exact execNdivApply_canon h
  | fllUpdate => exact execFllUpdate_canon h
  | fllLockTimeout => exact execFllLockTimeout_canon h
  | timeCmp => exact execTimeCmp_canon h
  | ptpEventStamp => exact execPtpEventStamp_canon h
  | announce => exact execAnnounce_canon h
  | groupWaitExpiry => exact execGroupWaitExpiry_canon h
  | grpPing => exact execGrpPing_canon h
  | grpEcho => exact execGrpEcho_canon h
  | grpDelays => exact execGrpDelays_canon h
  | grpTally => exact execGrpTally_canon h
  | grpBoundary low => exact execGrpBoundary_canon (_tallyLow := low) h
  | grpStart => exact execGrpStart_canon h
  | grpTrig => exact execGrpTrig_canon h
  | grpClkAbsent => exact execGrpClkAbsent_canon h
  | boundaryMissing => exact execBoundaryMissing_canon h
  | memberLost => exact execMemberLost_canon h
  | packageCheckDone => exact execPackageCheckDone_canon h
  | signingDone => exact execSigningDone_canon h
  | debugTokenExpiry => exact execDebugTokenExpiry_canon h
  | netDescriptor => exact execNetDescriptor_canon h
  | netDataFragment p xid offset len last => exact execNetDataFragment_canon (_last := last) h
  | netDataTimeout => exact execNetDataTimeout_canon h
  | por => exact execPor_canon h
  | bootAttemptTimeout => exact execBootAttemptTimeout_canon h
  | laneImagesLoaded => exact execLaneImagesLoaded_canon h
  | laneSelfTestDone => exact execLaneSelfTestDone_canon h
  | startUpDone => exact execStartUpDone_canon h
  | pgoodFall => exact execPgoodFall_canon h
  | vholdLow => exact execVholdLow_canon h
  | bodWarn => exact execBodWarn_canon h
  | bod => exact execBod_canon h
  | bor => exact execBor_canon h
  | pinReset => exact execPinReset_canon h
  | rstNRelease => exact execRstNRelease_canon h
  | stuckReset => exact execStuckReset_canon h
  | rstNRearm => exact execRstNRearm_canon h
  | perst => exact execPerst_canon h
  | flr => exact execFlr_canon h
  | powerStateExitDone => exact execPowerStateExitDone_canon h
  | shelvedExit => exact execShelvedExit_canon h
  | encEdge => exact execEncEdge_canon h
  | sdclkEdge => exact execSdclkEdge_canon h
  | choppingPeriod => exact execChoppingPeriod_canon h
  | bodRecovery => exact execBodRecovery_canon h
  | borRelease => exact execBorRelease_canon h
  | vbatLow => exact execVbatLow_canon h
  | d3hotEntry => exact execD3hotEntry_canon h
  | pcieLinkChange => exact execPcieLinkChange_canon h
  | diCooled => exact execDiCooled_canon h
  | lockoutAckNEdge => exact execLockoutAckNEdge_canon h

/-- Settles O60: by the two cases of the queue; a tick and every command keep the canonical form. -/
theorem everyStepKeepsTheCanonicalForm : Obligations.EveryStepKeepsTheCanonicalForm := by
  intro s t hs hst
  rw [← State.canon_iff] at hs ⊢
  unfold step at hst
  split at hst
  · cases hst
    exact tick_canon hs
  · rename_i c rest _
    obtain ⟨u, hu, hc⟩ := exec_canon c (hs.congr rfl : State.Canon { s with pending := rest })
    cases hu.symm.trans hst
    exact hc

end Sys2Proof.Machine
end

section
/-! PROOFS. Claims and completes of the sources of events: obligation O2. -/
namespace Sys2Proof.Machine

open Claims (VecCand PairCand Best)

/-! ### The best candidate (R363) -/

section
variable {s : State} {l : List Nat} {m n p v : Nat} {i : LaneId}

theorem mem_numsWhere {k : Nat} {f : Nat → Bool} : n ∈ numsWhere k f ↔ n < k ∧ f n = true := by
  simp [numsWhere]

theorem numsWhere_increasing (k : Nat) (f : Nat → Bool) : (numsWhere k f).Pairwise (· < ·) :=
  List.pairwise_lt_range.filter f

theorem State.bestSource_concat (s : State) (l : List Nat) (n : Nat) : s.bestSource (l ++ [n]) =
    match s.bestSource l with
    | none => some n
    | some m => if s.rd (EIC_ROUTE_PRIO m) < s.rd (EIC_ROUTE_PRIO n) then some n else some m := by
  simp only [State.bestSource, List.foldl_append, List.foldl_cons, List.foldl_nil]
  split <;> rename_i h <;> simp only [h]

theorem State.mem_of_bestSource (h : s.bestSource l = some m) : m ∈ l := by
  induction l using List.reverseRecOn generalizing m with
  | nil => cases h
  | append_singleton l n ih =>
    rw [State.bestSource_concat] at h
    split at h
    · cases h
      simp
    · rename_i k hk
      split at h <;> cases h
      · simp
      · exact List.mem_append_left _ (ih hk)

/-- Of sources in rising order, the one that no other precedes is the one a claim takes. -/
theorem State.bestSource_of_best (hl : l.Pairwise (· < ·)) (hn : n ∈ l)
    (hb : ∀ m ∈ l, s.rd (EIC_ROUTE_PRIO m) < s.rd (EIC_ROUTE_PRIO n) ∨
      (s.rd (EIC_ROUTE_PRIO m) = s.rd (EIC_ROUTE_PRIO n) ∧ n ≤ m)) : s.bestSource l = some n := by
  induction l using List.reverseRecOn with
  | nil => cases hn
  | append_singleton l x ih =>
    obtain ⟨hl', -, hx⟩ := List.pairwise_append.mp hl
    have hbx := hb x (by simp)
    have hbl := fun m hm => hb m (List.mem_append_left _ hm)
    rw [State.bestSource_concat]
    by_cases h : n ∈ l
    · simp only [ih hl' h hbl]
      rw [if_neg (by omega)]
    · obtain rfl : n = x := by simpa [h] using hn
      split
      · rfl
      · rename_i m hm
        have hmem := State.mem_of_bestSource hm
        have hlt := hx m hmem n (by simp)
        rw [if_pos (by have := hbl m hmem; omega)]

theorem State.vecReady_iff : s.vecReady v n = true ↔ VecCand s v n := by
  simp [State.vecReady, VecCand, State.on, and_assoc]

theorem State.pairReady_iff : s.pairReady i p n = true ↔ PairCand s i p n := by
  simp only [State.pairReady, State.lanePend, PairCand, State.on]
  cases isLevel n <;> simp [and_assoc]
  all_goals grind

/-- What a claim of a target finds: nothing where no source qualifies, and otherwise the best one. -/
theorem State.bestSource_of_none {f : Nat → Bool} {cand : Nat → Prop} (hf : ∀ n, f n = true ↔ cand n)
    (h : ∀ n < 96, ¬ cand n) : s.bestSource (numsWhere 96 f) = none := by
  have : numsWhere 96 f = [] :=
    List.eq_nil_iff_forall_not_mem.mpr fun n hn => h n (mem_numsWhere.mp hn).1 ((hf n).mp (mem_numsWhere.mp hn).2)
  rw [this]
  rfl

theorem State.bestSource_of_candidate {f : Nat → Bool} {cand : Nat → Prop} (hf : ∀ n, f n = true ↔ cand n)
    (h : Best s cand n) : s.bestSource (numsWhere 96 f) = some n := by
  obtain ⟨hn, hc, hb⟩ := h
  exact State.bestSource_of_best (numsWhere_increasing _ _) (mem_numsWhere.mpr ⟨hn, (hf n).mpr hc⟩) fun m hm =>
    hb m (mem_numsWhere.mp hm).1 ((hf m).mp (mem_numsWhere.mp hm).2)
end

/-! ### Claims (R363) -/

theorem insvcBit_off_ne_pendBit_off (n : Nat) : (insvcBit n).off ≠ (pendBit n).off := by
  simp only [insvcBit, pendBit, srcBit, EIC_INSVC, EIC_PEND]
  omega

theorem State.rd_insvcBit_wr (s : State) (n v : Nat) : (s.wr (insvcBit n) v).rd (insvcBit n) = v % 2 :=
  State.rd_wr_bit s _ _ v (Nat.mod_lt _ (by decide))

theorem claimTakesTheBestPendingSource : Claims.ClaimTakesTheBestPendingSource := by
  refine ⟨fun v s hb hn => ?_, fun v n s hb hn => ?_, fun i p s hn => ?_, fun i p n s hn => ?_⟩
  · simp only [exec, execClaim, State.readAfterBoot, if_neg hb, State.claimVec,
      State.bestSource_of_none (fun _ => State.vecReady_iff) hn]
  · refine ⟨_, rfl, ?_, fun w hw => ?_⟩
    all_goals simp only [State.readAfterBoot, if_neg hb, State.claimVec,
      State.bestSource_of_candidate (fun _ => State.vecReady_iff) hn] at *
    · cases isLevel n <;> rfl
    · obtain ⟨-, -, -, hw⟩ := hw
      refine hw ?_
      cases isLevel n
      · exact (State.rd_wr_off _ _ (insvcBit_off_ne_pendBit_off n)).trans (State.rd_insvcBit_wr s n 1)
      · exact State.rd_insvcBit_wr s n 1
  · simp only [exec, execClaim, State.claimPair, State.bestSource_of_none (fun _ => State.pairReady_iff) hn]
  · refine ⟨_, rfl, ?_, fun q hq => ?_⟩
    all_goals simp only [State.claimPair, State.bestSource_of_candidate (fun _ => State.pairReady_iff) hn] at *
    obtain ⟨-, -, -, hq⟩ := hq
    exact hq p (by cases i <;> simp [State.modLane, State.setLane, State.lane])

/-! ### Completes (R364) -/

section
variable {s : State} {i : LaneId} {v p n : Nat}

theorem exec_complete_vec (hb : s.mod.phase ≠ .boot) (h : (n, v) ∈ s.eic.claimed) :
    exec (.complete (.vec v) (n + 1)) s = .next (s.completeVec v n) := by
  simp only [exec, execComplete, State.afterBoot_of_booted hb, List.contains_iff_mem.mpr h, if_true]

theorem exec_complete_pair (h : (n, p) ∈ (s.lane i).insvc) :
    exec (.complete (.pair i p) (n + 1)) s = .next (s.completePair i p n) := by
  simp only [exec, execComplete, List.contains_iff_mem.mpr h, if_true]

/-- A source is in service for a target (R363). -/
def State.inService (s : State) : Target → Nat → Prop
  | .vec v, n => (n, v) ∈ s.eic.claimed
  | .pair i p, n => (n, p) ∈ (s.lane i).insvc

/-- An ID that is not in service for the target is ignored and counted. -/
theorem exec_complete_bad {t : Target} {id : Nat} (hb : ∀ v, t = .vec v → s.mod.phase ≠ .boot)
    (h : id = 0 ∨ ¬ s.inService t (id - 1)) :
    exec (.complete t id) s = .next (s.bumpSat EIC_STAT_BAD_COMPLETE) := by
  rcases id with - | n
  · cases t with
    | vec v => simp only [exec, execComplete, State.afterBoot_of_booted (hb v rfl)]
    | pair i p => rfl
  · cases t with
    | vec v =>
      have hn : (n, v) ∉ s.eic.claimed := by simpa [State.inService] using h
      simp only [exec, execComplete, State.afterBoot_of_booted (hb v rfl), List.contains_iff_mem, if_neg hn]
    | pair i p =>
      have hn : (n, p) ∉ (s.lane i).insvc := by simpa [State.inService] using h
      simp only [exec, execComplete, List.contains_iff_mem, if_neg hn]
end

theorem completeClearsTheInServiceMark : Claims.CompleteClearsTheInServiceMark := by
  refine ⟨fun v n s hb hn => ⟨_, rfl, fun hc => ?_, fun hc => ?_⟩, fun i p n s hn => ⟨_, rfl, fun hc => ?_, fun hc => ?_⟩,
    fun t id s hb h => exec_complete_bad hb (h.imp_right fun h => by cases t <;> exact h)⟩
  · rw [exec_complete_vec hb hn]
    exact congrArg _ (if_neg (mt State.vecReady_iff.mp hc))
  · rw [exec_complete_vec hb hn]
    exact congrArg _ (if_pos (State.vecReady_iff.mpr hc))
  · rw [exec_complete_pair hn]
    exact congrArg _ (if_neg (mt State.pairReady_iff.mp hc))
  · rw [exec_complete_pair hn]
    refine (congrArg _ (if_pos (State.pairReady_iff.mpr hc))).trans ?_
    cases i <;> rfl

/-- Settles O2: a claim finds the candidate that no other precedes and marks it in service, and a complete undoes the mark. -/
theorem claimAndCompleteServeOneSourceOnce : Obligations.ClaimAndCompleteServeOneSourceOnce :=
  ⟨claimTakesTheBestPendingSource, completeClearsTheInServiceMark⟩

end Sys2Proof.Machine
end

section
/-! PROOFS. Events at vectors and the timers of the event controller: obligation O4. -/
namespace Sys2Proof.Machine

/-! ### Events at a vector (R360 to R362) -/

section
variable {s : State} {v src : Nat}

theorem State.sendVec_of_unmasked (hd : s.eic.d3hot = false) (hm : s.vecMasked v = false) :
    s.sendVec v = { s with regs := s.regs.wr (EIC_VEC_CFG_VEC_IDLE v) 0
                           eic := { s.eic with vecs := s.eic.vecs.set v { count := 0, since := none }
                                               msgs := v :: s.eic.msgs } } := by
  have hm' : (s.setVec v { count := 0, since := none }).vecMasked v = false := hm
  exact (if_neg (Bool.eq_false_iff.mp hd)).trans (if_neg (Bool.eq_false_iff.mp hm'))

theorem State.sendVec_of_masked (hd : s.eic.d3hot = false) (hm : s.vecMasked v = true) :
    s.sendVec v = { s with eic := { s.eic with vecs := s.eic.vecs.set v { count := 0, since := none }
                                               pba := s.eic.pba ||| (1 <<< v) } } := by
  have hm' : (s.setVec v { count := 0, since := none }).vecMasked v = true := hm
  exact (if_neg (Bool.eq_false_iff.mp hd)).trans (if_pos hm')

/-- The state with an event of a source counted at a vector, before a message is considered. -/
def State.counted (s : State) (v src : Nat) : State :=
  { s with eic := { s.eic with
    vecs := s.eic.vecs.set v { count := (s.vec v).count + 1, since := some ((s.vec v).since.getD s.now) }
    seen := (s.now, src :: seenNow s.eic.seen s.now) } }

theorem State.countVec_of_seen (h : src ∈ seenNow s.eic.seen s.now) : s.countVec v src = s := by
  simp only [State.countVec, List.contains_iff_mem.mpr h, if_true]

theorem State.countVec_of_new (h : src ∉ seenNow s.eic.seen s.now) : s.countVec v src =
    if (s.rd (EIC_VEC_CFG_MODE v) = 1 ∧ s.rd (EIC_VEC_CFG_VEC_IDLE v) = 1) ∨ s.rd (EIC_VEC_CFG_CNT v) ≤ (s.vec v).count + 1
    then (s.counted v src).sendVec v else s.counted v src := by
  have hc : (seenNow s.eic.seen s.now).contains src = false := by simpa using h
  simp only [State.countVec, hc, Bool.false_eq_true, if_false]
  refine if_congr ?_ rfl rfl
  simp [State.on, State.setVec, State.modEic, State.rd, State.vec]

theorem eventsAtAVectorAreModerated : Claims.EventsAtAVectorAreModerated := by
  intro v src s hv hlen hd n direct vecs seen
  refine ⟨State.countVec_of_seen, fun hs hnd hn => ?_, fun hs hsend hm => ?_, fun hs hsend hm => ?_⟩
  · rw [State.countVec_of_new hs, if_neg (not_or.mpr ⟨hnd, Nat.not_le.mpr hn⟩)]
    rfl
  · rw [State.countVec_of_new hs, if_pos hsend, State.sendVec_of_unmasked (s := s.counted v src) hd hm]
    simp only [State.counted, List.set_set]
    rfl
  · rw [State.countVec_of_new hs, if_pos hsend, State.sendVec_of_masked (s := s.counted v src) hd hm]
    simp only [State.counted, List.set_set]
    rfl
end

/-! ### Timers (R360, R361, R369) -/

theorem bitsOf_period_withBits (w : Word) : bitsOf (withBits w 29 16 0) 15 0 = bitsOf w 15 0 :=
  bitsOf_withBits_ne w 29 16 0 15 0 (by decide) (by decide) (by decide) (by decide)

theorem timersOfTheEventController : Claims.TimersOfTheEventController := by
  refine ⟨fun v t0 s h => ?_, fun i p t0 s h => ?_, fun v w s hb => ⟨_, rfl, ?_⟩, fun w s hb hp => ?_, fun t0 s ht hs =>
    ⟨_, rfl, ?_⟩⟩
  · simp only [exec, execModerationTimer, h]
  · simp only [exec, execModerationTimer, h]
  · simp only [exec, execVecIdle, State.afterBoot_of_booted hb, Bool.and_eq_true, decide_eq_true_eq, and_assoc]
    rfl
  · have h31 : (withBits w 29 16 0).getLsbD 31 = w.getLsbD 31 := by
      rw [withBits_getLsbD w 29 16 0 31 (by decide) (by decide)]
      rfl
    simp only [exec, execTimerWrite, State.afterBoot_of_booted hb, bitsOf_period_withBits, if_neg hp, h31]
    rfl
  · simp only [exec, execEicTimer, ht, hs]
    rfl

/-- Settles O4: an event at a vector is counted and sends its message where CNT or DIRECT says so; the timers are each one branch of their commands. -/
theorem moderationAndTimersOfTheEventController : Obligations.ModerationAndTimersOfTheEventController :=
  ⟨eventsAtAVectorAreModerated, timersOfTheEventController⟩

end Sys2Proof.Machine
end

section
/-! PROOFS. The synthesiser, its reference and its divider: obligation O5. -/
namespace Sys2Proof.Machine

/-! ### The digital inputs, which no cause touches -/

section
variable (s : State)

theorem State.dis_sosOff (p : Nat → Bool) : (s.sosOff p).field.dis = s.field.dis := by
  simp [State.sosOff]

theorem State.dis_stoOn : s.stoOn.field.dis = s.field.dis := by
  simp [State.stoOn, State.dis_sosOff]

theorem State.dis_applyL (code : Nat) : (s.applyL code).field.dis = s.field.dis := by
  simp only [State.applyL]
  split <;> simp [State.dis_sosOff]

theorem State.dis_classEffect (code cls : Nat) (scope : Scope) (leg : Option Nat) :
    (s.classEffect code cls scope leg).field.dis = s.field.dis := by
  unfold State.classEffect
  split
  · simp
  · exact s.dis_applyL code

theorem State.dis_safetyEffect (code : Nat) : (s.safetyEffect code).field.dis = s.field.dis := by
  unfold State.safetyEffect
  (repeat' split) <;> simp [State.dis_stoOn]

theorem State.dis_cause (code cls : Nat) (scope : Scope) (key : Nat) (leg : Option Nat) (active : Bool) :
    (s.cause code cls scope key leg active).field.dis = s.field.dis := by
  by_cases h : cls = 1 ∨ cls = 2
  · rw [State.cause_eq s scope key leg active h]
    simp [State.dis_safetyEffect, State.dis_classEffect, State.recordCause]
  · rw [State.cause_eq_of_other s scope key leg active h]
    simp

end

/-! ### The change of the clock (R401) -/

section
variable (s : State)

theorem State.rd_clkBit (v : Bool) (off i : Nat) (h : i < 32) : (s.wr ⟨off, i, i⟩ (b2n v)).rd ⟨off, i, i⟩ = b2n v := by
  rw [State.rd_wr_bit s off i _ h]
  cases v <;> rfl

/-- A single bit that is not 1 is 0. -/
theorem State.rd_bit_eq_zero {off i : Nat} (h : s.rd ⟨off, i, i⟩ ≠ 1) : s.rd ⟨off, i, i⟩ = 0 := by
  have hlt : s.rd ⟨off, i, i⟩ < 2 ^ (i + 1 - i) := RegFile.rd_lt s.regs ⟨off, i, i⟩
  rw [Nat.add_sub_cancel_left] at hlt
  omega

theorem State.changeRate_of_same {slow : Bool} (h : s.on CLK_STAT_ON_REF = slow) : s.changeRate slow = s := if_pos h

theorem State.regs_changeRate {slow : Bool} (h : s.on CLK_STAT_ON_REF ≠ slow) :
    (s.changeRate slow).regs = (s.wr CLK_STAT_ON_REF (b2n slow)).regs := by
  simp only [State.changeRate, if_neg h]
  rfl

theorem State.rd_changeRate (slow : Bool) : (s.changeRate slow).rd CLK_STAT_ON_REF = b2n slow := by
  by_cases h : s.on CLK_STAT_ON_REF = slow
  · rw [State.changeRate_of_same s h]
    cases slow
    · exact s.rd_bit_eq_zero (of_decide_eq_false h)
    · exact of_decide_eq_true h
  · rw [State.rd, State.regs_changeRate s h]
    exact s.rd_clkBit slow _ _ (by decide)

theorem State.rd_changeRate_of_ne (slow : Bool) {hi lo : Nat} (hh : lo ≤ hi) (hi32 : hi < 32) (h : 1 < lo ∨ hi < 1) :
    (s.changeRate slow).rd ⟨CLK_STAT, hi, lo⟩ = s.rd ⟨CLK_STAT, hi, lo⟩ := by
  by_cases hs : s.on CLK_STAT_ON_REF = slow
  · rw [State.changeRate_of_same s hs]
  · rw [State.rd, State.regs_changeRate s hs]
    exact State.rd_wr_other s (by decide) hh hi32 h

theorem State.laneTicks_changeRate (slow : Bool) : (s.changeRate slow).laneTicks 1 = if slow then 16 else 1 := by
  rw [State.laneTicks, State.on, State.rd_changeRate]
  cases slow <;> rfl

/-- The change of the clock touches its bit and the runs of the lanes' engines. -/
theorem State.changeRate_eq (slow : Bool) : ∃ a b, s.changeRate slow =
    { s with regs := (s.changeRate slow).regs, laneA := { s.laneA with cle := a }, laneB := { s.laneB with cle := b } } := by
  unfold State.changeRate
  dsimp only
  split
  · exact ⟨s.laneA.cle, s.laneB.cle, rfl⟩
  · exact ⟨_, _, rfl⟩

theorem State.run_changeRate {i : LaneId} {dp : Dp} {r : CtxRun} (h : s.rd CLK_STAT_ON_REF = 0)
    (hr : ((s.lane i).dp dp).run = some r) : (((s.changeRate true).lane i).dp dp).run =
      some { r with since := s.now - 16 * (s.now - r.since) } := by
  have hne : s.on CLK_STAT_ON_REF ≠ true := by simp [State.on, h]
  unfold State.changeRate
  rw [if_neg hne]
  cases i <;> cases dp <;>
    simp only [State.lane, Lane.dp, State.bothLanes, State.wr] at hr ⊢ <;> rw [hr] <;> rfl

end

/-! ### Loss of lock and of the reference (R400 to R403) -/

section
variable {s : State}

theorem State.loseLock_of_locked (h : s.rd CLK_STAT_LOCK = 1) : s.loseLock =
    (((((s.wr CLK_STAT_LOCK 0).changeRate true).wr CLK_STAT_FLL_LOCK 0).cause 0x0D 1 .module 0 none true).clkEvent 1).bump
      CLK_CNT_LOSS := by
  simp only [State.loseLock, State.on, h, decide_true, Bool.not_true, Bool.false_eq_true, if_false]

theorem State.loseLock_of_unlocked (h : s.rd CLK_STAT_LOCK ≠ 1) : s.loseLock = s := by
  simp only [State.loseLock, State.on, h, decide_false, Bool.not_false, if_true]

theorem not_occurReg_clkStat : ¬ occurReg CLK_STAT := by unfold occurReg; decide
theorem not_causeSideReg_clkStat : ¬ causeSideReg CLK_STAT := by unfold causeSideReg occurReg; decide

theorem not_causeRecordReg_clkStat : ¬ causeRecordReg CLK_STAT := by
  simp only [causeRecordReg, CLK_STAT, SLC_FAULT_MOD, SLC_LOCKOUT_STAT, SLC_THR_FAULT]
  omega

/-- The event CLK_LOCK writes no register of the clocks. -/
theorem State.rd_clkEvent (s : State) (code hi lo : Nat) :
    (s.clkEvent code).rd ⟨CLK_STAT, hi, lo⟩ = s.rd ⟨CLK_STAT, hi, lo⟩ := by
  have hj : CLK_STAT ≠ JRNL_STAT := by decide
  exact (State.rd_journalAdd_of_ne _ _ _ _ _ hj).trans (State.rd_raise _ _ _ (by decide) not_occurReg_clkStat)

theorem State.rd_loseLock_of_locked (h : s.rd CLK_STAT_LOCK = 1) (hi lo : Nat) : s.loseLock.rd ⟨CLK_STAT, hi, lo⟩ =
    (((s.wr CLK_STAT_LOCK 0).changeRate true).wr CLK_STAT_FLL_LOCK 0).rd ⟨CLK_STAT, hi, lo⟩ := by
  have hc : CLK_STAT ≠ CLK_CNT := by decide
  rw [State.loseLock_of_locked h, State.bump, State.rd_wr_mk _ hc, State.rd_clkEvent,
    State.rd_cause (x := ⟨CLK_STAT, hi, lo⟩) not_causeSideReg_clkStat not_causeRecordReg_clkStat]

theorem State.rd_lock_loseLock (s : State) : s.loseLock.rd CLK_STAT_LOCK = 0 := by
  by_cases h : s.rd CLK_STAT_LOCK = 1
  · rw [State.rd_loseLock_of_locked h, State.rd_wr_other _ (by decide) (by decide) (by decide) (by decide),
      State.rd_changeRate_of_ne _ _ (by decide) (by decide) (by decide), State.rd_wr_bit _ _ _ _ (by decide)]
  · rw [State.loseLock_of_unlocked h]
    exact s.rd_bit_eq_zero h

theorem State.rd_refLoss_loseLock (s : State) : s.loseLock.rd CLK_STAT_REF_LOSS = s.rd CLK_STAT_REF_LOSS := by
  by_cases h : s.rd CLK_STAT_LOCK = 1
  · rw [State.rd_loseLock_of_locked h, State.rd_wr_other _ (by decide) (by decide) (by decide) (by decide),
      State.rd_changeRate_of_ne _ _ (by decide) (by decide) (by decide),
      State.rd_wr_other _ (by decide) (by decide) (by decide) (by decide)]
  · rw [State.loseLock_of_unlocked h]

theorem State.dis_loseLock (s : State) : s.loseLock.field.dis = s.field.dis := by
  by_cases h : s.rd CLK_STAT_LOCK = 1
  · rw [State.loseLock_of_locked h]
    simp [State.dis_cause]
  · rw [State.loseLock_of_unlocked h]

theorem State.rd_sync_setSync (s : State) (v : Nat) (hv : v < 2) : (s.setSync v).rd TIME_CTRL_SYNC = v := by
  unfold State.setSync
  split
  · assumption
  · rw [State.rd_raise _ _ _ (by decide) (by unfold occurReg; decide), State.rd_wr_bit _ _ _ _ (by decide)]
    omega

theorem State.rd_clkStat_setSync (s : State) (v hi lo : Nat) :
    (s.setSync v).rd ⟨CLK_STAT, hi, lo⟩ = s.rd ⟨CLK_STAT, hi, lo⟩ := by
  have ht : CLK_STAT ≠ TIME_CTRL := by decide
  unfold State.setSync
  split
  · rfl
  · rw [State.rd_raise _ _ _ (by decide) not_occurReg_clkStat, State.rd_wr_mk _ ht]

/-- The state in which the loss of the reference is noted, before lock is lost with it (R403). -/
def State.refLost (s : State) : State :=
  ((s.modClock fun c => { c with refPresent := false }).wr CLK_STAT_REF_LOSS 1).clkEvent 3

theorem exec_refLoss_of_present (h : s.clock.refPresent = true) :
    exec .refLoss s = .next (s.refLost.loseLock.setSync 0) := by
  simp only [exec, execRefLoss, h, Bool.not_true, Bool.false_eq_true, if_false]
  rfl

theorem State.rd_refLoss_refLost (s : State) : s.refLost.rd CLK_STAT_REF_LOSS = 1 := by
  rw [State.refLost, State.rd_clkEvent, State.rd_wr_bit _ _ _ _ (by decide)]

theorem exec_pllRelock_of_unlocked (count : Nat) (hl : s.rd CLK_STAT_LOCK ≠ 1) (hr : s.clock.refPresent = true) :
    exec (.pllRelock count) s = .next (if 1019 ≤ count ∧ count ≤ 1029 then (s.wr CLK_FREQ_COUNT count).takeLock
      else s.wr CLK_FREQ_COUNT count) := by
  simp only [exec, execPllRelock, State.on, hl, hr, decide_false, Bool.not_true, Bool.or_false, Bool.false_eq_true, if_false,
    Bool.and_eq_true, decide_eq_true_eq]

theorem lockLossAndRelock : Claims.LockLossAndRelock := by
  refine ⟨fun s h => ⟨_, rfl, ?_⟩, fun s h => ?_, fun count s hl hr => ⟨_, rfl, fun hc => ?_, fun h1 h2 => ?_⟩,
    fun slow s => ⟨s.rd_changeRate slow, s.laneTicks_changeRate slow, s.changeRate_eq slow⟩,
    fun i dp r s h hr h1 h2 h3 => ⟨_, s.run_changeRate h hr, by omega⟩, fun s h => ?_, fun s h => ?_, fun s h => ?_⟩
  · exact congrArg _ (State.loseLock_of_locked h)
  · exact congrArg _ (State.loseLock_of_unlocked h)
  · rw [exec_pllRelock_of_unlocked count hl hr, if_neg (by omega)]
  · rw [exec_pllRelock_of_unlocked count hl hr, if_pos ⟨h1, h2⟩]
    rfl
  · exact congrArg _ (if_neg (by simpa [State.on] using h))
  · refine ⟨_, exec_refLoss_of_present h, by simp [State.refLost], ?_, ?_, State.rd_sync_setSync _ 0 (by decide), ?_,
      by simp [State.refLost], by simp [State.refLost], _, _, rfl, rfl, rfl⟩
    · rw [State.rd_clkStat_setSync, State.rd_refLoss_loseLock, State.rd_refLoss_refLost]
    · rw [State.rd_clkStat_setSync, State.rd_lock_loseLock]
    · simp [State.dis_loseLock, State.refLost]
  · simp only [exec, execRefReturn, h, Bool.false_eq_true, if_false]
    rfl

end

/-! ### The divider (R398, R418) -/

theorem State.fllUpdate_inLimits {s : State} {v : Word} (h1 : ((v.toNat : Int) - 0x80000000).natAbs ≤ 429496)
    (h2 : ((v.toNat : Int) - s.clock.nInForce).natAbs ≤ 137438) (ht : s.clock.nAt + 4000 ≤ s.now) :
    s.ndivOk v.toNat = true ∧ s.writeNdiv v.toNat = { s with
      regs := s.regs.set CLK_NDIV v
      clock := { s.clock with nInForce := v.toNat, nAt := s.now, nWait := none } } := by
  refine ⟨by simpa [State.ndivOk] using ⟨h1, h2⟩, ?_⟩
  simp only [State.writeNdiv, State.modClock, BitVec.ofNat_toNat, BitVec.setWidth_eq]
  rw [if_pos (by simp [ht])]

theorem dividerWritesTakeEffect : Claims.DividerWritesTakeEffect := by
  refine ⟨fun n s h => ⟨_, rfl, ?_⟩, fun v lk s h => ?_, fun v lk s h h1 h2 ht => ?_⟩
  · simp only [exec, execNdivApply, h]
    rfl
  · exact congrArg _ (if_pos h)
  · obtain ⟨hok, hw⟩ := State.fllUpdate_inLimits h1 h2 ht
    simp only [exec, execFllUpdate, h, ne_eq, not_true_eq_false, if_false, hok, if_true, hw]

/-- Settles O5: the loss of lock and of the reference by the registers that each of their parts leaves alone, and the divider
by the limits of R398. -/
theorem clocksLoseLockRelockAndDivide : Obligations.ClocksLoseLockRelockAndDivide :=
  ⟨lockLossAndRelock, dividerWritesTakeEffect⟩

end Sys2Proof.Machine
end

section
/-! PROOFS. Heard writes, and the PTP clock over ticks: obligation O6. -/
namespace Sys2Proof.Machine

open Claims (heard)

/-! ### Writes that are heard (R435, R470) -/

theorem State.heardWrite_of_heard {s : State} {who : Writer} {off : Nat} (t : State) (hb : s.mod.phase ≠ .boot)
    (h : heard s who off) : s.heardWrite who off t = t := by
  unfold State.heardWrite
  rw [State.afterBoot_of_booted hb]
  rcases h with rfl | ⟨hc, hn⟩
  · rfl
  · simp only [hc, ne_eq, not_true_eq_false, if_false, hn, Bool.false_eq_true]

theorem State.readAfterBoot_of_booted {s t : State} (h : s.mod.phase ≠ .boot) : s.readAfterBoot t = t := if_neg h

theorem ptpClockIsSetAndRead : Claims.PtpClockIsSetAndRead := by
  refine ⟨fun who v s inc hb hh hinc => ⟨fun h1 h2 => ?_, fun h => ?_⟩, fun who s hb => ?_, fun who v s hb hh => ?_⟩
  · have hok : incBad (bitsOf v 3 0) (s.regs.get TIME_INC_FRAC) = false := by
      simp only [incBad, ← hinc, Bool.or_eq_false_iff, decide_eq_false_iff_not]
      omega
    simp only [exec, execTimeIncNs, State.heardWrite_of_heard _ hb hh, hok, Bool.false_eq_true, if_false]
    rfl
  · have hbad : incBad (bitsOf v 3 0) (s.regs.get TIME_INC_FRAC) = true := by
      simpa only [incBad, ← hinc, Bool.or_eq_true, decide_eq_true_eq] using h
    simp only [exec, execTimeIncNs, State.heardWrite_of_heard _ hb hh, hbad, if_true]
  · simp only [exec, execTimeNowNsRead, State.readAfterBoot_of_booted hb]
    rfl
  · simp only [exec, execSyncWrite, State.heardWrite_of_heard _ hb hh]
    rfl

/-! ### The PTP clock over ticks (R404) -/

/-- The instant that the PTP clock shows, in units of 2^-32 ns. -/
def Clock.instant (c : Clock) : Nat := (c.sec.toNat * 1000000000 + c.ns) * 2 ^ 32 + c.frac.toNat

/-- The increment of a tick, in units of 2^-32 ns. -/
def Clock.inc (c : Clock) : Nat := c.incNs.toNat * 2 ^ 32 + c.incFrac.toNat

/-- The instants after which the PTP clock starts again: 2^48 s. -/
def ptpRound : Nat := 2 ^ 48 * 1000000000 * 2 ^ 32

/-- The carries at 2^32, at 10^9 and at 2^48 keep the instant. -/
theorem carry_modEq (x t : Nat) : ((x + t / 2 ^ 32 / 1000000000) % 2 ^ 48 * 1000000000 + t / 2 ^ 32 % 1000000000) * 2 ^ 32 +
    t % 2 ^ 32 ≡ x * 1000000000 * 2 ^ 32 + t [MOD ptpRound] := by
  have hm := ((Nat.mod_modEq (x + t / 2 ^ 32 / 1000000000) (2 ^ 48)).mul_right' 1000000000).mul_right' (2 ^ 32)
  have h := hm.add_right (t / 2 ^ 32 % 1000000000 * 2 ^ 32 + t % 2 ^ 32)
  have hl : ∀ y : Nat, y * 1000000000 * 2 ^ 32 + (t / 2 ^ 32 % 1000000000 * 2 ^ 32 + t % 2 ^ 32) =
      (y * 1000000000 + t / 2 ^ 32 % 1000000000) * 2 ^ 32 + t % 2 ^ 32 := fun y => by omega
  have hr : (x + t / 2 ^ 32 / 1000000000) * 1000000000 * 2 ^ 32 + (t / 2 ^ 32 % 1000000000 * 2 ^ 32 + t % 2 ^ 32) =
      x * 1000000000 * 2 ^ 32 + t := by omega
  rwa [hr, hl] at h

/-- The nanoseconds and their fraction after k ticks, before the carries. -/
def Clock.sum (c : Clock) (k : Nat) : Nat :=
  c.ns * 2 ^ 32 + c.frac.toNat + k * (c.incNs.toNat * 2 ^ 32 + c.incFrac.toNat)

theorem Clock.adv_eq (c : Clock) (k : Nat) : c.adv k = { c with
    sec := c.sec + BitVec.ofNat 48 (c.sum k / 2 ^ 32 / 1000000000), ns := c.sum k / 2 ^ 32 % 1000000000
    frac := BitVec.ofNat 32 (c.sum k) } := by
  rw [Clock.sum, Clock.adv]

theorem Clock.inc_adv (c : Clock) (k : Nat) : (c.adv k).inc = c.inc := by
  rw [Clock.inc, Clock.inc, Clock.adv_eq]

theorem Clock.ns_adv (c : Clock) (k : Nat) : (c.adv k).ns = c.sum k / 2 ^ 32 % 1000000000 := by rw [Clock.adv_eq]

theorem Clock.ns_adv_lt (c : Clock) (k : Nat) : (c.adv k).ns < 1000000000 := by
  rw [Clock.ns_adv]
  exact Nat.mod_lt _ (by decide)

theorem Clock.frac_adv (c : Clock) (k : Nat) : (c.adv k).frac.toNat = c.sum k % 2 ^ 32 := by
  rw [Clock.adv_eq, BitVec.toNat_ofNat]

theorem Clock.sec_adv (c : Clock) (k : Nat) :
    (c.adv k).sec.toNat = (c.sec.toNat + c.sum k / 2 ^ 32 / 1000000000) % 2 ^ 48 := by
  rw [Clock.adv_eq, BitVec.toNat_add, BitVec.toNat_ofNat, Nat.add_mod_mod]

theorem Clock.instant_adv (c : Clock) (k : Nat) : (c.adv k).instant ≡ c.instant + k * c.inc [MOD ptpRound] := by
  rw [Clock.instant, Clock.ns_adv, Clock.frac_adv, Clock.sec_adv]
  refine (carry_modEq _ _).trans ?_
  rw [Clock.sum, ← Clock.inc, Clock.instant, Nat.add_mul, Nat.add_assoc, Nat.add_assoc, Nat.add_assoc]

theorem State.clock_advance (s : State) (k : Nat) : (s.advance k).clock = if k = 0 then s.clock else s.clock.adv k := by
  unfold State.advance
  split
  · rfl
  · dsimp only
    split <;> simp

/-- What k ticks make of the PTP clock: the nanoseconds carry at 10^9, the instant gains k increments, and the increment
stays. -/
structure Clock.After (k : Nat) (c d : Clock) : Prop where
  ns : 0 < k → d.ns < 1000000000
  instant : d.instant ≡ c.instant + k * c.inc [MOD ptpRound]
  inc : d.inc = c.inc

theorem Clock.After.trans {j k : Nat} {c d e : Clock} (h : Clock.After j c d) (g : Clock.After k d e) (hk : 0 < k) :
    Clock.After (j + k) c e where
  ns _ := g.ns hk
  instant := by
    have hg := g.instant
    rw [h.inc] at hg
    refine (hg.trans (h.instant.add_right _)).trans ?_
    rw [Nat.add_mul, Nat.add_assoc]
  inc := g.inc.trans h.inc

theorem State.clock_after_advance (s : State) (k : Nat) : Clock.After k s.clock (s.advance k).clock := by
  rw [State.clock_advance]
  split
  · rename_i h
    subst h
    exact ⟨fun h => absurd h (Nat.lt_irrefl 0), by rw [Nat.zero_mul, Nat.add_zero], rfl⟩
  · exact ⟨fun _ => Clock.ns_adv_lt _ _, Clock.instant_adv _ _, Clock.inc_adv _ _⟩

theorem State.clock_after_passBy (fuel k : Nat) (s : State) : Clock.After k s.clock (State.passBy fuel k s).clock := by
  induction fuel generalizing k s with
  | zero => exact s.clock_after_advance k
  | succ fuel ih =>
    obtain h | ⟨j, hj, h⟩ := s.passBy_succ fuel k
    · rw [h]
      exact s.clock_after_advance k
    · rw [h]
      have h := (s.clock_after_advance j).trans (ih (k - j) (s.advance j)) (by omega)
      rwa [Nat.add_sub_cancel' (by omega)] at h

theorem ptpClockAddsItsIncrement : Claims.PtpClockAddsItsIncrement := by
  intro k s
  obtain ⟨hns, hinst, -⟩ := s.clock_after_passBy (17 + 8 * (k / 32768)) k
  exact ⟨hns, hinst⟩

/-- Settles O6: the heard writes and reads by their branches, and the passing of ticks by what one advance adds. -/
theorem thePtpClockIsSetReadAndAdvances : Obligations.ThePtpClockIsSetReadAndAdvances :=
  ⟨ptpClockIsSetAndRead, ptpClockAddsItsIncrement⟩

end Sys2Proof.Machine
end

section
/-! PROOFS. Time compares and PTP stamps: obligation O7. -/
namespace Sys2Proof.Machine

open Claims (heard)

/-! ### Time compares (R409, R410) -/

section
variable {s : State} {who : Writer} {c : Nat} {v : Word}

/-- A writer that is heard for one register of a compare is heard for each of them. -/
theorem heard_of_heard_cmpCtrl (h : heard s who (TIME_CMP_CTRL c)) {off : Nat} (h1 : 0x9040 ≤ off)
    (h2 : off < 0x90C0) : heard s who off := by
  rcases h with h | ⟨h, -⟩
  · exact .inl h
  · refine .inr ⟨h, ?_⟩
    simp only [needsMore, Bool.or_eq_false_iff, Bool.and_eq_false_iff, decide_eq_false_iff_not, SYS_CTRL, FIO_DO_OUT,
      FIO_DO_REARM, TRAJ_PRESET_SEL, TRAJ_PRESET_VAL]
    omega

theorem State.noteReached_eq (s : State) (c : Nat) (late : Bool) : s.noteReached c late = { s with clock := { s.clock with
    lateArm := s.clock.lateArm.set c (if s.on (TIME_CMP_CTRL_ARM c) = true ∧ 0 ≤ s.cmpDiff c then some (s.now, late)
      else none) } } := by
  simp only [State.noteReached, State.modClock, Bool.and_eq_true, decide_eq_true_eq]

/-- A compare that is disarmed has reached nothing. -/
theorem State.noteReached_disarmed (h : s.rd (TIME_CMP_CTRL_ARM c) = 0) (late : Bool) :
    s.noteReached c late = { s with clock := { s.clock with lateArm := s.clock.lateArm.set c none } } := by
  rw [State.noteReached_eq, if_neg (by simp [State.on, h])]

theorem State.on_arm_set : State.on { s with regs := s.regs.set (TIME_CMP_CTRL c) v } (TIME_CMP_CTRL_ARM c) = v.getLsbD 31 := by
  simp only [State.on, State.rd, RegFile.rd, RegFile.get_set]
  exact decide_bitsOf_bit v 31

theorem exec_cmpArm_zero (hb : s.mod.phase ≠ .boot) (hh : heard s who (TIME_CMP_CTRL c)) (hv : bitsOf v 29 0 = 0) :
    exec (.cmpArm who c v) s = .next (s.mmioRefuse (TIME_CMP_CTRL c) 0x05) := by
  simp only [exec, execCmpArm, State.heardWrite_of_heard _ hb hh, if_pos hv]

theorem exec_cmpArm (hb : s.mod.phase ≠ .boot) (hh : heard s who (TIME_CMP_CTRL c)) (hv : bitsOf v 29 0 ≠ 0) :
    exec (.cmpArm who c v) s =
      .next (({ s with regs := s.regs.set (TIME_CMP_CTRL c) v } : State).noteReached c true) := by
  simp only [exec, execCmpArm, State.heardWrite_of_heard _ hb hh, if_neg hv]

/-- The field of a compare's target that a write names, and the value it takes. -/
def cmpField (c : Nat) (v : Word) : CmpPart → Fld × Nat
  | .sLo => (TIME_CMP_S_LO_S_LO c, v.toNat)
  | .sHi => (TIME_CMP_S_HI_S_HI c, bitsOf v 15 0)
  | .ns => (TIME_CMP_NS_NS c, bitsOf v 29 0)

/-- The state with a compare disarmed. -/
def State.disarmed (s : State) (c : Nat) : State :=
  { s with regs := s.regs.wr (TIME_CMP_CTRL_ARM c) 0, clock := { s.clock with lateArm := s.clock.lateArm.set c none } }

theorem exec_cmpTargetWrite {part : CmpPart} (hc : c < 4) (hb : s.mod.phase ≠ .boot) (hh : heard s who (TIME_CMP_CTRL c))
    (hv : part = .ns → bitsOf v 29 0 < 1000000000) : exec (.cmpTargetWrite who c part v) s =
      .next ((s.disarmed c).wr (cmpField c v part).1 (cmpField c v part).2) := by
  have hd : (s.wr (TIME_CMP_CTRL_ARM c) 0).noteReached c false = s.disarmed c :=
    State.noteReached_disarmed (State.rd_wr_bit _ _ _ _ (by decide)) _
  have hw : ∀ off t, 0x9040 ≤ off → off < 0x90C0 → s.heardWrite who off t = t := fun off t h1 h2 =>
    State.heardWrite_of_heard t hb (heard_of_heard_cmpCtrl hh h1 h2)
  simp only [exec, execCmpTargetWrite, hd]
  cases part with
  | sLo => simp only [hw (TIME_CMP_S_LO c) _ (by simp only [TIME_CMP_S_LO]; omega) (by simp only [TIME_CMP_S_LO]; omega)]; rfl
  | sHi => simp only [hw (TIME_CMP_S_HI c) _ (by simp only [TIME_CMP_S_HI]; omega) (by simp only [TIME_CMP_S_HI]; omega)]; rfl
  | ns =>
    simp only [hw (TIME_CMP_NS c) _ (by simp only [TIME_CMP_NS]; omega) (by simp only [TIME_CMP_NS]; omega),
      if_neg (Nat.not_le.mpr (hv rfl))]
    rfl

theorem exec_cmpTargetWrite_badNs (hb : s.mod.phase ≠ .boot) (hh : heard s who (TIME_CMP_NS c))
    (hv : 1000000000 ≤ bitsOf v 29 0) :
    exec (.cmpTargetWrite who c .ns v) s = .next (s.mmioRefuse (TIME_CMP_NS c) 0x05) := by
  simp only [exec, execCmpTargetWrite, State.heardWrite_of_heard _ hb hh, if_pos hv]

/-- The field of the target that is written takes its value, and the compare stays disarmed. -/
theorem State.rd_disarmed_wr (s : State) (c : Nat) (x : Fld) (n : Nat) (h : x.off ≠ TIME_CMP_CTRL c) :
    ((s.disarmed c).wr x n).rd (TIME_CMP_CTRL_ARM c) = 0 := by
  refine (State.rd_wr_off _ _ (Ne.symm h)).trans ?_
  exact State.rd_wr_bit s _ _ 0 (by decide)

theorem cmpField_off_ne (c : Nat) (v : Word) (part : CmpPart) : (cmpField c v part).1.off ≠ TIME_CMP_CTRL c := by
  cases part <;> simp only [cmpField, TIME_CMP_S_LO, TIME_CMP_S_HI, TIME_CMP_NS, TIME_CMP_CTRL] <;> omega

theorem bitsOf_lt (w : Word) (hi lo : Nat) : bitsOf w hi lo < 2 ^ (hi + 1 - lo) := Nat.mod_lt _ (Nat.two_pow_pos _)

theorem State.rd_cmpField (s : State) (c : Nat) (v : Word) (part : CmpPart) :
    (s.wr (cmpField c v part).1 (cmpField c v part).2).rd (cmpField c v part).1 = (cmpField c v part).2 := by
  cases part with
  | sLo => exact State.rd_wr_of_fits s (by decide) (by decide) v.isLt
  | sHi => exact State.rd_wr_of_fits s (by decide) (by decide) (bitsOf_lt v 15 0)
  | ns => exact State.rd_wr_of_fits s (by decide) (by decide) (bitsOf_lt v 29 0)

theorem exec_timeCmp_of_disarmed (h : s.rd (TIME_CMP_CTRL_ARM c) ≠ 1) : exec (.timeCmp c) s = .next s :=
  congrArg _ (if_pos (by simpa [State.on] using h))

/-- The state in which an armed compare fires, with the DATA of its event (R409, R410). -/
def State.cmpDue (s : State) (c : Nat) : State × Nat :=
  match s.clock.lateArm.getD c none with
  | some x => (s.passTo (x.1 + 1), b2n x.2)
  | none => (s.pass (s.cmpTicks c), 0)

theorem exec_timeCmp_of_armed (h : s.rd (TIME_CMP_CTRL_ARM c) = 1) :
    exec (.timeCmp c) s = .next ((s.cmpDue c).1.fireCmp c (s.cmpDue c).2) := by
  simp only [exec, execTimeCmp, State.on, h, decide_true, Bool.not_true, Bool.false_eq_true, if_false, State.cmpDue]
  split <;> rename_i hx <;> simp only [hx]

theorem State.fireCmp_eq (u : State) (c data : Nat) : ∃ v w,
    v = (u.raise (55 + c) data).wr (TIME_CMP_TALLY_TALLY c) ((u.raise (55 + c) data).mod.tally.toNat % 2 ^ 32) ∧
    w = (if v.on (TIME_CMP_CTRL_PERIODIC c) then v.moveTarget c (100 * v.rd (TIME_CMP_CTRL_PERIOD c))
      else v.wr (TIME_CMP_CTRL_ARM c) 0) ∧ u.fireCmp c data = w.noteReached c false := by
  refine ⟨_, _, rfl, rfl, ?_⟩
  have hm : (u.raise (55 + c) data).mod.tally = u.mod.tally := by simp
  rw [hm]
  rfl

theorem timeComparesArmAndFire : Claims.TimeComparesArmAndFire := by
  refine ⟨fun who c v s _ hb hh hv => exec_cmpArm_zero hb hh hv, fun who c v s _ hb hh hv => ⟨_, rfl, ?_⟩,
    fun who c v s _ hb hh hv => exec_cmpTargetWrite_badNs hb hh hv,
    fun who c part v s hc hb hh hv => ⟨_, exec_cmpTargetWrite hc hb hh hv,
      State.rd_disarmed_wr _ _ _ _ (cmpField_off_ne c v part), ?_, ?_, ?_, rfl⟩,
    fun c s h => exec_timeCmp_of_disarmed h, fun c s h => ?_⟩
  · rw [exec_cmpArm hb hh hv, State.noteReached_eq, State.on_arm_set]
  · rintro rfl
    exact State.rd_cmpField _ c v .sLo
  · rintro rfl
    exact State.rd_cmpField _ c v .sHi
  · rintro rfl
    exact State.rd_cmpField _ c v .ns
  · obtain ⟨v, w, hv, hw, hf⟩ := State.fireCmp_eq (s.cmpDue c).1 c (s.cmpDue c).2
    refine ⟨_, ?_, v, w, hv, hw, ?_⟩
    · unfold State.cmpDue
      split <;> rename_i hx <;> simp only [hx]
    · rw [exec_timeCmp_of_armed h, hf, State.noteReached_eq]

end

/-! ### PTP stamps (R411) -/

section
variable {s : State} {p : Nat}

theorem State.showStamp_eq (s : State) (p : Nat) : s.showStamp p = { s with regs := (s.showStamp p).regs } := by
  unfold State.showStamp
  dsimp only
  split <;> rfl

/-- The instant of a stamp, with the port's latency: back for reception and on for transmission. -/
def State.stampTime (s : State) (p : Nat) (tx : Bool) : Int :=
  s.clock.sec.toNat * 1000000000 + s.clock.ns +
    if tx then (s.rd (TIME_TS_CFG_TX_LAT p) : Int) else -(s.rd (TIME_TS_CFG_RX_LAT p) : Int)

/-- The stamp of an instant. -/
def stampAt (t : Int) (tx : Bool) (msg : BitVec 2) (seqId : BitVec 16) : Stamp :=
  { tx := tx, msg := msg, seqId := seqId, sec := (t / 1000000000 % (2 ^ 48 : Nat)).toNat, ns := (t % 1000000000).toNat }

theorem stampAt_ns_lt (t : Int) (tx : Bool) (msg : BitVec 2) (seqId : BitVec 16) : (stampAt t tx msg seqId).ns < 1000000000 := by
  simp only [stampAt]
  omega

theorem stampAt_instant (t : Int) (tx : Bool) (msg : BitVec 2) (seqId : BitVec 16) :
    ((((stampAt t tx msg seqId).sec * 1000000000 + (stampAt t tx msg seqId).ns : Nat) : Int) - t) %
      ((2 ^ 48 * 1000000000 : Nat) : Int) = 0 := by
  simp only [stampAt]
  omega

theorem exec_ptpEventStamp_of_room (tx : Bool) (msg : BitVec 2) (seqId : BitVec 16) (he : s.rd (TIME_TS_CFG_EN p) = 1)
    (hl : (s.clock.stamps.getD p []).length < 16) : exec (.ptpEventStamp p tx msg seqId) s =
      .next ((s.modClock fun c => { c with
        stamps := updAt c.stamps p fun l => l ++ [stampAt (s.stampTime p tx) tx msg seqId] }).showStamp p) := by
  simp only [exec, execPtpEventStamp, State.on, he, decide_true, Bool.not_true, Bool.false_eq_true, if_false,
    if_neg (Nat.not_le.mpr hl)]
  rfl

theorem ptpStampsAreKeptInOrder : Claims.PtpStampsAreKeptInOrder := by
  refine ⟨fun p tx msg seqId s he => ?_, fun p tx msg seqId s he hl => ?_, fun p tx msg seqId s he hp hl => ?_,
    fun p s hb => ?_⟩
  · exact congrArg _ (if_pos (by simpa [State.on] using he))
  · simp only [exec, execPtpEventStamp, State.on, he, decide_true, Bool.not_true, Bool.false_eq_true, if_false, if_pos hl]
  · refine ⟨_, stampAt (s.stampTime p tx) tx msg seqId, exec_ptpEventStamp_of_room tx msg seqId he hl, ?_, rfl, rfl, rfl,
      stampAt_instant _ _ _ _, stampAt_ns_lt _ _ _ _, fun q hq => ?_, (State.showStamp_eq _ p).trans ?_⟩
    · simpa using updAt_getD_self s.clock.stamps p (fun l => l ++ [stampAt (s.stampTime p tx) tx msg seqId]) [] hp
    · simpa using updAt_getD_ne s.clock.stamps (fun l => l ++ [stampAt (s.stampTime p tx) tx msg seqId]) [] hq
    · simp [State.modClock]
  · simp only [exec, execPtpStampRead, State.readAfterBoot_of_booted hb]
    refine ⟨_, rfl, rfl, by simp [State.returned], ?_⟩
    rw [State.showStamp_eq]
    simp [State.returned, State.modClock]

/-- Settles O7: the arming and the firing of a compare by the branches of its commands, and the stamps by the list of a port. -/
theorem timeComparesFireAndStampsKeepOrder : Obligations.TimeComparesFireAndStampsKeepOrder :=
  ⟨timeComparesArmAndFire, ptpStampsAreKeptInOrder⟩

end

end Sys2Proof.Machine
end

section
/-! PROOFS. Groups form, elect a leader and lose members: obligation O26. -/
namespace Sys2Proof.Machine

/-! ### The event GRP leaves the registers of the group alone -/

section
variable (s : State) (code id hi lo : Nat)

theorem State.rd_grpEvent {x : Fld} (hx : ¬ occurReg x.off) (hj : x.off ≠ JRNL_STAT) : (s.grpEvent code id).rd x = s.rd x :=
  (State.rd_journalAdd_of_ne _ _ _ _ _ hj).trans (State.rd_raise _ _ _ (by decide) hx)

theorem not_occurReg_grpStat : ¬ occurReg GRP_STAT := by unfold occurReg; decide

theorem State.rd_grpStat_grpEvent : (s.grpEvent code id).rd ⟨GRP_STAT, hi, lo⟩ = s.rd ⟨GRP_STAT, hi, lo⟩ :=
  State.rd_grpEvent s code id not_occurReg_grpStat (by show GRP_STAT ≠ JRNL_STAT; decide)

theorem State.data_grpEvent : (s.grpEvent code id).rd (EIC_SRC_LOG_DATA 60) = (code + 256 * id) % 65536 := by
  have h := congrArg (fun x => x.2.2) (State.source_raise_self s (code + 256 * id) (n := 60) (by decide))
  exact (State.rd_journalAdd_of_ne _ _ _ _ _ (by decide)).trans h

/-- A register is the word that its whole field shows. -/
theorem State.get_eq_of_rd {s t : State} {off : Nat} (h : t.rd ⟨off, 31, 0⟩ = s.rd ⟨off, 31, 0⟩) :
    t.regs.get off = s.regs.get off := by
  apply BitVec.eq_of_toNat_eq
  simpa [State.rd, RegFile.rd, bitsOf, Nat.mod_eq_of_lt (t.regs.get off).isLt, Nat.mod_eq_of_lt (s.regs.get off).isLt]
    using h

end

/-! ### Exclusion and election (R414) -/

section
variable {s : State}

theorem State.rd_role_exclude (s : State) (cause : Nat) : (s.exclude cause).rd GRP_STAT_ROLE = 3 := by
  unfold State.exclude
  rw [State.rd_grpStat_grpEvent]
  refine (State.rd_wr_other (s.wr GRP_STAT_ROLE 3) (by decide) (by decide) (by decide) (by decide)).trans ?_
  exact State.rd_wr_of_fits s (by decide) (by decide) (by decide)

theorem State.rd_cause_exclude (s : State) {cause : Nat} (h : cause < 16) : (s.exclude cause).rd GRP_STAT_CAUSE = cause := by
  unfold State.exclude
  rw [State.rd_grpStat_grpEvent]
  exact State.rd_wr_of_fits (s.wr GRP_STAT_ROLE 3) (by decide) (by decide) (by simpa using h)

theorem State.forming_exclude (s : State) (cause : Nat) : (s.exclude cause).grp.forming = false := by
  simp [State.exclude]

theorem State.rd_active_exclude (s : State) (cause : Nat) : (s.exclude cause).rd GRP_STAT_ACTIVE = s.rd GRP_STAT_ACTIVE := by
  unfold State.exclude
  rw [State.rd_grpStat_grpEvent]
  refine (State.rd_wr_other (s.wr GRP_STAT_ROLE 3) (by decide) (by decide) (by decide) (by decide)).trans ?_
  exact State.rd_wr_other s (by decide) (by decide) (by decide) (by decide)

/-- An exclusion changes registers, what an event touches, and the formation. -/
theorem State.exclude_eq (s : State) (cause : Nat) : s.exclude cause = { s with
    regs := (s.exclude cause).regs, eic := (s.exclude cause).eic, laneA := (s.exclude cause).laneA
    laneB := (s.exclude cause).laneB, journal := (s.exclude cause).journal, grp := (s.exclude cause).grp } :=
  State.eq_of_parts (by simp [State.exclude])

theorem mem_placeMember {a x : Announce} {l : List Announce} (h : x ∈ placeMember a l) : x = a ∨ x ∈ l := by
  induction l with
  | nil => exact .inl (List.mem_singleton.mp h)
  | cons b t ih =>
    unfold placeMember at h
    split at h
    · rcases List.mem_cons.mp h with h | h
      · exact .inl h
      · exact .inr (List.mem_cons_of_mem _ h)
    · split at h
      · exact List.mem_cons.mp h
      · rcases List.mem_cons.mp h with h | h
        · exact .inr (h ▸ List.mem_cons_self)
        · exact (ih h).imp_right (List.mem_cons_of_mem _)

theorem self_mem_placeMember (a : Announce) (l : List Announce) : a ∈ placeMember a l := by
  induction l with
  | nil => exact List.mem_singleton.mpr rfl
  | cons b t ih =>
    unfold placeMember
    (repeat' split) <;> simp [ih]

/-- Of announcements in rising order of the IDs, the first with LEADER_EN is the lowest one. -/
theorem find_leader {l : List Announce} {a : Announce} (hl : l.Pairwise (fun a b => a.id < b.id)) (ha : a ∈ l)
    (he : a.leaderEn = true) (hm : ∀ b ∈ l, b.leaderEn = true → a.id ≤ b.id) : l.find? (·.leaderEn) = some a := by
  induction l with
  | nil => cases ha
  | cons b t ih =>
    obtain ⟨hb, ht⟩ := List.pairwise_cons.mp hl
    rcases List.mem_cons.mp ha with rfl | hat
    · exact List.find?_cons_of_pos he
    · have hbe : ¬ b.leaderEn = true := fun h => absurd (hm b List.mem_cons_self h) (Nat.not_le.mpr (hb a hat))
      rw [List.find?_cons_of_neg hbe]
      exact ih ht hat fun c hc => hm c (List.mem_cons_of_mem _ hc)

theorem eq_of_id_eq {l : List Announce} {a b : Announce} (hl : l.Pairwise (fun a b => a.id < b.id)) (ha : a ∈ l) (hb : b ∈ l)
    (h : a.id = b.id) : a = b := by
  have hnd : (l.map (·.id)).Nodup := (List.pairwise_map.mpr hl).imp Nat.ne_of_lt
  exact List.inj_on_of_nodup_map hnd ha hb h

/-- The leader is among those it enrols. -/
theorem leader_mem_enrol (leader : Announce) (l : List Announce) : leader.id ∈ (enrol leader l).1 := by
  unfold enrol
  refine foldl_inv (p := fun x : List Nat × Nat × Nat => leader.id ∈ x.1) (fun x a hx => ?_) l (List.mem_singleton.mpr rfl)
  dsimp only
  (repeat' split) <;> simp [hx]

theorem State.elect_of_none (h : (placeMember s.ownAnnounce s.grp.members).find? (·.leaderEn) = none) :
    s.elect = (s.wr GRP_STAT_ROLE 0).modGrp fun g => { g with forming := false } := by
  simp only [State.elect, h]

theorem State.elect_of_unlike {l : Announce} (h : (placeMember s.ownAnnounce s.grp.members).find? (·.leaderEn) = some l)
    (hn : s.ownAnnounce.n ≠ l.n ∨ s.ownAnnounce.frameSrc ≠ l.frameSrc) : s.elect = s.exclude 2 := by
  simp only [State.elect, h]
  rw [if_pos (by simpa using hn)]

/-- The module leads where it is the lowest with LEADER_EN itself. -/
theorem State.elect_of_own (h : (placeMember s.ownAnnounce s.grp.members).find? (·.leaderEn) = some s.ownAnnounce) :
    ∃ active ver, s.elect = ((((s.wr GRP_STAT_ROLE 1).wr GRP_STAT_LEADER_ID s.ownAnnounce.id).wr GRP_STAT_ACTIVE active).wr
      GRP_STAT_VER ver).modGrp fun g => { g with since := s.now } := by
  have hin : (enrol s.ownAnnounce (placeMember s.ownAnnounce s.grp.members)).1.contains s.ownAnnounce.id = true :=
    List.contains_iff_mem.mpr (leader_mem_enrol _ _)
  simp only [State.elect, h, hin]
  rw [if_neg (by simp), if_neg (by simp)]
  simp only [if_true]
  exact ⟨_, _, rfl⟩

theorem State.rd_leading {active ver id : Nat} (hid : id < 8) :
    ((((s.wr GRP_STAT_ROLE 1).wr GRP_STAT_LEADER_ID id).wr GRP_STAT_ACTIVE active).wr GRP_STAT_VER ver).rd GRP_STAT_ROLE = 1 ∧
    ((((s.wr GRP_STAT_ROLE 1).wr GRP_STAT_LEADER_ID id).wr GRP_STAT_ACTIVE active).wr GRP_STAT_VER ver).rd GRP_STAT_LEADER_ID =
      id := by
  constructor
  · rw [State.rd_wr_other _ (by decide) (by decide) (by decide) (by decide),
      State.rd_wr_other _ (by decide) (by decide) (by decide) (by decide),
      State.rd_wr_other _ (by decide) (by decide) (by decide) (by decide)]
    exact State.rd_wr_of_fits s (by decide) (by decide) (by decide)
  · rw [State.rd_wr_other _ (by decide) (by decide) (by decide) (by decide),
      State.rd_wr_other _ (by decide) (by decide) (by decide) (by decide)]
    exact State.rd_wr_of_fits _ (by decide) (by decide) hid

theorem theLowestIdWithLeaderEnLeads : Claims.TheLowestIdWithLeaderEnLeads := by
  refine ⟨fun s hm hown => ?_, fun s l hsort hmem hen hlow => ?_⟩
  · have hnone : (placeMember s.ownAnnounce s.grp.members).find? (·.leaderEn) = none := by
      refine List.find?_eq_none.mpr fun x hx => ?_
      rcases mem_placeMember hx with rfl | hx
      · simpa [State.ownAnnounce, State.on] using hown
      · simp [hm x hx]
    rw [State.elect_of_none hnone]
    have hrole : (s.wr GRP_STAT_ROLE 0).rd GRP_STAT_ROLE = 0 := State.rd_wr_of_fits s (by decide) (by decide) (by decide)
    exact ⟨hrole, rfl⟩
  · have hfind := find_leader hsort hmem hen hlow
    refine ⟨fun hn => ?_, fun hid hlt => ?_⟩
    · rw [State.elect_of_unlike hfind hn]
      exact ⟨s.rd_role_exclude 2, s.rd_cause_exclude (by decide), s.forming_exclude 2⟩
    · obtain rfl := eq_of_id_eq hsort hmem (self_mem_placeMember _ _) hid
      obtain ⟨active, ver, he⟩ := State.elect_of_own hfind
      have hlead := State.rd_leading (s := s) (active := active) (ver := ver) hlt
      exact he ▸ hlead

end

/-! ### Announcements and times (R414, R415) -/

section
variable {s : State}

theorem State.inGroup_iff : s.inGroup = true ↔ s.rd GRP_STAT_ROLE = 1 ∨ s.rd GRP_STAT_ROLE = 2 := by
  exact (Bool.or_eq_true _ _).to_iff.trans (or_congr decide_eq_true_iff decide_eq_true_iff)

theorem groupsForm : Claims.GroupsForm := by
  refine ⟨fun a s hl h => ⟨_, rfl, ?_⟩, fun a s hl hf hr => ?_, fun a s hl hid hf => ?_, fun a s hl hid => ⟨_, rfl, ?_⟩,
    fun s hf ha hr => ?_, fun s hf hr hlock => ?_⟩
  · have hin : (s.grp.forming || s.inGroup) = true := by
      rw [Bool.or_eq_true, State.inGroup_iff]
      exact h
    simp only [exec, execAnnounce, hl, if_true, hin]
    rfl
  · have hin : (s.grp.forming || s.inGroup) = false := by
      rw [hf, Bool.false_or, Bool.eq_false_iff, ne_eq, State.inGroup_iff]
      omega
    simp only [exec, execAnnounce, hl, if_true, hin, Bool.false_eq_true, if_false]
  · have hx : exec (.announce a) s = .next ((s.wr GRP_STAT_ACTIVE 0).exclude 1) := by
      simp only [exec, execAnnounce, hl, Bool.false_eq_true, if_false, State.grpId, if_pos hid, hf, if_true]
    refine ⟨_, hx, State.rd_role_exclude _ 1, State.rd_cause_exclude _ (by decide), ?_, State.forming_exclude _ 1,
      State.exclude_eq (s.wr GRP_STAT_ACTIVE 0) 1⟩
    rw [State.rd_active_exclude]
    exact State.rd_wr_of_fits s (by decide) (by decide) (by decide)
  · have hid' : a.id ≠ s.grpId := hid
    simp only [exec, execAnnounce, hl, Bool.false_eq_true, if_false, if_neg hid']
    rfl
  · simp only [exec, execGroupWaitExpiry, State.grpRole, hf, ha, hr, decide_true, Bool.and_self, if_true]
  · have hx : exec .fllLockTimeout s = .next ((s.passTo (s.grp.since + 2000000)).exclude 4) := by
      simp only [exec, execFllLockTimeout, State.grpRole, State.on, hf, hr, hlock, decide_true, decide_false, Bool.not_false,
        Bool.and_self, if_true]
    exact ⟨_, hx, State.rd_role_exclude _ 4, State.rd_cause_exclude _ (by decide), State.forming_exclude _ 4⟩

/-! ### Leaving (R420) -/

/-- The registers of a follower that has left, before its event. -/
def State.leftAlone (s : State) : State :=
  (((s.modGrp fun g =>
    { g with forming := false, left := true, leaderInc := none, adjust := none, load := none, startAt := none }).wr GRP_STAT_ROLE 0).wr CLK_STAT_FLL_LOCK 0).wr GRP_STAT_ACTIVE 0

theorem State.leaveGroup_eq (s : State) : s.leaveGroup = s.leftAlone.grpEvent 3 (s.rd GRP_STAT_LEADER_ID) := rfl

theorem State.rd_leftAlone (s : State) : s.leftAlone.rd GRP_STAT_ROLE = 0 ∧ s.leftAlone.rd CLK_STAT_FLL_LOCK = 0 ∧
    s.leftAlone.rd GRP_STAT_ACTIVE = 0 ∧ s.leftAlone.regs.get CLK_NDIV = s.regs.get CLK_NDIV := by
  have hc : CLK_STAT ≠ GRP_STAT := by decide
  have hg : GRP_STAT ≠ CLK_STAT := by decide
  have hnc : CLK_NDIV ≠ CLK_STAT := by decide
  have hng : CLK_NDIV ≠ GRP_STAT := by decide
  refine ⟨?_, ?_, State.rd_wr_of_fits _ (by decide) (by decide) (by decide), State.get_eq_of_rd ?_⟩
  · rw [State.leftAlone, State.rd_wr_other _ (by decide) (by decide) (by decide) (by decide), State.rd_wr_mk _ hg]
    exact State.rd_wr_of_fits _ (by decide) (by decide) (by decide)
  · rw [State.leftAlone, State.rd_wr_mk _ hc]
    exact State.rd_wr_of_fits _ (by decide) (by decide) (by decide)
  · rw [State.leftAlone, State.rd_wr_mk _ hng, State.rd_wr_mk _ hnc, State.rd_wr_mk _ hng]
    rfl

theorem exec_grpClkAbsent (h : s.rd GRP_STAT_ROLE = 2) : exec .grpClkAbsent s = .next s.leaveGroup := congrArg _ (if_pos h)

theorem State.wr_grpEvent_eq (u : State) (x : Fld) (v code id : Nat) : (u.wr x v).grpEvent code id = { u with
    regs := ((u.wr x v).grpEvent code id).regs, eic := ((u.wr x v).grpEvent code id).eic
    laneA := ((u.wr x v).grpEvent code id).laneA, laneB := ((u.wr x v).grpEvent code id).laneB
    journal := ((u.wr x v).grpEvent code id).journal } :=
  State.eq_of_parts (by simp)

/-- The leader after it has dropped a member, before its event. -/
def State.dropped (s : State) (k : Nat) : State := (s.passTo (s.grp.annAt.getD k 0 + 1200000)).wr ⟨GRP_STAT, 8 + k, 8 + k⟩ 0

theorem exec_memberLost {k : Nat} (hr : s.rd GRP_STAT_ROLE = 1) (hk : k ≠ s.rd GRP_STAT_ID)
    (hbit : s.rd ⟨GRP_STAT, 8 + k, 8 + k⟩ = 1) : exec (.memberLost k) s = .next ((s.dropped k).grpEvent 2 k) := by
  have hn : (decide (s.grpRole ≠ 1) || decide (k = s.grpId) || !s.on ⟨GRP_STAT, 8 + k, 8 + k⟩) = false := by
    simp [State.grpRole, State.grpId, State.on, hr, hk, hbit]
  rw [exec, execMemberLost, hn, if_neg (by decide), State.dropped]

theorem membersLeaveTheGroup : Claims.MembersLeaveTheGroup := by
  refine ⟨fun s hr => ⟨_, exec_grpClkAbsent hr, ?_⟩, fun s hr => ⟨congrArg _ (if_neg hr), ?_⟩,
    fun s hr hf ht => ⟨_, ?_, exec_grpClkAbsent hr⟩, fun k s hr hk hlt hbit => ?_⟩
  · obtain ⟨hrole, hfll, hact, hdiv⟩ := s.rd_leftAlone
    have hid : s.rd GRP_STAT_LEADER_ID < 2 ^ 3 := RegFile.rd_lt s.regs GRP_STAT_LEADER_ID
    rw [State.leaveGroup_eq]
    refine ⟨?_, ?_, ?_, ?_, ?_, by simp [State.leftAlone], State.eq_of_parts (by simp [State.leftAlone])⟩
    · rw [State.rd_grpStat_grpEvent, hrole]
    · rw [State.rd_grpEvent _ _ _ not_occurReg_clkStat (by decide), hfll]
    · rw [State.rd_grpStat_grpEvent, hact]
    · rw [State.data_grpEvent]
      omega
    · refine (State.get_eq_of_rd (State.rd_grpEvent _ _ _ ?_ ?_)).trans hdiv
      · unfold occurReg
        decide
      · decide
  · have hn : (decide (s.grpRole = 2) && !s.grp.forming && decide (3 ≤ (s.mod.tally - s.grp.lastBoundary).toNat)) = false := by
      simp [State.grpRole, hr]
    simp only [exec, execBoundaryMissing, hn, Bool.false_eq_true, if_false]
  · simp only [exec, execBoundaryMissing, State.grpRole, hr, hf, ht, decide_true, Bool.not_false, Bool.and_self, if_true]
  · refine ⟨_, _, rfl, exec_memberLost hr hk hbit, ?_, ?_, ?_⟩
    · rw [State.rd_grpStat_grpEvent, State.dropped, State.rd_wr_bit _ _ _ _ (by omega)]
    · rw [State.data_grpEvent]
      omega
    · exact State.wr_grpEvent_eq (s.passTo (s.grp.annAt.getD k 0 + 1200000)) _ _ _ _

/-- Settles O26: a group forms, elects and loses members by what exclusion, election and leaving write of GRP_STAT. -/
theorem groupsFormElectALeaderAndLoseMembers : Obligations.GroupsFormElectALeaderAndLoseMembers :=
  ⟨groupsForm, theLowestIdWithLeaderEnLeads, membersLeaveTheGroup⟩

end

end Sys2Proof.Machine
end

section
/-! PROOFS. Triggers, recorder, Rake and injection: obligation O39. -/
namespace Sys2Proof.Machine

open Claims (inLane)

/-! ### What the recorder's tests say -/

theorem Lane.not_on_of_eq_zero {l : Lane} {x : Fld} (h : l.rd x = 0) : l.on x = false := by simp [Lane.on, h]

/-- The model's angle qualifier holds without ANG_EN or inside the window. -/
theorem Lane.inWindow_iff {l : Lane} {u : Nat} : l.inWindow u = true ↔ l.rd (REC_TRIG_CFG_ANG_EN u) ≠ 1 ∨ Claims.inWindow l u = true := by
  simp only [Lane.inWindow, Claims.inWindow, Lane.on]
  by_cases ha : l.rd (REC_TRIG_CFG_ANG_EN u) = 1
  · by_cases hw : l.rd (REC_TRIG_ANG_A_HI u) * 65536 < l.rd (REC_TRIG_ANG_A_LO u) * 65536
    · simp [ha, hw, Nat.not_le.mpr hw]
    · simp [ha, hw, Nat.not_lt.mp hw]
  · simp [ha]

section
variable {i : LaneId} {s : State}

/-! ### Trigger units (R376, R378, R379) -/

/-- The unit's firing that waited is taken from it. -/
def State.takeDue (s : State) (i : LaneId) (u : Nat) : State :=
  s.modLane i fun l => l.modRec fun r => { r with units := updAt r.units u fun x => { x with due := none } }

/-- The firing that waits in a unit. -/
def State.unitDue (s : State) (i : LaneId) (u : Nat) : Option TrigPoint := ((s.lane i).rec_.units.getD u TrigUnit.reset).due

/-- The trigger point of a firing of a unit. -/
def State.firePoint (s : State) (i : LaneId) (u frac : Nat) : TrigPoint :=
  (s.unitDue i u).getD
    { frac := frac, tick := s.now, past := decide (frac ≠ 0), tally := s.mod.tally, off := s.now - (s.lane i).asc.frameTick }

theorem State.frameOff_modLane (s : State) (i : LaneId) {f : Lane → Lane} (h : ∀ l, (f l).asc = l.asc) :
    (s.modLane i f).frameOff i = s.frameOff i := by
  cases i <;> simp [State.frameOff, State.modLane, State.setLane, State.lane, h]

variable {u frac : Nat}

theorem exec_triggerUnitFire_idle (h : ((s.lane i).rd (REC_TRIG_CFG_TYPE u) = 0 || ((s.unitDue i u).isNone && !(s.lane i).inWindow u)) = true) :
    exec (.triggerUnitFire (inLane i) u frac) s = .next (s.takeDue i u) :=
  congrArg _ ((s.onLanes_inLane i _).trans (if_pos h))

theorem exec_triggerUnitFire_fires
    (h : ((s.lane i).rd (REC_TRIG_CFG_TYPE u) = 0 || ((s.unitDue i u).isNone && !(s.lane i).inWindow u)) ≠ true) :
    exec (.triggerUnitFire (inLane i) u frac) s =
      .next (if ((s.lane i).rd REC_STAT_STATE = 2 && bitAt ((s.lane i).rd REC_CFG_TRIG_MASK) u) = true then
        ((s.takeDue i u).modLane i fun l => l.bump (REC_TRIG_STAT_FIRED u)).recTake i u (s.firePoint i u frac)
        else ((s.takeDue i u).modLane i fun l => l.bump (REC_TRIG_STAT_FIRED u)).modLane i fun l => l.bump (REC_TRIG_STAT_IGNORED u)) := by
  refine congrArg _ ((s.onLanes_inLane i _).trans ((if_neg h).trans ?_))
  have hoff : ((s.takeDue i u).modLane i fun l => l.bump (REC_TRIG_STAT_FIRED u)).frameOff i = s.frameOff i :=
    (State.frameOff_modLane (s.takeDue i u) i (f := fun l => l.bump (REC_TRIG_STAT_FIRED u)) fun _ => rfl).trans
      (State.frameOff_modLane s i (f := fun l => l.modRec fun r => { r with units := updAt r.units u fun x => { x with due := none } })
        fun _ => rfl)
  have hpt : s.firePoint i u frac = (s.unitDue i u).getD
      { frac := frac, tick := ((s.takeDue i u).modLane i fun l => l.bump (REC_TRIG_STAT_FIRED u)).now
        past := decide (frac ≠ 0), tally := ((s.takeDue i u).modLane i fun l => l.bump (REC_TRIG_STAT_FIRED u)).mod.tally
        off := ((s.takeDue i u).modLane i fun l => l.bump (REC_TRIG_STAT_FIRED u)).frameOff i } := by
    rw [hoff]
    simp [State.firePoint, State.frameOff, State.takeDue]
  rw [hpt]
  rfl

theorem triggerUnitsFireOnce : Claims.TriggerUnitsFireOnce := by
  intro i u frac s
  refine ⟨s.unitDue i u, s.firePoint i u frac, s.takeDue i u, rfl, rfl, rfl, fun h => ?_, fun ht hw => ?_⟩
  · refine exec_triggerUnitFire_idle ?_
    rcases h with h | ⟨hd, hen, hin⟩
    · simp [h]
    · have hwin : (s.lane i).inWindow u = false := by
        rw [Bool.eq_false_iff, ne_eq, Lane.inWindow_iff]
        simp [hen, hin]
      simp [hd, hwin]
  · have hfire : ((s.lane i).rd (REC_TRIG_CFG_TYPE u) = 0 || ((s.unitDue i u).isNone && !(s.lane i).inWindow u)) ≠ true := by
      rcases hw with hd | hwin
      · simp [ht, hd]
      · simp [ht, Lane.inWindow_iff.mpr hwin]
    rw [exec_triggerUnitFire_fires hfire]
    refine ⟨fun ⟨h2, hm⟩ => congrArg _ (if_pos ?_), fun h => congrArg _ (if_neg ?_)⟩
    · simp [h2, bitAt, hm]
    · rcases h with h | h <;> simp [h, bitAt]

/-! ### The recorder's states (R379 to R381) -/

theorem exec_recPreDone : exec (.recPreDone (inLane i)) s = .next
    (if ((s.lane i).rd REC_STAT_STATE ≠ 1 || (s.lane i).on REC_CFG_MODE) = true then s
      else (s.passTo ((s.lane i).rec_.armedAt + 4000 * (s.lane i).rd REC_WIN_PRE)).setRec i 2) :=
  congrArg _ (s.onLanes_inLane i _)

theorem recDrained_nil (h : (s.lane i).rec_.stored = []) : exec (.recDrained (inLane i)) s = .next
    (if (s.lane i).rd REC_STAT_STATE = 4 ∧ s.contLeft i = false then s.modLane i fun l => l.wr REC_STAT_STATE 0 else s) := by
  refine congrArg _ ((s.onLanes_inLane i _).trans ?_)
  simp only [h, Bool.and_eq_true, decide_eq_true_eq, Bool.not_eq_true']
  rfl

theorem recDrained_left {c : Nat × BitVec 64 × Nat} {rest : List (Nat × BitVec 64 × Nat)} (h : (s.lane i).rec_.stored = c :: rest)
    (hl : s.capLeft i c.1 = true) : exec (.recDrained (inLane i)) s = .next s := by
  refine congrArg _ ((s.onLanes_inLane i _).trans ?_)
  simp only [h, hl, if_true]

theorem recDrained_done {c : Nat × BitVec 64 × Nat} {rest : List (Nat × BitVec 64 × Nat)} (h : (s.lane i).rec_.stored = c :: rest)
    (hl : s.capLeft i c.1 = false) : ∃ u, u = (s.modLane i fun l => l.modRec fun r => { r with stored := rest }).raiseFromOpen i 52 ∧
    exec (.recDrained (inLane i)) s = .next
      (if (s.lane i).rd REC_STAT_STATE = 4 ∧ rest = [] ∧ u.contLeft i = false then u.modLane i fun l => l.wr REC_STAT_STATE 0 else u) := by
  refine ⟨_, rfl, congrArg _ ((s.onLanes_inLane i _).trans ?_)⟩
  simp only [h, hl, Bool.false_eq_true, if_false, Bool.and_eq_true, decide_eq_true_eq, Bool.not_eq_true', List.isEmpty_iff,
    and_assoc]
  rfl

theorem exec_waitSpace : exec (.waitSpace (inLane i)) s = .next
    (if (s.lane i).rd REC_STAT_STATE = 5 ∧ (s.lane i).roomForWindow = true then s.recFill i else s) := by
  refine congrArg _ ((s.onLanes_inLane i _).trans ?_)
  simp only [Bool.and_eq_true, decide_eq_true_eq]
  rfl

/-! ### Rake and injections (R386, R389) -/

theorem exec_rakeFramesDone : exec (.rakeFramesDone (inLane i)) s = .next
    (if (!(s.lane i).on RAKE_STAT_RUN || (s.lane i).rec_.rakeFrames = 0 || s.rakeCount i < (s.lane i).rec_.rakeFrames.toNat) = true then s
      else ((s.rakeFlush i).modLane i fun l => l.wr RAKE_STAT_RUN 0).raiseFrom i 53 1) :=
  congrArg _ (s.onLanes_inLane i _)

theorem exec_injectionEnd_none {n : Nat} (h : (s.lane i).rec_.inject.getD n none = none) :
    exec (.injectionEnd (inLane i) n) s = .next s := by
  refine congrArg _ ((s.onLanes_inLane i _).trans ?_)
  simp only [h]

theorem exec_injectionEnd_over {n code : Nat} {j : Inject} (h : (s.lane i).rec_.inject.getD n none = some j)
    (ho : j.over_ = some code) : exec (.injectionEnd (inLane i) n) s = .next (s.injectEnd i n code) := by
  refine congrArg _ ((s.onLanes_inLane i _).trans ?_)
  simp only [h, ho, State.injectReport, Option.bind_some]

theorem exec_injectionEnd_ends {n code : Nat} {j : Inject} (h : (s.lane i).rec_.inject.getD n none = some j)
    (ho : j.over_ = none) (hc : s.injectOver j = some code) :
    exec (.injectionEnd (inLane i) n) s = .next (s.injectEnd i n code) := by
  refine congrArg _ ((s.onLanes_inLane i _).trans ?_)
  simp only [h, ho, hc]

theorem exec_injectionEnd_goesOn {n : Nat} {j : Inject} (h : (s.lane i).rec_.inject.getD n none = some j)
    (ho : j.over_ = none) (hc : s.injectOver j = none) : exec (.injectionEnd (inLane i) n) s = .next s := by
  refine congrArg _ ((s.onLanes_inLane i _).trans ?_)
  simp only [h, ho, hc, State.injectReport, Option.bind_some]

theorem frames_le_of_injectOver {j : Inject} (h : s.injectOver j = some 2) : j.body.frames.toNat ≤ (s.mod.tally - j.start).toNat := by
  unfold State.injectOver at h
  dsimp only at h
  split at h
  · simp at h
  · split at h
    · assumption
    · cases h

theorem runs_of_injectOver {j : Inject} (h : s.injectOver j = none) : (s.mod.tally - j.start).toNat < j.body.frames.toNat ∧
    ∀ n ∈ s.maskOrAll j.body.thrMask.toNat, s.rd (SYS_THREAD_STATE_T n) = 2 := by
  unfold State.injectOver at h
  dsimp only at h
  split at h
  · cases h
  · rename_i hf
    split at h
    · cases h
    · rename_i hlt
      refine ⟨Nat.not_le.mp hlt, fun n hn => ?_⟩
      simp only [Bool.or_eq_true, List.any_eq_true, decide_eq_true_eq, not_or, not_exists, not_and] at hf
      exact Classical.not_not.mp (hf.2 n hn)

theorem recorderRakeAndInjectionEnd : Claims.RecorderRakeAndInjectionEnd := by
  refine ⟨fun i s => ⟨fun ⟨h1, hm⟩ => exec_recPreDone.trans (congrArg _ (if_neg ?_)),
      fun h => exec_recPreDone.trans (congrArg _ (if_pos ?_))⟩,
    fun i s => ⟨fun hc => ?_, fun c hc => ?_⟩,
    fun i s => ⟨recDrained_nil, fun c rest => recDrained_left, fun c rest => recDrained_done⟩, fun i s => exec_waitSpace,
    fun i s => ⟨fun ⟨hr, hf, hc⟩ => exec_rakeFramesDone.trans (congrArg _ (if_neg ?_)),
      fun h => exec_rakeFramesDone.trans (congrArg _ (if_pos ?_))⟩,
    fun i n s => ⟨exec_injectionEnd_none, fun j hj => ?_⟩,
    fun j s => ⟨frames_le_of_injectOver, fun h => ⟨(runs_of_injectOver h).1, fun n _ _ => ?_⟩⟩⟩
  · simp [h1, Lane.not_on_of_eq_zero hm]
  · rcases h with h | h <;> simp [Lane.on, h]
  · refine congrArg _ ((s.onLanes_inLane i _).trans ?_)
    simp only [hc]
  · refine congrArg _ ((s.onLanes_inLane i _).trans ?_)
    simp only [hc]
  · simpa [Lane.on, hr] using And.intro hf hc
  · rcases h with h | h | h <;> simp [Lane.on, h]
  · cases ho : j.over_ with
    | some code => exact exec_injectionEnd_over hj ho
    | none =>
      cases hc : s.injectOver j with
      | some code => exact exec_injectionEnd_ends hj ho hc
      | none => exact exec_injectionEnd_goesOn hj ho hc
  · by_cases hn : n ∈ s.maskOrAll j.body.thrMask.toNat
    · exact .inl ((runs_of_injectOver h).2 n hn)
    · exact .inr hn

/-- Settles O39: each event of the recorder, Rake or an injection is one command in its lane, split on the lane's state. -/
theorem triggersRecorderRakeAndInjection : Obligations.TriggersRecorderRakeAndInjection :=
  ⟨triggerUnitsFireOnce, recorderRakeAndInjectionEnd⟩

end

end Sys2Proof.Machine
end

section
/-! PROOFS. Packages are checked before use: obligation O50. -/
namespace Sys2Proof.Machine

/-! ### Slots and their register (R424, R426) -/

/-- The field of a slot's state is one of the two low ones of its register. -/
theorem exists_slotFld (t b : Nat) : ∃ lo, slotFld t b = ⟨SEC_SLOT t, lo + 1, lo⟩ ∧ lo ≤ 4 := by
  unfold slotFld
  split
  · exact ⟨4, rfl, by decide⟩
  · exact ⟨0, rfl, by decide⟩

section
variable {s : State} {t b : Nat}

theorem State.inForce_lt_two (s : State) (t : Nat) : s.rd (SEC_SLOT_IN_FORCE t) < 2 := RegFile.rd_lt s.regs (SEC_SLOT_IN_FORCE t)

theorem State.rd_slotFld_wr_slotFld (s : State) {v : Nat} (h : v < 4) : (s.wr (slotFld t b) v).rd (slotFld t b) = v := by
  obtain ⟨lo, heq, hlo⟩ := exists_slotFld t b
  rw [heq]
  refine State.rd_wr_of_fits s (by omega) (by omega) ?_
  have : lo + 1 + 1 - lo = 2 := by omega
  rw [this]
  exact h

/-- A write of PREFERRED, or of another field above the slots' states, leaves those as they are. -/
theorem State.rd_slotFld_wr_high (s : State) {hi lo v : Nat} (h : 6 ≤ lo) (hh : hi < 32) :
    (s.wr ⟨SEC_SLOT t, hi, lo⟩ v).rd (slotFld t b) = s.rd (slotFld t b) := by
  obtain ⟨lo', heq, hlo'⟩ := exists_slotFld t b
  rw [heq]
  exact State.rd_wr_other s hh (by omega) (by omega) (.inr (by omega))

theorem State.rd_high_wr_slotFld (s : State) {hi lo v : Nat} (h : 6 ≤ lo) (hlo : lo ≤ hi) (hh : hi < 32) :
    (s.wr (slotFld t b) v).rd ⟨SEC_SLOT t, hi, lo⟩ = s.rd ⟨SEC_SLOT t, hi, lo⟩ := by
  obtain ⟨lo', heq, hlo'⟩ := exists_slotFld t b
  rw [heq]
  exact State.rd_wr_other s (by omega) hlo hh (.inl (by omega))

theorem State.slotPkg_eq_of_sec {u v : State} (h : u.sec = v.sec) (t b : Nat) : u.slotPkg t b = v.slotPkg t b := by
  unfold State.slotPkg
  rw [h]

/-! ### The write of a slot (R426, R428) -/

section
variable (s : State) (c : Cmd) (type : Nat) (pkg : Package)

/-- The ticks that the write of a checked package takes. -/
def State.writeTime (s : State) (pkg : Package) : Nat := s.fresh.1.toNat % (writeTicks pkg + 1)

theorem State.writeTime_le : s.writeTime pkg ≤ 4000000 + 3200000 * (8672 + pkg.len) / 2 ^ 20 - (960000 + 400000 * pkg.len / 2 ^ 20) := by
  have h : s.writeTime pkg ≤ writeTicks pkg := Nat.lt_succ_iff.mp (Nat.mod_lt _ (Nat.succ_pos _))
  rwa [writeTicks, checkTicks] at h

theorem State.startWrite_writing : (s.startWrite c type pkg).sec.writing =
    s.sec.writing ++ [{ cmd := some c, type := type, pkg := pkg, until_ := s.now + s.writeTime pkg }] := by
  simp [State.startWrite, State.writeTime]

theorem State.startWrite_slotPkg : (s.startWrite c type pkg).slotPkg (type - 1) (1 - s.rd (SEC_SLOT_IN_FORCE (type - 1))) = none := by
  have hlt := s.inForce_lt_two (type - 1)
  by_cases hb : s.rd (SEC_SLOT_IN_FORCE (type - 1)) = 1
  · simp [State.slotPkg, State.startWrite, hb, List.getD_eq_getElem?_getD, List.getElem?_set]
    split <;> simp_all
  · have h0 : s.rd (SEC_SLOT_IN_FORCE (type - 1)) = 0 := by omega
    simp [State.slotPkg, State.startWrite, h0, List.getD_eq_getElem?_getD, List.getElem?_set]
    split <;> simp_all

theorem State.startWrite_rd_slot :
    (s.startWrite c type pkg).rd (slotFld (type - 1) (1 - s.rd (SEC_SLOT_IN_FORCE (type - 1)))) = 0 := by
  unfold State.startWrite
  dsimp only
  rw [State.rd_slotFld_wr_high _ (by decide) (by decide)]
  exact State.rd_slotFld_wr_slotFld _ (by decide)

theorem State.startWrite_rd_preferred :
    (s.startWrite c type pkg).rd (SEC_SLOT_PREFERRED (type - 1)) = s.rd (SEC_SLOT_IN_FORCE (type - 1)) :=
  State.rd_wr_of_fits _ (by decide) (by decide) (s.inForce_lt_two (type - 1))

end

/-! ### The end of the write -/

/-- The slot not in force, given the package. -/
def State.putSlot (s : State) (t : Nat) (pkg : Package) : State := s.modSec fun x =>
  if 1 - s.rd (SEC_SLOT_IN_FORCE t) = 1 then { x with slotB := x.slotB.set t (some pkg) } else { x with slotA := x.slotA.set t (some pkg) }

theorem State.writeSlot_eq (s : State) (t : Nat) (pkg : Package) : s.writeSlot t pkg =
    (((s.putSlot t pkg).wr (slotFld t (1 - s.rd (SEC_SLOT_IN_FORCE t))) 1).wr (SEC_SLOT_FAIL_CNT t) 0).wr (SEC_SLOT_PREFERRED t)
      (1 - s.rd (SEC_SLOT_IN_FORCE t)) := rfl

theorem State.writeSlot_slotPkg (pkg : Package) (ht : t < 4) (ha : s.sec.slotA.length = 4) (hb : s.sec.slotB.length = 4) :
    (s.writeSlot t pkg).slotPkg t (1 - s.rd (SEC_SLOT_IN_FORCE t)) = some pkg ∧
    (s.writeSlot t pkg).slotPkg t (1 - (1 - s.rd (SEC_SLOT_IN_FORCE t))) = s.slotPkg t (1 - (1 - s.rd (SEC_SLOT_IN_FORCE t))) := by
  have hlt := s.inForce_lt_two t
  have hsec : (s.writeSlot t pkg).sec = (s.putSlot t pkg).sec := rfl
  rw [State.slotPkg_eq_of_sec hsec, State.slotPkg_eq_of_sec hsec]
  by_cases h : s.rd (SEC_SLOT_IN_FORCE t) = 1
  · simp [State.slotPkg, State.putSlot, h, ha, ht]
  · have h0 : s.rd (SEC_SLOT_IN_FORCE t) = 0 := by omega
    simp [State.slotPkg, State.putSlot, h0, hb, ht]

theorem State.writeSlot_rd (s : State) (t : Nat) (pkg : Package) :
    (s.writeSlot t pkg).rd (slotFld t (1 - s.rd (SEC_SLOT_IN_FORCE t))) = 1 ∧
    (s.writeSlot t pkg).rd (SEC_SLOT_PREFERRED t) = 1 - s.rd (SEC_SLOT_IN_FORCE t) ∧
    (s.writeSlot t pkg).rd (SEC_SLOT_FAIL_CNT t) = 0 ∧
    (s.writeSlot t pkg).rd (SEC_SLOT_IN_FORCE t) = s.rd (SEC_SLOT_IN_FORCE t) := by
  have hlt := s.inForce_lt_two t
  rw [State.writeSlot_eq]
  refine ⟨?_, State.rd_wr_of_fits _ (by decide) (by decide) (by omega), ?_, ?_⟩
  · rw [State.rd_slotFld_wr_high _ (by decide) (by decide), State.rd_slotFld_wr_high _ (by decide) (by decide)]
    exact State.rd_slotFld_wr_slotFld _ (by decide)
  · rw [State.rd_wr_other _ (by decide) (by decide) (by decide) (by decide)]
    exact State.rd_wr_of_fits _ (by decide) (by decide) (by decide)
  · rw [State.rd_wr_other _ (by decide) (by decide) (by decide) (by decide),
      State.rd_wr_other _ (by decide) (by decide) (by decide) (by decide),
      State.rd_high_wr_slotFld _ (by decide) (by decide) (by decide)]
    rfl

theorem State.endWrites_of_waiting {w : SlotWrite} (h : s.sec.writing = [w]) (hw : s.now < w.until_) : s.endWrites = s := by
  have hsec : ({ s.sec with writing := [w] } : Sec) = s.sec := by rw [← h]
  simp [State.endWrites, h, hw, Nat.not_le.mpr hw, State.modSec, hsec]

/-- The writes of slots are all done with. -/
def State.noWrites (s : State) : State := { s with sec := { s.sec with writing := [] } }

theorem State.endWrites_of_silent {w : SlotWrite} (h : s.sec.writing = [w]) (hw : w.until_ ≤ s.now) (hc : w.cmd = none) :
    s.endWrites = s.noWrites.writeSlot (w.type - 1) w.pkg := by
  simp [State.endWrites, h, hw, hc, Nat.not_lt.mpr hw, State.modSec, State.noWrites]

theorem State.endWrites_of_asked {w : SlotWrite} {c : Cmd} (h : s.sec.writing = [w]) (hw : w.until_ ≤ s.now)
    (hc : w.cmd = some c) : s.endWrites = (s.noWrites.writeSlot (w.type - 1) w.pkg).secDone c w.type 0 Result.ok := by
  simp [State.endWrites, h, hw, hc, Nat.not_lt.mpr hw, State.modSec, State.noWrites]

/-! ### The check (R423) -/

theorem step_passed {c : Prop} [Decidable c] {n m : Nat} (hn : n ≠ 0) (h : (if c then n else m) = 0) : ¬ c ∧ m = 0 := by
  split at h
  · exact absurd h hn
  · exact ⟨‹_›, h⟩

theorem of_checkStep8_eq_zero {type : Nat} {pkg : Package} (h : s.checkStep8 type pkg = 0) :
    pkg.layoutOk = true ∧ pkg.type = type ∧ pkg.svn ≤ 128 ∧ pkg.rootOk = true ∧ pkg.keyIdx ≤ 15 ∧
      s.rd SEC_REVOKE_KEY / 2 ^ pkg.keyIdx % 2 = 0 ∧ pkg.keySigOk = true ∧ pkg.pkgSigOk = true ∧ pkg.hashOk = true ∧
      (pkg.device = s.deviceId ∨ (pkg.device = 0 ∧ type < 7)) ∧ s.svnFloor type ≤ pkg.svn := by
  unfold State.checkStep8 at h
  simp only [Bool.or_eq_true, Bool.and_eq_true, Bool.not_eq_true', decide_eq_true_eq, bitAt] at h
  obtain ⟨hform, h⟩ := step_passed (by decide) h
  obtain ⟨hroot, h⟩ := step_passed (by decide) h
  obtain ⟨hkey, h⟩ := step_passed (by decide) h
  obtain ⟨hkeySig, h⟩ := step_passed (by decide) h
  obtain ⟨hpkgSig, h⟩ := step_passed (by decide) h
  obtain ⟨hdev, h⟩ := step_passed (by decide) h
  obtain ⟨hhash, h⟩ := step_passed (by decide) h
  obtain ⟨hsvn, h⟩ := step_passed (by decide) h
  simp only [not_or, not_and, not_not, Bool.not_eq_false] at hform hroot hkey hkeySig hpkgSig hdev hhash
  obtain ⟨⟨⟨hlayout, htype⟩, hmax⟩, hsize⟩ := hform
  obtain ⟨⟨hidx, hrevoked⟩, husage⟩ := hkey
  refine ⟨hlayout, htype, by omega, hroot, by omega, by omega, hkeySig, hpkgSig, hhash, ?_, by omega⟩
  by_cases hd : pkg.device = s.deviceId
  · exact .inl hd
  · exact .inr ⟨(hdev hd).1, Nat.not_le.mp (hdev hd).2⟩

theorem of_checkStep_eq_zero {type : Nat} {pkg : Package} (h : s.checkStep type pkg = 0) :
    s.checkStep8 type pkg = 0 ∧ s.ownChecks pkg = true := by
  unfold State.checkStep at h
  dsimp only at h
  split at h
  · contradiction
  · split at h
    · exact ⟨by omega, by assumption⟩
    · cases h

/-! ### The engine and the token (R428, R433) -/

theorem State.engineNext_eq (s : State) (n : Nat) : ∃ u, u = s.passTo (s.sec.engineAt + n) ∧ s.engineNext n =
    (({ u with sec := { u.sec with queue := u.sec.queue.drop 1, engineAt := u.now } } : State).wr SEC_ATT_STAT_QUEUED
      (({ u with sec := { u.sec with queue := u.sec.queue.drop 1, engineAt := u.now } } : State).attWaiting)) := by
  refine ⟨_, rfl, ?_⟩
  simp only [State.engineNext, State.updEngine, State.modSec, List.drop_one]

theorem State.resetToken_tokenEnd (s : State) : s.resetToken.sec.tokenEnd = none := by
  unfold State.resetToken
  dsimp only
  split
  · rfl
  · rename_i h
    exact Option.not_isSome_iff_eq_none.mp h

theorem State.laneReset_tokenEnd (s : State) (i : LaneId) (kind : Nat) : (s.laneReset i kind).sec.tokenEnd = none := by
  unfold State.laneReset
  simp [State.resetToken_tokenEnd]

/-- The engine's state after a check. -/
def State.checkEnd (s : State) (pkg : Package) : State := s.engineNext (checkTicks pkg)

theorem State.checkEnd_eq (s : State) (pkg : Package) : s.checkEnd pkg = s.engineNext (960000 + 400000 * pkg.len / 2 ^ 20) := by
  rw [State.checkEnd, checkTicks]

theorem exec_packageCheckDone_of_check {c : Cmd} {type action : Nat} {pkg : Package} {rest : List EngOp}
    (h : s.sec.queue = .check c type action pkg :: rest) : exec .packageCheckDone s = .next
      (if (s.checkEnd pkg).checkStep type pkg ≠ 0 then
        (s.checkEnd pkg).secDone c type ((s.checkEnd pkg).checkStep type pkg) { status := 0x08, detail := 4, index := 0 }
        else (s.checkEnd pkg).checkedPkg c type pkg) := by
  simp only [exec, execPackageCheckDone, h, State.checkEnd]
  rfl

theorem exec_packageCheckDone_of_no_check (h : ∀ c type action pkg rest, s.sec.queue ≠ .check c type action pkg :: rest) :
    exec .packageCheckDone s = .next s := by
  refine congrArg Host.Outcome.next ?_
  split
  · rename_i heq
    exact absurd heq (h _ _ _ _ _)
  · rfl

/-- Settles O50: the end of a check is split on the step it fails and the type; each part of a slot's write is a lemma. -/
theorem packagesAreCheckedBeforeUse : Obligations.PackagesAreCheckedBeforeUse := by
  refine ⟨fun s => exec_packageCheckDone_of_no_check, fun c type action pkg rest s hq => ⟨s.checkEnd pkg, s.checkEnd_eq pkg, ?_⟩,
    fun n s => s.engineNext_eq n,
    fun c type pkg s _ _ => ⟨_, s.writeTime pkg, rfl, s.writeTime_le pkg, s.startWrite_writing c type pkg,
      s.startWrite_slotPkg c type pkg, s.startWrite_rd_slot c type pkg, s.startWrite_rd_preferred c type pkg⟩,
    fun w s hw => ⟨State.endWrites_of_waiting hw, fun hu => ⟨_, rfl, State.endWrites_of_silent hw hu, fun c => State.endWrites_of_asked hw hu⟩⟩,
    fun t pkg s ht ha hb => ?_, fun type pkg s h => ?_, fun s h => ?_, fun t s h => ?_,
    fun i kind s => ⟨s.laneReset_tokenEnd i kind, State.resetToken_tokenEnd _⟩, fun c pkg s h => ?_⟩
  · refine ⟨fun hn => ?_, fun h0 ht => ?_, fun h0 ht nonce scope minutes hc => ?_, fun h0 ht hc => ?_⟩
    · rw [exec_packageCheckDone_of_check hq, if_pos hn, State.secDone]
      simp only [if_pos hn]
    · rw [exec_packageCheckDone_of_check hq, if_neg (not_not.mpr h0), State.checkedPkg, if_pos ht]
    · rw [exec_packageCheckDone_of_check hq, if_neg (not_not.mpr h0), State.checkedPkg, if_neg (Nat.not_le.mpr ht)]
      simp only [hc]
    · rw [exec_packageCheckDone_of_check hq, if_neg (not_not.mpr h0), State.checkedPkg, if_neg (Nat.not_le.mpr ht)]
      split
      · rename_i heq
        exact absurd heq (hc _ _ _)
      · rfl
  · obtain ⟨hpkg, hother⟩ := State.writeSlot_slotPkg pkg ht ha hb
    obtain ⟨hslot, hpref, hfail, hforce⟩ := s.writeSlot_rd t pkg
    exact ⟨_, _, rfl, rfl, hpkg, hslot, hpref, hfail, hforce, hother⟩
  · obtain ⟨h8, hown⟩ := of_checkStep_eq_zero h
    obtain ⟨hl, ht, hv, hr, hk, hkey, hks, hps, hh, hd, hf⟩ := of_checkStep8_eq_zero h8
    exact ⟨hl, ht, hv, hr, hk, hkey, hks, hps, hh, hd, hf, hown⟩
  · simp only [exec, execDebugTokenExpiry, h]
  · simp only [exec, execDebugTokenExpiry, h]
  · rw [State.applyPkg, if_pos (by simp [h])]

end

end Sys2Proof.Machine
end

section
/-! PROOFS. Quotes and network transactions: obligation O51. -/
namespace Sys2Proof.Machine

section
variable {s : State}

/-! ### Quotes (R430, R431) -/

/-- The engine has ended a signing, and the time to the completion of its ATTEST has passed. -/
def State.signEnd (s : State) (rounds late : Nat) : State :=
  let e := s.engineNext (400 * signMicros rounds)
  (e.passTo (e.now + 400 * min late 1000)).modSec fun x => { x with nonces := x.nonces + 1 }

/-- The whole milliseconds of a signing, begun ones counted. -/
def signMillis (rounds : Nat) : Nat := (signMicros rounds + 999) / 1000

/-- The registers show the rounds and the time of a signing. -/
def State.showSigning (u : State) (rounds : Nat) : State :=
  ((u.wr SEC_LAST_ROUNDS (min rounds 255)).wr SEC_ATT_STAT_LAST_MS (min (signMillis rounds) 255)).wr SEC_ATT_STAT_MAX_MS
    (max (u.rd SEC_ATT_STAT_MAX_MS) (min (signMillis rounds) 255))

theorem exec_signingDone_of_sign {rounds late : Nat} {c : Cmd} {body : List Byte} {rest : List EngOp}
    (h : s.sec.queue = .sign c body :: rest) : exec (.signingDone rounds late) s = .next
      (if 256 < rounds then ((s.signEnd rounds late).showSigning rounds).secDone c 0 0 { status := 0x0B, detail := 3, index := 0 }
        else (((s.signEnd rounds late).showSigning rounds).returnData c
          (body ++ padTo 3309 0 (Config.signature body (s.signEnd rounds late).sec.nonces))).secDone c 0 0 Result.ok) := by
  have hmax : (s.signEnd rounds late).rd SEC_ATT_STAT_MAX_MS =
      ((s.signEnd rounds late).wr SEC_LAST_ROUNDS (min rounds 255)).rd SEC_ATT_STAT_MAX_MS :=
    (State.rd_wr_mk _ (by decide)).symm
  rw [State.showSigning, hmax]
  simp only [exec, execSigningDone, h]
  rfl

theorem exec_signingDone_of_no_sign {rounds late : Nat} (h : ∀ c body rest, s.sec.queue ≠ .sign c body :: rest) :
    exec (.signingDone rounds late) s = .next s := by
  refine congrArg Host.Outcome.next ?_
  split
  · rename_i heq
    exact absurd heq (h _ _ _)
  · rfl

/-! ### Descriptor frames (R437, R458) -/

/-- The state that takes a frame: an exit starts, and the frame takes its place in the order. -/
def State.takeFrame (s : State) : State := (s.startExit none).modHost fun h => { h with order := h.order + 1 }

/-- The command of a descriptor frame, with a tag. -/
def State.netCmd (s : State) (f : NetFrame) (tag : Nat) : Cmd :=
  { tag := tag, head := 0, hdr := (descAt (16 + NetPort.num f.port) f.bytes f.buf).1
    cmd := (descAt (16 + NetPort.num f.port) f.bytes f.buf).2, staged := false, order := s.host.order, refusal := none
    fetched := s.mod.tally, at_ := s.now, xid := f.xid, netSrc := f.src, netMinor := f.verMin.toNat
    netMajor := f.verMaj.toNat, got := 0 }

/-- The command joins those that wait. -/
def State.joinCmd (s : State) (c : Cmd) : State := s.modHost fun h => { h with cmds := h.cmds ++ [c] }

/-- A command of a version that the device does not have is refused. -/
def refusedVersion (c : Cmd) : Cmd :=
  { c with refusal := some (Result.of (match c.cmd with | .bad _ => 0x01 | _ => 0x02)), staged := true }

variable {f : NetFrame}

theorem exec_netDescriptor_off
    (h : s.rd SEC_NET_CFG_PORT_EN / 2 ^ NetPort.num f.port % 2 = 0 ∨ f.etype.toNat ≠ s.rd SEC_NET_CFG_ETYPE) :
    exec (.netDescriptor f) s = .next s := by
  refine congrArg Host.Outcome.next (if_pos ?_)
  rcases h with h | h <;> simp [bitAt, h]

section
variable (hon : s.rd SEC_NET_CFG_PORT_EN / 2 ^ NetPort.num f.port % 2 = 1) (het : f.etype.toNat = s.rd SEC_NET_CFG_ETYPE)
include hon het

theorem exec_netDescriptor_full (ht : s.takeFrame.freeTagIn (128 + 16 * NetPort.num f.port) 16 = none) :
    exec (.netDescriptor f) s = .next (s.takeFrame.complete (s.netCmd f 999) (Result.of 0x09)) := by
  have ht' : ((s.startExit none).modHost fun h => { h with order := h.order + 1 }).freeTagIn (128 + 16 * NetPort.num f.port) 16 = none := ht
  refine congrArg Host.Outcome.next ((if_neg (by simp [bitAt, hon, het])).trans ?_)
  simp only [ht']
  rfl

theorem exec_netDescriptor_tagged {tag : Nat} (ht : s.takeFrame.freeTagIn (128 + 16 * NetPort.num f.port) 16 = some tag) :
    exec (.netDescriptor f) s = .next
      (if (!netVersionOk f.verMaj f.verMin) = true then (s.takeFrame.joinCmd (s.netCmd f tag)).putCmd (refusedVersion (s.netCmd f tag))
        else if (readsBuffer (s.netCmd f tag).hdr (s.netCmd f tag).cmd && !noData (s.netCmd f tag).hdr) = true then
          s.takeFrame.joinCmd (s.netCmd f tag)
        else (s.takeFrame.joinCmd (s.netCmd f tag)).stageCmd (s.netCmd f tag) .none) := by
  have ht' : ((s.startExit none).modHost fun h => { h with order := h.order + 1 }).freeTagIn (128 + 16 * NetPort.num f.port) 16 = some tag := ht
  refine congrArg Host.Outcome.next ((if_neg (by simp [bitAt, hon, het])).trans ?_)
  simp only [ht']
  rfl

end

/-! ### Data fragments (R437) -/

theorem exec_netDataFragment_of_waiting {p : NetPort} {xid : Word} {off len : Nat} {last : Bool} {c : Cmd}
    (h : s.netWaiting p xid = some c) : exec (.netDataFragment p xid off len last) s = .next
      (if (decide (1472 < len) || decide (c.got < off)) = true then s
        else if max (bufferLen c.cmd) c.hdr.dataAddr.toNat ≤ max c.got (off + len) then
          s.stageCmd { c with got := max c.got (off + len) } .ok else s.putCmd { c with got := max c.got (off + len) }) := by
  simp only [exec, execNetDataFragment, h]

/-- Settles O51: the engine's signing, a frame and its data are split as the model does on the queue, the tag and the length. -/
theorem quotesAndNetworkTransactions : Obligations.QuotesAndNetworkTransactions := by
  refine ⟨fun rounds late s => exec_signingDone_of_no_sign, fun rounds late c body rest s hq => ?_,
    fun f s => exec_netDescriptor_off, fun f s hon het => ?_, fun p xid off len last s hn => ?_,
    fun p xid off len last c s hw => ⟨fun hbad => ?_, fun hlen hoff => ⟨_, rfl, ?_⟩, ?_⟩⟩
  · refine ⟨signMillis rounds, s.engineNext (400 * signMicros rounds), _, s.signEnd rounds late,
      (s.signEnd rounds late).showSigning rounds, rfl, rfl, rfl, rfl, rfl, fun hr => ?_, fun hr => ?_⟩
    · rw [exec_signingDone_of_sign hq, if_pos hr]
    · rw [exec_signingDone_of_sign hq, if_neg (Nat.not_lt.mpr hr)]
  · refine ⟨s.takeFrame, s.netCmd f ((s.takeFrame.freeTagIn (128 + 16 * NetPort.num f.port) 16).getD 999), rfl, rfl,
      fun hfull => ?_, fun tag htag => ?_⟩
    · rw [hfull]
      exact ⟨rfl, exec_netDescriptor_full hon het hfull⟩
    · rw [htag]
      have hx := exec_netDescriptor_tagged hon het htag
      refine ⟨rfl, _, rfl, fun hv => hx.trans (congrArg _ (if_pos (by simp [hv]))), fun hv hr hd => ?_, fun hv hr => ?_⟩
      · rw [hx, if_neg (by simp [hv])]
        exact congrArg _ (if_pos (by simpa using And.intro hr hd))
      · rw [hx, if_neg (by simp [hv])]
        refine congrArg _ (if_neg ?_)
        rcases hr with hr | hr
        · have hr' : readsBuffer (s.netCmd f tag).hdr (s.netCmd f tag).cmd = false := hr
          simp [hr']
        · have hr' : noData (s.netCmd f tag).hdr = true := hr
          simp [hr']
  · exact ⟨by simp only [exec, execNetDataFragment, hn], by simp only [exec, execNetDataTimeout, hn]⟩
  · rw [exec_netDataFragment_of_waiting hw, if_pos (by simpa using hbad)]
  · rw [exec_netDataFragment_of_waiting hw, if_neg (by simpa using And.intro hlen hoff)]
  · simp only [exec, execNetDataTimeout, hw]

end

end Sys2Proof.Machine
end

section
/-! PROOFS. Supply events stop the module: obligation O52. -/
namespace Sys2Proof.Machine

section
variable {s : State}

/-! ### The power-loss shutdown (R445) -/

theorem State.journalAdd_crustTally (s : State) (source code flags : Nat) (data : List Byte) :
    (s.journalAdd source code flags data).journal.crust.tally = s.journal.crust.tally := by
  unfold State.journalAdd
  dsimp only
  split <;> simp

theorem State.journalAdd_crustFlags (s : State) (source code flags : Nat) (data : List Byte) :
    (s.journalAdd source code flags data).journal.crust.flags = s.journal.crust.flags := by
  unfold State.journalAdd
  dsimp only
  split <;> simp

/-- What the start of a shutdown leaves behind, before its record. -/
theorem State.startShutdown_shows (s : State) (cause : Nat) : (s.startShutdown cause).power.shutdown = some s.now ∧
    (s.startShutdown cause).power.shutCause = cause ∧ (s.startShutdown cause).mod.recorded = s.mod.tally ∧
    (s.startShutdown cause).mod.tally = s.mod.tally ∧ (s.startShutdown cause).journal.crust.tally = s.mod.tally ∧
    (s.startShutdown cause).journal.crust.flags = s.journal.crust.flags ||| 1 := by
  simp [State.startShutdown, State.journalAdd_crustTally, State.journalAdd_crustFlags]

theorem exec_journalCommit_of_shutdown {t0 : Nat} (h : s.power.shutdown = some t0) : exec .journalCommit s = .next
    ((((s.passTo (t0 + 160000)).commitJournal.modJournal fun j =>
      { j with crust := { j.crust with flags := j.crust.flags ||| 2 } }).passTo (t0 + 164000)).endShutdown) := by
  refine congrArg Host.Outcome.next ((if_pos (by rw [h]; rfl)).trans ?_)
  rw [State.finishShutdown, h]

theorem exec_pgoodFall_of_high (h : s.power.pgood = true) : exec .pgoodFall s = .next
    (if (s.power.inReset || s.power.shelved || s.power.shutdown.isSome) = true then
      ({ s with power := { s.power with pgood := false } } : State)
      else ({ s with power := { s.power with pgood := false } } : State).startShutdown 0) :=
  congrArg Host.Outcome.next (if_neg (by simp [h]))

/-- VHOLD below 5.0 V, with the main supplies present. -/
def State.lowHold (s : State) : State :=
  ({ s with free := s.free + 1 }.wr PWR_VHOLD_VHOLD (s.fresh.1.toNat % 500)).wr PWR_VHOLD_HOLD_OK 0

theorem exec_vholdLow_of_none (h : s.power.shutdown = none) : exec .vholdLow s = .next s.lowHold :=
  congrArg Host.Outcome.next (if_neg (by simp [h]))

theorem State.lowHold_shows (s : State) : s.lowHold.rd PWR_VHOLD_HOLD_OK = 0 ∧ s.lowHold.rd PWR_VHOLD_VHOLD < 500 ∧
    Claims.regsBut s.regs s.lowHold.regs [PWR_VHOLD] := by
  have hlt : s.fresh.1.toNat % 500 < 500 := Nat.mod_lt _ (by decide)
  refine ⟨State.rd_wr_of_fits _ (by decide) (by decide) (by decide), ?_, fun off hoff => ?_⟩
  · rw [State.lowHold, State.rd_wr_other _ (by decide) (by decide) (by decide) (by decide),
      State.rd_wr_of_fits _ (by decide) (by decide) (Nat.lt_trans hlt (by decide))]
    exact hlt
  · have hne : off ≠ PWR_VHOLD := fun h => hoff (List.mem_singleton.mpr h)
    exact (RegFile.get_set_ne _ _ hne).trans (RegFile.get_set_ne _ _ hne)

/-! ### Brown-out (R446 to R449) -/

/-- VDD33 has fallen below the warning level: the dip is counted and shown. -/
def State.dip (s : State) (mv : Nat) : State :=
  ((((s.modPower fun p => { p with warnSince := some s.now, dips := p.dips + 1, lowest := min p.lowest mv }).wr
    PWR_BOD_WARN_LIVE 1).wr PWR_BOD_SEEN 1).bump PWR_BOD_WARN_CNT).levelOn 63 0

/-- The record of a dip, with the dips since the last one. -/
def State.dipRecord (u : State) : State :=
  (u.cause 0x40 3 .module 0 none true).journalAdd 0x08 0x0006 0
    (leBytes 4 (min 0xFFFFFFFF u.power.dips) ++ leBytes 2 (min 0xFFFF u.power.lowest))

theorem State.dip_keeps (s : State) (mv : Nat) : (s.dip mv).now = s.now ∧ (s.dip mv).power.warnRecAt = s.power.warnRecAt := by
  simp [State.dip, State.bump]

/-- A record of a dip has been written less than 100 ms ago. -/
def State.dipRecent (s : State) : Bool := s.power.warnRecAt.any fun t => s.now ≤ t + 40000000

theorem exec_bodWarn_first {mv : Nat} (hr : s.power.inReset = false) (hw : s.power.warnSince = none) :
    exec (.bodWarn mv) s = .next (if s.dipRecent = true then ((s.dip mv).raise 21 (0x40 + 256 * 3)).commitJournal
      else ((s.dip mv).dipRecord.modPower fun p =>
        { p with warnRecAt := some (s.dip mv).dipRecord.now, dips := 0, lowest := 3300 }).commitJournal) := by
  obtain ⟨hnow, hrec⟩ := s.dip_keeps mv
  have hrecent : (s.dip mv).dipRecent = s.dipRecent := by rw [State.dipRecent, State.dipRecent, hnow, hrec]
  rw [← hrecent]
  exact congrArg Host.Outcome.next ((if_neg (by simp [hr])).trans (if_neg (by simp [hw])))

theorem exec_bod_of_warned {t : Nat} (hw : s.power.warnSince = some t) : exec .bod s = .next
    (if (s.power.inReset || s.causeActive 0x10 0) = true then s else (s.passTo (t + 400000)).cause 0x10 1 .module 0 none true) := by
  simp only [exec, execBod, hw]

theorem exec_bod_of_none (hw : s.power.warnSince = none) : exec .bod s = .next s := by
  simp only [exec, execBod, hw]

theorem exec_bor : exec .bor s = .next
    (if s.power.shutdown.isSome = true then ({ s with power := { s.power with heldReset := some 2 } } : State)
      else if (s.power.inReset || s.power.shelved) = true then ({ s with power := { s.power with bor := true } } : State)
      else (if s.causeActive 0x10 0 = true then s else s.cause 0x10 1 .module 0 none true).startShutdown 1) := rfl

theorem isSome_of_ne_none {α : Type} {x : Option α} (h : x ≠ none) : x.isSome = true := Option.isSome_iff_ne_none.mpr h

/-- Settles O52: each supply event is split on the supplies' state; the shutdown's start shows what it writes. -/
theorem supplyEventsStopTheModule : Obligations.SupplyEventsStopTheModule := by
  refine ⟨fun s hp => ⟨_, rfl, fun h => ?_, fun hr hs hd => ?_⟩, fun s hp => congrArg Host.Outcome.next (if_pos (by simp [hp])),
    fun cause s => ?_, fun t0 s h => ⟨_, _, rfl, rfl, exec_journalCommit_of_shutdown h⟩,
    fun s h => congrArg Host.Outcome.next (if_pos (isSome_of_ne_none h)), fun s h => ?_,
    fun mv s hr => congrArg Host.Outcome.next (if_pos hr),
    fun mv s hr hw => congrArg Host.Outcome.next ((if_neg (by simp [hr])).trans (if_pos (isSome_of_ne_none hw))),
    fun mv s hr hw => ⟨s.dip mv, rfl, fun ⟨t, ht, hn⟩ => ?_, fun ht => ⟨(s.dip mv).dipRecord, rfl, ?_⟩⟩, fun t s hw hr hc => ?_,
    fun s h => ?_, fun s => rfl, fun s => ⟨fun h => ?_, fun h hr => ?_, fun h hr hs => ?_⟩, fun s => rfl⟩
  · rw [exec_pgoodFall_of_high hp, if_pos]
    rcases h with h | h | h
    · simp [h]
    · simp [h]
    · simp [isSome_of_ne_none h]
  · rw [exec_pgoodFall_of_high hp, if_neg (by simp [hr, hs, hd])]
  · obtain ⟨hshut, hcause, hrec, htally, hcrust, hflags⟩ := s.startShutdown_shows cause
    exact ⟨_, rfl, hshut, hcause, hrec, htally, hcrust, by rw [hflags]; simp⟩
  · obtain ⟨hok, hlow, hbut⟩ := s.lowHold_shows
    exact ⟨_, exec_vholdLow_of_none h, hok, hlow, hbut, State.eq_of_parts (by simp [State.lowHold])⟩
  · rw [exec_bodWarn_first hr hw, if_pos (by simp [State.dipRecent, ht, hn])]
  · rw [exec_bodWarn_first hr hw, if_neg]
    cases hrec : s.power.warnRecAt with
    | none => simp [State.dipRecent, hrec]
    | some t => simp [State.dipRecent, hrec, ht t hrec]
  · rw [exec_bod_of_warned hw, if_neg (by simp [hr, hc])]
  · cases hw : s.power.warnSince with
    | none => exact exec_bod_of_none hw
    | some t =>
      rw [exec_bod_of_warned hw, if_pos]
      simpa [hw] using h
  · rw [exec_bor, if_pos (isSome_of_ne_none h)]
  · rw [exec_bor, if_neg (by simp [h]), if_pos (by simpa using hr)]
  · rw [exec_bor, if_neg (by simp [h]), if_neg (by simp [hr, hs])]

end

end Sys2Proof.Machine
end
